-- ==== Sys2Proof/Word.lean ====
section
/-! DEFINITION. The word types of the 6160 model and their plainest arithmetic (notation: 00_scope.md R5). -/
namespace Sys2Proof

/-- One byte of a frame, a memory or a key. -/
abbrev Byte := BitVec 8

/-- One 32-bit register word of the owner view or of a function page (R30). -/
abbrev Word := BitVec 32

/-- One 64-bit Iluken register value. -/
abbrev DWord := BitVec 64

/-- Bits `[hi:lo]` of a number, as the manual writes a bit range (R5). -/
def bits (n hi lo : Nat) : Nat := (n >>> lo) % 2 ^ (hi + 1 - lo)

/-- `n` with bits `[hi:lo]` replaced by `v`. -/
def putBits (n hi lo v : Nat) : Nat :=
  n - (bits n hi lo) * 2 ^ lo + (v % 2 ^ (hi + 1 - lo)) * 2 ^ lo

/-- Bit `i` of a number. -/
def bit (n i : Nat) : Bool := n.testBit i

/-- A flag as the number a one-bit field reads. -/
def b2n (b : Bool) : Nat := if b then 1 else 0

/-- A number as a two's-complement integer of width `w`. -/
def signed (w n : Nat) : Int :=
  if 2 ^ (w - 1) ≤ n % 2 ^ w then ((n % 2 ^ w : Nat) : Int) - (2 ^ w : Nat) else ((n % 2 ^ w : Nat) : Int)

/-- Saturating addition at `top`, the rule of every counter (R43). -/
def satAdd (top a b : Nat) : Nat := min top (a + b)

end Sys2Proof
end

