-- ==== Sys2Proof/Machine/Bits.lean ====
section
/-! DEFINITION. Bit packing, byte strings, and the public check codes and hash the manual names: CRC-32C, CRC-8,
CRC-32 of Ethernet, and SHA-256 (FIPS 180-4). -/
namespace Sys2Proof.Machine

/-- Fields packed most significant first: (width, value) pairs. -/
def pk (fs : List (Nat × Nat)) : Nat := fs.foldl (fun acc f => acc * 2 ^ f.1 + f.2 % 2 ^ f.1) 0

/-- `n` bytes of a number, most significant first. -/
def bytesBE (n v : Nat) : List Byte := (List.range n).map (fun i => BitVec.ofNat 8 (v / 256 ^ (n - 1 - i)))

/-- `n` bytes of a number, least significant first. -/
def bytesLE (n v : Nat) : List Byte := (List.range n).map (fun i => BitVec.ofNat 8 (v / 256 ^ i))

/-- The number a byte string spells, most significant first. -/
def natBE (bs : List Byte) : Nat := bs.foldl (fun acc b => acc * 256 + b.toNat) 0

/-- The number a byte string spells, least significant first. -/
def natLE (bs : List Byte) : Nat := bs.foldr (fun b acc => b.toNat + acc * 256) 0

/-- `n` bytes from offset `o`, zero past the end. -/
def slice (bs : List Byte) (o n : Nat) : List Byte := (List.range n).map (fun i => bs.getD (o + i) 0)

/-- A big-endian number of `n` bytes at offset `o`. -/
def beAt (bs : List Byte) (o n : Nat) : Nat := natBE (slice bs o n)

/-- A little-endian number of `n` bytes at offset `o`. -/
def leAt (bs : List Byte) (o n : Nat) : Nat := natLE (slice bs o n)

/-- A byte string with `new` written from offset `o`; bytes past the end are dropped. -/
def patch (bs : List Byte) (o : Nat) (new : List Byte) : List Byte :=
  (List.range bs.length).map (fun i => if o ≤ i ∧ i < o + new.length then new.getD (i - o) 0 else bs.getD i 0)

/-- One bit step of a reflected CRC of width `w`. -/
def crcReflStep (w : Nat) (poly c : BitVec w) : BitVec w :=
  if c.getLsbD 0 then (c >>> 1) ^^^ poly else c >>> 1

/-- Eight steps. -/
def crcReflByte (w : Nat) (poly c : BitVec w) (b : Byte) : BitVec w :=
  (List.range 8).foldl (fun c _ => crcReflStep w poly c) (c ^^^ b.setWidth w)

/-- CRC-32C register after a byte string, polynomial 0x1EDC_6F41 reflected (R101, R177). -/
def crc32cReg (init : BitVec 32) (bs : List Byte) : BitVec 32 :=
  bs.foldl (crcReflByte 32 0x82F63B78#32) init

/-- CRC-32C with initial value 0xFFFF_FFFF and final complement (R101). -/
def crc32c (bs : List Byte) : BitVec 32 := ~~~ (crc32cReg 0xFFFFFFFF#32 bs)

/-- CRC-32 of IEEE 802.3, reflected polynomial 0xEDB8_8320. -/
def crc32 (bs : List Byte) : BitVec 32 := ~~~ (bs.foldl (crcReflByte 32 0xEDB88320#32) 0xFFFFFFFF#32)

/-- CRC-8, polynomial 0x07, initial value 0, most significant bit first (R103). -/
def crc8 (bs : List Byte) : BitVec 8 :=
  bs.foldl (fun c b => (List.range 8).foldl
    (fun c _ => if c.getLsbD 7 then (c <<< 1) ^^^ 0x07#8 else c <<< 1) (c ^^^ b)) 0#8

/-- The ones' complement sum of 16-bit words, the Internet checksum before its final complement. -/
def ocSum (ws : List Nat) : Nat := ws.foldl (fun a w => let t := a + w; t % 65536 + t / 65536) 0

/-- The 16-bit words of a byte string, padded with a zero byte. -/
def words16 : List Byte → List Nat
  | [] => []
  | [a] => [a.toNat * 256]
  | a :: b :: r => (a.toNat * 256 + b.toNat) :: words16 r

/-- The Internet checksum of a byte string. -/
def inetCsum (bs : List Byte) : Nat := 65535 - ocSum (words16 bs)

/-- A checksum field after 16-bit words change from `old` to `new` (RFC 1624, eqn. 3). -/
def csumAdj (hc : Nat) (old new : List Nat) : Nat :=
  65535 - ocSum ((65535 - hc) :: old.map (65535 - ·) ++ new)

/-! ### SHA-256 (FIPS 180-4) -/

/-- n words of 32 bits from a number, the first most significant. -/
def wordsBE (n v : Nat) : List (BitVec 32) := (List.range n).map (fun i => BitVec.ofNat 32 (v / 2 ^ (32 * (n - 1 - i))))

/-- The 64 round constants in one number: the first 32 fraction bits of the cube roots of the first 64 primes. -/
def roundConsts : Nat :=
  0x428a2f9871374491b5c0fbcfe9b5dba53956c25b59f111f1923f82a4ab1c5ed5d807aa9812835b01243185be550c7dc372be5d7480deb1fe9bdc06a7c19bf174e49b69c1efbe47860fc19dc6240ca1cc2de92c6f4a7484aa5cb0a9dc76f988da983e5152a831c66db00327c8bf597fc7c6e00bf3d5a7914706ca63511429296727b70a852e1b21384d2c6dfc53380d13650a7354766a0abb81c2c92e92722c85a2bfe8a1a81a664bc24b8b70c76c51a3d192e819d6990624f40e3585106aa07019a4c1161e376c082748774c34b0bcb5391c0cb34ed8aa4a5b9cca4f682e6ff3748f82ee78a5636f84c878148cc7020890befffaa4506cebbef9a3f7c67178f2
/-- The initial hash value in one number: likewise of the square roots of the first eight primes. -/
def hashStart : Nat := 0x6a09e667bb67ae853c6ef372a54ff53a510e527f9b05688c1f83d9ab5be0cd19

/-- Three rotations, or two and a shift where the last is taken as one, combined. -/
def rot3 (x : BitVec 32) (i j k : Nat) (shift : Bool) : BitVec 32 :=
  (x.rotateRight i ^^^ x.rotateRight j) ^^^ (if shift then x >>> k else x.rotateRight k)

/-- The message schedule grown by n words, the latest first: each comes from the words 2, 7, 15 and 16 places before it. -/
def schedule : Nat → List (BitVec 32) → List (BitVec 32)
  | 0, ws => ws
  | n + 1, ws =>
    let back := fun i => ws.getD (i - 1) 0
    schedule n ((rot3 (back 2) 17 19 10 true + back 7 + rot3 (back 15) 7 18 3 true + back 16) :: ws)

/-- One round on the working words, w the sum of its constant and its schedule word. -/
def hashRound (v : List (BitVec 32)) (w : BitVec 32) : List (BitVec 32) :=
  let x := fun i => v.getD i 0
  let add := rot3 (x 4) 6 11 25 false + ((x 4 &&& x 5) ||| (~~~ (x 4) &&& x 6)) + x 7 + w
  let top := rot3 (x 0) 2 13 22 false + ((x 0 &&& x 1) ||| (x 2 &&& (x 0 ||| x 1)))
  [add + top, x 0, x 1, x 2, x 3 + add, x 4, x 5, x 6]

/-- The hash value after one block of 64 bytes. -/
def hashBlock (v : List (BitVec 32)) (blk : List Byte) : List (BitVec 32) :=
  let ws := (schedule 48 (wordsBE 16 (beAt blk 0 64)).reverse).reverse
  let r := (List.zipWith (· + ·) (wordsBE 64 roundConsts) ws).foldl hashRound v
  List.zipWith (· + ·) v r

/-- SHA-256 as a 256-bit number, byte 0 of the output most significant: the message with its 1 bit, zeros and 64-bit length, block by
block. -/
def sha256 (m : List Byte) : Nat :=
  let len := (m.length + 72) / 64
  let p := m ++ 0x80 :: (List.replicate (64 * len - m.length - 9) 0 ++ bytesBE 8 (8 * m.length))
  let v := (List.range len).foldl (fun v i => hashBlock v (slice p (64 * i) 64)) (wordsBE 8 hashStart)
  v.foldl (fun a x => a * 2 ^ 32 + x.toNat) 0

/-- The 32 bytes of SHA-256. -/
def sha256B (m : List Byte) : List Byte := bytesBE 32 (sha256 m)

end Sys2Proof.Machine
end

