-- ==== Sys2Proof/Machine/Types.lean ====
section
/-! DEFINITION. The kinds of operand that commands carry and that State holds: requesters, instances, instants. -/
namespace Sys2Proof.Machine

/-- Who makes a register access (R27, R31, R42, R445). `page f` is the function page of function f, numbered as
in HIF: 0–255 tenant functions, 256–259 management functions of the non-owner host ports. -/
inductive Req where
  | mgc
  | owner
  | jtag
  | page (f : Fin 260)
  deriving DecidableEq, Repr

/-- A number for a requester, the key of its latches (R42). -/
def reqKey : Req → Nat
  | .mgc => 260
  | .owner => 261
  | .jtag => 262
  | .page f => f.val

/-- What a register read asks for: a word of the requester's view and the bytes of it (R30). -/
structure RegRef where
  a : BitVec 26
  be : BitVec 4 := 15
  deriving DecidableEq, Repr

/-- A memory request to a BAR: byte enables of one word or two, and a write's data (R30, R351). -/
structure BarReq where
  be : BitVec 8 := 255
  data : Option (BitVec 64) := none
  deriving DecidableEq, Repr

/-- Straps sampled at power-on (R28, R348, Table 19-1). -/
structure Straps where
  bootMode : BitVec 2 := 0
  ownerHp : BitVec 2 := 0
  bifurc : BitVec 2 := 0
  uartFast : Bool := false
  deriving DecidableEq, Repr

/-- TS96 as one number of units of 2^-16 ns since second 0 (R49): seconds × 10^9 × 2^16 + nanoseconds × 2^16 +
fraction. -/
abbrev Instant := Nat

/-- Units of 2^-16 ns in one nanosecond. -/
def uNs : Nat := 65536
/-- Units in one microsecond and one millisecond. -/
def uUs : Nat := 1000 * uNs
def uMs : Nat := 1000000 * uNs
/-- Units in one second. -/
def uS : Nat := 1000000000 * uNs
/-- TS96 wraps after 2^48 seconds (SEC has 48 bits). -/
def uWrap : Nat := 281474976710656 * uS

/-- The seconds, nanoseconds and fraction of an instant. -/
def secOf (t : Instant) : Nat := t / uS % 281474976710656
def nsOf (t : Instant) : Nat := t % uS / uNs
def fracOf (t : Instant) : Nat := t % uNs

/-- The 96-bit number [95:48] seconds, [47:16] nanoseconds, [15:0] fraction. -/
def ts96 (t : Instant) : Nat := secOf t * 2 ^ 48 + nsOf t * 2 ^ 16 + fracOf t

/-- Word n of a TS96, W0 holding bits [95:64]. -/
def tsWord (t : Instant) (n : Nat) : Nat := bits (ts96 t) (95 - 32 * n) (64 - 32 * n)

/-- The instant a 96-bit TS96 names. -/
def ofTs96 (n : Nat) : Instant := bits n 95 48 * uS + bits n 47 16 * uNs + bits n 15 0

/-- A table slot, or a trie slot by its level and the address bits that lead to it, whose parity goes bad (R193). -/
inductive Upset where
  | slot (mem : Fin 24) (i : BitVec 19)
  | trie (pipe root : Fin 4) (level : Fin 15) (path : BitVec 128)
  deriving DecidableEq, Repr

/-- Who requests memory (Tables 16-3 and 16-4): a thread and the cipher core working for a cluster's thread, the
engine loader, replay checkpoints, the HIF for tenant windows, MGC firmware, deep lookups, the session-context cache, the
scheduler's deep buffer and its transmit refill, the proofing refill, the spill ring's write and readback, the Tail drain
and the crumb rings. -/
inductive MReq where
  | thread (t : Fin 1536)
  | cipher (c : Fin 12)
  | loader (c : Fin 12)
  | ckpt | hif | mgc | fwd | ctx | sch | refill | prf | ringWr | ringRd | drain | crumb
  deriving DecidableEq, Repr

/-- What MCI finds on a read (R336). -/
inductive Ecc where
  | clean | corrected | uncorrectable | tagFail
  deriving DecidableEq, Repr

/-- What the checks of a cipher message's GDDR6 source and AAD find. -/
structure BufEcc where
  src : Ecc
  aad : Ecc
  deriving DecidableEq, Repr

/-- The end of auto-negotiation and link training on a port: the abilities the partner advertises, each a quad mode and an FEC of
MAC_PORT_CFG (R111). -/
structure Nego where
  port : Fin 16
  partner : List (BitVec 4 × BitVec 2) := []
  deriving DecidableEq, Repr

/-- What lies outside the block and bears on a register write: what a read of the boot copy finds (R410), whether a reception is in
progress on a port (R113), the crumbs that a host holds for a replay (R302). -/
structure WEnv where
  e : Ecc := .clean
  cut : Bool := false
  host : List (BitVec 256) := []
  deriving DecidableEq, Repr

/-- A service session as an OPEN asks for it (R279–R292): KIND of Table 13-1; whether a refused option is asked for; queues,
key handles and the handle of the TCP context underneath; the frame header up to the transport header that its frames carry, with the
offset of the IP header, and ports or SPI; RTO minimum and keepalive interval in ms, keepalive probes before the connection ends, MSS,
whether window scale, SACK, timestamps, ECN and Nagle are asked for (Table 13-4); RECORD_MAX; anti-replay window, ESN, transport mode
and its protocol, and the soft and hard lifetimes in bytes and packets, 0 for none; HDGST, DDGST and the queue depth. -/
structure OpenReq where
  kind : Nat
  refused : Bool := false
  rxq : Nat
  txq : Nat
  keyRx : Option Nat := none
  keyTx : Option Nat := none
  link : Option Nat := none
  hdr : List Byte := []
  ip : Nat := 14
  lport : Nat := 0
  rport : Nat := 0
  spi : Nat := 0
  rtoMs : Nat := 5
  keepMs : Nat := 0
  keepN : Nat := 8
  mss : Nat := 536
  wscale : Bool := false
  sack : Bool := false
  tstamp : Bool := false
  ecn : Bool := false
  nagle : Bool := false
  recMax : Nat := 16384
  window : Nat := 64
  esn : Bool := false
  transport : Bool := false
  proto : Nat := 0
  softBytes : Nat := 0
  hardBytes : Nat := 0
  softPkts : Nat := 0
  hardPkts : Nat := 0
  hdgst : Bool := false
  ddgst : Bool := false
  depth : Nat := 1
  deriving DecidableEq, Repr

/-- What a MODIFY changes (R288, R289, R292): key handles, a standby transmit key, a registered buffer of a command identifier
(address, length). -/
structure ModReq where
  keyRx : Option Nat := none
  keyTx : Option Nat := none
  standby : Option Nat := none
  buf : Option (Nat × Nat × Nat) := none
  deriving DecidableEq, Repr

/-- A policy of the slow path (R284). -/
inductive SpPolicy where
  | discard | mgc | reassemble | icmp | custom
  deriving DecidableEq, Repr

/-- What the owner sets of the services through MGC firmware (R281, R284, R285): the policy of a slow reason, whether customer
firmware is registered for one, SP_ICMP_PPS, SP_REASM_MS, the cluster mask of a service by KIND. -/
inductive SpSet where
  | policy (reason : BitVec 8) (p : SpPolicy)
  | handler (reason : BitVec 8) (on : Bool)
  | icmpPps (n : Nat)
  | reasmMs (n : Nat)
  | mask (kind : Fin 6) (m : BitVec 12)
  deriving DecidableEq, Repr

/-- A slow-path command: the input queue whose head frame is handled, and what the owner has set before it. -/
structure SlowReq where
  q : Fin 16
  set : List SpSet := []
  deriving DecidableEq, Repr

/-- A configuration request to a function (R351, R353, R354, R364–R366, R370): reads of what the spec says a register reports, and
writes of the fields the device acts on. -/
inductive CfgOp where
  | ids | class_ | subsystem | msixSize | vfTotals | vfOffsets | vfDevice | vfControl
  | bar (n : Fin 6)
  | vfBar (n : Fin 6)
  | setBme (on : Bool)
  | setMsix (enable mask : Bool)
  | setDevice (mps mrrs : BitVec 3) (relaxed : Bool)
  | setDevice2 (cto : BitVec 4) (tag10 : Bool)
  | setPtm (on : Bool)
  | setVf (on ari : Bool) (num : BitVec 16)
  | setBar (n : Fin 6) (v : BitVec 32)
  | setVfBar (n : Fin 6) (v : BitVec 32)
  | flr
  deriving DecidableEq, Repr

end Sys2Proof.Machine
end

