-- ==== Sys2Proof/Syntax.lean ====
section
/-! DEFINITION. The commands of the 6160: one constructor per row of spec/opcode_table.json, with its operands. -/
namespace Sys2Proof
open Sys2Proof.Machine

/-- The commands. -/
inductive Instr where
  /-- REGISTER_WRITE (R472): A write to a register that has no row of its own; it takes effect under its field class, or it is discarded whole when its byte enables are partial, its encoding is reserved, its value is out of range or its class forbids it. -/
  | registerWrite (q : Req) (a : BitVec 26) (be : BitVec 4) (v : Word) (x : WEnv)
  /-- COUNTER_LOW_READ (R42): A read of a 64-bit counter's low word latches the high word for that requester; for MAC statistics it also clears the counter. -/
  | counterLowRead (q : Req) (a : RegRef)
  /-- READ_CLEAR (R34): A read of an RC field returns its value and clears it, keeping any same-cycle hardware event. -/
  | readClear (q : Req) (a : RegRef)
  /-- COMMIT (R37): A write of CTRL.COMMIT sets COMMIT_BUSY, or copies the staged shadows at once when the block is idle or QUIESCED. -/
  | commit (b : Fin 58)
  /-- COMMIT_APPLY (R37): At the block's next unit boundary the staged shadows become active in one step and COMMIT_BUSY clears. -/
  | commitApply (b : Fin 58)
  /-- QUIESCE (R40): A write of CTRL.QUIESCE moves the block from RUN to QUIESCING, and the block admits no new unit. -/
  | quiesce (b : Fin 58)
  /-- QUIESCE_DONE (R40): When no unit remains, a QUIESCING block becomes QUIESCED with its outputs idle. -/
  | quiesceDone (b : Fin 58)
  /-- QUIESCE_TIMEOUT (R41): The quiesce limit expires while the block is still QUIESCING, and QUIESCE_TIMEOUT is raised. -/
  | quiesceTimeout (b : Fin 58)
  /-- RESUME (R40): A write of CTRL.RESUME in QUIESCED returns the block to RUN with its Q fields taking effect together. -/
  | resume (b : Fin 58)
  /-- BLOCK_RESET (R44): A write of CTRL.BLOCK_RESET resets the block's registers and datapath, discarding and counting its units, and leaves it QUIESCED. -/
  | blockReset (b : Fin 58)
  /-- POWER_ON (R44): A supply ramp, or PORST# rising, resets everything, samples the straps and starts the boot. -/
  | powerOn (straps : Straps)
  /-- DEVICE_RESET (R44): A device reset, whether from GEN_DEVRST, watchdog escalation or debug unlock, resets all but the always-on island and RWS fields, drops every host link and reboots. -/
  | deviceReset
  /-- TIME_SET (R58): A write of TIM_ADJ_CTRL.SET requests an absolute set of the time base from TIM_SETV. -/
  | timeSet (both atPps clrFail : Bool)
  /-- TIME_STEP (R58): A write of TIM_ADJ_CTRL.STEP requests a signed step of the time base from TIM_STEP. -/
  | timeStep (both atPps clrFail : Bool)
  /-- SET_STEP_APPLY (R59): At the next tick, or at the active 1PPS edge, a pending set or step reaches every consumer on one cycle and raises TIME_STEP. -/
  | setStepApply
  /-- ADJ_PPS_TIMEOUT (R58): No 1PPS edge arrives within 1.5 s for an AT_PPS request, so the request is cancelled, FAIL is set and TIME_ADJ_FAIL is raised. -/
  | adjPpsTimeout
  /-- SECOND_BOUNDARY_EVAL (R61): At each TAI second boundary TIM evaluates Table 03-4 and makes at most one time-quality transition. -/
  | secondBoundaryEval
  /-- SRC_CHANGE (R54): At the next tick a new TIM_SRC.SRC takes effect, keeping LOCKED only when the new source is qualified. -/
  | srcChange
  /-- PPS_IN_EDGE (R474): An edge on a PPS_IN input is captured and is accepted or ignored; an accepted edge on the active input drives the PLL. -/
  | ppsInEdge (n : Fin 2) (falling : Bool)
  /-- PPS_INPUT_LOST (R474): Two consecutive expected instants pass without an accepted edge, so the input is lost and TIME_SRC_LOST is raised. -/
  | ppsInputLost (n : Fin 2)
  /-- TEN_MHZ_LOST (R54): Loss of the 10 MHz input makes frequency come from the 1PPS, clears TEN_MHZ_OK and raises TIME_SRC_LOST. -/
  | tenMhzLost
  /-- SERVO_WRITE (R61): A write of TIM_SERVO reports the servo's source state and offset, and restarts SERVO_TIMEOUT. -/
  | servoWrite (v : Word)
  /-- SERVO_TIMEOUT (R63): No TIM_SERVO write arrives for SERVO_TIMEOUT seconds, so the PTP source counts as lost. -/
  | servoTimeout
  /-- LEAP_APPLY (R64): When SEC first reaches LEAP_AT, OFFSET is adjusted, the leap flag clears and LEAP_APPLIED is raised. -/
  | leapApply
  /-- PPS_OUT_RISE (R65): At each TAI second plus the phase, a PPS_OUT rises unless QUAL_GATE suppresses the pulse. -/
  | ppsOutRise (n : Fin 2)
  /-- PPS_OUT_FALL (R65): WIDTH_US after a rise, the PPS_OUT pulse ends. -/
  | ppsOutFall (n : Fin 2)
  /-- TIM_BLOCK_RESET (R473): A TIM block reset resets the command and report registers and cancels pending adjustments, while the time base runs on. -/
  | timBlockReset
  /-- TIME_NOW_READ (R53): A read of TIM_NOW_W2 samples the time base and latches W0 and W1 for the reading requester. -/
  | timeNowRead (q : Req)
  /-- TSU_CAL_START (R67): A write of TSU_CAL.START while the link is UP starts lane calibration, and captures then carry CAL 0. -/
  | tsuCalStart (p : Fin 16)
  /-- TSU_CAL_DONE (R67): Lane calibration ends by setting CALIBRATED, or by setting FAIL and raising TSU_CAL_FAIL. -/
  | tsuCalDone (p : Fin 16) (good : Bool) (deskew : Word)
  /-- TXTS_POP (R72): A read of TSU_TXTS_TAG pops the head TXTS entry and latches its TS96. -/
  | txtsPop (q : Req) (p : Fin 16)
  /-- PTM_DIALOGUE_START (R74): Every PERIOD_MS the host port's PTM requester starts a dialogue. -/
  | ptmDialogueStart (h : Fin 4)
  /-- PTM_RESPONSE (R74): A PTM response completes a dialogue and publishes a new correlation set. -/
  | ptmResponse (h : Fin 4) (hostNs : BitVec 64) (linkPs : Word)
  /-- PTM_TIMEOUT (R74): No PTM response arrives within 100 µs; the third consecutive failure clears VALID and raises PTM_FAIL. -/
  | ptmTimeout (h : Fin 4)
  /-- PTM_STAT_READ (R74): A read of TIM_PTM_STAT latches DEV, HOST and LINK for the reader. -/
  | ptmStatRead (q : Req) (h : Fin 4)
  /-- LINK_NS_EXPIRE (R87): LINK_NS after its first unit, the open link closes. -/
  | linkNsExpire
  /-- CP_INTERVAL_EXPIRE (R93): When INTERVAL_MS has passed and no checkpoint awaits signing, the Tail takes an interval checkpoint. -/
  | cpIntervalExpire
  /-- CP_MAX_EXPIRE (R93): When MAX_MS has passed since the last checkpoint, one is taken regardless and TAIL_CP_MAX is raised. -/
  | cpMaxExpire
  /-- CP_REQ (R93): A write of TAIL_CP_CTRL.REQ takes a checkpoint at once. -/
  | cpReq
  /-- CP_DEFERRED_TAKE (R90): A checkpoint that waited for hold room or a signing slot is taken once the room returns. -/
  | cpDeferredTake
  /-- TQ_STORE_FLUSH (R90): The stored TQ unit is chained as soon as the hold has room for it. -/
  | tqStoreFlush
  /-- CP_SIGN (R94): A write of TAIL_CP_CTRL.SIGN starts the signing of the oldest unsigned slot. -/
  | cpSign
  /-- CP_SIGN_DONE (R94): The signing ends and the checkpoint pair enters the output path. -/
  | cpSignDone
  /-- RING_READBACK (R96): A unit is read back from the spill ring into STR or the drain, in order, when the sink can take it. -/
  | ringReadback
  /-- DRAIN_WRITE (R98): The Tail writes a unit by DMA into the host drain buffer and advances PROD. -/
  | drainWrite
  /-- DRAIN_CONS_WRITE (R98): The driver writes TAIL_DRAIN_CONS to free drain buffer space. -/
  | drainConsWrite (v : Word)
  /-- FLIT_SEND (R102): A data flit is built and sent when credit and replay room allow, and is kept until acknowledged. -/
  | flitSend
  /-- IDLE_FLIT_SEND (R102): When no data flit can be sent, an idle flit is sent. -/
  | idleFlitSend
  /-- RET_CREDIT (R103): A CREDIT return word raises the credit limit. -/
  | retCredit (v : BitVec 40)
  /-- RET_ACK (R103): An ACK return word releases acknowledged flits from the replay buffer and their units from the ring. -/
  | retAck (v : BitVec 40)
  /-- RET_NAK (R102): A NAK return word resends every kept flit from FSEQ v and raises STR_NAK. -/
  | retNak (v : BitVec 40)
  /-- RET_TRAIN (R105): A TRAIN return word advances training, or restarts it when it arrives out of order. -/
  | retTrain (stepNo : BitVec 12)
  /-- RET_RETRAIN (R104): A RETRAIN return word moves an ACTIVE link to RETRAIN. -/
  | retRetrain
  /-- RET_HEALTH (R103): A HEALTH return word updates STR_HEALTH. -/
  | retHealth (status : BitVec 12) (v : BitVec 40)
  /-- RET_IDLE (R103): An IDLE return word carries nothing. -/
  | retIdle
  /-- RET_BAD_WORD (R103): A return word with a bad CRC-8 or a reserved CMD is discarded and counted. -/
  | retBadWord (w : BitVec 64)
  /-- STR_ACK_TIMEOUT (R102): When the oldest kept flit has waited ACK_TIMEOUT_US, flits are resent from it; the fourth consecutive timeout retrains. -/
  | strAckTimeout
  /-- STR_TRAIN_TIMEOUT (R104): Training that has not reached ACTIVE in 50 ms raises STR_TRAIN_FAIL. -/
  | strTrainTimeout
  /-- STR_TRAIN_RESTART (R105): 100 ms after a training timeout, training restarts at t0. -/
  | strTrainRestart
  /-- STR_RETRAIN_WRITE (R104): A write of STR_LINK.RETRAIN in ACTIVE moves the link to RETRAIN. -/
  | strRetrainWrite
  /-- STR_REFCLK_LOSS (R104): Loss of the stream reference clock takes the link to DISABLED and returns kept units to the ring. -/
  | strRefclkLoss
  /-- STR_REFCLK_RETURN (R104): The stream reference clock becomes present, and an enabled STR in RUN starts training. -/
  | strRefclkReturn
  /-- RET_LOCK_LOSS (R104): Return-lane block lock lost for 1 µs moves an ACTIVE link to RETRAIN. -/
  | retLockLoss
  /-- PORT_EN_WRITE (R112): A write of MAC_PORT_CTRL.EN starts the port from DISABLED or takes it to DISABLED. -/
  | portEnWrite (p : Fin 16) (v : Word) (cut : Bool)
  /-- PORT_RESTART (R112): A write of MAC_PORT_CTRL.RESTART takes a port to SIGNAL_WAIT. -/
  | portRestart (p : Fin 16) (cut : Bool)
  /-- SIGNAL_LOCK (R112): Signal is detected and CDR locks on all lanes, so the port moves to TRAINING or ALIGNING. -/
  | signalLock (p : Fin 16) (eye : BitVec 16)
  /-- AN_LT_DONE (R111): Negotiation and training complete, so the port moves to ALIGNING. -/
  | anLtDone (n : Nego)
  /-- LINK_TRAIN_TIMEOUT (R112): Training is not complete within 3 s, so the port returns to SIGNAL_WAIT and LINK_TRAIN_FAIL is raised. -/
  | linkTrainTimeout (p : Fin 16)
  /-- ALIGN_QUALIFIED (R112): Alignment held for UP_QUAL_US brings the port UP, starts lane calibration and raises LINK_UP. -/
  | alignQualified (p : Fin 16)
  /-- ALIGN_TIMEOUT (R112): The port has not aligned within 100 ms, so it returns to SIGNAL_WAIT. -/
  | alignTimeout (p : Fin 16)
  /-- FAULT_DETECT (R113): A local or remote fault moves an UP port to FAULT. -/
  | faultDetect (p : Fin 16) (remote cut : Bool)
  /-- FAULT_CLEARED (R112): No fault for UP_QUAL_US returns a FAULT port to UP. -/
  | faultCleared (p : Fin 16)
  /-- SIGNAL_LOSS (R113): Loss of signal or lock on any lane takes the port to SIGNAL_WAIT. -/
  | signalLoss (p : Fin 16) (lane : Fin 4) (sig cut : Bool)
  /-- RX_FRAME (R117): A received frame is timestamped, checked in order and sent to its pipeline or discarded. -/
  | rxFrame (p : Fin 16) (bytes : List Byte) (corr unc inv : BitVec 16)
  /-- PAUSE_EXPIRE (R122): The pause timer of a port or priority runs out and its queues resume. -/
  | pauseExpire (p : Fin 16) (k : Fin 9)
  /-- PAUSE_WD_FIRE (R124): A pause unbroken for WD_MS is ended and later pause is ignored for IGNORE_MS. -/
  | pauseWdFire (p : Fin 16) (k : Fin 9)
  /-- PAUSE_IGNORE_END (R124): IGNORE_MS ends and received pause is honoured again. -/
  | pauseIgnoreEnd (p : Fin 16) (k : Fin 9)
  /-- XOFF_REPEAT (R123): Every 32,768 quanta while the bytes stay above XON_KIB, the XOFF is repeated. -/
  | xoffRepeat (p : Fin 16) (k : Fin 9)
  /-- TX_START (R115): A fully staged frame starts transmission, and its SFD is stamped. -/
  | txStart (p : Fin 16)
  /-- TX_END (R115): A frame's transmission completes and frees its staging. -/
  | txEnd (p : Fin 16)
  /-- SA_WRITE (R121): MAC_SA_SEL.WRITE replaces an SA or SC entry at the next frame boundary. -/
  | saWrite (p : Fin 16) (v : Word)
  /-- SA_READ (R121): MAC_SA_SEL.READ returns an SA or SC entry with its current PN. -/
  | saRead (p : Fin 16) (v : Word)
  /-- MOD_XFER_START (R127): MAC_MOD_XFER.START starts a module bus transfer. -/
  | modXferStart (q : Fin 4) (v : Word)
  /-- MOD_XFER_END (R127): A module transfer ends, setting DONE and RESULT and raising MOD_XFER_DONE. -/
  | modXferEnd (q : Fin 4) (result : Fin 4) (data : List Byte)
  /-- MOD_RESET (R127): MAC_MOD_CTRL.RESET drives MOD_RST_N low for 20 µs. -/
  | modReset (q : Fin 4)
  /-- MOD_INSERT (R128): MOD_PRS_N asserted for the 50 ms debounce sets PRESENT and raises MOD_INSERT. -/
  | modInsert (q : Fin 4)
  /-- MOD_REMOVE (R128): MOD_PRS_N released after debounce clears PRESENT, ends any transfer and raises MOD_REMOVE. -/
  | modRemove (q : Fin 4)
  /-- MOD_INT (R128): A falling edge on MOD_INT_N raises MOD_INT. -/
  | modInt (q : Fin 4) (low : Bool)
  /-- INGRESS_PASS (R147): A frame takes a pipeline slot and passes the parser, twelve stages, rewrite and, on its last pass, the class table. -/
  | ingressPass (n : Fin 4)
  /-- RECIRC_PASS (R162): A frame from the recirculation FIFO takes a pipeline slot for its next pass. -/
  | recircPass (n : Fin 4)
  /-- INJECT_SLOT (R15): A waiting host- or engine-injected frame is granted a pipeline slot in round robin. -/
  | injectSlot (n : Fin 4)
  /-- PRS_SCRUB_READ (R145): A scrub read of a PRS bank word reports a parity error if it finds one. -/
  | prsScrubRead (n : Fin 4) (upset : Option (BitVec 18))
  /-- MAT_SCRUB_READ (R172): A scrub read of a MAT bank word reports a parity error if it finds one. -/
  | matScrubRead (n : Fin 4) (upset : Option (BitVec 18))
  /-- FWD_SCRUB_READ (R193): A scrub read of a table slot reports a parity error with a notification. -/
  | fwdScrubRead (one two : Option Upset)
  /-- SWAP_IN (R170): MAT_SWAP.SWAP_IN advances RSE for MAT and PRS at the next frame boundary, and the old bank begins retiring. -/
  | swapIn (n : Fin 4) (both : Bool)
  /-- SWAP_EG (R170): MAT_SWAP.SWAP_EG advances ERSE, and the old egress bank begins retiring. -/
  | swapEg (n : Fin 4)
  /-- SWAP_RETIRE (R170): The in-flight count of the retiring bank reaches 0, RETIRING clears and MAT_SWAP_DONE is raised. -/
  | swapRetire (n : Fin 4) (eg : Bool)
  /-- EGRESS_PASS (R167): A dequeued port copy passes the six egress stages and the egress rewrite. -/
  | egressPass (n : Fin 4)
  /-- FWD_INSERT (R184): An INSERT command adds an entry, relocating or evicting as needed. -/
  | fwdInsert (c : Fin 2) (q : Req) (v : Word)
  /-- FWD_UPDATE (R184): An UPDATE command replaces the entry with the key. -/
  | fwdUpdate (c : Fin 2) (q : Req) (v : Word)
  /-- FWD_DELETE (R184): A DELETE command removes the entry with the key. -/
  | fwdDelete (c : Fin 2) (q : Req) (v : Word)
  /-- FWD_READ (R184): A READ command returns the entry with the key and its slot. -/
  | fwdRead (c : Fin 2) (q : Req) (v : Word)
  /-- FWD_WRITE_SLOT (R184): A WRITE_SLOT command writes a ternary or LPM result entry at SLOT. -/
  | fwdWriteSlot (c : Fin 2) (q : Req) (v : Word)
  /-- FWD_READ_SLOT (R184): A READ_SLOT command returns the entry at SLOT. -/
  | fwdReadSlot (c : Fin 2) (q : Req) (v : Word)
  /-- FWD_CLEAR_SLOT (R184): A CLEAR_SLOT command invalidates SLOT. -/
  | fwdClearSlot (c : Fin 2) (q : Req) (v : Word)
  /-- FWD_FLUSH (R184): A FLUSH command removes the L2 entries that match the selector. -/
  | fwdFlush (c : Fin 2) (q : Req) (v : Word)
  /-- FWD_CLEAR (R184): A CLEAR command invalidates the whole table. -/
  | fwdClear (c : Fin 2) (q : Req) (v : Word)
  /-- FWD_CMD_DONE (R183): A command finishes, writes RESULT and SLOT, clears BUSY and may raise FWD_CMD_DONE. -/
  | fwdCmdDone (c : Fin 2)
  /-- LEARNED_INSERT (R189): A queued learned insert reaches the update port and is inserted or treated as a hit. -/
  | learnedInsert (p : Fin 4)
  /-- AGE_SWEEP (R191): Every AGE_S the ageing tables are swept, and entries are aged or removed. -/
  | ageSweep
  /-- FWD_NOTIFY_POP (R192): A read of FWD_NOTIFY_W0 pops the head notification. -/
  | fwdNotifyPop (q : Req)
  /-- SEQ_ADMIT (R198): Each cycle the head with the smallest key is admitted into the hold. -/
  | seqAdmit
  /-- SEQ_EMIT (R198): Each cycle the settled held frame with the smallest key is numbered and enqueued. -/
  | seqEmit
  /-- PRF_FETCH (R209): LEAD_NS before the release instant, PRF fetches the held frame into staging. -/
  | prfFetch (p : Fin 16)
  /-- PRF_RELEASE (R209): At the release instant the held frame starts, or is handled as a missed release. -/
  | prfRelease (p : Fin 16)
  /-- PRF_GROUP_TIMEOUT (R213): GROUP_WAIT_US after the first copy entered, the group's R is fixed and PRF_GROUP_TIMEOUT is raised. -/
  | prfGroupTimeout
  /-- PRF_CAL_START (R210): Release calibration starts at link UP or on CAL_START. -/
  | prfCalStart (p : Fin 16)
  /-- PRF_CAL_DONE (R210): After 16 frames the measurement completes and sets PRF_PORT_ADJ. -/
  | prfCalDone (p : Fin 16)
  /-- SCH_DEQUEUE (R223): When a port can take a frame, the scheduler serves a queue by strict priority or DRR and charges it. -/
  | schDequeue (p : Fin 16)
  /-- DEEP_REFILL_DONE (R221): A spilled head copy has been fetched into the port's refill window. -/
  | deepRefillDone (p : Fin 16) (q : Fin 32) (bad : Bool)
  /-- ORB_GATE_EDGE (R228): An Orbit entry boundary changes the gate states of a port. -/
  | orbGateEdge (p : Fin 16)
  /-- ORB_BANK_TAKEOVER (R229): At S the pending bank takes over, ACTIVE flips and ORB_SWITCH is raised. -/
  | orbBankTakeover (p : Fin 16)
  /-- ORB_SWITCH_WRITE (R229): A write of ORB_CTRL.SWITCH makes the other bank pending. -/
  | orbSwitchWrite (p : Fin 16) (fit : Bool)
  /-- ORB_EN_WRITE (R229): Setting ORB_CTRL.EN makes a bank pending; clearing it opens every gate. -/
  | orbEnWrite (p : Fin 16) (en fit : Bool)
  /-- FIT_DISCARD (R230): A head copy held back by FIT for a whole cycle is discarded. -/
  | fitDiscard (p : Fin 16) (q : Fin 32)
  /-- POL_WRITE (R227): POL_SEL.WRITE replaces a policer entry between frames, resetting its buckets. -/
  | polWrite (k : BitVec 13)
  /-- POL_READ (R227): POL_SEL.READ returns a policer entry. -/
  | polRead (k : BitVec 13)
  /-- QUANTUM_EXPIRE (R237): The run quantum expires and the engine makes a turn if another thread is READY. -/
  | quantumExpire (c : Fin 12) (e : Fin 16)
  /-- STALL_COMPLETE (R237): A long stall completes and its thread becomes READY one cycle later. -/
  | stallComplete (t : Fin 1536) (e : Ecc)
  /-- EVENT_WAKE (R241): An input of a WAITING thread's mask becomes pending, and the thread becomes READY with it. -/
  | eventWake (t : Fin 1536)
  /-- TIMER_FIRE (R239): The time base reaches the thread's timer TS96, and e31 becomes pending. -/
  | timerFire (t : Fin 1536)
  /-- ENG_SIGNAL_WRITE (R240): A write of ENG_SIGNAL adds one signal to a thread input. -/
  | engSignalWrite (c : Fin 12) (v : Word)
  /-- DL_RESCUE (R250): A write of ENG_DL_STAT.RESCUE signals the rescue target. -/
  | dlRescue (c : Fin 12)
  /-- DEADLOCK_DETECT (R249): A scope stays deadlocked for WINDOW_US, so a snapshot is taken and ENG_DEADLOCK is raised. -/
  | deadlockDetect (d : Fin 13)
  /-- CHN_HOLD_DETECT (R246): The oldest reservation open beyond HOLD_US sets HOLD and raises CHN_HOLD. -/
  | chnHoldDetect (n : Fin 1024)
  /-- CHN_VOID_WRITE (R246): A write of CHN_VOID voids a held reservation. -/
  | chnVoidWrite (v : Word)
  /-- CHN_CFG_RESET (R248): A write of CHN_CFG.RESET voids reservations and discards undelivered slots. -/
  | chnCfgReset (n : Fin 1024)
  /-- ENG_LOAD_START (R252): A write of ENG_LOAD_CTRL.START flushes the queues and starts loading a cluster image. -/
  | engLoadStart (c : Fin 12)
  /-- ENG_LOAD_END (R251): A load completes or fails, setting IMG_VALID and RESULT. -/
  | engLoadEnd (c : Fin 12) (e : Ecc)
  /-- CLUSTER_SAFE (R251): An uncorrectable error in a cluster's memories stops it in place and sets SAFE. -/
  | clusterSafe (c : Fin 12)
  /-- ILLEGAL_INSTRUCTION (R256): An unassigned OP, FN or reserved field faults with ILLEGAL. -/
  | illegalInstruction (c : Fin 12) (e : Fin 16)
  /-- ADD (R257): rd := rs1 + rs2. -/
  | iAdd (c : Fin 12) (e : Fin 16)
  /-- SUB (R257): rd := rs1 − rs2. -/
  | iSub (c : Fin 12) (e : Fin 16)
  /-- AND (R257): Bitwise AND of rs1 and rs2. -/
  | iAnd (c : Fin 12) (e : Fin 16)
  /-- OR (R257): Bitwise OR of rs1 and rs2. -/
  | iOr (c : Fin 12) (e : Fin 16)
  /-- XOR (R257): Bitwise XOR of rs1 and rs2. -/
  | iXor (c : Fin 12) (e : Fin 16)
  /-- ANDN (R257): rd := rs1 AND NOT rs2. -/
  | iAndn (c : Fin 12) (e : Fin 16)
  /-- SLL (R257): Shift left logical by rs2[5:0]. -/
  | iSll (c : Fin 12) (e : Fin 16)
  /-- SRL (R257): Shift right logical by rs2[5:0]. -/
  | iSrl (c : Fin 12) (e : Fin 16)
  /-- SRA (R257): Shift right arithmetic by rs2[5:0]. -/
  | iSra (c : Fin 12) (e : Fin 16)
  /-- ROR (R257): Rotate rs1 right by rs2[5:0]. -/
  | iRor (c : Fin 12) (e : Fin 16)
  /-- SLT (R257): Signed set-less-than. -/
  | iSlt (c : Fin 12) (e : Fin 16)
  /-- SLTU (R257): Unsigned set-less-than. -/
  | iSltu (c : Fin 12) (e : Fin 16)
  /-- MIN (R257): Signed minimum. -/
  | iMin (c : Fin 12) (e : Fin 16)
  /-- MAX (R257): Signed maximum. -/
  | iMax (c : Fin 12) (e : Fin 16)
  /-- MINU (R257): Unsigned minimum. -/
  | iMinu (c : Fin 12) (e : Fin 16)
  /-- MAXU (R257): Unsigned maximum. -/
  | iMaxu (c : Fin 12) (e : Fin 16)
  /-- MUL (R257): Low 64 bits of the product. -/
  | iMul (c : Fin 12) (e : Fin 16)
  /-- MULH (R257): High 64 bits of the signed product. -/
  | iMulh (c : Fin 12) (e : Fin 16)
  /-- MULHU (R257): High 64 bits of the unsigned product. -/
  | iMulhu (c : Fin 12) (e : Fin 16)
  /-- CLZ (R257): Count leading zeros of rs1. -/
  | iClz (c : Fin 12) (e : Fin 16)
  /-- CTZ (R257): Count trailing zeros of rs1. -/
  | iCtz (c : Fin 12) (e : Fin 16)
  /-- POPC (R257): Count set bits of rs1. -/
  | iPopc (c : Fin 12) (e : Fin 16)
  /-- BSWAP (R257): Reverse the 8 bytes of rs1. -/
  | iBswap (c : Fin 12) (e : Fin 16)
  /-- BSWAP32 (R257): Reverse the bytes of rs1[31:0], zero-extended. -/
  | iBswap32 (c : Fin 12) (e : Fin 16)
  /-- BSWAP16 (R257): Reverse the bytes of rs1[15:0], zero-extended. -/
  | iBswap16 (c : Fin 12) (e : Fin 16)
  /-- ADDI (R257): rd := rs1 + sext(imm). -/
  | iAddi (c : Fin 12) (e : Fin 16)
  /-- ANDI (R257): rd := rs1 AND zext(imm). -/
  | iAndi (c : Fin 12) (e : Fin 16)
  /-- ORI (R257): rd := rs1 OR zext(imm). -/
  | iOri (c : Fin 12) (e : Fin 16)
  /-- XORI (R257): rd := rs1 XOR zext(imm). -/
  | iXori (c : Fin 12) (e : Fin 16)
  /-- SLTI (R257): Signed set-less-than against the immediate. -/
  | iSlti (c : Fin 12) (e : Fin 16)
  /-- SLTIU (R257): Unsigned set-less-than against the immediate. -/
  | iSltiu (c : Fin 12) (e : Fin 16)
  /-- SHI (R257): Shift or rotate rs1 by an immediate amount. -/
  | iShi (c : Fin 12) (e : Fin 16)
  /-- INSH (R257): Insert a 16-bit immediate into a halfword of rd. -/
  | iInsh (c : Fin 12) (e : Fin 16)
  /-- BFX (R257): Extract a bit field of rs1. -/
  | iBfx (c : Fin 12) (e : Fin 16)
  /-- BFI (R257): Insert the low bits of rs1 into a field of rd. -/
  | iBfi (c : Fin 12) (e : Fin 16)
  /-- LDB (R258): Load a byte, zero-extended. -/
  | iLdb (c : Fin 12) (e : Fin 16)
  /-- LDH (R258): Load a halfword, zero-extended. -/
  | iLdh (c : Fin 12) (e : Fin 16)
  /-- LDW (R258): Load a word, zero-extended. -/
  | iLdw (c : Fin 12) (e : Fin 16)
  /-- LDD (R258): Load a doubleword. -/
  | iLdd (c : Fin 12) (e : Fin 16)
  /-- LDBS (R258): Load a byte, sign-extended. -/
  | iLdbs (c : Fin 12) (e : Fin 16)
  /-- LDHS (R258): Load a halfword, sign-extended. -/
  | iLdhs (c : Fin 12) (e : Fin 16)
  /-- LDWS (R258): Load a word, sign-extended. -/
  | iLdws (c : Fin 12) (e : Fin 16)
  /-- STB (R258): Store a byte. -/
  | iStb (c : Fin 12) (e : Fin 16)
  /-- STH (R258): Store a halfword. -/
  | iSth (c : Fin 12) (e : Fin 16)
  /-- STW (R258): Store a word. -/
  | iStw (c : Fin 12) (e : Fin 16)
  /-- STD (R258): Store a doubleword. -/
  | iStd (c : Fin 12) (e : Fin 16)
  /-- BEQ (R257): Branch if equal. -/
  | iBeq (c : Fin 12) (e : Fin 16)
  /-- BNE (R257): Branch if not equal. -/
  | iBne (c : Fin 12) (e : Fin 16)
  /-- BLT (R257): Branch if less, signed. -/
  | iBlt (c : Fin 12) (e : Fin 16)
  /-- BGE (R257): Branch if greater or equal, signed. -/
  | iBge (c : Fin 12) (e : Fin 16)
  /-- BLTU (R257): Branch if less, unsigned. -/
  | iBltu (c : Fin 12) (e : Fin 16)
  /-- BGEU (R257): Branch if greater or equal, unsigned. -/
  | iBgeu (c : Fin 12) (e : Fin 16)
  /-- JAL (R257): Jump to 4 × target and link. -/
  | iJal (c : Fin 12) (e : Fin 16)
  /-- JALR (R257): Jump to rs1 + imm and link. -/
  | iJalr (c : Fin 12) (e : Fin 16)
  /-- AMO_SWAP (R259): Atomic swap on data memory. -/
  | iAmoSwap (c : Fin 12) (e : Fin 16)
  /-- AMO_ADD (R259): Atomic add on data memory. -/
  | iAmoAdd (c : Fin 12) (e : Fin 16)
  /-- AMO_AND (R259): Atomic AND on data memory. -/
  | iAmoAnd (c : Fin 12) (e : Fin 16)
  /-- AMO_OR (R259): Atomic OR on data memory. -/
  | iAmoOr (c : Fin 12) (e : Fin 16)
  /-- AMO_CAS (R259): Atomic compare-and-swap on data memory. -/
  | iAmoCas (c : Fin 12) (e : Fin 16)
  /-- AMO_MAX (R259): Atomic signed maximum on data memory. -/
  | iAmoMax (c : Fin 12) (e : Fin 16)
  /-- AMO_MIN (R259): Atomic signed minimum on data memory. -/
  | iAmoMin (c : Fin 12) (e : Fin 16)
  /-- MRD (R266): Copy bytes from GDDR6 into data memory, with a long stall. -/
  | iMrd (c : Fin 12) (e : Fin 16)
  /-- MWR (R266): Copy bytes from data memory to GDDR6, with a long stall. -/
  | iMwr (c : Fin 12) (e : Fin 16)
  /-- DLK (R267): Look up a deep table, with a long stall. -/
  | iDlk (c : Fin 12) (e : Fin 16)
  /-- RCV (R261): Take the head frame of an input queue and write its context. -/
  | iRcv (c : Fin 12) (e : Fin 16)
  /-- PBR (R262): Copy frame bytes into data memory. -/
  | iPbr (c : Fin 12) (e : Fin 16)
  /-- PBW (R262): Copy data-memory bytes into a frame. -/
  | iPbw (c : Fin 12) (e : Fin 16)
  /-- FRM_ALLOC (R262): Allocate a new zero-filled frame and return its handle. -/
  | iFrmAlloc (c : Fin 12) (e : Fin 16)
  /-- FRM_FREE (R262): Discard a frame and free its cells. -/
  | iFrmFree (c : Fin 12) (e : Fin 16)
  /-- FRM_SETLEN (R262): Change a frame's length. -/
  | iFrmSetlen (c : Fin 12) (e : Fin 16)
  /-- FRM_COPY (R262): Duplicate a frame and return the new handle. -/
  | iFrmCopy (c : Fin 12) (e : Fin 16)
  /-- EMIT (R263): Send a frame into a pipeline or directly to a destination. -/
  | iEmit (c : Fin 12) (e : Fin 16)
  /-- CHN_RES (R244): Reserve the next slot of a channel, stalling while it is full. -/
  | iChnRes (c : Fin 12) (e : Fin 16)
  /-- CHN_WR (R264): Write bytes into a reserved slot. -/
  | iChnWr (c : Fin 12) (e : Fin 16)
  /-- CHN_CMT (R244): Commit a reserved slot. -/
  | iChnCmt (c : Fin 12) (e : Fin 16)
  /-- CHN_RD (R245): Read and free the oldest undelivered slot, stalling until it is committed. -/
  | iChnRd (c : Fin 12) (e : Fin 16)
  /-- EVT_WAIT (R241): Wait on an event mask. -/
  | iEvtWait (c : Fin 12) (e : Fin 16)
  /-- EVT_SIGNAL (R265): Send one signal to a thread input. -/
  | iEvtSignal (c : Fin 12) (e : Fin 16)
  /-- EVT_PARK (R265): Park the thread until RESUME. -/
  | iEvtPark (c : Fin 12) (e : Fin 16)
  /-- EVT_TMR (R265): Arm the e31 timer. -/
  | iEvtTmr (c : Fin 12) (e : Fin 16)
  /-- EVT_TMRX (R265): Disarm the e31 timer. -/
  | iEvtTmrx (c : Fin 12) (e : Fin 16)
  /-- CSUB (R268): Submit a cipher operation and stall until its completion. -/
  | iCsub (c : Fin 12) (e : Fin 16)
  /-- CRB (R269): Emit a MARK crumb in deterministic mode. -/
  | iCrb (c : Fin 12) (e : Fin 16)
  /-- TSR (R269): Read the time base into a register pair. -/
  | iTsr (c : Fin 12) (e : Fin 16)
  /-- SYS_NOP (R269): No operation. -/
  | iSysNop (c : Fin 12) (e : Fin 16)
  /-- SYS_RDSTS (R269): Read the status word. -/
  | iSysRdsts (c : Fin 12) (e : Fin 16)
  /-- SYS_BKPT (R269): Halt when breakpoints are enabled, otherwise fault BREAK. -/
  | iSysBkpt (c : Fin 12) (e : Fin 16)
  /-- SYS_TRAP (R269): Fault TRAP. -/
  | iSysTrap (c : Fin 12) (e : Fin 16)
  /-- SLOW_PATH_HANDLE (R284): A slow-path frame is handled under its reason's policy. -/
  | slowPathHandle (c : Fin 12) (q : SlowReq)
  /-- REASM_TIMEOUT (R285): A datagram not complete within SP_REASM_MS is discarded. -/
  | reasmTimeout
  /-- TCP_SEGMENT_RX (R286): A received TCP segment is processed for its connection and its payload delivered in order. -/
  | tcpSegmentRx (c : Fin 12) (q : Fin 16) (e : Ecc)
  /-- TCP_RETRANSMIT_TIMEOUT (R287): An unacknowledged segment is retransmitted; the eighth failure ends the connection with TIMEOUT. -/
  | tcpRetransmitTimeout (id : BitVec 14)
  /-- TLS_RECORD_RX (R289): A received TLS record is verified and delivered, or fails the session. -/
  | tlsRecordRx (id : BitVec 14) (e : Ecc)
  /-- ESP_PACKET_RX (R291): An inbound ESP packet is authenticated and replay-checked. -/
  | espPacketRx (c : Fin 12) (q : Fin 16) (e : Ecc)
  /-- NVME_PDU_RX (R293): A received NVMe/TCP PDU is digest-checked and placed. -/
  | nvmePduRx (id : BitVec 14) (host : List Byte) (e : Ecc)
  /-- CONTEXT_FREE (R282): A CLOSING context returns to FREE when no thread uses it and steered frames are handled. -/
  | contextFree (id : BitVec 14)
  /-- CRUMB_DRAIN (R298): RPL drains crumbs from a capture FIFO into the ring. -/
  | crumbDrain (c : Fin 12)
  /-- CRUMB_GAP (R298): When 64 FIFO entries are free after a loss, a GAP crumb is chained and a checkpoint is taken. -/
  | crumbGap (c : Fin 12)
  /-- CKPT_TIMER (R300): CKPT_MS after the previous checkpoint, a checkpoint is taken. -/
  | ckptTimer (c : Fin 12)
  /-- CKPT_REQ (R300): A write of RPL_CLU_CTRL.REQ takes a checkpoint. -/
  | ckptReq (c : Fin 12)
  /-- CKPT_DONE (R300): The checkpoint is written and the hold on the cluster is released. -/
  | ckptDone (c : Fin 12)
  /-- RPL_FREEZE (R299): Writing FREEZE 1 stops crumb writes and checkpoints. -/
  | rplFreeze (c : Fin 12)
  /-- RPL_UNFREEZE (R299): Writing FREEZE 0 is handled as the end of a loss. -/
  | rplUnfreeze (c : Fin 12)
  /-- RPL_START (R302): RPL_RP_CTRL.START checks the target and checkpoint, restores state and enters REPLAY. -/
  | rplStart (v : Word) (host : List (BitVec 256))
  /-- REPLAY_CONSUME (R303): A replaying thread consumes its next crumb for a logged instruction or turn. -/
  | replayConsume (host : List (BitVec 256))
  /-- REPLAY_END (R304): A replay ends MATCHED, REACHED or DIVERGED, and the target is left QUIESCED. -/
  | replayEnd (host : List (BitVec 256))
  /-- RPL_ABORT (R304): RPL_RP_CTRL.ABORT ends the replay with ABORTED. -/
  | rplAbort
  /-- REPLAY_STUCK (R304): No crumb consumed for STALL_US ends the replay DIVERGED STUCK. -/
  | replayStuck (host : List (BitVec 256))
  /-- CIP_CORE_START (R315): A free core starts the head of the first eligible class queue. -/
  | cipCoreStart (k j : Fin 32)
  /-- URGENT_PREEMPT (R317): A core suspends its NORMAL or BULK message at a block end and starts the URGENT message. -/
  | urgentPreempt
  /-- CIP_MSG_DONE (R312): A message finishes and its completion is written. -/
  | cipMsgDone (k : Fin 32) (mismatch : Bool) (n : BitVec 20) (e : BufEcc)
  /-- CORE_TEST (R319): A write of CIP_CORE_k.TEST starts the core's self-test. -/
  | coreTest (k : Fin 32)
  /-- CORE_TEST_DONE (R319): A self-test completes and fences or clears the core. -/
  | coreTestDone (k : Fin 32) (pass : Bool)
  /-- KEY_OPEN (R321): A KEY_ATTR write with VALID 0 opens the slot and zeroes it. -/
  | keyOpen (q : Req) (k : BitVec 14) (v : BitVec 31)
  /-- KEY_VALIDATE (R321): A KEY_ATTR write with VALID 1 checks the material and makes the slot VALID or reports the error. -/
  | keyValidate (q : Req) (k : BitVec 14) (v : BitVec 31)
  /-- KEY_MAT_WRITE (R321): A WOK write of key material to an open slot. -/
  | keyMatWrite (k : BitVec 14) (w : Fin 16) (v : Word)
  /-- KEY_ZERO (R323): KEY_CTL.ZERO starts zeroization of the whole store. -/
  | keyZero
  /-- KEY_ZEROIZE_DONE (R323): Zeroization completes and KEY_ZEROIZED is raised. -/
  | keyZeroizeDone
  /-- KW_WRAP (R324): CIP_KW_CTRL.START with WRAP seals a slot into CIP_KW_BUF. -/
  | kwWrap (w k : BitVec 14)
  /-- KW_UNWRAP (R324): CIP_KW_CTRL.START with UNWRAP opens a wrapped slot into an open target. -/
  | kwUnwrap (w k : BitVec 14)
  /-- KW_DONE (R324): A wrap command ends with its RESULT and raises CIP_KW_DONE. -/
  | kwDone
  /-- MEM_REQUEST (R339): A memory request arrives at a channel queue, or is refused outside its regions. -/
  | memRequest (q : MReq) (addr : BitVec 38) (n : Fin 256) (write : Bool) (data : List Byte)
  /-- MEM_REQ_COMPLETE (R339): A channel completes a request, correcting and checking ECC and the tag on reads. -/
  | memReqComplete (c : Fin 32) (n : Fin 256) (e : Ecc)
  /-- PANIC_LONG (R340): A panic lasting 100 µs raises MEM_PANIC_LONG. -/
  | panicLong (p : Fin 4)
  /-- REFI_TICK (R342): Every REFI_NS each bank gains a unit of refresh debt; at DEBT_MAX a refresh is forced. -/
  | refiTick (c : Fin 32)
  /-- REFRESH_ISSUE (R342): An idle bank with debt is refreshed voluntarily. -/
  | refreshIssue (c : Fin 32) (b : Fin 16)
  /-- SELF_REFRESH_ENTER (R342): A channel idle for SR_IDLE_US enters self-refresh. -/
  | selfRefreshEnter (c : Fin 32)
  /-- SELF_REFRESH_EXIT (R342): A request makes a channel leave self-refresh. -/
  | selfRefreshExit (c : Fin 32)
  /-- TEMP_REPORT (R342): A device reporting above 85 °C doubles the refresh rate and raises MEM_TEMP_HI. -/
  | tempReport (c : Fin 32) (hot : Bool)
  /-- RETRAIN_SLICE (R343): A periodic retrain slice runs on a channel. -/
  | retrainSlice (c : Fin 32) (rd wr : BitVec 8)
  /-- RETRAIN_DEFER_EXPIRE (R343): A slice deferred for DEFER_MS runs regardless. -/
  | retrainDeferExpire (c : Fin 32) (rd wr : BitVec 8)
  /-- EDC_MISMATCH (R344): An EDC CRC mismatch repeats the burst; exhausted retries retrain, and a final failure sets SAFE. -/
  | edcMismatch (c : Fin 32) (n : Fin 256) (rd wr : BitVec 8)
  /-- MEM_CH_QUIESCE (R345): MEM_CH_CTRL.QUIESCE starts holding a channel's new requests. -/
  | memChQuiesce (c : Fin 32)
  /-- MEM_CH_QUIESCED (R345): A channel's issued commands complete and it enters self-refresh in QUIESCED. -/
  | memChQuiesced (c : Fin 32)
  /-- MEM_CH_QUIESCE_TIMEOUT (R345): 10 µs pass while QUIESCING, so QUIESCE_TIMEOUT is raised. -/
  | memChQuiesceTimeout (c : Fin 32)
  /-- MEM_CH_TRAIN (R345): MEM_CH_CTRL.TRAIN starts training a quiesced channel. -/
  | memChTrain (c : Fin 32)
  /-- MEM_CH_TRAIN_END (R345): Training passes or fails, setting TRAINED or TRAIN_FAIL. -/
  | memChTrainEnd (c : Fin 32) (pass : Bool) (rd wr : BitVec 8)
  /-- MEM_CH_RESUME (R345): MEM_CH_CTRL.RESUME returns a trained channel to RUN and serves the hold. -/
  | memChResume (c : Fin 32)
  /-- MEM_CH_RESET (R345): MEM_CH_CTRL.RESET resets the controller and PHY. -/
  | memChReset (c : Fin 32)
  /-- MEM_CH_HOLD_EXPIRE (R345): A request held for HOLD_US raises MEM_CH_HOLD. -/
  | memChHoldExpire (c : Fin 32)
  /-- MCI_INIT_START (R337): MCI_INIT_CTRL.START begins writing zero lines over a range. -/
  | mciInitStart
  /-- MCI_INIT_END (R337): Initialisation ends and MCI_INIT_DONE is raised. -/
  | mciInitEnd
  /-- PERST_ASSERT (R350): PERST# asserted takes a host port to RESET. -/
  | perstAssert (h : Fin 4)
  /-- PERST_DEASSERT (R350): PERST# deasserted with a reference clock starts link training. -/
  | perstDeassert (h : Fin 4)
  /-- DL_UP (R350): DL_Up brings a host port UP. -/
  | dlUp (h : Fin 4) (rate : Fin 6) (w : Fin 5) (flit : Bool)
  /-- HIF_TRAIN_TIMEOUT (R350): No DL_Up within 100 ms restarts training. -/
  | hifTrainTimeout (h : Fin 4)
  /-- HIF_LINK_LOSS (R350): DL_Down, Hot Reset or Link Disable takes an UP port to TRAINING. -/
  | hifLinkLoss (h : Fin 4)
  /-- HP_READY (R351): HIF_HP_CTRL.READY lets the port's functions answer configuration requests. -/
  | hpReady (h : Fin 4)
  /-- HP_DOWN (R350): HIF_HP_CTRL.DOWN sends Hot Reset and takes the host port down. -/
  | hpDown (h : Fin 4)
  /-- CONFIG_REQUEST (R351): A configuration request is answered with RRS or normally. -/
  | configRequest (f : Fin 260) (op : CfgOp)
  /-- BAR_ACCESS (R354): A host memory request to a BAR is served or refused. -/
  | barAccess (f : Fin 260) (second : Bool) (off : BitVec 24) (wide : Bool) (wr : BarReq) (ep : Bool) (x : WEnv)
  /-- WINDOW_TLP (R358): A TLP to a tenant window is decoded against the active slot and carried out or refused. -/
  | windowTlp (f : Fin 256) (off : BitVec 36) (wr : Option (List Byte)) (len : Fin 4097) (ep : Bool) (e : Ecc) (bad : Nat) (done : Bool)
  /-- DMA_READ_REQUEST (R361): A fetch issues read requests once tags are free. -/
  | dmaReadRequest (h : Fin 4) (tag : Fin 2048)
  /-- CPL_ARRIVE (R362): A completion is matched against its tag and taken or discarded. -/
  | cplArrive (h : Fin 4) (tag : Fin 2048) (st : Fin 4) (ep : Bool) (lower : BitVec 7) (bc : Fin 4097) (data : List Byte) (bad : Bool)
  /-- CPL_TIMEOUT (R363): A request not completed within its completion timeout fails and its tag is freed. -/
  | cplTimeout (h : Fin 4) (tag : Fin 2048)
  /-- TAG_QUARANTINE_END (R362): 1 ms after a timeout the tag may be granted again. -/
  | tagQuarantineEnd (h : Fin 4) (tag : Fin 2048)
  /-- BME_CLEAR (R364): A function observes Bus Master Enable cleared and holds its requests. -/
  | bmeClear (f : Fin 260)
  /-- BME_SET (R364): Bus Master Enable set again resumes the held requests and data. -/
  | bmeSet (f : Fin 260)
  /-- BME_EXPIRE (R364): BME clear beyond the completion timeout discards the held data. -/
  | bmeExpire (f : Fin 260)
  /-- FLR (R365): A function-level reset increments FGEN and resets the function's queues and MSI-X. -/
  | flr (f : Fin 260)
  /-- FLR_DONE (R365): The FLR completes and HIF_FLR is raised. -/
  | flrDone (f : Fin 260)
  /-- VF_ENABLE_CHANGE (R366): A change of VF Enable or NumVFs enables or resets tenant functions. -/
  | vfEnableChange (h : Fin 4) (on : Bool) (n : BitVec 16)
  /-- MSIX_SEND (R369): A pending vector sends its message once its mask and BME allow. -/
  | msixSend (f : Fin 260) (v : Fin 1024)
  /-- WIN_COMMIT (R356): TFN_WIN_CTRL.COMMIT checks the inactive slot and makes it pending. -/
  | winCommit (f : Fin 256) (w : Fin 16)
  /-- WIN_FLIP (R357): In the first cycle with no header, ACTIVE flips and PENDING clears. -/
  | winFlip (f : Fin 256) (w : Fin 16)
  /-- OLD_BUSY_CLEAR (R357): The last TLP decoded against the old slot completes. -/
  | oldBusyClear (f : Fin 256) (w : Fin 16) (e : Ecc) (bad : Nat)
  /-- MBX_SEND (R379): MBX_CTRL.SEND queues the request to MGC firmware, or answers BUSY. -/
  | mbxSend (f : Fin 260)
  /-- MBX_RESPONSE (R379): MGC firmware's answer is written to MBX_RSP, setting DONE and possibly an interrupt. -/
  | mbxResponse (f : Fin 260)
  /-- QUERY (R380): The mailbox returns the function's quotas and use. -/
  | mbxQuery
  /-- TXQ_CREATE (R381): The mailbox creates a TX queue. -/
  | txqCreate
  /-- RXQ_CREATE (R381): The mailbox creates an RX queue. -/
  | rxqCreate
  /-- Q_DESTROY (R389): The mailbox drains and destroys a queue. -/
  | qDestroy
  /-- KEY_LOAD (R380): The mailbox loads a key into a slot for the function. -/
  | keyLoad
  /-- KEY_FREE (R380): The mailbox frees a key handle. -/
  | keyFree
  /-- OPEN (R279): The mailbox opens a session context. -/
  | mbxOpen (o : OpenReq)
  /-- LISTEN (R286): The mailbox opens a passive TCP listener. -/
  | mbxListen (port : BitVec 16) (backlog : Nat) (o : OpenReq)
  /-- MODIFY (R288): The mailbox changes a session, for example its keys. -/
  | mbxModify (m : ModReq)
  /-- CLOSE (R282): The mailbox moves a context to CLOSING in an orderly way. -/
  | mbxClose
  /-- ABORT (R282): The mailbox aborts a context at once. -/
  | mbxAbort
  /-- WINDOW_SET (R380): The mailbox sets a tenant window through the flip procedure. -/
  | windowSet (allowed : Bool)
  /-- FN_FREEZE (R390): FREEZE, by register or mailbox, stops a function. -/
  | fnFreeze (f : Option (Fin 260))
  /-- FN_THAW (R376): THAW returns a FROZEN function to ACTIVE. -/
  | fnThaw (f : Option (Fin 260))
  /-- FN_RESET (R376): RESET takes a function through RESETTING. -/
  | fnReset (f : Option (Fin 260))
  /-- FN_CLEANUP_DONE (R378): Cleanup of a RESETTING or ORPHANED function completes once no stale FGEN remains. -/
  | fnCleanupDone (f : Fin 260)
  /-- FREEZE_QUIET (R390): A FROZEN function's in-flight work ends, QUIET sets and TFN_FROZEN is raised. -/
  | freezeQuiet (f : Fin 260)
  /-- FREEZE_TIMEOUT (R390): FREEZE_MS passes with QUIET 0, so TFN_FREEZE_TIMEOUT is raised. -/
  | freezeTimeout (f : Fin 260)
  /-- MIG_KEYX (R392): The source derives a migration key by ECDH and answers with E_A and a MIG_ID. -/
  | migKeyx
  /-- MIG_ACCEPT (R392): The destination derives the same migration key. -/
  | migAccept
  /-- LOG_START (R391): The function's dirty log starts. -/
  | logStart
  /-- LOG_SYNC (R391): The dirty-log bits are copied out and cleared. -/
  | logSync
  /-- LOG_STOP (R391): The dirty log stops. -/
  | logStop
  /-- SAVE (R393): The function's migration blob is written to the host. -/
  | mbxSave
  /-- RESTORE (R394): A blob is checked and applied to the target function. -/
  | mbxRestore (blob : List Byte)
  /-- BAD_OPCODE (R380): An unknown mailbox opcode is answered BAD_OPCODE. -/
  | badOpcode
  /-- TXQ_PI_WRITE (R383): A TX producer-index doorbell posts descriptors. -/
  | txqPiWrite (f : Fin 256) (q : Fin 768) (v : Word)
  /-- TXQ_CI_WRITE (R383): A TX consumer-index doorbell consumes completions and may arm the queue. -/
  | txqCiWrite (f : Fin 256) (q : Fin 768) (v : Word)
  /-- RXQ_PI_WRITE (R383): An RX producer-index doorbell posts buffers. -/
  | rxqPiWrite (f : Fin 256) (q : Fin 768) (v : Word)
  /-- RXQ_CI_WRITE (R383): An RX consumer-index doorbell consumes completions and may arm the queue. -/
  | rxqCiWrite (f : Fin 256) (q : Fin 768) (v : Word)
  /-- TX_DESC_FETCHED (R385): A fetched TX descriptor's frame is read and injected, or completed with an error. -/
  | txDescFetched (f : Fin 256) (q : Fin 768)
  /-- TX_COMPLETION (R385): When every copy of a TX frame is finished, its completion is written. -/
  | txCompletion
  /-- RX_DELIVER (R386): A waiting RX copy is delivered into a posted buffer with its completion. -/
  | rxDeliver (f : Fin 256) (q : Fin 768)
  /-- QUEUE_DRAIN_DONE (R389): A draining queue writes its last completion and is destroyed. -/
  | queueDrainDone (f : Fin 256) (rx : Bool) (q : Fin 768)
  /-- QUOTA_WRITE (R388): A quota write takes effect at once; lowering a queue quota drains the queues above it. -/
  | quotaWrite (f : Fin 260) (queues : Bool) (v : Word)
  /-- BOOT_ROM_START (R398): The boot ROM starts on MGC core 0. -/
  | bootRomStart
  /-- BOOT_SELF_TEST (R398): SRAM self-repair, TRNG health and MCI keying complete or fail. -/
  | bootSelfTest (trngOk : Bool) (array : Option (BitVec 24)) (repaired : BitVec 16) (spare : BitVec 8)
  /-- BOOT_FLASH (R398): SFDP discovery of the flash ends. -/
  | bootFlash (found : Bool)
  /-- BOOT_VERIFY (R401): A bank is chosen, checked and its MGC firmware copied to SRAM. -/
  | bootVerify (readErr : BitVec 2)
  /-- BOOT_MGC_START (R398): The ROM unmaps, the watchdog starts and MGC firmware runs. -/
  | bootMgcStart
  /-- BOOT_CONFIG (R404): The configuration records are applied once. -/
  | bootConfig
  /-- CFG_REC_WRITE (R404): A WRITE record writes a register under its mask. -/
  | cfgRecWrite (x : WEnv)
  /-- CFG_REC_WAIT (R404): A WAIT record polls until its condition or timeout. -/
  | cfgRecWait
  /-- CFG_REC_DELAY (R404): A DELAY record waits TIMEOUT_US. -/
  | cfgRecDelay
  /-- CFG_REC_PARAM (R404): A PARAM record sets a boot parameter. -/
  | cfgRecParam
  /-- CFG_REC_END (R404): An END record ends the configuration. -/
  | cfgRecEnd
  /-- BOOT_LOAD (R405): The bank is rehashed and clusters, pipeline programs and microcode are loaded. -/
  | bootLoad (copy : BitVec 40) (imgs : Vector (BitVec 40) 12) (words : List (BitVec 26 × Word)) (fail : BitVec 32) (e : Ecc)
  /-- BOOT_START_BLOCKS (R398): The Tail and the quiesced blocks are resumed, clusters last, and the servo starts. -/
  | bootStartBlocks
  /-- BOOT_FORWARDING (R398): READY is set on each host port and BOOT_FORWARDING is raised. -/
  | bootForwarding
  /-- BOOT_FAILED (R399): A boot failure enters FAILED, or resets to try the other bank when the bank is TRIAL. -/
  | bootFailed (code : BitVec 8) (info : BitVec 24)
  /-- GEN_SEM_ACQUIRE (R407): A write of 0x1 acquires a free semaphore. -/
  | genSemAcquire (mgc : Bool) (n : Fin 16)
  /-- GEN_SEM_RELEASE (R407): A write of 0x2 releases a semaphore held by the writer. -/
  | genSemRelease (mgc : Bool) (n : Fin 16)
  /-- WDT_KICK (R410): A write of the key to MGC_WDT_KICK restarts the watchdog. -/
  | wdtKick
  /-- WDT_EXPIRE (R410): No kick within TIMEOUT_MS restarts MGC firmware or escalates to device reset. -/
  | wdtExpire (e : Ecc)
  /-- MGC_RESTART (R412): MGC_CTRL.RESTART restarts MGC firmware, as a trial when SRC is 1. -/
  | mgcRestart (src : Bool) (e : Ecc)
  /-- MGC_CONFIRM (R412): MGC_CTRL.CONFIRM ends a trial restart. -/
  | mgcConfirm (bank : Option (Fin 2))
  /-- TRIAL_TIMEOUT (R412): No CONFIRM within TRIAL_MS sets TRIAL_FAIL and falls back to the boot copy. -/
  | trialTimeout (e : Ecc)
  /-- UCODE_LOAD (R413): MGC_UCODE_CTRL.START loads microcode into the masked cores. -/
  | ucodeLoad
  /-- UCODE_DONE (R413): A load and self-test set LOADED bits, or raise UCODE_FAIL. -/
  | ucodeDone (e : Ecc) (fail : BitVec 32)
  /-- FLASH_ERASE (R400): BOOT_FLASH_CMD erases a 64 KiB sector. -/
  | flashErase (addr : BitVec 32)
  /-- FLASH_PROGRAM (R400): BOOT_FLASH_CMD programs 256 bytes. -/
  | flashProgram (addr : BitVec 32) (src : BitVec 15) (data : BitVec 2048)
  /-- FLASH_OP_DONE (R400): A flash operation ends and sets ERR on failure. -/
  | flashOpDone (good : Bool)
  /-- CUST_LOCK (R403): Setting BOOT_OTP.CUST_LOCKED permanently locks the customer signer. -/
  | custLock
  /-- SVN_MIN_RAISE (R403): A write raises BOOT_OTP.SVN_MIN; lower values are refused. -/
  | svnMinRaise (v : BitVec 16)
  /-- REC_HELLO (R414): Every second the ROM sends HELLO on Ethernet and UART. -/
  | recHello
  /-- REC_BEGIN (R415): A BEGIN starts or resumes a recovery transfer. -/
  | recBegin (host : Option (BitVec 48)) (msg : List Byte)
  /-- REC_DATA (R415): A DATA chunk at the expected offset is programmed and acknowledged. -/
  | recData (host : Option (BitVec 48)) (msg : List Byte) (err : Bool)
  /-- REC_END (R415): END checks the bank and reports RESULT. -/
  | recEnd (host : Option (BitVec 48)) (msg : List Byte) (err : Bool)
  /-- REC_REBOOT (R415): REBOOT starts a device reset. -/
  | recReboot (host : Option (BitVec 48)) (msg : List Byte)
  /-- REC_AUTO_REBOOT (R415): 10 s after RESULT OK the ROM starts a device reset. -/
  | recAutoReboot
  /-- REC_BAD_MESSAGE (R414): A recovery message with a bad CRC or MAGIC is discarded. -/
  | recBadMessage (host : Option (BitVec 48)) (msg : List Byte)
  /-- TARGET_HOT (R419): PWR_CTRL.TARGET HOT keeps every unit clocked. -/
  | targetHot (mgc : Bool)
  /-- TARGET_WARM (R419): PWR_CTRL.TARGET WARM allows gating after idle. -/
  | targetWarm (mgc : Bool)
  /-- TARGET_COLD (R419): PWR_CTRL.TARGET COLD stops idle cluster PLLs and powers down idle lanes. -/
  | targetCold (mgc : Bool)
  /-- TARGET_STANDBY (R421): PWR_CTRL.TARGET STANDBY is accepted only with the blocks QUIESCED and no host port UP. -/
  | targetStandby (mgc : Bool)
  /-- STANDBY_WAKE (R421): A wake source takes the device from STANDBY to WARM. -/
  | standbyWake
  /-- UNIT_GATE (R419): A unit idle for GATE_IDLE_NS is gated to WARM or COLD. -/
  | unitGate (u : Fin 16)
  /-- UNIT_WAKE (R420): Work for a gated unit starts its wake. -/
  | unitWake (u : Fin 16)
  /-- UNIT_WAKE_DONE (R420): The unit's PLL locks and the unit becomes HOT. -/
  | unitWakeDone (u : Fin 16)
  /-- SYSREF_LOSS (R418): Loss of SYS_REFCLK for 1 µs moves to the internal oscillator and holds a device reset. -/
  | sysrefLoss
  /-- SYSREF_RETURN (R418): SYS_REFCLK present for 10 ms ends the reset and boot begins. -/
  | sysrefReturn
  /-- CAL_EVALUATE (R423): Each millisecond the calendar is evaluated and units are held HOT. -/
  | calEvaluate
  /-- TJ_HIGH_CROSS (R425): A sensor reaching TJ_HIGH_C raises TJ_HIGH. -/
  | tjHighCross (n : Fin 8) (v : BitVec 12)
  /-- THERM_TRIP (R425): A sensor reaching 125 °C latches THERM_TRIP and holds a device reset. -/
  | thermTrip (n : Fin 8) (v : BitVec 12)
  /-- THERM_CLEAR (R425): Every sensor at or below 100 °C for 1 s releases the thermal reset. -/
  | thermClear (v : Vector (BitVec 12) 8)
  /-- SENTINEL_MEASURE (R426): Every PERIOD_H the ageing sentinels are measured, and WARN or a derating step may follow. -/
  | sentinelMeasure (l : List (BitVec 24))
  /-- LANE_ADAPT (R428): A lane adaptation compares EYE_MV with EYE_MIN_MV. -/
  | laneAdapt (q l : Fin 4) (eye : BitVec 16)
  /-- HOUR_TICK (R429): At each hour boundary the powered-hours counters are written. -/
  | hourTick
  /-- RAIL_DROP (R460): A non-always-on rail below 90 % for 2 µs causes a device reset. -/
  | railDrop
  /-- RAIL_RECOVER (R460): A rail back in range for 1 ms releases the reset and boot runs. -/
  | railRecover
  /-- AON_RAIL_DROP (R460): An always-on rail below 90 % causes a power-on reset. -/
  | aonRailDrop (straps : Straps)
  /-- TEST_EN_HIGH (R457): TEST_EN high holds a power-on reset. -/
  | testEnHigh (straps : Straps)
  /-- UNCORR_ERROR (R439): An uncorrectable error in unrebuildable state takes the block to SAFE. -/
  | uncorrError (b : Fin 58) (mem sub : BitVec 8) (nbits : BitVec 16) (addr : BitVec 64)
  /-- AON_CORRECTION (R441): Triplicated copies that disagree are corrected by majority, raising AON_CORR. -/
  | aonCorrection (a : BitVec 26) (majority : Bool)
  /-- ERR_STAT_CLEAR (R436): Writing 1 to ERR_STAT.VALID clears the capture. -/
  | errStatClear (b : Fin 58)
  /-- ERRLOG_POP (R438): A read of EVT_ERRLOG_W0 pops the head log entry. -/
  | errlogPop (q : Req)
  /-- CAUSE_STAT_CLEAR (R433): Writing 1 to EVT_CAUSE_STAT.LATCHED clears the latch, COUNT and SRC_FIRST.VALID. -/
  | causeStatClear (c : Fin 256)
  /-- PEND_CLEAR (R434): A W1C write clears pending event bits for a target. -/
  | pendClear (w : Fin 20) (v : Word)
  /-- TAP_RESET (R444): TRST_N or five TMS-high TCKs reset the TAP to IDCODE. -/
  | tapReset
  /-- IR_LOAD (R444): A JTAG instruction is loaded and selects its data register. -/
  | irLoad (ir : BitVec 8)
  /-- DBG_ACCESS (R445): At Update-DR one 32-bit owner-view access is made. -/
  | dbgAccess (dr : BitVec 64) (x : WEnv)
  /-- DBG_CHAL (R446): DBG_CTRL.CHAL builds a 60 s challenge. -/
  | dbgChal (signer : BitVec 2)
  /-- DBG_VERIFY (R446): DBG_CTRL.VERIFY starts signature verification. -/
  | dbgVerify (signer : BitVec 2)
  /-- DBG_VERIFY_DONE (R446): Verification unlocks and zeroizes, or fails and may lock out. -/
  | dbgVerifyDone
  /-- DBG_CHAL_EXPIRE (R446): A challenge expires after 60 s. -/
  | dbgChalExpire
  /-- THR_HALT (R448): DBG_THR_CTRL.HALT halts the named thread. -/
  | thrHalt (t : Fin 1536)
  /-- THR_RESUME (R448): DBG_THR_CTRL.RESUME resumes a halted thread. -/
  | thrResume (t : Fin 1536)
  /-- THR_STEP (R448): DBG_THR_CTRL.STEP runs one instruction and halts again. -/
  | thrStep (t : Fin 1536)
  /-- BKPT_HIT (R449): A thread about to issue at a breakpoint PC halts. -/
  | bkptHit (c : Fin 12) (e : Fin 16)
  /-- THR_DATA_READ (R450): A read of DBG_THR_DATA_0 reads a halted thread's register and latches the high word. -/
  | thrDataRead (q : Req)
  /-- THR_DATA_WRITE (R450): A write of DBG_THR_DATA_1 writes a halted thread's register. -/
  | thrDataWrite (hi : Word)
  /-- DBG_MEM_READ (R450): A read of DBG_MEM_DATA_0 reads 8 bytes of cluster memory. -/
  | dbgMemRead (q : Req)
  /-- DBG_MEM_WRITE (R450): A write of DBG_MEM_DATA_1 writes 8 bytes of cluster memory. -/
  | dbgMemWrite (hi : Word)
  /-- PE_REFCLK_PRESENT (R350): A host port's reference clock becomes present while its PERST# is already deasserted, so the port leaves RESET for TRAINING. -/
  | peRefclkPresent (h : Fin 4)
  /-- TEN_MHZ_RETURN (R54): The 10 MHz input of a source that uses it becomes present again, and TEN_MHZ_OK returns to 1 with frequency taken from 10 MHz. -/
  | tenMhzReturn
  /-- TCP_KEEPALIVE_TIMEOUT (R283): A TCP connection's keepalive limit is reached, and the connection ends with TIMEOUT. -/
  | tcpKeepaliveTimeout (id : BitVec 14)
  /-- STANDBY_REACHED (R421): Entry into STANDBY completes, PWR_STAT.STATE changes and BUSY clears, and any wake source that arrived during entry is acted on. -/
  | standbyReached
  deriving DecidableEq, Repr

end Sys2Proof
end

