-- ==== Sys2Proof/Decode.lean ====
section
/-! DEFINITION. The commands that a word spells by the bits of spec/opcode_table.json: the table gives no row any
bits, so no word spells a command. Beside it, the command that a word of Stream Link's return lane is (R103). -/
namespace Sys2Proof

/-- The command a word of `nbits` bits spells: none, since no row of the table has bits. -/
def decodeTableWord (_nbits _w : Nat) : Option Instr := none

/-- CRC8 of a return word is the CRC-8 of its bits [63:8] (R103). -/
def retCrcOk (w : BitVec 64) : Bool :=
  Sys2Proof.Machine.crc8 (Sys2Proof.Machine.bytesBE 7 (w.toNat / 256)) = w.extractLsb' 0 8

/-- The command that a return word is (Table 04-10). -/
def readReturnWord (w : BitVec 64) : Instr :=
  let arg := w.extractLsb' 48 12
  let value := w.extractLsb' 8 40
  if retCrcOk w then
    match (w.extractLsb' 60 4).toNat with
    | 0 => .retIdle
    | 1 => .retCredit value
    | 2 => .retAck value
    | 3 => .retNak value
    | 4 => .retTrain arg
    | 5 => .retRetrain
    | 6 => .retHealth arg value
    | _ => .retBadWord w
  else .retBadWord w

end Sys2Proof
end

