-- ==== Sys2Proof/Machine/RegCard.lean ====
section
/-! DEFINITION. What a register card says, and the owner address map (02_registers_and_views.md R32, R34–R39, R46). -/
namespace Sys2Proof.Machine

/-- One register card: where its words lie from the instance base (`first`, and (stride, count) of each index), the
reset value, and the masks of the bits that each access type and class covers. `l`, `s` and `q` are the writable bits
of class live, staged and quiesced; `rws` the bits only power-on resets; `wo` the bits that read 0; `cnt` a 64-bit
counter of two words; `clr` a counter that its low-word read clears (R43); `ok` the stated ranges and encodings of a
written word (R472). -/
structure Card where
  name : String
  first : Nat
  dims : List (Nat × Nat) := []
  rst : Nat := 0
  l : Nat := 0
  s : Nat := 0
  q : Nat := 0
  w1c : Nat := 0
  rc : Nat := 0
  rws : Nat := 0
  wo : Nat := 0
  cnt : Bool := false
  clr : Bool := false
  ok : Nat → Bool := fun _ => true

/-- A field within its stated range. -/
def inR (w hi lo a b : Nat) : Bool := decide (a ≤ bits w hi lo) && decide (bits w hi lo ≤ b)

/-- A power of two. -/
def isPow2 (n : Nat) : Bool := n ≠ 0 && 2 ^ n.log2 = n

/-- Whether offset `d` from the first word is a word the indices reach. -/
def dimsHit : List (Nat × Nat) → Nat → Bool
  | [], d => d = 0
  | (st, n) :: ds, d => decide (d / st < n) && dimsHit ds (d % st)

/-- Whether a card covers an offset. A counter's high word lies 4 above its low word (R42). -/
def Card.hit (c : Card) (off : Nat) : Bool :=
  decide (c.first ≤ off) &&
    (dimsHit c.dims (off - c.first) ||
      (c.cnt && decide (c.first + 4 ≤ off) && dimsHit c.dims (off - c.first - 4)))

/-- Whether the offset is the high word of a 64-bit counter. -/
def Card.isHigh (c : Card) (off : Nat) : Bool := c.cnt && !(dimsHit c.dims (off - c.first))

/-- One row of Table 02-1: base, end, block code, stride and count of its instances, and whether it has the common
header. -/
structure BlkRow where
  base : Nat
  last : Nat
  code : Nat
  stride : Nat
  n : Nat
  hdr : Bool := true

/-- Table 02-1 — Owner address map. -/
def blkTable : List BlkRow := [
  ⟨0x0000000, 0x00FFFFF, 0x01, 0x100000, 1, true⟩,
  ⟨0x0100000, 0x01FFFFF, 0x02, 0x100000, 1, true⟩,
  ⟨0x0200000, 0x02FFFFF, 0x03, 0x100000, 1, true⟩,
  ⟨0x0300000, 0x03FFFFF, 0x04, 0x100000, 1, true⟩,
  ⟨0x0400000, 0x04FFFFF, 0x05, 0x100000, 1, true⟩,
  ⟨0x0500000, 0x050FFFF, 0x06, 0x1000, 16, true⟩,
  ⟨0x0600000, 0x06FFFFF, 0x07, 0x100000, 1, true⟩,
  ⟨0x0700000, 0x07FFFFF, 0x08, 0x100000, 1, true⟩,
  ⟨0x0800000, 0x0BFFFFF, 0x09, 0x100000, 4, true⟩,
  ⟨0x0C00000, 0x0FFFFFF, 0x0A, 0x100000, 4, true⟩,
  ⟨0x1000000, 0x13FFFFF, 0x0B, 0x100000, 4, true⟩,
  ⟨0x1400000, 0x15FFFFF, 0x0C, 0x200000, 1, true⟩,
  ⟨0x1600000, 0x16FFFFF, 0x0D, 0x100000, 1, true⟩,
  ⟨0x1700000, 0x17FFFFF, 0x0E, 0x100000, 1, true⟩,
  ⟨0x1800000, 0x1BFFFFF, 0x0F, 0x400000, 1, true⟩,
  ⟨0x1C00000, 0x27FFFFF, 0x10, 0x100000, 12, true⟩,
  ⟨0x2800000, 0x28FFFFF, 0x11, 0x100000, 1, true⟩,
  ⟨0x2900000, 0x29FFFFF, 0x12, 0x100000, 1, true⟩,
  ⟨0x2A00000, 0x2AFFFFF, 0x13, 0x100000, 1, false⟩,
  ⟨0x2B00000, 0x2BFFFFF, 0x14, 0x100000, 1, true⟩,
  ⟨0x2C00000, 0x2CFFFFF, 0x15, 0x100000, 1, true⟩,
  ⟨0x2D00000, 0x2DFFFFF, 0x16, 0x100000, 1, true⟩,
  ⟨0x2E00000, 0x2FFFFFF, 0x17, 0x200000, 1, true⟩,
  ⟨0x3000000, 0x30FFFFF, 0x18, 0x100000, 1, true⟩]

/-- A block instance: base of the instance, its size, block code, instance number, header present. -/
structure Inst where
  base : Nat
  size : Nat
  code : Nat
  inst : Nat
  hdr : Bool
  deriving DecidableEq, Repr

/-- The block instance that an owner-view address lies in; none in the reserved ranges (R7, Table 02-1). -/
def instAt (a : Nat) : Option Inst :=
  match blkTable.find? (fun r => decide (r.base ≤ a) && decide (a ≤ r.last)) with
  | none => none
  | some r =>
    let i := (a - r.base) / r.stride
    some ⟨r.base + i * r.stride, r.stride, r.code, i, r.hdr⟩

/-- Base of the block instance of a code (Table 02-1). -/
def baseOf (code inst : Nat) : Nat :=
  match blkTable.find? (fun r => r.code = code) with
  | none => 0
  | some r => r.base + inst * r.stride

/-- The SRC of the block kind for an instance base (Table 21-1: KIND 0xD, [15:8] code, [7:0] instance). -/
def blkSrc (base : Nat) : Nat :=
  match instAt base with
  | none => 0
  | some i => 0xD0000 + i.code * 256 + i.inst

end Sys2Proof.Machine
end

