-- ==== Sys2Proof/Machine/RegMap.lean ====
section
/-! DEFINITION. The register cards of every block: offset from the instance base, reset value, and the bits of each
access type and class, as the register cards of the manual give them (02_registers_and_views.md R34–R39, R46, and the
cards of each chapter). -/
namespace Sys2Proof.Machine

/-- The cards of Header. -/
def cardsHeader : List Card := [
  { name := "BLKID", first := 0x0 },
  { name := "CTRL", first := 0x4, wo := 0xF },
  { name := "STATUS", first := 0x8, rst := 0x2 },
  { name := "REJECT_ADDR", first := 0xC, w1c := 0x80000000 },
  { name := "REJECT_CNT", first := 0x10, rc := 0xFFFFFFFF },
  { name := "ERR_STAT", first := 0x14, w1c := 0x80000000 },
  { name := "ERR_COUNT", first := 0x18 },
  { name := "ERR_SYND", first := 0x1C },
  { name := "ERR_ADDR", first := 0x20, dims := [(0x4, 2)] },
  { name := "ERR_TS_W", first := 0x28, dims := [(0x4, 3)] }]

/-- The cards of Gen. -/
def cardsGen : List Card := [
  { name := "GEN_PARTID", first := 0x40 },
  { name := "GEN_OWNER", first := 0x44 },
  { name := "GEN_DEVRST", first := 0x48, l := 0xFFFFFFFF, wo := 0xFFFFFFFF },
  { name := "GEN_SEM", first := 0x80, dims := [(0x4, 16)], l := 0x3 }]

/-- The cards of Evt. -/
def cardsEvt : List Card := [
  { name := "EVT_ERRLOG_STAT", first := 0x40 },
  { name := "EVT_ERRLOG_LOST", first := 0x44, rc := 0xFFFFFFFF },
  { name := "EVT_ERRLOG_W", first := 0x80, dims := [(0x4, 8)] },
  { name := "EVT_MGC_PEND", first := 0x100, dims := [(0x4, 8)], w1c := 0xFFFFFFFF },
  { name := "EVT_OWN_PEND", first := 0x120, dims := [(0x4, 8)], w1c := 0xFFFFFFFF },
  { name := "EVT_CNT", first := 0x200, dims := [(0x8, 4)], cnt := true },
  { name := "EVT_CAUSE_STAT", first := 0x1000, dims := [(0x10, 256)], w1c := 0x80000000 },
  { name := "EVT_CAUSE_SRC_FIRST", first := 0x1004, dims := [(0x10, 256)] },
  { name := "EVT_CAUSE_SRC_LAST", first := 0x1008, dims := [(0x10, 256)] },
  { name := "EVT_CAUSE_ROUTE", first := 0x100C, dims := [(0x10, 256)], l := 0xF3FF03FF }]

/-- The cards of Tim. -/
def cardsTim : List Card := [
  { name := "TIM_NOW_W", first := 0x40, dims := [(0x4, 3)] },
  { name := "TIM_SRC", first := 0x4C, rst := 0x30, l := 0xFF, rws := 0xFF, ok := fun w => bits w 7 4 ≠ 0 && bits w 2 0 < 6 },
  { name := "TIM_QUALITY", first := 0x50 },
  { name := "TIM_OFFSET_EST", first := 0x54, rst := 0xFFFFFFFF },
  { name := "TIM_QCFG", first := 0x58, rst := 0x2140A64, l := 0xFFFFFFFF, rws := 0xFFFFFFFF, ok := fun w => bits w 31 24 ≠ 0 && bits w 15 8 ≠ 0 && bits w 31 24 < bits w 23 16 },
  { name := "TIM_HOLDOVER", first := 0x5C, rst := 0x3E80032, l := 0xFFFFFFFF, rws := 0xFFFFFFFF, ok := fun w => bits w 15 0 ≠ 0 },
  { name := "TIM_FREQ_ADJ", first := 0x60, l := 0xFFFFFFFF, rws := 0xFFFFFFFF, ok := fun w => (signed 32 w).natAbs ≤ 500000000 },
  { name := "TIM_SETV_W", first := 0x64, dims := [(0x4, 3)], l := 0xFFFFFFFF },
  { name := "TIM_STEP", first := 0x70, dims := [(0x4, 2)], l := 0xFFFFFFFF },
  { name := "TIM_ADJ_CTRL", first := 0x78, l := 0x4, w1c := 0x10, wo := 0x3 },
  { name := "TIM_PPS_IN", first := 0x80, dims := [(0x4, 2)], l := 0xC000FFFF, rws := 0xC000FFFF },
  { name := "TIM_PPS_OUT", first := 0x88, dims := [(0x4, 2)], rst := 0x64, l := 0xC007FFFF, rws := 0xC007FFFF, ok := fun w => 1 ≤ bits w 18 0 && bits w 18 0 ≤ 500000 },
  { name := "TIM_PPS_OUT_PH", first := 0x90, dims := [(0x4, 2)], l := 0xFFFFFFFF, rws := 0xFFFFFFFF, ok := fun w => (signed 32 w).natAbs ≤ 1000000000 },
  { name := "TIM_SERVO", first := 0x98, l := 0xFFFFFFFF },
  { name := "TIM_UTC", first := 0x9C, l := 0xE000FFFF, rws := 0xE000FFFF, ok := fun w => !(bit w 30 && bit w 29) },
  { name := "TIM_LEAP_AT_0", first := 0xA0, l := 0xFFFFFFFF, rws := 0xFFFFFFFF },
  { name := "TIM_LEAP_AT_1", first := 0xA4, l := 0xFFFF, rws := 0xFFFF },
  { name := "TIM_PTM_CTRL", first := 0x100, dims := [(0x20, 4)], rst := 0x64, l := 0x8000FFFF, ok := fun w => 1 ≤ bits w 15 0 && bits w 15 0 ≤ 1000 },
  { name := "TIM_PTM_STAT", first := 0x104, dims := [(0x20, 4)], w1c := 0x40000000 },
  { name := "TIM_PTM_DEV_W", first := 0x108, dims := [(0x20, 4), (0x4, 3)] },
  { name := "TIM_PTM_HOST", first := 0x114, dims := [(0x20, 4), (0x4, 2)] },
  { name := "TIM_PTM_LINK", first := 0x11C, dims := [(0x20, 4)] }]

/-- The cards of Tsu. -/
def cardsTsu : List Card := [
  { name := "TSU_CFG", first := 0x40, s := 0x3F },
  { name := "TSU_ASYM", first := 0x44, dims := [(0x4, 2)], s := 0xFFFFFFFF, ok := fun w => (signed 32 w).natAbs ≤ 1000000 },
  { name := "TSU_PEER_DELAY", first := 0x4C, l := 0xFFFFFFFF },
  { name := "TSU_CAL", first := 0x50, wo := 0x1 },
  { name := "TSU_DESKEW", first := 0x54 },
  { name := "TSU_TXTS_W", first := 0x60, dims := [(0x4, 3)] },
  { name := "TSU_TXTS_TAG", first := 0x6C },
  { name := "TSU_TXTS_LOST", first := 0x70, rc := 0xFFFFFFFF },
  { name := "TSU_ONESTEP_SKIP", first := 0x74, rc := 0xFFFFFFFF }]

/-- The cards of Tail. -/
def cardsTail : List Card := [
  { name := "TAIL_CFG", first := 0x40, rst := 0x4003E8, q := 0xE07FFFFF, ok := fun w => bits w 30 29 < 2 && inR w 22 16 1 64 && inR w 15 0 100 65535 },
  { name := "TAIL_EPOCH", first := 0x44, q := 0xFFFFFFFF },
  { name := "TAIL_CP_CFG", first := 0x48, rst := 0x3E82710, l := 0xFFFFFFFF, ok := fun w => inR w 31 16 1 60000 && bits w 31 16 ≤ bits w 15 0 },
  { name := "TAIL_CP_CTRL", first := 0x4C, wo := 0x3 },
  { name := "TAIL_DIGEST_CFG", first := 0x50, rst := 0x400, l := 0x7FFF, ok := fun w => inR w 14 0 1 16384 },
  { name := "TAIL_RING_BASE", first := 0x54, q := 0xFFFFFFFF },
  { name := "TAIL_RING_SIZE", first := 0x58, q := 0xFFFF, ok := fun w => bits w 15 0 ≤ 32768 },
  { name := "TAIL_RING_FILL", first := 0x5C },
  { name := "TAIL_RING_HIGH", first := 0x60, rst := 0xFFFFFFFF, l := 0xFFFFFFFF },
  { name := "TAIL_RC_CFG", first := 0x80, dims := [(0x4, 16)], s := 0x7 },
  { name := "TAIL_CP_UNIT_W", first := 0x100, dims := [(0x4, 16)] },
  { name := "TAIL_CNT", first := 0x200, dims := [(0x8, 6)], cnt := true },
  { name := "TAIL_NEXT_INDEX", first := 0x240, cnt := true },
  { name := "TAIL_DRAIN_BASE_0", first := 0x300, q := 0xFFFFFFFF, ok := fun w => bits w 5 0 = 0 },
  { name := "TAIL_DRAIN_BASE_1", first := 0x304, q := 0xFFFFFFFF },
  { name := "TAIL_DRAIN_SIZE", first := 0x308, q := 0xFFFFFFFF, ok := fun w => isPow2 w && 1024 ≤ w && w ≤ 16777216 },
  { name := "TAIL_DRAIN_PROD", first := 0x30C },
  { name := "TAIL_DRAIN_CONS", first := 0x310, l := 0xFFFFFFFF },
  { name := "TAIL_CERT_LEN", first := 0x400 },
  { name := "TAIL_CERT_W", first := 0x1000, dims := [(0x4, 256)] }]

/-- The cards of Str. -/
def cardsStr : List Card := [
  { name := "STR_CFG", first := 0x40, rst := 0x64, q := 0x8000FFFF, ok := fun w => inR w 15 0 1 10000 },
  { name := "STR_LINK", first := 0x44, wo := 0x80000000 },
  { name := "STR_LANE", first := 0x48, dims := [(0x4, 4)], rst := 0x3, q := 0x7 },
  { name := "STR_FSEQ", first := 0x60, dims := [(0x8, 3)], cnt := true },
  { name := "STR_HEALTH", first := 0x78 },
  { name := "STR_CNT", first := 0x80, dims := [(0x8, 7)], cnt := true }]

/-- The cards of Mac. -/
def cardsMac : List Card := [
  { name := "MAC_QUAD_MODE", first := 0x40, q := 0xF },
  { name := "PCS_LANE_MAP", first := 0x44, rst := 0xE4E400, q := 0xFFFFFF },
  { name := "MAC_MOD_CTRL", first := 0x60, rst := 0x40000001, l := 0x4000FF03, wo := 0x80000000, ok := fun w => bits w 1 0 < 3 },
  { name := "MAC_MOD_XFER", first := 0x64, l := 0x60FFFFFF, wo := 0x80000000 },
  { name := "MAC_MOD_STAT", first := 0x68, w1c := 0x1 },
  { name := "MAC_MOD_BUF", first := 0x100, dims := [(0x4, 32)], l := 0xFFFFFFFF },
  { name := "MAC_PORT_CTRL", first := 0x1000, dims := [(0x1000, 4)], l := 0x1, wo := 0x2 },
  { name := "MAC_PORT_CFG", first := 0x1004, dims := [(0x1000, 4)], rst := 0x3E80200, l := 0xFFFF0330, ok := fun w => inR w 31 16 1 10000 && bits w 9 8 < 3 },
  { name := "MAC_LINK", first := 0x1008, dims := [(0x1000, 4)] },
  { name := "MAC_FRAME_CFG", first := 0x100C, dims := [(0x1000, 4)], rst := 0x5EE, s := 0x3FFF, ok := fun w => inR w 13 0 64 9728 },
  { name := "MAC_FC_CFG", first := 0x1010, dims := [(0x1000, 4)], s := 0xF0FF0700, ok := fun w => bits w 31 30 < 3 },
  { name := "MAC_FC_THR", first := 0x1014, dims := [(0x1000, 4)], rst := 0x1000080, s := 0xFFFFFFFF, ok := fun w => bits w 15 0 < bits w 31 16 },
  { name := "MAC_FC_WD", first := 0x1018, dims := [(0x1000, 4)], rst := 0x640014, l := 0xFFFFFFFF, ok := fun w => bits w 31 16 ≠ 0 },
  { name := "MAC_FC_QMAP_0", first := 0x1020, dims := [(0x1000, 4)], rst := 0x11110000, s := 0x77777777 },
  { name := "MAC_FC_QMAP_1", first := 0x1024, dims := [(0x1000, 4)], rst := 0x33332222, s := 0x77777777 },
  { name := "MAC_FC_QMAP_2", first := 0x1028, dims := [(0x1000, 4)], rst := 0x55554444, s := 0x77777777 },
  { name := "MAC_FC_QMAP_3", first := 0x102C, dims := [(0x1000, 4)], rst := 0x77776666, s := 0x77777777 },
  { name := "MAC_FC_STAT", first := 0x1030, dims := [(0x1000, 4)] },
  { name := "MAC_SEC_CFG", first := 0x1040, dims := [(0x1000, 4)], rst := 0x8200000, s := 0xFF3F0000, ok := fun w => bits w 27 26 < 3 },
  { name := "MAC_SEC_REPLAY", first := 0x1044, dims := [(0x1000, 4)], rst := 0x80000000, s := 0xBFFFFFFF },
  { name := "MAC_SEC_SCI", first := 0x1048, dims := [(0x1000, 4), (0x4, 2)], s := 0xFFFFFFFF },
  { name := "MAC_SA_SEL", first := 0x1050, dims := [(0x1000, 4)], l := 0x1F3, wo := 0x30000000 },
  { name := "MAC_SA_W0", first := 0x1054, dims := [(0x1000, 4)], l := 0x80003FFF },
  { name := "MAC_SA_W1", first := 0x1058, dims := [(0x1000, 4)], l := 0xFFFFFFFF },
  { name := "MAC_SA_W23", first := 0x105C, dims := [(0x1000, 4), (0x4, 2)], l := 0xFFFFFFFF },
  { name := "MAC_SA_W45", first := 0x1064, dims := [(0x1000, 4), (0x4, 2)], l := 0xFFFFFFFF },
  { name := "MAC_STAT", first := 0x1200, dims := [(0x1000, 4), (0x8, 21)], cnt := true, clr := true },
  { name := "PCS_CNT", first := 0x1300, dims := [(0x1000, 4), (0x8, 3)], cnt := true },
  { name := "PCS_LANE_CFG", first := 0x8000, dims := [(0x100, 4)], rst := 0x3, q := 0x7 },
  { name := "PCS_LANE_STAT", first := 0x8004, dims := [(0x100, 4)] }]

/-- The cards of Prs. -/
def cardsPrs : List Card := [
  { name := "PRS_BANK", first := 0x40 },
  { name := "PRS_LIMITS", first := 0x44, rst := 0x3F, s := 0x3F },
  { name := "PRS_SLOW_CFG", first := 0x48, rst := 0x1, s := 0xFFF, ok := fun w => bits w 11 0 ≠ 0 },
  { name := "PRS_SCRUB", first := 0x4C, rst := 0x80000064, l := 0x8000FFFF, ok := fun w => inR w 15 0 10 65535 },
  { name := "PRS_CNT", first := 0x100, dims := [(0x8, 16)], cnt := true },
  { name := "PRS_BANK_START", first := 0x10000, dims := [(0x80000, 2), (0x4, 4)], l := 0xFFFFFFFF },
  { name := "PRS_BANK_STATE", first := 0x11000, dims := [(0x80000, 2), (0x10, 256), (0x4, 4)], l := 0xFFFFFFFF },
  { name := "PRS_BANK_TRANS", first := 0x18000, dims := [(0x80000, 2), (0x10, 2048), (0x4, 4)], l := 0xFFFFFFFF },
  { name := "PRS_BANK_EXT", first := 0x20000, dims := [(0x80000, 2), (0x4, 4096)], l := 0xFFFFFFFF }]

/-- The cards of Mat. -/
def cardsMat : List Card := [
  { name := "MAT_CFG", first := 0x40, rst := 0x80000064, l := 0x8000FFFF, ok := fun w => inR w 15 0 10 65535 },
  { name := "MAT_SWAP", first := 0x44, wo := 0x3 },
  { name := "MAT_BANK", first := 0x48 },
  { name := "MAT_RECIRC", first := 0x4C, rc := 0x1FF0000 },
  { name := "MAT_CNT", first := 0x100, dims := [(0x8, 14)], cnt := true },
  { name := "RWR_CNT", first := 0x200, dims := [(0x8, 5)], cnt := true },
  { name := "MAT_CLASS_CNT", first := 0x800, dims := [(0x8, 256)], cnt := true },
  { name := "MAT_IN_BANK", first := 0x10000, dims := [(0x40000, 2), (0x4, 65536)], l := 0xFFFFFFFF },
  { name := "MAT_EG_BANK", first := 0x90000, dims := [(0x20000, 2), (0x4, 32768)], l := 0xFFFFFFFF }]

/-- The cards of Fwd. -/
def cardsFwd : List Card := [
  { name := "FWD_CFG", first := 0x40, rst := 0x812C0064, l := 0xFFFFFFFF, ok := fun w => bits w 30 16 ≠ 0 && inR w 15 0 10 65535 },
  { name := "FWD_NOTIFY_W", first := 0x80, dims := [(0x4, 4)] },
  { name := "FWD_NOTIFY_LEVEL", first := 0x90 },
  { name := "FWD_NOTIFY_LOST", first := 0x94, rc := 0xFFFFFFFF },
  { name := "FWD_CMD", first := 0x100, dims := [(0x100, 2)], l := 0xFFFF0000, wo := 0xFFFF0000 },
  { name := "FWD_CMD_STAT", first := 0x104, dims := [(0x100, 2)] },
  { name := "FWD_CMD_SLOT", first := 0x108, dims := [(0x100, 2)], l := 0x3FFFFFF },
  { name := "FWD_AUX_W", first := 0x110, dims := [(0x100, 2), (0x4, 3)], l := 0xFFFFFFFF },
  { name := "FWD_ENTRY_W", first := 0x180, dims := [(0x100, 2), (0x4, 32)], l := 0xFFFFFFFF },
  { name := "FWD_TDIR_W0", first := 0x1000, dims := [(0x100, 4), (0x8, 32)], l := 0xFFFFF000 },
  { name := "FWD_TDIR_W1", first := 0x1004, dims := [(0x100, 4), (0x8, 32)], l := 0xFFFF801F },
  { name := "FWD_ETDIR_W0", first := 0x1400, dims := [(0x80, 4), (0x8, 16)], l := 0xFFFFF000 },
  { name := "FWD_ETDIR_W1", first := 0x1404, dims := [(0x80, 4), (0x8, 16)], l := 0xFFFF801F },
  { name := "FWD_DEEP_DIR_W0", first := 0x1600, dims := [(0x10, 8)], l := 0xFFFFF000 },
  { name := "FWD_DEEP_DIR_W1", first := 0x1604, dims := [(0x10, 8)], l := 0xFFFFFFFF },
  { name := "FWD_DEEP_DIR_W2", first := 0x1608, dims := [(0x10, 8)], l := 0x1F, ok := fun w => inR w 4 0 10 24 },
  { name := "FWD_L2_CFG", first := 0x2000, dims := [(0x100, 4)], rst := 0xA003000, l := 0xF007000 },
  { name := "FWD_LPM_UNITS", first := 0x2004, dims := [(0x100, 4)] },
  { name := "FWD_PORT_LEARN_CFG", first := 0x2010, dims := [(0x100, 4), (0x8, 4)], rst := 0x8003FFFF, l := 0xC003FFFF },
  { name := "FWD_PORT_LEARN_CNT", first := 0x2014, dims := [(0x100, 4), (0x8, 4)] },
  { name := "FWD_INJ_LEARN_CFG", first := 0x2030, dims := [(0x100, 4)], rst := 0x3FFFF, l := 0xC003FFFF },
  { name := "FWD_INJ_LEARN_CNT", first := 0x2034, dims := [(0x100, 4)] },
  { name := "FWD_CNT", first := 0x3000, dims := [(0x100, 4), (0x8, 10)], cnt := true },
  { name := "FWD_DEEP_CNT", first := 0x3400, dims := [(0x8, 4)], cnt := true }]

/-- The cards of Seq. -/
def cardsSeq : List Card := [
  { name := "SEQ_CFG", first := 0x40, rst := 0xC8, q := 0x80001FFF, ok := fun w => inR w 12 0 50 5000 },
  { name := "SEQ_NEXT", first := 0x44, dims := [(0x4, 2)], q := 0xFFFFFFFF },
  { name := "SEQ_LEVEL", first := 0x4C, rc := 0x1FFF },
  { name := "SEQ_LATE_MAX", first := 0x50, rc := 0xFFFFFFFF },
  { name := "SEQ_CNT", first := 0x100, dims := [(0x8, 5)], cnt := true }]

/-- The cards of Prf. -/
def cardsPrf : List Card := [
  { name := "PRF_CFG", first := 0x40, rst := 0xFA000064, s := 0xFFC0FFFF, ok := fun w => inR w 31 22 1 1000 && inR w 15 0 1 65535 },
  { name := "PRF_GRP", first := 0x44 },
  { name := "PRF_PORT_CFG", first := 0x100, dims := [(0x10, 16)], rst := 0x5DC0000, s := 0xFFFF0000, ok := fun w => inR w 31 16 200 65535 },
  { name := "PRF_PORT_STAT", first := 0x104, dims := [(0x10, 16)], wo := 0x20000000 },
  { name := "PRF_PORT_ERR", first := 0x108, dims := [(0x10, 16)], rc := 0xFFFF0000 },
  { name := "PRF_PORT_ADJ", first := 0x10C, dims := [(0x10, 16)] },
  { name := "PRF_HELD", first := 0x200, dims := [(0x8, 4)] },
  { name := "PRF_PEAK", first := 0x204, dims := [(0x8, 4)], rc := 0x1FFFF },
  { name := "PRF_CNT", first := 0x400, dims := [(0x80, 4), (0x8, 7)], cnt := true },
  { name := "PRF_GRP_CNT", first := 0x600, dims := [(0x8, 2)], cnt := true },
  { name := "PRF_RULE", first := 0x1000, dims := [(0x8, 256), (0x4, 2)], s := 0xFFFFFFFF }]

/-- The cards of Sch. -/
def cardsSch : List Card := [
  { name := "SCH_DEEP_BASE", first := 0x40, q := 0xFFFFFFFF },
  { name := "SCH_DEEP_SIZE", first := 0x44, q := 0xFFFF },
  { name := "SCH_DEEP_HIGH", first := 0x48, rst := 0xFFFFFFFF, l := 0xFFFFFFFF },
  { name := "SCH_DEEP_USED", first := 0x4C },
  { name := "SCH_POOL", first := 0x50, rst := 0x3E000 },
  { name := "SCH_DROP_FLAGS", first := 0x100, dims := [(0x4, 16)], w1c := 0xFFFFFFFF },
  { name := "SCH_CNT", first := 0x200, dims := [(0x8, 3)], cnt := true },
  { name := "SCH_PORT_CFG", first := 0x10000, dims := [(0x1000, 16)], rst := 0x1400, l := 0x3F3F, ok := fun w => bits w 5 0 ≤ 32 },
  { name := "SCH_Q_DRR", first := 0x10100, dims := [(0x1000, 16), (0x20, 32)], rst := 0x600, l := 0xFFFFF, ok := fun w => inR w 19 0 64 1048575 },
  { name := "SCH_Q_GUAR", first := 0x10104, dims := [(0x1000, 16), (0x20, 32)], l := 0x3FFFF },
  { name := "SCH_Q_MAX", first := 0x10108, dims := [(0x1000, 16), (0x20, 32)], rst := 0xC0000400, l := 0xFF03FFFF },
  { name := "SCH_Q_DEEP", first := 0x1010C, dims := [(0x1000, 16), (0x20, 32)], l := 0x80FFFFFF },
  { name := "SCH_Q_CBS", first := 0x10110, dims := [(0x1000, 16), (0x20, 32)], l := 0xC007FFFF, ok := fun w => bits w 18 0 ≤ 400000 && (!(bit w 31) || bits w 18 0 ≠ 0) },
  { name := "SCH_Q_HICREDIT", first := 0x10114, dims := [(0x1000, 16), (0x20, 32)], rst := 0x600, l := 0xFFFFFF },
  { name := "SCH_Q_STAT", first := 0x10118, dims := [(0x1000, 16), (0x20, 32)] },
  { name := "SCH_Q_CREDIT", first := 0x1011C, dims := [(0x1000, 16), (0x20, 32)] },
  { name := "SCH_QCNT", first := 0x30000, dims := [(0x1000, 16), (0x80, 32), (0x8, 10)], cnt := true },
  { name := "SCH_MC_GROUP", first := 0x40000, dims := [(0x4, 4096)], l := 0x80007FFF },
  { name := "SCH_VPORT_BUF_W0", first := 0x50000, dims := [(0x8, 269)], l := 0x3FFFF },
  { name := "SCH_VPORT_BUF_W1", first := 0x50004, dims := [(0x8, 269)], rst := 0x400, l := 0xFF03FFFF },
  { name := "SCH_ADMIT_DROP", first := 0x60000, dims := [(0x8, 285)], cnt := true },
  { name := "SCH_MC_ENTRY_W0", first := 0x80000, dims := [(0x8, 32768)], l := 0xFFFFFFC0, ok := fun w => bits w 28 20 ≤ 284 },
  { name := "SCH_MC_ENTRY_W1", first := 0x80004, dims := [(0x8, 32768)], l := 0x7FFF },
  { name := "ORB_CTRL", first := 0x100000, dims := [(0x10000, 16)], l := 0xC0000000, wo := 0x20000000 },
  { name := "ORB_STAT", first := 0x100004, dims := [(0x10000, 16)] },
  { name := "ORB_BANK_W0", first := 0x100020, dims := [(0x10000, 16), (0x20, 2)], l := 0xFFFFFFFF },
  { name := "ORB_BANK_W1", first := 0x100024, dims := [(0x10000, 16), (0x20, 2)], l := 0xFFFF },
  { name := "ORB_BANK_W2", first := 0x100028, dims := [(0x10000, 16), (0x20, 2)], l := 0x3FFFFFFF, ok := fun w => bits w 29 0 ≤ 999999999 },
  { name := "ORB_BANK_W3", first := 0x10002C, dims := [(0x10000, 16), (0x20, 2)], l := 0x3FFFFFFF, ok := fun w => inR w 29 0 1000 1000000000 },
  { name := "ORB_BANK_W4", first := 0x100030, dims := [(0x10000, 16), (0x20, 2)], l := 0x7FF, ok := fun w => inR w 10 0 1 1024 },
  { name := "ORB_ENTRY", first := 0x108000, dims := [(0x10000, 16), (0x2000, 2), (0x8, 1024), (0x4, 2)], l := 0xFFFFFFFF },
  { name := "POL_SEL", first := 0x200000, l := 0x1FFF, wo := 0x30000000 },
  { name := "POL_W0", first := 0x200004, l := 0xF0FFFFFF },
  { name := "POL_W1", first := 0x200008, l := 0xFFFFFF },
  { name := "POL_W2", first := 0x20000C, l := 0xFFFFFF },
  { name := "POL_W3", first := 0x200010, l := 0xFFFFFF },
  { name := "POL_W45", first := 0x200014, dims := [(0x4, 2)] },
  { name := "POL_W67", first := 0x20001C, dims := [(0x4, 2)] }]

/-- The cards of Eng. -/
def cardsEng : List Card := [
  { name := "ENG_CLU_CFG", first := 0x40, rst := 0xF00A0400, l := 0xFFFFFFFF, ok := fun w => bits w 26 16 ≠ 0 && inR w 15 0 64 65535 },
  { name := "ENG_LOAD_CTRL", first := 0x44, wo := 0x80000000 },
  { name := "ENG_LOAD_SRC_0", first := 0x48, q := 0xFFFFFFFF, ok := fun w => bits w 11 0 = 0 },
  { name := "ENG_LOAD_SRC_1", first := 0x4C, q := 0xFFFFFFFF },
  { name := "ENG_LOAD_LEN", first := 0x50, q := 0x1FFFFF, ok := fun w => inR w 20 0 1 2097152 },
  { name := "ENG_SIGNAL", first := 0x54, l := 0xF071F, wo := 0xF071F },
  { name := "ENG_DL_CFG", first := 0x58, rst := 0x80000064, l := 0xFFF8FFFF, ok := fun w => inR w 15 0 1 65535 },
  { name := "ENG_DL_STAT", first := 0x5C, w1c := 0x80000000, wo := 0x20000000 },
  { name := "ENG_IQ_STAT", first := 0x100, dims := [(0x4, 16)], rc := 0x1FFF0000 },
  { name := "ENG_CNT", first := 0x200, dims := [(0x8, 7)], cnt := true },
  { name := "ENG_SLOT", first := 0x10000, dims := [(0x1000, 16), (0x4, 2)], rst := 0x76543210, s := 0x77777777 },
  { name := "THR_STAT", first := 0x10100, dims := [(0x1000, 16), (0x100, 8)] },
  { name := "THR_PC", first := 0x10104, dims := [(0x1000, 16), (0x100, 8)] },
  { name := "THR_RETIRED", first := 0x10108, dims := [(0x1000, 16), (0x100, 8)], cnt := true },
  { name := "THR_EVT_PEND", first := 0x10110, dims := [(0x1000, 16), (0x100, 8)] },
  { name := "THR_WAIT_MASK", first := 0x10114, dims := [(0x1000, 16), (0x100, 8)] },
  { name := "THR_SNAP_0", first := 0x10118, dims := [(0x1000, 16), (0x100, 8)] },
  { name := "THR_SNAP_1", first := 0x1011C, dims := [(0x1000, 16), (0x100, 8)] },
  { name := "THR_FAULT", first := 0x10120, dims := [(0x1000, 16), (0x100, 8)] },
  { name := "THR_FAULT_ADDR", first := 0x10128, dims := [(0x1000, 16), (0x100, 8)], cnt := true },
  { name := "THR_EVT_BIND", first := 0x10180, dims := [(0x1000, 16), (0x100, 8), (0x4, 31)], q := 0xE00003FF },
  { name := "THR_EVT_BIND_31", first := 0x101FC, dims := [(0x1000, 16), (0x100, 8)], rst := 0x80000000, q := 0xE00003FF },
  { name := "CHN_POOL", first := 0x80000, rst := 0x4000 },
  { name := "CHN_VOID", first := 0x80004, l := 0x3FFFFFF, wo := 0x3FFFFFF },
  { name := "CHN_DL_CFG", first := 0x80008, rst := 0x64, l := 0x8000FFFF, ok := fun w => inR w 15 0 1 65535 },
  { name := "CHN_CFG", first := 0x90000, dims := [(0x20, 1024)], l := 0xBF003FFF, wo := 0x40000000, ok := fun w => inR w 27 24 1 12 },
  { name := "CHN_HOLD", first := 0x90004, dims := [(0x20, 1024)], rst := 0x3E8, l := 0xFFFF, ok := fun w => inR w 15 0 1 65535 },
  { name := "CHN_STAT0", first := 0x90008, dims := [(0x20, 1024)] },
  { name := "CHN_STAT1", first := 0x9000C, dims := [(0x20, 1024)] },
  { name := "CHN_CNT", first := 0x90010, dims := [(0x20, 1024)], cnt := true },
  { name := "CHN_VOIDS", first := 0x90018, dims := [(0x20, 1024)] }]

/-- The cards of Rpl. -/
def cardsRpl : List Card := [
  { name := "RPL_RP_CTRL", first := 0x40, l := 0x200F0000, wo := 0xC0000000 },
  { name := "RPL_RP_STAT", first := 0x44 },
  { name := "RPL_RP_SRC", first := 0x48, dims := [(0x4, 2)], l := 0xFFFFFFFF },
  { name := "RPL_RP_SRC_SIZE", first := 0x50, l := 0xFFFFFFFF, ok := fun w => w ≠ 0 },
  { name := "RPL_RP_AVAIL", first := 0x58, dims := [(0x4, 2)], l := 0xFFFFFFFF },
  { name := "RPL_RP_CKPT", first := 0x60, dims := [(0x4, 4)], l := 0xFFFFFFFF },
  { name := "RPL_RP_STOP", first := 0x70, dims := [(0x4, 2)], l := 0xFFFFFFFF },
  { name := "RPL_RP_POS", first := 0x78, cnt := true },
  { name := "RPL_RP_DIV", first := 0x80 },
  { name := "RPL_RP_DIV_OFF", first := 0x84 },
  { name := "RPL_RP_STALL_US", first := 0x88, rst := 0x2710, l := 0xFFFFFFFF, ok := fun w => 1 ≤ w && w ≤ 10000000 },
  { name := "RPL_CLU_CFG", first := 0x1000, dims := [(0x100, 12)], rst := 0x403E8, q := 0x800FFFFF, ok := fun w => inR w 19 16 2 15 && inR w 15 0 1 65535 },
  { name := "RPL_CLU_CTRL", first := 0x1004, dims := [(0x100, 12)], l := 0x2, wo := 0x1 },
  { name := "RPL_RING_BASE", first := 0x1008, dims := [(0x100, 12)], q := 0xFFFFFFFF },
  { name := "RPL_RING_SIZE", first := 0x100C, dims := [(0x100, 12)], q := 0xFFFF },
  { name := "RPL_CKPT_BASE", first := 0x1010, dims := [(0x100, 12)], q := 0xFFFFFFFF },
  { name := "RPL_CLU_STAT", first := 0x1014, dims := [(0x100, 12)] },
  { name := "RPL_IDX", first := 0x1018, dims := [(0x100, 12), (0x8, 3)], cnt := true },
  { name := "RPL_CLU_CNT", first := 0x1040, dims := [(0x100, 12), (0x8, 5)], cnt := true }]

/-- The cards of Cip. -/
def cardsCip : List Card := [
  { name := "CIP_CFG", first := 0x40, rst := 0x2001008, s := 0xFFFF3F1F, ok := fun w => inR w 31 16 64 65535 && inR w 13 8 1 32 && bits w 4 0 ≤ 16 },
  { name := "CIP_AGE", first := 0x44, rst := 0x64, l := 0xFFFF },
  { name := "CIP_NONCE_WARN", first := 0x48, rst := 0x20, l := 0x3F },
  { name := "CIP_QLEVEL", first := 0x60, dims := [(0x4, 4)], rc := 0x1FFF0000 },
  { name := "CIP_CORE", first := 0x80, dims := [(0x4, 32)], rst := 0x10000000, l := 0x20000000, wo := 0x40000000 },
  { name := "CIP_CNT", first := 0x100, dims := [(0x8, 7)], cnt := true },
  { name := "KEY_CTL", first := 0x200, rst := 0x40000000, wo := 0x80000000 },
  { name := "KEY_LAST", first := 0x204 },
  { name := "KEY_KCV", first := 0x208 },
  { name := "CIP_KW_CTRL", first := 0x240, l := 0x4FFFFFFF, wo := 0x80000000 },
  { name := "CIP_KW_STAT", first := 0x244 },
  { name := "CIP_KW_OWNER", first := 0x248, l := 0x1FF, ok := fun w => inR w 8 0 16 283 },
  { name := "CIP_KW_BUF", first := 0x280, dims := [(0x4, 26)], l := 0xFFFFFFFF },
  { name := "KEY_ATTR", first := 0x10000, dims := [(0x4, 16384)], l := 0xFFFFFFFF },
  { name := "KEY_CTR", first := 0x20000, dims := [(0x8, 16384)], cnt := true }]

/-- The cards of Key. -/
def cardsKey : List Card := [
  { name := "KEY_MAT", first := 0x0, dims := [(0x40, 16384), (0x4, 16)], l := 0xFFFFFFFF, wo := 0xFFFFFFFF }]

/-- The cards of Mem. -/
def cardsMem : List Card := [
  { name := "MEM_GEOM", first := 0x40, rst := 0xE010002, q := 0xF010003, ok := fun w => bits w 25 24 < 3 && bits w 1 0 < 3 },
  { name := "MEM_CAP", first := 0x44, rst := 0x20000 },
  { name := "MEM_REFRESH", first := 0x48, rst := 0x76C8000, l := 0xFFFFFFFF, ok := fun w => inR w 31 16 500 65535 && inR w 15 12 1 8 },
  { name := "MEM_SCHED", first := 0x4C, rst := 0x640190, l := 0xFFFFFFFF, ok := fun w => inR w 31 16 1 65535 && inR w 15 0 50 65535 },
  { name := "MEM_RETRAIN", first := 0x50, rst := 0x3E80A14, l := 0xFFFFFFFF, ok := fun w => inR w 31 16 100 65535 && inR w 15 8 1 255 },
  { name := "MEM_EDC", first := 0x54, rst := 0x3, l := 0xF, ok := fun w => inR w 3 0 1 15 },
  { name := "MEM_RT_CFG", first := 0x60, dims := [(0x8, 4)], rst := 0x2000100, l := 0x7FF07FF, ok := fun w => inR w 26 16 1 1024 && bits w 10 0 < bits w 26 16 },
  { name := "MEM_RT_STAT", first := 0x64, dims := [(0x8, 4)], rc := 0x7FF0000 },
  { name := "MEM_CNT", first := 0x100, dims := [(0x8, 6)], cnt := true },
  { name := "MEM_CH_CTRL", first := 0x400, dims := [(0x40, 32)], wo := 0xF },
  { name := "MEM_CH_STAT", first := 0x404, dims := [(0x40, 32)], rst := 0x2 },
  { name := "MEM_CH_EYE", first := 0x408, dims := [(0x40, 32)] },
  { name := "MEM_CH_CNT", first := 0x410, dims := [(0x40, 32), (0x8, 6)], cnt := true },
  { name := "MEM_REGION_W0", first := 0x1000, dims := [(0x10, 32)], s := 0xF0000000 },
  { name := "MEM_REGION_W1", first := 0x1004, dims := [(0x10, 32)], s := 0xFFFFFFFF },
  { name := "MEM_REGION_W2", first := 0x1008, dims := [(0x10, 32)], s := 0xFFFFFFFF },
  { name := "MEM_REGION_W3", first := 0x100C, dims := [(0x10, 32)], s := 0xFFF0FFF }]

/-- The cards of Mci. -/
def cardsMci : List Card := [
  { name := "MCI_STAT", first := 0x40 },
  { name := "MCI_INIT_CTRL", first := 0x44, wo := 0x80000000 },
  { name := "MCI_INIT_BASE", first := 0x48, l := 0xFFFFFFFF },
  { name := "MCI_INIT_SIZE", first := 0x4C, l := 0xFFFFFFFF, ok := fun w => w ≠ 0 },
  { name := "MCI_CORR_THRESH", first := 0x50, l := 0xFFFFFFFF },
  { name := "MCI_CNT", first := 0x100, dims := [(0x8, 4)], cnt := true }]

/-- The cards of Hif. -/
def cardsHif : List Card := [
  { name := "HIF_BIF", first := 0x40 },
  { name := "HIF_SUBSYS", first := 0x44, q := 0xFFFFFFFF },
  { name := "HIF_HP_CTRL", first := 0x1000, dims := [(0x1000, 4)], wo := 0x40000000 },
  { name := "HIF_HP_CFG", first := 0x1004, dims := [(0x1000, 4)], l := 0xFF1FF0FF, ok := fun w => bits w 31 30 < 2 && (bits w 29 24 = 0 || inR w 29 24 20 36) && bits w 20 12 ≤ 256 && bits w 7 0 + bits w 20 12 ≤ 256 },
  { name := "HIF_HP_STAT", first := 0x1008, dims := [(0x1000, 4)] },
  { name := "HIF_HP_DMA", first := 0x100C, dims := [(0x1000, 4)], rst := 0x5, l := 0x7, ok := fun w => bits w 2 0 < 6 },
  { name := "HIF_HP_TAGS", first := 0x1010, dims := [(0x1000, 4)], rc := 0xFFF0000 },
  { name := "HIF_HP_TAGPOOL", first := 0x1014, dims := [(0x1000, 4)] },
  { name := "HIF_HP_CNT", first := 0x1100, dims := [(0x1000, 4), (0x8, 8)], cnt := true },
  { name := "HIF_FN_STAT_W0", first := 0x8000, dims := [(0x10, 260)] },
  { name := "HIF_FN_STAT_W1", first := 0x8004, dims := [(0x10, 260)] },
  { name := "HIF_MSIX_ALLOC", first := 0xA000, dims := [(0x4, 260)], l := 0xFFF07FF, ok := fun w => bits w 10 0 ≤ 1024 },
  { name := "HIF_MSIX_POOL", first := 0xB000, rst := 0x1000 }]

/-- The cards of Tfn. -/
def cardsTfn : List Card := [
  { name := "TFN_CFG", first := 0x40, rst := 0x7D00000, l := 0xFFFF0000, ok := fun w => bits w 31 16 ≠ 0 },
  { name := "TFN_MBX_LEVEL", first := 0x44, rc := 0x1FF0000 },
  { name := "TFN_QUEUES", first := 0x48, rst := 0x40004000 },
  { name := "TFN_FN_CTRL", first := 0x10000, dims := [(0x40, 260)], wo := 0xE0000000 },
  { name := "TFN_FN_STAT", first := 0x10004, dims := [(0x40, 260)] },
  { name := "TFN_FN_QUOTA_Q", first := 0x10008, dims := [(0x40, 260)], l := 0x3FF03FF, ok := fun w => bits w 25 16 ≤ 768 && bits w 9 0 ≤ 768 },
  { name := "TFN_FN_QUOTA_S", first := 0x1000C, dims := [(0x40, 260)], l := 0x7FFF7FFF, ok := fun w => bits w 30 16 ≤ 16384 && bits w 14 0 ≤ 16384 },
  { name := "TFN_FN_CFG", first := 0x10010, dims := [(0x40, 260)], rst := 0xF, l := 0x8000000F, ok := fun w => bits w 3 0 ≠ 0 },
  { name := "TFN_FN_USE_Q", first := 0x10014, dims := [(0x40, 260)] },
  { name := "TFN_FN_USE_S", first := 0x10018, dims := [(0x40, 260)] },
  { name := "TFN_FN_CNT", first := 0x20000, dims := [(0x100, 260), (0x8, 23)], cnt := true },
  { name := "TFN_WIN_SLOT_W0", first := 0x100000, dims := [(0x1000, 256), (0x40, 16), (0x10, 2)], l := 0xE0000000 },
  { name := "TFN_WIN_SLOT_W1", first := 0x100004, dims := [(0x1000, 256), (0x40, 16), (0x10, 2)], l := 0xFFFFFFFF, ok := fun w => bits w 11 0 = 0 },
  { name := "TFN_WIN_SLOT_W2", first := 0x100008, dims := [(0x1000, 256), (0x40, 16), (0x10, 2)], l := 0xFFFFFFFF },
  { name := "TFN_WIN_SLOT_W3", first := 0x10000C, dims := [(0x1000, 256), (0x40, 16), (0x10, 2)] },
  { name := "TFN_WIN_CTRL", first := 0x100020, dims := [(0x1000, 256), (0x40, 16)], wo := 0x80000000 },
  { name := "TFN_WIN_CNT", first := 0x100028, dims := [(0x1000, 256), (0x40, 16)], rc := 0xFFFFFFFF }]

/-- The cards of Boot. -/
def cardsBoot : List Card := [
  { name := "BOOT_STRAP", first := 0x40 },
  { name := "BOOT_STATE", first := 0x44, l := 0xF },
  { name := "BOOT_FAIL", first := 0x48, l := 0xFFFFFFFF },
  { name := "BOOT_BANK", first := 0x4C },
  { name := "BOOT_COUNT", first := 0x50 },
  { name := "BOOT_DIGEST_W", first := 0x60, dims := [(0x4, 8)] },
  { name := "BOOT_OTP", first := 0x80, l := 0xFFFF },
  { name := "BOOT_CUST_HASH_W", first := 0x90, dims := [(0x4, 8)], l := 0xFFFFFFFF },
  { name := "BOOT_FLASH_CMD", first := 0x100, l := 0x307FFFFF, wo := 0x80000000 },
  { name := "BOOT_FLASH_ADDR", first := 0x104, l := 0xFFFFFFFF },
  { name := "BOOT_FLASH_STAT", first := 0x108 },
  { name := "MGC_WDT_CFG", first := 0x40040, rst := 0x7D0, l := 0xFFFFFFF, ok := fun w => inR w 15 0 10 65535 },
  { name := "MGC_WDT_KICK", first := 0x40044, l := 0xFFFFFFFF, wo := 0xFFFFFFFF },
  { name := "MGC_CTRL", first := 0x40048, rst := 0x3E8, l := 0x4000FFFF, wo := 0xA0000000 },
  { name := "MGC_STAT", first := 0x4004C, w1c := 0x40000000 },
  { name := "MGC_STAGE_ADDR", first := 0x40050, dims := [(0x4, 2)], l := 0xFFFFFFFF },
  { name := "MGC_STAGE_LEN", first := 0x40058, l := 0x7FFFFF, ok := fun w => inR w 22 0 1 6291456 },
  { name := "MGC_IQ_STAT", first := 0x40100, dims := [(0x4, 4)], rc := 0x7FF0000 },
  { name := "MGC_UCODE_CTRL", first := 0x40200, wo := 0x80000000 },
  { name := "MGC_UCODE_MASK", first := 0x40204, l := 0xFFFFFFFF },
  { name := "MGC_UCODE_SRC", first := 0x40208, dims := [(0x4, 2)], l := 0xFFFFFFFF },
  { name := "MGC_UCODE_LEN", first := 0x40210, l := 0x1FFFFF, ok := fun w => inR w 20 0 1 1048576 },
  { name := "MGC_UCODE_LOADED", first := 0x40214 },
  { name := "MGC_CNT", first := 0x40300, dims := [(0x8, 3)], cnt := true },
  { name := "SRV_CFG", first := 0x80040, l := 0xC03FFFFF, ok := fun w => bits w 21 0 = 0 || inR w 21 0 9600 3000000 },
  { name := "SRV_MAC", first := 0x80044, dims := [(0x4, 2)] },
  { name := "SRV_CNT", first := 0x80100, dims := [(0x8, 2)], cnt := true }]

/-- The cards of Pwr. -/
def cardsPwr : List Card := [
  { name := "PWR_CTRL", first := 0x40, l := 0x3 },
  { name := "PWR_STAT", first := 0x44 },
  { name := "PWR_GATE", first := 0x48, rst := 0x100, l := 0xFFFF, ok := fun w => inR w 15 0 16 65535 },
  { name := "PWR_SR", first := 0x4C, rst := 0x64, l := 0xFFF0FFF },
  { name := "PWR_WAKE", first := 0x50, w1c := 0x7 },
  { name := "PWR_CLK", first := 0x54 },
  { name := "PWR_CAL_CFG", first := 0x60, rst := 0xEA60, l := 0x800FFFFF, ok := fun w => inR w 19 0 1 1000000 },
  { name := "PWR_CAL_STAT", first := 0x64 },
  { name := "PWR_CAL_ENTRY_W0", first := 0x1000, dims := [(0x8, 64)], l := 0x800FFFFF },
  { name := "PWR_CAL_ENTRY_W1", first := 0x1004, dims := [(0x8, 64)], l := 0xFFFFFFFF },
  { name := "PWR_AGE_CFG", first := 0x80, rst := 0x80180F19, l := 0xFFFFFFFF, ok := fun w => inR w 30 16 1 8760 },
  { name := "PWR_DERATE_0", first := 0x88, l := 0xFFF },
  { name := "PWR_DERATE_1", first := 0x8C, l := 0xFFFFFF },
  { name := "PWR_SENT", first := 0x100, dims := [(0x4, 25)] },
  { name := "PWR_TEMP", first := 0x180, dims := [(0x4, 8)], rc := 0xFFF0000 },
  { name := "PWR_THERM_CFG", first := 0x1C0, rst := 0x55, l := 0xFF, ok := fun w => inR w 7 0 40 120 },
  { name := "PWR_LIFE_CFG", first := 0x1C4, rst := 0x19001E, l := 0xFFFFFF, ok := fun w => inR w 23 16 1 100 },
  { name := "PWR_SRAM_STAT", first := 0x1D0 },
  { name := "PWR_HOURS", first := 0x200, dims := [(0x8, 2)], cnt := true }]

/-- The cards of Dbg. -/
def cardsDbg : List Card := [
  { name := "DBG_STAT", first := 0x40 },
  { name := "DBG_CTRL", first := 0x44, l := 0x3, wo := 0xC0000000 },
  { name := "DBG_OTP", first := 0x48 },
  { name := "DBG_CHAL_W", first := 0x80, dims := [(0x4, 8)] },
  { name := "DBG_RESP_W", first := 0xA0, dims := [(0x4, 16)], l := 0xFFFFFFFF, wo := 0xFFFFFFFF },
  { name := "DBG_KEY_W", first := 0xE0, dims := [(0x4, 17)], l := 0xFFFFFFFF },
  { name := "DBG_CUST_HASH_W", first := 0x140, dims := [(0x4, 8)], l := 0xFFFFFFFF },
  { name := "DBG_THR_CTRL", first := 0x200, l := 0xFF7, wo := 0xE0000000, ok := fun w => bits w 11 8 < 12 },
  { name := "DBG_THR_STAT", first := 0x204, w1c := 0x40000000 },
  { name := "DBG_THR_REGSEL", first := 0x208, l := 0x3F, ok := fun w => bits w 5 0 ≤ 32 },
  { name := "DBG_THR_DATA", first := 0x210, dims := [(0x4, 2)], l := 0xFFFFFFFF },
  { name := "DBG_MEM_ADDR", first := 0x300, l := 0xCF0FFFFF, ok := fun w => bits w 27 24 < 12 && bits w 2 0 = 0 },
  { name := "DBG_MEM_DATA", first := 0x308, dims := [(0x4, 2)], l := 0xFFFFFFFF },
  { name := "DBG_CLU_CTRL", first := 0x1000, dims := [(0x40, 12)], l := 0x80000000 },
  { name := "DBG_CLU_STAT", first := 0x1004, dims := [(0x40, 12)], w1c := 0x40000000 },
  { name := "DBG_BP", first := 0x1010, dims := [(0x40, 12), (0x4, 4)], l := 0x8003FFFF }]

/-- The cards of Page. -/
def cardsPage : List Card := [
  { name := "TF_IDENT", first := 0x0 },
  { name := "TF_COPY", first := 0x4, dims := [(0x4, 5)] },
  { name := "TF_PARTID", first := 0x18 },
  { name := "TF_PTM", first := 0x80, dims := [(0x4, 8)] },
  { name := "MF_EVT_PEND", first := 0xC0, w1c := 0xFFFFFFFF },
  { name := "MF_EVT_SRC", first := 0xC4 },
  { name := "MBX_CTRL", first := 0x100, l := 0x1, wo := 0x80000000 },
  { name := "MBX_STAT", first := 0x104, w1c := 0x40000000 },
  { name := "MBX_REQ", first := 0x200, dims := [(0x4, 256)], l := 0xFFFFFFFF, wo := 0xFFFFFFFF },
  { name := "MBX_RSP", first := 0x600, dims := [(0x4, 256)], wo := 0xFFFFFFFF },
  { name := "TXQ_PI", first := 0x1000, dims := [(0x10, 768)], l := 0x1FFFF },
  { name := "TXQ_CI", first := 0x1004, dims := [(0x10, 768)], l := 0x1FFFF, wo := 0x80000000 },
  { name := "RXQ_PI", first := 0x1008, dims := [(0x10, 768)], l := 0x1FFFF },
  { name := "RXQ_CI", first := 0x100C, dims := [(0x10, 768)], l := 0x1FFFF, wo := 0x80000000 },
  { name := "TF_CNT", first := 0x4000, dims := [(0x8, 23)], cnt := true },
  { name := "MSIX_TABLE", first := 0x8000, dims := [(0x10, 1024), (0x4, 4)], l := 0xFFFFFFFF },
  { name := "MSIX_PBA", first := 0xC000, dims := [(0x4, 32)] }]

end Sys2Proof.Machine
end

