-- ==== Sys2Proof/Config.lean ====
section
/-! DEFINITION. What one part fixes and what the manual leaves open: opaque constants, without a body, so that
no proof can lean on a value of them. Each is named in the assumption log. -/
namespace Sys2Proof.Config

/-- Grade X when true, grade S when false (R1, R3): fixed per part. -/
opaque gradeX : Bool

/-- The device serial, 8 bytes (R470): fixed per part. -/
opaque serial : BitVec 64

/-- What the device certificate holds beside the identity public key and the device serial number (R95): its own serial number, the
issuer's common name, the two dates of its validity as GeneralizedTime, and the r and s of the device certificate authority's
signature. -/
opaque certNumber : BitVec 120
opaque certIssuer : BitVec 256
opaque certFrom : BitVec 120
opaque certTo : BitVec 120
opaque certR : BitVec 256
opaque certS : BitVec 256

/-- The PLL's frequency after an accepted edge (R54, R57), by the index of the free value; only its place within
±500 ppm is the spec's. -/
opaque pllFreq : Nat → Nat

/-- The frequency that the 10 MHz input gives, likewise (R54): fixed per input. -/
opaque tenFreq : Nat

/-- What a transmit capture adds for the fixed transmit path, in 2^-16 ns, by port (R66). -/
opaque txPath : Nat → Nat

/-- The factory delay from start command to reference plane, in picoseconds, by quad mode and FEC (R209, R210). -/
opaque startFactory : Nat → Nat → Nat

/-- The FEC and PCS alignment delay that a receive capture takes off, in 2^-16 ns, by port (R66). -/
opaque rxPath : Nat → Nat

/-- The error of a capture within the bounds of Table 03-5, by the index of the free value (R68). -/
opaque captureErr : Nat → Nat

/-- The PCIe Vendor ID and Revision ID, which the manual does not give (R353). -/
opaque vendorId : BitVec 16
opaque revisionId : BitVec 8

/-- Where the context pool lies in its control region, in units of 512 bytes, by the index of the free value (R279). -/
opaque ctxPool : Nat → Nat

/-- SP_ICMP_PPS, whose default the manual does not give (R284). -/
opaque icmpPps : Nat

/-- The private part of the device identity key, which never leaves the device (R392). -/
opaque identityPriv : Nat

/-- What the boot flash holds at an offset before the device writes it, and the size of the flash: 1 + n mod 3 is the code of
BOOT_FLASH_STAT.SIZE (R400). -/
opaque flashByte : Nat → Byte
opaque flashSize : Nat

/-- The service MAC address in fuses (R414). -/
opaque srvMac : BitVec 48

/-- MEM and ADDR of CIP's first-error registers after a failed comparison (R319): how they hold the two core numbers (0xFF for none),
OP and slot is not said. -/
opaque cipSynd : Nat → Nat → Nat → Nat → Nat

/-- The Fengelar bank-signing key and debug key in ROM, 65 bytes uncompressed each (R403, R446). -/
opaque romKey : List Byte
opaque dbgKey : List Byte

/-- Fengelar's 11-bit JEP106 manufacturer code (Table 21-8). -/
opaque jep106 : Nat

/-- A choice the manual leaves to chance or to the implementation, by the index of the free value. -/
opaque anyNat : Nat → Nat

end Sys2Proof.Config
end

