-- ==== Sys2Proof/Machine/Out.lean ====
section
/-! DEFINITION. What leaves the device: the values and transfers a command makes visible outside. -/
namespace Sys2Proof.Machine

/-- One thing the device gave to the outside, in the order it happened. -/
inductive Out where
  /-- Data returned to the requester of a register read. -/
  | readData (q : Req) (addr : Nat) (v : Word)
  /-- An MSI-X message of function f, vector v: address and data of its table entry (R369). -/
  | msix (f : Nat) (vec : Nat) (addr : Nat) (data : Word)
  /-- A Stream Link flit sent: sequence number, units carried, its 2,560 bytes, the symbols of lanes SF0–SF3, whether it is sent
  again (R100–R102). -/
  | flit (fseq count : Nat) (bytes : List Byte) (lanes : List (List Nat)) (resend : Bool)
  /-- PRBS31 on SF0–SF3 in training, by lane whether it is inverted (R105). -/
  | prbs31 (inverted : List Bool)
  /-- A DMA write TLP to a host: function, address, data, whether it carries Relaxed Ordering (Table 17-6). -/
  | dmaWrite (f : Nat) (addr : Nat) (data : List Byte) (ro : Bool)
  /-- A DMA read request TLP: function, tag, address, length, whether it carries Relaxed Ordering (R361, R362). -/
  | dmaRead (f tag addr len : Nat) (ro : Bool)
  /-- A completion to a host request to function f: 0 success, 1 UR, 2 CA, 3 RRS; the data, whether it is poisoned (R351, R358). -/
  | cpl (f : Nat) (st : Nat) (data : List Byte) (ep : Bool)
  /-- An error logged by AER in function f: 0 Poisoned TLP Received, 1 Completion Timeout, 2 Unexpected Completion, 3 Malformed
  TLP, 4 Unsupported Request, 5 Completer Abort (Table 17-8). -/
  | aer (f : Nat) (err : Nat)
  /-- A Hot Reset sent on host port h (HIF_HP_CTRL.DOWN). -/
  | hotReset (h : Nat)
  /-- A PPS_OUT output rises or falls (R65). -/
  | ppsOut (n : Nat) (high : Bool)
  /-- A frame leaves port p: from the destination address to the last byte before the FCS (R115). -/
  | txFrame (p : Nat) (bytes : List Byte)
  /-- The frame in transmission on port p ends with an error code (R113). -/
  | txAbort (p : Nat)
  /-- The transmitters of port p go on or off: its physical lanes in logical order, each with whether its polarity is inverted
  (R109, R420, Table 20-2). -/
  | laneTx (p : Nat) (lanes : List (Nat × Bool)) (on : Bool)
  /-- Port p advertises an ability in auto-negotiation: its quad's mode and its FEC (R111). -/
  | advert (p mode fec : Nat)
  /-- A pause or PFC frame leaves port p: priorities (all under 802.3x) and quanta (R123). -/
  | pause (p : Nat) (vec : Nat) (quanta : Nat)
  /-- A byte write or read request on quad q's module bus (R127). -/
  | modBus (q : Nat) (write : Bool) (offset len : Nat) (bytes : List Byte)
  /-- A level on quad q's MOD_RST_N ball (R127). -/
  | modRst (q : Nat) (high : Bool)
  /-- A level on quad q's MOD_LPMODE ball (R127). -/
  | modLp (q : Nat) (high : Bool)
  /-- A memory request completes for its requester: address, whether it wrote, the data, whether it is
  uncorrectable (R338). -/
  | memDone (q : MReq) (addr : Nat) (write : Bool) (data : List Byte) (bad : Bool)
  /-- A recovery message as the service port or the UART carries it (R414): whether over Ethernet, the bytes. -/
  | srv (eth : Bool) (bytes : List Byte)
  /-- THERMTRIP_N is driven low, or released (R462). -/
  | thermtrip (low : Bool)
  /-- The TAP captures a data register for TDO: the selected instruction and the value (R444, R445). -/
  | tdo (ir : Nat) (dr : Nat)
  deriving DecidableEq, Repr

end Sys2Proof.Machine
end

