-- ==== Sys2Proof/Machine/Sparse.lean ====
section
/-! DEFINITION. Sparse tables in one canonical form: keys strictly rising, and no entry equal to what an
unlisted key reads as. Registers, counters, memories and per-instance state are all held so. -/
namespace Sys2Proof.Machine

/-- A sparse table: listed keys with their values. -/
abbrev Sparse (α : Type) := List (Nat × α)

/-- The value at a key: the listed one, or the default `d k`. -/
def mget {α : Type} (d : Nat → α) : Sparse α → Nat → α
  | [], k => d k
  | (j, v) :: m, k => if k = j then v else mget d m k

/-- Sorted insertion, replacing an entry of the same key. -/
def mins {α : Type} : Sparse α → Nat → α → Sparse α
  | [], k, v => [(k, v)]
  | (j, w) :: m, k, v =>
    if k < j then (k, v) :: (j, w) :: m
    else if k = j then (k, v) :: m
    else (j, w) :: mins m k v

/-- Removal of a key. -/
def mdel {α : Type} (m : Sparse α) (k : Nat) : Sparse α := m.filter (fun e => e.1 ≠ k)

/-- A write that keeps the canonical form: writing the default removes the entry. -/
def mput {α : Type} [DecidableEq α] (d : Nat → α) (m : Sparse α) (k : Nat) (v : α) : Sparse α :=
  if v = d k then mdel m k else mins m k v

/-- Every key that `p` selects returns to its default. -/
def mclear {α : Type} (p : Nat → Bool) (m : Sparse α) : Sparse α := m.filter (fun e => !p e.1)

/-- Keys strictly rise. -/
def mrising {α : Type} : Sparse α → Bool
  | [] => true
  | [_] => true
  | (j, _) :: (k, w) :: m => decide (j < k) && mrising ((k, w) :: m)

/-- The canonical form. -/
def mwf {α : Type} [DecidableEq α] (d : Nat → α) (m : Sparse α) : Bool :=
  mrising m && m.all (fun e => decide (e.2 ≠ d e.1))

end Sys2Proof.Machine
end

