-- ==== Sys2Proof/Machine/StBoot.lean ====
section
/-! DEFINITION. State of boot, the management complex and quiesce that no register holds (19_boot_and_management.md, R40, R41). -/
namespace Sys2Proof.Machine

/-- A flash operation in progress: whether it programs, its flash offset, and the 256 bytes it programs. -/
structure FlashOp where
  prog : Bool
  addr : Nat
  data : List Byte := []
  deriving DecidableEq, Repr

/-- A recovery transfer (R415): its XFER_ID, the bank it writes (0 A, 1 B), the IMAGE_LEN of its header, and the next offset it
expects. -/
structure Xfer where
  id : Nat
  bank : Nat
  len : Nat
  next : Nat
  deriving DecidableEq, Repr

/-- Boot and the MGC. `flash` and `sram` list the bytes of the boot flash and of MGC SRAM that are known; `hashSet` which words of
BOOT_CUST_HASH are written; `recAt` the configuration record that is due with when it fell due; `owner` and `raise` what PARAM 0x01
and 0x02 set; `copyAt` where the bank's copy lies in the MGC region; `started` that START is done; `kickAt` the watchdog's last restart,
`restarting` that a restart of MGC firmware is in progress, `restarts` when the watchdog's restarts were (R410); `trialAt` when a trial
restart began; the flash operation; ROM recovery's transfer, the Ethernet address the host used last (none for the UART), when HELLO is
due, when RESULT OK was sent. -/
structure BootSt where
  flash : Sparse (Option Byte) := []
  sram : Sparse (Option Byte) := []
  hashSet : Nat := 0
  recAt : Option (Nat × Nat) := none
  owner : Option Nat := none
  raise : Bool := false
  copyAt : Option Nat := none
  started : Bool := false
  kickAt : Nat := 0
  restarting : Bool := false
  restarts : List Nat := []
  trialAt : Nat := 0
  op : Option FlashOp := none
  xfer : Option Xfer := none
  path : Option Nat := none
  helloAt : Nat := 0
  okAt : Option Nat := none
  deriving DecidableEq, Repr

end Sys2Proof.Machine
end

