-- ==== Sys2Proof/Machine/StCip.lean ====
section
/-! DEFINITION. State of the cipher complex and the key store that no register holds (15_cipher_complex.md). -/
namespace Sys2Proof.Machine

/-- What a message is: an engine's submission of 64 bytes with the thread, the number of loads and resets of its cluster and the
address of the completion, or a record tap's digest of `len` bytes (R308, R316). -/
inductive Work where
  | eng (t gen dst : Nat) (sub : List Byte)
  | tap (len : Nat)
  deriving DecidableEq, Repr

/-- A message (R315, R317): its work and class (0 URGENT, 1 tap, 2 NORMAL, 3 BULK); once started, the copies of the slot's
material and attributes, the assigned or submitted counter, the protection, when it last started, the bytes done before
that, and whether it was ever suspended. -/
structure Msg where
  work : Work
  cls : Nat
  started : Bool := false
  key : BitVec 512 := 0
  attr : Nat := 0
  ctr : Nat := 0
  prot : Nat := 0
  at_ : Nat := 0
  done : Nat := 0
  susp : Bool := false
  deriving DecidableEq, Repr

/-- A message on a core: the message and its second core in paired mode (R318). -/
structure Run where
  m : Msg
  second : Option Nat := none
  deriving DecidableEq, Repr

/-- A wrap command in progress (R324): UNWRAP, WRAP_SLOT, SLOT, and OWNER as read at START. -/
structure Wrap where
  unwrap : Bool
  wslot : Nat
  slot : Nat
  owner : Nat
  deriving DecidableEq, Repr

/-- The cipher complex and the key store: the material by slot, 64 bytes with byte 0 most significant (R320); the queues by
class, and since when each has its head (R315); submissions that wait for room; what each core runs, by its first
core, and the cores that run second; when a core's self-test began, with whether a failed comparison started it;
when zeroizing began; the wrap command in progress. -/
structure CipSt where
  mat : Sparse (BitVec 512) := []
  q : Sparse (List Msg) := []
  headAt : Sparse Nat := []
  wait : Sparse (List Msg) := []
  core : Sparse (Option Run) := []
  second : Sparse Bool := []
  test : Sparse (Option (Nat × Bool)) := []
  zeroAt : Option Nat := none
  kw : Option Wrap := none
  deriving DecidableEq, Repr

end Sys2Proof.Machine
end

