-- ==== Sys2Proof/Machine/StData.lean ====
section
/-! DEFINITION. State of the data path that no register holds: frames and their copies, ports, pipelines, tables,
sequencer, proofing and queues (05_network_ports.md to 10_queues_and_scheduling.md). -/
namespace Sys2Proof.Machine

/-- Where a frame came from (R18). A tenant's frame names its function, TX queue, descriptor index, FGEN and TAG. -/
inductive Origin where
  | port (p : Nat)
  | tenant (f q idx gen : Nat) (tag : Nat)
  | cluster (c : Nat)
  | mgc
  deriving DecidableEq, Repr

/-- The source vport (Table 01-1). -/
def Origin.vport : Origin → Nat
  | .port p => p
  | .tenant f .. => 16 + f
  | .cluster c => 272 + c
  | .mgc => 284

/-- What the TSU and the MAC took of a received frame (R66, R79): `wire` is the frame as it crossed the reference
plane, from the destination address to the last byte before the FCS. -/
structure RxRec where
  port : Nat
  cal : Bool
  tq : Nat
  len : Nat
  ts : Instant
  wire : List Byte
  deriving DecidableEq, Repr

/-- A frame in the device. `bytes` runs from the destination address to the last byte before the FCS; `fcs` tells
whether it holds one, which counts in its length. `md` is the metadata bus (Table 07-5), `phv` the packet header vector
(R138); `rel` the descriptor release time (R166); `unit` the INDEX of its ingress FRAME unit, none inside when it was
refused (R82); `ce` the class entry of its last pass and `cls` the class; `reason` the slow reason (R163); `pipe` the
pipeline that classified it; `seqno` and `late` the sequence number (R200); `oneStep` that one-step insertion was requested (R71);
`col` the colour that a policer gave (R226). -/
structure Frame where
  id : Nat
  bytes : List Byte
  fcs : Bool := false
  src : Origin
  md : BitVec 512 := 0
  phv : BitVec 4096 := 0
  rel : Option Instant := none
  rx : Option RxRec := none
  oneStep : Bool := false
  unit : Option (Option Nat) := none
  cls : Nat := 0
  ce : BitVec 64 := 0
  reason : Nat := 0
  pipe : Nat := 0
  seqno : Option Nat := none
  late : Bool := false
  col : Option Nat := none
  deriving DecidableEq, Repr

/-- Where the class table sends a frame (R165): one vport and queue, or a multicast group. -/
inductive Dest where
  | one (v q : Nat)
  | group (g : Nat)
  deriving DecidableEq, Repr

/-- One copy of a frame on its way to a vport's queue (R217, R222). `cells` is what it takes; `deep` that it lies in
the deep buffer and `win` that it was fetched into the refill window (R220, R221); `at_` the deep-buffer cells it still holds;
`rule` the proofing rule as read at enqueue (R206); `grp` its fan-out group; `prf` its proofing outcome (Table 04-3), 2 already at
replication when the fan-out pool was exhausted (R214); `erse` the egress epoch it entered with; `fc` the ingress port, priority and bytes it holds
against XOFF (R123); `gen` the FGEN of a tenant copy (R377). -/
structure Copy where
  f : Frame
  vport : Nat
  queue : Nat
  cells : Nat
  deep : Bool := false
  win : Bool := false
  at_ : List Nat := []
  rule : BitVec 64 := 0
  grp : Option Nat := none
  prf : Nat := 0
  erse : Nat := 0
  fc : Option (Nat × Nat × Nat) := none
  gen : Nat := 0
  deriving DecidableEq, Repr

/-- The capture of the first transmitted copy of a tenant's frame, with its CAL and PRF (R385). -/
structure TxCap where
  ts : Instant
  cal : Bool
  prf : Nat
  deriving DecidableEq, Repr

/-- A frame with copies outstanding: pool cells it holds, copies not finished, those that still need the cells, the
capture of the first one transmitted, and whether one was delivered. -/
structure Live where
  f : Frame
  cells : Nat := 0
  copies : Nat := 1
  held : Nat := 1
  sent : Option TxCap := none
  done : Bool := false
  deriving DecidableEq, Repr

/-- A finished tenant frame whose completion is to be written (R385). -/
structure TxFin where
  f : Frame
  sent : Option TxCap
  status : Nat
  deriving DecidableEq, Repr

/-- A frame in transmission: its bytes with FCS, when its last byte and gap have left, its capture. -/
structure TxNow where
  cp : Copy
  len : Nat
  ends : Nat
  cap : TxCap
  deriving DecidableEq, Repr

/-- One port's MAC. `at_` is when it entered its link state; `cfg` MAC_PORT_CFG as read on leaving DISABLED (R112);
`paused`, `pausedSince` and `ignore` the end of the pause, the start of the unbroken pause and the end of IGNORE_MS by
priority (R122, R124); `sas` the SA and SC entries (R121); `staged` the copies in staging in dequeue order (R115);
`cur` the frame in transmission; `fcb` the bytes held by priority, `xoff` when the last XOFF was sent, plus one, `pauseQ` the pause
frames (key, quanta) that wait for the frame in transmission and `busyTo` when the last one sent has left (R123); `heldEnds` when the
last held frame sent has left (R209); `txOn` whether its lanes' transmitters are on (Table 20-2); `saPend` a write through MAC_SA_SEL
that waits for the frame boundary, with its entry (R121); `thresh` and `exhausted` the SAs that raised their events and `spent` those
whose last PN was used (R120). -/
structure MacSt where
  at_ : Nat := 0
  cfg : Nat := 0
  paused : Sparse Nat := []
  pausedSince : Sparse Nat := []
  ignore : Sparse Nat := []
  sas : Sparse (BitVec 192) := []
  staged : List Copy := []
  cur : Option TxNow := none
  fcb : Sparse Nat := []
  xoff : Sparse Nat := []
  pauseQ : List (Nat × Nat) := []
  busyTo : Nat := 0
  heldEnds : Nat := 0
  txOn : Bool := false
  saPend : Option (Nat × BitVec 192) := none
  thresh : List Nat := []
  exhausted : List Nat := []
  spent : List Nat := []
  deriving DecidableEq, Repr

/-- A quad's module bus (R127): the transfer in progress (whether it writes, its length) and when a reset pulse ends. -/
structure ModSt where
  busy : Option (Bool × Nat) := none
  resetEnds : Option Nat := none
  deriving DecidableEq, Repr

/-- One ingress pipeline and the egress pipeline of its pair: port arrivals, the recirculation FIFO (R16), frames
waiting to be injected by the HIF and by clusters (R17), whose turn it is, and the egress pipeline's frames. -/
structure PipeSt where
  arr : List Frame := []
  recirc : List Frame := []
  host : List Frame := []
  clus : List Frame := []
  clusTurn : Bool := false
  egress : List Copy := []
  deriving DecidableEq, Repr

/-- A sequencer member: its destination, its position of arrival, when it reached its FIFO and its settle instant (R197, R198). -/
structure Member where
  f : Frame
  dest : Dest
  pos : Nat
  arr : Instant := 0
  settle : Instant := 0
  late : Bool := false
  deriving DecidableEq, Repr

/-- The sequencer: input FIFOs by pipeline, the hold, the arrival count, whether SEQ_BYPASS was raised in the bypass
period (R198, R202), and the cycles that admitted and emitted last. -/
structure SeqSt where
  fifo : Sparse (List Member) := []
  hold : List Member := []
  pos : Nat := 0
  bypassed : Bool := false
  admitAt : Option Nat := none
  emitAt : Option Nat := none
  deriving DecidableEq, Repr

/-- A held proofing entry (R205): its ready time, its release time once fixed, LEAD_NS in units, and whether its data
was fetched into staging, or could not be read (R209, Table 16-4). -/
structure Held where
  cp : Copy
  ready : Instant
  lead : Nat
  r : Option Instant
  fetched : Bool := false
  bad : Bool := false
  deriving DecidableEq, Repr

/-- A fan-out group (R213): copies expected but not entered, copies not finished, the ports still expected, the
latest ready time, when the first copy entered, the guard and the release time once fixed. -/
structure Group where
  id : Nat
  missing : Nat
  alive : Nat
  ports : List Nat
  ready : Instant := 0
  first : Option Nat := none
  guard : Nat
  r : Option Instant := none
  deriving DecidableEq, Repr

/-- Proofing: held entries by port in entry order, the groups, and by port the frames a release calibration still
waits for with the sum of its measurements in ps (R210). -/
structure PrfSt where
  held : Sparse (List Held) := []
  groups : List Group := []
  nextGroup : Nat := 0
  cal : Sparse (Nat × Int) := []
  adj : Sparse (Option Int) := []
  deriving DecidableEq, Repr

/-- One port queue (R218–R225): its copies in order, its deficit, its shaper credit in bits × 65,536,000 with the
elapsed time it stands for, whether a new setting of its credit waits for its frame boundary (R225), and since when FIT has held
its head back (R230). -/
structure QSt where
  copies : List Copy := []
  deficit : Nat := 0
  credit : Int := 0
  creditAt : Nat := 0
  fresh : Option Bool := none
  fitAt : Option Nat := none
  deriving DecidableEq, Repr

/-- A policer (R226): W0–W3 as written, its two buckets in bytes × 16,384,000,000 with the elapsed time they stand for, and the
counts. -/
structure Pol where
  w : BitVec 128 := 0
  tc : Nat := 0
  tp : Nat := 0
  at_ : Nat := 0
  yellow : Nat := 0
  red : Nat := 0
  deriving DecidableEq, Repr

/-- A port's Orbit list (R228, R229): whether a bank is in force, the start S of the pending bank, the gates as the
last edge left them, and since when the position runs without a break. -/
structure OrbSt where
  running : Bool := false
  start : Instant := 0
  gates : Nat := 0xFFFFFFFF
  since : Nat := 0
  deriving DecidableEq, Repr

/-- Queues and scheduling: port queues by 32 × port + queue, the queues of other vports by 2^14 × vport + queue, the
cells of those vports, the active list of each port, the port queues that have taken their quantum in the visit they are
served in, policers and until when POL_SEL reads BUSY, Orbit. -/
structure SchSt where
  q : Sparse QSt := []
  vq : Sparse (List Copy) := []
  cells : Sparse Nat := []
  active : Sparse (List Nat) := []
  taken : List Nat := []
  pol : Sparse Pol := []
  polBusy : Nat := 0
  orb : Sparse OrbSt := []
  deriving DecidableEq, Repr

/-- A command interface's result waiting for completion (R183): RESULT word, SLOT and returned words. -/
structure FwdDone where
  result : Nat
  slot : Option Nat
  entry : Option (List (Nat × Nat))
  irq : Bool
  deriving DecidableEq, Repr

/-- The tables (R175): slots of every on-chip memory by 2^64 × memory + slot, LPM prefixes with 8 × (result + 1) + units, slots with bad
parity, learned
inserts queued by pipeline (key and vport), notifications, commands not yet completed, sources whose limit was met,
and the last sweep. -/
structure FwdSt where
  mem : Sparse Nat := []
  lpm : Sparse Nat := []
  bad : List Nat := []
  badTrie : List (Nat × Nat × Nat × Nat) := []
  learn : Sparse (List (Nat × Nat)) := []
  notify : List Nat := []
  cmd : Sparse (Option FwdDone) := []
  limited : List Nat := []
  sweptAt : Nat := 0
  deriving DecidableEq, Repr

/-- A scrub (R475): when its pass began and the words or slots it has read. -/
structure ScrubSt where
  start : Nat := 0
  done : Nat := 0
  deriving DecidableEq, Repr

/-- The data path. `badWords` are the addresses of PRS and MAT bank words with bad parity (R145, R172); `scrub` the
scrubs of PRS 0–3, MAT 4–7 and FWD 8. -/
structure DataSt where
  nextId : Nat := 0
  live : Sparse (Option Live) := []
  fin : List TxFin := []
  badWords : List Nat := []
  scrub : Sparse ScrubSt := []
  mac : Sparse MacSt := []
  mod : Sparse ModSt := []
  pipe : Sparse PipeSt := []
  seq : SeqSt := {}
  prf : PrfSt := {}
  sch : SchSt := {}
  fwd : FwdSt := {}
  deriving DecidableEq, Repr

end Sys2Proof.Machine
end

