-- ==== Sys2Proof/Machine/StEng.lean ====
section
/-! DEFINITION. State of the engine array that no register holds: threads, engines, clusters and channels
(11_engine_array.md, 12_iluken_instruction_set.md). -/
namespace Sys2Proof.Machine

/-- A thread (R235–R241, R255, Table 14-4): g0–g31, PC, THR_STAT.STATE (Table 11-2) and STALL (Table 11-3) with the channel of a
stall 0x4 or 0x5; `under` the state it halted in; the retired count, LAST_EVENT, LAST_STATUS, the wait mask, the signal
counts, the timer and whether it has fired; its open reservations as (channel, index); the CRC register of OUT_CRC
(R301); its entry point, and whether a load parked it; the submission its CSUB read at issue, and once the cipher is done the
bytes that the stall's completion brings to data memory, the completion last (R268, R300); whether a STEP is in progress, when
it last changed state (R249), and the PC whose breakpoint it has already halted on (R448, R449). -/
structure Thr where
  g : Sparse DWord := []
  pc : Nat := 0
  state : Nat := 0
  stall : Nat := 0
  chan : Nat := 0
  under : Nat := 0
  retired : Nat := 0
  event : Nat := 0
  status : Nat := 0
  mask : Nat := 0
  sig : Sparse Nat := []
  timer : Option Instant := none
  fired : Bool := false
  res : List (Nat × Nat) := []
  out : BitVec 32 := 0xFFFFFFFF
  entry : Option Nat := none
  loaded : Bool := true
  sub : List Byte := []
  csub : Option (List (Nat × List Byte)) := none
  step : Bool := false
  since : Nat := 0
  bpPass : Option Nat := none
  deriving DecidableEq, Repr

/-- An engine: the slot entry its last turn chose, its RUNNING thread, the elapsed time at which that thread's quantum began, and
the QUANTUM that its turn runs under (R36, R237, R238). -/
structure EngSt where
  last : Nat := 15
  run : Option Nat := none
  quant : Nat := 0
  qlen : Nat := 0
  deriving DecidableEq, Repr

/-- A cluster: the instruction store by word, its loaded CODE sections as (offset, length), the data memory by byte, the
frames its handles name (R261), the handles a replay restored (R302), IMAGE_CRC and BUILD_ID of the loaded image, a count of
its loads and resets, when a signal from outside last reached one of its threads, and the start of the deadlock last found
in it (R249). -/
structure CluSt where
  code : Sparse Word := []
  sect : List (Nat × Nat) := []
  dmem : Sparse Byte := []
  handles : Sparse (Option Copy) := []
  rhandles : List Nat := []
  imgCrc : Nat := 0
  build : Nat := 0
  gen : Nat := 0
  sigAt : Nat := 0
  dlAt : Option Nat := none
  deriving DecidableEq, Repr

/-- A slot of a channel (R244, R245): its index, the thread that reserved it, when, whether it is 0 reserved, 1 committed or
2 voided, and whether CHN_HOLD was raised for it. -/
structure Slot where
  idx : Nat
  t : Nat
  since : Nat
  st : Nat := 0
  held : Bool := false
  deriving DecidableEq, Repr

/-- A channel: its slots not delivered, oldest first, and the threads that wait to reserve and to read, in order of issue. -/
structure ChanSt where
  slots : List Slot := []
  resWait : List Nat := []
  rdWait : List Nat := []
  deriving DecidableEq, Repr

/-- The engine array: threads by 128 × cluster + 8 × engine + thread, engines by 16 × cluster + engine, clusters,
channels, the 1 MiB channel memory by byte, and the last signal and deadlock of the device scope as for a cluster. -/
structure EngArr where
  thr : Sparse Thr := []
  eng : Sparse EngSt := []
  clu : Sparse CluSt := []
  chan : Sparse ChanSt := []
  chmem : Sparse Byte := []
  sigAt : Nat := 0
  dlAt : Option Nat := none
  deriving DecidableEq, Repr

end Sys2Proof.Machine
end

