-- ==== Sys2Proof/Machine/StEvt.lean ====
section
/-! DEFINITION. State of the event path that no register holds: the error log (21_events_and_errors.md R437). -/
namespace Sys2Proof.Machine

/-- SYND and ADDR of an occurrence (R435): MEM, SUB, BITS and the 64-bit address. -/
structure Synd where
  mem : Nat := 0
  sub : Nat := 0
  nbits : Nat := 0
  addr : Nat := 0
  deriving DecidableEq, Repr

/-- One error log entry, the fields of Table 21-4. -/
structure LogEntry where
  sev : Nat
  uncorr : Bool
  first : Bool
  cause : Nat
  code : Nat
  inst : Nat
  seq : Nat
  src : Nat
  ts : Instant
  synd : Nat
  addr : Nat
  deriving DecidableEq, Repr

end Sys2Proof.Machine
end

