-- ==== Sys2Proof/Machine/StHif.lean ====
section
/-! DEFINITION. State of the host interface that no register of the owner view holds (17_host_interface.md). -/
namespace Sys2Proof.Machine

/-- What a function's PCIe configuration space holds that the device acts on: MSI-X Enable and Function Mask, PTM Enable, Enable
Relaxed Ordering, Max Payload Size and Max Read Request Size as encoded, 10-bit tags, the BARs as written (64 bits each),
and on a management function VF Enable, NumVFs, ARI Capable Hierarchy and the VF BARs. `bmeOffAt` is when it observed Bus
Master Enable cleared; `posts` the posted writes it holds (address, data, Relaxed Ordering; R364); `flr` that its reset came from an
FLR, and `resetAt` when that began (R365). -/
structure FnSt where
  msixEnable : Bool := false
  funcMask : Bool := false
  ptmEnable : Bool := false
  roEnable : Bool := true
  mps : Nat := 0
  mrrs : Nat := 2
  tag10 : Bool := false
  bars : Sparse DWord := []
  vfEnable : Bool := false
  numVfs : Nat := 0
  ari : Bool := false
  vfBars : Sparse DWord := []
  bmeOffAt : Nat := 0
  posts : List (Nat × List Byte × Bool) := []
  flr : Bool := false
  resetAt : Nat := 0
  deriving DecidableEq, Repr

/-- Where a read request stands (R361–R364): not issued; outstanding under a tag until a deadline; complete; failed; or complete
with its data discarded, to be reissued. -/
inductive RdSt where
  | wait
  | out (tag deadline : Nat)
  | done
  | failed
  | lost
  deriving DecidableEq, Repr

/-- One read request of a fetch, the data it received, and whether a completion of it came poisoned. -/
structure RdReq where
  addr : Nat
  len : Nat
  got : List Byte := []
  st : RdSt := .wait
  bad : Bool := false
  deriving DecidableEq, Repr

/-- What a fetch is for: TX descriptor i of queue q, the frame or payload of a TX descriptor (its four words), RX descriptor i. -/
inductive FetchFor where
  | txDesc (q i : Nat)
  | txFrame (q i : Nat) (d : List Byte)
  | rxDesc (q i : Nat)
  deriving DecidableEq, Repr

/-- A DMA fetch (R361): its function, the FGEN it started under, its read requests in address order, and the time base when its last
byte arrived (R18). -/
structure Fetch where
  f : Nat
  gen : Nat
  what : FetchFor
  reqs : List RdReq
  doneTs : Instant := 0
  deriving DecidableEq, Repr

/-- A TLP decoded against a window whose data is not yet at its channels (R357): function, window, slot, the GDDR6 address, and the
bytes of a write or the length of a read. -/
structure WTlp where
  f : Nat
  w : Nat
  slot : Nat
  addr : Nat
  write : Option (List Byte)
  len : Nat
  deriving DecidableEq, Repr

/-- A host port: whether its reference clock is present, when training began, its fetches in request order, the tags in the 1 ms
hold after a timeout, and the TLPs in the window decoder. -/
structure HpSt where
  refclk : Bool := false
  trainAt : Nat := 0
  fetch : List Fetch := []
  quar : List (Nat × Nat) := []
  wtlp : List WTlp := []
  deriving DecidableEq, Repr

end Sys2Proof.Machine
end

