-- ==== Sys2Proof/Machine/StMem.lean ====
section
/-! DEFINITION. State of the GDDR6 memory, its channels and MCI that no register holds (16_gddr6_memory.md). -/
namespace Sys2Proof.Machine

/-- A memory request (R339): requester, byte address, length, the data of a write, when it arrived, and how often its
burst was repeated (R344). -/
structure MemReq where
  q : MReq
  addr : Nat
  len : Nat
  write : Option (List Byte)
  since : Nat
  tries : Nat := 0
  deriving DecidableEq, Repr

/-- One channel: its queue and its hold in order of arrival (R339, R345), the open row and the refresh debt by bank, when
the last debt was gained (R342), when the last request came or went, when it entered its state, whether MEM_CH_HOLD
and QUIESCE_TIMEOUT were raised in this outage, the start of its last periodic pass, the slices done in it with the start of the last
one (R343), and the end of that slice. -/
structure ChSt where
  queue : List MemReq := []
  hold : List MemReq := []
  row : Sparse (Option Nat) := []
  debt : Sparse Nat := []
  refAt : Nat := 0
  lastReq : Nat := 0
  since : Nat := 0
  holdRaised : Bool := false
  qtRaised : Bool := false
  passAt : Nat := 0
  slices : Nat := 16
  sliceAt : Nat := 0
  busyTo : Nat := 0
  deriving DecidableEq, Repr

/-- The memory: the bytes written since the key was drawn, by address, strictly rising (no byte of another address has
a value, R335, R337); the channels; by real-time port when its panic began and whether MEM_PANIC_LONG was raised in it;
the initialisation in progress: the first line not yet written, the end of its range, and when it began. -/
structure MemSt where
  bytes : Sparse Byte := []
  ch : Sparse ChSt := []
  panic : Sparse (Option (Nat × Bool)) := []
  init : Option (Nat × Nat × Nat) := none
  deriving DecidableEq, Repr

end Sys2Proof.Machine
end

