-- ==== Sys2Proof/Machine/StPwr.lean ====
section
/-! DEFINITION. State of power, clocks, lifetime and debug access that no register holds (20_power_clocks_lifetime.md,
21_events_and_errors.md R444–R450). -/
namespace Sys2Proof.Machine

/-- What holds the device in reset (R418, R425, R457, R460): loss of SYS_REFCLK, the thermal trip, a rail out of its range, TEST_EN or
an always-on rail. -/
structure Hold where
  sysref : Bool := false
  therm : Bool := false
  rail : Bool := false
  por : Bool := false
  deriving DecidableEq, Repr

/-- Something holds it. -/
def Hold.any (h : Hold) : Bool := h.sysref || h.therm || h.rail || h.por

/-- Power. `unit` is the state of clusters 0–11 and pipeline pairs 12–15 (0 HOT, 1 WARM, 2 COLD), `unitAt` since when it has been in it without work, and
`waking` when a wake began; `wake` that a wake source waits for STANDBY to be reached or left; `calMs` the millisecond evaluated last, `cal` the
entries active in it, `calNew` that the time jumped since; `tjHigh` that a sensor is at TJ_HIGH_C; `tripAt` when THERM_TRIP was latched or a sensor last read more than 100 °C in it; `sentAt` when
the sentinels were measured, none since the boot; `eye` the lanes (4 × quad + lane) that fell short since their port last left UP;
`hourAt` the start of the powered hour and `hotHour` that a sensor passed the grade's limit in it; `hold` what holds the device in reset. -/
structure PwrSt where
  unit : Sparse Nat := []
  unitAt : Sparse Nat := []
  waking : Sparse (Option Nat) := []
  wake : Bool := false
  calMs : Option Nat := none
  cal : List Nat := []
  calNew : Bool := false
  tjHigh : Bool := false
  tripAt : Nat := 0
  sentAt : Option Nat := none
  eye : List Nat := []
  hourAt : Nat := 0
  hotHour : Bool := false
  hold : Hold := {}
  deriving DecidableEq, Repr

/-- The JTAG port and debug access: the TAP's instruction, the access register; the challenge with when it was built; the key words of
DBG_CUST_HASH that are written. -/
structure DbgSt where
  ir : Nat := 1
  dr : Nat := 0
  chal : Option (List Byte × Nat) := none
  hashSet : Nat := 0
  deriving DecidableEq, Repr

end Sys2Proof.Machine
end

