-- ==== Sys2Proof/Machine/StRpl.lean ====
section
/-! DEFINITION. State of deterministic mode and replay that no register holds (14_replay.md). -/
namespace Sys2Proof.Machine

/-- A crumb of 32 bytes, byte 0 in bits [255:248] (R296). -/
abbrev Crumb := BitVec 256

/-- A checkpoint taken: its SEQ, its slot, the index of its CKPT crumb, none where that crumb was lost, its instant, and whether no GAP
crumb was chained since (R300). -/
structure Ckpt where
  seq : Nat
  slot : Nat
  cidx : Option Nat
  ts : Instant
  fresh : Bool := true
  deriving DecidableEq, Repr

/-- Capture of one cluster (R297–R300): the capture FIFO, the crumbs lost since the last GAP crumb with the first loss,
the checkpoints that its slots hold, latest first, the SEQ of the next, when the last was taken, the one in progress with its bytes,
and whether another one is due once that is written. -/
structure CapSt where
  fifo : List Crumb := []
  gap : Option (Nat × Instant) := none
  ckpts : List Ckpt := []
  seq : Nat := 0
  lastAt : Nat := 0
  busy : Option (Ckpt × List Byte) := none
  again : Bool := false
  deriving DecidableEq, Repr

/-- The replay in progress (R302–R304): the target, when a crumb was last consumed, the captured cluster, and the retired counts
of B by thread. -/
structure RpSt where
  target : Nat
  lastAt : Nat
  cluster : Nat
  ends : Option (List Nat) := none
  deriving DecidableEq, Repr

/-- RPL: capture by cluster, the replay in progress, and the crumbs read from a host ring from POS on. -/
structure RplSt where
  cap : Sparse CapSt := []
  rp : Option RpSt := none
  ahead : List Crumb := []
  deriving DecidableEq, Repr

end Sys2Proof.Machine
end

