-- ==== Sys2Proof/Machine/StSvc.lean ====
section
/-! DEFINITION. State of the engine-hosted services (13_engine_offloads.md). -/
namespace Sys2Proof.Machine

/-- What waits for a receive buffer of a context's queue: payload with the entry stamp of its last byte and the status its completion
carries, or an event completion's code (R283, R286, R293). -/
inductive SvcItem where
  | data (bs : List Byte) (entry : Instant) (status : Nat)
  | event (code : Nat)
  deriving DecidableEq, Repr

/-- A session context: the fields of its header (Table 13-1), the local index that its owner names it by, the request it was opened
with, and the service state, whose layout is bound to SVC_VER (R280).

For TCP: the next sequence numbers received, acknowledged and sent; segments received out of order; payload sent and not acknowledged, and
payload not sent; retransmissions of the oldest segment, when the retransmission timer began, when the peer was last heard and the keepalive
probes since; the peer's window, the congestion window and threshold, duplicate acknowledgements; `recov` (1 in fast recovery, 2 after a
retransmission timeout) up to `recover`; the smoothed round-trip time, its variation and the segment being timed (its end, when it was sent);
the options in force: the peer's MSS and window shift, window scale, SACK, timestamps with the peer's latest, ECN; that ECE is owed to the peer,
that CWR is, and the end of the window last reduced for ECE; whether the peer's SYN came, the
handshake is done, whether FIN was asked for, sent and received, and whether the
connection was aborted.

For what runs over it: the received stream, and its segments' lengths with their entry stamps. For TLS: record numbers, whether later records are
held after a KeyUpdate, the standby key, the unfinished handshake message received, which directions have used up their record numbers. For ESP: the highest sequence number, the window
as a bit map, bytes and packets used, whether the soft lifetime was told; `txStop` when the sequence numbers are used up. For NVMe/TCP: the registered buffers by command identifier, the capsules
outstanding, and the commands marked by a data digest failure. `outq` is what waits for receive buffers; `bad` that a read of the context was uncorrectable
(Table 16-4). -/
structure Ctx where
  kind : Nat := 0
  state : Nat := 0
  fgen : Nat := 0
  owner : Nat := 0
  home : Nat := 0
  gen : Nat := 0
  keyRx : Nat := 0
  keyTx : Nat := 0
  link : Option Nat := none
  svcVer : Nat := 1
  flowid : Nat := 0
  openTs : Instant := 0
  octRx : Nat := 0
  octTx : Nat := 0
  lastErr : Nat := 0
  idx : Nat := 0
  req : OpenReq := { kind := 0, rxq := 0, txq := 0 }
  rcvNxt : Nat := 0
  sndUna : Nat := 0
  sndNxt : Nat := 0
  ooo : List (Nat × List Byte × Instant) := []
  sent : List Byte := []
  unsent : List Byte := []
  retries : Nat := 0
  sentAt : Nat := 0
  heardAt : Nat := 0
  probes : Nat := 0
  wnd : Nat := 0
  cwnd : Nat := 0
  ssthresh : Nat := 4294967295
  dups : Nat := 0
  recov : Nat := 0
  recover : Nat := 0
  srtt : Nat := 0
  rttvar : Nat := 0
  rtt : Option (Nat × Nat) := none
  pmss : Nat := 536
  wsOut : Nat := 0
  wsOn : Bool := false
  sackOn : Bool := false
  tsOn : Bool := false
  tsRecent : Nat := 0
  ecnOn : Bool := false
  ece : Bool := false
  cwr : Bool := false
  cwrAt : Nat := 0
  synRx : Bool := false
  estab : Bool := false
  fin : Bool := false
  finSent : Bool := false
  finRx : Bool := false
  aborted : Bool := false
  stream : List Byte := []
  marks : List (Nat × Instant) := []
  recRx : Nat := 0
  recTx : Nat := 0
  hold : Bool := false
  standby : Option Nat := none
  hs : List Byte := []
  rxStop : Bool := false
  txStop : Bool := false
  espTop : Nat := 0
  espMap : Nat := 0
  espBytes : Nat := 0
  espPkts : Nat := 0
  softTold : Bool := false
  bufs : Sparse (Option (Nat × Nat)) := []
  nvOut : Nat := 0
  nvBad : List Nat := []
  outq : List SvcItem := []
  bad : Bool := false
  deriving DecidableEq, Repr

/-- A passive TCP listener (R286): function, local port, backlog, and the request its connections take. -/
structure Listener where
  f : Nat
  port : Nat
  backlog : Nat
  req : OpenReq
  deriving DecidableEq, Repr

/-- A datagram in reassembly (R285): its cluster, its key (version, addresses, identification, protocol), the header of its first
fragment, its pieces (offset, bytes), the total length once known, when it began, and the pipeline of its first fragment. -/
structure Reasm where
  c : Nat
  key : List Byte
  head : Option (List Byte) := none
  pieces : List (Nat × List Byte) := []
  total : Option Nat := none
  since : Nat
  pipe : Nat := 0
  deriving DecidableEq, Repr

/-- The services: contexts by CTX_ID, where their pool lies (R279), the context cache by set, most recently used first (R281); listeners,
datagrams in reassembly; the slow-path policy by reason where the owner set one, the reasons with registered customer firmware, SP_REASM_MS, SP_ICMP_PPS
where the owner set it, with the second and the count it is used in; the cluster mask of a service by KIND, and what the owner's last
settings were answered; the frames and datagrams discarded. -/
structure SvcSt where
  ctx : Sparse Ctx := []
  pool : Option Nat := none
  cache : Sparse (List Nat) := []
  listen : List Listener := []
  reasm : List Reasm := []
  policy : Sparse (Option SpPolicy) := []
  custom : List Nat := []
  reasmMs : Nat := 500
  icmpPps : Option Nat := none
  icmpSec : Nat := 0
  icmpN : Nat := 0
  masks : Sparse Nat := []
  lastSet : List Nat := []
  discards : Nat := 0
  reasmDrops : Nat := 0
  deriving DecidableEq, Repr

end Sys2Proof.Machine
end

