-- ==== Sys2Proof/Machine/StTail.lean ====
section
/-! DEFINITION. State of the Tail and of Stream Link that no register holds (04_records_and_stream_port.md). -/
namespace Sys2Proof.Machine

/-- A 64-byte unit; byte 0 is bits [511:504] (R77). -/
abbrev TUnit := BitVec 512

/-- The pending gap (R89): the fields a GAP unit will state. -/
structure Gap where
  count : Nat := 0
  first : Instant := 0
  last : Instant := 0
  mask : Nat := 0
  cause : Nat := 0
  deriving DecidableEq, Repr

/-- A TQ unit's fields before it is chained (Table 04-5); `step` is none where it does not fit 64 bits. -/
structure TqRec where
  old : Nat
  new : Nat
  cause : Nat
  src : Nat
  secValid : Bool
  utc : Nat
  ts : Instant
  step : Option Int
  est : Nat
  deriving DecidableEq, Repr

/-- Why a checkpoint is taken; CAUSE of Table 04-8. -/
inductive CpCause where
  | interval | time | request | chainEnd
  deriving DecidableEq, Repr

/-- A unit on its way into a flit or to the host drain: whether it was read from the spill ring, the TAIL_EPOCH it was put
out under, and how many ring places just before it held units that could not be read (Table 16-4). -/
structure RUnit where
  u : TUnit
  ring : Bool
  epoch : Nat := 0
  skip : Nat := 0
  deriving DecidableEq, Repr

/-- The places of the ring that a unit's arrival releases. -/
def RUnit.places (r : RUnit) : Nat := if r.ring then r.skip + 1 else 0

/-- The Tail. `link` is the link now open or the next to open, `body` its units (first first), `head` H[link − 1],
`opened` when its first unit was chained; `closed` the last closed link with the INDEX of its last unit and its H;
`hold` the units that wait for the sink in output order; `slots` the taken checkpoints not yet signed, oldest first;
`due` the checkpoint that waits for room; `cpAt` when the newest checkpoint was taken, with its cause; `recent` when the
units of the last microsecond were chained; `ring` the spill ring, oldest first: the TAIL_EPOCH of each unit, whose bytes stand in
GDDR6; `ringAt` the place of the oldest; the first `rd` units have been read out but not released, the last `skip` of them in
error; `drainQ` the units on their way to the host drain. -/
structure TailSt where
  hasChain : Bool := false
  epochWritten : Bool := false
  link : Nat := 0
  body : List TUnit := []
  head : BitVec 256 := 0
  opened : Nat := 0
  closed : Option (Nat × Nat × BitVec 256) := none
  gap : Option Gap := none
  hold : List TUnit := []
  tqStore : Option TqRec := none
  slots : List TUnit := []
  signing : Bool := false
  due : Option CpCause := none
  lastCp : Nat := 0
  cpAt : Option (Nat × CpCause) := none
  bucket : Nat := 0
  bucketAt : Nat := 0
  recent : List Nat := []
  ring : List Nat := []
  ringAt : Nat := 0
  rd : Nat := 0
  skip : Nat := 0
  highRaised : Bool := false
  drainQ : List RUnit := []
  deriving DecidableEq, Repr

/-- A data flit kept in the replay buffer as it was built (R102). -/
structure Flit where
  fseq : Nat
  units : List RUnit
  bytes : List Byte
  sentAt : Nat
  deriving DecidableEq, Repr

/-- Stream Link. `kept` is the replay buffer, oldest first; `waiting` the units handed over and not yet in a flit;
`step` the training steps received; `t0` when training began; `timeouts` the consecutive ACK timeouts; `resend` the
number of kept flits still to be sent again; `progress` when an ACK last advanced or the oldest flit was sent; `scr` the
scrambler. -/
structure StrSt where
  kept : List Flit := []
  waiting : List RUnit := []
  step : Nat := 0
  credit : Bool := false
  t0 : Nat := 0
  failed : Bool := false
  timeouts : Nat := 0
  resend : Nat := 0
  progress : Nat := 0
  lockLostAt : Option Nat := none
  scr : BitVec 58 := 0
  deriving DecidableEq, Repr

end Sys2Proof.Machine
end

