-- ==== Sys2Proof/Machine/StTfn.lean ====
section
/-! DEFINITION. State of tenant functions that no register holds (18_tenant_functions.md). -/
namespace Sys2Proof.Machine

/-- A created hardware queue (R381–R389). `fetched` is the next descriptor to fetch, `out` the number of posted
descriptors without completion, `written` the completions written and not consumed; `bufs` the RX descriptors fetched (index, address, length);
`pi2` and `ci2` the doorbells stored while the function is FROZEN (R383), with ARM; `ctx` the session context of a SERVICE queue. -/
structure TQueue where
  log2 : Nat
  typ : Nat := 0
  pipe : Nat := 0
  ring : Nat := 0
  cring : Nat := 0
  irq : Bool := false
  vec : Nat := 0
  limit : Nat := 0
  ctx : Option Nat := none
  pi : Nat := 0
  ci : Nat := 0
  pi2 : Option Nat := none
  ci2 : Option (Nat × Bool) := none
  fetched : Nat := 0
  out : Nat := 0
  written : List Nat := []
  bufs : List (Nat × Nat × Nat) := []
  armed : Bool := false
  draining : Bool := false
  deriving DecidableEq, Repr

/-- A mailbox request to MGC firmware (R379): the sender, its FGEN, the 256 words. -/
structure MbxReq where
  f : Nat
  gen : Nat
  words : List Word
  deriving DecidableEq, Repr

/-- A migration key (R392): MIG_ID and its WRAP slot. -/
structure MigKey where
  id : Nat
  slot : Nat
  deriving DecidableEq, Repr

/-- A dirty log (R391): BASE, PAGES and the pages written. -/
structure DirtyLog where
  base : Nat
  pages : Nat
  bits : List Nat := []
  deriving DecidableEq, Repr

/-- Tenant functions: the created queues by `queueKey`; the requests at MGC firmware, oldest first, and the answers it gave that
the mailbox has not yet written, as (function, FGEN, words); key slots and contexts by 16,384 × function + handle; migration keys and
dirty logs by function; when a function was frozen, and whether TFN_FREEZE_TIMEOUT was raised since. -/
structure TfnSt where
  q : Sparse (Option TQueue) := []
  mbxQ : List MbxReq := []
  rsp : List (Nat × Nat × List Word) := []
  keys : Sparse (Option Nat) := []
  ctxs : Sparse (Option Nat) := []
  mig : Sparse (Option MigKey) := []
  log : Sparse (Option DirtyLog) := []
  frozenAt : Sparse Nat := []
  frozenOut : List Nat := []
  deriving DecidableEq, Repr

/-- Key of queue q of function f. -/
def queueKey (f : Nat) (rx : Bool) (q : Nat) : Nat := f * 2048 + (if rx then 1024 else 0) + q

end Sys2Proof.Machine
end

