-- ==== Sys2Proof/Machine/StTime.lean ====
section
/-! DEFINITION. State of TIM and the TSUs that no register holds (03_time_base.md). -/
namespace Sys2Proof.Machine

/-- What TIM follows of one source (R61, R474): PPS_IN0, PPS_IN1 and, as number 2, the PTP servo. `last` is the
previous accepted edge in elapsed time less CABLE_NS, none before the first edge since EN was set or the input was
lost; `edges` the last accepted edges, latest first, each with its elapsed time and its signed offset in 2^-16 ns;
`run` the consecutive seconds that met the lock criterion; `bad` those above UNLOCK_THRESH; `since` when its qualification began
(R54, R62). -/
structure Track where
  last : Option Int := none
  lost : Bool := false
  edges : List (Int × Int) := []
  run : Nat := 0
  bad : Nat := 0
  since : Int := 0
  deriving DecidableEq, Repr

/-- A pending set or step (R58): the absolute value or signed amount in 2^-16 ns, whether it waits for a 1PPS edge,
the elapsed time of the request and the tick it came after. -/
structure PendAdj where
  isSet : Bool
  value : Int
  atPps : Bool
  since : Nat
  tick : Nat
  deriving DecidableEq, Repr

/-- A PTM correlation set (R74): device instant, host time in ns, link delay in ps. -/
structure PtmSet where
  dev : Instant := 0
  host : Nat := 0
  link : Nat := 0
  deriving DecidableEq, Repr

/-- One host port's PTM requester (R74): `open_` is the start of the dialogue in progress; `next` when the next one
is due. -/
structure PtmReq where
  opened : Option Nat := none
  lastStart : Option Nat := none
  fails : Nat := 0
  set : PtmSet := {}
  deriving DecidableEq, Repr

/-- A PPS_OUT pulse in progress: when it ends (elapsed time), under the parameters it started with (R65). -/
structure PpsPulse where
  falls : Nat
  deriving DecidableEq, Repr

/-- TIM's own state. `src` is the discipline source in effect and `srcTick` the tick after which TIM_SRC was last
written (R54); `trk` the tracks of the sources; `edge` the elapsed time of the last accepted edge on the active input
with its CABLE_NS in units; `pll` the PLL's frequency under a 1PPS source (R57), `slew` the phase it still has to take away, in 10^-12
units, and `slewRate` how fast (R54); `liveTick` the tick in which live fields were written that are not yet in force (R53); `rem` what the rate has left over below
one unit, in 10^-12 units; `tenMhz` whether the 10 MHz input is present; `lastSec` the second of the last boundary evaluated; `holdEst` and `holdSecs` the estimate at
entry of HOLDOVER and the seconds since; `servo` the servo's last offset in ps, none before its first report, and
`servoAt` the elapsed time of that report; `pulses` when each PPS_OUT pulse ends
(R65); `lastRise` the second of each output's last rise, plus one; `leapFrom` the second in which the leap flags or LEAP_AT were last
written (R64). -/
structure TimSt where
  pend : Option PendAdj := none
  src : Nat := 0
  srcTick : Nat := 0
  trk : Sparse Track := []
  edge : Option (Nat × Nat) := none
  pll : BitVec 32 := 0
  slew : Int := 0
  slewRate : Nat := 0
  liveTick : Option Nat := none
  rem : Int := 0
  tenMhz : Bool := false
  lastSec : Nat := 0
  holdSecs : Nat := 0
  holdEst : Nat := 0
  servo : Option Nat := none
  servoAt : Nat := 0
  pulses : Sparse (Option PpsPulse) := []
  lastRise : Sparse Nat := []
  ptm : Sparse PtmReq := []
  leapFrom : Nat := 0
  deriving DecidableEq, Repr

/-- A TXTS FIFO entry (R72). -/
structure TxtsEntry where
  ts : Instant
  msgType : Nat
  domain : Nat
  seqId : Nat
  deriving DecidableEq, Repr

/-- One TSU: its TXTS FIFO, head first (R72), and when the calibration last started (R67). -/
structure TsuSt where
  txts : List TxtsEntry := []
  calAt : Nat := 0
  deriving DecidableEq, Repr

end Sys2Proof.Machine
end

