-- ==== Sys2Proof/Machine/State.lean ====
section
/-! DEFINITION. The state of the block, plain data, and the state right after power-on reset. -/
namespace Sys2Proof.Machine

/-- The state of the 6160.
`regs` holds every 32-bit register word by owner-view address (R32), listed where it differs from its reset value;
`act` the active copies of staged fields (R37); `cnts` the 64-bit counters by the address of their low word (R42);
`latch` the read latches, keyed by requester and block or register (R42); `pregs` the registers of the function pages,
keyed by 65,536 × function + offset (R33). `tb` is the time base (R49), `mono` the time elapsed since power-on, both in
units of 2^-16 ns. `quies` tells since when a block instance is QUIESCING and whether
QUIESCE_TIMEOUT was raised (R41). `free` counts the free values drawn; `out` is what the device gave to the outside, latest first. -/
structure State where
  pending : List Instr
  regs : Sparse Word
  act : Sparse Word
  cnts : Sparse Nat
  latch : Sparse Word
  pregs : Sparse Word
  tb : Instant
  mono : Nat
  free : Nat
  out : List Out
  straps : Straps
  tim : TimSt
  tsu : Sparse TsuSt
  log : List LogEntry
  fn : Sparse FnSt
  tl : TailSt
  sl : StrSt
  dp : DataSt
  boot : BootSt
  tfn : TfnSt
  cip : CipSt
  mem : MemSt
  en : EngArr
  rpl : RplSt
  hp : Sparse HpSt
  svc : SvcSt
  pw : PwrSt
  dbg : DbgSt
  quies : Sparse (Option (Nat × Bool))
  deriving DecidableEq, Repr

/-- Why a step stops with a fault. -/
inductive Fault where
  /-- The command is not well formed (WellFormed.lean). No meaning raises it: every command has its effect in every state. Safe. -/
  | illFormed
  deriving DecidableEq, Repr

/-- Why a step is refused. -/
inductive Refusal where
  /-- The command has no meaning yet (raised by exec's arms only). Safe. -/
  | notModelled (mnemonic : String)
  deriving DecidableEq, Repr

/-- What a command answers. -/
abbrev Res := Host.Outcome State Fault Refusal

/-- The machine right after power-on reset: every register at its reset value, the time base at TS96 zero (R52). -/
def State.reset : State where
  pending := []
  regs := []
  act := []
  cnts := []
  latch := []
  pregs := []
  tb := 0
  mono := 0
  free := 0
  out := []
  straps := {}
  tim := {}
  tsu := []
  log := []
  fn := []
  tl := {}
  sl := {}
  dp := {}
  boot := {}
  tfn := {}
  cip := {}
  mem := {}
  en := {}
  rpl := {}
  hp := []
  svc := {}
  pw := {}
  dbg := {}
  quies := []

end Sys2Proof.Machine
end

