-- ==== Sys2Proof/Machine/Ops.lean ====
section
/-! DEFINITION. The named operations over registers, counters, latches and events that every command uses
(02_registers_and_views.md, 21_events_and_errors.md). -/
namespace Sys2Proof.Machine

/-! ### Cards and reset values -/

/-- The cards of a block code (Table 02-1). -/
def cardsOf : Nat → List Card
  | 0x01 => cardsGen | 0x02 => cardsEvt | 0x03 => cardsPwr | 0x04 => cardsBoot | 0x05 => cardsTim
  | 0x06 => cardsTsu | 0x07 => cardsTail | 0x08 => cardsStr | 0x09 => cardsMac | 0x0A => cardsPrs
  | 0x0B => cardsMat | 0x0C => cardsFwd | 0x0D => cardsSeq | 0x0E => cardsPrf | 0x0F => cardsSch
  | 0x10 => cardsEng | 0x11 => cardsRpl | 0x12 => cardsCip | 0x13 => cardsKey | 0x14 => cardsMem
  | 0x15 => cardsMci | 0x16 => cardsHif | 0x17 => cardsTfn | 0x18 => cardsDbg
  | _ => []

/-- The card that covers an offset of an instance. -/
def cardIn (i : Inst) (off : Nat) : Option Card :=
  match (if i.hdr then cardsHeader.find? (fun c => c.hit off) else none) with
  | some c => some c
  | none => (cardsOf i.code).find? (fun c => c.hit off)

/-- The card that covers an owner-view address. -/
def cardAt (a : Nat) : Option Card :=
  match instAt a with
  | none => none
  | some i => cardIn i (a - i.base)

/-- Block codes that leave every reset in RUN: GEN, EVT, PWR, BOOT/MGC, TIM, TSU, MCI, DBG (R48). -/
def runsAtReset (code : Nat) : Bool := [0x01, 0x02, 0x03, 0x04, 0x05, 0x06, 0x15, 0x18].contains code

/-- Severities of Table 21-2: first cause of a run of causes, and 0 I, 1 W, 2 E, 3 S of each. -/
def sevTable : List (Nat × List Nat) := [
  (0, [3, 1, 2, 0]), (4, [1, 1, 1]), (8, [0, 1, 1]), (16, [0, 0, 2, 0, 1, 1, 1, 1, 1, 2]),
  (32, [0, 1, 0, 1, 0, 1, 1, 1]), (40, [1, 0, 1, 1, 1, 0]), (48, [0, 1, 1, 1, 1, 2]),
  (64, [0, 1, 1, 1, 1, 1, 1, 1]), (72, [0, 0, 0, 0]), (96, [2, 1, 1, 0, 2, 1]), (102, [2, 1, 1, 1, 0]),
  (107, [1, 1, 1, 1, 1, 1, 1, 0]), (115, [1, 1, 1, 0, 0]), (128, [2, 1, 1, 1, 0, 2, 2]), (135, [1, 0, 1]),
  (160, [2, 2, 1, 1, 0, 0]), (166, [2, 3, 1, 1, 1, 2, 1, 2, 1, 0]), (192, [0, 1, 0, 1, 1, 1, 1, 0]),
  (200, [0, 0, 1, 0, 1]), (224, [2, 2, 1, 1, 2]), (229, [1, 1])]

/-- The severity of a cause; none for a cause not used (R432). -/
def sevOf (c : Nat) : Option Nat :=
  match sevTable.find? (fun r => decide (r.1 ≤ c) && decide (c < r.1 + r.2.length)) with
  | none => none
  | some r => r.2[c - r.1]?

/-- Reset value of EVT_CAUSE_ROUTE_c: by severity, 0 for a cause not used. -/
def routeRst (c : Nat) : Nat :=
  match sevOf c with
  | none => 0
  | some v => if 2 ≤ v then 0x90000000 else 0x80000000

/-- GEN_PARTID of the part (R2). -/
def partId : Nat := if Config.gradeX then 0x61605810 else 0x61605310

/-- Reset value of the register word at an owner-view address: the card's, with the cards whose reset value is told
per block, per cause or per part. An address without a card reads 0 (R7). -/
def rstNat (a : Nat) : Nat :=
  match instAt a with
  | none => 0
  | some i =>
    let off := a - i.base
    if i.hdr && off = 0 then i.code * 2 ^ 24 + i.inst * 2 ^ 16 + 0x100
    else if i.hdr && off = 8 && runsAtReset i.code then 0
    else if i.code = 0x01 && off = 0x40 then partId
    else if i.code = 0x04 && off = 0x108 then 1 + Config.flashSize % 3
    else if i.code = 0x04 && off = 0x80044 then bits Config.srvMac.toNat 31 0
    else if i.code = 0x04 && off = 0x80048 then bits Config.srvMac.toNat 47 32
    else if i.code = 0x02 && decide (0x1000 ≤ off) && decide (off < 0x2000) && off % 16 = 0 then
      ((sevOf ((off - 0x1000) / 16)).getD 0) * 2 ^ 28
    else if i.code = 0x02 && decide (0x1000 ≤ off) && decide (off < 0x2000) && off % 16 = 12 then
      routeRst ((off - 0x1000) / 16)
    else match cardIn i off with
      | none => 0
      | some c => c.rst

/-- The same as a word, the default of the register table. -/
def rstAt (a : Nat) : Word := BitVec.ofNat 32 (rstNat a)

/-! ### Register words, fields, counters, latches -/

/-- The register word at an owner-view address. A staged field reads as its shadow (R37). -/
def State.rd (s : State) (a : Nat) : Nat := (mget rstAt s.regs a).toNat

/-- Write a whole register word, as hardware does. -/
def State.wr (s : State) (a v : Nat) : State := { s with regs := mput rstAt s.regs a (BitVec.ofNat 32 v) }

/-- A field of a register word. -/
def State.fld (s : State) (a hi lo : Nat) : Nat := bits (s.rd a) hi lo

/-- Set a field of a register word. -/
def State.setFld (s : State) (a hi lo v : Nat) : State := s.wr a (putBits (s.rd a) hi lo v)

/-- One bit of a register word. -/
def State.flag (s : State) (a i : Nat) : Bool := (s.rd a).testBit i

/-- The active copy of a register word with staged fields (R37). -/
def State.rdA (s : State) (a : Nat) : Nat := (mget rstAt s.act a).toNat

/-- A field of an active copy. -/
def State.fldA (s : State) (a hi lo : Nat) : Nat := bits (s.rdA a) hi lo

/-- One bit of an active copy. -/
def State.flagA (s : State) (a i : Nat) : Bool := (s.rdA a).testBit i

/-- The largest value of a 64-bit counter. -/
def top64 : Nat := 0xFFFFFFFFFFFFFFFF
/-- The largest value of a 32-bit counter. -/
def top32 : Nat := 0xFFFFFFFF

/-- A 64-bit counter, by the address of its low word. -/
def State.cnt (s : State) (a : Nat) : Nat := mget (fun _ => 0) s.cnts a

/-- Set a 64-bit counter. -/
def State.setCnt (s : State) (a v : Nat) : State := { s with cnts := mput (fun _ => 0) s.cnts a v }

/-- Count `n` events in a 64-bit counter, which saturates (R43). -/
def State.bump (s : State) (a n : Nat) : State := s.setCnt a (satAdd top64 (s.cnt a) n)

/-- Count `n` events in a 32-bit register, which saturates (R43). -/
def State.bump32 (s : State) (a n : Nat) : State := s.wr a (satAdd top32 (s.rd a) n)

/-- Key of the latch of a requester at a block base (R42), or at the address of a latched word. -/
def latchKey (q : Req) (a : Nat) : Nat := reqKey q * 2 ^ 32 + a

/-- A latched word; 0 when nothing was latched since the block's reset (R42). -/
def State.lat (s : State) (q : Req) (a : Nat) : Nat := (mget (fun _ => 0) s.latch (latchKey q a)).toNat

/-- Latch a word for a requester. -/
def State.setLat (s : State) (q : Req) (a v : Nat) : State :=
  { s with latch := mput (fun _ => 0) s.latch (latchKey q a) (BitVec.ofNat 32 v) }

/-- Give something to the outside. -/
def State.emit (s : State) (o : Out) : State := { s with out := o :: s.out }

/-- The data of a register read goes to its requester. -/
def answer (q : Req) (a : Nat) (r : Nat × State) : State := r.2.emit (.readData q a (BitVec.ofNat 32 r.1))

/-- Reset value of a function-page word: MSI-X table entries come up masked (PCIe), the rest reads 0. -/
def pageRst (k : Nat) : Word :=
  if decide (0x8000 ≤ k % 65536) && decide (k % 65536 < 0xC000) && k % 16 = 12 then 1 else 0

/-- A word of a function page that has no home in the owner view. -/
def State.prd (s : State) (f off : Nat) : Nat := (mget pageRst s.pregs (f * 65536 + off)).toNat

/-- Write a word of a function page. -/
def State.pwr (s : State) (f off v : Nat) : State :=
  { s with pregs := mput pageRst s.pregs (f * 65536 + off) (BitVec.ofNat 32 v) }

/-- Draw a free value: the index it is taken at, and the state with the counter advanced. -/
def State.draw (s : State) : Nat × State := (s.free, { s with free := s.free + 1 })

/-- The time base as it is read and captured: FRAC[11:0] is 0 (R51). -/
def State.now (s : State) : Instant := s.tb - s.tb % 4096

/-- Elapsed time has reached `t`. -/
def State.past (s : State) (t : Nat) : Bool := decide (t ≤ s.mono)

/-! ### Block header -/

/-- STATUS.STATE of an instance: 0 RUN, 1 QUIESCING, 2 QUIESCED, 3 RESETTING, 4 LOADING, 5 REPLAY (R46). -/
def State.blkState (s : State) (base : Nat) : Nat := s.fld (base + 8) 2 0
/-- Set STATUS.STATE. -/
def State.setBlk (s : State) (base v : Nat) : State := s.setFld (base + 8) 2 0 v
/-- STATUS.SAFE. -/
def State.safe (s : State) (base : Nat) : Bool := s.flag (base + 8) 4
/-- STATUS.COMMIT_BUSY. -/
def State.commitBusy (s : State) (base : Nat) : Bool := s.flag (base + 8) 3
/-- A unit is HOT: clusters 0–11, pipeline pairs 12–15 (R419, R420). -/
def State.unitHot (s : State) (u : Nat) : Bool := mget (fun _ => 0) s.pw.unit u = 0
/-- The block instance is in RUN. -/
def State.running (s : State) (base : Nat) : Bool := s.blkState base = 0

/-! ### Bases -/

def genB : Nat := 0x0000000
def evtB : Nat := 0x0100000
def pwrB : Nat := 0x0200000
def bootB : Nat := 0x0300000
def timB : Nat := 0x0400000
def tsuB (p : Nat) : Nat := 0x0500000 + 0x1000 * p
def tailB : Nat := 0x0600000
def strB : Nat := 0x0700000
def macB (q : Nat) : Nat := 0x0800000 + 0x100000 * q
def prsB (n : Nat) : Nat := 0x0C00000 + 0x100000 * n
def matB (n : Nat) : Nat := 0x1000000 + 0x100000 * n
def fwdB : Nat := 0x1400000
def seqB : Nat := 0x1600000
def prfB : Nat := 0x1700000
def schB : Nat := 0x1800000
def engB (c : Nat) : Nat := 0x1C00000 + 0x100000 * c
def rplB : Nat := 0x2800000
def cipB : Nat := 0x2900000
def keyB : Nat := 0x2A00000
def memB : Nat := 0x2B00000
def mciB : Nat := 0x2C00000
def hifB : Nat := 0x2D00000
def tfnB : Nat := 0x2E00000
def dbgB : Nat := 0x3000000

/-! ### Host port of a function, MSI-X triggers -/

/-- The owner host port (R28). -/
def State.ownerHp (s : State) : Nat := s.fld (genB + 0x44) 1 0
/-- HIF_HP_CTRL.READY of a host port. -/
def State.hpReady (s : State) (h : Nat) : Bool := s.flag (hifB + 0x1000 + 0x1000 * h) 31
/-- Whether HIF_HP_CFG of host port h holds tenant function f in its TF range. -/
def State.hpHolds (s : State) (h f : Nat) : Bool :=
  let w := s.rd (hifB + 0x1004 + 0x1000 * h)
  decide (bits w 7 0 ≤ f) && decide (f < bits w 7 0 + bits w 20 12)
/-- The host port of a function: its own for a management function, the READY port whose range holds a tenant
function (R434). -/
def State.hpOfFn (s : State) (f : Nat) : Option Nat :=
  if 256 ≤ f then some (f - 256) else [0, 1, 2, 3].find? (fun h => s.hpReady h && s.hpHolds h f)
/-- Vectors allocated to a function (R368). -/
def State.msixCount (s : State) (f : Nat) : Nat := s.fld (hifB + 0xA000 + 4 * f) 10 0
/-- Bus Master Enable of a function as observed (R364). -/
def State.bme (s : State) (f : Nat) : Bool := s.flag (hifB + 0x8000 + 16 * f) 31
/-- The configuration space of a function. -/
def State.fnGet (s : State) (f : Nat) : FnSt := mget (fun _ => {}) s.fn f

/-- TFN_FN_STAT of a function, its STATE (Table 18-1) and its FGEN (R375, R377). -/
def tfnStat (f : Nat) : Nat := tfnB + 0x10004 + 0x40 * f
def State.fnState (s : State) (f : Nat) : Nat := s.fld (tfnStat f) 2 0
def State.fgen (s : State) (f : Nat) : Nat := s.fld (tfnStat f) 23 16

/-- Whether vector v of function f may send now (R369, R372); triggers of a FROZEN function set pending bits (R390). -/
def State.msixMay (s : State) (f v : Nat) : Bool :=
  !((s.prd f (0x8000 + 16 * v + 12)).testBit 0) && !(s.fnGet f).funcMask && s.bme f && s.running hifB && s.fnState f ≠ 2

/-- Build and send the message of vector v from its table entry (R369). -/
def State.msixBuild (s : State) (f v : Nat) : State :=
  let o := 0x8000 + 16 * v
  s.emit (.msix f v (s.prd f o + s.prd f (o + 4) * 2 ^ 32) (BitVec.ofNat 32 (s.prd f (o + 8))))

/-- The pending bit of vector v (Table 02-2, MSI-X pending bit array). -/
def State.pba (s : State) (f v : Nat) : Bool := (s.prd f (0xC000 + 4 * (v / 32))).testBit (v % 32)
/-- Set or clear the pending bit of vector v. -/
def State.setPba (s : State) (f v : Nat) (b : Bool) : State :=
  s.pwr f (0xC000 + 4 * (v / 32)) (putBits (s.prd f (0xC000 + 4 * (v / 32))) (v % 32) (v % 32) (b2n b))

/-- Trigger a vector: the message is sent, or its pending bit sets (R369). -/
def State.msixTrigger (s : State) (f v : Nat) : State :=
  if s.msixMay f v then s.msixBuild f v else s.setPba f v true

/-- Trigger a vector of an event target: at or above COUNT nothing is sent and EVT_CNT_1 counts (R434). -/
def State.evtVector (s : State) (f v : Nat) : State :=
  if v < s.msixCount f then s.msixTrigger f v else s.bump (evtB + 0x208) 1

/-! ### Events -/

/-- First-error capture in the raising instance (R435, R436). Answers whether this occurrence was captured. -/
def State.capture (s : State) (base c src sev : Nat) (y : Synd) : Bool × State :=
  let a := base + 0x14
  let u := b2n (decide (sev = 3))
  if s.flag a 31 then
    let s := s.setFld a 30 30 1
    let s := if sev = 3 then s.setFld a 29 29 1 else s
    (false, s.bump32 (base + 0x18) 1)
  else
    let s := s.wr a (2 ^ 31 + u * 2 ^ 29 + c % 256 * 2 ^ 20 + src % 2 ^ 20)
    let s := s.wr (base + 0x18) 1
    let s := s.wr (base + 0x1C) (y.mem % 256 * 2 ^ 24 + y.sub % 256 * 2 ^ 16 + y.nbits % 65536)
    let s := s.wr (base + 0x20) (bits y.addr 31 0)
    let s := s.wr (base + 0x24) (bits y.addr 63 32)
    let s := s.wr (base + 0x28) (tsWord s.now 0)
    let s := s.wr (base + 0x2C) (tsWord s.now 1)
    (true, s.wr (base + 0x30) (tsWord s.now 2))

/-- Write an occurrence to the error log (R437). Answers whether it is the first loss since a read of
EVT_ERRLOG_LOST, which raises ERRLOG_LOST. -/
def State.logEvent (s : State) (base c src sev : Nat) (first : Bool) (y : Synd) : Bool × State :=
  let i := (instAt base).getD ⟨0, 0, 0, 0, true⟩
  let q := s.fld (evtB + 0x40) 31 20
  let s := s.setFld (evtB + 0x40) 31 20 (q + 1)
  if s.log.length < 128 then
    let sy := if 2 ≤ sev then y.mem % 256 * 2 ^ 24 + y.sub % 256 * 2 ^ 16 + y.nbits % 65536 else 0
    let e : LogEntry := ⟨sev, decide (sev = 3), first, c, i.code, i.inst, q, src, s.now, sy, if 2 ≤ sev then y.addr else 0⟩
    let s := { s with log := s.log ++ [e] }
    (false, (s.setFld (evtB + 0x40) 7 0 s.log.length).bump (evtB + 0x210) 1)
  else
    (s.rd (evtB + 0x44) = 0, s.bump32 (evtB + 0x44) 1)

/-- Address of EVT_CAUSE_STAT_c. -/
def causeA (c : Nat) : Nat := evtB + 0x1000 + 16 * c

/-- Step 2 of R433: the cause latch, its count and its sources. -/
def State.latchCause (s : State) (c src : Nat) : State :=
  let a := causeA c
  let n := min 0xFFFFFF (s.fld a 23 0 + 1)
  let s := s.setFld a 23 0 n
  let s := s.setFld a 31 31 1
  let s := if s.flag (a + 4) 31 then s else s.wr (a + 4) (2 ^ 31 + src % 2 ^ 20)
  s.wr (a + 8) (src % 2 ^ 20)

/-- The management function an occurrence reaches, for causes EV192–EV223 (R434): that of the source's host port. -/
def State.mfOf (s : State) (c src : Nat) : Option Nat :=
  if c < 192 || 223 < c then none
  else match bits src 19 16 with
    | 0xA => some (bits src 15 0)
    | 0xB => s.hpOfFn (bits src 15 0)
    | _ => none

/-- One occurrence of a cause raised by the instance at `base` (R433), without the ERRLOG_LOST it may itself cause. -/
def State.occur (s : State) (base c src : Nat) (y : Synd) : Bool × State :=
  match sevOf c with
  | none => (false, s)
  | some sev =>
    let s := s.bump (evtB + 0x200) 1
    let r := if 2 ≤ sev then s.capture base c src sev y else (false, s)
    let route := r.2.rd (causeA c + 12)
    let l := if bit route 28 then r.2.logEvent base c src sev r.1 y else (false, r.2)
    let s := l.2.latchCause c src
    let s := if bit route 31 then s.setFld (evtB + 0x100 + 4 * (c / 32)) (c % 32) (c % 32) 1 else s
    let s := if bit route 30 then s.setFld (evtB + 0x120 + 4 * (c / 32)) (c % 32) (c % 32) 1 else s
    let mf := if bit route 29 then s.mfOf c src else none
    let s := match mf with
      | none => s
      | some h => (s.pwr (256 + h) 0xC0 (putBits (s.prd (256 + h) 0xC0) (c - 192) (c - 192) 1)).pwr (256 + h) 0xC4 (src % 2 ^ 20)
    let s := if bit route 30 then s.evtVector (256 + s.ownerHp) (bits route 25 16) else s
    let s := match mf with
      | none => s
      | some h => s.evtVector (256 + h) (bits route 9 0)
    (l.1, s)

/-- An occurrence with everything it causes (R433, R437). -/
def State.raiseAt (s : State) (base c src : Nat) (y : Synd) : State :=
  let r := s.occur base c src y
  if r.1 then (r.2.occur evtB 1 0 {}).2 else r.2

/-- An occurrence without syndrome. -/
def State.raise (s : State) (base c src : Nat) : State := s.raiseAt base c src {}

/-! Cause numbers of Table 21-2. -/
namespace Ev
def blockSafe : Nat := 0
def errlogLost : Nat := 1
def aonCorr : Nat := 2
def blockResetDone : Nat := 3
def cfgReject : Nat := 4
def quiesceTimeout : Nat := 5
def ownerFallback : Nat := 6
def bootForwarding : Nat := 8
def bootFallback : Nat := 9
def bootRecovery : Nat := 10
def pwrState : Nat := 16
def pwrWake : Nat := 17
def sysrefLost : Nat := 18
def calSession : Nat := 19
def ageWarn : Nat := 20
def pwrDerate : Nat := 21
def sramSpareLow : Nat := 22
def serdesMarginLow : Nat := 23
def tjHigh : Nat := 24
def thermTrip : Nat := 25
def timeQuality : Nat := 32
def timeSrcLost : Nat := 33
def timeStep : Nat := 34
def timeAdjFail : Nat := 35
def leapApplied : Nat := 36
def tsuCalFail : Nat := 37
def txtsOverflow : Nat := 38
def ptmFail : Nat := 39
def tailGap : Nat := 40
def tailCpReady : Nat := 41
def tailCpMax : Nat := 42
def tailCpFull : Nat := 43
def tailRingHigh : Nat := 44
def tailEpochStart : Nat := 45
def strLinkUp : Nat := 48
def strLinkDown : Nat := 49
def strTrainFail : Nat := 50
def strNak : Nat := 51
def strAckTimeout : Nat := 52
def strRefclkLost : Nat := 53
def linkUp : Nat := 64
def linkDown : Nat := 65
def linkFault : Nat := 66
def linkTrainFail : Nat := 67
def linkCfgErr : Nat := 68
def pauseWatchdog : Nat := 69
def macsecPnThresh : Nat := 70
def macsecPnExhausted : Nat := 71
def modInsert : Nat := 72
def modRemove : Nat := 73
def modInt : Nat := 74
def modXferDone : Nat := 75
def prsParity : Nat := 96
def matRecircOverflow : Nat := 97
def matRecircLimit : Nat := 98
def matSwapDone : Nat := 99
def matParity : Nat := 100
def rwrFail : Nat := 101
def fwdParity : Nat := 102
def fwdLearnLimit : Nat := 103
def fwdFull : Nat := 104
def fwdNotifyLost : Nat := 105
def fwdCmdDone : Nat := 106
def seqLate : Nat := 107
def seqInputDrop : Nat := 108
def seqBypass : Nat := 109
def prfMissed : Nat := 110
def prfFull : Nat := 111
def prfHorizon : Nat := 112
def prfGroupTimeout : Nat := 113
def prfCalDone : Nat := 114
def schQueueDrop : Nat := 115
def schPoolEmpty : Nat := 116
def schDeepHigh : Nat := 117
def orbSwitch : Nat := 118
def orbResync : Nat := 119
def engDeadlock : Nat := 128
def chnHold : Nat := 129
def engEvtOverflow : Nat := 130
def engIqDrop : Nat := 131
def engLoadDone : Nat := 132
def engLoadFail : Nat := 133
def engFault : Nat := 134
def rplGap : Nat := 135
def rplReplayDone : Nat := 136
def rplDiverged : Nat := 137
def cipFault : Nat := 160
def cipCoreFenced : Nat := 161
def cipNonceLow : Nat := 162
def keyLoadFail : Nat := 163
def keyZeroized : Nat := 164
def cipKwDone : Nat := 165
def memTrainFail : Nat := 166
def memLinkFail : Nat := 167
def memMarginLow : Nat := 168
def memPanicLong : Nat := 169
def memChHold : Nat := 170
def memRegionFault : Nat := 171
def memTempHi : Nat := 172
def mciUncorr : Nat := 173
def mciCorrThresh : Nat := 174
def mciInitDone : Nat := 175
def hifLinkUp : Nat := 192
def hifLinkDown : Nat := 193
def hifFlr : Nat := 194
def hifCplTimeout : Nat := 195
def hifUnexpCpl : Nat := 196
def hifPoison : Nat := 197
def hifBmeExpired : Nat := 198
def hifVfChange : Nat := 199
def tfnState : Nat := 200
def tfnFrozen : Nat := 201
def tfnFreezeTimeout : Nat := 202
def tfnShrinkDone : Nat := 203
def tfnMbxBusy : Nat := 204
def mgcRestart : Nat := 224
def mgcEscalate : Nat := 225
def mgcIqDrop : Nat := 226
def mgcTrialFail : Nat := 227
def ucodeFail : Nat := 228
def dbgUnlock : Nat := 229
def dbgAuthFail : Nat := 230
end Ev

/-! Sources of Table 21-1. -/
namespace Src
def device : Nat := 0
def port (p : Nat) : Nat := 0x10000 + p
def quad (q : Nat) : Nat := 0x20000 + q
def pipe (n : Nat) : Nat := 0x30000 + n
def cluster (c : Nat) : Nat := 0x40000 + c
def thread (t : Nat) : Nat := 0x50000 + t
def core (k : Nat) : Nat := 0x60000 + k
def key (k : Nat) : Nat := 0x70000 + k
def memCh (c : Nat) : Nat := 0x80000 + c
def rtPort (p : Nat) : Nat := 0x90000 + p
def hostPort (h : Nat) : Nat := 0xA0000 + h
def fn (f : Nat) : Nat := 0xB0000 + f
def channel (n : Nat) : Nat := 0xC0000 + n
end Src

/-! ### Discards -/

/-- A register write discarded under R472: REJECT_CNT, REJECT_ADDR if VALID is 0, CFG_REJECT. -/
def State.reject (s : State) (base off : Nat) : State :=
  let s := s.bump32 (base + 0x10) 1
  let s := if s.flag (base + 0xC) 31 then s else s.wr (base + 0xC) (2 ^ 31 + off % 2 ^ 22)
  s.raise base Ev.cfgReject (blkSrc base)

/-- A discarded write through a function page that names no counter: TFN_REJECT_CNT alone (R472). -/
def State.rejectPage (s : State) : State := s.bump32 (tfnB + 0x10) 1

end Sys2Proof.Machine
end

