-- ==== Sys2Proof/Machine/CipQ.lean ====
section
/-! DEFINITION. The submission queues of the cipher complex (15_cipher_complex.md R315, R316). -/
namespace Sys2Proof.Machine

/-- Update the cipher complex. -/
def State.setCip (s : State) (f : CipSt → CipSt) : State := { s with cip := f s.cip }
/-- The queue of class n: 0 URGENT, 1 tap, 2 NORMAL, 3 BULK. -/
def State.cipQ (s : State) (n : Nat) : List Msg := mget (fun _ => []) s.cip.q n
/-- Submissions in a queue that were never started; a suspended message stands in it too, but not in LEVEL. -/
def qCount (l : List Msg) : Nat := (l.filter (fun m => !m.started)).length
/-- Replace a queue; LEVEL, PEAK and the time of its head follow. -/
def State.setCipQ (s : State) (n : Nat) (l : List Msg) : State :=
  let old := s.cipQ n
  let s := s.setCip (fun x => { x with
    q := mput (fun _ => []) x.q n l,
    headAt := if old.head? = l.head? then x.headAt else mput (fun _ => 0) x.headAt n s.mono })
  let a := cipB + 0x60 + 4 * n
  (s.setFld a 12 0 (qCount l)).setFld a 28 16 (max (s.fld a 28 16) (qCount l))
/-- Submissions that a queue holds (R315). -/
def cipRoom (n : Nat) : Nat := if n = 1 then 4096 else 1024
/-- Submissions that wait for room enter their queue in order (R315). -/
def State.cipRefill (s : State) (n : Nat) : State :=
  let w := mget (fun _ => []) s.cip.wait n
  if w.isEmpty then s
  else
    let k := cipRoom n - qCount (s.cipQ n)
    (s.setCipQ n (s.cipQ n ++ w.take k)).setCip (fun x => { x with wait := mput (fun _ => []) x.wait n (w.drop k) })
/-- A submission arrives at its queue, or waits for room. -/
def State.cipSubmit (s : State) (n : Nat) (m : Msg) : State :=
  (s.setCip (fun x => { x with wait := mput (fun _ => []) x.wait n (mget (fun _ => []) x.wait n ++ [m]) })).cipRefill n
/-- A record tap submits a digest (R316): whether it was taken. A full queue or a CIP outside RUN refuses it, counted
in CIP_CNT_6. -/
def State.cipTap (s : State) (len : Nat) : Bool × State :=
  if s.running cipB && decide (qCount (s.cipQ 1) < 4096) then
    (true, s.setCipQ 1 (s.cipQ 1 ++ [{ work := .tap len, cls := 1 }]))
  else (false, s.bump (cipB + 0x130) 1)

end Sys2Proof.Machine
end

