-- ==== Sys2Proof/Machine/EngDec.lean ====
section
/-! DEFINITION. The Iluken instruction words: operations, formats and the decoder (12_iluken_instruction_set.md R256–R269). -/
namespace Sys2Proof.Machine

/-- The operations of Tables 12-2 and 12-4. -/
inductive Iop where
  | add | sub | and_ | or_ | xor_ | andn | sll | srl | sra | ror | slt | sltu | min_ | max_ | minu | maxu | mul
  | mulh | mulhu | clz | ctz | popc | bswap | bswap32 | bswap16 | addi | andi | ori | xori | slti | sltiu | shi
  | insh | bfx | bfi | ldb | ldh | ldw | ldd | ldbs | ldhs | ldws | stb | sth | stw | std | beq | bne | blt | bge
  | bltu | bgeu | jal | jalr | swap | aadd | aand | aor | cas | amax | amin | mrd | mwr | dlk | rcv | pbr | pbw
  | alloc | free | setlen | copy | emit | res | wr | cmt | rd | wait | signal | park | tmr | tmrx | csub | crb
  | tsr | nop | rdsts | bkpt | trap
  deriving DecidableEq, Repr

/-- The ALU operations in the order of FN. -/
def aluOps : List Iop := [
  .add, .sub, .and_, .or_, .xor_, .andn, .sll, .srl, .sra, .ror, .slt, .sltu, .min_, .max_, .minu, .maxu, .mul,
  .mulh, .mulhu, .clz, .ctz, .popc, .bswap, .bswap32, .bswap16]

/-- The fields of an instruction word (Table 12-1). -/
def wOp (w : Nat) : Nat := bits w 31 26
def wRd (w : Nat) : Nat := bits w 25 21
def wRs1 (w : Nat) : Nat := bits w 20 16
def wRs2 (w : Nat) : Nat := bits w 15 11
def wFn (w : Nat) : Nat := bits w 10 0
def wImm (w : Nat) : Nat := bits w 15 0

/-- A register pair: n even, from 2 to 30 (R269). -/
def pairOk (n : Nat) : Bool := n ≠ 0 && n % 2 = 0

/-- `o` where the reserved fields are 0. -/
def onlyIf (b : Bool) (o : Iop) : Option Iop := if b then some o else none

/-- The operation of FN among those of an OP. -/
def byFn (l : List Iop) (fn : Nat) : Option Iop := l[fn]?

/-- The operation that a word names; none for an unassigned OP, FN or subop, a reserved field that is not 0, or a bad register
pair (R256, R257, R269). -/
def iDecode (w : Nat) : Option Iop :=
  let fn := wFn w
  let imm := wImm w
  match wOp w with
  | 0x00 => if fn < 0x13 || wRs2 w = 0 then aluOps[fn]? else none
  | 0x01 => some .addi
  | 0x02 => some .andi
  | 0x03 => some .ori
  | 0x04 => some .xori
  | 0x05 => some .slti
  | 0x06 => some .sltiu
  | 0x07 => onlyIf (bits imm 13 6 = 0) .shi
  | 0x08 => onlyIf (bits w 20 18 = 0) .insh
  | 0x09 => onlyIf (bits imm 15 14 = 0 && bits imm 7 6 = 0) .bfx
  | 0x0A => onlyIf (bits imm 15 14 = 0 && bits imm 7 6 = 0) .bfi
  | 0x10 => some .ldb
  | 0x11 => some .ldh
  | 0x12 => some .ldw
  | 0x13 => some .ldd
  | 0x14 => some .ldbs
  | 0x15 => some .ldhs
  | 0x16 => some .ldws
  | 0x18 => some .stb
  | 0x19 => some .sth
  | 0x1A => some .stw
  | 0x1B => some .std
  | 0x20 => some .beq
  | 0x21 => some .bne
  | 0x22 => some .blt
  | 0x23 => some .bge
  | 0x24 => some .bltu
  | 0x25 => some .bgeu
  | 0x26 => onlyIf (wRs1 w = 0) .jal
  | 0x27 => some .jalr
  | 0x28 => byFn [.swap, .aadd, .aand, .aor, .cas, .amax, .amin] fn
  | 0x30 => some .mrd
  | 0x31 => some .mwr
  | 0x32 => onlyIf (bits fn 10 3 = 0) .dlk
  | 0x33 => onlyIf (bits imm 15 4 = 0) .rcv
  | 0x34 => some .pbr
  | 0x35 => some .pbw
  | 0x36 => byFn [.alloc, .free, .setlen, .copy] fn
  | 0x37 => onlyIf (fn = 0) .emit
  | 0x38 =>
    match bits fn 10 7 with
    | 0 => onlyIf (bits fn 6 0 = 0) .res
    | 2 => some .wr
    | 4 => onlyIf (bits fn 6 0 = 0) .cmt
    | 6 => onlyIf (bits fn 6 0 = 0) .rd
    | _ => none
  | 0x39 =>
    if fn = 3 then onlyIf (pairOk (wRs1 w)) .tmr else byFn [.wait, .signal, .park, .tmr, .tmrx] fn
  | 0x3A => onlyIf (fn = 0) .csub
  | 0x3B => onlyIf (fn = 0) .crb
  | 0x3C => onlyIf (fn = 0 && pairOk (wRd w)) .tsr
  | 0x3D => byFn [.nop, .rdsts, .bkpt, .trap] fn
  | _ => none

/-- Instructions with a logged event (Table 14-1); a RCV and a WAIT have crumbs of their own kinds. -/
def Iop.logged : Iop → Bool
  | .wait | .rcv | .mrd | .pbr | .dlk | .csub | .rd | .tsr | .res | .wr | .cmt | .emit | .alloc | .free | .setlen | .copy => true
  | .signal | .mwr | .pbw | .swap | .aadd | .aand | .aor | .cas | .amax | .amin | .crb => true
  | _ => false

/-- Instructions that extend OUT_CRC (R301). -/
def Iop.outCrc : Iop → Bool
  | .mwr | .pbw | .emit | .wr | .cmt | .signal | .csub | .free => true
  | _ => false

/-- The long stall that an instruction always causes (Table 12-4). -/
def Iop.longStall : Iop → Option Nat
  | .mrd | .mwr => some 1
  | .dlk => some 2
  | .csub => some 3
  | .pbr | .pbw | .alloc | .free | .setlen | .copy => some 6
  | _ => none

end Sys2Proof.Machine
end

