-- ==== Sys2Proof/Machine/MemOps.lean ====
section
/-! DEFINITION. Shared operations of the GDDR6 memory (16_gddr6_memory.md R328–R345). -/
namespace Sys2Proof.Machine

/-- Address of word 0 of a channel's registers. -/
def memCh (c : Nat) : Nat := memB + 0x400 + 0x40 * c
/-- A channel's counter n. -/
def memChCnt (c n : Nat) : Nat := memCh c + 0x10 + 8 * n
/-- A channel's state that no register holds. -/
def State.ch (s : State) (c : Nat) : ChSt := mget (fun _ => {}) s.mem.ch c
/-- Update it. -/
def State.setCh (s : State) (c : Nat) (f : ChSt → ChSt) : State :=
  { s with mem := { s.mem with ch := mput (fun _ => {}) s.mem.ch c (f (s.ch c)) } }
/-- MEM_CH_STAT.STATE: 0 RUN, 1 QUIESCING, 2 QUIESCED, 3 RESETTING, 4 TRAINING. -/
def State.chState (s : State) (c : Nat) : Nat := s.fld (memCh c + 4) 2 0
/-- Enter a state. -/
def State.toCh (s : State) (c st : Nat) : State := (s.setFld (memCh c + 4) 2 0 st).setCh c (fun x => { x with since := s.mono })
/-- SAFE of a channel. -/
def State.chSafe (s : State) (c : Nat) : Bool := s.flag (memCh c + 4) 7
/-- Devices in self-refresh. -/
def State.chAsleep (s : State) (c : Nat) : Bool := s.flag (memCh c + 4) 3

/-! ### Mapping (R328, R330) -/

/-- log2 of the capacity in bytes under Table 16-1: 16 GiB at x16 and 8 Gb, doubled per density step and by clamshell. -/
def capLog (geom : Nat) : Nat := 34 + bits geom 1 0 + bits geom 16 16
/-- MEM_CAP for a MEM_GEOM. -/
def capMib (geom : Nat) : Nat := 2 ^ (capLog geom - 20)
/-- The channel of an address. -/
def chOf (a : Nat) : Nat := bits a 12 8

/-- Bank, row and column of an address under Tables 16-1 and 16-2. -/
def mapAddr (geom a : Nat) : Nat × Nat × Nat :=
  let u := a / 2 ^ 13
  let w := capLog geom - 13
  let r := w - 7
  let lo := bits a 7 5
  match bits geom 27 26 with
  | 0 => (bits u 6 3, u / 2 ^ 7 % 2 ^ r, bits u 2 0 * 8 + lo)
  | 1 => (u / 2 ^ (w - 4) % 16, u / 2 ^ 3 % 2 ^ r, bits u 2 0 * 8 + lo)
  | 2 => (bits u 3 0, u / 2 ^ 7 % 2 ^ r, bits u 6 4 * 8 + lo)
  | _ => (Nat.xor (bits u 6 3) (u / 2 ^ 7 % 16), u / 2 ^ 7 % 2 ^ r, bits u 2 0 * 8 + lo)

/-! ### Regions (R332–R334) -/

/-- Address of word w of MEM_REGION_r. -/
def memReg (r w : Nat) : Nat := memB + 0x1000 + 0x10 * r + 4 * w
/-- The type of a region in force; 0 while it is not enabled. -/
def State.regType (s : State) (r : Nat) : Nat := if s.flagA (memReg r 0) 31 then s.fldA (memReg r 0) 30 28 else 0
/-- First byte of a region in force. -/
def State.regLo (s : State) (r : Nat) : Nat := s.rdA (memReg r 1) * 2 ^ 20
/-- First byte after it. -/
def State.regHi (s : State) (r : Nat) : Nat := (s.rdA (memReg r 1) + s.rdA (memReg r 2)) * 2 ^ 20
/-- Types with ECC and tag (Table 16-3). -/
def eccType (t : Nat) : Bool := t = 2 || t = 4 || t = 6
/-- The enabled region that holds all of `n` bytes from `a`. -/
def State.regionAt (s : State) (a n : Nat) : Option Nat :=
  (List.range 32).find? (fun r => s.regType r ≠ 0 && decide (s.regLo r ≤ a) && decide (a + n ≤ s.regHi r))
/-- The address lies in a region with ECC and tag. -/
def State.eccAt (s : State) (a : Nat) : Bool := match s.regionAt a 1 with
  | none => false
  | some r => eccType (s.regType r)

/-- Whether a region admits a requester (R332, Table 16-3). -/
def State.admits (s : State) (q : MReq) (write : Bool) (r : Nat) : Bool :=
  let t := s.regType r
  let cl := fun (c : Nat) => (t = 1 || t = 2) && s.flagA (memReg r 3) (if write then 16 + c else c)
  match q with
  | .thread x => cl (x.val / 128)
  | .cipher c => cl c.val
  | .loader _ => t = 1
  | .ckpt => t = 1
  | .hif => t = 1
  | .mgc => true
  | .fwd => t = 2
  | .ctx => t = 2
  | .sch => t = 3
  | .refill => t = 3
  | .prf => t = 3
  | .ringWr => t = 4
  | .ringRd => t = 4
  | .drain => t = 4
  | .crumb => t = 5

/-- The block that a requester belongs to, as a source (Table 21-1). -/
def MReq.src : MReq → Nat
  | .thread t => blkSrc (engB (t.val / 128))
  | .cipher _ => blkSrc cipB
  | .loader c => blkSrc (engB c.val)
  | .ckpt => blkSrc rplB
  | .hif => blkSrc hifB
  | .mgc => blkSrc bootB
  | .fwd => blkSrc fwdB
  | .ctx => blkSrc (engB 0)
  | .sch => blkSrc schB
  | .refill => blkSrc schB
  | .prf => blkSrc prfB
  | .ringWr => blkSrc tailB
  | .ringRd => blkSrc strB
  | .drain => blkSrc tailB
  | .crumb => blkSrc rplB

/-- KEYED (R335). -/
def State.keyed (s : State) : Bool := s.flag (mciB + 0x40) 31

/-- Whether an access is admitted (R332, R334, R335). -/
def State.memAllowed (s : State) (q : MReq) (a n : Nat) (write : Bool) : Bool :=
  s.keyed && match s.regionAt a n with
    | none => false
    | some r => s.admits q write r

/-- A refused access (R334). -/
def State.memRefuse (s : State) (q : MReq) (a : Nat) : State :=
  (s.bump (memB + 0x120) 1).raiseAt memB Ev.memRegionFault q.src { mem := 1, addr := a }

/-! ### Bytes -/

/-- A written byte. -/
def mfind : Sparse Byte → Nat → Option Byte
  | [], _ => none
  | (j, v) :: m, k => if k = j then some v else mfind m k

/-- Bytes from `a` on as they stand; a byte that nothing has written is unpredictable (R337). -/
def State.memBytes (s : State) (a n : Nat) : List Byte × State :=
  (List.range n).foldl (fun r i => match mfind r.2.mem.bytes (a + i) with
    | some b => (r.1 ++ [b], r.2)
    | none =>
      let d := r.2.draw
      (r.1 ++ [BitVec.ofNat 8 (Config.anyNat d.1)], d.2)) ([], s)

/-- Every byte of the line of an address has been written. -/
def State.lineWritten (s : State) (line : Nat) : Bool :=
  (List.range 64).all (fun i => (mfind s.mem.bytes (64 * line + i)).isSome)

/-- Zero every byte of `[lo, hi)` (R337). -/
def State.zeroRange (s : State) (lo hi : Nat) : State :=
  { s with mem := { s.mem with
      bytes := s.mem.bytes.filter (fun e => e.1 < lo) ++ (List.range (hi - lo)).map (fun i => (lo + i, (0 : Byte)))
        ++ s.mem.bytes.filter (fun e => lo ≤ e.1 && hi ≤ e.1) } }

/-- Before another requester's write into the range of a running initialisation, the initialiser has come on by any
number of lines, unless MCI is quiesced, which stops it (R337, R48). -/
def State.initAdvance (s : State) (a : Nat) : State :=
  match s.mem.init with
  | none => s
  | some (pos, hi, t) =>
    if s.running mciB && decide (pos * 64 ≤ a) && decide (a < hi * 64) then
      let d := s.draw
      let p := pos + Config.anyNat d.1 % (hi - pos + 1)
      let s := d.2.zeroRange (64 * pos) (64 * p)
      { s with mem := { s.mem with init := some (p, hi, t) } }
    else s

/-- Store bytes. -/
def State.putBytes (s : State) (a : Nat) (bs : List Byte) : State :=
  { s with mem := { s.mem with
      bytes := s.mem.bytes.filter (fun e => e.1 < a) ++ bs.zipIdx.map (fun x => (a + x.2, x.1))
        ++ s.mem.bytes.filter (fun e => a ≤ e.1 && a + bs.length ≤ e.1) } }

/-- An uncorrectable line (R336): the counter, the capture and the event. -/
def State.eccBad (s : State) (a : Nat) (tag : Bool) : State :=
  (s.bump (mciB + (if tag then 0x110 else 0x108)) 1).raiseAt mciB Ev.mciUncorr Src.device
    { mem := 1, addr := a / 64 * 64, nbits := 0 }

/-- A corrected line (R336). -/
def State.eccCorr (s : State) : State :=
  let s := s.bump (mciB + 0x100) 1
  if s.rd (mciB + 0x50) ≠ 0 && s.cnt (mciB + 0x100) = s.rd (mciB + 0x50) then s.raise mciB Ev.mciCorrThresh Src.device else s

/-- The lines that `n` bytes from `a` touch. -/
def linesOf (a n : Nat) : List Nat := (List.range ((a + n + 63) / 64 - a / 64)).map (fun i => a / 64 + i)

/-- Read through MCI: the bytes and whether they are uncorrectable. `e` is what the first line's check finds; a line of
an ECC region that was never written fails its tag (R336, R337). -/
def State.mciRead (s : State) (a n : Nat) (e : Ecc) : (List Byte × Bool) × State :=
  let ecc := s.eccAt a
  let s' := if !ecc then s else match e with
    | .clean => s
    | .corrected => s.eccCorr
    | .uncorrectable => s.eccBad a false
    | .tagFail => s.eccBad a true
  let lost := if ecc then (linesOf a n).filter (fun l => !s.lineWritten l) else []
  let s' := lost.foldl (fun s l => s.eccBad (64 * l) true) s'
  let r := s'.memBytes a n
  ((r.1, ecc && (e = .uncorrectable || e = .tagFail) || !lost.isEmpty), r.2)

/-- Write through MCI (R336): a write of less than a whole line in an ECC region is a read-modify-write; on a line that
was never written its read fails, and that line's bytes are not stored (DESIGN CHOICE). -/
def State.mciWrite (s : State) (a : Nat) (bs : List Byte) : State :=
  let s := s.initAdvance a
  if s.eccAt a then
    (linesOf a bs.length).foldl (fun s l =>
      let lo := max a (64 * l)
      let hi := min (a + bs.length) (64 * l + 64)
      let part := slice bs (lo - a) (hi - lo)
      if hi - lo = 64 then s.putBytes lo part
      else
        let s := s.bump (mciB + 0x118) 1
        if s.lineWritten l then s.putBytes lo part else s.eccBad (64 * l) true) s
  else s.putBytes a bs

/-! ### An access of a block, taken with the command of that block -/

/-- Every channel that `n` bytes from `a` touch serves requests, or fails them because it is SAFE (R344, R345). -/
def State.memServes (s : State) (a n : Nat) : Bool :=
  (linesOf a n).all (fun l => let c := chOf (64 * l); s.chState c = 0 || s.chSafe c)

/-- The SAFE channel among those touched, if any. -/
def State.safeCh (s : State) (a n : Nat) : Option Nat := ((linesOf a n).map (fun l => chOf (64 * l))).find? s.chSafe

/-- An admitted read of a block: data and whether it is uncorrectable. -/
def State.memRead (s : State) (a n : Nat) (e : Ecc) : (List Byte × Bool) × State :=
  match s.safeCh a n with
  | some c => let r := (s.bump (memChCnt c 4) 1).memBytes a n; ((r.1, true), r.2)
  | none => s.mciRead a n e

/-- An admitted write of a block. -/
def State.memWrite (s : State) (a : Nat) (bs : List Byte) : State :=
  match s.safeCh a bs.length with
  | some c => s.bump (memChCnt c 4) 1
  | none => s.mciWrite a bs

/-! ### Real-time ports (R340) -/

/-- The real-time port of a requester (Table 16-5). -/
def MReq.rtPort : MReq → Option Nat
  | .refill => some 0
  | .prf => some 1
  | .ringWr => some 2
  | .ringRd => some 3
  | _ => none
/-- A real-time port's MEM_RT_STAT. -/
def rtStat (p : Nat) : Nat := memB + 0x64 + 8 * p
/-- A real-time port is in panic. -/
def State.panics (s : State) (p : Nat) : Bool := s.flag (rtStat p) 31
/-- Any is. -/
def State.anyPanic (s : State) : Bool := [0, 1, 2, 3].any s.panics
/-- Its precedence (Table 16-5). -/
def rtPrec (p : Nat) : Nat := [3, 1, 2, 4].getD p 5

/-- 256-byte units a request touches. -/
def unitsOf (a n : Nat) : Nat := (a + n + 255) / 256 - a / 256

/-- The backlog of a port changes: LEVEL, PEAK, and the start or end of panic. -/
def State.backlog (s : State) (p level : Nat) : State :=
  let a := rtStat p
  let s := (s.setFld a 10 0 level).setFld a 26 16 (max (s.fld a 26 16) level)
  let cfg := s.rd (memB + 0x60 + 8 * p)
  let setP := fun (s : State) (v : Option (Nat × Bool)) => { s with mem := { s.mem with panic := mput (fun _ => none) s.mem.panic p v } }
  if !s.flag a 31 && decide (bits cfg 26 16 ≤ level) then
    setP ((s.setFld a 31 31 1).bump (memB + 0x100 + 8 * p) 1) (some (s.mono, false))
  else if s.flag a 31 && decide (level ≤ bits cfg 10 0) then setP (s.setFld a 31 31 0) none
  else s

/-- A new setting of a port is judged against its backlog (R340). -/
def State.rejudge (s : State) (p : Nat) : State := s.backlog p (s.fld (rtStat p) 10 0)

/-- A request of a real-time port joins or leaves its backlog. -/
def State.backlogOf (s : State) (r : MemReq) (add : Bool) : State :=
  match r.q.rtPort with
  | none => s
  | some p =>
    let l := s.fld (rtStat p) 10 0
    s.backlog p (if add then min 1024 (l + unitsOf r.addr r.len) else l - unitsOf r.addr r.len)

end Sys2Proof.Machine
end

