-- ==== Sys2Proof/Machine/PrsOps.lean ====
section
/-! DEFINITION. The parser: the walk over a program bank and the packet header vector (06_parser.md). -/
namespace Sys2Proof.Machine

/-- Update the data path's own state. -/
def State.setDp (s : State) (f : DataSt → DataSt) : State := { s with dp := f s.dp }

/-- A bank word with its parity state: whether it is bad (R145, R172). -/
def State.badWord (s : State) (a : Nat) : Bool := s.dp.badWords.contains a

/-- Base of PRS bank b of pipeline n (Table 06-6). -/
def prsBank (n b : Nat) : Nat := prsB n + 0x10000 + 0x80000 * b

/-- Four words as a 128-bit entry, W0 most significant. -/
def State.rd128 (s : State) (a : Nat) : Nat := pk [(32, s.rd a), (32, s.rd (a + 4)), (32, s.rd (a + 8)), (32, s.rd (a + 12))]

/-- The words of `n` entries of `k` words from address a. -/
def entryWords (a n k : Nat) : List Nat := (List.range (n * k)).map (fun i => a + 4 * i)

/-- The walk in progress (R130): cursor, L3_END, instances latest first, vector bytes by 4 × container + lane, states
visited, and the bad words read. -/
structure Walk where
  cur : Nat := 0
  l3 : Nat
  inst : List (Nat × Nat) := []
  ext : Sparse Byte := []
  steps : Nat := 0
  bad : List Nat := []

/-- How a walk ended: REASON, the state it stopped at, and of a fragment the offset of its header, with that of the IPv6 header before
it when it is a CHECK 6 header. -/
structure Stop where
  w : Walk
  reason : Nat
  state : Nat
  frag : Option (Nat × Option (Option Nat)) := none

/-- A byte within the window and L; 0 outside (R137). -/
def winByte (bs : List Byte) (i : Nat) : Byte := if i < 512 then bs.getD i 0 else 0
/-- A 16-bit big-endian value within the window. -/
def win16 (bs : List Byte) (i : Nat) : Nat := (winByte bs i).toNat * 256 + (winByte bs (i + 1)).toNat

/-- n bytes from offset o as the parser reads them. -/
def winBytes (bs : List Byte) (o n : Nat) : List Byte := (List.range n).map (fun i => winByte bs (o + i))

/-- Whether the option TLVs of a Geneve header end exactly at `fin` (Table 06-3). -/
def geneveTlvs (bs : List Byte) : Nat → Nat → Nat → Bool
  | 0, o, fin => o = fin
  | n + 1, o, fin =>
    if o = fin then true
    else if fin < o then false
    else geneveTlvs bs n (o + 4 + 4 * ((winByte bs (o + 3)).toNat % 32)) fin

/-- The CHECK functions (R140, Table 06-3, R142): a reason code, 0 when the check passes; the new L3_END; FRAG. -/
def checkHdr (bs : List Byte) (chk cur l3 geneveMax : Nat) : Nat × Nat × Bool :=
  let len := bs.length
  match chk with
  | 1 =>
    let ihl := (winByte bs cur).toNat % 16
    let tl := win16 bs (cur + 2)
    if ihl < 5 then (0x05, l3, false)
    else if tl < ihl * 4 || len - cur < tl then (0x04, l3, false)
    else (0, cur + tl, decide (win16 bs (cur + 6) % 16384 ≠ 0))
  | 2 =>
    let pl := win16 bs (cur + 4)
    if len < cur + 40 + pl || pl = 0 || (decide (cur + 40 + pl < len) && decide (60 < len)) then (0x07, l3, false)
    else (0, cur + 40 + pl, false)
  | 3 =>
    let d := (winByte bs (cur + 12)).toNat / 16
    if d < 5 || l3 < cur + d * 4 then (0x06, l3, false) else (0, l3, false)
  | 4 =>
    let n := win16 bs (cur + 4)
    if n < 8 || l3 < cur + n then (0x0A, l3, false) else (0, l3, false)
  | 5 =>
    let o := (winByte bs cur).toNat % 64
    if geneveMax < o || !geneveTlvs bs 64 (cur + 8) (cur + 8 + 4 * o) then (0x08, l3, false) else (0, l3, false)
  | 6 => (0, l3, true)
  | _ => (0, l3, false)

/-- One extraction operation (R136): bytes from the cursor into the lanes of a container. -/
def extract (bs : List Byte) (cur op : Nat) (ext : Sparse Byte) : Sparse Byte :=
  let dst := bits op 22 16
  let pos := bits op 15 14
  if !bit op 31 || dst < 16 then ext
  else (List.range (bits op 24 23 + 1)).foldl (fun e i =>
    if pos + i < 4 then mins e (4 * dst + pos + i) (winByte bs (cur + bits op 30 25 + i)) else e) ext

/-- One step at state number `st` (R139), and the steps after it. -/
def State.walk (s : State) (b gmax : Nat) (bs : List Byte) : Nat → Walk → Nat → Stop
  | 0, w, st => ⟨w, 0x0B, st, none⟩
  | n + 1, w, st =>
    let ea := b + 0x1000 + 16 * st
    let e := s.rd128 ea
    let tb := bits e 74 64
    let tn := bits e 63 59
    let xb := bits e 48 37
    let xn := bits e 36 32
    let words := entryWords ea 1 4 ++ entryWords (b + 0x8000 + 16 * tb) (min tn (2048 - tb)) 4
      ++ entryWords (b + 0x10000 + 4 * xb) (min xn (4096 - xb)) 1
    let bad := words.filter s.badWord
    let w := { w with bad := w.bad ++ bad }
    let fail := fun r => Stop.mk w r st none
    if !bit e 127 || bits e 119 117 = 7 || 16 < tn || 16 < xn then fail 0x0C
    else if !bad.isEmpty then fail 0x0D
    else
      let f := win16 bs (w.cur + bits e 115 110)
      let len := if bit e 116 then Nat.land (f >>> bits e 109 106) (bits e 105 98) * 2 ^ bits e 97 96 + bits e 95 87
        else bits e 95 87
      let fin := w.cur + len
      let typ := bits e 126 120
      if bs.length < fin then fail 0x03
      else if 512 < fin then fail 0x02
      else if typ ≠ 0 && w.inst.length = 24 then fail 0x01
      else if typ = 3 && decide (4 ≤ (w.inst.filter (fun i => i.1 = 3)).length) then fail 0x09
      else
        let c := checkHdr bs (bits e 119 117) w.cur w.l3 gmax
        if c.1 ≠ 0 then fail c.1
        else
          let ext := ((List.range (min xn (4096 - xb))).map (fun i => s.rd (b + 0x10000 + 4 * (xb + i)))).foldl
            (fun x op => extract bs w.cur op x) w.ext
          let at_ := w.cur
          let key := win16 bs (at_ + bits e 86 81) * 65536 + win16 bs (at_ + bits e 80 75)
          let hit := (List.range (min tn (2048 - tb))).find? (fun i =>
            let t := b + 0x8000 + 16 * (tb + i)
            bit (s.rd (t + 8)) 31 && Nat.land key (s.rd (t + 4)) = Nat.land (s.rd t) (s.rd (t + 4)))
          let ip := (w.inst.find? (fun i => i.1 = 5)).map (·.2)
          let w := { w with
            cur := fin, l3 := c.2.1, ext := ext, inst := if typ = 0 then w.inst else (typ, at_) :: w.inst }
          if c.2.2 then ⟨w, 0x0E, st, some (at_, if bits e 119 117 = 6 then some ip else none)⟩
          else
            let nx := match hit with
              | none => bits e 58 49
              | some i => bits (s.rd (b + 0x8000 + 16 * (tb + i) + 8)) 9 0
            if nx < 0x100 then State.walk s b gmax bs n w nx
            else if nx = 0x3FF then ⟨w, 0, st, none⟩
            else if 0x240 ≤ nx && nx ≤ 0x27F then ⟨w, nx - 0x200, st, none⟩
            else ⟨w, 0x0C, st, none⟩

/-- The (h mod m)-th set bit of a 12-bit mask, ascending from 0 (R143). -/
def pickBit (mask h : Nat) : Nat :=
  let l := (List.range 12).filter (fun i => mask.testBit i)
  l.getD (h % (max 1 l.length)) 0

/-- What a parse pass produced. -/
structure Parsed where
  phv : Nat
  reason : Nat
  bad : List Nat

/-- The summary and vector of a finished walk (Table 06-2, R138, R143). -/
def phvOf (st : Stop) (bs : List Byte) (pass rse hash cluster : Nat) : Nat :=
  let inst := st.w.inst.reverse
  let inc := decide (st.reason ≠ 0 ∧ st.reason ≠ 0x0E)
  let half := fun i => match inst[i]? with
    | none => 0
    | some t => t.1 * 512 + t.2 % 512
  let w0 := pk [(1, b2n inc), (7, st.reason), (8, st.state), (5, inst.length), (1, b2n st.frag.isSome), (10, st.w.cur)]
  let w1 := pk [(16, min 0xFFFF bs.length), (4, pass), (4, rse), (8, 0)]
  pk ([(32, w0), (32, w1), (32, hash), (32, cluster)]
    ++ (List.range 24).map (fun i => (16, half i))
    ++ (List.range 448).map (fun i => (8, (mget (fun _ => 0) st.w.ext (64 + i)).toNat)))

/-- One parse pass (R130–R143) of a frame with source `src` in pipeline n. -/
def State.parse (s : State) (n : Nat) (bs : List Byte) (src : Origin) (pass rse : Nat) : Parsed :=
  let b := prsBank n (rse % 2)
  let sa := match pass, src with
    | 0, .port _ => b
    | _, _ => b + 4
  let start := match pass, src with
    | 0, .port p => bits (s.rd b) (8 * (p % 4) + 7) (8 * (p % 4))
    | 0, .tenant .. => bits (s.rd (b + 4)) 7 0
    | 0, _ => bits (s.rd (b + 4)) 15 8
    | _, _ => bits (s.rd (b + 4)) 23 16
  let st := if s.badWord sa then Stop.mk { l3 := bs.length, bad := [sa] } 0x0D start none
    else s.walk b (s.fldA (prsB n + 0x44) 5 0) bs 32 { l3 := bs.length } start
  let hash := match st.frag with
    | none => src.vport
    | some (o, none) => (crc32c (winBytes bs (o + 12) 8 ++ winBytes bs (o + 4) 2 ++ winBytes bs (o + 9) 1)).toNat
    | some (o, some ip) =>
      let ad := match ip with
        | none => List.replicate 32 0
        | some i => winBytes bs (i + 8) 32
      (crc32c (ad ++ winBytes bs (o + 4) 4)).toNat
  ⟨phvOf st bs pass rse hash (pickBit (s.fldA (prsB n + 0x48) 11 0) hash), st.reason, st.w.bad⟩

/-- Count a pass and report the bad words it read (R145, PRS_CNT_n). -/
def State.parseCount (s : State) (n : Nat) (p : Parsed) : State :=
  let c := fun k => prsB n + 0x100 + 8 * k
  let s := s.bump (c 0) 1
  let s := if p.reason = 0 then s else if 0x40 ≤ p.reason then s.bump (c 1) 1 else s.bump (c (p.reason + 1)) 1
  p.bad.foldl (fun s a => s.raiseAt (prsB n) Ev.prsParity (Src.pipe n)
    { mem := 0, sub := (a - prsB n - 0x10000) / 0x80000, nbits := 1, addr := a - prsB n }) s

end Sys2Proof.Machine
end

