-- ==== Sys2Proof/Machine/FwdOps.lean ====
section
/-! DEFINITION. The forwarding tables: lookups, placement of entries, learning and notifications
(08_forwarding_tables.md). Memories are numbered 0–3 exact, 4–7 egress exact, 8–11 L2, 12–15 ternary, 16–19 egress
ternary, 20–23 LPM results, each by pipeline pair, and 24 deep. -/
namespace Sys2Proof.Machine

/-- Update the tables' own state. -/
def State.setFwd (s : State) (f : FwdSt → FwdSt) : State := s.setDp (fun d => { d with fwd := f d.fwd })

/-- Key of slot i of a memory. -/
def slotKey (mem i : Nat) : Nat := mem * 2 ^ 64 + i
/-- A deep slot cannot be read: refused, on a channel in SAFE, or on a line whose tag fails for want of a write (R182, R193, R337). -/
def State.deepBad (s : State) (i : Nat) : Bool :=
  !s.memAllowed .fwd (64 * i) 64 false || (s.safeCh (64 * i) 64).isSome || !s.lineWritten i
/-- What a deep slot holds, its most significant byte at its lowest address (DESIGN CHOICE). -/
def State.deepSlot (s : State) (i : Nat) : Nat := natBE ((List.range 64).map (fun k => (mfind s.mem.bytes (64 * i + k)).getD 0))
/-- FWD writes bytes of a deep table. -/
def State.deepPut (s : State) (a : Nat) (bs : List Byte) : State :=
  if s.memAllowed .fwd a bs.length true then s.memWrite a bs else s.memRefuse .fwd a

/-- A slot's contents; the deep memory, 24, lies in GDDR6 (R182). -/
def State.fm (s : State) (mem i : Nat) : Nat := if mem = 24 then s.deepSlot i else mget (fun _ => 0) s.dp.fwd.mem (slotKey mem i)
/-- Whether a slot has bad parity. -/
def State.fbad (s : State) (mem i : Nat) : Bool := if mem = 24 then s.deepBad i else s.dp.fwd.bad.contains (slotKey mem i)
/-- Write a slot, which makes its parity good (R193). -/
def State.fput (s : State) (mem i v : Nat) : State :=
  if mem = 24 then s.deepPut (64 * i) (bytesBE 64 v)
  else s.setFwd (fun f => { f with mem := mput (fun _ => 0) f.mem (slotKey mem i) v, bad := f.bad.filter (· ≠ slotKey mem i) })

/-- Address of FWD_CNT_n of pipeline p. -/
def fwdCnt (p n : Nat) : Nat := fwdB + 0x3000 + 0x100 * p + 8 * n

/-! ### Tables -/

/-- A logical table as its directory entry gives it (R176): `w` is the width of an entry. -/
structure Tab where
  space : Nat
  pipe : Nat
  num : Nat
  mem : Nat
  en : Bool
  kind : Nat
  evict : Nat
  age : Nat
  ageMax : Nat
  keyw : Nat
  base : Nat
  log2 : Nat
  w : Nat

/-- Address of a directory entry's first word: SPACE 0 ingress, 1 egress, 2 deep. -/
def tdirA (space pipe t : Nat) : Nat :=
  if space = 0 then fwdB + 0x1000 + 0x100 * pipe + 8 * t
  else if space = 1 then fwdB + 0x1400 + 0x80 * pipe + 8 * t
  else fwdB + 0x1600 + 0x10 * t

/-- Memory of a kind in a space (R176). -/
def memOf (space kind pipe : Nat) : Nat :=
  if space = 2 then 24
  else if space = 3 then 8 + pipe
  else if kind = 3 then (if space = 0 then 12 else 16) + pipe
  else if kind = 4 || kind = 5 then 20 + pipe
  else (if space = 0 then 0 else 4) + pipe

/-- The logical table t of a space; SPACE 3 is the L2 table of the pipeline, table 31 (Table 08-5). -/
def State.tab (s : State) (space pipe t : Nat) : Tab :=
  if space = 3 then
    let c := s.rd (fwdB + 0x2000 + 0x100 * pipe)
    ⟨3, pipe, 31, 8 + pipe, true, 8, bits c 27 26, bits c 25 24, bits c 14 12, 60, 0, 16, 128⟩
  else
    let a := tdirA space pipe t
    let w0 := s.rd a
    let w1 := s.rd (a + 4)
    let k := bits w0 30 28
    if space = 2 then
      ⟨2, 0, t, 24, bit w0 31, k, bits w0 27 26, bits w0 25 24, bits w0 14 12, bits w0 23 15, w1 * 16384 / 4,
        bits (s.rd (a + 8)) 4 0, 512⟩
    else
      ⟨space, pipe, t, memOf space k pipe, bit w0 31, k, bits w0 27 26, bits w0 25 24, bits w0 14 12, bits w0 23 15,
        bits w1 31 15, bits w1 4 0, if k = 2 then 512 else 256⟩

/-- Whether a table is hashed (R177). -/
def Tab.hashed (t : Tab) : Bool := t.kind = 1 || t.kind = 2 || t.kind = 8
/-- Slots that one entry takes: two for a double entry (R177). -/
def Tab.per (t : Tab) : Nat := if t.kind = 2 then 2 else 1

/-- The key bits stored in an entry, most significant KEYW of its KEY field (Table 08-2, R182). -/
def Tab.keyOf (t : Tab) (e : Nat) : Nat :=
  if t.kind = 8 then bits e 121 62
  else if t.space = 2 then bits e 495 176 >>> (320 - t.keyw)
  else if t.kind = 2 then bits e 415 0 >>> (416 - t.keyw)
  else bits e 159 0 >>> (160 - t.keyw)

/-- Flags of an entry of width w: VALID, STATIC, HIT and AGE. -/
def Tab.valid (t : Tab) (e : Nat) : Bool := bit e (t.w - 1)
def Tab.static (t : Tab) (e : Nat) : Bool := bit e (t.w - 2)
def Tab.hitBit (t : Tab) (e : Nat) : Bool := bit e (t.w - 3)
def Tab.ageOf (t : Tab) (e : Nat) : Nat := bits e (t.w - 4) (t.w - 6)
/-- An entry with HIT and AGE replaced. -/
def Tab.mark (t : Tab) (e hit age : Nat) : Nat := putBits (putBits e (t.w - 3) (t.w - 3) hit) (t.w - 4) (t.w - 6) age

/-- Action index and data of an exact entry (Table 08-2). -/
def Tab.action (t : Tab) (e : Nat) : Nat := bits e (t.w - 7) (t.w - 16)
def Tab.data (t : Tab) (e : Nat) : Nat := bits e (t.w - 17) (t.w - 80)

/-- The bytes a key is hashed over (R177). -/
def keyBytes (keyw k : Nat) : List Byte := bytesBE ((keyw + 7) / 8) (k * 2 ^ ((8 - keyw % 8) % 8))

/-- The two buckets of a key, counted in the memory (R177). -/
def Tab.buckets (t : Tab) (k : Nat) : Nat × Nat :=
  let b := keyBytes t.keyw k
  let h0 := (crc32c b).toNat
  let h1 := (~~~ (crc32cReg 0x5A5A5A5A#32 b)).toNat
  (t.base + h0 % 2 ^ t.log2, t.base + h1 % 2 ^ t.log2)

/-- The slots of a bucket that an entry may start at. -/
def Tab.bucketSlots (t : Tab) (b : Nat) : List Nat := if t.per = 2 then [4 * b, 4 * b + 2] else [4 * b, 4 * b + 1, 4 * b + 2, 4 * b + 3]

/-- The slots of a key in R177's order. -/
def Tab.slots (t : Tab) (k : Nat) : List Nat :=
  let b := t.buckets k
  if b.1 = b.2 then t.bucketSlots b.1 else t.bucketSlots b.1 ++ t.bucketSlots b.2

/-- The entry that starts at a slot. -/
def State.entry (s : State) (t : Tab) (i : Nat) : Nat :=
  if t.per = 2 then s.fm t.mem i * 2 ^ 256 + s.fm t.mem (i + 1) else s.fm t.mem i
/-- Write an entry at a slot. -/
def State.setEntry (s : State) (t : Tab) (i e : Nat) : State :=
  if t.per = 2 then (s.fput t.mem i (e / 2 ^ 256)).fput t.mem (i + 1) (e % 2 ^ 256) else s.fput t.mem i e
/-- Whether any slot of the entry at i has bad parity. -/
def State.entryBad (s : State) (t : Tab) (i : Nat) : Bool := s.fbad t.mem i || (t.per = 2 && s.fbad t.mem (i + 1))
/-- Whether an entry could be placed at i: invalid, or bad (R193). -/
def State.slotFree (s : State) (t : Tab) (i : Nat) : Bool := s.entryBad t i || !t.valid (s.entry t i)

/-- The slot that a lookup hits and the bad slots it read before (R177, R193). -/
def State.find (s : State) (t : Tab) (k : Nat) : Option Nat × List Nat :=
  let hit := fun i => !s.entryBad t i && t.valid (s.entry t i) && t.keyOf (s.entry t i) = k
  let l := t.slots k
  (l.find? hit, (l.takeWhile (fun i => !hit i)).filter (s.entryBad t))

/-! ### Notifications and parity -/

/-- Post a notification (R192). -/
def State.notify (s : State) (n : Nat) : State :=
  if s.dp.fwd.notify.length < 4096 then
    (s.setFwd (fun f => { f with notify := f.notify ++ [n] })).setFld (fwdB + 0x90) 12 0 (s.dp.fwd.notify.length + 1)
  else (s.bump32 (fwdB + 0x94) 1).raise fwdB Ev.fwdNotifyLost Src.device

/-- A notification of Table 08-5 about a slot of a table; `e` is the L2 entry it describes. -/
def notice (kind : Nat) (t : Tab) (vport old slot e : Nat) : Nat :=
  let l2 := t.kind = 8
  pk [(4, kind), (2, t.pipe), (5, t.num), (9, if l2 then vport else 0), (9, if kind = 2 then old else 0), (19, slot),
    (12, if l2 then bits e 121 110 else 0), (48, if l2 then bits e 109 62 else 0), (2, t.space),
    (7, if t.space = 2 then slot / 2 ^ 19 else 0), (11, 0)]

/-- A slot as FWD_CMD_SLOT numbers it: deep tables from their own bucket 0. -/
def Tab.slotNo (t : Tab) (i : Nat) : Nat := if t.space = 2 then i - 4 * t.base else i

/-- A bad slot found by a lookup or a scrub read (R193): captured, counted, raised, notified. `m` is the memory's
number within the block, in the order of Table 08-1. -/
def State.fwdParity (s : State) (pipe m slot n : Nat) : State :=
  let s := s.bump (fwdCnt pipe 9) 1
  let s := s.raiseAt fwdB Ev.fwdParity (Src.pipe pipe) { mem := 2, sub := pipe, nbits := 1, addr := m * 2 ^ 56 + slot }
  s.notify n

/-- Number of a memory within the block, in the order of Table 08-1. -/
def memNo (t : Tab) : Nat :=
  if t.kind = 8 then 0 else if t.kind = 3 then (if t.space = 1 then 5 else 2) else if t.space = 1 then 4 else 1

/-- A deep entry cannot be read: counted and raised by FWD (R193, R196). -/
def State.deepErr (s : State) : State := (s.bump (fwdB + 0x3400 + 24) 1).raise fwdB Ev.fwdParity Src.device

/-- Report bad slots of a table: of a double entry each bad half; of a deep table also what the memory does about it (R334, R336,
R345). -/
def State.reportBad (s : State) (t : Tab) (l : List Nat) : State :=
  l.foldl (fun s i =>
    if t.space = 2 then
      (if !s.memAllowed .fwd (64 * i) 64 false then s.memRefuse .fwd (64 * i)
        else match s.safeCh (64 * i) 64 with
          | some c => s.bump (memChCnt c 4) 1
          | none => s.eccBad (64 * i) true).deepErr
    else ((List.range t.per).filter (fun k => s.fbad t.mem (i + k))).foldl (fun s k =>
      s.fwdParity t.pipe (memNo t) (i + k) (notice 5 t 0 0 (i + k) (if t.kind = 8 then s.fm t.mem i else 0))) s) s

/-! ### Lookups -/

/-- An exact lookup: action index and data of the hit, which sets HIT (R150, R178). -/
def State.lookupExact (s : State) (t : Tab) (k : Nat) : Option (Nat × Nat) × State :=
  let f := s.find t k
  let s := s.reportBad t f.2
  match f.1 with
  | none => (none, s)
  | some i =>
    let e := s.entry t i
    (some (t.action e, t.data e), s.setEntry t i (putBits e (t.w - 3) (t.w - 3) 1))

/-- Parts of a ternary entry: VALUE, MASK and the three AUX words (R179). -/
def ternValue (e : Nat) : Nat := bits e 1119 608
def ternMask (e : Nat) : Nat := bits e 607 96
def ternAux (e n : Nat) : Nat := bits e (95 - 32 * n) (64 - 32 * n)

/-- A ternary lookup of a 512-bit key: the lowest valid match in the table's range (R179). -/
def State.lookupTernary (s : State) (t : Tab) (k : Nat) : Option (Nat × Nat) × State :=
  let l := (List.range (2 ^ t.log2)).map (t.base + ·)
  let hit := fun i => !s.fbad t.mem i && bit (ternAux (s.fm t.mem i) 0) 31
    && Nat.land k (ternMask (s.fm t.mem i)) = Nat.land (ternValue (s.fm t.mem i)) (ternMask (s.fm t.mem i))
  let bad := (l.takeWhile (fun i => !hit i)).filter (s.fbad t.mem)
  let h := l.find? hit
  let s := s.reportBad t bad
  match h with
  | none => (none, s)
  | some i =>
    let e := s.fm t.mem i
    (some (bits (ternAux e 0) 9 0, ternAux e 1 * 2 ^ 32 + ternAux e 2), s.fput t.mem i (putBits e 94 94 1))

/-- Key of an LPM prefix of a root: pipeline, root, length and the 128-bit prefix (R181). -/
def lpmKey (pipe root plen prefix_ : Nat) : Nat := ((pipe * 4 + root) * 256 + plen) * 2 ^ 128 + prefix_

/-- The prefixes of a root: length, prefix, result. -/
def State.prefixes (s : State) (pipe root : Nat) : List (Nat × Nat × Nat) :=
  (s.dp.fwd.lpm.filter (fun e => e.1 / 2 ^ 136 = pipe * 4 + root)).map
    (fun e => (e.1 / 2 ^ 128 % 256, e.1 % 2 ^ 128, e.2 / 8 - 1))

/-- The bit positions at which the levels' strides end (R180): 16, 24, 32, … -/
def levelEnds : List Nat := (List.range 15).map (fun i => 16 + 8 * i)

/-- The trie nodes below level 1 of a pipeline: root, the bit its parent's level ends at, and the address bits up to there (R180). -/
def State.trieNodes (s : State) (pipe : Nat) : List (Nat × Nat × Nat) :=
  ((List.range 4).flatMap (fun r => (s.prefixes pipe r).flatMap (fun p =>
    (levelEnds.filter (fun e => decide (e < p.1))).map (fun e => (r, e, p.2.1 / 2 ^ (128 - e)))))).eraseDups
/-- The number of a trie slot: level 1 by root and index, then the nodes of 256 slots in the order the trie holds them (DESIGN CHOICE:
the manual numbers no trie slot). -/
def State.trieNo (s : State) (pipe root e path : Nat) : Nat :=
  if e = 16 then 65536 * root + path % 65536
  else 262144 + 256 * (s.trieNodes pipe).findIdx (fun n => n = (root, e - 8, path / 256)) + path % 256

/-- An LPM lookup of a 128-bit address (R180, R181): the longest prefix that covers it, read level by level; a bad slot
on the path misses, and so does a result whose VALID is 0. -/
def State.lookupLpm (s : State) (t : Tab) (a : Nat) : Option (Nat × Nat) × State :=
  let ps := s.prefixes t.pipe (t.base % 4)
  let covers := fun (p : Nat × Nat × Nat) => a / 2 ^ (128 - p.1) = p.2.1 / 2 ^ (128 - p.1)
  let child := fun e => ps.any (fun p => decide (e < p.1) && a / 2 ^ (128 - e) = p.2.1 / 2 ^ (128 - e))
  let path := 16 :: (levelEnds.drop 1).filter (fun e => child (e - 8))
  match path.find? (fun e => s.dp.fwd.badTrie.contains (t.pipe, t.base % 4, e, a / 2 ^ (128 - e))) with
  | some e =>
    let no := s.trieNo t.pipe (t.base % 4) e (a / 2 ^ (128 - e))
    (none, s.fwdParity t.pipe 3 no (notice 5 t 0 0 no 0))
  | none =>
    let best := (ps.filter covers).foldl (fun (b : Option (Nat × Nat × Nat)) p =>
      match b with
      | none => some p
      | some q => if q.1 < p.1 then some p else some q) none
    match best with
    | none => (none, s)
    | some p =>
      let m := 20 + t.pipe
      if s.fbad m p.2.2 then (none, s.fwdParity t.pipe 6 p.2.2 (notice 5 t 0 0 p.2.2 0))
      else
        let e := s.fm m p.2.2
        if bit e 95 then (some (bits e 73 64, bits e 63 0), s) else (none, s)

/-! ### Placement -/

/-- Make room in one of the slots of `l` by moving its occupant to its other bucket, over at most `n` more moves, never through a slot of
the path again (R186). Answers the freed slot. -/
def State.makeRoom (t : Tab) : Nat → State → List Nat → List Nat → Option (Nat × State)
  | 0, _, _, _ => none
  | n + 1, s, seen, l => (l.filter (fun i => !seen.contains i)).findSome? (fun i =>
      let e := s.entry t i
      let bk := t.buckets (t.keyOf e)
      let alt := t.bucketSlots (if i / 4 = bk.1 then bk.2 else bk.1)
      match alt.find? (s.slotFree t) with
      | some j => some (i, (s.setEntry t j e).setEntry t i 0)
      | none => match State.makeRoom t n s (i :: seen) alt with
        | none => none
        | some r => some (i, (r.2.setEntry t r.1 e).setEntry t i 0))

/-- Sources whose count lies below LIMIT raise FWD_LEARN_LIMIT anew when they reach it (R190). -/
def State.relimit (s : State) (pipe : Nat) : State :=
  let b := fwdB + 0x2010 + 0x100 * pipe
  let below := (List.range 5).filter (fun i => decide (s.fld (b + 4 + 8 * i) 17 0 < s.fld (b + 8 * i) 17 0))
  s.setFwd (fun f => { f with limited := f.limited.filter (fun x => !(below.map (8 * pipe + ·)).contains x) })

/-- Recount the learned entries of a pipeline by source: ports of the quad and the injected sources together (R190). -/
def State.recount (s : State) (pipe : Nat) : State :=
  let es := (s.dp.fwd.mem.filter (fun e => e.1 / 2 ^ 64 = 8 + pipe && bit e.2 127 && !bit e.2 126)).map (fun e => bits e.2 61 53)
  let b := fwdB + 0x2000 + 0x100 * pipe
  let s := (List.range 4).foldl (fun s i => s.setFld (b + 0x14 + 8 * i) 17 0 (es.filter (· = 4 * pipe + i)).length) s
  (s.setFld (b + 0x34) 17 0 (es.filter (fun v => decide (16 ≤ v))).length).relimit pipe

/-- The counter of a table's events: per pipeline, or of the deep tables. -/
def Tab.cntA (t : Tab) (n deep : Nat) : Nat := if t.space = 2 then fwdB + 0x3400 + 8 * deep else fwdCnt t.pipe n

/-- Source of a table's events. -/
def Tab.src (t : Tab) : Nat := if t.space = 2 then Src.device else Src.pipe t.pipe

/-- After an L2 entry changed, the learned counts follow (R190). -/
def State.after (s : State) (t : Tab) : State := if t.kind = 8 then s.recount t.pipe else s

/-- The slot whose occupant the policy evicts (R188): 1 RANDOM, 2 OLDEST. -/
def State.victim (s : State) (t : Tab) (l : List Nat) : Option Nat × State :=
  let c := l.filter (fun i => !t.static (s.entry t i))
  if t.evict = 1 then
    let d := s.draw
    ((c.drop (Config.anyNat d.1 % max 1 c.length)).head?, d.2)
  else if t.evict = 2 then
    (c.foldl (fun (b : Option Nat) i => match b with
      | none => some i
      | some j => if t.ageOf (s.entry t j) < t.ageOf (s.entry t i) then some i else some j) none, s)
  else (none, s)

/-- Place a new entry (R186, R188): a free slot, a relocation, or an eviction. Answers the result and the slot. -/
def State.placeEntry (s : State) (t : Tab) (k e : Nat) : Nat × Option Nat × State :=
  let l := t.slots k
  match l.find? (s.slotFree t) with
  | some i => (0, some i, (s.setEntry t i e).after t)
  | none => match State.makeRoom t (if t.space = 2 then 2 else 4) s [] l with
    | some r => (0, some r.1, (r.2.setEntry t r.1 e).after t)
    | none =>
      let v := s.victim t l
      match v.1 with
      | none => (3, none, (v.2.bump (t.cntA 8 2) 1).raise fwdB Ev.fwdFull t.src)
      | some i =>
        let old := v.2.entry t i
        let s := (v.2.setEntry t i e).after t
        let s := s.bump (t.cntA 6 0) 1
        let s := s.notify (notice 4 t (bits old 61 53) 0 (t.slotNo i) old)
        (4, some i, s.raise fwdB Ev.fwdFull t.src)

/-! ### Learning -/

/-- The L2 entry of a learned insert (R189). -/
def l2Entry (key vport : Nat) : Nat := pk [(1, 1), (1, 0), (1, 0), (3, 0), (60, key), (9, vport), (53, 0)]

/-- A source hit (R189): HIT, a station move, or a refused move, which changes nothing. `learn` tells that the source learns now. -/
def State.sourceHit (s : State) (pipe i vport : Nat) (learn : Bool) : State :=
  let t := s.tab 3 pipe 31
  let e := s.entry t i
  let old := bits e 61 53
  if old = vport then s.setEntry t i (putBits e 125 125 1)
  else if t.static e then (if learn then s.bump (fwdCnt pipe 2) 1 else s)
  else if !learn then s.setEntry t i (putBits e 125 125 1)
  else
    let n := putBits (putBits (putBits e 61 53 vport) 125 125 1) 124 122 0
    let s := ((s.setEntry t i n).after t).bump (fwdCnt pipe 1) 1
    s.notify (notice 2 t vport old i n)

/-- The queue of learned inserts of a pipeline. -/
def State.learnQ (s : State) (pipe : Nat) : List (Nat × Nat) := mget (fun _ => []) s.dp.fwd.learn pipe
/-- Replace it. -/
def State.setLearnQ (s : State) (pipe : Nat) (l : List (Nat × Nat)) : State :=
  s.setFwd (fun f => { f with learn := mput (fun _ => []) f.learn pipe l })

/-- Offset of the LEARN_CFG word of a source in its pipeline's block: its port, or the injected sources (R189). -/
def learnOff (vport : Nat) : Nat := if vport < 16 then 0x10 + 8 * (vport % 4) else 0x30

/-- A source miss (R189, R190). Answers whether stage 0 sets DROP. -/
def State.sourceMiss (s : State) (pipe key vport : Nat) : Bool × State :=
  let a := fwdB + 0x2000 + 0x100 * pipe + learnOff vport
  let id := pipe * 8 + (if vport < 16 then vport % 4 else 4)
  if !s.running fwdB then (false, s.bump (fwdCnt pipe 3) 1)
  else if s.fld a 17 0 ≤ s.fld (a + 4) 17 0 then
    let s := if s.dp.fwd.limited.contains id then s
      else (s.setFwd (fun f => { f with limited := id :: f.limited })).raise fwdB Ev.fwdLearnLimit
        (if vport < 16 then Src.port vport else Src.pipe pipe)
    if s.flag a 30 then (true, s.bump (fwdCnt pipe 4) 1) else (false, s.bump (fwdCnt pipe 5) 1)
  else
    let s := s.setFwd (fun f => { f with limited := f.limited.filter (· ≠ id) })
    if (s.learnQ pipe).any (fun e => e.1 = key) then (false, s)
    else if 64 ≤ (s.learnQ pipe).length then (false, s.bump (fwdCnt pipe 3) 1)
    else (false, s.setLearnQ pipe (s.learnQ pipe ++ [(key, vport)]))

/-- The L2 lookups of stage 0 (R148, R189): M9's hit bits and VPORT, and whether stage 0 sets DROP. -/
def State.l2Stage (s : State) (pipe fid da sa vport : Nat) : Nat × Bool × State :=
  let t := s.tab 3 pipe 31
  let d := s.find t (fid * 2 ^ 48 + da)
  let s := s.reportBad t d.2
  let x := s.find t (fid * 2 ^ 48 + sa)
  let s := s.reportBad t x.2
  let group := bit sa 40
  let learn := s.flag (fwdB + 0x2000 + 0x100 * pipe + learnOff vport) 31 && !group
  let r := match x.1 with
    | some i => (false, s.sourceHit pipe i vport (learn && s.running fwdB))
    | none => if learn then s.sourceMiss pipe (fid * 2 ^ 48 + sa) vport else (false, s)
  let vp := match d.1 with
    | none => 0
    | some i => bits (s.entry t i) 61 53
  (pk [(1, b2n d.1.isSome), (1, b2n x.1.isSome), (9, vp), (12, fid), (9, 0)], r.1, r.2)

end Sys2Proof.Machine
end

