-- ==== Sys2Proof/Machine/FlitCode.lean ====
section
/-! DEFINITION. How a flit becomes lane symbols (04_records_and_stream_port.md R100): codeword messages, the scrambler and
the RS(544,514) code of IEEE 802.3. -/
namespace Sys2Proof.Machine

/-- Product in GF(2^10) with x^10 + x^3 + 1. -/
def gfMul (a b : Nat) : Nat :=
  (List.range 10).foldl (fun acc i =>
    let d := 2 * acc
    let d := if d < 1024 then d else Nat.xor (d - 1024) 9
    if b.testBit (9 - i) then Nat.xor d a else d) 0

/-- The generator polynomial of RS(544,514), without its leading 1, highest power first: the product of x − α^j, j = 0–29. -/
def rsGen : List Nat :=
  ((List.range 30).foldl (fun (gp : List Nat × Nat) _ =>
    ((gp.1 ++ [0]).zipWith (fun a b => Nat.xor a (gfMul b gp.2)) (0 :: gp.1), gfMul gp.2 2)) ([1], 1)).1.tail

/-- The 30 parity symbols of a message of 10-bit symbols. -/
def rsParity (msg : List Nat) : List Nat :=
  msg.foldl (fun reg m =>
    let fb := Nat.xor m (reg.getD 0 0)
    (reg.tail ++ [0]).zipWith (fun r g => Nat.xor r (gfMul fb g)) rsGen) (List.replicate 30 0)

/-- Bits of bytes, each byte's most significant bit first. -/
def bitsOf (bs : List Byte) : List Bool := bs.flatMap (fun b => (List.range 8).map (fun i => b.getLsbD (7 - i)))

/-- The self-synchronising scrambler 1 + x^39 + x^58: the register holds the last 58 bits sent, the newest in bit 0. -/
def scramble : BitVec 58 → List Bool → List Bool × BitVec 58
  | r, [] => ([], r)
  | r, b :: l =>
    let y := b ^^ r.getLsbD 38 ^^ r.getLsbD 57
    let t := scramble ((r <<< 1) ||| BitVec.ofNat 58 (b2n y)) l
    (y :: t.1, t.2)

/-- Ten bits a symbol, the first bit its most significant. -/
def symbols10 : Nat → List Bool → List Nat
  | 0, _ => []
  | n + 1, l => (l.take 10).foldl (fun a b => 2 * a + b2n b) 0 :: symbols10 n (l.drop 10)

/-- Codeword CWI of a flit: 514 message symbols (header unscrambled, 640 scrambled bytes) and 30 parity symbols. -/
def codeword (scr : BitVec 58) (cwi : Nat) (bs : List Byte) : List Nat × BitVec 58 :=
  let hdr := cwi * 2 ^ 18 + 0xC35A
  let r := scramble scr (bitsOf bs)
  let msg := symbols10 514 ((List.range 20).map (fun i => hdr.testBit (19 - i)) ++ r.1)
  (msg ++ rsParity msg, r.2)

/-- The symbols of a flit on SF0–SF3: four codewords, their symbols dealt in turn, symbol 0 to SF0. -/
def flitLanes (scr : BitVec 58) (bytes : List Byte) : List (List Nat) × BitVec 58 :=
  let c := (List.range 4).foldl (fun (r : List Nat × BitVec 58) i =>
    let w := codeword r.2 i (slice bytes (640 * i) 640)
    (r.1 ++ w.1, w.2)) ([], scr)
  ((List.range 4).map (fun k => (List.range 544).map (fun i => c.1.getD (4 * i + k) 0)), c.2)

end Sys2Proof.Machine
end

