-- ==== Sys2Proof/Machine/Crypto.lean ====
section
/-! DEFINITION. The public ciphers and hashes that the cipher complex and the MACs run (R118, R309): AES (FIPS 197),
GCM (SP 800-38D), XTS (IEEE 1619), ChaCha20-Poly1305 (RFC 8439), SHA-384 (FIPS 180-4). -/
namespace Sys2Proof.Machine

/-- XOR of two byte strings, as long as the shorter. -/
def xorB (a b : List Byte) : List Byte := List.zipWith (· ^^^ ·) a b

/-! ### AES -/

/-- Multiplication by x in GF(2^8). -/
def xtime (b : Byte) : Byte := if b.getLsbD 7 then (b <<< 1) ^^^ 0x1B#8 else b <<< 1
/-- Multiplication in GF(2^8). -/
def gmul (a b : Byte) : Byte :=
  ((List.range 8).foldl (fun (r : Byte × Byte) i => (if b.getLsbD i then r.1 ^^^ r.2 else r.1, xtime r.2)) (0#8, a)).1
/-- The multiplicative inverse, a^254; 0 for 0. -/
def ginv (a : Byte) : Byte :=
  let a2 := gmul a a
  let a4 := gmul a2 a2
  let a8 := gmul a4 a4
  let a16 := gmul a8 a8
  let a32 := gmul a16 a16
  let a64 := gmul a32 a32
  let a128 := gmul a64 a64
  gmul (gmul (gmul a2 a4) (gmul a8 a16)) (gmul (gmul a32 a64) a128)
/-- SubBytes of one byte. -/
def sbox (a : Byte) : Byte :=
  let i := ginv a
  i ^^^ i.rotateLeft 1 ^^^ i.rotateLeft 2 ^^^ i.rotateLeft 3 ^^^ i.rotateLeft 4 ^^^ 0x63#8
/-- The inverse of SubBytes. -/
def sboxInv (a : Byte) : Byte := ginv (a.rotateLeft 1 ^^^ a.rotateLeft 3 ^^^ a.rotateLeft 6 ^^^ 0x05#8)

/-- Groups of `k` bytes; `n` bounds their number. -/
def chunks (k : Nat) : Nat → List Byte → List (List Byte)
  | 0, _ => []
  | n + 1, b => if b.isEmpty then [] else b.take k :: chunks k n (b.drop k)

/-- The next key-schedule word, from the words so far, latest first, of a key of `nk` words. -/
def aesNextKey (nk : Nat) (ws : List (List Byte)) (rcon : Byte) : List Byte :=
  let i := ws.length
  let t := ws.headD []
  let t := if i % nk = 0 then xorB ((t.drop 1 ++ t.take 1).map sbox) [rcon, 0, 0, 0]
    else if nk = 8 && i % nk = 4 then t.map sbox else t
  xorB t (ws.getD (nk - 1) [])

/-- The round keys of 16 bytes, in order. -/
def aesKeys (key : List Byte) : List (List Byte) :=
  let nk := key.length / 4
  let step := fun (a : List (List Byte) × Byte) (_ : Nat) =>
    (aesNextKey nk a.1 a.2 :: a.1, if a.1.length % nk = 0 then xtime a.2 else a.2)
  let ws := ((List.range (4 * (nk + 7) - nk)).foldl step ((chunks 4 nk key).reverse, 1#8)).1
  chunks 16 (nk + 7) ws.reverse.flatten

/-- ShiftRows on 16 bytes in column order, moving row r left by `f r`. -/
def aesShift (f : Nat → Nat) (b : List Byte) : List Byte :=
  (List.range 16).map (fun i => b.getD ((i + 4 * f (i % 4)) % 16) 0)
/-- One output byte of MixColumns with first-row coefficients `cs`. -/
def aesMixCol (cs c : List Byte) : List Byte :=
  (List.range 4).map (fun r => (List.range 4).foldl (fun a j => a ^^^ gmul (cs.getD ((j + 4 - r) % 4) 0) (c.getD j 0)) 0#8)
/-- MixColumns. -/
def aesMix (cs b : List Byte) : List Byte := ((chunks 4 4 b).map (aesMixCol cs)).flatten

/-- AES of one block of 16 bytes. -/
def aesEnc (key b : List Byte) : List Byte :=
  let ks := aesKeys key
  let n := ks.length - 1
  let sub := fun (s : List Byte) => aesShift id (s.map sbox)
  let s := (List.range (n - 1)).foldl (fun s i => xorB (aesMix [2, 3, 1, 1] (sub s)) (ks.getD (i + 1) [])) (xorB b (ks.getD 0 []))
  xorB (sub s) (ks.getD n [])

/-- The inverse cipher. -/
def aesDec (key b : List Byte) : List Byte :=
  let ks := aesKeys key
  let n := ks.length - 1
  let unsub := fun (s : List Byte) => (aesShift (fun r => 4 - r) s).map sboxInv
  let s := (List.range (n - 1)).foldl (fun s i => aesMix [14, 11, 13, 9] (xorB (unsub s) (ks.getD (n - 1 - i) [])))
    (xorB b (ks.getD n []))
  xorB (unsub s) (ks.getD 0 [])

/-! ### GCM -/

/-- Multiplication in GF(2^128) of GHASH, the most significant bit first. -/
def ghMul (x y : BitVec 128) : BitVec 128 :=
  ((List.range 128).foldl (fun (r : BitVec 128 × BitVec 128) i =>
    (if x.getMsbD i then r.1 ^^^ r.2 else r.1,
     if r.2.getLsbD 0 then (r.2 >>> 1) ^^^ 0xE1000000000000000000000000000000#128 else r.2 >>> 1)) (0#128, y)).1

/-- A byte string zero-padded to whole blocks of 16. -/
def pad16 (b : List Byte) : List Byte := b ++ List.replicate ((16 - b.length % 16) % 16) 0

/-- GHASH of whole blocks. -/
def ghash (h b : List Byte) : List Byte :=
  let hv := BitVec.ofNat 128 (natBE h)
  bytesBE 16 ((chunks 16 (b.length / 16 + 1) b).foldl (fun y c => ghMul (y ^^^ BitVec.ofNat 128 (natBE c)) hv) 0#128).toNat

/-- The key stream of GCM from counter block `j + 1` on, `n` bytes. -/
def gcmStream (key iv : List Byte) (j n : Nat) : List Byte :=
  (((List.range ((n + 15) / 16)).map (fun i => aesEnc key (iv ++ bytesBE 4 (j + i)))).flatten).take n

/-- The GCM tag of AAD and ciphertext with a 96-bit IV. -/
def gcmTag (key iv aad ct : List Byte) : List Byte :=
  let s := ghash (aesEnc key (List.replicate 16 0))
    (pad16 aad ++ pad16 ct ++ bytesBE 8 (8 * aad.length) ++ bytesBE 8 (8 * ct.length))
  xorB s (aesEnc key (iv ++ [0, 0, 0, 1]))

/-- GCM encryption or decryption of the text (the tag is `gcmTag` over the ciphertext). -/
def gcmXor (key iv txt : List Byte) : List Byte := xorB txt (gcmStream key iv 2 txt.length)

/-! ### ChaCha20-Poly1305 -/

/-- One quarter round on words a, b, c, d of the state. -/
def chaQr (s : List (BitVec 32)) (a b c d : Nat) : List (BitVec 32) :=
  let g := fun (s : List (BitVec 32)) i => s.getD i 0
  let st := fun (s : List (BitVec 32)) (x y z n : Nat) =>
    let s := s.set x (g s x + g s y)
    s.set z ((g s z ^^^ g s x).rotateLeft n)
  st (st (st (st s a b d 16) c d b 12) a b d 8) c d b 7

/-- One ChaCha20 block. -/
def chaBlock (key nonce : List Byte) (ctr : Nat) : List Byte :=
  let w := fun (b : List Byte) i => BitVec.ofNat 32 (leAt b (4 * i) 4)
  let s0 : List (BitVec 32) := [0x61707865, 0x3320646e, 0x79622d32, 0x6b206574]
    ++ (List.range 8).map (w key) ++ [BitVec.ofNat 32 ctr] ++ (List.range 3).map (w nonce)
  let dbl := fun s (_ : Nat) =>
    let s := chaQr (chaQr (chaQr (chaQr s 0 4 8 12) 1 5 9 13) 2 6 10 14) 3 7 11 15
    chaQr (chaQr (chaQr (chaQr s 0 5 10 15) 1 6 11 12) 2 7 8 13) 3 4 9 14
  let s := (List.range 10).foldl dbl s0
  ((List.zipWith (· + ·) s s0).map (fun v => bytesLE 4 v.toNat)).flatten

/-- ChaCha20 on a text from block counter 1. -/
def chaXor (key nonce txt : List Byte) : List Byte :=
  xorB txt ((List.range ((txt.length + 63) / 64)).map (fun i => chaBlock key nonce (i + 1))).flatten

/-- Poly1305 of a message under a one-time key r ‖ s. -/
def poly1305 (key m : List Byte) : List Byte :=
  let r := Nat.land (natLE (key.take 16)) 0x0ffffffc0ffffffc0ffffffc0fffffff
  let a := (chunks 16 (m.length / 16 + 1) m).foldl (fun a c => (a + natLE (c ++ [1])) * r % (2 ^ 130 - 5)) 0
  bytesLE 16 (a + natLE (key.drop 16))

/-- The tag of RFC 8439's AEAD. -/
def chaTag (key nonce aad ct : List Byte) : List Byte :=
  poly1305 ((chaBlock key nonce 0).take 32)
    (pad16 aad ++ pad16 ct ++ bytesLE 8 aad.length ++ bytesLE 8 ct.length)

/-! ### XTS -/

/-- Multiplication of a tweak by alpha. -/
def xtsNext (t : List Byte) : List Byte :=
  let v := natLE t * 2
  bytesLE 16 (if v < 2 ^ 128 then v else Nat.xor (v % 2 ^ 128) 0x87)

/-- XTS over whole blocks from tweak `t`: the text and the tweak after it. -/
def xtsBlocks (f : List Byte → List Byte) (t : List Byte) (bs : List (List Byte)) : List Byte × List Byte :=
  bs.foldl (fun (a : List Byte × List Byte) b => (a.1 ++ xorB (f (xorB b a.2)) a.2, xtsNext a.2)) ([], t)

/-- AES-XTS-256 of a text of at least 16 bytes with data unit number `dun`, ciphertext stealing included. -/
def xts (enc : Bool) (k1 k2 : List Byte) (dun : Nat) (txt : List Byte) : List Byte :=
  let f := if enc then aesEnc k1 else aesDec k1
  let one := fun t b => xorB (f (xorB b t)) t
  let t0 := aesEnc k2 (bytesLE 16 dun)
  let m := txt.length / 16
  let r := txt.length % 16
  if r = 0 then (xtsBlocks f t0 (chunks 16 m txt)).1
  else
    let a := xtsBlocks f t0 (chunks 16 (m - 1) (txt.take (16 * (m - 1))))
    let b := slice txt (16 * (m - 1)) 16
    let p := txt.drop (16 * m)
    let t1 := a.2
    let t2 := xtsNext t1
    let c := one (if enc then t1 else t2) b
    a.1 ++ one (if enc then t2 else t1) (p ++ c.drop r) ++ c.take r

/-! ### SHA-384 -/

/-- The first `n` primes, by trial division. -/
def primesTo (m : Nat) : List Nat := (List.range m).filter (fun p => 2 ≤ p && (List.range p).all (fun d => d < 2 || p % d ≠ 0))
/-- The integer cube root of `n`, below 2^k. -/
def icbrt : Nat → Nat → Nat → Nat
  | 0, _, r => r
  | k + 1, n, r => icbrt k n (if (r + 2 ^ k) ^ 3 ≤ n then r + 2 ^ k else r)
/-- The 80 round constants: the first 64 bits of the fractional parts of the cube roots of the first 80 primes. -/
def sha512K : List (BitVec 64) := (primesTo 410).map (fun p => BitVec.ofNat 64 (icbrt 68 (p * 2 ^ 192) 0))
/-- The initial hash value of SHA-384. -/
def sha384Init : List (BitVec 64) := [
  0xcbbb9d5dc1059ed8, 0x629a292a367cd507, 0x9159015a3070dd17, 0x152fecd8f70e5939,
  0x67332667ffc00b31, 0x8eb44a8768581511, 0xdb0c2e0d64f98fa7, 0x47b5481dbefa4fa4]
/-- One round. -/
def sha512Round (s : List (BitVec 64)) (k w : BitVec 64) : List (BitVec 64) :=
  let g := fun i => s.getD i 0
  let e1 := (g 4).rotateRight 14 ^^^ (g 4).rotateRight 18 ^^^ (g 4).rotateRight 41
  let ch := (g 4 &&& g 5) ^^^ (~~~ (g 4) &&& g 6)
  let t1 := g 7 + e1 + ch + k + w
  let e0 := (g 0).rotateRight 28 ^^^ (g 0).rotateRight 34 ^^^ (g 0).rotateRight 39
  let mj := (g 0 &&& g 1) ^^^ (g 0 &&& g 2) ^^^ (g 1 &&& g 2)
  [t1 + (e0 + mj), g 0, g 1, g 2, g 3 + t1, g 4, g 5, g 6]
/-- The next schedule word from the last sixteen, latest first. -/
def sha512Next (r : List (BitVec 64)) : BitVec 64 :=
  let x := r.getD 14 0
  let y := r.getD 1 0
  r.getD 15 0 + (x.rotateRight 1 ^^^ x.rotateRight 8 ^^^ (x >>> 7)) + r.getD 6 0
    + (y.rotateRight 19 ^^^ y.rotateRight 61 ^^^ (y >>> 6))
/-- One block of 128 bytes. -/
def sha512Block (s : List (BitVec 64)) (blk : List Byte) : List (BitVec 64) :=
  let w0 := (List.range 16).map (fun i => BitVec.ofNat 64 (beAt blk (8 * i) 8))
  let ws := ((List.range 64).foldl (fun r _ => sha512Next r :: r) w0.reverse).reverse
  List.zipWith (· + ·) s ((sha512K.zip ws).foldl (fun t kw => sha512Round t kw.1 kw.2) s)
/-- SHA-384, 48 bytes. -/
def sha384B (m : List Byte) : List Byte :=
  let p := m ++ [0x80] ++ List.replicate ((239 - m.length % 128) % 128) 0 ++ bytesBE 16 (8 * m.length)
  (((chunks 128 (p.length / 128) p).foldl sha512Block sha384Init).map (fun v => bytesBE 8 v.toNat)).flatten.take 48

end Sys2Proof.Machine
end

