-- ==== Sys2Proof/Machine/Curve.lean ====
section
/-! DEFINITION. P-256 points, ECDH and ECDSA verification, HMAC and HKDF with SHA-256, which R392 and R446 name. -/
namespace Sys2Proof.Machine

/-! ### The curve P-256 -/

/-- The field prime, the group order, the coefficient b and the base point. -/
def p256 : Nat := 2 ^ 256 - 2 ^ 224 + 2 ^ 192 + 2 ^ 96 - 1
def n256 : Nat := 0xffffffff00000000ffffffffffffffffbce6faada7179e84f3b9cac2fc632551
def b256 : Nat := 0x5ac635d8aa3a93e7b3ebbd55769886bc651d06b0cc53b0f63bce3c3e27d2604b
def g256 : Nat × Nat :=
  (0x6b17d1f2e12c4247f8bce6e563a440f277037d812deb33a0f4a13945d898c296,
   0x4fe342e2fe1a7f9b8ee7eb4a7c0f9e162bce33576b315ececbb6406837bf51f5)

/-- a ^ e modulo m, over the low `k` bits of e. -/
def powMod (m a e : Nat) : Nat → Nat
  | 0 => 1 % m
  | k + 1 =>
    let r := powMod m a (e / 2) k
    r * r % m * (if e % 2 = 1 then a % m else 1) % m

/-- Inverse modulo a prime below 2^256. -/
def invMod (m a : Nat) : Nat := powMod m a (m - 2) 256

/-- A point, none for the point at infinity. -/
abbrev Pt := Option (Nat × Nat)

/-- Addition of points. -/
def ptAdd (a b : Pt) : Pt :=
  match a, b with
  | none, b => b
  | a, none => a
  | some (x1, y1), some (x2, y2) =>
    let out := fun l =>
      let x3 := (l * l + 2 * p256 - x1 - x2) % p256
      some (x3, (l * ((x1 + p256 - x3) % p256) + p256 - y1) % p256)
    if x1 = x2 then
      if (y1 + y2) % p256 = 0 then none
      else out ((3 * x1 * x1 + (p256 - 3)) * invMod p256 (2 * y1) % p256)
    else out (((y2 + p256 - y1) % p256) * invMod p256 ((x2 + p256 - x1) % p256) % p256)

/-- k times a point, over the low `n` bits of k. -/
def ptMul (q : Pt) (k : Nat) : Nat → Pt
  | 0 => none
  | n + 1 =>
    let h := ptMul q (k / 2) n
    let d := ptAdd h h
    if k % 2 = 1 then ptAdd d q else d

/-- A point on the curve. -/
def onCurve (x y : Nat) : Bool :=
  decide (x < p256) && decide (y < p256) && y * y % p256 = (x * x % p256 * x + (p256 - 3) * x + b256) % p256

/-- A 65-byte uncompressed key as a point; none where it is no point of the curve. -/
def ptOf (b : List Byte) : Pt :=
  let x := natBE (slice b 1 32)
  let y := natBE (slice b 33 32)
  if b.length = 65 && b.getD 0 0 = 4 && onCurve x y then some (x, y) else none

/-- A point as 65 bytes. -/
def ptBytes : Pt → List Byte
  | none => List.replicate 65 0
  | some (x, y) => 4 :: (bytesBE 32 x ++ bytesBE 32 y)

/-- The x-coordinate of d times a point (ECDH). -/
def ecdh (d : Nat) (q : Pt) : Option Nat := (ptMul q d 256).map (·.1)

/-- An ECDSA P-256 signature of a hash verifies under a public key. -/
def ecdsaOk (q : Pt) (hash r sg : Nat) : Bool :=
  if q.isNone || r = 0 || sg = 0 || decide (n256 ≤ r) || decide (n256 ≤ sg) then false
  else
    let w := invMod n256 sg
    match ptAdd (ptMul (some g256) (hash * w % n256) 256) (ptMul q (r * w % n256) 256) with
    | none => false
    | some (x, _) => x % n256 = r

/-! ### HMAC and HKDF -/

/-- HMAC-SHA-256; keys here are at most 64 bytes. -/
def hmac (key m : List Byte) : List Byte :=
  let k := key ++ List.replicate (64 - key.length) 0
  sha256B (k.map (· ^^^ 0x5C) ++ sha256B (k.map (· ^^^ 0x36) ++ m))

/-- HKDF-SHA-256 (RFC 5869) of at most 64 bytes. -/
def hkdf (salt ikm info : List Byte) (n : Nat) : List Byte :=
  let prk := hmac salt ikm
  let t1 := hmac prk (info ++ [1])
  let t2 := hmac prk (t1 ++ info ++ [2])
  (t1 ++ t2).take n

end Sys2Proof.Machine
end

