-- ==== Sys2Proof/Machine/Ident.lean ====
section
/-! DEFINITION. The device identity: its key pair, the signatures it makes and the device certificate (04_records_and_stream_port.md
R92, R95). -/
namespace Sys2Proof.Machine

/-- The private identity key, a P-256 scalar that no interface reads. -/
def identityKey : Nat := Config.identityPriv % (n256 - 1) + 1
/-- The identity public key, 65 bytes uncompressed. -/
def identityPub : List Byte := ptBytes (ptMul (some g256) identityKey 256)

/-- An ECDSA P-256 signature (FIPS 186-5) of a hash under key `d` with nonce `k`: r and s. A nonce that gives r or s = 0 is not
taken: the next one is. -/
def ecdsaSign (d hash : Nat) : Nat → Nat → Nat × Nat
  | 0, _ => (0, 0)
  | n + 1, k =>
    let k := k % (n256 - 1) + 1
    let r := ((ecdh k (some g256)).getD 0) % n256
    let v := invMod n256 k * (hash + r * d) % n256
    if r = 0 || v = 0 then ecdsaSign d hash n k else (r, v)

/-- A signature unit (R92): r in bits [511:256], s in bits [255:0]; the nonce is free. -/
def identitySign (nonce hash : Nat) : BitVec 512 :=
  let r := ecdsaSign identityKey hash 16 nonce
  BitVec.ofNat 512 (r.1 * 2 ^ 256 + r.2)

/-- A DER item. -/
def der (tag : Byte) (b : List Byte) : List Byte :=
  let n := b.length
  tag :: ((if n < 128 then [BitVec.ofNat 8 n] else if n < 256 then [0x81, BitVec.ofNat 8 n] else 0x82 :: bytesBE 2 n) ++ b)
/-- A DER INTEGER of at most 256 bits, not negative. -/
def derInt (v : Nat) : List Byte :=
  let b := (bytesBE 33 v).dropWhile (fun x => x = 0)
  der 0x02 (match b with
    | [] => [0]
    | x :: _ => if x.getLsbD 7 then 0 :: b else b)
/-- A distinguished name of one attribute 2.5.4.n. -/
def derName (n : Byte) (value : List Byte) : List Byte := der 0x30 (der 0x31 (der 0x30 (der 0x06 [0x55, 0x04, n] ++ value)))
/-- A hexadecimal digit in ASCII. -/
def hexDigit (n : Nat) : Byte := BitVec.ofNat 8 (if n < 10 then 0x30 + n else 0x37 + n)

/-- The device certificate (R95): X.509 v3 in DER, the subject's serialNumber the device serial number in hexadecimal, the key the
identity public key. -/
def cert : List Byte :=
  let alg := der 0x30 (der 0x06 [0x2A, 0x86, 0x48, 0xCE, 0x3D, 0x04, 0x03, 0x02])
  let serial := (List.range 16).map (fun i => hexDigit (Config.serial.toNat / 16 ^ (15 - i) % 16))
  let key := der 0x30 (der 0x30 (der 0x06 [0x2A, 0x86, 0x48, 0xCE, 0x3D, 0x02, 0x01] ++
    der 0x06 [0x2A, 0x86, 0x48, 0xCE, 0x3D, 0x03, 0x01, 0x07]) ++ der 0x03 (0 :: identityPub))
  let tbs := der 0x30 (der 0xA0 (derInt 2) ++ derInt Config.certNumber.toNat ++ alg ++
    derName 0x03 (der 0x0C (bytesBE 32 Config.certIssuer.toNat)) ++
    der 0x30 (der 0x18 (bytesBE 15 Config.certFrom.toNat) ++ der 0x18 (bytesBE 15 Config.certTo.toNat)) ++
    derName 0x05 (der 0x13 serial) ++ key)
  der 0x30 (tbs ++ alg ++ der 0x03 (0 :: der 0x30 (derInt Config.certR.toNat ++ derInt Config.certS.toNat)))

end Sys2Proof.Machine
end

