-- ==== Sys2Proof/Machine/TailOps.lean ====
section
/-! DEFINITION. The Tail's chain, hold, ring and sinks, and Stream Link's flits: the operations that records, time
events and the stream commands share (04_records_and_stream_port.md). -/
namespace Sys2Proof.Machine

/-- Update the Tail's own state. -/
def State.setTl (s : State) (f : TailSt → TailSt) : State := { s with tl := f s.tl }
/-- Update Stream Link's own state. -/
def State.setSl (s : State) (f : StrSt → StrSt) : State := { s with sl := f s.sl }

/-- The 64 bytes of a unit, byte 0 first (R77). -/
def unitBytes (u : TUnit) : List Byte := bytesBE 64 u.toNat

/-- TAIL_CFG fields. -/
def State.tailEn (s : State) : Bool := s.flag (tailB + 0x40) 31
def State.tailSink (s : State) : Nat := s.fld (tailB + 0x40) 30 29
def State.tailLinkMax (s : State) : Nat := s.fld (tailB + 0x40) 22 16
def State.tailLinkNs (s : State) : Nat := s.fld (tailB + 0x40) 15 0
def State.tailEpoch (s : State) : Nat := s.rd (tailB + 0x44)
/-- Address of TAIL_CNT_n. -/
def tailCnt (n : Nat) : Nat := tailB + 0x200 + 8 * n
/-- The INDEX the next chained unit receives. -/
def State.tailIndex (s : State) : Nat := s.cnt (tailB + 0x240)
/-- Capacity of the spill ring in units (R97). -/
def State.ringCap (s : State) : Nat := s.fld (tailB + 0x58) 15 0 * 16384
/-- The reserve of the ring (R96). -/
def State.ringReserve (s : State) : Nat := if s.tailSink = 0 then 10048 else 64

/-- STR_LINK.STATE: 0 DISABLED, 1 TRAINING, 2 ACTIVE, 3 RETRAIN. -/
def State.strState (s : State) : Nat := s.fld (strB + 0x44) 2 0
/-- The next data flit's FSEQ, the highest acknowledged FSEQ[39:0], and the credit limit. -/
def State.txFseq (s : State) : Nat := s.cnt (strB + 0x60)
def State.ackFseq (s : State) : Nat := s.cnt (strB + 0x68)
def State.credFseq (s : State) : Nat := s.cnt (strB + 0x70)
/-- Address of STR_CNT_n. -/
def strCnt (n : Nat) : Nat := strB + 0x80 + 8 * n

/-- `a` is not past `b`, comparing FSEQ[39:0] modulo 2^40 (R103). -/
def fseqLe (a b : Nat) : Bool := decide ((b + 2 ^ 40 - a % 2 ^ 40) % 2 ^ 40 < 2 ^ 39)

/-- Whether data flit number `f` may be sent: within the credit limit, with room in the replay buffer (R102). -/
def State.flitRoom (s : State) (ahead : Nat) : Bool :=
  s.sl.credit && fseqLe ((s.txFseq + ahead) % 2 ^ 40) (s.credFseq % 2 ^ 40) && decide (s.sl.kept.length + ahead < 256)

/-- STR can take `k` more units straight from the Tail (R96). -/
def State.strTakes (s : State) (k : Nat) : Bool :=
  decide (s.strState = 2) && s.running strB && s.flitRoom ((s.sl.waiting.length + k - 1) / 39)

/-- The owner host port is UP and its management function is bus master (R96, R98). -/
def State.drainUp (s : State) : Bool := decide (s.fld (hifB + 0x1008 + 0x1000 * s.ownerHp) 2 0 = 2) && s.bme (256 + s.ownerHp)

/-- The host drain can take `k` more units (R96, R98). -/
def State.drainTakes (s : State) (k : Nat) : Bool :=
  let used := (s.rd (tailB + 0x30C) + 2 ^ 32 - s.rd (tailB + 0x310)) % 2 ^ 32
  s.drainUp && decide (used + s.tl.drainQ.length + k ≤ s.rd (tailB + 0x308))

/-- The sink can take `k` units without the ring. -/
def State.sinkTakes (s : State) (k : Nat) : Bool := if s.tailSink = 0 then s.strTakes k else s.drainTakes k

/-- `k` units can go straight to the sink (R96). -/
def State.direct (s : State) (k : Nat) : Bool := s.tl.ring.isEmpty && s.sinkTakes k

/-- TAIL_RING_FILL follows the ring, and TAIL_RING_HIGH is raised when the level first reaches it (R97). -/
def State.ringLevel (s : State) : State :=
  let n := s.tl.ring.length
  let s := s.wr (tailB + 0x5C) n
  let high := decide (s.rd (tailB + 0x60) ≤ n)
  let up := high && !s.tl.highRaised
  let s := s.setTl (fun t => { t with highRaised := high })
  if up then s.raise tailB Ev.tailRingHigh Src.device else s

/-- GDDR6 address of the ring's i-th unit, counted from the oldest (R97). -/
def State.ringPlace (s : State) (i : Nat) : Nat := s.rd (tailB + 0x54) * 2 ^ 20 + 64 * ((s.tl.ringAt + i) % s.ringCap)

/-- Write the ring's i-th unit to GDDR6, byte 0 first (R77, R97); outside a Tail-ring region the write is refused (R334). -/
def State.ringStore (s : State) (i : Nat) (u : TUnit) : State :=
  let a := s.ringPlace i
  if s.memAllowed .ringWr a 64 true then s.memWrite a (unitBytes u) else s.memRefuse .ringWr a

/-- Who reads the ring back: STR, or the drain (Table 16-3). -/
def State.ringReader (s : State) : MReq := if s.tailSink = 0 then .ringRd else .drain

/-- Read the ring's i-th unit; none where the read is uncorrectable. -/
def State.ringLoad (s : State) (i : Nat) : Option TUnit × State :=
  let a := s.ringPlace i
  if s.memAllowed s.ringReader a 64 false then
    let r := s.memRead a 64 .clean
    (if r.1.2 then none else some (BitVec.ofNat 512 (natBE r.1.1)), r.2)
  else (none, s.memRefuse s.ringReader a)

/-- Release the oldest `n` units of the ring, with those behind them that could not be read. -/
def State.ringRelease (s : State) (n : Nat) : State :=
  (s.setTl (fun t =>
    let all := decide (t.rd ≤ n + t.skip)
    let m := if all then max n t.rd else n
    { t with ring := t.ring.drop m, ringAt := (t.ringAt + m) % s.ringCap, rd := t.rd - m, skip := if all then 0 else t.skip })).ringLevel

/-- Hand a unit to the sink's queue. -/
def State.toSink (s : State) (r : RUnit) : State :=
  if s.tailSink = 0 then s.setSl (fun t => { t with waiting := t.waiting ++ [r] })
  else s.setTl (fun t => { t with drainQ := t.drainQ ++ [r] })

/-- Whether the output path takes a unit now: straight, or through the ring with `keep` units left free (R96). -/
def State.pathTakes (s : State) (keep : Nat) : Bool :=
  s.direct 1 || decide (s.tl.ring.length + keep < s.ringCap)

/-- Put one unit into the output path: straight to the sink, or into the ring (R96). -/
def State.intoPath (s : State) (u : TUnit) : State :=
  if s.direct 1 then s.toSink { u := u, ring := false, epoch := s.tailEpoch }
  else ((s.ringStore s.tl.ring.length u).setTl (fun t => { t with ring := t.ring ++ [s.tailEpoch] })).ringLevel

/-- Held units move into the path while it takes them; the reserve is theirs (R96). -/
def State.drainHold : Nat → State → State
  | 0, s => s
  | n + 1, s =>
    match s.tl.hold with
    | [] => s
    | u :: r =>
      if s.pathTakes 0 then State.drainHold n ((s.setTl (fun t => { t with hold := r })).intoPath u) else s

/-- A unit that is never refused: into the path behind what is held, or into the hold (R89). -/
def State.place (s : State) (u : TUnit) : State :=
  if s.tl.hold.isEmpty && s.pathTakes 0 then s.intoPath u
  else s.setTl (fun t => { t with hold := t.hold ++ [u] })

/-- Free places of the hold (R90). -/
def State.holdFree (s : State) : Nat := 16 - s.tl.hold.length

/-- Close the open link (R86, R87): B over its units, H over the old head and B. A link is never empty. -/
def State.closeLink (s : State) : State :=
  if s.tl.body.isEmpty then s
  else
    let b := sha256B ((s.tl.body.map unitBytes).flatten)
    let h := BitVec.ofNat 256 (sha256 (bytesBE 32 s.tl.head.toNat ++ b))
    s.setTl (fun t => { t with closed := some (t.link, s.tailIndex - 1, h), head := h, link := t.link + 1, body := [] })

/-- Chain a unit (R78, R86): `payload` has bits [127:0] clear; the tag takes INDEX, LINK and POS. Answers the unit. -/
def State.chainUnit (s : State) (payload : Nat) : TUnit × State :=
  let idx := s.tailIndex
  let tag := pk [(64, idx), (48, s.tl.link), (6, s.tl.body.length), (10, 0)]
  let u : TUnit := BitVec.ofNat 512 (payload + tag)
  let first := s.tl.body.isEmpty
  let s := s.setTl (fun t => { t with
    body := t.body ++ [u], opened := if first then s.mono else t.opened
    recent := s.mono :: t.recent.filter (fun v => decide (s.mono < v + 1000 * uNs)) })
  let s := (s.setCnt (tailB + 0x240) ((idx + 1) % 2 ^ 64)).bump (tailCnt 0) 1
  (u, if s.tailLinkMax ≤ s.tl.body.length then s.closeLink else s)

/-- The GAP unit's payload (Table 04-7). -/
def gapPayload (g : Gap) (now : Instant) : Nat :=
  pk [(4, 3), (4, g.cause), (8, 0), (16, g.mask), (96, ts96 g.first), (96, ts96 g.last), (64, min top64 g.count),
    (96, ts96 now), (128, 0)]

/-- Chain the pending gap as a GAP unit (R89). -/
def State.chainGap (s : State) : State :=
  match s.tl.gap with
  | none => s
  | some g =>
    let r := (s.setTl (fun t => { t with gap := none })).chainUnit (gapPayload g s.now)
    ((r.2.place r.1).bump (tailCnt 2) 1).raise tailB Ev.tailGap Src.device

/-- Rank of a checkpoint cause: chain end, time, request, interval (R93). -/
def CpCause.rank : CpCause → Nat
  | .chainEnd => 0 | .time => 1 | .request => 2 | .interval => 3
/-- CAUSE of Table 04-8. -/
def CpCause.code : CpCause → Nat
  | .interval => 0 | .time => 1 | .request => 2 | .chainEnd => 3
/-- The first of two causes in R93's order. -/
def CpCause.join (a b : CpCause) : CpCause := if a.rank ≤ b.rank then a else b

/-- The CHECKPOINT unit (Table 04-8). -/
def State.cpUnit (s : State) (c : CpCause) : TUnit :=
  let k := s.tl.closed.getD (0, 0, 0)
  BitVec.ofNat 512 (pk [(4, 8), (2, s.fld (timB + 0x50) 1 0), (2, c.code), (8, 1), (32, s.tailEpoch), (96, ts96 s.now),
    (48, k.1), (64, k.2.1), (256, k.2.2.toNat)])

/-- Room for a checkpoint: f ≥ 3 × (p + 1) places and a signing slot (R90, R93). -/
def State.cpRoom (s : State) : Bool :=
  decide (3 * (s.tl.slots.length + 1) ≤ s.holdFree) && decide (s.tl.slots.length < 8)

/-- PENDING and TAIL_CP_UNIT follow the slots. -/
def State.cpRegs (s : State) : State :=
  let u := match s.tl.slots with
    | [] => 0
    | u :: _ => u.toNat
  let s := s.setFld (tailB + 0x4C) 7 4 s.tl.slots.length
  (List.range 16).foldl (fun s n => s.wr (tailB + 0x100 + 4 * n) (bits u (511 - 32 * n) (480 - 32 * n))) s

/-- Take a checkpoint now (R92, R93): the pending gap is chained first, the link closes, a signing slot is taken. -/
def State.takeCp (s : State) (c : CpCause) : State :=
  let s := s.chainGap.closeLink
  let u := s.cpUnit c
  let s := s.setTl (fun t => { t with slots := t.slots ++ [u], lastCp := s.mono, cpAt := some (s.mono, c), due := none })
  s.cpRegs.raise tailB Ev.tailCpReady Src.device

/-- A checkpoint of this instant is still the newest unsigned one. -/
def State.cpNow (s : State) : Option CpCause := match s.tl.cpAt with
  | some (t, c) => if t = s.mono && !s.tl.slots.isEmpty then some c else none
  | none => none

/-- Several that fall due at one instant are one checkpoint, with the first cause in R93's order. -/
def State.joinCp (s : State) (c : CpCause) : State :=
  let s := s.closeLink
  let u := s.cpUnit c
  (s.setTl (fun t => { t with slots := t.slots.dropLast ++ [u], cpAt := some (s.mono, c) })).cpRegs

/-- The cause with that of a checkpoint that waits. -/
def State.cpCause (s : State) (c : CpCause) : CpCause := match s.tl.due with
  | none => c
  | some d => c.join d

/-- A checkpoint falls due: it joins one of this instant, is taken, or waits for room and TAIL_CP_FULL is raised (R90, R93). -/
def State.cpTake (s : State) (c : CpCause) : State :=
  match s.cpNow with
  | some d => s.joinCp (c.join d)
  | none =>
    if s.cpRoom then s.takeCp (s.cpCause c)
    else (s.setTl (fun t => { t with due := some (s.cpCause c) })).raise tailB Ev.tailCpFull Src.device

/-- The STEP field of a TQ unit: the marker where the amount does not fit (Table 04-5). -/
def stepField : Option Int → Nat
  | none => 2 ^ 63
  | some v => if -(2 ^ 63 : Int) < v ∧ v < 2 ^ 63 then (BitVec.ofInt 64 v).toNat else 2 ^ 63

/-- The TQ unit's payload (Table 04-5). -/
def tqPayload (q : TqRec) : Nat :=
  pk [(4, 2), (2, q.old), (2, q.new), (4, q.cause), (3, q.src), (1, b2n q.secValid), (16, q.utc), (16, 0),
    (96, ts96 q.ts), (64, stepField q.step), (32, q.est), (144, 0), (128, 0)]

/-- The STEP amount that fits its field. -/
def stepVal : Option Int → Option Int
  | none => none
  | some v => if -(2 ^ 63 : Int) < v ∧ v < 2 ^ 63 then some v else none

/-- Merge a later TQ unit into the stored one (R90). -/
def TqRec.merge (a b : TqRec) : TqRec :=
  { b with
    old := a.old
    cause := if a.cause = 2 ∨ b.cause = 2 then 2 else if a.cause = 3 ∨ b.cause = 3 then 3 else b.cause
    step := match stepVal a.step, stepVal b.step with
      | some x, some y => stepVal (some (x + y))
      | _, _ => none }

/-- Room for a TQ unit: the path takes it, or f ≥ 3 × p + 1 (R90). -/
def State.tqRoom (s : State) : Bool :=
  (s.tl.hold.isEmpty && s.pathTakes 0) || decide (3 * s.tl.slots.length + 1 ≤ s.holdFree)

/-- Chain a TQ unit. -/
def State.chainTqUnit (s : State) (q : TqRec) : State :=
  let r := s.chainUnit (tqPayload q)
  r.2.place r.1

/-- Chain a TQ unit, and take the time checkpoint of R93 after CAUSE 0x1–0x3; where that is taken at once, the pending gap goes
ahead of the TQ unit (R88). -/
def State.chainTq (s : State) (q : TqRec) : State :=
  let t := s.chainTqUnit q
  if q.cause ≤ 3 then
    if s.tl.gap.isSome && t.cpNow.isNone && t.cpRoom then (s.chainGap.chainTqUnit q).takeCp (s.cpCause .time) else t.cpTake .time
  else t

/-- The Tail chains records and time events: EN is 1 and TAIL is in RUN (R91). -/
def State.tailOn (s : State) : Bool := s.tailEn && s.running tailB && s.tl.hasChain

/-- One time-quality event (R83): its TQ unit is chained, or stored, or merged into the stored one (R90). While EN is
0 or TAIL is not in RUN nothing is chained. -/
def State.tqEvent (s : State) (q : TqRec) : State :=
  if !s.tailOn then s
  else match s.tl.tqStore with
    | some a => s.setTl (fun t => { t with tqStore := some (a.merge q) })
    | none => if s.tqRoom then s.chainTq q else s.setTl (fun t => { t with tqStore := some q })

/-- The stored TQ unit is chained once it has room (R90). -/
def State.flushTq (s : State) : State :=
  match s.tl.tqStore with
  | none => s
  | some q => if s.tqRoom then (s.setTl (fun t => { t with tqStore := none })).chainTq q else s

/-- A checkpoint falls due; a stored TQ unit that has room goes ahead of it (R90, R93). -/
def State.cpDue (s : State) (c : CpCause) : State := s.flushTq.cpTake c

/-- After the sink took units or can take units again: held units move on. -/
def State.tailSettle (s : State) : State := State.drainHold 16 s

/-! ### Records -/

/-- The fields of a FRAME unit but its tag (Table 04-3). -/
structure FrameRec where
  dir : Nat
  cal : Bool
  tq : Nat
  rclass : Nat
  port : Nat
  cls : Nat
  dmode : Nat
  seqValid : Bool := false
  late : Bool := false
  prf : Nat := 0
  len : Nat
  ts : Instant
  seqno : Nat := 0
  flowid : Nat := 0
  digest : Nat
  vport : Nat
  deriving DecidableEq, Repr

/-- The FRAME unit's payload (Table 04-3). -/
def framePayload (r : FrameRec) : Nat :=
  pk [(4, 1), (1, r.dir), (1, b2n r.cal), (2, r.tq), (4, r.rclass), (4, r.port), (8, r.cls), (2, r.dmode),
    (1, b2n r.seqValid), (1, b2n r.late), (2, r.prf), (2, 0), (16, r.len), (96, ts96 r.ts), (64, r.seqno),
    (32, r.flowid), (128, r.digest), (9, r.vport), (7, 0), (128, 0)]

/-- The SEQ unit's payload (Table 04-4). -/
def seqPayload (late : Bool) (port : Nat) (ts : Instant) (seqno ref : Nat) (emit : Instant) : Nat :=
  pk [(4, 5), (1, b2n late), (7, 0), (4, port), (32, 0), (96, ts96 ts), (64, seqno), (64, ref), (96, ts96 emit),
    (16, 0), (128, 0)]

/-- Units chained in the last microsecond (R89). -/
def State.chainRate (s : State) : Nat := (s.tl.recent.filter (fun t => decide (s.mono < t + 1000 * uNs))).length

/-- Why a FRAME or SEQ unit is refused (R89, R96): the CAUSE mask of Table 04-7, 0 when it is admitted. A pending gap needs a
place of its own ahead of it. -/
def State.refusal (s : State) : Nat :=
  let k := if s.tl.gap.isSome then 2 else 1
  let noSink := !s.running tailB || !s.tl.hold.isEmpty || (s.ringCap = 0 && !s.direct k)
  let full := s.ringCap ≠ 0 && decide (s.ringCap < s.tl.ring.length + s.ringReserve + k)
  let rate := decide (1200 < s.chainRate + k)
  b2n full * 8 + b2n noSink * 4 + b2n rate * 2

/-- A refusal adds to the pending gap (R89). -/
def State.addGap (s : State) (cause rclass : Nat) (ts : Instant) : State :=
  let g := s.tl.gap.getD { first := ts, last := ts }
  let g : Gap := ⟨g.count + 1, min g.first ts, max g.last ts, g.mask ||| (1 <<< rclass), g.cause ||| cause⟩
  (s.setTl (fun t => { t with gap := some g })).bump (tailCnt 1) 1

/-- Commit a FRAME or SEQ unit behind a stored TQ unit: refused into the gap, or chained after the pending gap. Answers its
INDEX. -/
def State.commitUnit (s : State) (payload rclass : Nat) (ts : Instant) : Option Nat × State :=
  let s := s.flushTq
  if s.refusal ≠ 0 then (none, s.addGap s.refusal rclass ts)
  else
    let s := s.chainGap
    let idx := s.tailIndex
    let r := s.chainUnit payload
    (some idx, r.2.place r.1)

/-- Records are built: EN is 1 (R76, R91). Before the first RESUME they are refused into the pending gap (R89). -/
def State.recordsOn (s : State) : Bool := s.tailEn

/-- The digest budget, in bytes × 2^16 / 64 of elapsed time: level after filling (R81). One byte is 1,024 units of
2^-16 ns at 64 bytes a nanosecond. -/
def State.bucketLevel (s : State) : Nat :=
  min (s.fld (tailB + 0x50) 14 0 * 1024 * 1024) (s.tl.bucket + (s.mono - s.tl.bucketAt))

/-- Digest of a frame for record class `rc` (R80, R81, R316): DIGEST_MODE, DIGEST, and the state with the budget charged. -/
def State.digest (s : State) (rc : Nat) (bytes : List Byte) : Nat × Nat × State :=
  let n := bytes.length
  let top := fun (b : List Byte) => sha256 b / 2 ^ 128
  if n ≤ 256 then (0, top bytes, s)
  else if s.flagA (tailB + 0x80 + 4 * rc) 2 then (2, top (bytes.take 256), s)
  else
    let lvl := s.bucketLevel
    let s := s.setTl (fun t => { t with bucket := lvl, bucketAt := s.mono })
    let short := fun (s : State) => (1, top (bytes.take 256), s.bump (tailCnt 3) 1)
    if n * 1024 ≤ lvl then
      let r := s.cipTap (n - 256)
      if r.1 then (0, top bytes, r.2.setTl (fun t => { t with bucket := lvl - n * 1024 })) else short r.2
    else short s

/-! ### Epochs, resume, chain end -/

/-- Start an epoch with its START unit (R84, R91): chain numbering from 0, an empty link 0, H[−1] zero. -/
def State.startEpoch (s : State) : State :=
  let s := s.setCnt (tailB + 0x240) 0
  let s := s.setTl (fun t => { t with
    hasChain := true, link := 0, body := [], head := 0, closed := none, epochWritten := false, lastCp := s.mono, cpAt := none })
  let id := sha256 identityPub / 2 ^ 128
  let r := s.chainUnit (pk [(4, 4), (2, s.fld (timB + 0x50) 1 0), (42, 0), (96, ts96 s.now), (32, s.tailEpoch), (64, 0),
    (128, id), (16, 0), (128, 0)])
  (r.2.place r.1).raise tailB Ev.tailEpochStart Src.device

/-- RESUME of TAIL (R91): a new epoch, or the chain continues; either begins with the pending gap. While EN is 0
nothing is chained. -/
def State.tailResume (s : State) : State :=
  if !s.tailEn then s
  else
    let s := if s.tl.hasChain && !s.tl.epochWritten then s else s.startEpoch
    s.chainGap

/-- Entry to QUIESCING ends the chain (R91): the link closes and a checkpoint of CAUSE 0b11 falls due. -/
def State.tailChainEnd (s : State) : State :=
  if s.tailEn && s.tl.hasChain then s.cpDue .chainEnd else s

/-! ### Stream Link -/

/-- The bytes of a flit (R101): header with CRC-32C over all 2,560 bytes, the CRC field taken as zero. -/
def flitBytes (count fseq epoch : Nat) (ring : Bool) (now : Instant) (units : List TUnit) : List Byte :=
  let body := (units.map unitBytes).flatten
  let body := body ++ List.replicate (39 * 64 - body.length) 0
  let hdr := fun (crc : Nat) => bytesBE 64 (pk [(16, 0xF1A7), (8, 1), (8, count), (48, fseq), (32, epoch),
    (1, b2n ring), (15, 0), (96, ts96 now), (256, 0), (32, crc)])
  hdr (crc32c (hdr 0 ++ body)).toNat ++ body

/-- Send a flit's bytes on the lanes. -/
def State.putFlit (s : State) (fseq count : Nat) (bytes : List Byte) (resend : Bool) : State :=
  let l := flitLanes s.sl.scr bytes
  (s.setSl (fun t => { t with scr := l.2 })).emit (.flit fseq count bytes l.1 resend)

/-- Send a kept or new flit. -/
def State.sendFlit (s : State) (f : Flit) (resend : Bool) : State :=
  (s.putFlit f.fseq f.units.length f.bytes resend).bump (strCnt (if resend then 1 else 0)) 1

/-- Send kept flits again from FSEQ v onward, in order, as they are kept (R102). -/
def State.resendFrom (s : State) (v : Nat) : State :=
  let s := s.setSl (fun t => { t with kept := t.kept.map (fun f =>
    if fseqLe v (f.fseq % 2 ^ 40) then { f with sentAt := s.mono } else f) })
  (s.sl.kept.filter (fun f => fseqLe v (f.fseq % 2 ^ 40))).foldl (fun s f => s.sendFlit f true) s

/-- Set STR_LINK.STATE. -/
def State.setStr (s : State) (v : Nat) : State := s.setFld (strB + 0x44) 2 0 v

/-- Enter TRAINING at t0: PRBS31 on the lanes, SF1 and SF3 inverted (Table 04-12). -/
def State.strTrain (s : State) : State :=
  ((s.setStr 1).setSl (fun t => { t with step := 0, credit := false, t0 := s.mono, failed := false })).emit
    (.prbs31 [false, true, false, true])

/-- Leave ACTIVE for RETRAIN, which enters TRAINING at once (Table 04-11). -/
def State.strRetrain (s : State) : State :=
  let s := (s.bump (strCnt 6) 1).raise strB Ev.strLinkDown Src.device
  (s.setSl (fun t => { t with timeouts := 0 })).strTrain

/-- Units go back into the ring ahead of its oldest. -/
def State.ringFront (s : State) (us : List RUnit) : State :=
  let s := s.setTl (fun t => { t with
    ring := us.map (fun r => r.epoch) ++ t.ring, ringAt := (t.ringAt + s.ringCap - us.length % s.ringCap) % s.ringCap, rd := 0, skip := 0 })
  us.zipIdx.foldl (fun s x => s.ringStore x.2 x.1.u) s

/-- Kept flits' units and units handed over return to the ring, ahead of its oldest for those taken straight from the
Tail (R97); without a ring they are lost (R99). -/
def State.returnUnits (s : State) : State :=
  let straight := ((s.sl.kept.flatMap (fun f => f.units)) ++ s.sl.waiting).filter (fun r => !r.ring)
  let s := s.setSl (fun t => { t with kept := [], waiting := [], timeouts := 0 })
  (if s.ringCap = 0 then s.setTl (fun t => { t with ring := [], rd := 0, skip := 0 }) else s.ringFront straight).ringLevel

/-- The link goes to DISABLED (Table 04-11). -/
def State.strDisable (s : State) : State :=
  let s := if s.strState = 2 then s.raise strB Ev.strLinkDown Src.device else s
  (s.setStr 0).returnUnits

/-- Acknowledged flits leave the replay buffer and their units leave the ring (R97, R103). -/
def State.ackTo (s : State) (v : Nat) : State :=
  let gone := s.sl.kept.filter (fun f => fseqLe (f.fseq % 2 ^ 40) v)
  if gone.isEmpty then s
  else
    let n := ((gone.flatMap (fun f => f.units)).map RUnit.places).sum
    let s := s.setCnt (strB + 0x68) v
    let s := s.setSl (fun t => { t with kept := t.kept.filter (fun f => !fseqLe (f.fseq % 2 ^ 40) v), timeouts := 0, progress := s.mono })
    (s.ringRelease n).tailSettle

end Sys2Proof.Machine
end

