-- ==== Sys2Proof/Machine/TimOps.lean ====
section
/-! DEFINITION. The time base, its sources and its quality states: the operations the TIM commands share
(03_time_base.md). -/
namespace Sys2Proof.Machine

/-- Update TIM's own state. -/
def State.setTim (s : State) (f : TimSt → TimSt) : State := { s with tim := f s.tim }
/-- The track of source n: 0 PPS_IN0, 1 PPS_IN1, 2 the servo. -/
def State.trk (s : State) (n : Nat) : Track := mget (fun _ => {}) s.tim.trk n
/-- Update the track of source n. -/
def State.setTrk (s : State) (n : Nat) (f : Track → Track) : State :=
  s.setTim (fun t => { t with trk := mput (fun _ => {}) t.trk n (f (s.trk n)) })

/-- A duration in ps as units of 2^-16 ns, rounded down. -/
def psUnits (ps : Nat) : Nat := ps * 65536 / 1000

/-- The number of the tick interval the time base is in (R53): ticks are whole microseconds. -/
def State.tick (s : State) : Nat := s.tb / uUs

/-- The live fields of TIM. -/
def timLiveA : List Nat := [0x4C, 0x58, 0x5C, 0x60, 0x80, 0x84, 0x88, 0x8C, 0x90, 0x94, 0x9C, 0xA0, 0xA4].map (timB + ·)
/-- A live field written in this tick is not yet in force. -/
def State.timHeld (s : State) : Bool := s.tim.liveTick = some s.tick
/-- The word of a live register that is in force, its fields and its bits: what was written takes effect at the next tick (R53). -/
def State.timW (s : State) (a : Nat) : Nat := if s.timHeld then s.rdA a else s.rd a
def State.timF (s : State) (a hi lo : Nat) : Nat := bits (s.timW a) hi lo
def State.timBit (s : State) (a i : Nat) : Bool := (s.timW a).testBit i
/-- Before a live register is written: the words in force are kept until the next tick. -/
def State.timKeep (s : State) : State :=
  if s.timHeld then s
  else { s with act := timLiveA.foldl (fun m a => mput rstAt m a (mget rstAt s.regs a)) s.act, tim := { s.tim with liveTick := some s.tick } }

/-- A source of Table 03-2 that takes phase from 1PPS. -/
def isPps (src : Nat) : Bool := decide (1 ≤ src) && decide (src ≤ 4)

/-- The active 1PPS input, TIM_QUALITY.ACTIVE_IN. -/
def State.activeIn (s : State) : Nat := s.fld (timB + 0x50) 10 10

/-- The track the time base follows; none under SRC 0b000. -/
def State.tracked (s : State) : Option Nat :=
  if isPps s.tim.src then some s.activeIn else if s.tim.src = 5 then some 2 else none

/-- TIM_QUALITY.STATE and SECONDS_VALID. -/
def State.tq (s : State) : Nat := s.fld (timB + 0x50) 1 0
def State.secondsValid (s : State) : Bool := s.flag (timB + 0x50) 8

/-- TIM_QCFG in units, and LOCK_QUAL in seconds. -/
def State.lockThresh (s : State) : Nat := s.timF (timB + 0x58) 31 24 * uNs
def State.unlockThresh (s : State) : Nat := s.timF (timB + 0x58) 23 16 * uNs
def State.lockQual (s : State) : Nat := s.timF (timB + 0x58) 15 8
def State.stepKeep (s : State) : Nat := s.timF (timB + 0x58) 7 0 * uNs

/-- TIM_OFFSET_EST under Table 03-3; a known value saturates at 0xFFFF_FFFE. While SYS_REFCLK is lost nothing is known (R418). -/
def State.offsetEst (s : State) : Nat :=
  if s.pw.hold.sysref then 0xFFFFFFFF
  else match s.tq with
  | 1 =>
    let v := if isPps s.tim.src then
        match (s.trk s.activeIn).edges with
        | [] => 0
        | e :: _ => e.2.natAbs * 1000 / 65536
      else s.tim.servo.getD 0
    min 0xFFFFFFFE v
  | 2 => if s.tim.holdEst = 0xFFFFFFFF then 0xFFFFFFFF else min 0xFFFFFFFE (s.tim.holdEst + s.timF (timB + 0x5C) 31 16 * s.tim.holdSecs)
  | _ => 0xFFFFFFFF

/-- The PTP source is lost: by its last TIM_SERVO write, or without one for SERVO_TIMEOUT seconds (R61). -/
def State.ptpGone (s : State) : Bool := (s.trk 2).lost || s.past (s.tim.servoAt + s.timF (timB + 0x4C) 7 4 * uS)

/-- Bring TIM_OFFSET_EST up to date. -/
def State.showEst (s : State) : State := s.wr (timB + 0x54) s.offsetEst

/-- A transition of Table 03-4, or the re-entry of UNCALIBRATED (R62). `est` is the estimate before it. -/
def State.tqTransition (s : State) (new est : Nat) : State :=
  let s := if new = 2 then s.setTim (fun t => { t with holdEst := est, holdSecs := 0 })
    else if new = 0 then
      match s.tracked with
      | none => s
      | some n => s.setTrk n (fun t => { t with run := 0, since := s.mono })
    else s
  let s := (s.setFld (timB + 0x50) 1 0 new).setFld (timB + 0x50) 31 16 0
  s.showEst.raise timB Ev.timeQuality Src.device

/-- The transition Table 03-4 asks for: its first row that matches. `forced` marks the evaluation after a set, or a
step larger than STEP_KEEP. -/
def State.tqNext (s : State) (forced : Bool) : Option Nat :=
  let tr := s.tracked.map s.trk
  let crit := !s.pw.hold.sysref && match tr with
    | none => false
    | some t => decide (s.lockQual ≤ t.run)
  let gone := match tr with
    | none => false
    | some t => (if s.tim.src = 5 then s.ptpGone else t.lost) || decide (3 ≤ t.bad) || s.pw.hold.sysref
  if forced then some 0
  else match s.tq with
    | 0 => if s.secondsValid && crit then some 1 else if s.secondsValid && s.tim.src = 0 then some 3 else none
    | 1 => if gone then some 2 else none
    | 2 => if crit then some 1
      else if s.timF (timB + 0x5C) 15 0 * 1000 < s.offsetEst then some 3 else none
    | _ => if crit then some 1 else none

/-- Judge one second of a source: its offset in units, or none for a second without one. -/
def Track.judge (t : Track) (off : Option Nat) (lock unlock : Nat) : Track :=
  match off with
  | none => { t with run := 0, bad := 0 }
  | some o => { t with run := if o ≤ lock then t.run + 1 else 0, bad := if unlock < o then t.bad + 1 else 0 }

/-- The offset of the edge of the second that ended half a second ago: a boundary judges the second before it, since
the edge of its own second may still come (R61, R474). An edge from before the qualification began is none. -/
def State.secondOffset (s : State) (n : Nat) : Option Nat :=
  let m : Int := s.mono
  ((s.trk n).edges.find? (fun e => decide (e.1 ≤ m - (uS / 2 : Nat)) && decide (m - (uS + uS / 2 : Nat) < e.1) && decide ((s.trk n).since ≤ e.1))).map
    (fun e => e.2.natAbs)

/-- What a second boundary does before Table 03-4 is evaluated: the seconds of each source are judged, SECONDS_IN_STATE
and the seconds of HOLDOVER count. -/
def State.secondPassed (s : State) : State :=
  let l := s.lockThresh
  let u := s.unlockThresh
  let s := s.setTrk 0 (fun t => t.judge (s.secondOffset 0) l u)
  let s := s.setTrk 1 (fun t => t.judge (s.secondOffset 1) l u)
  let s := if s.tim.src = 5 then
      s.setTrk 2 (fun t => t.judge (if s.ptpGone then none else s.tim.servo.map psUnits) l u)
    else s
  let s := s.setFld (timB + 0x50) 31 16 (min 0xFFFF (s.fld (timB + 0x50) 31 16 + 1))
  let s := s.setTim (fun t => { t with lastSec := secOf s.tb, holdSecs := if s.tq = 2 then t.holdSecs + 1 else t.holdSecs })
  s.showEst

/-- One evaluation of Table 03-4. Answers whether a transition was made. -/
def State.evaluateTq (s : State) (second forced : Bool) : Bool × State :=
  let s := if second then s.secondPassed else s
  match s.tqNext forced with
  | none => (false, s)
  | some n => (true, s.tqTransition n s.offsetEst)

/-- The TQ unit of an event (R83): the state before and after it, its CAUSE and STEP. -/
def State.chainTqEvent (s : State) (old cause : Nat) (step : Option Int) : State :=
  s.tqEvent ⟨old, s.tq, cause, s.tim.src, s.secondsValid, s.timF (timB + 0x9C) 15 0, s.now, step, s.offsetEst⟩

/-- A due leap (R64): OFFSET moves, the flag clears, LEAP_APPLIED is raised. Answers whether one was applied. -/
def State.leap (s : State) : Bool × State :=
  let a := timB + 0x9C
  let at_ := s.timW (timB + 0xA0) + s.timF (timB + 0xA4) 15 0 * 2 ^ 32
  let old := s.timW a
  if (bit old 30 || bit old 29) && decide (at_ ≤ secOf s.tb) then
    let new := putBits (putBits old 15 0 (if bit old 30 then bits old 15 0 + 1 else bits old 15 0 + 0xFFFF)) 30 29 0
    let t := if s.timHeld then { s with act := mput rstAt s.act a (BitVec.ofNat 32 new) } else s
    let t := if s.rd a = old then t.wr a new else t
    (true, { t with pw := { t.pw with calNew := true } }.raise timB Ev.leapApplied Src.device)
  else (false, s)

/-- Put the time base at `t`, on one cycle for every consumer (R59): TIME_STEP, a leap it reaches, the evaluation
(R61) and the one TQ unit of the event (R83). `cause` is 2 for a set and 3 for a step; `change` the signed change. -/
def State.jumpTo (s : State) (t : Instant) (cause : Nat) (change : Int) : State :=
  let old := s.tq
  let second := decide (s.tim.lastSec < secOf t)
  let s := { s with tb := t, pw := { s.pw with calNew := true } }
  let s := s.raise timB Ev.timeStep Src.device
  let s := s.leap.2
  let s := (s.evaluateTq second (cause = 2 || decide (s.stepKeep < change.natAbs))).2
  let s := s.setTim (fun u => { u with lastSec := secOf t, lastRise := [], liveTick := none })
  let fits := decide (-(2 ^ 63 : Int) ≤ change) && decide (change < (2 ^ 63 : Int))
  s.chainTqEvent old cause (if fits then some change else none)

/-- An instant moved by a signed number of units, wrapping with SEC (R50). -/
def moveBy (t : Instant) (d : Int) : Instant := ((t : Int) + d).emod (uWrap : Nat) |>.toNat

/-- Apply a set or step (R58): `cable` is what has passed since the edge a set is placed at. -/
def State.applyAdj (s : State) (p : PendAdj) (cable : Nat) : State :=
  let s := (s.setTim (fun t => { t with pend := none })).setFld (timB + 0x78) 3 3 0
  let s := s.setFld (timB + 0x50) 8 8 1
  let t := if p.isSet then moveBy 0 (p.value + cable) else moveBy s.tb p.value
  s.jumpTo t (if p.isSet then 2 else 3) ((t : Int) - s.tb)

/-- A source is lost: its qualification ends and TIME_SRC_LOST is raised (R61, R75). -/
def State.srcLost (s : State) (n : Nat) : State :=
  (s.setTrk n (fun t => { t with last := none, lost := true, run := 0, bad := 0 })).raise timB Ev.timeSrcLost Src.device

/-- What the PLL adds to its frequency to take its phase error away (R54). -/
def TimSt.slewNow (t : TimSt) : Int :=
  if t.slew.natAbs < 4096 * t.slewRate then 0 else if t.slew < 0 then -(t.slewRate : Int) else t.slewRate
/-- The frequency the time base runs at, in 10^-12, within ±500 ppm under a 1PPS source (R54, R57). -/
def State.timRate (s : State) : Int :=
  if isPps s.tim.src then max (-500000000) (min 500000000 (signed 32 s.tim.pll.toNat + s.tim.slewNow)) else signed 32 (s.timW (timB + 0x60))

/-- 62.5 ps pass: the time base and the elapsed time move on at the rate in force. -/
def State.passTime (s : State) : State :=
  let n : Int := 4096 * 1000000000000 + 4096 * s.timRate + s.tim.rem
  let d := (n / 1000000000000).toNat
  { s with
    tb := (s.tb + d) % uWrap, mono := s.mono + d
    tim := { s.tim with rem := n % 1000000000000, slew := if s.tim.slewNow = 0 then s.tim.slew else s.tim.slew - 4096 * s.tim.slewNow } }

/-- Write TIM_ADJ_CTRL (R50, R58): the row's bit, AT_PPS, and FAIL cleared where the write has a 1 there. -/
def State.adjWrite (s : State) (isSet both atPps clrFail : Bool) : State :=
  let a := timB + 0x78
  let setv := s.rd (timB + 0x64) * 2 ^ 64 + s.rd (timB + 0x68) * 2 ^ 32 + s.rd (timB + 0x6C)
  if both || s.tim.pend.isSome || (isSet && decide (1000000000 ≤ bits setv 47 16)) then s.reject timB 0x78
  else
    let v : Int := if isSet then (ofTs96 setv : Nat) else signed 64 (s.rd (timB + 0x70) + s.rd (timB + 0x74) * 2 ^ 32)
    let s := if clrFail then s.setFld a 4 4 0 else s
    let s := (s.setFld a 2 2 (b2n atPps)).setFld a 3 3 1
    s.setTim (fun t => { t with pend := some ⟨isSet, v, atPps, s.mono, s.tick⟩, edge := none })

/-- The requester of one host port's PTM dialogues. -/
def State.ptmGet (s : State) (h : Nat) : PtmReq := mget (fun _ => {}) s.tim.ptm h
/-- Update it. -/
def State.setPtm (s : State) (h : Nat) (f : PtmReq → PtmReq) : State :=
  s.setTim (fun t => { t with ptm := mput (fun _ => {}) t.ptm h (f (s.ptmGet h)) })

/-- One port's TSU. -/
def State.tsuGet (s : State) (p : Nat) : TsuSt := mget (fun _ => {}) s.tsu p
/-- Update it. -/
def State.setTsu (s : State) (p : Nat) (f : TsuSt → TsuSt) : State :=
  { s with tsu := mput (fun _ => {}) s.tsu p (f (s.tsuGet p)) }

/-- Base of a port's MAC registers (05_network_ports.md). -/
def macPort (p : Nat) : Nat := macB (p / 4) + 0x1000 + 0x1000 * (p % 4)
/-- MAC_LINK.STATE is UP. -/
def State.linkIsUp (s : State) (p : Nat) : Bool := s.fld (macPort p + 8) 2 0 = 4

/-- Start the lane calibration of port p (R67). -/
def State.calStart (s : State) (p : Nat) : State :=
  (s.setFld (tsuB p + 0x50) 3 1 2).setTsu p (fun t => { t with calAt := s.mono })

/-- The port's link went down: CALIBRATED clears, a running calibration is abandoned (R67). -/
def State.calLinkDown (s : State) (p : Nat) : State := s.setFld (tsuB p + 0x50) 2 1 0

/-- A signed field in ps as signed units of 2^-16 ns. -/
def psInt (ps : Int) : Int := ps * 65536 / 1000

/-- The instant t as hardware captures it: on the 62.5 ps grid (R51), off by a free value of at most w units either way (Table 03-5). -/
def captureAt (t : Int) (w k : Nat) : Instant :=
  let x : Int := t + ((Config.captureErr k % (2 * w + 1) : Nat) : Int) - (w : Nat)
  let g := x - x.emod 4096
  moveBy 0 (if g < t - (w : Nat) then g + 4096 else g)
/-- How far a capture of a TSU may be off: 0.8 ns calibrated, 6 ns otherwise (Table 03-5). -/
def captureTol (cal : Bool) : Nat := if cal then 52428 else 393216

/-- The receive capture of port p for a frame whose SFD is at the ball now (R66), and its CAL flag. -/
def State.rxCapture (s : State) (p : Nat) : Instant × Bool × State :=
  let r := s.draw
  let cal := s.flag (tsuB p + 0x50) 1
  let d := psInt (signed 32 (s.rd (tsuB p + 0x54))) + (Config.rxPath p : Nat) + psInt (signed 32 (s.rdA (tsuB p + 0x44)))
  (captureAt ((s.tb : Int) - d) (captureTol cal) r.1, cal, r.2)

/-- The transmit capture of port p for a frame sent now (R66), and its CAL flag. -/
def State.txCapture (s : State) (p : Nat) : Instant × Bool × State :=
  let r := s.draw
  let cal := s.flag (tsuB p + 0x50) 1
  let d := (Config.txPath p : Nat) + psInt (signed 32 (s.rdA (tsuB p + 0x48)))
  (captureAt ((s.tb : Int) + d) (captureTol cal) r.1, cal, r.2)

/-- Push a transmit capture onto the TXTS FIFO of port p (R72). -/
def State.txtsPush (s : State) (p : Nat) (e : TxtsEntry) : State :=
  if (s.tsuGet p).txts.length < 64 then s.setTsu p (fun t => { t with txts := t.txts ++ [e] })
  else (s.bump32 (tsuB p + 0x70) 1).raise (tsuB p) Ev.txtsOverflow (Src.port p)

end Sys2Proof.Machine
end

