-- ==== Sys2Proof/Machine/SchOps.lean ====
section
/-! DEFINITION. The pool, queues, replication and admission (10_queues_and_scheduling.md), with the fan-out groups of
proofing that copies belong to (09_sequencer_and_proofing.md R213, R214). -/
namespace Sys2Proof.Machine

/-! ### Metadata and frames -/

/-- Bits [hi:lo] of metadata word Mw (Table 07-5). -/
def mdF (md : BitVec 512) (w hi lo : Nat) : Nat := bits md.toNat (480 - 32 * w + hi) (480 - 32 * w + lo)
/-- The bus with those bits set. -/
def mdPut (md : BitVec 512) (w hi lo v : Nat) : BitVec 512 :=
  BitVec.ofNat 512 (putBits md.toNat (480 - 32 * w + hi) (480 - 32 * w + lo) v)

/-- Colour of a frame: 0 green, 1 yellow, 2 red; a policer's result where it was policed, while M0 stays as the last pass left it (R167,
R226). -/
def Frame.colour (f : Frame) : Nat := f.col.getD (mdF f.md 0 23 22)
/-- Length with the FCS it holds, if any. -/
def Frame.len (f : Frame) : Nat := f.bytes.length + (if f.fcs then 4 else 0)
/-- Cells of 256 bytes (R217). -/
def cellsOf (n : Nat) : Nat := (n + 255) / 256
/-- The entry stamp carried on the bus (Table 07-5). -/
def Frame.entry (f : Frame) : Instant := ofTs96 (mdF f.md 6 31 0 * 2 ^ 64 + mdF f.md 7 31 0 * 2 ^ 32 + mdF f.md 8 31 0)
/-- Length charged to queues, shapers and the wire: at least 60 bytes, and the FCS (R223). -/
def Frame.charged (f : Frame) : Nat := max 60 f.bytes.length + 4

/-- Update the queues' own state, proofing's, a pipeline's, a port's. -/
def State.setSch (s : State) (g : SchSt → SchSt) : State := s.setDp (fun d => { d with sch := g d.sch })
def State.setPrf (s : State) (g : PrfSt → PrfSt) : State := s.setDp (fun d => { d with prf := g d.prf })
def State.pipe (s : State) (n : Nat) : PipeSt := mget (fun _ => {}) s.dp.pipe n
def State.setPipe (s : State) (n : Nat) (g : PipeSt → PipeSt) : State :=
  s.setDp (fun d => { d with pipe := mput (fun _ => {}) d.pipe n (g (s.pipe n)) })
def State.mac (s : State) (p : Nat) : MacSt := mget (fun _ => {}) s.dp.mac p
def State.setMac (s : State) (p : Nat) (g : MacSt → MacSt) : State :=
  s.setDp (fun d => { d with mac := mput (fun _ => {}) d.mac p (g (s.mac p)) })

/-! ### Frames with copies outstanding -/

/-- The record of a frame with copies outstanding. -/
def State.live (s : State) (id : Nat) : Option Live := mget (fun _ => none) s.dp.live id
/-- Write it. -/
def State.setLive (s : State) (id : Nat) (l : Option Live) : State :=
  s.setDp (fun d => { d with live := mput (fun _ => none) d.live id l })

/-- PWR_STAT.STATE: 0 HOT, 1 WARM, 2 COLD, 3 STANDBY. -/
def State.devState (s : State) : Nat := s.fld (pwrB + 0x44) 1 0

/-- A frame enters the device: it gets its number and counts as one copy until it is queued or discarded. -/
def State.birth (s : State) (f : Frame) : Frame × State :=
  let f := { f with id := s.dp.nextId }
  (f, (s.setDp (fun d => { d with nextId := d.nextId + 1 })).setLive f.id (some { f := f }))

/-- Change SCH_POOL.FREE. -/
def State.poolAdd (s : State) (n : Nat) : State := s.setFld (schB + 0x50) 17 0 (s.fld (schB + 0x50) 17 0 + n)

/-- How a copy finishes (R385). -/
inductive Fate where
  | sent (c : TxCap)
  | delivered
  | dropped
  deriving DecidableEq, Repr

/-- STATUS of a completion whose frame is finished: DISCARDED when no copy was transmitted or delivered (R385). -/
def Live.status (l : Live) : Nat := if l.sent.isSome || l.done then 0 else 3

/-- One copy finishes. `held` tells that it still needed the pool's cells; the last of those frees them (R217), and
the last copy of a tenant's frame makes its completion due (R385). -/
def State.endCopy (s : State) (id : Nat) (held : Bool) (fate : Fate) : State :=
  match s.live id with
  | none => s
  | some l =>
    let l : Live := { l with copies := l.copies - 1, held := if held then l.held - 1 else l.held }
    let l : Live := match fate with
      | .sent c => if l.sent.isSome then l else { l with sent := some c }
      | .delivered => { l with done := true }
      | .dropped => l
    let free := decide (l.held = 0) || decide (l.copies = 0)
    let s := if free then s.poolAdd l.cells else s
    let l := if free then { l with cells := 0 } else l
    if l.copies = 0 then
      let s := s.setLive id none
      match l.f.src with
      | .tenant .. => s.setDp (fun d => { d with fin := d.fin ++ [⟨l.f, l.sent, l.status⟩] })
      | _ => s
    else s.setLive id (some l)

/-! ### Records of discarded copies -/

/-- The record class of a frame, and whether it produces records of a direction: bit 0 EN_IN, bit 1 EN_OUT (R76). -/
def State.recClass (s : State) (f : Frame) (dirBit : Nat) : Option Nat :=
  let rc := bits f.ce.toNat 62 59
  if bit f.ce.toNat 63 && s.recordsOn && s.flagA (tailB + 0x80 + 4 * rc) dirBit then some rc else none

/-- The egress FRAME record of a frame that proofing discards, PRF 0b11 (R19, R76). -/
def State.missRecord (s : State) (p : Nat) (c : Copy) : State :=
  match s.recClass c.f 1 with
  | none => s
  | some rc =>
    let r : FrameRec := {
      dir := 1, cal := false, tq := s.tq, rclass := rc, port := p, cls := c.f.cls, dmode := 3,
      seqValid := c.f.seqno.isSome, late := c.f.late, prf := 3, len := c.f.charged, ts := s.now,
      seqno := c.f.seqno.getD 0, flowid := mdF c.f.md 2 31 0, digest := 0, vport := c.f.src.vport }
    (s.commitUnit (framePayload r) rc s.now).2

/-- MISS of a frame's class entry. -/
def Frame.missBit (f : Frame) : Bool := bit f.ce.toNat 56

/-! ### Fan-out groups (R213, R214) -/

/-- Address of PRF_CNT_n of quad q. -/
def prfCnt (q n : Nat) : Nat := prfB + 0x400 + 0x80 * q + 8 * n
/-- LEAD_NS of port p in units, the active copy. -/
def State.leadOf (s : State) (p : Nat) : Nat := s.fldA (prfB + 0x100 + 0x10 * p) 31 16 * uNs
/-- Held entries of a port, in entry order. -/
def State.heldOf (s : State) (p : Nat) : List Held := mget (fun _ => []) s.dp.prf.held p
/-- Replace them; PRF_HELD and PRF_PEAK of the quad follow. -/
def State.setHeld (s : State) (p : Nat) (l : List Held) : State :=
  let s := s.setPrf (fun f => { f with held := mput (fun _ => []) f.held p l })
  let q := p / 4
  let n := ((List.range 4).map (fun i => (s.heldOf (4 * q + i)).length)).sum
  let s := s.setFld (prfB + 0x200 + 8 * q) 16 0 n
  s.setFld (prfB + 0x204 + 8 * q) 16 0 (max n (s.fld (prfB + 0x204 + 8 * q) 16 0))

/-- A fan-out group. -/
def State.group (s : State) (g : Nat) : Option Group := s.dp.prf.groups.find? (fun x => x.id = g)
/-- Replace it. -/
def State.setGroup (s : State) (x : Group) : State :=
  s.setPrf (fun f => { f with groups := f.groups.map (fun y => if y.id = x.id then x else y) })
/-- Free it. -/
def State.dropGroup (s : State) (g : Nat) : State :=
  let s := s.setPrf (fun f => { f with groups := f.groups.filter (fun y => y.id ≠ g) })
  s.setFld (prfB + 0x44) 12 0 s.dp.prf.groups.length

/-- A release time lies beyond the horizon (R207). -/
def State.beyond (s : State) (r : Instant) : Bool := decide (s.tb + s.fldA (prfB + 0x40) 31 22 * uMs < r)

/-- A copy whose release time lies beyond the horizon is discarded, whatever MISS holds (R207). -/
def State.horizonDrop (s : State) (c : Copy) : State :=
  let s := (s.bump (prfCnt (c.vport / 4) 4) 1).raise prfB Ev.prfHorizon (Src.port c.vport)
  (s.missRecord c.vport c).endCopy c.f.id (!c.deep) .dropped

/-- Fix R of a group for every copy of it that is held (R213); R is now known, and held copies that it puts beyond the horizon are
discarded (R211). -/
def State.fixGroup (s : State) (x : Group) (r : Instant) : State :=
  let mine := fun (h : Held) => decide (h.cp.grp = some x.id)
  let l := (List.range 16).flatMap (fun p => (s.heldOf p).filter mine)
  let far := s.beyond r
  let each := fun (s : State) (p : Nat) =>
    if (s.heldOf p).any mine then
      s.setHeld p (if far then (s.heldOf p).filter (fun h => !mine h)
        else (s.heldOf p).map (fun h => if mine h then { h with r := some r } else h))
    else s
  let s := (List.range 16).foldl each s
  if !far then s.setGroup { x with r := some r }
  else
    let s := l.foldl (fun s h => s.horizonDrop h.cp) s
    if x.alive ≤ l.length then s.dropGroup x.id
    else s.setGroup { x with r := some r, alive := x.alive - l.length, ports := l.foldl (fun ps h => ps.erase h.cp.vport) x.ports }

/-- What follows a change of a group: freed when no copy remains, R fixed when every expected copy has entered. -/
def State.settleGroup (s : State) (x : Group) : State :=
  if x.alive = 0 then s.dropGroup x.id
  else if x.missing = 0 && x.r.isNone then (s.setGroup x).fixGroup x (x.ready + x.guard)
  else s.setGroup x

/-- A port copy is lost before it enters proofing: the expected count falls at once (R213). -/
def State.lostCopy (s : State) (c : Copy) : State :=
  match c.grp.bind s.group with
  | none => s
  | some x => s.settleGroup { x with missing := x.missing - 1, alive := x.alive - 1, ports := x.ports.erase c.vport }

/-- A copy of a group was released, missed or discarded after it entered. -/
def State.leaveGroup (s : State) (c : Copy) : State :=
  match c.grp.bind s.group with
  | none => s
  | some x => s.settleGroup { x with alive := x.alive - 1, ports := x.ports.erase c.vport }

/-- A copy that did not reach proofing is discarded: its group and its frame learn of it. -/
def State.loseCopy (s : State) (c : Copy) : State := (s.lostCopy c).endCopy c.f.id (!c.deep) .dropped

/-- The rule that a frame's class names, both words, as it stands now (R206). -/
def State.prfRule (s : State) (f : Frame) : Nat :=
  let a := prfB + 0x1000 + 8 * bits f.ce.toNat 55 48
  s.rdA a * 2 ^ 32 + s.rdA (a + 4)

/-- Whether a rule has MODE FANOUT (Table 09-2). -/
def isFanout (rule : Nat) : Bool := bit rule 63 && bits rule 62 60 = 3

/-- Give the port copies of a frame their rule, and a group where its MODE is FANOUT (R206, R213); with no group free every one of
them is missed (R214). -/
def State.formGroup (s : State) (f : Frame) (cs : List Copy) : List Copy × State :=
  if !bit f.ce.toNat 57 then (cs, s)
  else
    let rule := s.prfRule f
    let isPort := fun (c : Copy) => decide (c.vport < 16)
    let cs := cs.map (fun c => if isPort c then { c with rule := BitVec.ofNat 64 rule } else c)
    let ports := cs.filter isPort
    if !isFanout rule || ports.isEmpty then (cs, s)
    else if 4096 ≤ s.dp.prf.groups.length then
      (cs.map (fun c => if isPort c then { c with prf := 2 } else c), s.bump (prfB + 0x608) 1)
    else
      let g := s.dp.prf.nextGroup
      let x : Group := { id := g, missing := ports.length, alive := ports.length, ports := ports.map (·.vport),
                         guard := bits rule 48 32 * uNs }
      let s := s.setPrf (fun f => { f with groups := f.groups ++ [x], nextGroup := g + 1 })
      let s := (s.setFld (prfB + 0x44) 12 0 s.dp.prf.groups.length).bump (prfB + 0x600) 1
      (cs.map (fun c => if isPort c then { c with grp := some g } else c), s)

/-! ### Queues -/

/-- Address of SCH_Q_* of queue q of port p, and of SCH_QCNT_n. -/
def schQ (p q : Nat) : Nat := schB + 0x10100 + 0x1000 * p + 0x20 * q
def schQCnt (p q n : Nat) : Nat := schB + 0x30000 + 0x1000 * p + 0x80 * q + 8 * n
/-- Address of SCH_ADMIT_DROP of vport v, and of its SCH_VPORT_BUF. -/
def schDrop (v : Nat) : Nat := schB + 0x60000 + 8 * v
def schBuf (v : Nat) : Nat := schB + 0x50000 + 8 * (v - 16)

/-- A port queue. -/
def State.pq (s : State) (p q : Nat) : QSt := mget (fun _ => {}) s.dp.sch.q (32 * p + q)
/-- Update it. -/
def State.setPq (s : State) (p q : Nat) (g : QSt → QSt) : State :=
  s.setSch (fun d => { d with q := mput (fun _ => {}) d.q (32 * p + q) (g (s.pq p q)) })
/-- The queue of another vport. -/
def State.vq (s : State) (v q : Nat) : List Copy := mget (fun _ => []) s.dp.sch.vq (16384 * v + q)
/-- Replace it. -/
def State.setVq (s : State) (v q : Nat) (l : List Copy) : State :=
  s.setSch (fun d => { d with vq := mput (fun _ => []) d.vq (16384 * v + q) l })
/-- On-chip cells of a vport that is no port (R219). -/
def State.vcells (s : State) (v : Nat) : Nat := mget (fun _ => 0) s.dp.sch.cells v
/-- Set them. -/
def State.setVcells (s : State) (v n : Nat) : State :=
  s.setSch (fun d => { d with cells := mput (fun _ => 0) d.cells v n })

/-- The MAC rate of port p in Mb/s by its quad's mode (Table 05-1). -/
def State.rateMbps (s : State) (p : Nat) : Nat :=
  match s.fld (macB (p / 4) + 0x40) 3 0 with
  | 1 => 400000 | 2 => 200000 | 3 => 100000 | 4 => 100000 | 5 => 50000 | 6 => 25000 | 7 => 10000 | _ => 0

/-- Ports of a quad that its mode uses (Table 05-1), by number within the quad. -/
def portsOf (mode : Nat) : List Nat :=
  match mode with
  | 1 => [0] | 2 => [0, 2] | 4 => [0] | 3 => [0, 1, 2, 3] | 5 => [0, 1, 2, 3] | 6 => [0, 1, 2, 3] | 7 => [0, 1, 2, 3]
  | _ => []

/-- Elapsed time that `n` bytes take on port p, rounded up. -/
def State.txTime (s : State) (p n : Nat) : Nat :=
  let r := s.rateMbps p
  if r = 0 then 0 else (n * 8 * 65536000 + r - 1) / r
/-- With preamble, SFD and inter-frame gap (20 bytes). -/
def State.wireTime (s : State) (p n : Nat) : Nat := s.txTime p (n + 20)

/-- A vport accepts traffic (R14, R109). -/
def State.accepts (s : State) (v : Nat) : Bool :=
  if v < 16 then s.linkIsUp v
  else if v < 272 then s.fld (tfnB + 0x10004 + 0x40 * (v - 16)) 2 0 = 1
  else if v < 284 then s.running (engB (v - 272))
  else !s.boot.restarting

/-- Guaranteed cells that queues do not yet use (R218), over the GUAR registers that are not 0. -/
def State.unusedGuar (s : State) : Nat :=
  (s.regs.map (fun e =>
    if schB + 0x10000 ≤ e.1 && e.1 < schB + 0x20000 && e.1 % 0x20 = 4 && decide (0x100 ≤ e.1 % 0x1000) then
      bits e.2.toNat 17 0 - s.fld (e.1 + 0x14) 17 0
    else if schB + 0x50000 ≤ e.1 && e.1 < schB + 0x60000 && e.1 % 8 = 0 then
      bits e.2.toNat 17 0 - s.vcells ((e.1 - (schB + 0x50000)) / 8 + 16)
    else 0)).sum

/-- shared_free for a copy of n cells (R218). -/
def State.sharedFree (s : State) (n : Nat) : Nat := s.fld (schB + 0x50) 17 0 + n - s.unusedGuar

/-- The colour limit of a MAX word (R218). -/
def colourLimit (w colour cells : Nat) : Nat :=
  match colour with
  | 0 => cells
  | 1 => cells * bits w 31 28 / 16
  | _ => cells * bits w 27 24 / 16

/-- The two on-chip tests of R218. -/
def State.fitsChip (s : State) (held n lim guar : Nat) : Bool :=
  decide (held + n ≤ lim) && (decide (held + n ≤ guar) || decide (n ≤ s.sharedFree n))

/-! ### The deep buffer (R220, R221) -/

/-- Bytes of a queue in the deep buffer. -/
def QSt.deepBytes (q : QSt) : Nat := (q.copies.map (fun c => if c.deep && !c.win then c.f.len else 0)).sum
/-- The cells of the deep buffer in use, of 256 bytes each: those of queued copies, and of proofing frames until their data is
staged (R205, R209). -/
def State.deepCells (s : State) : List Nat :=
  s.dp.sch.q.flatMap (fun e => e.2.copies.flatMap (·.at_)) ++ s.dp.pipe.flatMap (fun e => e.2.egress.flatMap (·.at_))
    ++ s.dp.prf.held.flatMap (fun e => e.2.flatMap (fun h => h.cp.at_))
/-- SCH_DEEP_USED. -/
def State.deepMib (s : State) : Nat := (s.deepCells.length + 4095) / 4096
/-- The deep buffer has room for n more cells. -/
def State.deepRoom (s : State) (n : Nat) : Bool := decide (s.deepCells.length + n ≤ s.fld (schB + 0x44) 15 0 * 4096)

/-- The n lowest numbers from k on that a list does not hold, looking at `fuel` of them. -/
def freeFrom (used : List Nat) : Nat → Nat → Nat → List Nat
  | 0, _, _ => []
  | fuel + 1, k, n =>
    if n = 0 then [] else if used.contains k then freeFrom used fuel (k + 1) n else k :: freeFrom used fuel (k + 1) (n - 1)
/-- The lowest free cells for a copy (DESIGN CHOICE: where in the deep buffer a copy lies). -/
def State.deepPick (s : State) (n : Nat) : List Nat := let u := s.deepCells; freeFrom u (u.length + n) 0 n

/-- The pieces of a copy's bytes by cell: address, bytes. -/
def State.deepParts (s : State) (c : Copy) : List (Nat × List Byte) :=
  (c.at_.zipIdx.map (fun x => (s.rd (schB + 0x40) * 2 ^ 20 + 256 * x.1, (c.f.bytes.drop (256 * x.2)).take 256))).filter (fun x => !x.2.isEmpty)

/-- A copy's bytes are written to its cells. -/
def State.deepWrite (s : State) (c : Copy) : State :=
  (s.deepParts c).foldl (fun s x =>
    if s.memAllowed .sch x.1 x.2.length true then s.memWrite x.1 x.2 else s.memRefuse .sch x.1) s

/-- The channels that hold a copy's cells serve reads. -/
def State.deepServes (s : State) (c : Copy) : Bool := (s.deepParts c).all (fun x => s.memServes x.1 x.2.length)

/-- A copy is read back from its cells through a port of the memory, which then are free: the copy, and whether a read was refused or
uncorrectable (R334, R338). A copy that holds no cells has its data at hand. -/
def State.deepRead (s : State) (q : MReq) (c : Copy) : (Copy × Bool) × State :=
  if c.at_.isEmpty then ((c, false), s)
  else
    let r := (s.deepParts c).foldl (fun (r : (List Byte × Bool) × State) x =>
      if r.2.memAllowed q x.1 x.2.length false then
        let m := r.2.memRead x.1 x.2.length .clean
        ((r.1.1 ++ m.1.1, r.1.2 || m.1.2), m.2)
      else ((r.1.1 ++ x.2, true), r.2.memRefuse q x.1)) (([], false), s)
    (({ c with f := { c.f with bytes := r.1.1 }, at_ := [] }, r.1.2), r.2)

/-- Reaching SCH_DEEP_HIGH is raised (R221). -/
def State.deepHigh (s : State) (old : Nat) : State :=
  if old < s.rd (schB + 0x48) && s.rd (schB + 0x48) ≤ s.deepMib then s.raise schB Ev.schDeepHigh Src.device else s

/-- SPILLED of a queue follows its copies (R220). -/
def State.spillFlag (s : State) (p q : Nat) : State :=
  if (s.pq p q).copies.any (fun c => c.deep && !c.win) then s else s.setFld (schQ p q + 0x18) 31 31 0

/-! ### Flow control of admitted bytes (R123) -/

/-- MAC_FC_CFG and MAC_FC_THR of port p, the active copies. -/
def State.fcCfg (s : State) (p : Nat) : Nat := s.rdA (macPort p + 0x10)
/-- The key that a priority's bytes count under: one of 8, or 8 for all under 802.3x. -/
def State.fcKey (s : State) (p pri : Nat) : Nat := if bits (s.fcCfg p) 31 30 = 1 then 8 else pri
/-- Pause generation is on for the key. -/
def State.fcTx (s : State) (p k : Nat) : Bool :=
  let c := s.fcCfg p
  bit c 28 && s.linkIsUp p && (bits c 31 30 = 1 || (bits c 31 30 = 2 && bit c (16 + k)))
/-- Bytes held under a key. -/
def State.fcBytes (s : State) (p k : Nat) : Nat :=
  if k = 8 then ((s.mac p).fcb.map (·.2)).sum else mget (fun _ => 0) (s.mac p).fcb k
/-- One measurement of a running release calibration: capture minus start, in ps (R210). -/
def State.calSample (s : State) (p : Nat) (ts : Instant) : State :=
  let cal : Nat × Int := mget (fun _ => (16, 0)) s.dp.prf.cal p
  let d : Int := ((ts : Int) - (s.tb : Int)) * 1000 / 65536
  if s.flag (prfB + 0x104 + 0x10 * p) 30 && decide (0 < cal.1) then
    s.setPrf (fun f => { f with cal := mput (fun _ => (16, 0)) f.cal p (cal.1 - 1, cal.2 + d) })
  else s

/-- A pause frame starts, behind any that is still on the wire: it is counted, and is one of the frames that a release calibration
measures. -/
def State.pauseNow (s : State) (p k quanta : Nat) : State :=
  let s := (s.emit (.pause p (if k = 8 then 255 else 2 ^ k) quanta)).bump (macPort p + 0x200 + 8 * 15) 1
  let t := s.txCapture p
  let s := t.2.2.calSample p t.1
  s.setMac p (fun m => { m with busyTo := max m.busyTo s.mono + s.wireTime p 64 })
/-- Send a pause frame: after the frame in transmission, ahead of any other. -/
def State.sendPause (s : State) (p k quanta : Nat) : State :=
  if (s.mac p).cur.isSome then s.setMac p (fun m => { m with pauseQ := m.pauseQ ++ [(k, quanta)] }) else s.pauseNow p k quanta
/-- The frame in transmission has ended: the pause frames that waited for it go. -/
def State.pauseFlush (s : State) (p : Nat) : State :=
  let l := (s.mac p).pauseQ
  l.foldl (fun s x => s.pauseNow p x.1 x.2) (s.setMac p (fun m => { m with pauseQ := [] }))
/-- XOFF when the bytes pass XOFF_KIB, XON when they fall to XON_KIB. -/
def State.fcCheck (s : State) (p pri : Nat) : State :=
  let k := s.fcKey p pri
  let sent := decide (mget (fun _ => 0) (s.mac p).xoff k ≠ 0)
  let thr := s.rdA (macPort p + 0x14)
  if sent && decide (s.fcBytes p k ≤ bits thr 15 0 * 1024) then
    let s := s.setMac p (fun m => { m with xoff := mput (fun _ => 0) m.xoff k 0 })
    if s.fcTx p k then s.sendPause p k 0 else s
  else if !sent && s.fcTx p k && decide (bits thr 31 16 * 1024 < s.fcBytes p k) then
    (s.setMac p (fun m => { m with xoff := mput (fun _ => 0) m.xoff k (s.mono + 1) })).sendPause p k 0xFFFF
  else s

/-- Bytes of a copy are admitted against its ingress port and priority. -/
def State.fcAdmit (s : State) (c : Copy) : State :=
  match c.fc with
  | none => s
  | some (p, pri, n) =>
    (s.setMac p (fun m => { m with fcb := mput (fun _ => 0) m.fcb pri (mget (fun _ => 0) m.fcb pri + n) })).fcCheck p pri

/-- The same bytes are dequeued. -/
def State.fcRelease (s : State) (c : Copy) : State :=
  match c.fc with
  | none => s
  | some (p, pri, n) =>
    (s.setMac p (fun m => { m with fcb := mput (fun _ => 0) m.fcb pri (mget (fun _ => 0) m.fcb pri - n) })).fcCheck p pri

/-! ### Admission -/

/-- Queue q of port p discards a copy: its SCH_DROP_FLAGS bit, and SCH_QUEUE_DROP where that was 0 (R233). -/
def State.dropFlag (s : State) (p q : Nat) : State :=
  let a := schB + 0x100 + 4 * p
  if s.flag a q then s else (s.setFld a q q 1).raise schB Ev.schQueueDrop (Src.port p)

/-- A copy that a port queue refuses (R218): counted by colour, flagged. -/
def State.dropPort (s : State) (c : Copy) : State :=
  ((s.bump (schQCnt c.vport c.queue (3 + c.f.colour)) 1).dropFlag c.vport c.queue).loseCopy c

/-- A queue that holds nothing wakes at the tail of its port's active list (R224). -/
def State.wakeQ (s : State) (p q : Nat) : State :=
  let l := mget (fun _ => []) s.dp.sch.active p
  if l.contains q then s
  else (s.setSch (fun d => { d with active := mput (fun _ => []) d.active p (l ++ [q]) })).setPq p q
    (fun x => { x with deficit := 0 })

/-- The gates of port p as the last edge left them open queue q (R228). -/
def State.lastGate (s : State) (p q : Nat) : Bool :=
  !s.flag (schB + 0x100000 + 0x10000 * p) 31 || (mget (fun _ => {}) s.dp.sch.orb p : OrbSt).gates.testBit q

/-- Bring a queue's shaper credit up to now (R225). -/
def State.settleCredit (s : State) (p q : Nat) : State :=
  let x := s.pq p q
  let w := s.rd (schQ p q + 0x10)
  if s.mono < x.creditAt then s
  else if !bit w 31 then
    (if x.credit = 0 && x.creditAt = 0 && x.fresh.isNone then s
      else s.setPq p q (fun x => { x with credit := 0, creditAt := 0, fresh := none }))
  else
    let hi : Int := s.fld (schQ p q + 0x14) 23 0 * 8 * 65536000
    let up : Int := bits w 18 0 * (s.mono - x.creditAt)
    let c0 := match x.fresh with
      | none => x.credit
      | some full => if full then hi else 0
    let c := if !s.lastGate p q then c0
      else if !x.copies.isEmpty then min hi (c0 + up)
      else if c0 < 0 then min 0 (c0 + up) else c0
    s.setPq p q (fun x => { x with credit := c, creditAt := s.mono, fresh := none })

/-- Put a copy at the tail of its port queue. -/
def State.pushPort (s : State) (c : Copy) : State :=
  let p := c.vport
  let q := c.queue
  let s := s.settleCredit p q
  let s := if (s.pq p q).copies.isEmpty then (s.wakeQ p q).setPq p q (fun x => { x with fitAt := none }) else s
  let s := s.setPq p q (fun x => { x with copies := x.copies ++ [c] })
  (s.bump (schQCnt p q 0) 1).fcAdmit c

/-- A spilled copy no longer needs the pool's cells. -/
def State.spillCells (s : State) (id : Nat) : State :=
  match s.live id with
  | none => s
  | some l =>
    let l := { l with held := l.held - 1 }
    if l.held = 0 then (s.poolAdd l.cells).setLive id (some { l with cells := 0 }) else s.setLive id (some l)

/-- Admit a copy to its port queue: on chip, in the deep buffer, or not (R218, R220). -/
def State.admitPort (s : State) (c : Copy) : State :=
  let p := c.vport
  let a := schQ p c.queue
  let mx := s.rd (a + 8)
  let dp := s.rd (a + 0xC)
  let held := s.fld (a + 0x18) 17 0
  let spilled := s.flag (a + 0x18) 31
  let n := c.cells
  if !spilled && s.fitsChip held n (colourLimit mx c.f.colour (bits mx 17 0)) (s.fld (a + 4) 17 0) then
    (s.setFld (a + 0x18) 17 0 (held + n)).pushPort c
  else if spilled || bit dp 31 then
    let lim := colourLimit mx c.f.colour (bits dp 23 0 * 1024)
    if (s.pq p c.queue).deepBytes + c.f.len ≤ lim && s.deepRoom n then
      let old := s.deepMib
      let c := { c with deep := true, at_ := s.deepPick n }
      let s := ((s.setFld (a + 0x18) 31 31 1).deepWrite c).pushPort c
      ((s.spillCells c.f.id).bump (schQCnt p c.queue 6) 1).deepHigh old
    else s.dropPort c
  else s.dropPort c

/-- A copy refused by the admission rule of R14 or by its vport's share (R219). -/
def State.dropVport (s : State) (c : Copy) : State := (s.bump (schDrop c.vport) 1).loseCopy c

/-- Put a copy in the queue of a vport that is no port, its cells charged. -/
def State.pushVport (s : State) (c : Copy) : State :=
  ((s.setVcells c.vport (s.vcells c.vport + c.cells)).setVq c.vport c.queue (s.vq c.vport c.queue ++ [c])).fcAdmit c

/-- The share of a vport that is no port admits n more cells (R219). -/
def State.vportFits (s : State) (v n colour : Nat) : Bool :=
  let mx := s.rd (schBuf v + 4)
  s.fitsChip (s.vcells v) n (colourLimit mx colour (bits mx 17 0)) (s.fld (schBuf v) 17 0)

/-- LEVEL and PEAK of an input queue's register. -/
def State.iqLevel (s : State) (a n peakHi lvlHi : Nat) : State :=
  (s.setFld a lvlHi 0 n).setFld a peakHi 16 (max n (s.fld a peakHi 16))

/-- Address of TF_CNT_n of function f in the owner view. -/
def tfCnt (f n : Nat) : Nat := tfnB + 0x20000 + 0x100 * f + 8 * n

/-- A queue of a tenant function. -/
def State.tq_ (s : State) (f : Nat) (rx : Bool) (q : Nat) : Option TQueue := mget (fun _ => none) s.tfn.q (queueKey f rx q)
/-- Replace it. -/
def State.setTq (s : State) (f : Nat) (rx : Bool) (q : Nat) (x : Option TQueue) : State :=
  { s with tfn := { s.tfn with q := mput (fun _ => none) s.tfn.q (queueKey f rx q) x } }

/-- Admit a copy to a tenant receive queue (R219, R386, R389). -/
def State.admitTenant (s : State) (c : Copy) : State :=
  let f := c.vport - 16
  let known := match s.tq_ f true c.queue with
    | none => none
    | some x => if x.draining || decide (s.fld (tfnB + 0x10008 + 0x40 * f) 9 0 ≤ c.queue) then none else some x
  match known with
  | none => (s.bump (tfCnt f 6) 1).loseCopy c
  | some x =>
    if x.limit < ((s.vq c.vport c.queue).map (·.cells)).sum + c.cells then (s.bump (tfCnt f 4) 1).loseCopy c
    else if s.vportFits c.vport c.cells c.f.colour then
      s.pushVport { c with gen := s.fld (tfnB + 0x10004 + 0x40 * f) 23 16 }
    else (s.bump (tfCnt f 4) 1).dropVport c

/-- Admit a copy to a cluster's input queue (R219, R242). -/
def State.admitCluster (s : State) (c : Copy) : State :=
  let k := c.vport - 272
  let n := (s.vq c.vport c.queue).length
  if 4096 ≤ n then ((s.bump (engB k + 0x208) 1).raise (engB k) Ev.engIqDrop (Src.cluster k)).loseCopy c
  else if s.vportFits c.vport c.cells c.f.colour then
    ((s.pushVport c).iqLevel (engB k + 0x100 + 4 * c.queue) (n + 1) 28 12).bump (engB k + 0x200) 1
  else s.dropVport c

/-- Admit a copy to an MGC input queue (R219, R409). -/
def State.admitMgc (s : State) (c : Copy) : State :=
  let n := (s.vq c.vport c.queue).length
  if 1024 ≤ n then ((s.bump (bootB + 0x40300) 1).raise bootB Ev.mgcIqDrop Src.device).loseCopy c
  else if s.vportFits c.vport c.cells c.f.colour then
    (s.pushVport c).iqLevel (bootB + 0x40100 + 4 * c.queue) (n + 1) 26 10
  else s.dropVport c

/-- Enqueue one copy (R14, R201, R217–R220). `seq` tells that the sequencer emitted it. -/
def State.enqueue (s : State) (c : Copy) (seq : Bool) : State :=
  if !s.accepts c.vport then (if seq then s.bump (seqB + 0x118) 1 else s).dropVport c
  else if c.vport < 16 then s.admitPort c
  else if c.vport < 272 then s.admitTenant c
  else if c.vport < 284 then s.admitCluster c
  else s.admitMgc c

/-- A port copy for which no fan-out group was free is a missed release at replication: discarded, or queued to be sent as any other
(R211, R214). -/
def State.groupMiss (s : State) (c : Copy) (seq : Bool) : State :=
  let s := s.raise prfB Ev.prfMissed (Src.port c.vport)
  if c.f.missBit then (s.missRecord c.vport c).endCopy c.f.id true .dropped else s.enqueue c seq

/-! ### Replication (R222) -/

/-- A destination type's bit in TYPE_MASK: 3 port, 2 tenant, 1 cluster, 0 MGC (Table 07-9). -/
def typeBit (v : Nat) : Nat := if v < 16 then 3 else if v < 272 then 2 else if v < 284 then 1 else 0
/-- A queue that the destination type has (R165). -/
def queueOk (v q : Nat) : Bool :=
  if v < 16 then decide (q < 32) else if v < 272 then true else if v < 284 then decide (q < 16) else decide (q < 4)

/-- The walk over a replication list from entry e: the (vport, queue) pairs in order, and whether it was cut short. -/
def State.mcWalk (s : State) (src : Nat) : Nat → Nat → List (Nat × Nat) × Bool
  | 0, _ => ([], true)
  | n + 1, e =>
    let w := s.rd (schB + 0x80000 + 8 * e)
    if !bit w 31 then ([], true)
    else
      let v := bits w 28 20
      let here := if bit w 29 && v = src then [] else [(v, bits w 19 6)]
      if bit w 30 then (here, false)
      else
        let r := s.mcWalk src n (s.fld (schB + 0x80000 + 8 * e + 4) 14 0)
        (here ++ r.1, r.2)

/-- Address of MAT_CNT_n of pipeline pair n. -/
def matCnt (pair n : Nat) : Nat := matB pair + 0x100 + 8 * n

/-- What a copy of a frame holds against XOFF: a port frame's port, priority and bytes (R123). -/
def State.fcOf (s : State) (f : Frame) : Option (Nat × Nat × Nat) :=
  match f.src with
  | .port p =>
    let wire := (f.rx.map (·.wire)).getD f.bytes
    let t := beAt wire 12 2
    let pri := if t = 0x8100 || t = 0x88A8 then beAt wire 14 2 / 8192 else bits (s.fcCfg p) 10 8
    some (p, pri, f.len)
  | _ => none

/-- Queue a frame to its destination: one copy, or the copies of its group (R200, R217, R222). -/
def State.enqueueAll (s : State) (f : Frame) (d : Dest) (seq : Bool) : State :=
  let mk := fun (x : Nat × Nat) => ({ f := f, vport := x.1, queue := x.2, cells := cellsOf f.len, fc := s.fcOf f } : Copy)
  let put := fun (s : State) (l : List (Nat × Nat)) =>
    let r := s.formGroup f (l.map mk)
    let k := l.length
    let s := match r.2.live f.id with
      | none => r.2
      | some v => r.2.setLive f.id (some { v with f := f, copies := v.copies + k, held := v.held + k })
    let one := fun (s : State) (c : Copy) =>
      if !bit f.ce.toNat (40 + typeBit c.vport) then (s.bump (matCnt f.pipe 7) 1).loseCopy c
      else if !queueOk c.vport c.queue then (s.bump (matCnt f.pipe 6) 1).loseCopy c
      else if c.prf = 2 then s.groupMiss c seq
      else s.enqueue c seq
    (r.1.foldl one s).endCopy f.id true .dropped
  match d with
  | .one v q => put s [(v, q)]
  | .group g =>
    let w := s.rd (schB + 0x40000 + 4 * g)
    if !bit w 31 then (s.bump (matCnt f.pipe 5) 1).endCopy f.id true .dropped
    else
      let r := s.mcWalk f.src.vport 256 (bits w 14 0)
      put (if r.2 then s.bump (schB + 0x210) 1 else s) r.1

/-! ### The pool write and policing (R217, R226) -/

/-- A policer. -/
def State.pol (s : State) (n : Nat) : Pol := mget (fun _ => {}) s.dp.sch.pol n
/-- Write it. -/
def State.setPol (s : State) (n : Nat) (p : Pol) : State :=
  s.setSch (fun d => { d with pol := mput (fun _ => {}) d.pol n p })

/-- One byte of tokens: a rate of 1 (32 kb/s) fills 1 in each 2^-16 ns. -/
def polUnit : Nat := 16384000000
/-- Fields of a policer's words W0–W3. -/
def Pol.word (p : Pol) (n : Nat) : Nat := bits p.w.toNat (127 - 32 * n) (96 - 32 * n)
def Pol.mode1 (p : Pol) : Bool := bit (p.word 0) 31
def Pol.cbs (p : Pol) : Nat := bits (p.word 2) 23 0 * polUnit
def Pol.pbs (p : Pol) : Nat := bits (p.word 3) 23 0 * polUnit

/-- The buckets at elapsed time `now` (RFC 2698; RFC 2697, whose excess bucket takes what the other overflows). -/
def Pol.fill (p : Pol) (now : Nat) : Pol :=
  let dt := now - p.at_
  let c := p.tc + bits (p.word 0) 23 0 * dt
  let e := if p.mode1 then p.tp + (c - p.cbs) else p.tp + bits (p.word 1) 23 0 * dt
  { p with tc := min p.cbs c, tp := min p.pbs e, at_ := now }

/-- Meter n bytes of a frame of pre-colour `pre` (0 green): the colour, and the policer after it. -/
def Pol.meter (p : Pol) (n pre : Nat) : Nat × Pol :=
  let b := n * polUnit
  let pre := if bit (p.word 0) 30 then pre else 0
  let r := if p.mode1 then
      if pre = 0 && decide (b ≤ p.tc) then (0, { p with tc := p.tc - b })
      else if pre ≤ 1 && decide (b ≤ p.tp) then (1, { p with tp := p.tp - b })
      else (2, p)
    else if 2 ≤ pre || p.tp < b then (2, p)
    else if pre = 1 || p.tc < b then (1, { p with tp := p.tp - b })
    else (0, { p with tp := p.tp - b, tc := p.tc - b })
  match r.1 with
  | 1 => (1, { r.2 with yellow := satAdd top32 p.yellow 1 })
  | 2 => (2, { r.2 with red := satAdd top32 p.red 1 })
  | _ => r

/-- Police a frame at its pool write: the colour it goes on with, none when it is discarded red (R226). -/
def State.police (s : State) (f : Frame) : Option Frame × State :=
  if mdF f.md 4 13 13 = 0 then (some f, s)
  else
    let k := mdF f.md 4 12 0
    let p := (s.pol k).fill s.mono
    let r := p.meter (f.bytes.length + 4) f.colour
    let s := s.setPol k r.2
    if r.1 = 2 && bit (p.word 0) 28 then (none, s.bump (schB + 0x208) 1)
    else (some { f with col := some r.1 }, s)

/-- Write a frame into the pool (R217): none when it is discarded. -/
def State.poolWrite (s : State) (f : Frame) : Bool × State :=
  let n := cellsOf f.len
  let free := s.fld (schB + 0x50) 17 0
  if free < n then
    (false, ((s.bump (schB + 0x200) 1).raise schB Ev.schPoolEmpty Src.device).endCopy f.id true .dropped)
  else
    let s := s.setFld (schB + 0x50) 17 0 (free - n)
    (true, match s.live f.id with
      | none => s
      | some l => s.setLive f.id (some { l with f := f, cells := n }))

end Sys2Proof.Machine
end

