-- ==== Sys2Proof/Machine/EngOps.lean ====
section
/-! DEFINITION. Shared operations of the engine array: crumbs, threads, turns, events, channels and faults
(11_engine_array.md, 12_iluken_instruction_set.md, 14_replay.md R294–R299). -/
namespace Sys2Proof.Machine

/-! ### Capture (R296–R299) -/

/-- Address of word 0 of a cluster's RPL registers. -/
def rplC (c : Nat) : Nat := rplB + 0x1000 + 0x100 * c
/-- A cluster's capture. -/
def State.cap (s : State) (c : Nat) : CapSt := mget (fun _ => {}) s.rpl.cap c
/-- Update it. -/
def State.setCap (s : State) (c : Nat) (f : CapSt → CapSt) : State :=
  { s with rpl := { s.rpl with cap := mput (fun _ => {}) s.rpl.cap c (f (s.cap c)) } }
/-- RPL_CLU_CFG.DET. -/
def State.detCfg (s : State) (c : Nat) : Bool := s.flag (rplC c) 31
/-- The cluster is in deterministic mode (R294). -/
def State.det (s : State) (c : Nat) : Bool := s.detCfg c && decide (s.blkState (engB c) ≤ 1)
/-- A crumb with the common layout of Table 14-2. -/
def mkCrumb (kind thr aux ret rest : Nat) : Crumb :=
  BitVec.ofNat 256 (pk [(4, kind), (7, thr), (5, aux), (48, ret), (192, rest)])
/-- A crumb goes to the capture FIFO, or is lost and counted: while capture is frozen or RPL is not in RUN, and when the FIFO is
full (R298, R299, R305). -/
def State.pushCrumb (s : State) (c : Nat) (k : Crumb) : State :=
  let x := s.cap c
  if s.flag (rplC c + 0x14) 29 || !s.running rplB || decide (2048 ≤ x.fifo.length) then
    let g := match x.gap with
      | none => (1, s.now)
      | some g => (g.1 + 1, g.2)
    (s.setCap c (fun x => { x with gap := some g })).bump (rplC c + 0x48) 1
  else (s.setCap c (fun x => { x with fifo := x.fifo ++ [k] })).setFld (rplC c + 0x14) 11 0 (x.fifo.length + 1)
/-- Crumbs of a cluster in deterministic mode. -/
def State.crumbs (s : State) (c : Nat) (l : List Crumb) : State :=
  if s.det c then l.foldl (fun s k => s.pushCrumb c k) s else s
/-- An EPOCH crumb in every cluster of `cs` that is in deterministic mode (Tables 14-1, 14-3): the pair, WHAT, the engine and the
new epoch. -/
def State.epochCrumb (s : State) (cs : List Nat) (pair what engine epoch : Nat) : State :=
  cs.foldl (fun s c => s.crumbs c [mkCrumb 9 0 pair 0 (pk [(4, what), (4, engine), (4, epoch), (84, 0), (96, ts96 s.now)])]) s
/-- DATA crumbs that carry a byte string (Table 14-3). -/
def dataCrumbs (bs : List Byte) : List Crumb :=
  (List.range ((bs.length + 29) / 30)).map (fun i =>
    let p := (bs.drop (30 * i)).take 30
    BitVec.ofNat 256 (pk [(4, 6), (7, 0), (5, p.length - 1), (240, natBE (p ++ List.replicate (30 - p.length) 0))]))

/-! ### Threads, engines, clusters -/

/-- A thread by its device-wide number 128 × cluster + 8 × engine + thread. -/
def State.thr (s : State) (t : Nat) : Thr := mget (fun _ => {}) s.en.thr t
/-- Update it. -/
def State.setThr (s : State) (t : Nat) (f : Thr → Thr) : State :=
  { s with en := { s.en with thr := mput (fun _ => {}) s.en.thr t (f (s.thr t)) } }
/-- An engine by 16 × cluster + engine. -/
def State.eng (s : State) (e : Nat) : EngSt := mget (fun _ => {}) s.en.eng e
/-- Update it. -/
def State.setEng (s : State) (e : Nat) (f : EngSt → EngSt) : State :=
  { s with en := { s.en with eng := mput (fun _ => {}) s.en.eng e (f (s.eng e)) } }
/-- A cluster. -/
def State.clu (s : State) (c : Nat) : CluSt := mget (fun _ => {}) s.en.clu c
/-- Update it. -/
def State.setClu (s : State) (c : Nat) (f : CluSt → CluSt) : State :=
  { s with en := { s.en with clu := mput (fun _ => {}) s.en.clu c (f (s.clu c)) } }
/-- Cluster of a thread, its engine, and its number in the cluster. -/
def cluOf (t : Nat) : Nat := t / 128
def engOf (t : Nat) : Nat := t / 8
def inClu (t : Nat) : Nat := t % 128
/-- Threads of a cluster. -/
def thrsOf (c : Nat) : List Nat := (List.range 128).map (fun i => 128 * c + i)
/-- Address of a thread's register at offset o. -/
def thrA (t o : Nat) : Nat := engB (cluOf t) + 0x10100 + 0x1000 * (t / 8 % 16) + 0x100 * (t % 8) + o
/-- A cluster whose threads run: RUN, QUIESCING or REPLAY. -/
def State.cluRuns (s : State) (c : Nat) : Bool := [0, 1, 5].contains (s.blkState (engB c)) && s.unitHot c
/-- The cluster replays (Table 11-5). -/
def State.replays (s : State) (c : Nat) : Bool := s.blkState (engB c) = 5
/-- A checkpoint holds the cluster (R300). -/
def State.cluHeld (s : State) (c : Nat) : Bool := (s.cap c).busy.isSome && s.blkState (engB c) ≠ 2

/-- A register of a thread; g0 reads 0 (R255). -/
def State.gr (s : State) (t n : Nat) : DWord := mget (fun _ => 0) (s.thr t).g n
/-- Write a register; a write to g0 is discarded (R255). -/
def State.setGr (s : State) (t n : Nat) (v : DWord) : State :=
  if n = 0 then s else s.setThr t (fun x => { x with g := mput (fun _ => 0) x.g n v })

/-- A thread enters a state. -/
def State.thrTo (s : State) (t st : Nat) : State := s.setThr t (fun x => { x with state := st, since := s.mono })

/-! ### Turns (R237, R238) -/

/-- The thread of slot entry j of an engine, within the engine. -/
def State.slotEntry (s : State) (e j : Nat) : Nat :=
  s.fldA (engB (e / 16) + 0x10000 + 0x1000 * (e % 16) + 4 * (j / 8)) (4 * (j % 8) + 2) (4 * (j % 8))

/-- Entry and thread that a turn chooses: the first entry from the one after the last whose thread is READY, or is the one
whose quantum expired. -/
def State.turnPick (s : State) (e : Nat) (again : Option Nat) : Option (Nat × Nat) :=
  ((List.range 16).map (fun i => ((s.eng e).last + 1 + i) % 16)).findSome? (fun j =>
    let t := 8 * e + s.slotEntry e j
    if (s.thr t).state = 1 || again = some t then some (j, t) else none)

/-- The TURN crumb (Table 14-3). `prev` is the leaving thread. -/
def State.turnCrumb (s : State) (j t cause : Nat) (prev : Option Nat) : Crumb :=
  let p := prev.getD 0
  mkCrumb 2 (inClu t) (2 * j + b2n prev.isSome) (s.thr t).retired
    (pk [(3, p % 8), (3, cause), (48, (s.thr p).retired), (138, 0)])

/-- One turn of an engine, made at a leaving point of thread `prev` with CAUSE, or by an idle engine. A thread whose quantum expired
is READY where another one, or none, is chosen. A replaying cluster turns only at TURN crumbs (R303). -/
def State.turn (s : State) (e cause : Nat) (prev : Option Nat) : State :=
  let c := e / 16
  if s.replays c then s.setEng e (fun x => { x with run := none })
  else
    let expire : State → Option Nat → State := fun s t => match prev with
      | some p => if cause = 5 && some p ≠ t then s.thrTo p 1 else s
      | none => s
    match s.turnPick e (if cause = 5 then prev else none) with
    | none => (expire s none).setEng e (fun x => { x with run := none })
    | some (j, t) =>
      let s := expire (s.crumbs c [s.turnCrumb j t cause prev]) (some t)
      let s := if (s.thr t).state = 2 then s else s.thrTo t 2
      s.setEng e (fun x => { x with last := j, run := some t, quant := s.mono, qlen := s.fld (engB c + 0x40) 15 0 })

/-- An engine without a RUNNING thread makes a turn when one is READY. -/
def State.kick (s : State) (e : Nat) : State :=
  if (s.eng e).run.isNone && s.cluRuns (e / 16) && !s.replays (e / 16) then s.turn e 6 none else s

/-- The running thread leaves its engine for a state. -/
def State.leave (s : State) (t st cause : Nat) : State :=
  let s := s.thrTo t st
  if (s.eng (engOf t)).run = some t then s.turn (engOf t) cause (some t) else s

/-- DBG registers of a cluster. -/
def dbgC (c : Nat) : Nat := dbgB + 0x1000 + 0x40 * c

/-- An instruction of a stepped thread is complete (R448): it halts again, and STEPPED sets. -/
def State.stepEnd (s : State) (t : Nat) : State :=
  if !(s.thr t).step then s
  else
    let s := (s.setThr t (fun x => { x with step := false, under := 1 })).setFld (dbgB + 0x204) 30 30 1
    s.leave t 5 3

/-- A thread that waited becomes READY, or stays HALTED with its wait over (R237, R247). -/
def State.wakeThr (s : State) (t : Nat) : State :=
  if (s.thr t).state = 5 then s.setThr t (fun x => { x with under := 1, stall := 0 })
  else if (s.thr t).step then ((s.setThr t (fun x => { x with stall := 0 })).thrTo t 1).stepEnd t
  else ((s.setThr t (fun x => { x with stall := 0 })).thrTo t 1).kick (engOf t)

/-- The next instruction's address and the retired count after an instruction. -/
def State.retire (s : State) (t pc : Nat) : State :=
  s.setThr t (fun x => { x with pc := pc % 2 ^ 64, retired := (x.retired + 1) % 2 ^ 64, bpPass := none })

/-- A thread fault (R274, Table 12-7). -/
def State.thrFault (s : State) (t code addr op : Nat) : State :=
  let s := s.wr (thrA t 0x20) (code * 2 ^ 24 + op)
  let s := s.setCnt (thrA t 0x28) (addr % 2 ^ 64)
  let s := s.setThr t (fun x => { x with stall := 0, step := false })
  let s := (s.bump (engB (cluOf t) + 0x230) 1).raise (engB (cluOf t)) Ev.engFault (Src.thread t)
  s.leave t 6 4

/-! ### Data memory (R258) -/

/-- A byte of a cluster's data memory. -/
def State.dByte (s : State) (c a : Nat) : Byte := mget (fun _ => 0) (s.clu c).dmem a
/-- `n` bytes from address `a`. -/
def State.dGet (s : State) (c a n : Nat) : List Byte := (List.range n).map (fun i => s.dByte c (a + i))
/-- Store bytes. -/
def State.dPut (s : State) (c a : Nat) (bs : List Byte) : State :=
  s.setClu c (fun x => { x with dmem := bs.zipIdx.foldl (fun m b => mput (fun _ => 0) m (a + b.2) b.1) x.dmem })
/-- Size of data memory. -/
def dmemTop : Nat := 0x100000
/-- The bytes lie in data memory. -/
def inDmem (a n : Nat) : Bool := decide (a + n ≤ dmemTop)

/-! ### Event inputs (R239–R241) -/

/-- KIND and ARG of an input. -/
def State.bindKind (s : State) (t i : Nat) : Nat := s.fld (thrA t (0x80 + 4 * i)) 31 29
def State.bindArg (s : State) (t i : Nat) : Nat := s.fld (thrA t (0x80 + 4 * i)) 9 0
/-- Count of a signal input. -/
def State.sigCount (s : State) (t i : Nat) : Nat := mget (fun _ => 0) (s.thr t).sig i
/-- Set it. -/
def State.setSig (s : State) (t i n : Nat) : State := s.setThr t (fun x => { x with sig := mput (fun _ => 0) x.sig i n })

/-- Address of a channel's registers, in the instance of C0. -/
def chnA (n : Nat) : Nat := engB 0 + 0x90000 + 0x20 * n
/-- A channel. -/
def State.chan (s : State) (n : Nat) : ChanSt := mget (fun _ => {}) s.en.chan n
/-- Update it. -/
def State.setChan (s : State) (n : Nat) (f : ChanSt → ChanSt) : State :=
  { s with en := { s.en with chan := mput (fun _ => {}) s.en.chan n (f (s.chan n)) } }
/-- EN of a channel. -/
def State.chanEn (s : State) (n : Nat) : Bool := s.flag (chnA n) 31
/-- Its slots. -/
def State.chanDepth (s : State) (n : Nat) : Nat := 2 ^ s.fld (chnA n) 27 24
/-- Bytes of one. -/
def State.slotBytes (s : State) (n : Nat) : Nat := 8 * 2 ^ s.fld (chnA n) 29 28
/-- A slot is free. -/
def State.chanRoom (s : State) (n : Nat) : Bool := decide ((s.chan n).slots.length < s.chanDepth n)
/-- The next slot can be delivered. -/
def State.chanReadable (s : State) (n : Nat) : Bool :=
  match (s.chan n).slots with
  | [] => false
  | x :: _ => x.st ≠ 0

/-- The timer of a thread is pending. -/
def State.timerDue (s : State) (t : Nat) : Bool :=
  (s.thr t).fired || (match (s.thr t).timer with
    | none => false
    | some x => decide (x ≤ s.tb))

/-- Whether input i of a thread is pending (Table 11-4). -/
def State.evPending (s : State) (t i : Nat) : Bool :=
  match s.bindKind t i with
  | 0 => decide (0 < s.sigCount t i)
  | 1 => !(s.vq (272 + cluOf t) (s.bindArg t i % 16)).isEmpty
  | 2 => s.chanReadable (s.bindArg t i)
  | 3 => s.chanEn (s.bindArg t i) && s.chanRoom (s.bindArg t i)
  | 4 => s.timerDue t
  | _ => false

/-- The lowest-numbered pending input of a mask. -/
def State.evPick (s : State) (t mask : Nat) : Option Nat := (List.range 32).find? (fun i => mask.testBit i && s.evPending t i)

/-- A wait takes an input (Table 11-4). -/
def State.evTake (s : State) (t i : Nat) : State :=
  let s := s.setThr t (fun x => { x with event := i })
  match s.bindKind t i with
  | 0 => s.setSig t i (s.sigCount t i - 1)
  | 4 => s.setThr t (fun x => { x with timer := none, fired := false })
  | _ => s

/-- One signal to an input of a thread (R240). `src` is the thread it comes from, none from outside every cluster. A signal that
reaches a scope from outside restarts the scope's window (R249). -/
def State.signalTo (s : State) (t i : Nat) (src : Option Nat) : State :=
  let c := cluOf t
  let s := if src.map cluOf = some c then s else s.setClu c (fun x => { x with sigAt := s.mono })
  let outside := match src with
    | none => true
    | some x => s.blkState (engB (cluOf x)) ≠ 0
  let s := if outside && s.running (engB c) then { s with en := { s.en with sigAt := s.mono } } else s
  if s.bindKind t i ≠ 0 || decide (255 ≤ s.sigCount t i) then
    (s.bump (engB c + 0x218) 1).raise (engB c) Ev.engEvtOverflow (Src.thread t)
  else s.setSig t i (s.sigCount t i + 1)

/-! ### Channels (R243–R248) -/

/-- CHN_STAT1 follows the slots. -/
def State.chanLevel (s : State) (n : Nat) : State :=
  let l := (s.chan n).slots
  let a := chnA n + 0xC
  let hold := match l.find? (fun x => x.st = 0) with
    | none => false
    | some x => x.held
  (s.setFld a 12 0 l.length).setFld a 31 31 (b2n hold)

/-- Byte of the channel memory where a slot begins. -/
def State.slotAt (s : State) (n idx : Nat) : Nat :=
  s.fld (chnA n) 13 0 * 64 + idx % s.chanDepth n * s.slotBytes n
/-- Bytes of the channel memory. -/
def State.chGet (s : State) (a n : Nat) : List Byte := (List.range n).map (fun i => mget (fun _ => 0) s.en.chmem (a + i))
/-- Store them. -/
def State.chPut (s : State) (a : Nat) (bs : List Byte) : State :=
  { s with en := { s.en with chmem := bs.zipIdx.foldl (fun m b => mput (fun _ => 0) m (a + b.2) b.1) s.en.chmem } }

/-- A slot reference (R264). -/
def slotRef (n idx : Nat) : Nat := n * 2 ^ 32 + idx * 2 ^ 16

/-- Reserve the next slot for a thread. -/
def State.chanGrant (s : State) (n t : Nat) : Nat × State :=
  let a := chnA n + 8
  let i := s.fld a 31 16
  let s := s.setFld a 31 16 (i + 1)
  let s := s.setChan n (fun x => { x with slots := x.slots ++ [⟨i, t, s.mono, 0, false⟩], resWait := x.resWait.filter (· ≠ t) })
  let s := s.setThr t (fun x => { x with res := x.res ++ [(n, i)] })
  (slotRef n i, s.chanLevel n)

/-- Void the reservations that `sel` selects on a channel; their threads no longer hold them when `free`. -/
def State.chanVoid (s : State) (n : Nat) (sel : Slot → Bool) : State :=
  let hit := (s.chan n).slots.filter (fun x => x.st = 0 && sel x)
  let s := s.setChan n (fun x => { x with slots := x.slots.map (fun y => if y.st = 0 && sel y then { y with st := 2 } else y) })
  (s.bump32 (chnA n + 0x18) hit.length).chanLevel n

/-- The threads of a cluster no longer wait to reserve or to read. -/
def State.unwait (s : State) (c : Nat) : State :=
  let stay := fun (l : List Nat) => l.filter (fun t => cluOf t ≠ c)
  s.en.chan.foldl (fun s n => s.setChan n.1 (fun x => { x with resWait := stay x.resWait, rdWait := stay x.rdWait })) s

/-- The open reservations of a cluster's threads are voided (R248), and its threads wait on no channel. -/
def State.voidCluster (s : State) (c : Nat) : State :=
  (thrsOf c).foldl (fun s t =>
    let l := (s.thr t).res
    let n := (l.filter (fun r => (s.chan r.1).slots.any (fun x => x.idx = r.2 && x.t = t && x.st = 0))).length
    let s := l.foldl (fun s r => s.chanVoid r.1 (fun x => x.idx = r.2 && x.t = t)) s
    (s.bump (engB c + 0x228) n).setThr t (fun x => { x with res := [] })) (s.unwait c)

/-! ### Handles (R261) -/

/-- The frame that a handle names. -/
def State.handle (s : State) (c h : Nat) : Option Copy := mget (fun _ => none) (s.clu c).handles h
/-- Set it. -/
def State.setHandle (s : State) (c h : Nat) (x : Option Copy) : State :=
  s.setClu c (fun y => { y with handles := mput (fun _ => none) y.handles h x })
/-- Number of handles. -/
def State.handles (s : State) (c : Nat) : Nat := (s.clu c).handles.length
/-- A new handle: any 32-bit number that the cluster does not hold. -/
def State.newHandle (s : State) (c : Nat) (x : Copy) : Nat × State :=
  let d := s.draw
  let h := ((List.range 8193).map (fun i => (Config.anyNat d.1 + i) % 2 ^ 32)).find? (fun h => (s.handle c h).isNone)
  (h.getD 0, d.2.setHandle c (h.getD 0) (some x))

/-- The cells of a frame that engine firmware releases or emits are freed (R219, R242). -/
def State.releaseCopy (s : State) (c : Nat) (x : Copy) (fate : Fate) : State :=
  ((s.fcRelease x).setVcells (272 + c) (s.vcells (272 + c) - x.cells)).endCopy x.f.id true fate

/-- All handles of a cluster are freed, their frames counted in ENG_CNT_2 (R274). -/
def State.freeHandles (s : State) (c : Nat) : State :=
  let l := (s.clu c).handles.filterMap (·.2)
  let s := l.foldl (fun s x => s.releaseCopy c x .delivered) s
  (s.setClu c (fun x => { x with handles := [] })).bump (engB c + 0x210) l.length

/-- The input queues of a cluster are flushed, counted in ENG_CNT_2 (Table 11-5). -/
def State.flushIq (s : State) (c : Nat) : State :=
  (List.range 16).foldl (fun s q =>
    let l := s.vq (272 + c) q
    let s := l.foldl (fun s x => s.releaseCopy c x .dropped) s
    ((s.setVq (272 + c) q []).setFld (engB c + 0x100 + 4 * q) 12 0 0).bump (engB c + 0x210) l.length) s

end Sys2Proof.Machine
end

