-- ==== Sys2Proof/Machine/SecOps.lean ====
section
/-! DEFINITION. Key slots as the MACs read them, and MACsec on a port (05_network_ports.md R118–R121,
15_cipher_complex.md R320). -/
namespace Sys2Proof.Machine

/-- Address of KEY_ATTR of slot k and of KEY_CTR. -/
def keyAttr (k : Nat) : Nat := cipB + 0x10000 + 4 * k
def keyCtr (k : Nat) : Nat := cipB + 0x20000 + 8 * k
/-- The material of slot k, 64 bytes. -/
def State.keyMat (s : State) (k : Nat) : List Byte := bytesBE 64 (mget (fun _ => 0#512) s.cip.mat k).toNat

/-- Key of an SA or SC entry: KIND, DIR, SC, AN of MAC_SA_SEL. -/
def saKey (kind dir sc an : Nat) : Nat := ((kind * 2 + dir) * 8 + sc) * 4 + an
/-- An entry of port p, W0 in the most significant word. -/
def State.sa (s : State) (p k : Nat) : Nat := (mget (fun _ => 0#192) (s.mac p).sas k).toNat
/-- Replace it. -/
def State.setSa (s : State) (p k v : Nat) : State :=
  s.setMac p (fun m => { m with sas := mput (fun _ => 0#192) m.sas k (BitVec.ofNat 192 v) })
/-- VALID, SSCI, PN and SCI of an entry. -/
def saValid (e : Nat) : Bool := bit e 191
def saSsci (e : Nat) : Nat := bits e 159 128
def saPn (e : Nat) : Nat := bits e 95 64 * 2 ^ 32 + bits e 127 96
def saSci (e : Nat) : Nat := bits e 31 0 * 2 ^ 32 + bits e 63 32
/-- The entry with another PN. -/
def saSetPn (e pn : Nat) : Nat := putBits (putBits e 127 96 (bits pn 31 0)) 95 64 (bits pn 63 32)

/-- MAC_SEC_CFG of port p, the active copy. -/
def State.secCfg (s : State) (p : Nat) : Nat := s.rdA (macPort p + 0x40)

/-- SAK and salt of an entry's key slot, when the slot serves the port (R320). -/
def State.sak (s : State) (p e : Nat) : Option (List Byte × List Byte) :=
  let k := bits e 173 160
  let a := s.rd (keyAttr k)
  let xpn256 := bit (s.secCfg p) 29
  if !bit a 31 || bits a 23 22 ≠ 1 || bits a 30 28 ≠ (if xpn256 then 2 else 1) then none
  else
    let m := s.keyMat k
    some (if xpn256 then (m.take 32, slice m 32 12) else (m.take 16, slice m 16 12))

/-- The XPN nonce: the salt XOR SSCI ‖ PN (IEEE 802.1AE). -/
def xpnNonce (salt : List Byte) (ssci pn : Nat) : List Byte := xorB salt (bytesBE 4 ssci ++ bytesBE 8 pn)

/-- The 64-bit PN of a received SecTAG's 32 bits, near LOWEST_PN (IEEE 802.1AE). -/
def recoverPn (low32 lowest : Nat) : Nat :=
  let hi := lowest / 2 ^ 32
  if bit lowest 31 && !bit low32 31 then (hi + 1) * 2 ^ 32 + low32 else hi * 2 ^ 32 + low32

/-- What MACsec does with a received frame: deliver these bytes (and whether unverified), or discard; with the
statistics counter that counts it, if any (Table 05-5). -/
structure SecRx where
  deliver : Option (List Byte × Bool)
  stat : Option Nat := none

/-- A parsed SecTAG: SCI, AN, E and C bits, the 32 PN bits, header length, secure data length. -/
structure SecTag where
  sci : Option Nat
  an : Nat
  e : Bool
  c : Bool
  pn : Nat
  hdr : Nat
  data : Nat

/-- The SecTAG at byte 14 of a frame, none when it is malformed. The SCI is explicit, or under ES the source address with
port identifier 1 (R118). -/
def secTag (bs : List Byte) : Option SecTag :=
  let tci := beAt bs 14 1
  let sl := beAt bs 15 1 % 64
  let sc := bit tci 5
  let hdr := if sc then 28 else 20
  let data := if sl ≠ 0 then sl else bs.length - hdr - 16
  if bit tci 7 || bs.length < hdr + data + 16 || 48 ≤ sl then none
  else some ⟨if sc then some (beAt bs 20 8) else if bit tci 6 then some (beAt bs 6 6 * 65536 + 1) else none,
    tci % 4, bit tci 3, bit tci 2, beAt bs 16 4, hdr, data⟩

/-- The receive SC with an SCI, and its SA with an AN: the SA's key and entry. -/
def State.rxSa (s : State) (p : Nat) (t : SecTag) : Option (Nat × Nat) :=
  match t.sci with
  | none => none
  | some sci =>
    match (List.range 8).find? (fun c => saValid (s.sa p (saKey 1 0 c 0)) && saSci (s.sa p (saKey 1 0 c 0)) = sci) with
    | none => none
    | some c =>
      let k := saKey 0 0 c t.an
      if saValid (s.sa p k) then some (k, s.sa p k) else none

/-- Open a protected frame: the plain frame when its ICV holds. -/
def secOpen (bs : List Byte) (t : SecTag) (key iv : List Byte) : Option (List Byte) :=
  let data := slice bs t.hdr t.data
  let icv := slice bs (t.hdr + t.data) 16
  let aad := if t.e then bs.take t.hdr else bs.take (t.hdr + t.data)
  let ct := if t.e then data else []
  if gcmTag key iv aad ct = icv then some (bs.take 12 ++ (if t.e then gcmXor key iv data else data)) else none

/-- MACsec validation of a received frame (R119, Table 05-5). -/
def State.secRx (s : State) (p : Nat) (bs : List Byte) : SecRx × State :=
  let cfg := s.secCfg p
  let v := bits cfg 27 26
  let et := beAt bs 12 2
  let strict := decide (v = 2)
  let soft := fun (t : Option SecTag) n =>
    let enc := match t with
      | none => false
      | some t => t.c || t.e
    SecRx.mk (if strict || enc then none else some (bs, true)) (some n)
  if !bit cfg 31 || v = 0 || et = 0x888E then (⟨some (bs, false), none⟩, s)
  else if et ≠ 0x88E5 then (⟨if strict then none else some (bs, false), some 9⟩, s)
  else match secTag bs with
    | none => (⟨none, some 8⟩, s)
    | some t =>
      match s.rxSa p t with
      | none => (soft (some t) 11, s)
      | some (k, e) =>
        match s.sak p e with
        | none => (soft (some t) 11, s)
        | some (key, salt) =>
          let pn := recoverPn t.pn (saPn e)
          match secOpen bs t key (xpnNonce salt (saSsci e) pn) with
          | none => (soft (some t) 8, s)
          | some plain =>
            let w := s.rdA (macPort p + 0x44)
            if bit w 31 && decide (pn < saPn e) then (⟨none, some 10⟩, s)
            else (⟨some (plain, false), none⟩, s.setSa p k (saSetPn e (max (saPn e) (pn + 1 - bits w 29 0))))

/-- Seal a frame with the SecTAG that always carries the SCI (R118). -/
def secSeal (bs : List Byte) (an : Nat) (enc : Bool) (sci pn : Nat) (key iv : List Byte) : List Byte :=
  let data := bs.drop 12
  let sl := if data.length < 48 then data.length else 0
  let tag := bytesBE 2 0x88E5 ++ bytesBE 1 (0x20 + (if enc then 0x0C else 0) + an) ++ bytesBE 1 sl
    ++ bytesBE 4 pn ++ bytesBE 8 sci
  let hdr := bs.take 12 ++ tag
  let body := if enc then gcmXor key iv data else data
  hdr ++ body ++ (if enc then gcmTag key iv hdr body else gcmTag key iv (hdr ++ data) [])

/-- Whether a transmitted frame is to be protected (R119, R120). -/
def State.secWants (s : State) (p : Nat) (f : Frame) : Bool :=
  bit (s.secCfg p) 30 && decide (beAt f.bytes 12 2 ≠ 0x888E) && mdF f.md 3 7 7 = 0

/-- Protection of a frame sent on port p (R120): none when it is dropped. -/
def State.secTx (s : State) (p : Nat) (bs : List Byte) : Option (List Byte) × State :=
  let cfg := s.secCfg p
  let k := saKey 0 1 0 (bits cfg 25 24)
  let e := s.sa p k
  let m := s.mac p
  match (if saValid e && !m.spent.contains k then s.sak p e else none) with
  | none =>
    let s := if m.exhausted.contains k then s
      else (s.setMac p (fun m => { m with exhausted := k :: m.exhausted })).raise (macB (p / 4)) Ev.macsecPnExhausted (Src.port p)
    (none, s.bump (macPort p + 0x200 + 8 * 19) 1)
  | some (key, salt) =>
    let pn := saPn e
    let sci := s.rdA (macPort p + 0x48) + s.rdA (macPort p + 0x4C) * 2 ^ 32
    let out := secSeal bs (bits cfg 25 24) (bit cfg 28) sci pn key (xpnNonce salt (saSsci e) pn)
    let s := s.setSa p k (saSetPn e ((pn + 1) % 2 ^ 64))
    let s := if pn + 1 = 2 ^ 64 then s.setMac p (fun m => { m with spent := k :: m.spent }) else s
    let s := if !m.thresh.contains k && decide (2 ^ 64 - (pn + 1) ≤ 2 ^ bits cfg 21 16) then
        (s.setMac p (fun m => { m with thresh := k :: m.thresh })).raise (macB (p / 4)) Ev.macsecPnThresh (Src.port p)
      else s
    (some out, s)

end Sys2Proof.Machine
end

