-- ==== Sys2Proof/Machine/CipOps.lean ====
section
/-! DEFINITION. Shared operations of the cipher complex and the key store (15_cipher_complex.md R309–R324). -/
namespace Sys2Proof.Machine

/-! ### Key slots (R320, R321) -/

/-- Addresses of a slot's attributes and nonce counter, and of a core. -/
def cipCore (k : Nat) : Nat := cipB + 0x80 + 4 * k
/-- A slot's material. -/
def State.keyWord (s : State) (k : Nat) : BitVec 512 := mget (fun _ => 0) s.cip.mat k
/-- Set it. -/
def State.setMat (s : State) (k : Nat) (v : BitVec 512) : State :=
  s.setCip (fun x => { x with mat := mput (fun _ => 0) x.mat k v })
/-- The 64 bytes of material. -/
def matBytes (m : BitVec 512) : List Byte := bytesBE 64 m.toNat
/-- VALID of a slot. -/
def State.keyValid (s : State) (k : Nat) : Bool := s.flag (keyAttr k) 31
/-- Fields of Table 15-7. -/
def attrAlg (a : Nat) : Nat := bits a 30 28
def attrNonce (a : Nat) : Nat := bits a 27 26
def attrProt (a : Nat) : Nat := bits a 25 24
def attrUse (a : Nat) : Nat := bits a 23 22
def attrOwner (a : Nat) : Nat := bits a 17 9
/-- Bits of KEY_ATTR that a write sets: not EXHAUSTED, not the reserved ones. -/
def attrMask (v : Nat) : Nat := putBits (putBits (putBits v 20 20 0) 19 18 0) 8 0 0

/-- Zeroizing ends here for ordinary writes: discarded and counted while it runs (R323). -/
def State.zeroizing (s : State) : Bool := s.flag (cipB + 0x200) 29

/-- Open a slot: material and counter zero, not exhausted (R321). -/
def State.keyOpen (s : State) (k v : Nat) : State :=
  ((s.setMat k 0).setCnt (keyCtr k) 0).wr (keyAttr k) (putBits (attrMask v) 31 31 0)

/-- An attribute value with a reserved encoding (Table 15-7). -/
def attrReserved (v : Nat) : Bool := attrAlg v = 7 || attrNonce v = 3 || attrProt v = 3 || attrUse v = 3

/-- First byte of material that must be zero, by ALG (Table 15-8). -/
def matUsed (alg : Nat) : Nat := match alg with
  | 1 => 28
  | 2 => 44
  | 3 => 44
  | 4 => 64
  | 5 => 16
  | 6 => 32
  | _ => 0

/-- NONCE and USE that an ALG allows (R320, R324, Table 15-7). -/
def attrFits (v : Nat) : Bool :=
  let alg := attrAlg v
  let n := attrNonce v
  match attrUse v with
  | 0 => if 1 ≤ alg && alg ≤ 3 then decide (n ≤ 1) else decide (4 ≤ alg) && decide (alg ≤ 6) && n = 2
  | 1 => (alg = 1 || alg = 2) && n = 2
  | 2 => alg = 2 && n = 0
  | _ => false

/-- The check of a VALID write (R321): 0 when it passes, else KEY_LAST.ERR. -/
def keyCheck (v : Nat) (m : BitVec 512) : Nat :=
  let b := matBytes m
  if (b.drop (matUsed (attrAlg v))).any (· ≠ 0) then 1
  else if attrAlg v = 4 && b.take 32 = b.drop 32 then 2
  else if !attrFits v then 3
  else 0

/-- The KCV of 64 bytes of material (R321). -/
def keyKcv (m : BitVec 512) : Nat := sha256 ([0x4B, 0x43, 0x56] ++ matBytes m) / 2 ^ 232

/-- A VALID write to an open slot (R321). -/
def State.keyValidate (s : State) (q : Req) (k v : Nat) : State :=
  let e := keyCheck v (s.keyWord k)
  if e = 0 then
    let s := s.wr (keyAttr k) (attrMask v)
    (s.setLat q (cipB + 0x204) (2 ^ 31 + k)).setLat q (cipB + 0x208) (keyKcv (s.keyWord k))
  else
    let s := s.wr (keyAttr k) (putBits (attrMask v) 31 31 0)
    let s := (s.setLat q (cipB + 0x204) (2 ^ 31 + 2 ^ 30 + e * 2 ^ 16 + k)).setLat q (cipB + 0x208) 0
    s.raise cipB Ev.keyLoadFail (Src.key k)

/-- A write of KEY_ATTR_s (R321, R323). -/
def State.attrWrite (s : State) (q : Req) (k v : Nat) : State :=
  if s.zeroizing || attrReserved v || (s.keyValid k && bit v 31) then s.reject cipB (keyAttr k - cipB)
  else if bit v 31 then s.keyValidate q k v
  else s.keyOpen k v

/-- A write of one material word (R320, R321, R323). -/
def State.matWrite (s : State) (k w v : Nat) : State :=
  if s.zeroizing || s.keyValid k then s.reject cipB (64 * k + 4 * w)
  else s.setMat k (BitVec.ofNat 512 (putBits (s.keyWord k).toNat (511 - 32 * w) (480 - 32 * w) v))

/-- The next nonce counter of a slot, which moves on (R314): none when the slot is exhausted. -/
def State.takeNonce (s : State) (k : Nat) : Option (Nat × State) :=
  if s.flag (keyAttr k) 20 then none
  else
    let c := s.cnt (keyCtr k)
    let warn := 2 ^ 64 - 2 ^ s.fld (cipB + 0x48) 5 0
    let s := s.setCnt (keyCtr k) ((c + 1) % 2 ^ 64)
    let s := if c = top64 then s.setFld (keyAttr k) 20 20 1 else s
    some (c, if c ≤ warn && warn < c + 1 then s.raise cipB Ev.cipNonceLow (Src.key k) else s)

/-- The 96-bit nonce (R314). -/
def nonceOf (attr : Nat) (m : BitVec 512) (ctr : Nat) : List Byte :=
  let b := matBytes m
  let iv := slice b (if attrAlg attr = 1 then 16 else 32) 12
  if attrNonce attr = 1 then iv.take 4 ++ bytesBE 8 ctr else xorB iv (List.replicate 4 0 ++ bytesBE 8 ctr)

/-! ### Submissions (R310, R311) -/

def subOp (b : List Byte) : Nat := leAt b 0 1
def subClass (b : List Byte) : Nat := leAt b 1 1 % 4
def subProt (b : List Byte) : Nat := leAt b 1 1 / 4 % 4
def subSlot (b : List Byte) : Nat := leAt b 2 2
def subOwner (b : List Byte) : Nat := leAt b 4 2
def subAadLen (b : List Byte) : Nat := leAt b 6 2
def subLen (b : List Byte) : Nat := leAt b 8 4
def subSrc (b : List Byte) : Nat := leAt b 16 8
def subDst (b : List Byte) : Nat := leAt b 24 8
def subAad (b : List Byte) : Nat := leAt b 32 8
def subCtr (b : List Byte) : Nat := leAt b 40 8
def subTag (b : List Byte) : List Byte := slice b 48 16
/-- AEAD, XTS, and the operations that take a digest or MAC. -/
def isAead (op : Nat) : Bool := op = 1 || op = 2
def isXts (op : Nat) : Bool := op = 3 || op = 4
def isHash (op : Nat) : Bool := decide (5 ≤ op) && decide (op ≤ 8)
/-- Output bytes at DST. -/
def dstLen (op len : Nat) : Nat := if op = 5 then 32 else if op = 6 then 48 else if isHash op then 0 else len

/-- A buffer reference: SPACE, handle, offset or address; none where other bits are set (R311). -/
def bufRef (r : Nat) : Option (Nat × Nat × Nat) :=
  match bits r 63 60 with
  | 0 => if bits r 59 20 = 0 then some (0, 0, bits r 19 0) else none
  | 1 => if bits r 59 48 = 0 then some (1, bits r 47 16, bits r 15 0) else none
  | 2 => if bits r 59 48 = 0 then some (2, 0, bits r 47 0) else none
  | 15 => if bits r 59 0 = 0 then some (15, 0, 0) else none
  | _ => none

/-- The check of a buffer of `n` bytes of a cluster: 0 accepted, 3 BAD_SUB, 9 REGION. `want` tells that it must be a buffer. -/
def State.bufCheck (s : State) (c r n : Nat) (write want : Bool) : Nat :=
  match bufRef r with
  | none => 3
  | some (sp, h, o) =>
    if sp = 15 then (if want then 3 else 0)
    else if !want then 3
    else if sp = 0 then (if inDmem o n then 0 else 3)
    else if sp = 1 then
      match s.handle c h with
      | none => 3
      | some x => if o + n ≤ x.f.bytes.length then 0 else 3
    else if s.memAllowed (.cipher (Fin.ofNat 12 c)) o n write then 0 else 9

/-- Two ranges that overlap without starting at the same place; an empty one overlaps nothing. -/
def clash (a b : Nat × Nat × Nat) (n m : Nat) : Bool :=
  a.1 = b.1 && a.2.1 = b.2.1 && a.1 ≠ 15 && a.2.2 ≠ b.2.2 && n ≠ 0 && m ≠ 0 && decide (a.2.2 < b.2.2 + m) && decide (b.2.2 < a.2.2 + n)

/-- What is wrong with a submission's own fields (R310): BAD_SUB, or nothing. -/
def subBad (b : List Byte) : Bool :=
  let op := subOp b
  let len := subLen b
  op = 0 || decide (8 < op) || subClass b = 1 || subProt b = 3 || decide (16 ≤ leAt b 1 1) || leAt b 12 4 ≠ 0
    || decide (1048576 < len) || (isXts op && decide (len < 16))
    || (if isAead op then decide (1024 < subAadLen b) else subAadLen b ≠ 0)
    || ((op = 1 || isHash op) && subCtr b ≠ 0)
    || (op ≠ 2 && natLE (subTag b) ≠ 0)

/-- What a submission ends with before it starts: BAD_SUB or REGION (R310, R311); 0 when it may start. -/
def State.subCheck (s : State) (c : Nat) (b : List Byte) : Nat :=
  let op := subOp b
  if subBad b then 3
  else
    let dl := dstLen op (subLen b)
    let l := [s.bufCheck c (subSrc b) (subLen b) false true,
      s.bufCheck c (subDst b) dl true (op ≠ 7 && op ≠ 8),
      s.bufCheck c (subAad b) (subAadLen b) false (subAadLen b ≠ 0)]
    let lap := match bufRef (subSrc b), bufRef (subDst b) with
      | some x, some y => clash x y (subLen b) dl
      | _, _ => false
    if l.contains 3 || lap then 3 else if l.contains 9 then 9 else 0

/-- ALG that an operation allows (Table 15-2). -/
def algOk (op alg : Nat) : Bool :=
  if isAead op then decide (1 ≤ alg) && decide (alg ≤ 3) else if isXts op then alg = 4
  else if op = 7 then alg = 5 else if op = 8 then alg = 6 else false

/-- The slot can be used by the submission (R309, Table 15-5). -/
def State.keyOk (s : State) (b : List Byte) : Bool :=
  let op := subOp b
  let k := subSlot b
  if op = 5 || op = 6 then k = 0
  else
    let a := s.rd (keyAttr k)
    decide (k < 16384) && bit a 31 && algOk op (attrAlg a) && attrUse a = 0 && attrOwner a = subOwner b

/-- Effective protection (R318). -/
def State.protOf (s : State) (b : List Byte) : Nat :=
  let p := if subOp b = 5 || subOp b = 6 then 0 else attrProt (s.rd (keyAttr (subSlot b)))
  if p ≠ 0 then p else subProt b

/-! ### Completions (R312) -/

/-- The outcome of a message. -/
structure CipRes where
  status : Nat
  coreA : Nat := 0xFF
  coreB : Nat := 0xFF
  done : Nat := 0
  ctr : Nat := 0
  tag : List Byte := []
  susp : Bool := false
  prot : Bool := false
  pay : Nat := 0

/-- The 32 bytes of a completion (Table 15-4). -/
def cipCompletion (r : CipRes) : List Byte :=
  let untrusted := [1, 5, 6, 7, 8].contains r.status
  bytesLE 1 r.status ++ bytesLE 1 (b2n untrusted + 2 * b2n r.susp + 4 * b2n r.prot) ++ bytesLE 1 r.coreA
    ++ bytesLE 1 r.coreB ++ bytesLE 4 r.done ++ bytesLE 8 r.ctr ++ slice r.tag 0 16

/-- A message ends: an engine's completion is written with the stall's end, after the output `out` for data memory, unless its
cluster was loaded or reset since, and the counters follow (R300, R312). -/
def State.cipEnd (s : State) (w : Work) (out : List (Nat × List Byte)) (r : CipRes) : State :=
  match w with
  | .tap _ => s
  | .eng t gen dst _ =>
    let s := (s.bump (cipB + 0x100) 1).bump (cipB + 0x108) r.pay
    let s := if r.status = 1 then s.bump (cipB + 0x110) 1 else if r.status = 5 then s.bump (cipB + 0x118) 1
      else if r.status = 2 || r.status = 3 || r.status = 9 then s.bump (cipB + 0x128) 1 else s
    if (s.clu (cluOf t)).gen = gen then
      s.setThr t (fun x => { x with csub := some (out ++ [(dst, cipCompletion r)]) })
    else s

/-! ### Buffers -/

/-- Whether a buffer's channels serve requests. -/
def State.bufServes (s : State) (r n : Nat) : Bool := match bufRef r with
  | some (2, _, o) => s.memServes o n
  | _ => true

/-- Bytes of a buffer, and whether a read of GDDR6 was uncorrectable. -/
def State.bufGet (s : State) (c r n : Nat) (e : Ecc) : (List Byte × Bool) × State :=
  match bufRef r with
  | some (0, _, o) => ((s.dGet c o n, false), s)
  | some (1, h, o) => match s.handle c h with
    | none => ((List.replicate n 0, false), s)
    | some x => ((slice x.f.bytes o n, false), s)
  | some (2, _, o) => s.memRead o n e
  | _ => (([], false), s)

/-- Output for data memory, which goes there with the completion. -/
def dmemOut (r : Nat) (bs : List Byte) : List (Nat × List Byte) :=
  match bufRef r with
  | some (0, _, o) => if bs.isEmpty then [] else [(o, bs)]
  | _ => []

/-- Write a buffer outside data memory. -/
def State.bufPut (s : State) (c r : Nat) (bs : List Byte) : State :=
  match bufRef r with
  | some (1, h, o) => match s.handle c h with
    | none => s
    | some x => s.setHandle c h (some { x with f := { x.f with bytes := patch x.f.bytes o bs } })
  | some (2, _, o) => s.memWrite o bs
  | _ => s

/-! ### The operations (R309, Table 15-2) -/

/-- Output, tag, and whether a submitted tag matched. -/
def cipRun (op attr : Nat) (m : BitVec 512) (ctr : Nat) (src aad tag : List Byte) : List Byte × List Byte × Bool :=
  let k := matBytes m
  let key := if attrAlg attr = 1 then k.take 16 else k.take 32
  let iv := nonceOf attr m ctr
  let cha := attrAlg attr = 3
  match op with
  | 1 =>
    let ct := if cha then chaXor key iv src else gcmXor key iv src
    (ct, if cha then chaTag key iv aad ct else gcmTag key iv aad ct, true)
  | 2 =>
    let pt := if cha then chaXor key iv src else gcmXor key iv src
    (pt, [], (if cha then chaTag key iv aad src else gcmTag key iv aad src) = tag)
  | 3 => (xts true (k.take 32) (k.drop 32) ctr src, [], true)
  | 4 => (xts false (k.take 32) (k.drop 32) ctr src, [], true)
  | 5 => (sha256B src, [], true)
  | 6 => (sha384B src, [], true)
  | 7 => ([], ghash (k.take 16) (pad16 src), true)
  | _ => ([], poly1305 (k.take 32) src, true)

/-- Bytes a core processes for a message: AAD and payload, or a tap's digest (Table 15-1, R317). -/
def Msg.total (m : Msg) : Nat := match m.work with
  | .tap n => n
  | .eng _ _ _ b => subAadLen b + subLen b
/-- The rate of a core on a message, in Gb/s (Table 15-1, typical and highest). -/
def Msg.rate (m : Msg) : Nat := match m.work with
  | .tap _ => 64
  | .eng _ _ _ b => if subOp b = 6 then 48 else if subOp b = 7 || subOp b = 8 then 128 else 64
/-- Time a core takes for `n` bytes of a message. -/
def Msg.time (m : Msg) (n : Nat) : Nat := n * 8 * uNs / m.rate
/-- Bytes of a message done by now, in whole blocks of 16 (R317). -/
def Msg.doneBy (m : Msg) (mono : Nat) : Nat :=
  min m.total (m.done + ((mono - m.at_) * m.rate / (8 * uNs) + 15) / 16 * 16)

/-! ### Cores -/

/-- What a core runs, as its first core. -/
def State.coreRun (s : State) (k : Nat) : Option Run := mget (fun _ => none) s.cip.core k
/-- A core runs second in a pair. -/
def State.isSecond (s : State) (k : Nat) : Bool := mget (fun _ => false) s.cip.second k
/-- The cores that count: not fenced, with microcode (R319, R413). -/
def State.coreIn (s : State) (k : Nat) : Bool := !s.flag (cipCore k) 31 && s.flag (bootB + 0x40214) k
/-- A core that can start a message: in service, idle, not quiesced, no self-test running. -/
def State.coreFree (s : State) (k : Nat) : Bool :=
  s.coreIn k && (s.coreRun k).isNone && !s.isSecond k && !s.flag (cipCore k) 29 && (mget (fun _ => none) s.cip.test k).isNone
/-- All cores. -/
def cores : List Nat := List.range 32
/-- Cores that run messages of class n, second cores included. -/
def State.coresOf (s : State) (n : Nat) : Nat :=
  (cores.map (fun k => match s.coreRun k with
    | none => 0
    | some r => if r.m.cls = n && s.coreIn k then (if r.second.isSome then 2 else 1) else 0)).sum

/-- A message leaves its cores. -/
def State.freeCore (s : State) (k : Nat) : State :=
  match s.coreRun k with
  | none => s
  | some r =>
    let s := (s.setCip (fun x => { x with core := mput (fun _ => none) x.core k none })).setFld (cipCore k) 28 28 1
    match r.second with
    | none => s
    | some j => (s.setCip (fun x => { x with second := mput (fun _ => false) x.second j false })).setFld (cipCore j) 28 28 1

/-- A message starts or resumes on its cores. -/
def State.putCore (s : State) (k : Nat) (second : Option Nat) (m : Msg) : State :=
  let s := (s.setCip (fun x => { x with core := mput (fun _ => none) x.core k (some ⟨{ m with at_ := s.mono }, second⟩) })).setFld (cipCore k) 28 28 0
  match second with
  | none => s
  | some j => (s.setCip (fun x => { x with second := mput (fun _ => false) x.second j true })).setFld (cipCore j) 28 28 0

/-- Cores that a message needs: two in paired mode. -/
def State.need (s : State) (m : Msg) : Nat :=
  match m.work with
  | .tap _ => 1
  | .eng _ _ _ b => if (if m.started then m.prot else s.protOf b) = 1 then 2 else 1

/-- CTR of a message's completion (Table 15-4): for AEAD_ENC the counter assigned at its start, for AEAD_DEC the submitted one. -/
def Msg.ctrOut (m : Msg) : Nat :=
  match m.work with
  | .tap _ => 0
  | .eng _ _ _ b => if subOp b = 1 then m.ctr else if subOp b = 2 then subCtr b else 0

/-- End every message that `sel` selects, running, suspended or queued, with a status. -/
def State.endMsgs (s : State) (status : Nat) (sel : Msg → Bool) : State :=
  let fin := fun (s : State) (m : Msg) (k : Nat) (r : Option Nat) => s.cipEnd m.work []
    { status := status, coreA := k, coreB := r.getD 0xFF, ctr := m.ctrOut, susp := m.susp, prot := m.prot ≠ 0 }
  let s := cores.foldl (fun s k => match s.coreRun k with
    | none => s
    | some r => if sel r.m then fin (s.freeCore k) r.m k r.second else s) s
  [0, 1, 2, 3].foldl (fun s n =>
    let l := s.cipQ n
    let w := mget (fun _ => []) s.cip.wait n
    let s := (s.setCipQ n (l.filter (fun m => !sel m))).setCip (fun x => { x with wait := mput (fun _ => []) x.wait n (w.filter (fun m => !sel m)) })
    let s := ((l ++ w).filter sel).foldl (fun s m => fin s m 0xFF none) s
    s.cipRefill n) s

/-- Zeroize the whole store (R323): material, attributes, counters and the suspend store; messages in flight end with
ZEROIZED. -/
def State.zeroize (s : State) : State :=
  let s := s.endMsgs 8 (fun m => m.started)
  let inKeys := fun a => decide (keyAttr 0 ≤ a) && decide (a < keyAttr 16384)
  let inCtrs := fun a => decide (keyCtr 0 ≤ a) && decide (a < keyCtr 16384)
  let s := { s with regs := mclear inKeys s.regs, cnts := mclear inCtrs s.cnts }
  (s.setCip (fun x => { x with mat := [], zeroAt := some s.mono })).setFld (cipB + 0x200) 29 29 1

end Sys2Proof.Machine
end

