-- ==== Sys2Proof/Machine/Cip.lean ====
section
/-! DEFINITION. The commands of the cipher complex and the key store (15_cipher_complex.md). -/
namespace Sys2Proof.Machine

/-! ### Starting messages (R315–R318) -/

/-- A NORMAL or BULK message has waited AGE_US at its queue head. -/
def State.aged (s : State) (n : Nat) : Bool :=
  let us := s.fld (cipB + 0x44) 15 0
  us ≠ 0 && s.past (mget (fun _ => 0) s.cip.headAt n + us * uUs)

/-- The classes in the order in which the scheduler looks at them. -/
def State.cipOrder (s : State) : List Nat := [0] ++ [2, 3].filter s.aged ++ [1, 2, 3]

/-- Whether the head of class n may start now. -/
def State.mayStart (s : State) (n : Nat) : Bool :=
  match s.cipQ n with
  | [] => false
  | m :: _ =>
    let free := (cores.filter s.coreFree).length
    let need := s.need m
    (s.running cipB || (s.blkState cipB = 1 && m.started)) && decide (need ≤ free)
      && (n ≠ 0 || decide (s.coresOf 0 < s.fldA (cipB + 0x40) 13 8))
      && (n = 1 || (s.cipQ 1).isEmpty || decide (s.fldA (cipB + 0x40) 4 0 + need ≤ s.coresOf 1 + free))

/-- Take the head off a class queue. -/
def State.popCip (s : State) (n : Nat) : State := (s.setCipQ n (s.cipQ n).tail).cipRefill n

/-- Start or resume a message on core k, with core j in paired mode. A submission that cannot start ends at once. -/
def State.cipStart (s : State) (m : Msg) (k : Nat) (j : Option Nat) : State :=
  match m.work with
  | .tap _ => s.putCore k none { m with started := true }
  | .eng t gen _ b =>
    if m.started then s.putCore k j m
    else if (s.clu (cluOf t)).gen ≠ gen then s
    else
      let op := subOp b
      let stop := fun (s : State) st => s.cipEnd m.work [] { status := st, ctr := m.ctrOut }
      let e := s.subCheck (cluOf t) b
      let p := s.protOf b
      if e = 9 then stop (s.memRefuse (.cipher (Fin.ofNat 12 (cluOf t))) (bits (subSrc b) 47 0)) 9
      else if e ≠ 0 || (isHash op && p = 2) then stop s 3
      else if !s.keyOk b then stop s 2
      else
        let go := fun (s : State) ctr => s.putCore k j
          { m with started := true, key := s.keyWord (subSlot b), attr := s.rd (keyAttr (subSlot b)), ctr := ctr, prot := p }
        if op = 1 then
          match s.takeNonce (subSlot b) with
          | none => stop s 4
          | some (c, s) => go s c
        else go s (subCtr b)

/-- CIP_CORE_START: free core k, with j where the message is paired, takes the head of the first eligible class. -/
def State.coreStart (s : State) (k j : Nat) : State :=
  if !s.coreFree k then s
  else match s.cipOrder.find? s.mayStart with
    | none => s
    | some n => match s.cipQ n with
      | [] => s
      | m :: _ =>
        if s.need m = 2 && (j = k || !s.coreFree j) then s
        else (s.popCip n).cipStart m k (if s.need m = 2 then some j else none)
def execCipCoreStart (k j : Fin 32) (s : State) : Res := .next (s.coreStart k.val j.val)

/-- Messages in the suspend store. -/
def State.suspended (s : State) : Nat := (([0, 2, 3].map (fun n => (s.cipQ n).countP (·.started))).sum)

/-- The core to preempt (R317): of those but `skip` that run a NORMAL or BULK message with PREEMPT_MIN bytes left, the lowest class,
then the most bytes left. -/
def State.victimCore (s : State) (skip : Option Nat) : Option Nat :=
  let left := fun (r : Run) => r.m.total - r.m.doneBy s.mono
  let ok := cores.filter (fun k => match s.coreRun k with
    | none => false
    | some r => skip ≠ some k && decide (2 ≤ r.m.cls) && decide (s.fldA (cipB + 0x40) 31 16 ≤ left r))
  ok.foldl (fun b k => match b, s.coreRun k with
    | none, _ => some k
    | some i, some r => match s.coreRun i with
      | none => some k
      | some q => if q.m.cls < r.m.cls || (q.m.cls = r.m.cls && decide (left q < left r)) then some k else some i
    | some i, none => some i) none

/-- The message of core k suspends at the end of its block, and goes back to the head of its class queue. -/
def State.suspend (s : State) (k : Nat) : State :=
  match s.coreRun k with
  | none => s
  | some r =>
    let m := { r.m with done := r.m.doneBy s.mono, susp := true }
    let s := (s.freeCore k).bump (cipB + 0x120) 1
    s.setCipQ m.cls (m :: s.cipQ m.cls)

/-- URGENT_PREEMPT: no core is free and the head URGENT message may have one; a core suspends its message and starts the URGENT
message. A paired URGENT message takes both cores of a paired message, or one core from each of two messages. -/
def State.preempt (s : State) : State :=
  match s.cipQ 0 with
  | [] => s
  | u :: _ =>
    if !s.running cipB || cores.any s.coreFree || decide (s.fldA (cipB + 0x40) 13 8 ≤ s.coresOf 0) || decide (64 ≤ s.suspended)
    then s
    else match s.victimCore none with
      | none => s
      | some k =>
        if s.need u ≠ 2 then ((s.suspend k).popCip 0).cipStart u k none
        else match (s.coreRun k).bind (·.second) with
          | some j => ((s.suspend k).popCip 0).cipStart u k (some j)
          | none => match s.victimCore (some k) with
            | none => s
            | some j => if 63 ≤ s.suspended then s else (((s.suspend k).suspend j).popCip 0).cipStart u k (some j)
def execUrgentPreempt (s : State) : Res := .next s.preempt

/-! ### Ending messages (R312, R313, R319) -/

/-- A core's self-test begins (R319). -/
def State.startTest (s : State) (k : Nat) (auto : Bool) : State :=
  s.setCip (fun x => { x with test := mput (fun _ => none) x.test k (some (s.mono, auto)) })

/-- A failed comparison (R319): FAULTS, the event with the core numbers, OP and slot, and a self-test on each core. -/
def State.cipFault (s : State) (k : Nat) (second : Option Nat) (b : List Byte) : State :=
  let ks := k :: second.toList
  let s := ks.foldl (fun s i => (s.setFld (cipCore i) 15 0 (min 0xFFFF (s.fld (cipCore i) 15 0 + 1))).startTest i true) s
  let v := Config.cipSynd k (second.getD 0xFF) (subOp b) (subSlot b)
  s.raiseAt cipB Ev.cipFault (Src.core k) { mem := v, addr := v / 256 }

/-- An engine's message on core k is done. `mismatch` tells that a comparison of protected work failed, `n` what was
written by then, `e` what the checks of its GDDR6 source and AAD find. -/
def State.engDone (s : State) (k : Nat) (r : Run) (t gen : Nat) (b : List Byte) (mismatch : Bool) (n : Nat) (e : BufEcc) : State :=
  let c := cluOf t
  let op := subOp b
  let len := subLen b
  let m := r.m
  if (s.clu c).gen ≠ gen then s.freeCore k
  else
    let src := s.bufGet c (subSrc b) len e.src
    let aad := src.2.bufGet c (subAad b) (subAadLen b) e.aad
    let out := cipRun op m.attr m.key m.ctr src.1.1 aad.1.1 (subTag b)
    let s := aad.2.freeCore k
    let res : CipRes := {
      status := 0, coreA := k, coreB := r.second.getD 0xFF, ctr := m.ctrOut, susp := m.susp,
      prot := m.prot ≠ 0, pay := len }
    let dl := dstLen op len
    if src.1.2 || aad.1.2 then
      let w := min n dl
      let o := out.1.take w
      (s.bufPut c (subDst b) o).cipEnd m.work (dmemOut (subDst b) o) { res with status := 6, done := w, pay := w }
    else if mismatch && m.prot ≠ 0 then
      let w := if m.prot = 1 then min (n / 256 * 256) dl else dl
      let o := out.1.take w
      ((s.bufPut c (subDst b) o).cipFault k r.second b).cipEnd m.work (dmemOut (subDst b) o) { res with status := 5, done := w, pay := w }
    else
      (s.bufPut c (subDst b) out.1).cipEnd m.work (dmemOut (subDst b) out.1)
        { res with status := if out.2.2 then 0 else 1, done := dl, tag := if op = 1 || op = 7 || op = 8 then out.2.1 else [] }

/-- CIP_MSG_DONE: the message on core k has had the time its bytes take at the highest rate, and its buffers are reachable. -/
def State.msgDone (s : State) (k : Nat) (mismatch : Bool) (n : Nat) (e : BufEcc) : State :=
  match s.coreRun k with
  | none => s
  | some r =>
    if !s.past (r.m.at_ + r.m.time (r.m.total - r.m.done)) then s
    else match r.m.work with
      | .tap _ => s.freeCore k
      | .eng t gen _ b =>
        if s.bufServes (subSrc b) (subLen b) && s.bufServes (subAad b) (subAadLen b) && s.bufServes (subDst b) (dstLen (subOp b) (subLen b))
        then s.engDone k r t gen b mismatch n e else s
def execCipMsgDone (k : Fin 32) (mismatch : Bool) (n : BitVec 20) (e : BufEcc) (s : State) : Res :=
  .next (s.msgDone k.val mismatch n.toNat e)

/-! ### Self-tests (R319, R325) -/

/-- A write of CIP_CORE_k.TEST: ignored unless IDLE and QUIESCE are 1. -/
def State.coreTest (s : State) (k : Nat) : State :=
  if s.flag (cipCore k) 28 && s.flag (cipCore k) 29 && (mget (fun _ => none) s.cip.test k).isNone then s.startTest k false else s
def execCoreTest (k : Fin 32) (s : State) : Res := .next (s.coreTest k.val)

/-- A self-test ends, 40 µs after it began at the earliest (Table 15-9). A failure fences the core; a pass of a commanded
test returns it to service. -/
def State.coreTestDone (s : State) (k : Nat) (pass : Bool) : State :=
  match mget (fun _ => none) s.cip.test k with
  | none => s
  | some (t, auto) =>
    if !s.past (t + 40 * uUs) then s
    else
      let s := s.setCip (fun x => { x with test := mput (fun _ => none) x.test k none })
      let s := s.setFld (cipCore k) 27 27 (b2n (!pass))
      if pass then (if auto then s else s.setFld (cipCore k) 31 31 0)
      else (s.setFld (cipCore k) 31 31 1).raise cipB Ev.cipCoreFenced (Src.core k)
def execCoreTestDone (k : Fin 32) (pass : Bool) (s : State) : Res := .next (s.coreTestDone k.val pass)

/-! ### The key store (R321–R323) -/

/-- KEY_OPEN: a KEY_ATTR write with VALID 0. -/
def execKeyOpen (q : Req) (k : BitVec 14) (v : BitVec 31) (s : State) : Res := .next (s.attrWrite q k.toNat v.toNat)
/-- KEY_VALIDATE: a KEY_ATTR write with VALID 1. -/
def execKeyValidate (q : Req) (k : BitVec 14) (v : BitVec 31) (s : State) : Res :=
  .next (s.attrWrite q k.toNat (2 ^ 31 + v.toNat))
/-- KEY_MAT_WRITE: a write of material word w. -/
def execKeyMatWrite (k : BitVec 14) (w : Fin 16) (v : Word) (s : State) : Res := .next (s.matWrite k.toNat w.val v.toNat)

/-- KEY_CTL.ZERO: the whole store is zeroized. -/
def State.keyZero (s : State) : State := if s.zeroizing then s else s.zeroize
def execKeyZero (s : State) : Res := .next s.keyZero

/-- Zeroizing is complete, 8 µs after it began at the earliest (Table 15-9). -/
def State.zeroizeDone (s : State) : State :=
  match s.cip.zeroAt with
  | none => s
  | some t =>
    if s.past (t + 8 * uUs) then
      ((s.setCip (fun x => { x with zeroAt := none })).setFld (cipB + 0x200) 29 29 0).raise cipB Ev.keyZeroized Src.device
    else s
def execKeyZeroizeDone (s : State) : Res := .next s.zeroizeDone

/-! ### Wrapping (R324) -/

/-- A write of CIP_KW_CTRL with START: ignored while BUSY. -/
def State.kwStart (s : State) (unwrap : Bool) (w k : Nat) : State :=
  if s.flag (cipB + 0x244) 31 then s
  else
    let s := (s.wr (cipB + 0x240) (b2n unwrap * 2 ^ 30 + w * 2 ^ 14 + k)).setFld (cipB + 0x244) 31 31 1
    s.setCip (fun x => { x with kw := some ⟨unwrap, w, k, s.fld (cipB + 0x248) 8 0⟩ })
/-- KW_WRAP and KW_UNWRAP. -/
def execKwWrap (w k : BitVec 14) (s : State) : Res := .next (s.kwStart false w.toNat k.toNat)
def execKwUnwrap (w k : BitVec 14) (s : State) : Res := .next (s.kwStart true w.toNat k.toNat)

/-- The bytes of CIP_KW_BUF. -/
def State.kwBuf (s : State) : List Byte := ((List.range 26).map (fun i => bytesBE 4 (s.rd (cipB + 0x280 + 4 * i)))).flatten
/-- Set them. -/
def State.setKwBuf (s : State) (b : List Byte) : State :=
  (List.range 26).foldl (fun s i => s.wr (cipB + 0x280 + 4 * i) (beAt b (4 * i) 4)) s
/-- A slot that can seal: USE WRAP, ALG 0x2, NONCE SALT_XOR, VALID. -/
def State.wrapSlot (s : State) (w : Nat) : Bool :=
  let a := s.rd (keyAttr w)
  bit a 31 && attrUse a = 2 && attrAlg a = 2 && attrNonce a = 0

/-- Seal slot k under slot w (Table 15-6): RESULT and the state. -/
def State.wrapRun (s : State) (w k : Nat) : Nat × State :=
  let a := s.rd (keyAttr k)
  if !s.wrapSlot w then (4, s)
  else if !bit a 31 || !bit a 21 then (5, s)
  else
    let ctr := s.cnt (keyCtr k)
    match s.takeNonce w with
    | none => (4, s)
    | some (n, s) =>
      let aad := bytesBE 2 0x4B57 ++ bytesBE 1 1 ++ bytesBE 1 0 ++ bytesBE 4 a ++ bytesBE 8 ctr ++ bytesBE 8 n
      let m := s.keyWord w
      let r := cipRun 1 (s.rd (keyAttr w)) m n (matBytes (s.keyWord k)) aad []
      (0, s.setKwBuf (aad ++ r.1 ++ r.2.1))

/-- Open CIP_KW_BUF under slot w into the open slot k, with `owner` as OWNER: RESULT and the state. -/
def State.unwrapRun (s : State) (w k owner : Nat) : Nat × State :=
  let b := s.kwBuf
  if !s.wrapSlot w then (4, s)
  else if s.keyValid k then (3, s)
  else if beAt b 0 2 ≠ 0x4B57 || beAt b 2 1 ≠ 1 then (2, s)
  else
    let r := cipRun 2 (s.rd (keyAttr w)) (s.keyWord w) (beAt b 16 8) (slice b 24 64) (b.take 24) (slice b 88 16)
    if !r.2.2 then (1, s)
    else
      let s := (s.setMat k (BitVec.ofNat 512 (natBE r.1))).setCnt (keyCtr k) (beAt b 8 8)
      (0, (s.wr (keyAttr k) (putBits (beAt b 4 4) 17 9 owner)).setFld (cipB + 0x244) 17 9 owner)

/-- KW_DONE: the command ends with its RESULT; on an error no slot has changed. -/
def State.kwDone (s : State) : State :=
  match s.cip.kw with
  | none => s
  | some x =>
    let r := if x.unwrap then s.unwrapRun x.wslot x.slot x.owner else s.wrapRun x.wslot x.slot
    let s := (r.2.setCip (fun y => { y with kw := none })).setFld (cipB + 0x244) 31 31 0
    (s.setFld (cipB + 0x244) 3 0 r.1).raise cipB Ev.cipKwDone Src.device
def execKwDone (s : State) : Res := .next s.kwDone

end Sys2Proof.Machine
end

