-- ==== Sys2Proof/Machine/CtxOps.lean ====
section
/-! DEFINITION. Session contexts: their records in GDDR6, the pool, the context cache, the clusters that serve them
(13_engine_offloads.md R279–R281). -/
namespace Sys2Proof.Machine

/-- A context by CTX_ID, and its update. -/
def State.ctx (s : State) (id : Nat) : Ctx := mget (fun _ => {}) s.svc.ctx id
def State.setSvc (s : State) (g : SvcSt → SvcSt) : State := { s with svc := g s.svc }
def State.setCtx (s : State) (id : Nat) (g : Ctx → Ctx) : State :=
  s.setSvc (fun x => { x with ctx := mput (fun _ => {}) x.ctx id (g (s.ctx id)) })
/-- The function that owns a context. -/
def Ctx.fn (c : Ctx) : Nat := c.owner - 16
/-- The handle a tenant names it by: local index and CTX_GEN. -/
def Ctx.handle (c : Ctx) : Nat := c.idx * 2 ^ 16 + c.gen

/-! ### Records -/

/-- Numbers packed big-endian at fixed widths, and the i-th of them. -/
def packW (ws vs : List Nat) : List Byte := (List.zipWith (fun w v => bytesBE w v) ws vs).flatten
def getW (ws : List Nat) (b : List Byte) (i : Nat) : Nat := beAt b ((ws.take i).sum) (ws.getD i 0)
/-- Padded with zeros to n bytes. -/
def padZ (n : Nat) (b : List Byte) : List Byte := (b ++ List.replicate n 0).take n
/-- Optional numbers. -/
def optN : Option Nat → Nat
  | none => 0
  | some n => n + 1
def nOpt (n : Nat) : Option Nat := if n = 0 then none else some (n - 1)

/-- The header of a context (Table 13-1), 64 bytes. -/
def ctxHeader (id : Nat) (c : Ctx) : List Byte :=
  bytesBE 64 (pk [(4, c.kind), (4, c.state), (8, c.fgen), (9, c.owner), (4, c.home), (3, 0), (16, c.gen), (14, id), (2, 0), (14, c.keyRx),
    (14, c.keyTx), (4, 0), (14, c.link.getD 0), (1, b2n c.link.isSome), (8, c.svcVer), (9, 0), (32, c.flowid), (96, ts96 c.openTs), (14, c.req.rxq),
    (14, c.req.txq), (4, 0), (64, c.octRx), (64, c.octTx), (8, c.lastErr), (88, 0)])

/-- A context whose header reads as `h`, a number of 512 bits. -/
def Ctx.withHeader (c : Ctx) (h : Nat) : Ctx :=
  { c with
    kind := bits h 511 508, state := bits h 507 504, fgen := bits h 503 496, owner := bits h 495 487, home := bits h 486 483, gen := bits h 479 464,
    keyRx := bits h 447 434, keyTx := bits h 433 420, link := if bit h 401 then some (bits h 415 402) else none, svcVer := bits h 400 393,
    flowid := bits h 383 352, openTs := ofTs96 (bits h 351 256), octRx := bits h 223 160, octTx := bits h 159 96, lastErr := bits h 95 88,
    req := { c.req with rxq := bits h 255 242, txq := bits h 241 228 } }

/-- Widths of the service state: local index, keys, standby key and underlying context; the session's parameters; TCP state; TLS, ESP and NVMe/TCP
state. Its layout is the model's own (R280: not described). -/
def svcW : List Nat := [2, 2, 2, 2, 2] ++ [2, 2, 4, 1, 1, 96, 2, 4, 1, 2, 2, 2, 4, 8, 8, 8, 8, 2, 1]
  ++ [4, 4, 4, 4, 4, 4, 1, 1, 4, 8, 8, 2, 1, 4, 4] ++ [8, 8, 8, 8, 8, 2, 128]

/-- The flags of the service state, from bit 0. -/
def Ctx.flagBits (c : Ctx) : List Bool :=
  [c.req.esn, c.req.hdgst, c.req.ddgst, c.req.transport, c.req.wscale, c.req.sack, c.req.tstamp, c.req.ecn, c.req.nagle, c.estab, c.fin, c.finSent,
    c.finRx, c.aborted, c.hold, c.softTold, c.rxStop, c.txStop, c.wsOn, c.sackOn, c.tsOn, c.ecnOn, c.ece, c.cwr, c.synRx]

/-- The service state of a context, 448 bytes, its index, keys and link written as `hs`. Payload buffers, received streams, data out of order and registered
buffers are no part of it; of a replay window the latest 1,024 places are. -/
def svcBytes (c : Ctx) (hs : List Nat) : List Byte :=
  let r := c.req
  padZ 448 (packW svcW (hs ++ [r.lport, r.rport, r.spi, r.ip, r.hdr.length, natBE (padZ 96 r.hdr), r.rtoMs, r.keepMs, r.keepN, r.mss, r.recMax, r.window,
    c.flagBits.zipIdx.foldl (fun a x => a + b2n x.1 * 2 ^ x.2) 0, r.softBytes, r.hardBytes, r.softPkts, r.hardPkts, r.depth, r.proto,
    c.rcvNxt, c.sndUna, c.sndNxt, c.wnd, c.cwnd, c.ssthresh, c.retries, c.recov, c.recover, c.srtt, c.rttvar, c.pmss, c.wsOut, c.tsRecent, c.cwrAt,
    c.recRx, c.recTx, c.espTop, c.espBytes, c.espPkts, c.nvOut, c.espMap % 2 ^ 1024]))

/-- The context of a record of 512 bytes, its keys and its link as the service state has them. -/
def ctxOfRecord (b : List Byte) : Ctx :=
  let g := getW svcW (b.drop 64)
  let fl := fun i => bit (g 17) i
  let c : Ctx := ({ : Ctx }).withHeader (natBE (b.take 64))
  { c with
    idx := g 0, keyRx := g 1, keyTx := g 2, standby := nOpt (g 3), link := nOpt (g 4),
    req := { kind := c.kind, rxq := c.req.rxq, txq := c.req.txq, lport := g 5, rport := g 6, spi := g 7, ip := g 8, hdr := (bytesBE 96 (g 10)).take (g 9),
             rtoMs := g 11, keepMs := g 12, keepN := g 13, mss := g 14, recMax := g 15, window := g 16, softBytes := g 18, hardBytes := g 19,
             softPkts := g 20, hardPkts := g 21, depth := g 22, proto := g 23, esn := fl 0, hdgst := fl 1, ddgst := fl 2, transport := fl 3,
             wscale := fl 4, sack := fl 5, tstamp := fl 6, ecn := fl 7, nagle := fl 8 },
    estab := fl 9, fin := fl 10, finSent := fl 11, finRx := fl 12, aborted := fl 13, hold := fl 14, softTold := fl 15, rxStop := fl 16, txStop := fl 17,
    wsOn := fl 18, sackOn := fl 19, tsOn := fl 20, ecnOn := fl 21, ece := fl 22, cwr := fl 23, synRx := fl 24,
    rcvNxt := g 24, sndUna := g 25, sndNxt := g 26, wnd := g 27, cwnd := g 28, ssthresh := g 29, retries := g 30, recov := g 31, recover := g 32,
    srtt := g 33, rttvar := g 34, pmss := g 35, wsOut := g 36, tsRecent := g 37, cwrAt := g 38,
    recRx := g 39, recTx := g 40, espTop := g 41, espBytes := g 42, espPkts := g 43, nvOut := g 44,
    espMap := g 45 + (if g 16 ≤ 1024 then 0 else (2 ^ (g 16 - 1024) - 1) * 2 ^ 1024) }

/-! ### The pool (R279) -/

/-- Bytes of the pool: 16,384 contexts of 512. -/
def poolBytes : Nat := 8388608

/-- A place for the pool: in the lowest-numbered control region that holds it. -/
def State.poolPlace (s : State) : Option State :=
  match (List.range 32).find? (fun r => s.regType r = 2 && decide (s.regLo r + poolBytes ≤ s.regHi r)) with
  | none => none
  | some r =>
    let d := s.draw
    some (d.2.setSvc (fun x => { x with
      pool := some (s.regLo r + 512 * (Config.ctxPool d.1 % ((s.regHi r - s.regLo r - poolBytes) / 512 + 1))), cache := [] }))

/-- The pool lies in a control region: where it is, or, while no context is in use, where it finds room. -/
def State.poolOpen (s : State) : Option State :=
  match s.svc.pool with
  | none => s.poolPlace
  | some a =>
    if s.memAllowed .ctx a poolBytes true then some s
    else if s.svc.ctx.any (fun e => e.2.state ≠ 0) then none
    else s.poolPlace

/-- Where a context lies. -/
def State.ctxAt (s : State) (id : Nat) : Nat := s.svc.pool.getD 0 + 512 * id
/-- The channels of a context serve requests now, or the access would be refused. -/
def State.ctxServes (s : State) (id : Nat) : Bool := !s.memAllowed .ctx (s.ctxAt id) 512 true || s.memServes (s.ctxAt id) 512

/-- A context is written back. -/
def State.ctxStore (s : State) (id : Nat) : State :=
  let c := s.ctx id
  let bs := ctxHeader id c ++ svcBytes c [c.idx, c.keyRx, c.keyTx, optN c.standby, optN c.link]
  if s.memAllowed .ctx (s.ctxAt id) 512 true then s.memWrite (s.ctxAt id) bs else s.memRefuse .ctx (s.ctxAt id)

/-- A context is read: its header says what it is; one that cannot be read is FAILED (Table 16-4). -/
def State.ctxLoad (s : State) (id : Nat) (e : Ecc) : Bool × State :=
  let fail := fun (s : State) => (false, s.setCtx id (fun c => { c with state := 4, bad := true }))
  if !s.memAllowed .ctx (s.ctxAt id) 512 false then fail (s.memRefuse .ctx (s.ctxAt id))
  else
    let r := s.memRead (s.ctxAt id) 512 e
    if r.1.2 then fail r.2 else (true, r.2.setCtx id (fun c => c.withHeader (natBE (r.1.1.take 64))))

/-! ### The context cache (R281) -/

/-- The contexts cached in a set, most recently used first. -/
def State.cacheSet (s : State) (n : Nat) : List Nat := mget (fun _ => []) s.svc.cache n
def State.setCache (s : State) (n : Nat) (l : List Nat) : State :=
  s.setSvc (fun x => { x with cache := mput (fun _ => []) x.cache n l })
/-- A context is in the cache. -/
def State.cached (s : State) (id : Nat) : Bool := (s.cacheSet (id % 128)).contains id

/-- The least recently used entry that must leave before another one fits. -/
def State.cacheOut (s : State) (n : Nat) : Option Nat := if (s.cacheSet n).length < 16 then none else (s.cacheSet n).getLast?

/-- A context enters the cache, the least recently used one of its set written back where the set is full; none while a channel does not
serve that write. -/
def State.ctxSeat (s : State) (id : Nat) : Option State :=
  let l := s.cacheSet (id % 128)
  match s.cacheOut (id % 128) with
  | none => some (s.setCache (id % 128) (id :: l))
  | some v => if s.ctxServes v then some ((s.ctxStore v).setCache (id % 128) (id :: l.dropLast)) else none

/-- An access to a context in use: none where a channel does not serve it yet; false where it cannot be read. `e` is what a read from GDDR6
finds. -/
def State.ctxTouch (s : State) (id : Nat) (e : Ecc) : Option (Bool × State) :=
  if (s.ctx id).state = 0 then some (true, s)
  else if s.cached id then some (true, s.setCache (id % 128) (id :: (s.cacheSet (id % 128)).erase id))
  else if !s.ctxServes id then none
  else match s.ctxSeat id with
    | none => none
    | some t => some (t.ctxLoad id e)

/-- An access to a context and to the one underneath. -/
def State.ctxPair (s : State) (id : Nat) (e : Ecc) : Option (Bool × State) :=
  match s.ctxTouch id e with
  | none => none
  | some (false, s) => some (false, s)
  | some (true, s) => match (s.ctx id).link with
    | none => some (true, s)
    | some t => s.ctxTouch t .clean

/-- A context that becomes FREE leaves the cache, and its record is written; none while a channel does not serve that write. -/
def State.ctxErase (s : State) (id : Nat) : Option State :=
  if !s.ctxServes id then none
  else
    let s := s.setCtx id (fun c => { gen := c.gen })
    some ((s.ctxStore id).setCache (id % 128) ((s.cacheSet (id % 128)).erase id))

/-! ### HOME (R281) -/

/-- The cluster mask of a service, by KIND: every cluster, until the owner sets it. -/
def State.svcMask (s : State) (kind : Nat) : Nat := mget (fun _ => 0xFFF) s.svc.masks kind
/-- A cluster of a mask, freely chosen. -/
def State.pickHome (s : State) (mask : Nat) : Nat × State :=
  let l := (List.range 12).filter (fun c => mask.testBit c)
  let d := s.draw
  (l.getD (Config.anyNat d.1 % max 1 l.length) 0, d.2)

/-- A reload of a cluster moves the contexts that it serves to other clusters of their service's mask, where it has any. -/
def State.rehome (s : State) (c : Nat) : State :=
  (s.svc.ctx.filter (fun e => e.2.state ≠ 0 && e.2.home = c)).foldl (fun s e =>
    let m := s.svcMask e.2.kind
    let m := if m.testBit c then m - 2 ^ c else m
    if m = 0 then s
    else
      let p := s.pickHome m
      p.2.setCtx e.1 (fun x => { x with home := p.1 })) s

end Sys2Proof.Machine
end

