-- ==== Sys2Proof/Machine/MacOps.lean ====
section
/-! DEFINITION. Ports: link states, staging, transmission, pause and records (05_network_ports.md,
03_time_base.md R69–R73, 04_records_and_stream_port.md R76–R81), with the misses of proofing that a port causes
(09_sequencer_and_proofing.md R211). -/
namespace Sys2Proof.Machine

/-! ### Counters and records -/

/-- Count in statistics counter n of port p (Table 05-6). -/
def State.stat (s : State) (p n k : Nat) : State := s.bump (macPort p + 0x200 + 8 * n) k

/-- The egress FRAME record of a copy that starts transmission on port p (R76, R79). -/
def State.egressRecord (s : State) (p : Nat) (c : Copy) (wire : List Byte) (ts : Instant) (cal : Bool) : State :=
  match s.recClass c.f 1 with
  | none => s
  | some rc =>
    let d := s.digest rc wire
    let r : FrameRec := {
      dir := 1, cal := cal, tq := d.2.2.tq, rclass := rc, port := p, cls := c.f.cls, dmode := d.1,
      seqValid := c.f.seqno.isSome, late := c.f.late, prf := c.prf, len := wire.length + 4, ts := ts,
      seqno := c.f.seqno.getD 0, flowid := mdF c.f.md 2 31 0, digest := d.2.1, vport := c.f.src.vport }
    (d.2.2.commitUnit (framePayload r) rc ts).2

/-! ### Staging (R115, R116, R161) -/

/-- The staging share of a port of quad q, in bytes. -/
def State.stagingShare (s : State) (p : Nat) : Nat :=
  8388608 / max 1 (portsOf (s.fld (macB (p / 4) + 0x40) 3 0)).length

/-- Bytes a port's staging holds or will hold: dequeued copies in the egress pipeline, staged copies, fetched held
copies, and the frame in transmission. -/
def State.stagingUsed (s : State) (p : Nat) : Nat :=
  let m := s.mac p
  let sum := fun (l : List Copy) => (l.map (fun c => c.f.charged)).sum
  sum ((s.pipe (p / 4)).egress.filter (fun c => c.vport = p)) + sum m.staged
    + sum (((s.heldOf p).filter (·.fetched)).map (·.cp))
    + (match m.cur with
      | none => 0
      | some t => t.len)

/-- The frame limit of a port for a frame: MAX_LEN and 4 bytes for each of the first two VLAN tags (R116). -/
def State.frameLimit (s : State) (p : Nat) (bs : List Byte) : Nat :=
  let tag := fun o => beAt bs o 2 = 0x8100 || beAt bs o 2 = 0x88A8
  s.fldA (macPort p + 0xC) 13 0 + (if tag 12 then 4 + (if tag 16 then 4 else 0) else 0)

/-- Padding to 60 bytes when a frame is staged for a port (R161). -/
def padFrame (bs : List Byte) : List Byte := bs ++ List.replicate (60 - bs.length) 0

/-- Stage a copy whole for its port: refused when it is too long for the port or the link is down. -/
def State.stageCopy (s : State) (c : Copy) : State :=
  let p := c.vport
  let c := { c with f := { c.f with bytes := padFrame c.f.bytes } }
  if s.frameLimit p c.f.bytes < c.f.bytes.length + 4 then ((s.stat p 18 1).leaveGroup c).endCopy c.f.id (!c.deep) .dropped
  else if !s.linkIsUp p then ((s.stat p 17 1).leaveGroup c).endCopy c.f.id (!c.deep) .dropped
  else s.setMac p (fun m => { m with staged := m.staged ++ [c] })

/-! ### Missed releases (R211) -/

/-- A missed release: PRF_MISSED, and the copy sent at once or discarded under MISS. Data still in the deep buffer is read first; a
copy whose data cannot be read is discarded (DESIGN CHOICE: the manual gives that only for the refill, R221). -/
def State.prfMiss (s : State) (c : Copy) : State :=
  let q := c.vport / 4
  let s := s.raise prfB Ev.prfMissed (Src.port c.vport)
  if c.f.missBit then ((((s.bump (prfCnt q 3) 1).missRecord c.vport c).leaveGroup c)).endCopy c.f.id (!c.deep) .dropped
  else
    let r := ((s.bump (prfCnt q 2) 1).leaveGroup c).deepRead .prf c
    if r.1.2 then (r.2.bump (schQCnt c.vport c.queue 9) 1).endCopy c.f.id (!c.deep) .dropped
    else r.2.stageCopy { r.1.1 with prf := 2, grp := none }

/-- A held copy whose link is down at its release: discarded, whatever MISS holds (R113, R211). -/
def State.prfLinkDown (s : State) (c : Copy) : State :=
  let s := (s.bump (prfCnt (c.vport / 4) 6) 1).raise prfB Ev.prfMissed (Src.port c.vport)
  ((s.missRecord c.vport c).leaveGroup c).endCopy c.f.id (!c.deep) .dropped

/-! ### SA and SC entries (R121) -/

/-- Key of the entry that MAC_SA_SEL selects. -/
def selKey (v : Nat) : Nat := saKey (bits v 8 8) (bits v 7 7) (bits v 6 4) (if bit v 8 then 0 else bits v 1 0)
/-- Address of MAC_SA_Wn. -/
def saW (p n : Nat) : Nat := macPort p + 0x54 + 4 * n

/-- Read the selected entry into W0–W5. -/
def State.saLoad (s : State) (p v : Nat) : State :=
  let e := s.sa p (selKey v)
  (List.range 6).foldl (fun s n => s.wr (saW p n) (bits e (191 - 32 * n) (160 - 32 * n))) s
/-- The entry that W0–W5 hold. -/
def State.saWords (s : State) (p : Nat) : Nat :=
  pk ((32, Nat.land (s.rd (saW p 0)) 0x80003FFF) :: (List.range 5).map (fun n => (32, s.rd (saW p (n + 1)))))
/-- An entry is replaced, which is a new SA for its events. -/
def State.saStore (s : State) (p v e : Nat) : State :=
  let k := selKey v
  (s.setSa p k e).setMac p (fun m => { m with
    thresh := m.thresh.filter (· ≠ k), exhausted := m.exhausted.filter (· ≠ k), spent := m.spent.filter (· ≠ k) })

/-! ### Pause (R122–R124) -/

/-- MAC_FC_STAT follows the timers: all bits together under 802.3x. -/
def State.fcStat (s : State) (p : Nat) : State :=
  let m := s.mac p
  let v := fun (l : Sparse Nat) => if l.any (fun e => e.1 = 8) then 255 else (l.map (fun e => 2 ^ e.1)).sum
  s.wr (macPort p + 0x30) (v m.ignore * 65536 + v m.paused)

/-- The key under which queue q of port p is paused: its priority, or 8 (R122). -/
def State.pauseKeys (s : State) (p q : Nat) : List Nat :=
  [8, bits (s.rdA (macPort p + 0x20 + 4 * (q / 8))) (4 * (q % 8) + 2) (4 * (q % 8))]
/-- A queue's priority is paused. -/
def State.isPaused (s : State) (p q : Nat) : Bool :=
  (s.pauseKeys p q).any (fun k => (s.mac p).paused.any (fun e => e.1 = k && decide (s.mono < e.2)))

/-- The pause of a key ends. -/
def State.unpause (s : State) (p k : Nat) : State :=
  (s.setMac p (fun m => { m with paused := mdel m.paused k, pausedSince := mdel m.pausedSince k })).fcStat p

/-- A received pause of a key: it replaces the running timer, and 0 quanta end it (R122, R124). -/
def State.pauseRx (s : State) (p k quanta : Nat) : State :=
  if (s.mac p).ignore.any (fun e => e.1 = k && decide (s.mono < e.2)) then s
  else if quanta = 0 then s.unpause p k
  else
    let since := if (s.mac p).paused.any (fun e => e.1 = k && decide (s.mono ≤ e.2)) then (s.mac p).pausedSince else mins (s.mac p).pausedSince k s.mono
    (s.setMac p (fun m => { m with paused := mins m.paused k (s.mono + s.txTime p (quanta * 64)), pausedSince := since })).fcStat p

/-- A pause or PFC frame from its opcode on (R122): 802.3x has its quanta at byte 16, PFC its enable vector at byte 16 and
a quanta word for each priority behind it. -/
def State.pauseFrame (s : State) (p : Nat) (bs : List Byte) : State :=
  let c := s.fcCfg p
  let op := beAt bs 14 2
  if !bit c 29 then s
  else if bits c 31 30 = 1 && op = 1 then s.pauseRx p 8 (beAt bs 16 2)
  else if bits c 31 30 = 2 && op = 0x0101 then
    (List.range 8).foldl (fun s i =>
      if bit (beAt bs 16 2) i && bit c (16 + i) then s.pauseRx p i (beAt bs (18 + 2 * i) 2) else s) s
  else s

/-! ### Link states (R112, R113, Table 05-2) -/

/-- MAC_LINK.STATE. -/
def State.linkState (s : State) (p : Nat) : Nat := s.fld (macPort p + 8) 2 0

/-- Logical lanes of a port in its quad's mode (Table 05-1). -/
def lanesOf (mode i : Nat) : List Nat :=
  match mode with
  | 1 => if i = 0 then [0, 1, 2, 3] else []
  | 4 => if i = 0 then [0, 1, 2, 3] else []
  | 2 => if i = 0 then [0, 1] else if i = 2 then [2, 3] else []
  | 0 => []
  | _ => [i]
/-- Logical lanes of port p. -/
def State.portLanes (s : State) (p : Nat) : List Nat := lanesOf (s.fld (macB (p / 4) + 0x40) 3 0) (p % 4)
/-- The physical lane of a quad that carries logical lane k on transmit, and whether it is inverted; the logical lane that physical
lane m carries on receive (R109). -/
def State.txLane (s : State) (q k : Nat) : Nat × Bool :=
  let w := s.rd (macB q + 0x44)
  (4 * q + bits w (17 + 2 * k) (16 + 2 * k), bit w (4 + k))
def State.rxLane (s : State) (q m : Nat) : Nat :=
  ([0, 1, 2, 3].find? (fun k => decide (bits (s.rd (macB q + 0x44)) (9 + 2 * k) (8 + 2 * k) = m))).getD m

/-- The transmitters of a port go on or off. -/
def State.setTx (s : State) (p : Nat) (on : Bool) : State :=
  if (s.mac p).txOn = on then s
  else (s.setMac p (fun m => { m with txOn := on })).emit (.laneTx p ((s.portLanes p).map (s.txLane (p / 4))) on)

/-- A device power state is entered: lanes follow their ports, in COLD only those of ports in UP, in STANDBY none (Table 20-2). -/
def State.lanePower (s : State) : State :=
  (List.range 16).foldl (fun s p => s.setTx p (match s.devState with
    | 2 => s.linkState p = 4
    | 3 => false
    | _ => s.linkState p ≠ 0)) s

/-- Enter a link state. In COLD the transmitters of a port are off, but for the way from a detected signal to UP (R420). -/
def State.toLink (s : State) (p st : Nat) : State :=
  let s := (s.setFld (macPort p + 8) 2 0 st).setMac p (fun m => { m with at_ := s.mono })
  let s := if st = 5 then s else s.setFld (macPort p + 8) 5 4 0
  s.setTx p (match s.devState with
    | 2 => st = 2 || st = 3 || st = 4
    | 3 => false
    | _ => st ≠ 0)

/-- Whether the quad's mode uses the port. -/
def State.portUsed (s : State) (p : Nat) : Bool := (portsOf (s.fld (macB (p / 4) + 0x40) 3 0)).contains (p % 4)

/-- Whether a port's FEC is an option of its quad's mode (Table 05-1). -/
def State.fecOk (s : State) (p : Nat) : Bool :=
  let f := s.fld (macPort p + 4) 9 8
  match s.fld (macB (p / 4) + 0x40) 3 0 with
  | 1 => f = 2 | 2 => f = 2 | 3 => f = 2 | 5 => f = 2 | 4 => f = 1 | 6 => decide (f < 2) | 7 => f = 0 | _ => false

/-- A port in DISABLED with EN = 1 evaluates its configuration, and leaves DISABLED when it is valid and the quad is in
RUN (R112). -/
def State.linkEval (s : State) (p : Nat) : State :=
  let a := macPort p
  if s.linkState p ≠ 0 then s
  else if !s.portUsed p then s.setFld (a + 8) 7 7 0
  else if !s.flag a 0 then s
  else if !s.fecOk p then
    if s.flag (a + 8) 7 then s
    else (s.setFld (a + 8) 7 7 1).raise (macB (p / 4)) Ev.linkCfgErr (Src.port p)
  else
    let s := s.setFld (a + 8) 7 7 0
    if s.running (macB (p / 4)) then
      (s.setMac p (fun m => { m with cfg := s.rd (a + 4) })).toLink p 1
    else s

/-- Release calibration of port p starts: at link up and on CAL_START (R210). -/
def State.prfCalStart (s : State) (p : Nat) : State :=
  (s.setFld (prfB + 0x104 + 0x10 * p) 31 30 1).setPrf (fun f =>
    { f with cal := mput (fun _ => (16, 0)) f.cal p (16, 0), adj := mput (fun _ => none) f.adj p none })

/-- The port enters UP: lane and release calibration start, LINK_UP (R67, R210); bytes already above XOFF_KIB send XOFF (R123). -/
def State.linkUpNow (s : State) (p : Nat) : State :=
  let s := (s.toLink p 4).raise (macB (p / 4)) Ev.linkUp (Src.port p)
  (List.range 8).foldl (fun s k => s.fcCheck p k) ((s.calStart p).prfCalStart p)

/-- The frame boundary of a port's transmit direction: a write through MAC_SA_SEL that waited for it acts, then its READ (R121). -/
def State.saBoundary (s : State) (p : Nat) : State :=
  match (s.mac p).saPend with
  | none => s
  | some (v, e) =>
    let s := s.setMac p (fun m => { m with saPend := none })
    let s := (s.setFld (macPort p + 0x50) 31 31 0).saStore p v e.toNat
    if bit v 28 then s.saLoad p v else s

/-- The port leaves UP for state `st` (R113): the frame in transmission ends with an error code, staged frames are flushed, pause
clears, LINK_DOWN. Held frames stay until their release instants. -/
def State.leaveUp (s : State) (p st : Nat) : State :=
  let m := s.mac p
  let s := match m.cur with
    | none => s
    | some t => (((s.stat p 16 1).emit (.txAbort p)).leaveGroup t.cp).endCopy t.cp.f.id (!t.cp.deep) .dropped
  let s := m.staged.foldl (fun s c => ((s.stat p 17 1).leaveGroup c).endCopy c.f.id (!c.deep) .dropped) s
  let s := s.setMac p (fun m => { m with
    cur := none, staged := [], paused := [], pausedSince := [], xoff := [], pauseQ := [], busyTo := 0, heldEnds := 0 })
  let s := (s.saBoundary p).fcStat p
  let s := s.setFld (macPort p + 8) 31 16 (min 0xFFFF (s.fld (macPort p + 8) 31 16 + 1))
  let s := ((s.calLinkDown p).setFld (prfB + 0x104 + 0x10 * p) 31 30 0).setPrf
    (fun f => { f with adj := mput (fun _ => none) f.adj p none })
  let lanes := (s.portLanes p).map (fun l => 4 * (p / 4) + l)
  let s := { s with pw := { s.pw with eye := s.pw.eye.filter (fun l => !lanes.contains l) } }
  (s.raise (macB (p / 4)) Ev.linkDown (Src.port p)).toLink p st

/-- Go to a link state, leaving UP where the port is there; `cut` tells that a frame is in reception, which is then
discarded (R113). -/
def State.goLink (s : State) (p st : Nat) (cut : Bool) : State :=
  if s.linkState p = 4 then (if cut then s.stat p 12 1 else s).leaveUp p st else s.toLink p st

/-! ### PTP on transmit (R69–R73) -/

/-- A marked frame's PTP header offset, where the version is one that is marked (Table 03-6). -/
def Frame.ptpOff (f : Frame) : Option Nat :=
  let o := mdF f.md 4 31 23
  let v := beAt f.bytes (o + 1) 1
  if mdF f.md 3 5 5 = 1 && v % 16 = 2 && decide (v / 16 ≤ 1) && decide (o + 34 ≤ f.bytes.length) then some o else none

/-- The instances of the carried header list: (TYPE, OFFSET) pairs in order (Table 06-2). -/
def instances (phv : Nat) : List (Nat × Nat) :=
  ((List.range 24).map (fun i => bits phv (4095 - 128 - 16 * i) (4080 - 128 - 16 * i))).filterMap
    (fun h => if h / 512 = 0 then none else some (h / 512, h % 512))

/-- The UDP header before a PTP header: whether it runs over IPv6. -/
def Frame.ptpUdp (f : Frame) (o : Nat) : Option Bool :=
  let l := instances f.phv.toNat
  if l.contains (0x0B, o - 8) && decide (8 ≤ o) then
    some (match (l.filter (fun i => decide (i.2 < o - 8) && (i.1 = 4 || i.1 = 5))).getLast? with
      | some (5, _) => true
      | _ => false)
  else none

/-- Write PTP bytes at `at_` and keep the UDP checksum true; under UDP/IPv4 with `zero` it becomes 0. -/
def Frame.ptpWrite (f : Frame) (o at_ : Nat) (new : List Byte) (zero : Bool) : Frame :=
  let bs := patch f.bytes at_ new
  match f.ptpUdp o with
  | none => { f with bytes := bs }
  | some v6 =>
    let ck := beAt f.bytes (o - 2) 2
    let e := at_ - (at_ - o) % 2
    let n := new.length + 3 - (new.length + 1) % 2
    let ck' := if !v6 && (zero || ck = 0) then 0
      else
        let c := csumAdj ck (words16 (slice f.bytes e n)) (words16 (slice bs e n))
        if c = 0 then 0xFFFF else c
    { f with bytes := patch bs (o - 2) (bytesBE 2 ck') }

/-- Add to correctionField. -/
def Frame.addCorrection (f : Frame) (o : Nat) (d : Int) (zero : Bool) : Frame :=
  f.ptpWrite o (o + 8) (bytesBE 8 (((beAt f.bytes (o + 8) 8 : Int) + d).emod (2 ^ 64)).toNat) zero

/-- What the TSU does to a marked frame that leaves port p with capture `ts` (R70–R73); `protect` tells that MACsec
protects it. -/
def State.tsuTx (s : State) (p : Nat) (f : Frame) (ts : Instant) (protect : Bool) : Frame × State :=
  let cfg := s.rdA (tsuB p + 0x40)
  match f.ptpOff with
  | none => (f, s)
  | some o =>
    if !bit cfg 0 then (f, s)
    else
      let typ := beAt f.bytes o 1 % 16
      let one := f.oneStep && bit cfg 2 && typ = 0
      let tc := match f.src with
        | .port i => if bit cfg 3 && decide (typ ≤ 2) then some i else none
        | _ => none
      let s := if f.src = .mgc && !f.oneStep && bit cfg 1 then
          s.txtsPush p ⟨ts, typ, beAt f.bytes (o + 4) 1, beAt f.bytes (o + 30) 2⟩
        else s
      if protect && (one || tc.isSome) then (f, s.bump32 (tsuB p + 0x74) 1)
      else
        let zero := bit cfg 5
        let f := if one then
            (f.ptpWrite o (o + 34) (bytesBE 6 (secOf ts) ++ bytesBE 4 (nsOf ts)) zero).addCorrection o (fracOf ts) zero
          else f
        let f := match tc with
          | none => f
          | some i =>
            let peer : Int := if typ = 0 && bit cfg 4 then s.rd (tsuB i + 0x4C) else 0
            f.addCorrection o ((ts : Int) - f.entry + peer) false
        (f, s)

/-! ### Transmission (R115, R208–R210) -/

/-- The start grid's period of a port in ps (R208). -/
def State.gridPs (s : State) (p : Nat) : Nat :=
  match s.fld (macB (p / 4) + 0x40) 3 0 with
  | 7 => 3200 | 6 => 1280 | 5 => 640 | 3 => 640 | 4 => 640 | 2 => 320 | 1 => 160 | _ => 1280

/-- The first grid instant at or after R (R208). -/
def State.relInstant (s : State) (p : Nat) (r : Instant) : Instant :=
  let g := s.gridPs p * 8192
  let u := r % uS
  let k := (u * 125 + g - 1) / g
  r - u + (k * g + 124) / 125

/-- The start-to-reference-plane delay in use, in ps: PRF_PORT_ADJ once CALIBRATED, else the factory delay for the port's speed and FEC
(R209, R210). -/
def State.startDelay (s : State) (p : Nat) : Int :=
  if s.flag (prfB + 0x104 + 0x10 * p) 31 then signed 32 (s.rd (prfB + 0x10C + 0x10 * p))
  else Config.startFactory (s.fld (macB (p / 4) + 0x40) 3 0) (bits (s.mac p).cfg 9 8)

/-- A copy starts transmission on port p now (R115): MACsec, which may discard it, the TSU capture, PTP, which leaves a protected frame as
it is, the egress record, the wire. -/
def State.startTx (s : State) (p : Nat) (c : Copy) : State :=
  let protect := s.secWants p c.f
  let r := if protect then s.secTx p c.f.bytes else (some c.f.bytes, s)
  match r.1 with
  | none => (r.2.leaveGroup c).endCopy c.f.id (!c.deep) .dropped
  | some sealed =>
    let t := r.2.txCapture p
    let f := t.2.2.tsuTx p c.f t.1 protect
    let c := { c with f := f.1 }
    let wire := if protect then sealed else c.f.bytes
    let s := f.2.egressRecord p c wire t.1 t.2.1
    let s := s.emit (.txFrame p wire)
    let s := s.calSample p t.1
    let len := wire.length + 4
    s.setMac p (fun m => { m with cur := some ⟨c, len, s.mono + s.wireTime p len, ⟨t.1, t.2.1, c.prf⟩⟩ })

end Sys2Proof.Machine
end

