-- ==== Sys2Proof/Machine/OrbOps.lean ====
section
/-! DEFINITION. Orbit gate lists (10_queues_and_scheduling.md R228–R230). -/
namespace Sys2Proof.Machine

/-- Base of port p's Orbit registers. -/
def orbA (p : Nat) : Nat := schB + 0x100000 + 0x10000 * p
/-- A port's Orbit state. -/
def State.orb (s : State) (p : Nat) : OrbSt := mget (fun _ => {}) s.dp.sch.orb p
/-- Update it. -/
def State.setOrb (s : State) (p : Nat) (g : OrbSt → OrbSt) : State :=
  s.setSch (fun d => { d with orb := mput (fun _ => {}) d.orb p (g (s.orb p)) })

/-- A bank of a list: base, cycle and entries, in units. -/
structure OrbBank where
  base : Instant
  cycle : Nat
  ents : List (Nat × Nat)

/-- Bank b of port p (R228). -/
def State.orbBank (s : State) (p b : Nat) : OrbBank :=
  let a := orbA p + 0x20 + 0x20 * b
  let e := orbA p + 0x8000 + 0x2000 * b
  ⟨(s.rd a + s.fld (a + 4) 15 0 * 2 ^ 32) * uS + s.fld (a + 8) 29 0 * uNs, s.fld (a + 12) 29 0 * uNs,
    (List.range (s.fld (a + 16) 10 0)).map (fun i => (s.rd (e + 8 * i), s.rd (e + 8 * i + 4) * uNs))⟩

/-- The cycle number at t, and how far into the cycle t lies (every integer k, negative included). -/
def OrbBank.cycleAt (b : OrbBank) (t : Instant) : Int × Nat :=
  let d : Int := (t : Int) - b.base
  (d / (b.cycle : Int), (d % (b.cycle : Int)).toNat)

/-- Entry in force `off` into a cycle: its number, gates, and where it ends. The last entry holds to the cycle's end. -/
def orbSlot (cycle : Nat) : List (Nat × Nat) → Nat → Nat → Nat → Nat × Nat × Nat
  | [], i, _, _ => (i, 0xFFFFFFFF, cycle)
  | [(g, _)], i, _, _ => (i, g, cycle)
  | (g, d) :: r, i, st, off => if off < st + d then (i, g, min (st + d) cycle) else orbSlot cycle r (i + 1) (st + d) off

/-- Entry number, gates and the time left to the entry's end at t. -/
def OrbBank.at_ (b : OrbBank) (t : Instant) : Nat × Nat × Nat :=
  let o := (b.cycleAt t).2
  let r := orbSlot b.cycle b.ents 0 0 o
  (r.1, r.2.1, r.2.2 - o)

/-- The start of the next occurrence of entry e at or after t, where it occurs (R228). -/
def OrbBank.next (b : OrbBank) (e : Nat) (t : Instant) : Option Instant :=
  let so := ((b.ents.take e).map (·.2)).sum
  if e < b.ents.length && decide (so < b.cycle) then
    let d : Int := (t : Int) - b.base - so
    let k : Int := -((-d) / (b.cycle : Int))
    some ((b.base : Int) + so + k * b.cycle).toNat
  else none

/-- The first cycle start with k ≥ 0 at or after t (R229). -/
def OrbBank.first (b : OrbBank) (t : Instant) : Instant :=
  if t ≤ b.base then b.base else b.base + (t - b.base + b.cycle - 1) / b.cycle * b.cycle

/-- ORB_CTRL fields. -/
def State.orbEn (s : State) (p : Nat) : Bool := s.flag (orbA p) 31
def State.orbPending (s : State) (p : Nat) : Bool := s.flag (orbA p) 1
def State.orbActive (s : State) (p : Nat) : Nat := s.fld (orbA p) 0 0
/-- The bank in force, none when Orbit does not act yet. -/
def State.orbRun (s : State) (p : Nat) : Option OrbBank :=
  if s.orbEn p && (s.orb p).running then some (s.orbBank p (s.orbActive p)) else none
/-- The pending bank. -/
def State.orbPend (s : State) (p : Nat) : Option OrbBank :=
  if s.orbEn p && s.orbPending p then some (s.orbBank p (1 - s.orbActive p)) else none

/-- The gates of port p at t: every gate is open while no bank is in force (R229). -/
def State.gatesAt (s : State) (p : Nat) (t : Instant) : Nat :=
  match s.orbRun p with
  | none => 0xFFFFFFFF
  | some b => (b.at_ t).2.1

/-- When queue q's gate next closes at or after t, walking at most n entries; the pending bank takes over at S. -/
def State.gateCloses (s : State) (p q : Nat) : Nat → Instant → Option Instant
  | 0, _ => none
  | n + 1, t =>
    let sw := decide ((s.orb p).start ≤ t)
    let pend := s.orbPend p
    let cur := if sw && pend.isSome then pend else s.orbRun p
    let seg := match cur with
      | none => (0, 0xFFFFFFFF, 0)
      | some b => b.at_ t
    if !seg.2.1.testBit q then some t
    else
      let e := t + seg.2.2
      match cur, pend with
      | none, none => none
      | none, some _ => s.gateCloses p q n (s.orb p).start
      | some _, none => s.gateCloses p q n e
      | some _, some _ => s.gateCloses p q n (if sw then e else min e (s.orb p).start)

/-- Entries that a walk for a gate's close need look at. -/
def State.orbFuel (s : State) (p : Nat) : Nat :=
  2 * (s.fld (orbA p + 0x30) 10 0 + s.fld (orbA p + 0x50) 10 0) + 6

/-- A transmission from `from_` for `dur` ends before the gate of queue q next closes (R223). -/
def State.fitsGate (s : State) (p q : Nat) (t from_ : Instant) (dur : Nat) : Bool :=
  match s.gateCloses p q (s.orbFuel p) t with
  | none => true
  | some c => decide (from_ + dur ≤ c)

/-- The longest open window of queue q in a bank's cycle, over two cycles; none when it never closes. -/
def OrbBank.window (b : OrbBank) (q : Nat) : Option Nat :=
  let clip := (b.ents.foldl (fun (a : List (Nat × Nat) × Nat) e =>
    (a.1 ++ [(e.1, min e.2 (b.cycle - a.2))], a.2 + min e.2 (b.cycle - a.2))) ([], 0))
  let rest := b.cycle - clip.2
  let ents := match clip.1.getLast? with
    | none => []
    | some l => clip.1.dropLast ++ [(l.1, l.2 + rest)]
  if ents.all (fun e => e.1.testBit q) then none
  else some ((ents ++ ents).foldl (fun (a : Nat × Nat) e =>
    if e.1.testBit q then (max a.1 (a.2 + e.2), a.2 + e.2) else (a.1, 0)) (0, 0)).1

/-- The release time of the ORBIT mode: the list that will be in force at R (R206). -/
def State.orbNext (s : State) (p e : Nat) (t : Instant) : Option Instant :=
  let run := (s.orbRun p).bind (fun b => b.next e t)
  match s.orbPend p with
  | none => run
  | some b =>
    let st := (s.orb p).start
    match run with
    | some r => if r < st then some r else b.next e (max t st)
    | none => b.next e (max t st)

/-- ORB_STAT as it reads now. -/
def State.orbStat (s : State) (p : Nat) : Nat :=
  match s.orbRun p with
  | none => 0
  | some b => (b.at_ s.tb).1 % 1024 * 2 ^ 22 + ((b.cycleAt s.tb).1 % (2 ^ 22 : Int)).toNat

/-- Bring every shaper of a port up to now, before its gates change. -/
def State.settlePort (s : State) (p : Nat) : State := (List.range 32).foldl (fun s q => s.settleCredit p q) s

/-- After a set or step each port's position is taken afresh (R230). -/
def State.orbResync (s : State) : State :=
  (List.range 16).foldl (fun s p =>
    if s.orbEn p then
      let s := s.settlePort p
      (s.setOrb p (fun o => { o with gates := s.gatesAt p s.tb, since := s.mono })).raise schB Ev.orbResync (Src.port p)
    else s) s

/-- Setting EN or SWITCH makes the other bank pending, unless the write is refused (R229). -/
def State.orbArm (s : State) (p v : Nat) : State :=
  let o := orbA p
  let b := 1 - s.orbActive p
  let pa := o + 0x20 + 0x20 * b
  if s.orbPending p || s.fld (pa + 16) 10 0 = 0 || s.fld (pa + 12) 29 0 = 0 then s.reject schB (o - schB)
  else
    let s := (s.setFld o 31 30 (bits v 31 30)).setFld o 1 1 1
    s.setOrb p (fun x => { x with start := (s.orbBank p b).first (s.tb + uUs), since := s.mono })

/-- Clearing EN opens every gate at once (R229). -/
def State.orbOff (s : State) (p v : Nat) : State :=
  ((s.setFld (orbA p) 31 30 (bits v 31 30)).setFld (orbA p) 1 1 0).setOrb p (fun x => { x with running := false, gates := 0xFFFFFFFF })

/-- A write of ORB_CTRL (R229). -/
def State.orbWrite (s : State) (p v : Nat) : State :=
  if !bit v 31 then s.orbOff p v
  else if !s.orbEn p || bit v 29 then s.orbArm p v
  else s.setFld (orbA p) 30 30 (bits v 30 30)

end Sys2Proof.Machine
end

