-- ==== Sys2Proof/Machine/RelOps.lean ====
section
/-! DEFINITION. The sequencer and proofing (09_sequencer_and_proofing.md R197–R214). -/
namespace Sys2Proof.Machine

/-! ### Proofing -/

/-- Held entries of a quad. -/
def State.quadHeld (s : State) (q : Nat) : Nat := ((List.range 4).map (fun i => (s.heldOf (4 * q + i)).length)).sum

/-- R by the rule's mode, none where it gives none (R206). Under FANOUT that is the group's R, fixed or about to be fixed by the entry of
this copy, the last one expected, with ready time `ready` (R213). -/
def State.prfTime (s : State) (c : Copy) (ready : Instant) : Option Instant :=
  let w := c.rule.toNat
  let wins := bit w 59 && c.f.rel.isSome
  let base := c.f.entry + bits w 29 0 * uNs
  match bits w 62 60 with
  | 0 => c.f.rel
  | 1 => if wins then c.f.rel else some base
  | 2 => if wins then c.f.rel else s.orbNext c.vport (bits w 58 49) base
  | _ => (c.grp.bind s.group).bind (fun x => match x.r with
      | some r => some r
      | none => if x.missing = 1 then some (max x.ready ready + x.guard) else none)

/-- A copy of a group enters: expected no longer, its ready time counted, the wait begun (R213). -/
def Group.enter (x : Group) (ready : Instant) (mono : Nat) : Group :=
  { x with missing := x.missing - 1, ready := max x.ready ready, first := some (x.first.getD mono) }

/-- A port copy reaches proofing after the egress pipeline (R205–R207, R211): the causes of a miss in their order. One that does not enter
is lost to its group (R213), and its data is at hand in the pool or the refill window. -/
def State.prfEnter (s : State) (c : Copy) : State :=
  let w := c.rule.toNat
  let mode := bits w 62 60
  let q := c.vport / 4
  let bare := { c with at_ := [] }
  if !bit c.f.ce.toNat 57 || !bit w 63 || (mode = 0 && c.f.rel.isNone) || c.prf = 2 then s.stageCopy bare
  else
    let lead := s.leadOf c.vport
    let ready := s.now + lead
    let grp := c.grp.bind s.group
    let r := s.prfTime c ready
    let miss := fun (s : State) => (s.lostCopy c).prfMiss { bare with grp := none }
    if !s.running prfB || (mode = 3 && grp.isNone) || (mode = 2 && r.isNone) then miss s
    else if s.beyond (r.getD 0) then (s.lostCopy c).horizonDrop bare
    else if 65536 ≤ s.quadHeld q then miss ((s.bump (prfCnt q 5) 1).raise prfB Ev.prfFull (Src.quad q))
    else if decide (r.getD ready < ready) then miss s
    else
      let s := (s.setHeld c.vport (s.heldOf c.vport ++ [{ cp := c, ready := ready, lead := lead, r := r }])).bump (prfCnt q 0) 1
      match grp with
      | none => s
      | some x => s.settleGroup (x.enter ready s.mono)

/-- The held entry of a port that releases first: smallest release instant, then entry order. -/
def State.nextHeld (s : State) (p : Nat) (sel : Held → Bool) : Option (Held × Instant) :=
  ((s.heldOf p).filter sel).foldl (fun (b : Option (Held × Instant)) h =>
    match h.r with
    | none => b
    | some r =>
      let i := s.relInstant p r
      match b with
      | none => some (h, i)
      | some x => if i < x.2 then some (h, i) else some x) none

/-- Take one held entry of a port out. -/
def State.dropHeld (s : State) (h : Held) : State := s.setHeld h.cp.vport ((s.heldOf h.cp.vport).erase h)

/-- The start instant of a held frame (R209). -/
def State.startInstant (s : State) (p : Nat) (rel : Instant) : Instant := moveBy rel (-(psInt (s.startDelay p)))

/-- A forward step past R misses the frames it passes (R59, R211). -/
def State.stepMiss (s : State) : State :=
  (List.range 16).foldl (fun s p =>
    ((s.heldOf p).filter (fun h => match h.r with
      | none => false
      | some r => decide (r < s.tb))).foldl (fun s h => (s.dropHeld h).prfMiss h.cp) s) s

/-! ### Sequencer -/

/-- Update the sequencer. -/
def State.setSeq (s : State) (g : SeqSt → SeqSt) : State := s.setDp (fun d => { d with seq := g d.seq })
/-- SEQ_CFG. -/
def State.seqOn (s : State) : Bool := s.flag (seqB + 0x40) 31 && s.running seqB
def State.settleNs (s : State) : Nat := s.fld (seqB + 0x40) 12 0 * uNs
/-- Input FIFO of a pipeline. -/
def State.seqFifo (s : State) (n : Nat) : List Member := mget (fun _ => []) s.dp.seq.fifo n
def State.setFifo (s : State) (n : Nat) (l : List Member) : State :=
  s.setSeq (fun q => { q with fifo := mput (fun _ => []) q.fifo n l })

/-- Bypass a member: straight to its destination without a number (R202). -/
def State.seqBypass (s : State) (f : Frame) (d : Dest) : State :=
  let s := s.bump (seqB + 0x120) 1
  let s := if s.dp.seq.bypassed then s
    else (s.setSeq (fun q => { q with bypassed := true })).raise seqB Ev.seqBypass Src.device
  s.enqueueAll f d false

/-- A new bypass period begins: SEQ stopped sequencing (R202). -/
def State.seqPeriod (s : State) : State := s.setSeq (fun q => { q with bypassed := false })

/-- A member reaches its pipeline's input FIFO (R198, R202). -/
def State.seqPut (s : State) (f : Frame) (d : Dest) : State :=
  if !s.seqOn then s.seqBypass f d
  else
    let l := s.seqFifo f.pipe
    if 4096 ≤ l.length then
      ((s.bump (seqB + 0x110) 1).raise seqB Ev.seqInputDrop (Src.pipe f.pipe)).endCopy f.id true .dropped
    else
      let s := s.setFifo f.pipe (l ++ [{ f := f, dest := d, pos := s.dp.seq.pos, arr := s.tb }])
      let s := s.setSeq (fun q => { q with pos := q.pos + 1 })
      s.setFld (seqB + 0x4C) 12 0 (max (l.length + 1) (s.fld (seqB + 0x4C) 12 0))

/-- A member's key (R197): entry stamp, source vport, pipeline, position, in order of significance. -/
def Member.before (a b : Member) : Bool :=
  let lt := fun (x y : Nat) (r : Bool) => decide (x < y) || (x = y && r)
  lt a.f.entry b.f.entry (lt a.f.src.vport b.f.src.vport (lt a.f.pipe b.f.pipe (decide (a.pos < b.pos))))

/-- The member with the smallest key. -/
def firstMember (l : List Member) : Option Member :=
  l.foldl (fun b m => match b with
    | none => some m
    | some x => if m.before x then some m else some x) none

/-- The cycle instant SEQ runs at: multiples of 4 ns (R198). -/
def State.seqCycle (s : State) : Instant := s.tb - s.tb % (4 * uNs)

/-- The head that admission would take: of the FIFO heads that stood there at the cycle's instant. -/
def State.seqHead (s : State) : Option Member :=
  if s.seqOn && decide (s.dp.seq.hold.length < 4096) then
    firstMember (((List.range 4).filterMap (fun n => (s.seqFifo n).head?)).filter (fun m => decide (m.arr ≤ s.seqCycle)))
  else none

/-- HELD follows the hold. -/
def State.seqLevel (s : State) : State := s.setFld (seqB + 0x4C) 28 16 s.dp.seq.hold.length

/-- Admission (R198 step 1, R199). -/
def State.seqAdmit (s : State) (m : Member) : State :=
  let c := s.seqCycle
  let settle := m.f.entry + s.settleNs
  let late := decide (settle < c)
  let s := s.setFifo m.f.pipe ((s.seqFifo m.f.pipe).drop 1)
  let s := s.setSeq (fun q => { q with hold := q.hold ++ [{ m with settle := settle, late := late }], admitAt := some c })
  let s := if late then s.wr (seqB + 0x50) (max (s.rd (seqB + 0x50)) (min top32 ((c - settle) / uNs))) else s
  s.seqLevel

/-- Source of the SEQ_LATE event: the member's source vport (Table 21-2). -/
def lateSrc (v : Nat) : Nat :=
  if v < 16 then Src.port v else if v < 272 then Src.fn (v - 16) else if v < 284 then Src.cluster (v - 272) else Src.device

/-- Number a held frame and queue it (R200, R201). -/
def State.seqNumber (s : State) (m : Member) : State :=
  let c := s.seqCycle
  let n := s.rd (seqB + 0x44) + s.rd (seqB + 0x48) * 2 ^ 32
  let s := (s.setSeq (fun q => { q with hold := q.hold.erase m, emitAt := some c })).seqLevel
  let s := (s.wr (seqB + 0x44) (bits (n + 1) 31 0)).wr (seqB + 0x48) (bits (n + 1) 63 32)
  let s := s.bump (seqB + 0x100) 1
  let s := if m.late then (s.bump (seqB + 0x108) 1).raise seqB Ev.seqLate (lateSrc m.f.src.vport) else s
  let md := mdPut (mdPut (mdPut (mdPut m.f.md 12 31 0 (n / 2 ^ 32)) 13 31 0 n) 3 4 4 1) 3 3 3 (b2n m.late)
  let f := { m.f with md := md, seqno := some n, late := m.late }
  let s := match f.unit, f.rx with
    | some u, some x =>
      if s.recordsOn then
        (s.commitUnit (seqPayload m.late x.port f.entry n (u.getD (2 ^ 64 - 1)) c) (bits f.ce.toNat 62 59) f.entry).2
      else s
    | _, _ => s
  s.enqueueAll f m.dest true

/-- After a set or step the settle instants of held frames are pulled in (R203); what waits in the FIFOs arrived before the step. -/
def State.seqStep (s : State) : State :=
  let cap := s.tb + s.settleNs
  let s := (List.range 4).foldl (fun s n => s.setFifo n ((s.seqFifo n).map (fun m => { m with arr := min m.arr s.tb }))) s
  s.setSeq (fun q => { q with hold := q.hold.map (fun m => { m with settle := min m.settle cap }), admitAt := none, emitAt := none })

/-- Everything that follows a set or step besides TIM's own (R203, R211, R230). -/
def State.afterStep (s : State) : State := (s.seqStep.stepMiss).orbResync

end Sys2Proof.Machine
end

