-- ==== Sys2Proof/Machine/MatOps.lean ====
section
/-! DEFINITION. The match-action stages, the level-2 rewrite and the class table (07_match_action.md). -/
namespace Sys2Proof.Machine

/-! ### Banks (Table 07-13) -/

/-- Bank b of pipeline pair n, ingress or egress. -/
def matBank (n : Nat) (eg : Bool) (b : Nat) : Nat :=
  if eg then matB n + 0x90000 + 0x20000 * b else matB n + 0x10000 + 0x40000 * b
/-- RWR_CNT_n. -/
def rwrCnt (pair n : Nat) : Nat := matB pair + 0x200 + 8 * n
/-- Slot configuration of stage st slot k, the nine words. -/
def slotCfg (bank st k : Nat) : Nat := bank + 0x100 * st + 0x40 * k
/-- Action entry a of stage st. -/
def actionA (bank : Nat) (eg : Bool) (st a : Nat) : Nat :=
  if eg then bank + 0xC000 + 0x2000 * st + 16 * a else bank + 0x10000 + 0x4000 * st + 16 * a

/-- Bad words of a run of bank words. -/
def State.badIn (s : State) (a words : Nat) : List Nat :=
  ((List.range words).map (fun i => a + 4 * i)).filter s.badWord

/-- Report a bank word with bad parity (R172): captured with the bank and its offset, MAT_PARITY. -/
def State.matBad (s : State) (n a : Nat) : State :=
  let o := a - matB n
  let y : Synd := if o < 0x90000 then { mem := 0, sub := (o - 0x10000) / 0x40000, nbits := 1, addr := o }
    else { mem := 0, sub := 2 + (o - 0x90000) / 0x20000, nbits := 1, addr := o }
  s.raiseAt (matB n) Ev.matParity (Src.pipe n) y

/-- A pass reads a bad entry: each bad word reported, the case counted in MAT_CNT_11. -/
def State.matHit (s : State) (n : Nat) (l : List Nat) : State := (l.foldl (fun s a => s.matBad n a) s).bump (matCnt n 11) 1

/-! ### Metadata fields (Table 07-4) -/

/-- Word and bits of a writable field, and the bit its write also sets (R153). -/
def fieldAt : Nat → Option (Nat × Nat × Nat × Option (Nat × Nat))
  | 0x01 => some (1, 31, 23, some (1, 22)) | 0x02 => some (1, 20, 9, some (1, 21)) | 0x03 => some (2, 31, 0, none)
  | 0x04 => some (3, 25, 25, none) | 0x05 => some (3, 24, 24, none) | 0x06 => some (3, 22, 16, none)
  | 0x07 => some (3, 15, 8, some (3, 23)) | 0x08 => some (3, 5, 5, none) | 0x09 => some (4, 31, 23, none)
  | 0x0A => some (4, 12, 0, some (4, 13)) | 0x0B => some (5, 31, 0, none) | 0x0C => some (10, 31, 0, none)
  | 0x0D => some (11, 31, 0, none) | 0x0E => some (12, 31, 0, none) | 0x0F => some (13, 31, 0, none)
  | 0x10 => some (14, 31, 0, none) | 0x11 => some (15, 31, 0, none) | _ => none

/-- Container Wc of the vector (R138). -/
def phvW (phv c : Nat) : Nat := bits phv (4095 - 32 * c) (4064 - 32 * c)

/-- What a stage reads: the vector, the metadata at stage entry, the frame's bytes. -/
structure View where
  phv : Nat
  md : BitVec 512

/-- The value of a metadata operation of width w before truncation; none for an OP without effect (Table 07-3). -/
def opValue (v : View) (op hi lo wd imm data : Nat) : Option Nat :=
  match op with
  | 0x1 => some imm
  | 0x2 => some (data >>> (imm % 64))
  | 0x3 => some ((if bit imm 7 then mdF v.md (imm % 16) 31 0 else phvW v.phv (imm % 128)) >>> bits imm 12 8)
  | 0x4 => some (mdF v.md wd hi lo + imm)
  | 0x5 =>
    let a := bits imm 13 7
    let b := bits imm 6 0
    some (if b < a then 0
      else (crc32c ((List.range (b + 1 - a)).flatMap (fun i => bytesBE 4 (phvW v.phv (a + i))))).toNat)
  | 0x6 => some (if imm % 32 < bits (phvW v.phv 0) 15 11 then
      bits v.phv (4095 - 128 - 16 * (imm % 32)) (4080 - 128 - 16 * (imm % 32)) % 512 else 0)
  | _ => none

/-- One metadata operation (R152, R153, R167). -/
def runOp (v : View) (eg : Bool) (data opw : Nat) (md : BitVec 512) : BitVec 512 :=
  let field := bits opw 19 14
  match fieldAt field with
  | none => md
  | some (wd, hi, lo, side) =>
    match opValue v (bits opw 23 20) hi lo wd (bits opw 13 0) data with
    | none => md
    | some x =>
      let x := x % 2 ^ (hi + 1 - lo)
      if eg && [1, 2, 4, 6].contains field then md
      else if field = 6 && !(decide (0x40 ≤ x) && decide (x ≤ 0x7F)) then md
      else
        let md := mdPut md wd hi lo x
        match side with
        | none => md
        | some (sw, sb) => mdPut md sw sb sb 1

/-- OP1 holds an OP together with a reserved FIELD (R155). -/
def op1Bad (e : Nat) : Bool := bits e 71 68 ≠ 0 && (fieldAt (bits e 67 62)).isNone

/-- The level-1 part of an action (R151). -/
def levelOne (e : Nat) (md : BitVec 512) : BitVec 512 :=
  let md := if bit e 126 then mdPut md 0 31 24 (bits e 123 116) else md
  let md := if bit e 125 then mdPut md 0 23 22 (bits e 115 114) else md
  if bit e 124 then mdPut md 0 21 8 (bits e 113 100) else md

/-- Run action a of a stage on the metadata (R150, R151). -/
def State.runAction (s : State) (n bank : Nat) (eg : Bool) (st a data : Nat) (v : View) (md : BitVec 512) :
    BitVec 512 × State :=
  let addr := actionA bank eg st a
  let bad := s.badIn addr 4
  if eg && decide (512 ≤ a) then (md, s)
  else if !bad.isEmpty then (md, s.matHit n bad)
  else
    let e := s.rd128 addr
    if !bit e 127 then (md, s)
    else
      let md := if eg then md else levelOne e md
      let md := runOp v eg data (bits e 95 72) md
      let md := if op1Bad e then md else runOp v eg data (bits e 71 48) md
      let s := if op1Bad e then s.bump (matB n + 0x168) 1 else s
      (runOp v eg data (bits e 23 0) (runOp v eg data (bits e 47 24) md), s)

/-- A slot's key sources: the concatenation and its width (R149). -/
def State.slotKeyOf (s : State) (cfg : Nat) (v : View) : Nat × Nat :=
  (List.range 16).foldl (fun (k : Nat × Nat) i =>
    let w := s.rd (cfg + 4 + 4 * (i / 2))
    let src := if i % 2 = 0 then w / 65536 else w % 65536
    if !bit src 15 then k
    else
      let x := if bit src 14 then (if bits src 13 7 < 16 then mdF v.md (bits src 13 7) 31 0 else 0) else phvW v.phv (bits src 13 7)
      (k.1 * 2 ^ 32 + x, k.2 + 32)) (0, 0)

/-- A key fitted to a width at its low end (R149). -/
def fitKey (k : Nat × Nat) (w : Nat) : Nat := if w ≤ k.2 then k.1 >>> (k.2 - w) else k.1 <<< (w - k.2)

/-- Kinds that a slot looks up: exact in the first slots, then ternary, then LPM (R148, R176). -/
def slotKinds (eg : Bool) (k : Nat) : List Nat :=
  if eg then (if k = 0 then [1, 2] else [3]) else if k < 2 then [1, 2] else if k = 2 then [3] else [4, 5]

/-- A slot's lookup (R148–R150). -/
def State.slotLookup (s : State) (n : Nat) (eg : Bool) (table k : Nat) (key : Nat × Nat) : Option (Nat × Nat) × State :=
  if eg && decide (16 ≤ table) then (none, s.bump (matCnt n 9) 1)
  else
    let t := s.tab (if eg then 1 else 0) n table
    if !(slotKinds eg k).contains t.kind then (none, s.bump (matCnt n 9) 1)
    else if !t.en then (none, s)
    else if t.kind = 3 then s.lookupTernary t (fitKey key 512)
    else if t.kind = 4 then s.lookupLpm t (fitKey key 32 * 2 ^ 96)
    else if t.kind = 5 then s.lookupLpm t (fitKey key 128)
    else s.lookupExact t (fitKey key t.keyw)

/-- One slot of a stage (R149, R150, R172). `v` is what keys read, `av` what actions read. -/
def State.runSlot (s : State) (n bank : Nat) (eg : Bool) (st k : Nat) (v av : View) (md : BitVec 512) : BitVec 512 × State :=
  let cfg := slotCfg bank st k
  let bad := s.badIn cfg 9
  let w := s.rd cfg
  if !bad.isEmpty then (md, s.matHit n bad)
  else if !bit w 31 then (md, s)
  else
    let r := s.slotLookup n eg (bits w 30 26) k (s.slotKeyOf cfg v)
    match r.1 with
    | some (a, d) => r.2.runAction n bank eg st a d av md
    | none => if bit w 25 then r.2.runAction n bank eg st (bits w 24 15) 0 av md else (md, r.2)

/-- The L2 lookups of stage 0 on a frame (R148). -/
def State.l2Of (s : State) (n : Nat) (f : Frame) (phv : Nat) (md : BitVec 512) : BitVec 512 × State :=
  match instances phv with
  | [] => (md, s)
  | (_, o) :: _ =>
    let fid := match (instances phv).find? (fun i => i.1 = 2) with
      | none => 0
      | some i => beAt f.bytes i.2 2 % 4096
    let r := s.l2Stage n fid (beAt f.bytes o 6) (beAt f.bytes (o + 6) 6) (mdF md 1 8 0)
    let md := mdPut md 9 31 0 r.1
    (if r.2.1 then mdPut md 3 24 24 1 else md, r.2.2)

/-- One stage (R148–R150). -/
def State.runStage (s : State) (n bank : Nat) (eg : Bool) (f : Frame) (phv st : Nat) (md : BitVec 512) : BitVec 512 × State :=
  let v : View := ⟨phv, md⟩
  let r := if !eg && st = 0 then s.l2Of n f phv md else (md, s)
  let av : View := ⟨phv, mdPut md 9 31 0 (mdF r.1 9 31 0)⟩
  (List.range (if eg then 2 else 4)).foldl (fun (a : BitVec 512 × State) k => a.2.runSlot n bank eg st k v av a.1) r

/-- All stages of a pass. -/
def State.runStages (s : State) (n bank : Nat) (eg : Bool) (f : Frame) (phv : Nat) (md : BitVec 512) : BitVec 512 × State :=
  (List.range (if eg then 6 else 12)).foldl (fun (a : BitVec 512 × State) st => a.2.runStage n bank eg f phv st a.1) (md, s)

/-! ### Level-2 rewrite (R156–R160) -/

/-- A rewrite in progress: bytes, instances (TYPE, offset, and the offset it was parsed at), the cursor's end, the
metadata, operations skipped, the failure code, and bad entries read. -/
structure Rw where
  bytes : List Byte
  inst : List (Nat × Nat × Option Nat)
  pend : Nat
  md : BitVec 512
  skipped : Nat := 0
  fail : Nat := 0
  bad : List (List Nat) := []

/-- The length of a library header at o (Table 06-4); none for a type that a program chose. -/
def hdrLen (bs : List Byte) (typ o : Nat) : Option Nat :=
  let b := fun i => beAt bs (o + i) 1
  match typ with
  | 0x01 => some 14 | 0x02 => some 4 | 0x03 => some 4 | 0x04 => some (4 * (b 0 % 16)) | 0x05 => some 40
  | 0x06 => some (8 * (b 1 + 1)) | 0x07 => some (8 * (b 1 + 1)) | 0x08 => some 8 | 0x09 => some (8 * (b 1 + 1))
  | 0x0A => some (4 * (b 12 / 16)) | 0x0B => some 8 | 0x0C => some 8 | 0x0D => some 8
  | 0x0E => some (4 + 4 * (b2n (bit (b 0) 7) + b2n (bit (b 0) 5) + b2n (bit (b 0) 4)))
  | 0x0F => some 8 | 0x10 => some (8 + 4 * (b 0 % 64)) | 0x11 => some 34 | 0x12 => some 28
  | 0x13 => some (if bit (b 0) 5 then 16 else 8) | 0x14 => some 8 | _ => none

/-- Where instance i ends: by its own length where it is a library header, and at the latest where the next instance begins or the parse
ended, as an unrecorded header may stand between them (DEDUCED). -/
def Rw.fin (r : Rw) (i : Nat) : Nat :=
  let next := ((r.inst.drop (i + 1)).head?.map (·.2.1)).getD r.pend
  match (r.inst.drop i).head? with
  | none => next
  | some (typ, o, _) => match hdrLen r.bytes typ o with
    | none => next
    | some n => min next (o + n)

/-- An operation that is skipped and counted. -/
def Rw.skip (r : Rw) : Rw := { r with skipped := r.skipped + 1 }

/-- Insert bytes at offset o, with instances (TYPE, offset) placed at position k of the list. -/
def Rw.insert (r : Rw) (o k : Nat) (new : List Byte) (is : List (Nat × Nat)) : Rw :=
  let n := new.length
  { r with
    bytes := r.bytes.take o ++ new ++ r.bytes.drop o
    inst := r.inst.take k ++ is.map (fun i => (i.1, i.2, none)) ++ (r.inst.drop k).map (fun i => (i.1, i.2.1 + n, i.2.2))
    pend := r.pend + n }

/-- Remove the bytes [o, o + n) and instance k. -/
def Rw.remove (r : Rw) (o n k : Nat) : Rw :=
  { r with
    bytes := r.bytes.take o ++ r.bytes.drop (o + n)
    inst := r.inst.take k ++ (r.inst.drop (k + 1)).map (fun i => (i.1, i.2.1 - n, i.2.2))
    pend := r.pend - n }

/-- Write bytes in place. -/
def Rw.write (r : Rw) (o : Nat) (new : List Byte) : Rw := { r with bytes := patch r.bytes o new }

/-- Where the EtherType stands that names what follows instance k: the last two bytes of the nearest Ethernet header or
tag at or before it. -/
def Rw.etherAt (r : Rw) (k : Nat) : Option Nat :=
  ((List.range (k + 1)).reverse.find? (fun i => match (r.inst.drop i).head? with
    | some (1, _, _) => true
    | some (2, _, _) => true
    | _ => false)).map (fun i => r.fin i - 2)

/-- Fill the headers of a template that was inserted at o (R160): lengths and header checksums run to the end of the
frame. -/
def fillTemplate (hash : Option Nat) (is : List (Nat × Nat)) (bs : List Byte) : List Byte :=
  is.foldl (fun bs i =>
    let o := i.2
    if i.1 = 4 then
      let bs := patch (patch bs (o + 2) (bytesBE 2 (bs.length - o))) (o + 10) [0, 0]
      patch bs (o + 10) (bytesBE 2 (inetCsum (slice bs o (4 * (beAt bs o 1 % 16)))))
    else if i.1 = 5 then patch bs (o + 4) (bytesBE 2 (bs.length - o - 40))
    else if i.1 = 0x0B then
      let bs := patch bs (o + 4) (bytesBE 2 (bs.length - o) ++ [0, 0])
      match hash with
      | none => bs
      | some h => patch bs o (bytesBE 2 (Nat.lor 0xC000 (h % 2 ^ 14)))
    else bs) bs

/-- Insert template t of a bank before instance k (R160, Table 07-8). -/
def State.encap (s : State) (bank t k : Nat) (r : Rw) : Rw :=
  let a := bank + 0x2000 + 128 * t
  let bad := s.badIn a 32
  let w := (List.range 32).flatMap (fun i => bytesBE 4 (s.rd (a + 4 * i)))
  if 64 ≤ t then r.skip
  else if !bad.isEmpty then { r with fail := 0x21, bad := bad :: r.bad }
  else match (r.inst.drop k).head? with
    | none => r.skip
    | some (_, o, _) =>
      let len := beAt w 112 1
      let is := (List.range (min 6 (beAt w 113 1))).map (fun i => (beAt w (114 + 2 * i) 2 / 512, o + beAt w (114 + 2 * i) 2 % 512))
      let hash := if bit (beAt w 126 1) 7 then some (mdF r.md 5 31 0) else none
      let r := r.insert o k (w.take len) is
      { r with bytes := fillTemplate hash is r.bytes }

/-- Low `n` bytes of a value, big-endian. -/
def lowBytes (n v : Nat) : List Byte := bytesBE n v

/-- The effect of one rewrite operation whose instance is recorded at offset o with length len (Table 07-7). -/
def State.rwEffect (s : State) (bank : Nat) (eg : Bool) (w k typ o len : Nat) (r : Rw) : Rw :=
  let off := bits w 52 47
  let n := bits w 46 45 + 1
  let arg := bits w 31 0
  let fits := fun m => decide (off + m ≤ len)
  match bits w 62 58 with
  | 0x01 => if fits n then r.write (o + off) (lowBytes n arg) else r.skip
  | 0x02 => match fieldAt (arg % 64) with
    | some (wd, hi, lo, _) => if fits n then r.write (o + off) (lowBytes n (mdF r.md wd hi lo)) else r.skip
    | none => r.skip
  | 0x03 =>
    let at_ := if typ = 4 then some 8 else if typ = 5 then some 7 else if typ = 3 then some 3 else none
    match at_ with
    | none => r.skip
    | some d =>
      let v := (beAt r.bytes (o + d) 1 + 255) % 256
      if len ≤ d then r.skip
      else if v = 0 then { r with fail := 0x20 } else r.write (o + d) (bytesBE 1 v)
  | 0x04 =>
    let e := o + len
    let et := slice r.bytes (e - 2) 2
    if len < 2 then r.skip
    else (r.write (e - 2) (bytesBE 2 (arg / 65536))).insert e (k + 1) (bytesBE 2 (arg % 65536) ++ et) [(2, e)]
  | 0x05 =>
    if typ ≠ 2 || k = 0 || len < 4 then r.skip
    else
      let et := slice r.bytes (o + 2) 2
      (r.write (o - 2) et).remove o 4 k
  | 0x06 =>
    let e := o + len
    let r := match r.etherAt k with
      | none => r
      | some x => r.write x [0x88, 0x47]
    r.insert e (k + 1) (bytesBE 4 arg) [(3, e)]
  | 0x07 =>
    if typ ≠ 3 || len < 4 then r.skip
    else
      let last := bit (beAt r.bytes o 4) 8
      let r := match (if last then r.etherAt k else none) with
        | none => r
        | some x => r.write x (bytesBE 2 (arg % 65536))
      r.remove o 4 k
  | 0x08 => s.encap bank (arg % 256) k r
  | 0x09 =>
    { r with
      bytes := r.bytes.drop o
      inst := (r.inst.drop k).map (fun i => (i.1, i.2.1 - o, i.2.2))
      pend := r.pend - o }
  | 0x0A => if eg && mdF r.md 3 4 4 = 1 && fits 8 then
      r.write (o + off) (bytesBE 8 (mdF r.md 12 31 0 * 2 ^ 32 + mdF r.md 13 31 0)) else r.skip
  | 0x0B => { r with md := mdPut r.md 3 7 7 arg }
  | _ => r

/-- The failures of R159 that a grown frame meets; `len0` is its length before the pass. -/
def Rw.limits (r : Rw) (len0 : Nat) : Rw :=
  if r.fail ≠ 0 then r
  else if len0 + 128 < r.bytes.length || 24 < r.inst.length then { r with fail := 0x21 }
  else if 4 < (r.inst.filter (fun i => i.1 = 3)).length then { r with fail := 0x22 }
  else if 9728 < r.bytes.length then { r with fail := 0x23 }
  else r

/-- One operation of a program (R156). -/
def State.rwStep (s : State) (bank : Nat) (eg : Bool) (len0 a : Nat) (r : Rw) : Rw :=
  let bad := s.badIn a 2
  let w := s.rd a * 2 ^ 32 + s.rd (a + 4)
  let k := bits w 57 53
  if r.fail ≠ 0 then r
  else if !bad.isEmpty then { r with bad := bad :: r.bad }
  else if !bit w 63 then r
  else match (r.inst.drop k).head? with
    | none => r.skip
    | some (typ, o, _) => (s.rwEffect bank eg w k typ o (r.fin k - o) r).limits len0

/-- The words of a pseudo-header and of a header of type `typ` at o that a checksum at `ck` covers; `ip` is the nearest preceding IP
instance (R158): addresses, upper-layer length, and the protocol or the Next Header byte that names the header. -/
def csumWords (bs : List Byte) (l : List (Nat × Nat)) (ip : Option (Nat × Nat)) (typ o len ck : Nat) : List Nat :=
  let n := fun (all : Nat) => if typ = 0x0B then beAt bs (o + 4) 2 else all
  (match ip with
    | some (4, p) => words16 (slice bs (p + 12) 8) ++ [beAt bs (p + 9) 1, n (beAt bs (p + 2) 2 - (o - p))]
    | some (5, p) =>
      let ext := (l.filter (fun i => decide (6 ≤ i.1) && decide (i.1 ≤ 9) && decide (p < i.2) && decide (i.2 < o))).getLast?
      words16 (slice bs (p + 8) 32) ++ [n (beAt bs (p + 4) 2 + 40 - (o - p)), beAt bs ((ext.map (·.2)).getD (p + 6)) 1]
    | _ => []) ++ words16 (slice bs o ck) ++ words16 (slice bs (o + ck + 2) (len - ck - 2))

/-- The nearest IP instance before an offset. -/
def ipBefore (l : List (Nat × Nat)) (o : Nat) : Option (Nat × Nat) :=
  (l.filter (fun i => decide (i.2 < o) && (i.1 = 4 || i.1 = 5))).getLast?

/-- Repair the checksums of a rewritten frame (R158). -/
def repairCsums (old : List Byte) (r : Rw) : List Byte :=
  let olds := r.inst.filterMap (fun i => i.2.2.map (fun o => (i.1, o)))
  let news := r.inst.map (fun i => (i.1, i.2.1))
  let bs := r.inst.foldl (fun bs i =>
    if i.1 ≠ 4 then bs
    else
      let len := 4 * (beAt bs i.2.1 1 % 16)
      if i.2.2.map (fun o => slice old o len) = some (slice bs i.2.1 len) then bs
      else
        let bs := patch bs (i.2.1 + 10) [0, 0]
        patch bs (i.2.1 + 10) (bytesBE 2 (inetCsum (slice bs i.2.1 len)))) r.bytes
  (List.range r.inst.length).foldl (fun bs k =>
    match (r.inst.drop k).head? with
    | some (typ, o, some oo) =>
      let ck := if typ = 0x0A then some 16 else if typ = 0x0B then some 6 else if typ = 0x0D then some 2 else none
      match ck with
      | none => bs
      | some c =>
        let len := r.fin k - o
        let a := csumWords old olds (ipBefore olds oo) typ oo len c
        let b := csumWords bs news (ipBefore news o) typ o len c
        let hc := beAt bs (o + c) 2
        let v4 := match ipBefore news o with
          | some (4, _) => true
          | _ => false
        if a = b || (typ = 0x0B && v4 && hc = 0) then bs
        else
          let x := csumAdj hc a b
          patch bs (o + c) (bytesBE 2 (if typ = 0x0B && x = 0 then 0xFFFF else x))
    | _ => bs) bs

/-- The vector's summary after a rewrite (R157): instances, their count, and the cursor's end. -/
def rePhv (phv : Nat) (r : Rw) : Nat :=
  let w0 := putBits (putBits (phvW phv 0) 15 11 r.inst.length) 9 0 r.pend
  let phv := putBits phv 4095 4064 w0
  (List.range 24).foldl (fun p i =>
    let v := match (r.inst.drop i).head? with
      | none => 0
      | some x => x.1 * 512 + x.2.1 % 512
    putBits p (4095 - 128 - 16 * i) (4080 - 128 - 16 * i) v) phv

/-- Run rewrite program RWR_PROG when RWR_EN is 1 (R156–R159): the frame, its vector and metadata, and the rewrite reason,
0 when it does not fail. -/
def State.rewrite (s : State) (n bank : Nat) (eg : Bool) (f : Frame) : Frame × Nat × State :=
  if mdF f.md 3 23 23 = 0 then (f, 0, s)
  else
    let phv := f.phv.toNat
    let r0 : Rw := { bytes := f.bytes, inst := (instances phv).map (fun i => (i.1, i.2, some i.2)), pend := bits (phvW phv 0) 9 0, md := f.md }
    let r := (List.range 16).foldl (fun r i =>
      s.rwStep bank eg f.bytes.length (bank + 0x4000 + 8 * (16 * mdF f.md 3 15 8 + i)) r) r0
    let s := r.bad.reverse.foldl (fun s l => s.matHit n l) s
    let s := if r.skipped = 0 then s else s.bump (rwrCnt n 0) r.skipped
    if r.fail ≠ 0 then
      (f, r.fail, (s.bump (rwrCnt n (r.fail - 0x1F)) 1).raise (matB n) Ev.rwrFail (Src.pipe n))
    else ({ f with bytes := repairCsums f.bytes r, md := r.md, phv := BitVec.ofNat 4096 (rePhv phv r) }, 0, s)

/-! ### The class table (R163–R166) -/

/-- What the class table decides for a frame. `count` is the MAT_CNT that counts a discard. -/
inductive Verdict where
  | drop (count : Option Nat)
  | to (d : Dest) (reason : Nat)
  deriving DecidableEq, Repr

/-- The destination that a class entry and the metadata give (R165). -/
def destOf (ce slowCluster reason : Nat) (md : BitVec 512) : Verdict :=
  let q := mdF md 0 21 8
  let one := fun v => if 284 < v then Verdict.drop (some 5)
    else if !queueOk v q then .drop (some 6)
    else if !bit ce (40 + typeBit v) then .drop (some 7)
    else .to (.one v q) reason
  match bits ce 47 46 with
  | 0 => if mdF md 1 21 21 = 1 then .to (.group (mdF md 1 20 9)) reason
    else if mdF md 1 22 22 = 1 then one (mdF md 1 31 23) else .drop (some 5)
  | 1 => one (bits ce 31 23)
  | 2 => if bit ce 41 then .to (.one (272 + slowCluster) 0) reason else .drop (some 7)
  | _ => .drop none

/-- The handling of R163, in its order. -/
def verdict (ce slowCluster reason : Nat) (md : BitVec 512) : Verdict :=
  if reason ≠ 0 && bits ce 45 44 = 0 then
    (if bit ce 41 then .to (.one (272 + slowCluster) 0) reason else .drop (some 7))
  else if reason ≠ 0 && bits ce 45 44 = 2 then .drop none
  else if mdF md 3 24 24 = 1 then .drop (some 4)
  else destOf ce slowCluster reason md

/-- VPORT of the ingress record (Table 04-3). -/
def Verdict.vport : Verdict → Nat
  | .drop _ => 0x1FE
  | .to (.one v _) _ => v
  | .to (.group _) _ => 0x1FF

/-- The ingress FRAME record of a frame whose class is resolved (R76, R79): its unit's INDEX where it is kept. -/
def State.ingressRecord (s : State) (f : Frame) (vport : Nat) : Option (Option Nat) × State :=
  match f.rx, s.recClass f 0 with
  | some x, some rc =>
    let d := s.digest rc x.wire
    let r : FrameRec := {
      dir := 0, cal := x.cal, tq := x.tq, rclass := rc, port := x.port, cls := f.cls, dmode := d.1, len := x.len,
      ts := x.ts, flowid := mdF f.md 2 31 0, digest := d.2.1, vport := vport }
    let c := d.2.2.commitUnit (framePayload r) rc x.ts
    (some c.1, c.2)
  | _, _ => (none, s)

/-- A classified frame goes on: policed, written into the pool, sequenced or queued (R166, R197, R217, R226). -/
def State.admitFrame (s : State) (f : Frame) (d : Dest) : State :=
  let ce := f.ce.toNat
  let s := if f.rel.isSome && !bit ce 57 then s.bump (matCnt f.pipe 10) 1 else s
  let f := if bit ce 57 then f else { f with rel := none }
  let p := s.police f
  match p.1 with
  | none => p.2.endCopy f.id true .dropped
  | some f =>
    let w := p.2.poolWrite f
    if !w.1 then w.2
    else if bit ce 58 then w.2.seqPut f d
    else w.2.enqueueAll f d false

/-- The class table on a frame's last pass (R163). `why` is the slow reason. -/
def State.classify (s : State) (n bank : Nat) (f : Frame) (why : Nat) : State :=
  let cls := mdF f.md 0 31 24
  let a := bank + 0x1000 + 8 * cls
  let bad := s.badIn a 2
  let s := s.bump (matB n + 0x800 + 8 * cls) 1
  if !bad.isEmpty then (s.matHit n bad).endCopy f.id true .dropped
  else
    let ce := s.rd a * 2 ^ 32 + s.rd (a + 4)
    let v := verdict ce (phvW f.phv.toNat 3) why f.md
    let f := { f with cls := cls, ce := BitVec.ofNat 64 ce, pipe := n }
    let r := s.ingressRecord f v.vport
    let f := { f with unit := r.1 }
    match v with
    | .drop c =>
      let s := match c with
        | none => r.2
        | some k => r.2.bump (matCnt n k) 1
      s.endCopy f.id true .dropped
    | .to d reason => r.2.admitFrame { f with reason := reason } d

/-! ### A pass (R147, R154, R162) -/

/-- MAT_RECIRC follows the FIFO. -/
def State.recircLevel (s : State) (n : Nat) : State :=
  let a := matB n + 0x4C
  let l := (s.pipe n).recirc.length
  (s.setFld a 8 0 l).setFld a 24 16 (max l (s.fld a 24 16))

/-- The bus at the start of pass 0: source vport, epoch, entry stamp, UNVERIFIED (R154). -/
def busOf (vport : Nat) (entry : Instant) (unverified : Bool) : BitVec 512 :=
  let md := mdPut (mdPut 0 1 8 0 vport) 3 6 6 (b2n unverified)
  mdPut (mdPut (mdPut md 6 31 0 (tsWord entry 0)) 7 31 0 (tsWord entry 1)) 8 31 0 (tsWord entry 2)

/-- The bus at the start of a later pass (R154). -/
def busNext (md : BitVec 512) : BitVec 512 :=
  let keep := fun (m : BitVec 512) w hi lo => mdPut m w hi lo (mdF md w hi lo)
  let m := keep (keep (keep (keep (keep (keep (keep (keep (keep (0 : BitVec 512) 1 8 0) 2 31 0) 3 31 28) 3 6 6) 6 31 0) 7 31 0) 8 31 0) 10 31 0) 11 31 0
  mdPut m 3 27 26 (mdF md 3 27 26 + 1)

/-- One ingress pass of a frame whose bus stands at its start. -/
def State.ingressPass (s : State) (n : Nat) (f : Frame) : State :=
  let rse := mdF f.md 3 31 28
  let pass := mdF f.md 3 27 26
  let bank := matBank n false (rse % 2)
  let p := s.parse n f.bytes f.src pass rse
  let s := ((s.parseCount n p).bump (matCnt n 0) 1)
  let s := if pass = 0 then s else s.bump (matCnt n 1) 1
  let st := s.runStages n bank false f p.phv f.md
  let rw := st.2.rewrite n bank false { f with md := st.1, phv := BitVec.ofNat 4096 p.phv }
  let f := rw.1
  let s := rw.2.2
  let again := mdF f.md 3 25 25 = 1
  if again && decide (pass < 3) && mdF f.md 3 24 24 = 0 then
    if 256 ≤ (s.pipe n).recirc.length then
      ((s.bump (matCnt n 2) 1).raise (matB n) Ev.matRecircOverflow (Src.pipe n)).endCopy f.id true .dropped
    else (s.setPipe n (fun x => { x with recirc := x.recirc ++ [f] })).recircLevel n
  else
    let limit := again && decide (pass = 3)
    let s := if limit then (s.bump (matCnt n 3) 1).raise (matB n) Ev.matRecircLimit (Src.pipe n) else s
    let slow := mdF f.md 3 22 16
    let why := if p.reason ≠ 0 then p.reason else if slow ≠ 0 then slow else if rw.2.1 ≠ 0 then rw.2.1
      else if limit then 0x24 else 0
    s.classify n bank f why

/-- The egress pass of a copy (R167): stages, DROP, rewrite, then proofing. -/
def State.egressPass (s : State) (n : Nat) (c : Copy) : State :=
  let bank := matBank n true (c.erse % 2)
  let seq := c.f.seqno.getD 0
  let md := mdPut (mdPut (mdPut (mdPut c.f.md 12 31 0 (seq / 2 ^ 32)) 13 31 0 seq) 14 31 0 0) 15 31 0 0
  let md := mdPut (mdPut md 3 4 4 (b2n c.f.seqno.isSome)) 3 3 3 (b2n c.f.late)
  let phv := c.f.phv.toNat / 2 ^ (4096 - 512) * 2 ^ (4096 - 512)
  let f := { c.f with md := md, phv := BitVec.ofNat 4096 phv }
  let st := s.runStages n bank true f phv md
  if mdF st.1 3 24 24 = 1 then (st.2.bump (matCnt n 12) 1).loseCopy c
  else
    let rw := st.2.rewrite n bank true { f with md := st.1 }
    rw.2.2.prfEnter { c with f := rw.1 }

end Sys2Proof.Machine
end

