-- ==== Sys2Proof/Machine/EngRun.lean ====
section
/-! DEFINITION. What the special instructions of Iluken do (12_iluken_instruction_set.md R259–R269), and how an instruction
completes. -/
namespace Sys2Proof.Machine

/-- How a special instruction ends: a fault of Table 12-7; a long stall with the channel it waits on; or STATUS and VALUE with
the bytes written to data memory. -/
inductive Ex where
  | fault (code addr : Nat) (s : State)
  | stall (cause ch : Nat) (s : State)
  | result (status value : Nat) (w : List (Nat × List Byte)) (s : State)

/-! Status codes of Table 12-3. -/
namespace St
def ok : Nat := 0
def empty : Nat := 1
def miss : Nat := 2
def disabled : Nat := 3
def limit : Nat := 4
def badSlot : Nat := 5
def void : Nat := 6
def noCells : Nat := 7
def destDown : Nat := 8
def badDest : Nat := 9
def badTarget : Nat := 10
def noMask : Nat := 11
def notTimer : Nat := 12
def memErr : Nat := 13
def notDet : Nat := 14
def range : Nat := 15
end St

/-- Operand values of a word: rs1 and rs2. -/
def State.opA (s : State) (t w : Nat) : Nat := (s.gr t (wRs1 w)).toNat
def State.opB (s : State) (t w : Nat) : Nat := (s.gr t (wRs2 w)).toNat

/-- A data-memory operand of `n` bytes at `a`, 8-aligned where `al`: the fault it takes, or what follows (R258). -/
def State.dOperand (s : State) (a n : Nat) (al : Bool) (k : State → Ex) : Ex :=
  if al && a % 8 ≠ 0 then .fault 2 a s else if !inDmem a n then .fault 3 a s else k s

/-! ### GDDR6 and deep lookup (R266, R267) -/

def State.runMrd (s : State) (t w : Nat) (e : Ecc) : Ex :=
  let a := s.opA t w
  let b := s.opB t w
  let n := wFn w + 1
  s.dOperand b n false (fun s =>
    if !s.memAllowed (.thread (Fin.ofNat 1536 t)) a n false then .fault 5 a (s.memRefuse (.thread (Fin.ofNat 1536 t)) a)
    else if !s.memServes a n then .stall 1 0 s
    else
      let r := s.memRead a n e
      .result (if r.1.2 then St.memErr else St.ok) 0 [(b, r.1.1)] r.2)

def State.runMwr (s : State) (t w : Nat) : Ex :=
  let a := s.opA t w
  let b := s.opB t w
  let n := wFn w + 1
  s.dOperand b n false (fun s =>
    if !s.memAllowed (.thread (Fin.ofNat 1536 t)) a n true then .fault 5 a (s.memRefuse (.thread (Fin.ofNat 1536 t)) a)
    else if !s.memServes a n then .stall 1 0 s
    else .result St.ok 0 [] (s.memWrite a (s.dGet (cluOf t) b n)))

/-- A deep lookup: DATA of the hit. A slot that cannot be read counts as empty, so that a hit in another slot still wins (R193, R338).
`e` is what the first slot's check finds. -/
def State.deepLookup (s : State) (x : Tab) (k : Nat) (e : Ecc) : Option Nat × State :=
  let l := x.slots k
  let first := l.headD 0
  let upset := fun i => i = first && (e = .uncorrectable || e = .tagFail) && !s.entryBad x first
  let hit := fun i => !upset i && !s.entryBad x i && x.valid (s.entry x i) && x.keyOf (s.entry x i) = k
  let read := l.takeWhile (fun i => !hit i)
  let t := if upset first then (s.eccBad (64 * first) (e = .tagFail)).deepErr else if e = .corrected then s.eccCorr else s
  let t := t.reportBad x (read.filter (s.entryBad x))
  match l.find? hit with
  | none => (none, t)
  | some i =>
    let v := s.entry x i
    (some (bits v 175 48), t.setEntry x i (putBits v 509 509 1))

def State.runDlk (s : State) (t w : Nat) (e : Ecc) : Ex :=
  let a := s.opA t w
  let b := s.opB t w
  let x := s.tab 2 0 (wFn w)
  let n := (x.keyw + 7) / 8
  s.dOperand a n false (fun s => s.dOperand b 16 false (fun s =>
    if !x.en then .result St.miss 0 [] s
    else
      let k := natBE (s.dGet (cluOf t) a n) / 2 ^ ((8 - x.keyw % 8) % 8)
      let bk := x.buckets k
      if !s.memServes (256 * bk.1) 256 || !s.memServes (256 * bk.2) 256 then .stall 2 0 s
      else
        let r := s.deepLookup x k e
        match r.1 with
        | none => .result St.miss 0 [] r.2
        | some d => .result St.ok 0 [(b, bytesBE 16 d)] r.2))

/-! ### Frames (R261–R263) -/

/-- The frame context of Table 12-5. -/
def frameContext (h q : Nat) (x : Copy) : List Byte :=
  let f := x.f
  let md := f.md
  let flags := mdF md 3 6 6 + 2 * mdF md 3 5 5 + 4 * bits (phvW f.phv.toNat 0) 10 10
  bytesLE 4 h ++ bytesLE 2 f.bytes.length ++ bytesLE 1 f.cls ++ bytesLE 1 f.reason ++ bytesLE 2 f.src.vport ++ bytesLE 1 q
    ++ bytesLE 1 flags ++ bytesLE 4 (mdF md 2 31 0) ++ bytesLE 4 (mdF md 5 31 0) ++ bytesLE 4 0
    ++ bytesLE 8 (secOf f.entry) ++ bytesLE 8 (nsOf f.entry * 2 ^ 16 + fracOf f.entry)
    ++ bytesLE 8 (mdF md 10 31 0) ++ bytesLE 8 (mdF md 11 31 0) ++ bytesLE 8 0
    ++ ((List.range 16).map (fun i => bytesLE 4 (phvW f.phv.toNat i))).flatten

def State.runRcv (s : State) (t w : Nat) : Ex :=
  let a := s.opA t w
  let c := cluOf t
  let q := bits w 3 0
  s.dOperand a 128 true (fun s =>
    match s.vq (272 + c) q with
    | [] => .result St.empty 0 [] s
    | x :: r =>
      if 8192 ≤ s.handles c then .result St.limit 0 [] s
      else
        let s := (s.setVq (272 + c) q r).setFld (engB c + 0x100 + 4 * q) 12 0 r.length
        let h := s.newHandle c x
        .result St.ok h.1 [(a, frameContext h.1 q x)] h.2)

/-- The frame a handle operand names; BAD_HANDLE otherwise (R261). In REPLAY a restored handle names a frame without bytes. -/
def State.withHandle (s : State) (c h : Nat) (k : Copy → State → Ex) : Ex :=
  let rp : Copy := { f := { id := 0, bytes := [], src := .cluster c }, vport := 272 + c, queue := 0, cells := 0 }
  match (if 2 ^ 32 ≤ h then none else if s.replays c && (s.clu c).rhandles.contains h then some rp else s.handle c h) with
  | none => .fault 6 (h % 2 ^ 32) s
  | some x => k x s

def State.runPbr (s : State) (t w : Nat) : Ex :=
  let a := s.opA t w
  let b := s.opB t w
  let n := wFn w + 1
  s.withHandle (cluOf t) (a / 2 ^ 32) (fun x s => s.dOperand b n false (fun s =>
    if bits a 31 16 ≠ 0 || decide (x.f.bytes.length < bits a 15 0 + n) then .result St.range 0 [] s
    else .result St.ok 0 [(b, slice x.f.bytes (bits a 15 0) n)] s))

def State.runPbw (s : State) (t w : Nat) : Ex :=
  let a := s.opA t w
  let b := s.opB t w
  let n := wFn w + 1
  let c := cluOf t
  s.withHandle c (a / 2 ^ 32) (fun x s => s.dOperand b n false (fun s =>
    if bits a 31 16 ≠ 0 || decide (x.f.bytes.length < bits a 15 0 + n) then .result St.range 0 [] s
    else .result St.ok 0 [] (s.setHandle c (a / 2 ^ 32)
      (some { x with f := { x.f with bytes := patch x.f.bytes (bits a 15 0) (s.dGet c b n) } }))))

/-- The pool and the cluster's share admit n more cells (R219). -/
def State.engRoom (s : State) (c n : Nat) : Bool :=
  decide (n ≤ s.fld (schB + 0x50) 17 0) && s.vportFits (272 + c) n 0

/-- Charge n cells to a frame of a cluster. -/
def State.engCharge (s : State) (c id n : Nat) : State :=
  let s := (s.setFld (schB + 0x50) 17 0 (s.fld (schB + 0x50) 17 0 - n)).setVcells (272 + c) (s.vcells (272 + c) + n)
  match s.live id with
  | none => s
  | some l => s.setLive id (some { l with cells := l.cells + n })

/-- A new frame of a cluster with its handle. -/
def State.engFrame (s : State) (c : Nat) (f : Frame) : Ex :=
  let n := cellsOf f.len
  if !s.engRoom c n then .result St.noCells 0 [] s
  else if 8192 ≤ s.handles c then .result St.limit 0 [] s
  else
    let b := s.birth { f with src := .cluster c }
    let s := b.2.engCharge c b.1.id n
    let h := s.newHandle c { f := b.1, vport := 272 + c, queue := 0, cells := n }
    .result St.ok h.1 [] h.2

/-- A frame length that R262 allows. -/
def lenOk (n : Nat) : Bool := decide (1 ≤ n) && decide (n ≤ 9728)

def State.runAlloc (s : State) (t w : Nat) : Ex :=
  let n := s.opA t w
  if !lenOk n then .result St.range 0 [] s
  else s.engFrame (cluOf t) { id := 0, bytes := List.replicate n 0, src := .cluster (cluOf t) }

def State.runFree (s : State) (t w : Nat) : Ex :=
  let c := cluOf t
  s.withHandle c (s.opA t w) (fun x s => .result St.ok 0 [] ((s.releaseCopy c x .delivered).setHandle c (s.opA t w) none))

def State.runSetlen (s : State) (t w : Nat) : Ex :=
  let c := cluOf t
  let n := s.opB t w
  s.withHandle c (s.opA t w) (fun x s =>
    if !lenOk n then .result St.range 0 [] s
    else
      let f := { x.f with bytes := x.f.bytes.take n ++ List.replicate (n - x.f.bytes.length) 0 }
      let need := cellsOf f.len
      if x.cells < need then
        if s.engRoom c (need - x.cells) then
          .result St.ok 0 [] ((s.engCharge c f.id (need - x.cells)).setHandle c (s.opA t w) (some { x with f := f, cells := need }))
        else .result St.noCells 0 [] s
      else
        let less := x.cells - need
        let s := s.setVcells (272 + c) (s.vcells (272 + c) - less)
        let s := match s.live f.id with
          | none => s
          | some l => if l.held = 1 then (s.poolAdd less).setLive f.id (some { l with cells := l.cells - less }) else s
        .result St.ok 0 [] (s.setHandle c (s.opA t w) (some { x with f := f, cells := need })))

def State.runCopy (s : State) (t w : Nat) : Ex :=
  s.withHandle (cluOf t) (s.opA t w) (fun x s => s.engFrame (cluOf t) x.f)

/-- The emit descriptor is refused (R263). -/
def emitBad (d : List Byte) : Bool :=
  let mode := leAt d 0 1
  decide (1 < mode) || decide (3 < leAt d 1 1) || leAt d 7 1 % 4 = 3 || decide (8 ≤ leAt d 7 1) || leAt d 28 4 ≠ 0
    || (mode = 1 && (decide (284 < leAt d 2 2) || !queueOk (leAt d 2 2) (leAt d 4 2)))

/-- The release time that an emit descriptor carries. -/
def emitRel (d : List Byte) : Option Instant :=
  if bit (leAt d 7 1) 2 then some (ofTs96 (leAt d 8 8 * 2 ^ 48 + leAt d 16 8 % 2 ^ 48)) else none

/-- Whether admission of a copy would find room (R218, R219): what refuses it for another reason does not count. -/
def State.roomFor (s : State) (c : Copy) : Bool :=
  if c.vport < 16 then
    let a := schQ c.vport c.queue
    let mx := s.rd (a + 8)
    let dp := s.rd (a + 0xC)
    let lim := colourLimit mx c.f.colour (bits dp 23 0 * 1024)
    (!s.flag (a + 0x18) 31 && s.fitsChip (s.fld (a + 0x18) 17 0) c.cells (colourLimit mx c.f.colour (bits mx 17 0)) (s.fld (a + 4) 17 0))
      || ((s.flag (a + 0x18) 31 || bit dp 31) && decide ((s.pq c.vport c.queue).deepBytes + c.f.len ≤ lim)
        && s.deepRoom c.cells)
  else s.vportFits c.vport c.cells c.f.colour

/-- A PIPE emit (R263): the frame enters IPL n as an injected frame once a slot is its own: no arrival, no recirculated frame and no
other injected frame before it in turn (R15, R17). -/
def State.emitPipe (s : State) (c h n : Nat) (x : Copy) (d : List Byte) : Ex :=
  let p := s.pipe n
  if !s.running (prsB n) || !s.running (matB n) || !p.arr.isEmpty || !p.recirc.isEmpty || !p.clus.isEmpty
    || (!p.host.isEmpty && !p.clusTurn) then .stall 7 0 s
  else
    let s := (s.releaseCopy c x .delivered).setHandle c h none
    let md := busOf (272 + c) s.now false
    let b := s.birth { id := 0, bytes := x.f.bytes, src := .cluster c, md := md, rel := emitRel d }
    .result St.ok 0 [] (b.2.setPipe n (fun y => { y with clus := y.clus ++ [b.1] }))

/-- A DIRECT emit (R263): to a vport's queue under a class entry. -/
def State.emitDirect (s : State) (c h n : Nat) (x : Copy) (d : List Byte) : Ex :=
  let v := leAt d 2 2
  let q := leAt d 4 2
  let cls := leAt d 6 1
  let bank := matBank n false (s.fld (matB n + 0x48) 3 0 % 2)
  let a := bank + 0x1000 + 8 * cls
  let bad := s.badIn a 2
  let ce := s.rd a * 2 ^ 32 + s.rd (a + 4)
  if !bad.isEmpty then .result St.badDest 0 [] (s.matHit n bad)
  else if !bit ce (40 + typeBit v) then .result St.badDest 0 [] s
  else
    let md := mdPut (mdPut (mdPut (mdPut (busOf (272 + c) s.now false) 0 31 24 cls) 0 23 22 (leAt d 7 1 % 4)) 0 21 8 q) 2 31 0 (leAt d 24 4)
    let md := mdPut (mdPut md 1 31 23 v) 1 22 22 1
    let rel := if bit ce 57 then emitRel d else none
    let f : Frame := {
      id := 0, bytes := x.f.bytes, src := .cluster c, md := md, phv := x.f.phv, rel := rel, cls := cls, ce := BitVec.ofNat 64 ce,
      pipe := n }
    let out := fun (s : State) => (s.releaseCopy c x .delivered).setHandle c h none
    if !s.accepts v then
      let s := out s
      let b := s.birth f
      .result St.destDown 0 [] (b.2.enqueueAll b.1 (.one v q) false)
    else
      let s' := out s
      let b := s'.birth f
      if !b.2.roomFor { f := b.1, vport := v, queue := q, cells := cellsOf f.len } || decide (b.2.fld (schB + 0x50) 17 0 < cellsOf f.len)
      then .stall 7 0 s
      else
        let s := if (emitRel d).isSome && rel.isNone then b.2.bump (matCnt n 10) 1 else b.2
        let w := s.poolWrite b.1
        .result St.ok 0 [] (w.2.enqueueAll b.1 (.one v q) false)

def State.runEmit (s : State) (t w : Nat) : Ex :=
  let c := cluOf t
  let h := s.opA t w
  s.withHandle c h (fun x s => s.dOperand (s.opB t w) 32 true (fun s =>
    let d := s.dGet c (s.opB t w) 32
    if emitBad d then .result St.badDest 0 [] s
    else if leAt d 0 1 = 0 then s.emitPipe c h (leAt d 1 1) x d
    else s.emitDirect c h (leAt d 1 1) x d))

/-! ### Channels (R244–R246, R264) -/

def State.runRes (s : State) (t w : Nat) : Ex :=
  let n := s.opA t w % 1024
  if !s.chanEn n then .result St.disabled 0 [] (s.setChan n (fun x => { x with resWait := x.resWait.filter (· ≠ t) }))
  else if 4 ≤ (s.thr t).res.length then .result St.limit 0 [] s
  else
    let first := ((s.chan n).resWait ++ [t]).head? = some t
    if s.chanRoom n && first then
      let r := s.chanGrant n t
      .result St.ok r.1 [] r.2
    else .stall 4 n (if (s.chan n).resWait.contains t then s else s.setChan n (fun x => { x with resWait := x.resWait ++ [t] }))

/-- The slot that a reference names, where the thread holds it (R244, R246, R264). -/
def State.heldSlot (s : State) (t r : Nat) : Option (Nat × Nat × Option Slot) :=
  let n := bits r 41 32
  let i := bits r 31 16
  if r ≠ n * 2 ^ 32 + i * 2 ^ 16 + bits r 5 0 then none
  else if (s.thr t).res.contains (n, i) then some (n, i, (s.chan n).slots.find? (fun x => x.idx = i && x.t = t)) else none

def State.runWr (s : State) (t w : Nat) : Ex :=
  let r := s.opA t w
  let len := bits w 6 0 + 1
  s.dOperand (s.opB t w) len false (fun s =>
    match s.heldSlot t r with
    | none => .result St.badSlot 0 [] s
    | some (n, i, x) =>
      if s.slotBytes n < bits r 5 0 + len then .result St.badSlot 0 [] s
      else match x with
        | some y => if y.st = 0 then
            .result St.ok 0 [] (s.chPut (s.slotAt n i + bits r 5 0) (s.dGet (cluOf t) (s.opB t w) len))
          else .result St.badSlot 0 [] s
        | none => .result St.badSlot 0 [] s)

def State.runCmt (s : State) (t w : Nat) : Ex :=
  match s.heldSlot t (s.opA t w) with
  | none => .result St.badSlot 0 [] s
  | some (n, i, x) =>
    let s := s.setThr t (fun y => { y with res := y.res.erase (n, i) })
    match x with
    | some y =>
      if y.st = 0 then
        let s := s.setChan n (fun z => { z with slots := z.slots.map (fun u => if u.idx = i && u.t = t then { u with st := 1 } else u) })
        .result St.ok 0 [] ((s.bump (chnA n + 0x10) 1).chanLevel n)
      else .result St.void 0 [] s
    | none => .result St.void 0 [] s

def State.runRd (s : State) (t w : Nat) : Ex :=
  let n := s.opA t w % 1024
  let gone := fun (s : State) => s.setChan n (fun x => { x with rdWait := x.rdWait.filter (· ≠ t) })
  s.dOperand (s.opB t w) (s.slotBytes n) false (fun s =>
    if !s.chanEn n then .result St.disabled 0 [] (gone s)
    else
      let first := ((s.chan n).rdWait ++ [t]).head? = some t
      match (s.chan n).slots with
      | [] => .stall 5 n (if (s.chan n).rdWait.contains t then s else s.setChan n (fun x => { x with rdWait := x.rdWait ++ [t] }))
      | x :: r =>
        if x.st = 0 || !first then
          .stall 5 n (if (s.chan n).rdWait.contains t then s else s.setChan n (fun x => { x with rdWait := x.rdWait ++ [t] }))
        else
          let bs := s.chGet (s.slotAt n x.idx) (s.slotBytes n)
          let s := ((gone s).setChan n (fun y => { y with slots := r })).setFld (chnA n + 8) 15 0 (x.idx + 1)
          let s := s.chanLevel n
          if x.st = 1 then .result St.ok (slotRef n x.idx) [(s.opB t w, bs)] s else .result St.void (slotRef n x.idx) [] s)

/-! ### Cipher (R268) -/

/-- A CSUB whose cipher work is done: the output for data memory and the completion go with the result. -/
def State.runCsub (s : State) (t w : Nat) : Ex :=
  let a := s.opA t w
  let b := s.opB t w
  s.dOperand a 64 true (fun s => s.dOperand b 32 false (fun s =>
    match (s.thr t).csub with
    | none => .stall 3 0 s
    | some l => .result St.ok 0 l (s.setThr t (fun x => { x with csub := none }))))

/-- The submission of a CSUB goes to its queue (R268, R315). CLASS 0b01 is refused when it is checked, in the NORMAL queue. -/
def State.csubSubmit (s : State) (t w : Nat) : State :=
  let c := cluOf t
  let sub := s.dGet c (s.opA t w) 64
  let n := if subClass sub = 1 then 2 else subClass sub
  let s := s.setThr t (fun x => { x with sub := sub, csub := none })
  s.cipSubmit n { work := .eng t (s.clu c).gen (s.opB t w) sub, cls := n }

/-! ### Events, time, crumbs (R265, R269) -/

def State.runSignal (s : State) (t w : Nat) : Ex :=
  let a := s.opA t w
  let c := bits a 27 24
  if 11 < c || a ≠ c * 2 ^ 24 + bits a 19 16 * 2 ^ 16 + bits a 10 8 * 2 ^ 8 + bits a 4 0 then .result St.badTarget 0 [] s
  else .result St.ok 0 [] (s.signalTo (128 * c + 8 * bits a 19 16 + bits a 10 8) (bits a 4 0) (some t))

def State.runTmr (s : State) (t w : Nat) : Ex :=
  let x := ofTs96 ((s.gr t (wRs1 w)).toNat % 2 ^ 48 * 2 ^ 48 + (s.gr t (wRs1 w + 1)).toNat % 2 ^ 48)
  if s.bindKind t 31 ≠ 4 then .result St.notTimer 0 [] s
  else .result St.ok 0 [] (s.setThr t (fun y => { y with timer := some x, fired := decide (x ≤ s.tb) }))

def State.runTmrx (s : State) (t : Nat) : Ex :=
  .result St.ok 0 [] (s.setThr t (fun y => { y with timer := none, fired := false }))

def State.runCrb (s : State) (t w : Nat) : Ex :=
  let c := cluOf t
  if s.det c then .result St.ok 0 [] (s.pushCrumb c (mkCrumb 7 (inClu t) 0 (s.thr t).retired
    (pk [(64, s.opA t w), (64, s.opB t w), (64, 0)])))
  else .result St.notDet 0 [] s

/-- STS (R255). A replaying thread reads the captured cluster's number and DET 1 (R303). -/
def State.sts (s : State) (t : Nat) : Nat :=
  let c := cluOf t
  let rp := match s.rpl.rp with
    | none => none
    | some x => if x.target = c then some x.cluster else none
  pk [(32, 0), (4, rp.getD c), (4, t / 8 % 16), (3, t % 8), (1, b2n (s.det c || rp.isSome)), (7, 0), (5, (s.thr t).event),
    (8, (s.thr t).status)]

/-! ### Atomics (R259) -/

/-- The value an AMO writes, from the old value, rs2, and rd before. -/
def amoNew (op : Iop) (old b d : DWord) : DWord :=
  match op with
  | .swap => b
  | .aadd => old + b
  | .aand => old &&& b
  | .aor => old ||| b
  | .cas => if old = d then b else old
  | .amax => if old.slt b then b else old
  | .amin => if b.slt old then b else old
  | _ => old

/-! ### Completion -/

/-- Bytes of data memory that an instruction's OUT_CRC string holds (R301). -/
def State.crcSource (s : State) (t w : Nat) (op : Iop) : List Byte :=
  let c := cluOf t
  match op with
  | .mwr => s.dGet c (s.opB t w) (wFn w + 1)
  | .pbw => s.dGet c (s.opB t w) (wFn w + 1)
  | .emit => s.dGet c (s.opB t w) 32
  | .wr => s.dGet c (s.opB t w) (bits w 6 0 + 1)
  | .csub => if s.replays c then s.dGet c (s.opA t w) 64 else (s.thr t).sub
  | _ => []

/-- OUT_CRC goes on over the instruction word, rs1, rs2 and its source (R301). -/
def State.extendCrc (s : State) (t w : Nat) (op : Iop) : State :=
  if op.outCrc then
    let bs := bytesLE 4 w ++ bytesLE 8 (s.opA t w) ++ bytesLE 8 (s.opB t w) ++ s.crcSource t w op
    s.setThr t (fun x => { x with out := crc32cReg x.out bs })
  else s

/-- A VALUE crumb (Table 14-3). -/
def State.valueCrumb (s : State) (t w result low : Nat) : Crumb :=
  mkCrumb 5 (inClu t) 0 (s.thr t).retired (pk [(6, wOp w), (11, wFn w), (15, 0), (64, result), (96, low)])

/-- The crumbs of a completed instruction with a logged event (Table 14-1), from the state before its completion. -/
def State.logOf (s : State) (t w : Nat) (op : Iop) (result : Nat) (bs : List Byte) (f : Option Instant) : List Crumb :=
  match op with
  | .rcv => mkCrumb 4 (inClu t) (bits w 3 0) (s.thr t).retired (pk [(64, result), (32, 0), (96, (f.map ts96).getD 0)]) :: dataCrumbs bs
  | .crb => []
  | _ => if op.logged then s.valueCrumb t w result (bs.length * 2 ^ 64) :: dataCrumbs bs else []

/-- Store the bytes that an instruction brings to data memory. -/
def State.putAll (s : State) (c : Nat) (l : List (Nat × List Byte)) : State := l.foldl (fun s x => s.dPut c x.1 x.2) s

/-- A special instruction completes (R260, R271): its bytes, OUT_CRC, the result word, LAST_STATUS, the next PC. -/
def State.settle (s : State) (t w : Nat) (op : Iop) (status value : Nat) (l : List (Nat × List Byte)) : State :=
  let s := (s.extendCrc t w op).putAll (cluOf t) l
  let s := s.setGr t (wRd w) (BitVec.ofNat 64 (status * 2 ^ 56 + value))
  (s.setThr t (fun x => { x with status := status })).retire t ((s.thr t).pc + 4)

/-- The same with its crumbs. `f` is the entry stamp of a received frame. -/
def State.finish (s : State) (t w : Nat) (op : Iop) (status value : Nat) (l : List (Nat × List Byte)) (f : Option Instant) : State :=
  let bs := (l.map (·.2)).flatten
  (s.crumbs (cluOf t) (s.logOf t w op (status * 2 ^ 56 + value) bs f)).settle t w op status value l

/-- What a special instruction does now (Table 12-4); `e` is what a GDDR6 read finds. -/
def State.special (s : State) (t w : Nat) (op : Iop) (e : Ecc) : Ex :=
  match op with
  | .mrd => s.runMrd t w e
  | .mwr => s.runMwr t w
  | .dlk => s.runDlk t w e
  | .rcv => s.runRcv t w
  | .pbr => s.runPbr t w
  | .pbw => s.runPbw t w
  | .alloc => s.runAlloc t w
  | .free => s.runFree t w
  | .setlen => s.runSetlen t w
  | .copy => s.runCopy t w
  | .emit => s.runEmit t w
  | .res => s.runRes t w
  | .wr => s.runWr t w
  | .cmt => s.runCmt t w
  | .rd => s.runRd t w
  | .signal => s.runSignal t w
  | .tmr => s.runTmr t w
  | .tmrx => s.runTmrx t
  | .csub => s.runCsub t w
  | .crb => s.runCrb t w
  | _ => .result St.ok 0 [] s

/-- Entry stamp of the head frame that a RCV would take. -/
def State.rcvStamp (s : State) (t w : Nat) (op : Iop) : Option Instant :=
  if op = .rcv then (s.vq (272 + cluOf t) (bits w 3 0)).head?.map (fun x => x.f.entry) else none

/-- A special instruction issues: its fault, its long stall, or its completion. -/
def State.issueSpecial (s : State) (t w : Nat) (op : Iop) : State :=
  let stalls := fun (s : State) cause ch => (s.setThr t (fun x => { x with stall := cause, chan := ch })).leave t 3 0
  match s.special t w op .clean, op.longStall with
  | .fault code addr s, _ => s.thrFault t code addr (wOp w)
  | _, some cause => stalls (if op = .csub then s.csubSubmit t w else s) cause 0
  | .stall cause ch s, none => stalls s cause ch
  | .result st v l s', none => (s'.finish t w op st v l (s.rcvStamp t w op)).stepEnd t

/-- The stalled instruction of a thread completes, if it can now (R237). -/
def State.stallDone (s : State) (t w : Nat) (op : Iop) (e : Ecc) : State :=
  match s.special t w op e with
  | .fault code addr s => s.thrFault t code addr (wOp w)
  | .stall _ _ _ => s
  | .result st v l s' => (s'.finish t w op st v l none).wakeThr t

end Sys2Proof.Machine
end

