-- ==== Sys2Proof/Machine/RplOps.lean ====
section
/-! DEFINITION. Shared operations of deterministic mode and replay: checkpoints, crumbs read back, the end of a replay
(14_replay.md R300–R304). -/
namespace Sys2Proof.Machine

/-! ### Checkpoints (R300, Table 14-4) -/

/-- Zero bytes up to a length. -/
def padTo (n : Nat) (bs : List Byte) : List Byte := bs ++ List.replicate (n - bs.length) 0

/-- A thread's 512 bytes. -/
def thrBytes (x : Thr) : List Byte :=
  let tm := x.timer.getD 0
  padTo 512 (((List.range 32).map (fun i => bytesLE 8 (mget (fun _ => 0) x.g i : DWord).toNat)).flatten
    ++ bytesLE 8 x.retired ++ bytesLE 4 x.pc ++ bytesLE 1 x.state ++ bytesLE 1 x.stall ++ bytesLE 1 x.event ++ bytesLE 1 x.status
    ++ (List.range 32).map (fun i => BitVec.ofNat 8 (mget (fun _ => 0) x.sig i))
    ++ bytesLE 8 (secOf tm) ++ bytesLE 8 (nsOf tm * 2 ^ 16 + fracOf tm) ++ bytesLE 8 (b2n x.timer.isSome)
    ++ ((List.range 4).map (fun i => bytesLE 8 (match x.res[i]? with
        | none => 0
        | some r => slotRef r.1 r.2))).flatten
    ++ bytesLE 4 (~~~ x.out).toNat)

/-- An engine's 256 bytes. -/
def State.engBytes (s : State) (e : Nat) : List Byte :=
  let a := engB (e / 16) + 0x10000 + 0x1000 * (e % 16)
  padTo 256 (bytesLE 4 (s.rdA a) ++ bytesLE 4 (s.rdA (a + 4)) ++ bytesLE 1 (s.eng e).last
    ++ bytesLE 1 (match (s.eng e).run with
      | none => 0xFF
      | some t => t % 8))

/-- The handles of a cluster, rising. -/
def State.handleList (s : State) (c : Nat) : List Nat :=
  if s.replays c then (s.clu c).rhandles.mergeSort (fun a b => a ≤ b) else (s.clu c).handles.map (·.1)

/-- Bytes 64 on of a checkpoint. -/
def State.ckptBody (s : State) (c : Nat) : List Byte :=
  padTo 0x12000 (padTo 0x1000 [] ++ ((List.range 128).map (fun i => thrBytes (s.thr (128 * c + i)))).flatten
    ++ ((List.range 16).map (fun e => s.engBytes (16 * c + e))).flatten) |>.drop 64
  |> (fun b => padTo (0x20000 - 64) (b ++ ((s.handleList c).map (bytesLE 4)).flatten))
  |> (fun b => b ++ s.dGet c 0 dmemTop)

/-- A checkpoint. -/
def State.ckptBytes (s : State) (c : Nat) (k : Ckpt) : List Byte :=
  let body := s.ckptBody c
  let x := s.clu c
  padTo 60 (bytesLE 4 0x434B5031 ++ bytesLE 1 1 ++ bytesLE 1 c ++ bytesLE 2 0 ++ bytesLE 8 (k.cidx.getD 0) ++ bytesLE 8 k.seq
    ++ bytesLE 8 (secOf k.ts) ++ bytesLE 8 (nsOf k.ts * 2 ^ 16 + fracOf k.ts) ++ bytesLE 4 x.imgCrc ++ bytesLE 4 x.build
    ++ bytesLE 4 (s.handleList c).length)
  ++ bytesLE 4 (crc32c body).toNat ++ body

/-- Index of a cluster's next crumb in its ring, and its oldest. -/
def rplHead (c : Nat) : Nat := rplC c + 0x18
def rplOldest (c : Nat) : Nat := rplC c + 0x20

/-- A checkpoint is usable: its CKPT crumb is in the ring and no GAP crumb came since (R300). -/
def State.usable (s : State) (c : Nat) (k : Ckpt) : Bool :=
  k.fresh && (match k.cidx with
    | none => false
    | some i => decide (s.cnt (rplOldest c) ≤ i))

/-- RPL_CLU_STAT and RPL_WIN_IDX follow the checkpoints. -/
def State.capView (s : State) (c : Nat) : State :=
  let l := (s.cap c).ckpts
  let u := l.filter (s.usable c)
  let a := rplC c + 0x14
  let s := s.setFld a 31 31 (b2n (!u.isEmpty))
  let s := match l.head? with
    | none => s
    | some k => s.setFld a 19 16 k.slot
  match u.getLast? with
  | none => s
  | some k => (s.setFld a 23 20 k.slot).setCnt (rplC c + 0x28) (k.cidx.getD 0)

/-- A checkpoint of a cluster in deterministic mode begins (R300): the CKPT crumb is chained, the cluster held, and its state as it
stands is what will be written. -/
def State.takeCkpt (s : State) (c : Nat) : State :=
  if !s.detCfg c || !s.running rplB || s.flag (rplC c + 0x14) 29 || (s.cap c).busy.isSome then s
  else
    let x := s.cap c
    let slot := x.seq % max 1 (s.fld (rplC c) 19 16)
    let i := s.cnt (rplHead c) + x.fifo.length
    let s := s.pushCrumb c (mkCrumb 0xA 0 slot 0 (pk [(64, x.seq), (32, 0), (96, ts96 s.now)]))
    let kept := decide ((s.cap c).fifo.length = x.fifo.length + 1)
    let k : Ckpt := ⟨x.seq, slot, if kept then some i else none, s.now, true⟩
    let bs := s.ckptBytes c k
    (s.setCap c (fun y => { y with seq := y.seq + 1, lastAt := s.mono, busy := some (k, bs) })).setFld (rplC c + 0x14) 30 30 1

/-- A checkpoint that RESUME, the end of a loss or QUIESCED calls for: one still being written comes first (R295, R298, R300). -/
def State.dueCkpt (s : State) (c : Nat) : State :=
  if (s.cap c).busy.isSome then s.setCap c (fun x => { x with again := true }) else s.takeCkpt c

/-- The checkpoints taken so far are not usable any more. -/
def CapSt.stale (x : CapSt) : CapSt :=
  { x with ckpts := x.ckpts.map (fun k => { k with fresh := false }), busy := x.busy.map (fun b => ({ b.1 with fresh := false }, b.2)) }

/-- The end of a loss (R298): the GAP crumb, its event, and a checkpoint. -/
def State.chainGapCrumb (s : State) (c : Nat) : State :=
  match (s.cap c).gap with
  | none => s
  | some g =>
    let s := s.setCap c (fun x => { x.stale with gap := none })
    let s := s.pushCrumb c (mkCrumb 0xB 0 0 0 (pk [(64, g.1), (32, 0), (96, ts96 g.2)]))
    let s := ((s.bump (rplC c + 0x50) 1).raise rplB Ev.rplGap (Src.cluster c)).capView c
    s.dueCkpt c

/-- A cluster with DET = 1 takes RESUME (R295): the START crumb and a new window, whose checkpoint follows. -/
def State.rplResume (s : State) (c : Nat) : State :=
  if !s.detCfg c then s
  else
    let x := s.clu c
    let s := s.setCap c (fun y => { y.stale with seq := 0 })
    let s := s.pushCrumb c (mkCrumb 1 0 (2 * c) 0 (pk [(32, x.imgCrc), (32, x.build), (32, 0), (96, ts96 s.now)]))
    s.capView c

/-! ### Crumbs read back (R302) -/

/-- RPL_RP_POS, RPL_RP_AVAIL, RPL_RP_STOP. -/
def rpPosA : Nat := rplB + 0x78
def State.rpAvail (s : State) : Nat := s.rd (rplB + 0x58) + s.rd (rplB + 0x5C) * 2 ^ 32
def State.rpStop (s : State) : Nat := s.rd (rplB + 0x70) + s.rd (rplB + 0x74) * 2 ^ 32
def State.rpA (s : State) : Nat := s.rd (rplB + 0x60) + s.rd (rplB + 0x64) * 2 ^ 32
def State.rpB (s : State) : Nat := s.rd (rplB + 0x68) + s.rd (rplB + 0x6C) * 2 ^ 32
/-- SRC of RPL_RP_CTRL is a host ring. -/
def State.rpHost (s : State) : Bool := s.flag (rplB + 0x40) 29

/-- Bytes of GDDR6 as a replay reads them; a byte that nothing has written is a free value of its address. -/
def State.peek (s : State) (a n : Nat) : List Byte :=
  (List.range n).map (fun i => (mfind s.mem.bytes (a + i)).getD (BitVec.ofNat 8 (Config.anyNat (2 ^ 64 + a + i))))

/-- The replayer reads a host ring below AVAIL while the owner host port is UP and its management function is bus master (R98, R302);
`host` holds what the ring holds from crumb i on. -/
def State.feed (s : State) (i : Nat) (host : List Crumb) : State :=
  if s.rpHost && s.drainUp then { s with rpl := { s.rpl with ahead := host.take (s.rpAvail - i) } } else s

/-- Crumb i of the source, below AVAIL, as far as it has been read. A source that may not be read gives a GAP crumb (Table 16-4). -/
def State.crumbAt (s : State) (i : Nat) : Option Nat :=
  if s.rpAvail ≤ i then none
  else if s.rpHost then (s.rpl.ahead[i - s.cnt rpPosA]?).map (·.toNat)
  else
    let a := s.rd (rplB + 0x48) + s.rd (rplB + 0x4C) * 2 ^ 32 + 32 * (i % max 1 (s.rd (rplB + 0x50)))
    some (if s.memAllowed .crumb a 32 false then natBE (s.peek a 32) else 0xB * 2 ^ 252)

/-- Fields of a crumb (Table 14-2). -/
def kKind (k : Nat) : Nat := bits k 255 252
def kThr (k : Nat) : Nat := bits k 251 245
def kAux (k : Nat) : Nat := bits k 244 240
def kRet (k : Nat) : Nat := bits k 239 192

/-- The bytes that `n` bytes' worth of DATA crumbs from index i hold; none where one is missing. -/
def State.dataAt (s : State) (i n : Nat) : Option (List Byte) :=
  let l := (List.range ((n + 29) / 30)).map (fun j => s.crumbAt (i + j))
  if l.all (fun x => match x with
    | none => false
    | some k => kKind k = 6) then
    some ((l.map (fun x => bytesBE 30 (bits (x.getD 0) 239 0))).flatten.take n)
  else none

/-! ### The end of a replay (R304) -/

/-- The target goes to QUIESCED with its threads as they are, and the result is told. -/
def State.rpEnd (s : State) (result : Nat) : State :=
  match s.rpl.rp with
  | none => s
  | some x =>
    let c := x.target
    let s := { s with rpl := { s.rpl with rp := none, ahead := [] } }
    let s := (s.setFld (rplB + 0x44) 31 31 0).setFld (rplB + 0x44) 3 0 result
    let s := ((s.setBlk (engB c) 2).setFld (engB c + 0x44) 29 29 0).setClu c (fun y => { y with rhandles := [] })
    let s := s.raise rplB Ev.rplReplayDone (Src.cluster c)
    if result = 3 then s.raise rplB Ev.rplDiverged (Src.cluster c) else s

/-- DIVERGED (Table 14-6). -/
def State.diverge (s : State) (reason kind thr op off : Nat) : State :=
  ((s.wr (rplB + 0x80) (reason * 2 ^ 28 + kind * 2 ^ 24 + thr * 2 ^ 16 + op)).wr (rplB + 0x84) off).rpEnd 3

/-- The word at a thread's PC. -/
def State.wordAt (s : State) (t : Nat) : Nat := (mget (fun _ => 0) (s.clu (cluOf t)).code ((s.thr t).pc / 4)).toNat
/-- An instruction address inside a loaded CODE section (R258). -/
def State.inCode (s : State) (c pc : Nat) : Bool :=
  (s.clu c).sect.any (fun x => decide (x.1 ≤ pc) && decide (pc + 4 ≤ x.1 + x.2))
/-- The operation at a thread's PC. -/
def State.opAt (s : State) (t : Nat) : Option Iop := if s.inCode (cluOf t) (s.thr t).pc then iDecode (s.wordAt t) else none
/-- The operation `o` at a thread's PC has a logged event; a WAIT on no input completes no wait and has none (Table 14-1, R265). -/
def State.logsHere (s : State) (t : Nat) (o : Iop) : Bool :=
  o.logged && !(o = .wait && (s.gr t (wRs1 (s.wordAt t))).toNat % 2 ^ 32 = 0)
/-- The thread stands at an instruction with a logged event. -/
def State.atLogged (s : State) (t : Nat) : Bool := match s.opAt t with
  | none => false
  | some o => s.logsHere t o

/-- The crumb kind that an operation's completion writes. -/
def Iop.crumbKind : Iop → Nat
  | .wait => 3
  | .rcv => 4
  | .crb => 7
  | _ => 5

/-! ### Consuming a crumb (R303) -/

/-- One crumb more is consumed. -/
def State.advance (s : State) (n : Nat) : State :=
  let s := { (s.setCnt rpPosA (s.cnt rpPosA + n)) with rpl := { s.rpl with ahead := s.rpl.ahead.drop n } }
  match s.rpl.rp with
  | none => s
  | some x => { s with rpl := { s.rpl with rp := some { x with lastAt := s.mono } } }

/-- The index at which consumption ends: CIDX of B, or STOP. -/
def State.rpLast (s : State) : Nat :=
  if s.rpB = 0 then s.rpStop else leAt (s.peek s.rpB 64) 8 8

/-- The first crumb from POS on that tells how far thread t runs: the retired count at which a TURN takes it off or puts it back on, one
more where it faults there, or its own next logged instruction (none). -/
def State.rpGoal (s : State) (t : Nat) (l : List (Option Nat)) : Option (Option Nat) :=
  l.findSome? (fun x => match x with
    | none => none
    | some k =>
      if kKind k = 2 && kThr k / 8 = inClu t / 8 then
        if kAux k % 2 = 1 && bits k 191 189 = t % 8 then some (some (bits k 185 138 + b2n (decide (bits k 188 186 = 4))))
        else if kThr k = inClu t then some (some (kRet k)) else none
      else if kThr k = inClu t && [3, 4, 5, 7, 8].contains (kKind k) then some none else none)

/-- Whether a replaying thread may issue an instruction without a logged event now: not past its count in B, nor past the
count at which a TURN crumb takes it off; where the crumbs read so far do not tell, only once all of them are there. -/
def State.rpMay (s : State) (t : Nat) : Bool :=
  match s.rpl.rp with
  | none => false
  | some x =>
    let ret := (s.thr t).retired
    let upTo := match x.ends with
      | none => true
      | some l => decide (ret < l.getD (inClu t) 0)
    let pos := s.cnt rpPosA
    let l := (List.range (min s.rpLast s.rpAvail - pos)).map (fun i => s.crumbAt (pos + i))
    upTo && (match s.rpGoal t (l.takeWhile (·.isSome)) with
      | some (some n) => decide (ret % 2 ^ 48 < n)
      | some none => true
      | none => decide (s.rpLast ≤ s.rpAvail) && l.all (·.isSome))

/-- A thread that leaves its engine in REPLAY at an instruction with a logged event which faults: no crumb tells of the
instruction, and it faults for real. -/
def State.replayFault (s : State) (t : Nat) : State :=
  if (s.thr t).state = 2 && s.atLogged t then
    match s.opAt t with
    | none => s
    | some op => match s.special t (s.wordAt t) op .clean with
      | .fault code addr _ => s.thrFault t code addr (wOp (s.wordAt t))
      | _ => s
  else s

/-- The state in which a thread leaves its engine at a TURN crumb of CAUSE `cause` (none: the engine stood idle before it). -/
def State.offState (s : State) (t : Nat) (cause : Option Nat) : Nat :=
  match cause with
  | some 0 => 3
  | some 1 => 4
  | some _ => 1
  | none => if s.opAt t = some .wait then 4 else if s.atLogged t then 3 else 1

/-- A TURN crumb (R303): the engine leaves PREV once PREV has retired PREV_RETIRED and reached its leaving point, and issues from
THREAD at its RETIRED. A THREAD that the debugger halted holds the replay. -/
def State.consumeTurn (s : State) (c k : Nat) : State :=
  let t := 128 * c + kThr k
  let e := engOf t
  let valid := kAux k % 2 = 1
  let cause := bits k 188 186
  let q := if valid then some (8 * e + bits k 191 189) else (s.eng e).run
  let early := match q with
    | some p => valid && (s.thr p).retired % 2 ^ 48 ≠ bits k 185 138
    | none => false
  if early then s
  else
    let s := match q with
      | some p => if !valid || cause = 4 then s.replayFault p else s
      | none => s
    let going := match q with
      | some p => decide ((s.thr p).state = 2) && (if valid then cause = 2 || cause = 4 else !s.atLogged p && s.rpMay p)
      | none => false
    let ready := (s.thr t).state = 1 || q = some t && (s.thr t).state = 2
    if going || !ready || (s.thr t).retired % 2 ^ 48 ≠ kRet k then s
    else
      let s := match q with
        | some p => if (s.thr p).state = 2 then s.thrTo p (s.offState p (if valid then some cause else none)) else s
        | none => s
      ((s.thrTo t 2).setEng e (fun x => { x with last := kAux k / 2, run := some t, quant := s.mono })).advance 1

/-- Where an instruction's logged bytes go in data memory. -/
def State.logDest (s : State) (t w : Nat) (op : Iop) (bs : List Byte) : List (Nat × List Byte) :=
  match op with
  | .rcv => [(s.opA t w, bs)]
  | .csub =>
    let n := bs.length - 32
    let o := match bufRef (subDst (s.dGet (cluOf t) (s.opA t w) 64)) with
      | some (0, _, o) => o
      | _ => 0
    if n = 0 then [(s.opB t w, bs)] else [(o, bs.take n), (s.opB t w, bs.drop n)]
  | _ => if bs.isEmpty then [] else [(s.opB t w, bs)]

/-- The handles and open reservations that a replayed instruction changes. -/
def State.replayBooks (s : State) (t w : Nat) (op : Iop) (st v : Nat) : State :=
  let c := cluOf t
  let a := s.opA t w
  let add := s.setClu c (fun x => { x with rhandles := v :: x.rhandles })
  let del := fun h => s.setClu c (fun x => { x with rhandles := x.rhandles.erase h })
  match op with
  | .rcv => if st = 0 then add else s
  | .alloc => if st = 0 then add else s
  | .copy => if st = 0 then add else s
  | .free => if st = 0 then del a else s
  | .emit => if st = 0 || st = St.destDown then del a else s
  | .res => if st = 0 then s.setThr t (fun x => { x with res := x.res ++ [(bits v 41 32, bits v 31 16)] }) else s
  | .cmt => if st = St.badSlot then s else s.setThr t (fun x => { x with res := x.res.erase (bits a 41 32, bits a 31 16) })
  | _ => s

/-- The logged instruction of a thread completes with the result word `r` and the bytes that its crumbs give. -/
def State.replayResult (s : State) (t w : Nat) (op : Iop) (r : Nat) (bs : List Byte) : State :=
  let st := r / 2 ^ 56 % 256
  let s := s.replayBooks t w op st (r % 2 ^ 56)
  s.settle t w op st (r % 2 ^ 56) (s.logDest t w op bs)

/-- An AMO on data memory (R259): rd takes the old value. -/
def State.amoDo (s : State) (t w : Nat) (op : Iop) : State :=
  let c := cluOf t
  let a := s.opA t w
  let old := BitVec.ofNat 64 (natLE (s.dGet c a 8))
  let new := amoNew op old (s.gr t (wRs2 w)) (s.gr t (wRd w))
  let s := (s.dPut c a (bytesLE 8 new.toNat)).setGr t (wRd w) old
  s.retire t ((s.thr t).pc + 4)

/-- TSR writes an instant to the pair named by rd (R269). -/
def State.tsrDo (s : State) (t w ts : Nat) : State :=
  let s := (s.setGr t (wRd w) (BitVec.ofNat 64 (bits ts 95 48))).setGr t (wRd w + 1) (BitVec.ofNat 64 (bits ts 47 0))
  s.retire t ((s.thr t).pc + 4)

/-- A thread that consumed its crumb: a waiting one becomes READY. -/
def State.afterCrumb (s : State) (t : Nat) : State :=
  let s := if (s.thr t).state = 3 || (s.thr t).state = 4 then (s.setThr t (fun x => { x with stall := 0 })).thrTo t 1 else s
  s.stepEnd t

/-- The crumb k at POS is consumed by thread t, which stands at operation op. -/
def State.consumeThr (s : State) (t k : Nat) (op : Iop) : State :=
  let w := s.wordAt t
  let pos := s.cnt rpPosA
  let kind := kKind k
  let bad := fun reason => s.diverge reason kind (inClu t) (wOp w) 0
  let door := kind = 8 && op = .rd
  if !door && (kind ≠ op.crumbKind || (kind = 5 && bits k 191 186 ≠ wOp w)) then bad 1
  else if kRet k ≠ (s.thr t).retired % 2 ^ 48 then bad 2
  else match kind with
    | 3 =>
      let s := s.setThr t (fun x => { x with event := kAux k })
      ((s.settle t w op 0 (kAux k) []).advance 1).afterCrumb t
    | 4 =>
      let n := if bits k 191 184 = 0 then 128 else 0
      match s.dataAt (pos + 1) n with
      | none => s
      | some bs => ((s.replayResult t w op (bits k 191 128) bs).advance (1 + (n + 29) / 30)).afterCrumb t
    | 7 =>
      if bits k 191 128 ≠ s.opA t w || bits k 127 64 ≠ s.opB t w then bad 3
      else ((s.settle t w op 0 0 []).advance 1).afterCrumb t
    | 8 =>
      let bs := slice (bytesLE 4 (bits k 127 96) ++ bytesLE 4 (bits k 95 64)) 0 (s.slotBytes (s.opA t w % 1024))
      ((s.replayResult t w op (bits k 191 128) bs).advance 1).afterCrumb t
    | _ =>
      if op = .tsr then ((s.tsrDo t w (bits k 95 0)).advance 1).afterCrumb t
      else if wOp w = 0x28 then ((s.amoDo t w op).advance 1).afterCrumb t
      else
        let n := bits k 95 64
        match s.dataAt (pos + 1) n with
        | none => s
        | some bs => ((s.replayResult t w op (bits k 159 96) bs).advance (1 + (n + 29) / 30)).afterCrumb t

/-- The next crumb is consumed by the thread or turn it belongs to (R303). -/
def State.consume (s : State) : State :=
  match s.rpl.rp with
  | none => s
  | some x =>
    let pos := s.cnt rpPosA
    if pos = s.rpLast then s
    else match s.crumbAt pos with
      | none => s
      | some k =>
        let kind := kKind k
        let t := 128 * x.target + kThr k
        if kind = 0xB then s.rpEnd 6
        else if kind = 1 || kind = 9 || kind = 0xA then s.advance 1
        else if kind = 2 then s.consumeTurn x.target k
        else if kind = 3 || kind = 4 || kind = 5 || kind = 7 || kind = 8 then
          match s.opAt t, (s.thr t).state with
          | some op, 2 => if s.logsHere t op then s.consumeThr t k op else s
          | some op, 3 => if s.logsHere t op then s.consumeThr t k op else s
          | some op, 4 => if s.logsHere t op then s.consumeThr t k op else s
          | _, 1 =>
            match (s.eng (engOf t)).run with
            | none => s
            | some r => if s.atLogged r then s.diverge 1 kind (inClu r) (wOp (s.wordAt r)) 0 else s
          | _, _ => s
        else s.diverge 1 kind (kThr k) 0 0

end Sys2Proof.Machine
end

