-- ==== Sys2Proof/Machine/IlkOps.lean ====
section
/-! DEFINITION. How an Iluken engine issues an instruction, and the shared operations of the instruction families
(12_iluken_instruction_set.md R255–R259, R265, R269, R274; 21_events_and_errors.md R449). -/
namespace Sys2Proof.Machine

/-! ### Issue -/

/-- A valid breakpoint of the cluster matches the PC (R449). -/
def State.bpAt (s : State) (c pc : Nat) : Bool :=
  [0, 1, 2, 3].any (fun n => s.flag (dbgC c + 0x10 + 4 * n) 31 && decide (s.fld (dbgC c + 0x10 + 4 * n) 17 0 = pc))

/-- A thread becomes HALTED before it issues the instruction at a breakpoint (R449). -/
def State.bpHalt (s : State) (t pc : Nat) : State :=
  let s := s.setThr t (fun x => { x with bpPass := some pc, under := 1, step := false })
  let a := dbgC (cluOf t) + 4
  ((s.setFld a 30 30 1).setFld a 6 0 (inClu t)).leave t 5 3

/-- The thread that an engine of a cluster would issue from now: its cluster runs and no checkpoint holds it (R236, R300). -/
def State.issuer (s : State) (c e : Nat) : Option Nat :=
  if s.cluRuns c && !s.cluHeld c then
    match (s.eng (16 * c + e)).run with
    | none => none
    | some t => if (s.thr t).state = 2 then some t else none
  else none

/-- The thread halts at a breakpoint instead of issuing. -/
def State.breaks (s : State) (t : Nat) : Bool :=
  s.bpAt (cluOf t) (s.thr t).pc && decide ((s.thr t).bpPass ≠ some (s.thr t).pc)

/-- In REPLAY an instruction with a logged event waits for its crumb, and no thread passes its count (R303, R304). -/
def State.replayHolds (s : State) (t : Nat) : Bool := s.replays (cluOf t) && (s.atLogged t || !s.rpMay t)

/-- A fetch outside every loaded CODE section (R258). No word names the faulting instruction, and its OP is a free value. -/
def State.fetchFault (s : State) (t : Nat) : State :=
  let d := s.draw
  d.2.thrFault t 4 (s.thr t).pc (Config.anyNat d.1 % 64)

/-- Engine e of cluster c issues one instruction, where it is operation `o` (none: a word that names none); `k` is its effect
on the thread and the word. Any other word leaves the state to the command of its own operation, a breakpoint to BKPT_HIT. -/
def State.issue (s : State) (c : Fin 12) (e : Fin 16) (o : Option Iop) (k : Nat → Nat → State → State) : State :=
  match s.issuer c.val e.val with
  | none => s
  | some t =>
    if s.breaks t || s.replayHolds t then s
    else if !s.inCode c.val (s.thr t).pc then s.fetchFault t
    else if iDecode (s.wordAt t) = o then k t (s.wordAt t) s else s

/-- An instruction that goes on at the next one is complete. -/
def State.next (s : State) (t : Nat) : State := (s.retire t ((s.thr t).pc + 4)).stepEnd t

/-- rd takes a value and the thread goes on. -/
def State.putRd (s : State) (t w : Nat) (v : DWord) : State := (s.setGr t (wRd w) v).next t

/-! ### Values -/

/-- sext(imm16) and zext(imm16) (R256). -/
def sext16 (w : Nat) : DWord := (BitVec.ofNat 16 (wImm w)).signExtend 64
def zext16 (w : Nat) : DWord := BitVec.ofNat 64 (wImm w)

/-- An R-format instruction: rd := f rs1 rs2. -/
def State.alu (f : DWord → DWord → DWord) (t w : Nat) (s : State) : State :=
  s.putRd t w (f (s.gr t (wRs1 w)) (s.gr t (wRs2 w)))
/-- An I-format instruction: rd := f rs1, with the immediate in f. -/
def State.alui (f : Nat → DWord → DWord) (t w : Nat) (s : State) : State := s.putRd t w (f w (s.gr t (wRs1 w)))

/-- A condition as the value 1 or 0. -/
def boolW (b : Bool) : DWord := if b then 1 else 0

/-- Leading zeros, trailing zeros and set bits of 64 bits. -/
def clz64 (v : DWord) : DWord := BitVec.ofNat 64 (if v = 0 then 64 else 63 - v.toNat.log2)
def ctz64 (v : DWord) : DWord := BitVec.ofNat 64 (((List.range 64).find? (fun i => v.getLsbD i)).getD 64)
def popc64 (v : DWord) : DWord := BitVec.ofNat 64 ((List.range 64).countP (fun i => v.getLsbD i))

/-- The low n bytes in the opposite order, zero-extended. -/
def bswapN (n : Nat) (v : DWord) : DWord := BitVec.ofNat 64 (natBE (bytesLE n v.toNat))

/-- High 64 bits of the signed and of the unsigned product. -/
def mulhS (a b : DWord) : DWord := BitVec.ofInt 64 (a.toInt * b.toInt / 2 ^ 64)
def mulhU (a b : DWord) : DWord := BitVec.ofNat 64 (a.toNat * b.toNat / 2 ^ 64)

/-- SHI: imm[15:14] names the shift, imm[5:0] the amount. -/
def shiftImm (w : Nat) (a : DWord) : DWord :=
  let n := bits (wImm w) 5 0
  match bits (wImm w) 15 14 with
  | 0 => a <<< n
  | 1 => a >>> n
  | 2 => a.sshiftRight n
  | _ => a.rotateRight n

/-- Place and length of a BFX or BFI field. -/
def bfPos (w : Nat) : Nat := bits (wImm w) 13 8
def bfLen (w : Nat) : Nat := bits (wImm w) 5 0 + 1

/-- BFX: the field of a. -/
def bfExtract (w : Nat) (a : DWord) : DWord := BitVec.ofNat 64 (a.toNat / 2 ^ bfPos w % 2 ^ bfLen w)
/-- BFI: d with its field replaced; bits above 63 are not written. -/
def bfInsert (w : Nat) (d a : DWord) : DWord :=
  BitVec.ofNat 64 (putBits d.toNat (bfPos w + min (bfLen w) (64 - bfPos w) - 1) (bfPos w) a.toNat)
/-- INSH: halfword h of d replaced by the immediate. -/
def insHalf (w : Nat) (d : DWord) : DWord :=
  BitVec.ofNat 64 (putBits d.toNat (16 * (wRs1 w % 4) + 15) (16 * (wRs1 w % 4)) (wImm w))

/-! ### Loads, stores, atomics (R258, R259) -/

/-- Address of a load or store: rs1 + sext(imm), modulo 2^64. -/
def State.effAddr (s : State) (t w : Nat) : Nat := (s.gr t (wRs1 w) + sext16 w).toNat

/-- An access of n bytes at a: its fault, or what follows. -/
def State.access (s : State) (t w a n : Nat) (k : State → State) : State :=
  if a % n ≠ 0 then s.thrFault t 2 a (wOp w)
  else if dmemTop ≤ a then s.thrFault t 3 a (wOp w)
  else k s

/-- A load of n bytes; `sx` sign-extends. -/
def State.load (n : Nat) (sx : Bool) (t w : Nat) (s : State) : State :=
  let a := s.effAddr t w
  s.access t w a n (fun s =>
    let v := natLE (s.dGet (cluOf t) a n)
    s.putRd t w (if sx then BitVec.ofInt 64 (signed (8 * n) v) else BitVec.ofNat 64 v))

/-- A store of the low n bytes of the register that the rd field names. -/
def State.store (n : Nat) (t w : Nat) (s : State) : State :=
  let a := s.effAddr t w
  s.access t w a n (fun s => (s.dPut (cluOf t) a (bytesLE n (s.gr t (wRd w)).toNat)).next t)

/-- An AMO: its place in the cluster order is a VALUE crumb with result word 0 (Table 14-3). -/
def State.amo (op : Iop) (t w : Nat) (s : State) : State :=
  let a := s.opA t w
  s.access t w a 8 (fun s => ((s.crumbs (cluOf t) [s.valueCrumb t w 0 0]).amoDo t w op).stepEnd t)

/-! ### Branches and jumps (R257, R258) -/

/-- A branch on rs1 and rs2, which the B format holds in bits [25:21] and [20:16]. -/
def State.branch (f : DWord → DWord → Bool) (t w : Nat) (s : State) : State :=
  let pc := BitVec.ofNat 64 (s.thr t).pc
  let dst := if f (s.gr t (wRd w)) (s.gr t (wRs1 w)) then pc + 4 * sext16 w else pc + 4
  (s.retire t dst.toNat).stepEnd t

/-- JAL: the target is 4 × target16. -/
def State.jal (t w : Nat) (s : State) : State :=
  let s := s.setGr t (wRd w) (BitVec.ofNat 64 ((s.thr t).pc + 4))
  (s.retire t (4 * wImm w)).stepEnd t

/-- JALR: the target is taken before rd is written, and must be 4-aligned. -/
def State.jalr (t w : Nat) (s : State) : State :=
  let dst := s.effAddr t w
  if dst % 4 ≠ 0 then s.thrFault t 2 dst (wOp w)
  else ((s.setGr t (wRd w) (BitVec.ofNat 64 ((s.thr t).pc + 4))).retire t dst).stepEnd t

/-! ### Special instructions that act on the thread itself (R260, R265, R269) -/

/-- A result word of STATUS and VALUE without crumbs of its own. -/
def State.status (op : Iop) (t w st v : Nat) (s : State) : State := (s.settle t w op st v []).stepEnd t

/-- A wait with input i pending: the EVENT crumb, the result word, the input consumed (R241). -/
def State.waitTake (s : State) (t w i : Nat) : State :=
  ((s.crumbs (cluOf t) [mkCrumb 3 (inClu t) i (s.thr t).retired 0]).settle t w .wait St.ok i []).evTake t i

/-- EVT WAIT. -/
def State.ilkWait (t w : Nat) (s : State) : State :=
  let m := s.opA t w % 2 ^ 32
  let s := s.setThr t (fun x => { x with mask := m })
  if m = 0 then State.status .wait t w St.noMask 0 s
  else match s.evPick t m with
    | some i => (s.waitTake t w i).stepEnd t
    | none => s.leave t 4 1

/-- EVT PARK: the thread continues at the next instruction after RESUME. -/
def State.ilkPark (t w : Nat) (s : State) : State :=
  let s := s.settle t w .park St.ok 0 []
  let s := if (s.thr t).step then s.setFld (dbgB + 0x204) 30 30 1 else s
  (s.setThr t (fun x => { x with loaded := false, step := false })).leave t 0 2

/-- TSR: the time base into the pair named by rd, with its VALUE crumb. -/
def State.ilkTsr (t w : Nat) (s : State) : State :=
  let ts := ts96 s.now
  ((s.crumbs (cluOf t) [s.valueCrumb t w 0 ts]).tsrDo t w ts).stepEnd t

/-- RDSTS: rd := STS, whose upper byte is the STATUS OK that LAST_STATUS takes after it (R255, R260). -/
def State.ilkRdsts (t w : Nat) (s : State) : State :=
  ((s.setGr t (wRd w) (BitVec.ofNat 64 (s.sts t))).setThr t (fun x => { x with status := St.ok })).next t

/-- BKPT: HALTED where breakpoints are enabled, at the next instruction; BREAK otherwise (R269, R449). -/
def State.ilkBkpt (t w : Nat) (s : State) : State :=
  if s.flag (dbgC (cluOf t)) 31 then
    let s := s.settle t w .bkpt St.ok 0 []
    let s := if (s.thr t).step then s.setFld (dbgB + 0x204) 30 30 1 else s
    (s.setThr t (fun x => { x with under := 1, step := false })).leave t 5 3
  else s.thrFault t 8 0 (wOp w)

end Sys2Proof.Machine
end

