-- ==== Sys2Proof/Machine/EngLoad.lean ====
section
/-! DEFINITION. The cluster loader: the Abady cluster image and what a load does (11_engine_array.md R252,
12_iluken_instruction_set.md R255, R276–R278). -/
namespace Sys2Proof.Machine

/-- A section entry of an image: type, file offset, destination, length (R277). -/
structure ImgSect where
  typ : Nat
  off : Nat
  dest : Nat
  len : Nat
  deriving DecidableEq, Repr

/-- The section entries that NSECT counts. -/
def imgSects (b : List Byte) : List ImgSect :=
  (List.range (natBE (slice b 8 1))).map (fun i =>
    let o := 64 + 16 * i
    ⟨natBE (slice b o 1), natBE (slice b (o + 4) 4), natBE (slice b (o + 8) 4), natBE (slice b (o + 12) 4)⟩)

/-- The sections of one type. -/
def ofTyp (l : List ImgSect) (t : Nat) : List ImgSect := l.filter (fun x => x.typ = t)

/-- Two sections of one memory overlap. -/
def sectOverlap : List ImgSect → Bool
  | [] => false
  | x :: l => l.any (fun y => decide (x.dest < y.dest + y.len) && decide (y.dest < x.dest + x.len)) || sectOverlap l

/-- The ENTRY word of a thread of the cluster; 0 without an ENTRY section. -/
def entryWord (b : List Byte) (l : List ImgSect) (i : Nat) : Nat :=
  match (ofTyp l 3).head? with
  | none => 0
  | some x => natBE (slice b (x.off + 4 * i) 4)

/-- A PC is 4-aligned and inside a CODE section. -/
def entryOk (l : List ImgSect) (pc : Nat) : Bool :=
  pc % 4 = 0 && (ofTyp l 1).any (fun x => decide (x.dest ≤ pc) && decide (pc + 4 ≤ x.dest + x.len))

/-- RESULT of the checks of R278 on an image of the length that ENG_LOAD_LEN gives. -/
def imgCheck (b : List Byte) : Nat :=
  let n := natBE (slice b 8 1)
  let l := imgSects b
  let head := natBE (slice b 0 4) ≠ 0x41424459 || natBE (slice b 4 1) ≠ 1 || natBE (slice b 5 1) ≠ 1 || natBE (slice b 6 1) ≠ 1
    || n = 0 || decide (16 < n) || natBE (slice b 12 4) ≠ b.length || decide (b.length < 64 + 16 * n)
    || natBE (slice b 16 4) ≠ (crc32c (b.drop 64)).toNat
  let bad := l.any (fun x => decide (b.length < x.off + x.len) || x.typ = 0 || decide (5 < x.typ))
    || decide (1 < (ofTyp l 3).length) || decide (1 < (ofTyp l 4).length) || sectOverlap (ofTyp l 1) || sectOverlap (ofTyp l 2)
    || (List.range 128).any (fun i => bit (entryWord b l i) 31 && !entryOk l (bits (entryWord b l i) 17 0))
  if head || bad then 1
  else if (ofTyp l 1).any (fun x => decide (0x40000 < x.dest + x.len)) || (ofTyp l 2).any (fun x => decide (dmemTop < x.dest + x.len))
  then 2 else 0

/-- Byte i of a memory as the sections of a type give it. -/
def sectByte (b : List Byte) (l : List ImgSect) (i : Nat) : Option Byte :=
  match l.find? (fun x => decide (x.dest ≤ i) && decide (i < x.dest + x.len)) with
  | none => none
  | some x => some (b.getD (x.off + (i - x.dest)) 0)

/-- The instruction store with the CODE sections written; its words are little-endian (R256). -/
def loadCode (b : List Byte) (l : List ImgSect) (m : Sparse Word) : Sparse Word :=
  l.foldl (fun m x => (List.range ((x.dest + x.len + 3) / 4 - x.dest / 4)).foldl (fun m j =>
    let k := x.dest / 4 + j
    let old := mget (fun _ => 0) m k
    mput (fun _ => 0) m k (BitVec.ofNat 32 (natLE ((bytesLE 4 old.toNat).zipIdx.map (fun y => (sectByte b l (4 * k + y.2)).getD y.1))))) m) m

/-- The data memory: zero, then the DATA sections. -/
def loadData (b : List Byte) (l : List ImgSect) : Sparse Byte :=
  l.foldl (fun m x => (List.range x.len).foldl (fun m j => mput (fun _ => 0) m (x.dest + j) (b.getD (x.off + j) 0)) m) []

/-- A thread after a load: everything but its entry point at reset (R235, R252, R255, R301). -/
def loadThr (b : List Byte) (l : List ImgSect) (i : Nat) (x : Thr) : Thr :=
  let w := entryWord b l i
  let pc := bits w 17 0
  { pc := if bit w 31 then pc else 0, entry := if bit w 31 then some pc else none, since := x.since }

/-- A slot-table word of an engine: the image's, or the reset pattern. -/
def slotWord (b : List Byte) (l : List ImgSect) (e w : Nat) : Nat :=
  match (ofTyp l 4).head? with
  | none => 0x76543210
  | some x => natBE (slice b (x.off + 8 * e + 4 * w) 4)

/-- Both copies of a slot-table word. -/
def State.putSlot (s : State) (c e w v : Nat) : State :=
  let a := engB c + 0x10000 + 0x1000 * e + 4 * w
  let v := v &&& 0x77777777
  { (s.wr a v) with act := mput rstAt s.act a (BitVec.ofNat 32 v) }

/-- The effects of a load that passed its checks. -/
def State.loadImage (s : State) (c : Nat) (b : List Byte) : State :=
  let l := imgSects b
  let s := s.freeHandles c
  let s := s.setClu c (fun x => { x with
    code := loadCode b (ofTyp l 1) x.code, sect := (ofTyp l 1).map (fun y => (y.dest, y.len)), dmem := loadData b (ofTyp l 2),
    handles := [], rhandles := [], imgCrc := natBE (slice b 16 4), build := natBE (slice b 20 4), gen := x.gen + 1 })
  let s := (List.range 128).foldl (fun s i =>
    let t := 128 * c + i
    ((s.setThr t (loadThr b l i)).wr (thrA t 0x20) 0).setCnt (thrA t 0x28) 0) s
  let s := (List.range 16).foldl (fun s e =>
    ((s.putSlot c e 0 (slotWord b l e 0)).putSlot c e 1 (slotWord b l e 1)).setEng (16 * c + e) (fun x => { x with run := none })) s
  (s.setFld (dbgC c + 4) 31 31 0).setFld (engB c + 8) 4 4 0

/-- LOADING ends with RESULT (Table 11-5). -/
def State.loadEnd (s : State) (c r : Nat) : State :=
  let a := engB c + 0x44
  let s := (((s.setBlk (engB c) 2).setFld a 30 30 0).setFld a 29 29 (b2n (decide (r = 0)))).setFld a 3 0 r
  s.raise (engB c) (if r = 0 then Ev.engLoadDone else Ev.engLoadFail) (Src.cluster c)

end Sys2Proof.Machine
end

