-- ==== Sys2Proof/Machine/Eng.lean ====
section
/-! DEFINITION. The commands of the engine array (11_engine_array.md). -/
namespace Sys2Proof.Machine

/-! ### Turns, stalls and waits (R237, R241) -/

/-- QUANTUM_EXPIRE: the QUANTUM cycles of 0.5 ns of the engine's turn have passed; the engine makes a turn where another of its threads is READY, and the
thread goes on with a fresh quantum otherwise. Quantum expiry is ignored in REPLAY (R303). -/
def State.quantumExpire (s : State) (c e : Nat) : State :=
  let n := 16 * c + e
  match (s.eng n).run with
  | none => s
  | some t =>
    if !s.cluRuns c || s.replays c || s.cluHeld c || (s.thr t).state ≠ 2
      || !s.past ((s.eng n).quant + (s.eng n).qlen * 32768) then s
    else if (List.range 8).any (fun i => 8 * n + i ≠ t && (s.thr (8 * n + i)).state = 1) then s.turn n 5 (some t)
    else s.setEng n (fun x => { x with quant := s.mono })
def execQuantumExpire (c : Fin 12) (e : Fin 16) (s : State) : Res := .next (s.quantumExpire c.val e.val)

/-- A thread's cluster runs, not in REPLAY and not held by a checkpoint, so that its stalls and waits can end. -/
def State.thrLive (s : State) (t : Nat) : Bool :=
  s.cluRuns (cluOf t) && !s.replays (cluOf t) && !s.cluHeld (cluOf t)

/-- The thread has a long stall outstanding, HALTED or not (R247). -/
def State.stalled (s : State) (t : Nat) : Bool :=
  (s.thr t).state = 3 || ((s.thr t).state = 5 && (s.thr t).under = 3)

/-- STALL_COMPLETE: the long stall of a thread completes, if what it waits for is there; `e` is what a GDDR6 read finds. -/
def State.stallComplete (s : State) (t : Nat) (e : Ecc) : State :=
  if s.thrLive t && s.stalled t then
    match s.opAt t with
    | none => s
    | some op => s.stallDone t (s.wordAt t) op e
  else s
def execStallComplete (t : Fin 1536) (e : Ecc) (s : State) : Res := .next (s.stallComplete t.val e)

/-- EVENT_WAKE: a WAITING thread becomes READY with the lowest-numbered pending input of its mask. -/
def State.eventWake (s : State) (t : Nat) : State :=
  if s.thrLive t && (s.thr t).state = 4 then
    match s.evPick t (s.thr t).mask with
    | none => s
    | some i => (s.waitTake t (s.wordAt t) i).wakeThr t
  else s
def execEventWake (t : Fin 1536) (s : State) : Res := .next (s.eventWake t.val)

/-- TIMER_FIRE: the time base has reached the thread's timer, and e31 is pending until a wait takes it (Table 11-4). -/
def execTimerFire (t : Fin 1536) (s : State) : Res :=
  .next (if s.timerDue t.val then s.setThr t.val (fun x => { x with fired := true }) else s)

/-! ### Signals from outside (R240, R250) -/

/-- ENG_SIGNAL_WRITE: one signal to the thread and input that the written word names. -/
def State.engSignal (s : State) (c v : Nat) : State :=
  s.signalTo (128 * c + 8 * bits v 19 16 + bits v 10 8) (bits v 4 0) none
def execEngSignalWrite (c : Fin 12) (v : Word) (s : State) : Res := .next (s.engSignal c.val v.toNat)

/-- DL_RESCUE: one signal to the target of ENG_DL_CFG. -/
def State.dlRescue (s : State) (c : Nat) : State :=
  let w := s.rd (engB c + 0x58)
  s.signalTo (128 * c + 8 * bits w 30 27 + bits w 26 24) (bits w 23 19) none
def execDlRescue (c : Fin 12) (s : State) : Res := .next (s.dlRescue c.val)

/-! ### Deadlock (R249, R250) -/

/-- A thread waits inside scope. -/
def State.waitsInside (s : State) (t : Nat) : Bool :=
  let x := s.thr t
  (x.state = 4 && (List.range 32).all (fun i => !x.mask.testBit i || [0, 2, 3].contains (s.bindKind t i)))
    || (x.state = 3 && (x.stall = 4 || x.stall = 5))

/-- The clusters of a scope: one, or those in RUN. -/
def State.scopeClus (s : State) (d : Fin 13) : List Nat :=
  if d.val < 12 then [d.val] else (List.range 12).filter (fun c => s.running (engB c))

/-- The detector of a scope runs, and its window. -/
def State.dlCfg (s : State) (d : Fin 13) : Bool × Nat :=
  let a := if d.val < 12 then engB d.val + 0x58 else engB 0 + 0x80008
  (s.flag a 31, s.fld a 15 0 * uUs)

/-- Start of the deadlock condition of a scope, where it holds. -/
def State.dlStart (s : State) (d : Fin 13) : Option Nat :=
  let cs := s.scopeClus d
  let all := cs.flatMap thrsOf
  let left := all.filter (fun t => (s.thr t).state ≠ 0 && (s.thr t).state ≠ 6)
  if left.isEmpty || !left.all s.waitsInside || (d.val = 12 && !left.any (fun t => (s.thr t).state = 3)) then none
  else
    let sig := if d.val < 12 then (s.clu d.val).sigAt else s.en.sigAt
    some (all.foldl (fun m t => max m (s.thr t).since) sig)

/-- The start of the deadlock last found in a scope. -/
def State.dlAt (s : State) (d : Fin 13) : Option Nat := if d.val < 12 then (s.clu d.val).dlAt else s.en.dlAt
/-- Note it. -/
def State.setDlAt (s : State) (d : Fin 13) (v : Option Nat) : State :=
  if d.val < 12 then s.setClu d.val (fun x => { x with dlAt := v }) else { s with en := { s.en with dlAt := v } }

/-- THR_SNAP_0 and THR_SNAP_1 of a thread. `inSnap` is VALID. -/
def State.snapThr (s : State) (inSnap : Bool) (t : Nat) : State :=
  let x := s.thr t
  (s.wr (thrA t 0x18) (b2n inSnap * 2 ^ 31 + x.state * 2 ^ 28 + x.stall * 2 ^ 24
    + (if x.stall = 4 || x.stall = 5 then x.chan else 0))).wr (thrA t 0x1C) x.mask

/-- A scope is found deadlocked. -/
def State.deadlocked (s : State) (d : Fin 13) : State :=
  let cs := s.scopeClus d
  let st := fun c => engB c + 0x5C
  let s := if cs.any (fun c => s.flag (st c) 31) then
      cs.foldl (fun s c => s.setFld (st c) 15 0 (satAdd 0xFFFF (s.fld (st c) 15 0) 1)) s
    else
      let s := (cs.flatMap thrsOf).foldl (fun s t => s.snapThr (decide ((s.thr t).state ≠ 0 ∧ (s.thr t).state ≠ 6)) t) s
      cs.foldl (fun s c => (s.setFld (st c) 31 31 1).setFld (st c) 30 30 (b2n (decide (d.val = 12)))) s
  cs.foldl (fun s c => (s.bump (engB c + 0x220) 1).raise (engB c) Ev.engDeadlock (Src.cluster c)) s

/-- DEADLOCK_DETECT: scope d, a cluster or (12) the device, has been deadlocked for WINDOW_US; found once for a deadlock. -/
def State.deadlockDetect (s : State) (d : Fin 13) : State :=
  match s.dlStart d with
  | none => s
  | some b =>
    let cfg := s.dlCfg d
    if cfg.1 && s.past (b + cfg.2) && s.dlAt d ≠ some b then (s.setDlAt d (some b)).deadlocked d else s
def execDeadlockDetect (d : Fin 13) (s : State) : Res := .next (s.deadlockDetect d)

/-! ### Channels (R246, R248) -/

/-- CHN_HOLD_DETECT: the oldest uncommitted reservation of channel n has been open for more than HOLD_US. -/
def State.chnHold (s : State) (n : Nat) : State :=
  match (s.chan n).slots.find? (fun x => x.st = 0) with
  | none => s
  | some x =>
    if x.held || s.mono ≤ x.since + s.fld (chnA n + 4) 15 0 * uUs then s
    else
      let s := s.setChan n (fun y => { y with slots := y.slots.map (fun u => if u = x then { u with held := true } else u) })
      (s.chanLevel n).raise (engB 0) Ev.chnHold (Src.channel n)
def execChnHoldDetect (n : Fin 1024) (s : State) : Res := .next (s.chnHold n.val)

/-- CHN_VOID_WRITE: accepted only for the reservation that HOLD reports. -/
def State.chnVoidWrite (s : State) (v : Nat) : State :=
  let n := bits v 25 16
  match (s.chan n).slots.find? (fun x => x.st = 0) with
  | none => s.reject (engB 0) 0x80004
  | some x => if x.held && x.idx = bits v 15 0 then s.chanVoid n (fun y => y = x) else s.reject (engB 0) 0x80004
def execChnVoidWrite (v : Word) (s : State) : Res := .next (s.chnVoidWrite v.toNat)

/-- CHN_CFG_RESET: every reservation voided and every slot discarded; the next read delivers the next reservation's slot. -/
def State.chnReset (s : State) (n : Nat) : State :=
  let k := (s.chan n).slots.length
  let s := s.setChan n (fun x => { x with slots := [] })
  let s := s.setFld (chnA n + 8) 15 0 (s.fld (chnA n + 8) 31 16)
  (s.bump32 (chnA n + 0x18) k).chanLevel n
def execChnCfgReset (n : Fin 1024) (s : State) : Res := .next (s.chnReset n.val)

/-! ### Loading and SAFE (R251, R252) -/

/-- ENG_LOAD_START: only in QUIESCED. The sessions that the cluster serves move to other clusters (R281). -/
def State.loadStart (s : State) (c : Nat) : State :=
  if s.blkState (engB c) ≠ 2 then s.reject (engB c) 0x44
  else ((((s.setBlk (engB c) 4).setFld (engB c + 0x44) 30 30 1).flushIq c).voidCluster c).rehome c
def execEngLoadStart (c : Fin 12) (s : State) : Res := .next (s.loadStart c.val)

/-- ENG_LOAD_END: the loader has read the image from GDDR6; `e` is what the read finds. -/
def State.loadFinish (s : State) (c : Fin 12) (e : Ecc) : State :=
  let a := s.rd (engB c.val + 0x48) + s.rd (engB c.val + 0x4C) * 2 ^ 32
  let n := s.fld (engB c.val + 0x50) 20 0
  if s.blkState (engB c.val) ≠ 4 then s
  else if !s.memAllowed (.loader c) a n false then (s.memRefuse (.loader c) a).loadEnd c.val 3
  else if !s.memServes a n then s
  else
    let r := s.memRead a n e
    if r.1.2 then r.2.loadEnd c.val 3
    else
      let k := imgCheck r.1.1
      (if k = 0 then r.2.loadImage c.val r.1.1 else r.2).loadEnd c.val k
def execEngLoadEnd (c : Fin 12) (e : Ecc) (s : State) : Res := .next (s.loadFinish c e)

/-- CLUSTER_SAFE: an uncorrectable error in a cluster's memories stops it in place; a cluster that enters QUIESCED is
checkpointed (R300). -/
def State.clusterSafe (s : State) (c : Nat) : State :=
  if s.blkState (engB c) ≤ 1 then
    let s := (s.setBlk (engB c) 2).setFld (engB c + 8) 4 4 1
    let s := ((s.flushIq c).voidCluster c).raise (engB c) Ev.engFault (Src.cluster c)
    s.dueCkpt c
  else s
def execClusterSafe (c : Fin 12) (s : State) : Res := .next (s.clusterSafe c.val)

end Sys2Proof.Machine
end

