-- ==== Sys2Proof/Machine/Fwd.lean ====
section
/-! DEFINITION. The commands of the forwarding tables (08_forwarding_tables.md R183–R194). -/
namespace Sys2Proof.Machine

/-- Base of command interface c. -/
def fwdCmd (c : Nat) : Nat := fwdB + 0x100 + 0x100 * c

/-- The operands of a command as its interface holds them: SLOT, the ENTRY and MASK words as 512-bit numbers, AUX. -/
structure FwdArgs where
  slot : Nat
  entry : Nat
  mask : Nat
  aux : Nat

/-- `n` consecutive words from an address as one number, the first most significant. -/
def State.rdWords (s : State) (a n : Nat) : Nat := pk ((List.range n).map (fun i => (32, s.rd (a + 4 * i))))

/-- The operands of interface c. -/
def State.fwdArgs (s : State) (c : Nat) : FwdArgs :=
  let b := fwdCmd c
  ⟨s.fld (b + 8) 25 0, s.rdWords (b + 0x80) 16, s.rdWords (b + 0xC0) 16, s.rdWords (b + 0x10) 3⟩

/-- What one command did to one table: its result, SLOT and returned words (by offset) when it returns them. -/
structure FwdRes where
  result : Nat
  slot : Option Nat := none
  entry : Option (List (Nat × Nat)) := none

/-- Words of an n-word entry at ENTRY_W0 onward. -/
def entryOut (n e : Nat) : List (Nat × Nat) := (List.range n).map (fun i => (0x80 + 4 * i, bits e (32 * (n - i) - 1) (32 * (n - 1 - i))))

/-! ### Hashed tables (R177, R178, R182) -/

/-- An entry as ENTRY_W0 onward gives it. -/
def Tab.arg (t : Tab) (a : FwdArgs) : Nat := a.entry >>> (512 - t.w)

/-- Reserved bits and key bits below KEYW are 0 (Table 08-2). -/
def Tab.entryOk (t : Tab) (e : Nat) : Bool :=
  if t.kind = 8 then bits e 52 0 = 0
  else if t.space = 2 then bits e 505 496 = 0 && bits e 47 0 = 0 && bits e 495 176 % 2 ^ (320 - t.keyw) = 0
  else if t.kind = 2 then bits e 431 416 = 0 && bits e 415 0 % 2 ^ (416 - t.keyw) = 0
  else bits e 175 160 = 0 && bits e 159 0 % 2 ^ (160 - t.keyw) = 0

/-- A slot that a command may name in a hashed table: within its range, the first slot of a double entry. -/
def Tab.slotOk (t : Tab) (i : Nat) : Bool :=
  decide (4 * t.base ≤ i) && decide (i < 4 * (t.base + 2 ^ t.log2)) && decide (i % t.per = 0)

/-- Remove from a memory every slot that `p` selects. -/
def State.fclear (s : State) (mem : Nat) (p : Nat → Bool) : State :=
  let sel := fun k => decide (k / 2 ^ 64 = mem) && p (k % 2 ^ 64)
  s.setFwd (fun f => { f with mem := mclear sel f.mem, bad := f.bad.filter (fun k => !sel k) })

/-- The occupied slots of a table; of a deep table, those of which anything was ever written. -/
def State.occupied (s : State) (t : Tab) : List Nat :=
  (if t.space = 2 then (s.mem.bytes.map (fun e => e.1 / 64)).eraseDups
    else ((s.dp.fwd.mem.filter (fun e => e.1 / 2 ^ 64 = t.mem)).map (fun e => e.1 % 2 ^ 64 / t.per * t.per)).eraseDups).filter t.slotOk

/-- Clear a hashed table; of a deep table every bucket is written. -/
def State.tabClear (s : State) (t : Tab) : State :=
  if t.space = 2 then (List.range (2 ^ t.log2)).foldl (fun s b => s.deepPut (256 * (t.base + b)) (List.replicate 256 0)) s
  else s.fclear t.mem (fun j => decide (4 * t.base ≤ j) && decide (j < 4 * (t.base + 2 ^ t.log2)))

/-- Whether an L2 entry matches a FLUSH selector (R184). -/
def flushHit (aux e : Nat) : Bool :=
  (!bit aux 31 || bits e 61 53 = bits aux 20 12) && (!bit aux 30 || bits e 121 110 = bits aux 11 0)
    && (bit aux 29 || !bit e 126)

/-- What a command reads of a deep table and cannot: counted and raised (R193, R338). -/
def State.deepReads (s : State) (t : Tab) (op k i : Nat) (ok : Bool) : State :=
  if t.space ≠ 2 then s
  else if op ≤ 4 then (if ok then s.reportBad t (s.find t k).2 else s)
  else if op = 6 && t.slotOk i && s.entryBad t i then s.reportBad t [i] else s

/-- An operation on a hashed table (R184). -/
def State.hashOp (s : State) (t : Tab) (op : Nat) (a : FwdArgs) : FwdRes × State :=
  let e := t.arg a
  let i := if t.space = 2 then a.slot + 4 * t.base else a.slot
  let k := t.keyOf e
  let noAge := t.mark e 0 0
  let s := s.deepReads t op k i (t.entryOk e)
  match op with
  | 1 =>
    if !t.entryOk e || !t.valid e then (⟨6, none, none⟩, s)
    else if (s.find t k).1.isSome then (⟨1, none, none⟩, s)
    else
      let r := s.placeEntry t k noAge
      (⟨r.1, r.2.1.map t.slotNo, none⟩, r.2.2)
  | 2 =>
    if !t.entryOk e || !t.valid e then (⟨6, none, none⟩, s)
    else match (s.find t k).1 with
      | none => (⟨2, none, none⟩, s)
      | some j =>
        let old := s.entry t j
        (⟨0, none, none⟩, (s.setEntry t j (t.mark e (b2n (t.hitBit old)) (t.ageOf old))).after t)
  | 3 =>
    if !t.entryOk e then (⟨6, none, none⟩, s)
    else match (s.find t k).1 with
      | none => (⟨2, none, none⟩, s)
      | some j => (⟨0, none, none⟩, (s.setEntry t j 0).after t)
  | 4 =>
    if !t.entryOk e then (⟨6, none, none⟩, s)
    else match (s.find t k).1 with
      | none => (⟨2, none, none⟩, s)
      | some j => (⟨0, some (t.slotNo j), some (entryOut (t.w / 32) (s.entry t j))⟩, s)
  | 6 =>
    if !t.slotOk i then (⟨6, none, none⟩, s)
    else (⟨if s.entryBad t i then 7 else 0, none, some (entryOut (t.w / 32) (s.entry t i))⟩, s)
  | 7 => if !t.slotOk i then (⟨6, none, none⟩, s) else (⟨0, none, none⟩, (s.setEntry t i 0).after t)
  | 8 =>
    let w := bits a.aux 95 64
    (⟨0, none, none⟩, ((s.occupied t).foldl (fun s j =>
      if t.valid (s.entry t j) && flushHit w (s.entry t j) then s.setEntry t j 0 else s) s).after t)
  | _ => (⟨0, none, none⟩, (s.tabClear t).after t)

/-! ### Ternary tables (R179) -/

/-- An operation on a ternary table. -/
def State.ternOp (s : State) (t : Tab) (op : Nat) (a : FwdArgs) : FwdRes × State :=
  let inside := fun i => decide (t.base ≤ i) && decide (i < t.base + 2 ^ t.log2)
  let e := s.fm t.mem a.slot
  match op with
  | 9 => (⟨0, none, none⟩, s.fclear t.mem inside)
  | 5 =>
    if !inside a.slot || bits a.aux 93 74 ≠ 0 then (⟨6, none, none⟩, s)
    else (⟨0, none, none⟩, s.fput t.mem a.slot (a.entry * 2 ^ 608 + a.mask * 2 ^ 96 + putBits a.aux 94 94 0))
  | 6 =>
    if !inside a.slot then (⟨6, none, none⟩, s)
    else (⟨if s.fbad t.mem a.slot then 7 else 0, none, some (entryOut 16 (ternValue e)
      ++ (entryOut 16 (ternMask e)).map (fun x => (x.1 + 0x40, x.2))
      ++ (List.range 3).map (fun n => (0x10 + 4 * n, ternAux e n)))⟩, s)
  | _ => if !inside a.slot then (⟨6, none, none⟩, s) else (⟨0, none, none⟩, s.fput t.mem a.slot 0)

/-! ### LPM tables (R180, R181) -/

/-- The bit at which the level of a prefix of length p ends (R180). -/
def levelEnd (p : Nat) : Nat := if p ≤ 16 then 16 else 16 + 8 * ((p - 16 + 7) / 8)

/-- Writing the slots of a prefix makes them good. -/
def State.trieWritten (s : State) (t : Tab) (plen pre : Nat) : State :=
  let e := levelEnd plen
  s.setFwd (fun f => { f with badTrie := f.badTrie.filter (fun x =>
    !(x.1 = t.pipe && x.2.1 = t.base % 4 && x.2.2.1 = e && decide (x.2.2.2 >>> (e - plen) = pre >>> (128 - plen)))) })

/-- Address of FWD_LPM_UNITS. -/
def lpmUnits (p : Nat) : Nat := fwdB + 0x2004 + 0x100 * p
/-- Set the result of a prefix and the units it takes, or remove it. -/
def State.setPrefix (s : State) (t : Tab) (plen pre : Nat) (r : Option (Nat × Nat)) : State :=
  (s.setFwd (fun f => { f with
    lpm := mput (fun _ => 0) f.lpm (lpmKey t.pipe (t.base % 4) plen pre) ((r.map (fun x => 8 * (x.1 + 1) + x.2)).getD 0) })).trieWritten t plen pre

/-- An operation on an LPM table. -/
def State.lpmOp (s : State) (t : Tab) (op : Nat) (a : FwdArgs) : FwdRes × State :=
  let e := a.entry >>> 256
  let plen := bits e 247 240
  let pre := bits e 127 0
  let per := if t.kind = 4 then 1 else 4
  let m := 20 + t.pipe
  let ok := bits e 254 248 = 0 && bits e 225 128 = 0 && decide (plen ≤ (if t.kind = 4 then 32 else 128))
    && pre % 2 ^ (128 - plen) = 0
  let cur := mget (fun _ => 0) s.dp.fwd.lpm (lpmKey t.pipe (t.base % 4) plen pre)
  let used := s.fld (lpmUnits t.pipe) 20 0
  match op with
  | 1 =>
    if !ok || !bit e 255 then (⟨6, none, none⟩, s)
    else if cur ≠ 0 then (⟨1, none, none⟩, s)
    else if 1048576 < used + per then (⟨3, none, none⟩, (s.bump (fwdCnt t.pipe 8) 1).raise fwdB Ev.fwdFull (Src.pipe t.pipe))
    else (⟨0, none, none⟩, (s.setPrefix t plen pre (some (bits e 239 226, per))).setFld (lpmUnits t.pipe) 20 0 (used + per))
  | 2 =>
    if !ok || !bit e 255 then (⟨6, none, none⟩, s)
    else if cur = 0 then (⟨2, none, none⟩, s)
    else (⟨0, none, none⟩, s.setPrefix t plen pre (some (bits e 239 226, cur % 8)))
  | 3 =>
    if !ok then (⟨6, none, none⟩, s)
    else if cur = 0 then (⟨2, none, none⟩, s)
    else (⟨0, none, none⟩, (s.setPrefix t plen pre none).setFld (lpmUnits t.pipe) 20 0 (used - cur % 8))
  | 5 =>
    if 16384 ≤ a.slot || bits a.entry 510 490 ≠ 0 then (⟨6, none, none⟩, s)
    else (⟨0, none, none⟩, s.fput m a.slot (a.entry >>> 416))
  | 6 =>
    if 16384 ≤ a.slot then (⟨6, none, none⟩, s)
    else (⟨if s.fbad m a.slot then 7 else 0, none, some (entryOut 3 (s.fm m a.slot))⟩, s)
  | _ =>
    let mine := fun (x : Nat × Nat) => decide (x.1 / 2 ^ 136 = t.pipe * 4 + t.base % 4)
    let n := ((s.dp.fwd.lpm.filter mine).map (fun x => x.2 % 8)).sum
    let s := s.setFwd (fun f => { f with
      lpm := f.lpm.filter (fun x => !mine x),
      badTrie := f.badTrie.filter (fun x => !(x.1 = t.pipe && x.2.1 = t.base % 4)) })
    (⟨0, none, none⟩, s.setFld (lpmUnits t.pipe) 20 0 (used - n))

/-! ### Commands (R183–R185) -/

/-- Kinds that an operation acts on (Table 08-3); 8 stands for L2. -/
def opKinds (op : Nat) : List Nat :=
  match op with
  | 1 => [1, 2, 4, 5, 8] | 2 => [1, 2, 4, 5, 8] | 3 => [1, 2, 4, 5, 8] | 4 => [1, 2, 8] | 5 => [3, 4, 5]
  | 6 => [1, 2, 3, 4, 5, 8] | 7 => [1, 2, 3, 8] | 8 => [8] | 9 => [1, 2, 3, 4, 5, 8] | _ => []

/-- One operation on table t of a space in one pipeline. -/
def State.tableOp (s : State) (space pipe table op : Nat) (a : FwdArgs) : FwdRes × State :=
  let lim := if space = 0 then 32 else if space = 1 then 16 else if space = 2 then 8 else 32
  let t := s.tab space pipe table
  if lim ≤ table && space ≠ 3 || !t.en || !(opKinds op).contains t.kind then (⟨5, none, none⟩, s)
  else if t.kind = 3 then s.ternOp t op a
  else if t.kind = 4 || t.kind = 5 then s.lpmOp t op a
  else s.hashOp t op a

/-- Carry out a command on every pipeline it addresses, in ascending order (R185). -/
def State.fwdRun (s : State) (v op : Nat) (a : FwdArgs) : FwdDone × State :=
  let space := bits v 27 26
  let table := bits v 21 17
  let irq := bit v 16
  if space = 2 then
    let r := s.tableOp 2 0 table op a
    (⟨0xFFF0 + r.1.result, r.1.slot, r.1.entry, irq⟩, r.2)
  else
    let pipes := (List.range 4).filter (fun p => bit (bits v 25 22) p)
    pipes.foldl (fun (x : FwdDone × State) p =>
      let r := x.2.tableOp space p table op a
      let d := { x.1 with result := putBits x.1.result (4 * p + 3) (4 * p) r.1.result }
      (if pipes.head? = some p then { d with slot := r.1.slot, entry := r.1.entry } else d, r.2)) (⟨0xFFFF, none, none, irq⟩, s)

/-- A write of FWD_CMDc with operation `op`: BUSY until its completion (R183). -/
def State.fwdCommand (s : State) (c : Nat) (q : Req) (v op : Nat) : State :=
  let b := fwdCmd c
  if q ≠ (if c = 0 then .mgc else .owner) || s.flag (b + 4) 31 then s.reject fwdB (b - fwdB)
  else
    let r := s.fwdRun v op (s.fwdArgs c)
    (r.2.setFld (b + 4) 31 31 1).setFwd (fun f => { f with cmd := mput (fun _ => none) f.cmd c (some r.1) })

def execFwdInsert (c : Fin 2) (q : Req) (v : Word) (s : State) : Res := .next (s.fwdCommand c.val q v.toNat 1)
def execFwdUpdate (c : Fin 2) (q : Req) (v : Word) (s : State) : Res := .next (s.fwdCommand c.val q v.toNat 2)
def execFwdDelete (c : Fin 2) (q : Req) (v : Word) (s : State) : Res := .next (s.fwdCommand c.val q v.toNat 3)
def execFwdRead (c : Fin 2) (q : Req) (v : Word) (s : State) : Res := .next (s.fwdCommand c.val q v.toNat 4)
def execFwdWriteSlot (c : Fin 2) (q : Req) (v : Word) (s : State) : Res := .next (s.fwdCommand c.val q v.toNat 5)
def execFwdReadSlot (c : Fin 2) (q : Req) (v : Word) (s : State) : Res := .next (s.fwdCommand c.val q v.toNat 6)
def execFwdClearSlot (c : Fin 2) (q : Req) (v : Word) (s : State) : Res := .next (s.fwdCommand c.val q v.toNat 7)
def execFwdFlush (c : Fin 2) (q : Req) (v : Word) (s : State) : Res := .next (s.fwdCommand c.val q v.toNat 8)
def execFwdClear (c : Fin 2) (q : Req) (v : Word) (s : State) : Res := .next (s.fwdCommand c.val q v.toNat 9)

/-- The command of interface c finishes: RESULT, SLOT and the returned words are written, then BUSY clears. -/
def State.fwdCmdDone (s : State) (c : Nat) : State :=
  match mget (fun _ => none) s.dp.fwd.cmd c with
  | none => s
  | some d =>
    let b := fwdCmd c
    let s := s.setFwd (fun f => { f with cmd := mput (fun _ => none) f.cmd c none })
    let s := ((d.entry.getD []).foldl (fun s x => s.wr (b + x.1) x.2) s).wr (b + 4) d.result
    let s := match d.slot with
      | none => s
      | some i => s.wr (b + 8) i
    if d.irq then s.raise fwdB Ev.fwdCmdDone Src.device else s
def execFwdCmdDone (c : Fin 2) (s : State) : Res := .next (s.fwdCmdDone c.val)

/-! ### Learning, ageing, notifications (R189–R192) -/

/-- A learned insert of pipeline p reaches the update port. -/
def State.learnedInsert (s : State) (p : Nat) : State :=
  match s.learnQ p with
  | [] => s
  | (k, v) :: r =>
    if !s.running fwdB then s
    else
      let s := s.setLearnQ p r
      let t := s.tab 3 p 31
      match (s.find t k).1 with
      | some i => s.sourceHit p i v true
      | none =>
        let x := s.placeEntry t k (l2Entry k v)
        match x.2.1 with
        | none => x.2.2
        | some i => (x.2.2.bump (fwdCnt p 0) 1).notify (notice 1 t v 0 i (l2Entry k v))
def execLearnedInsert (p : Fin 4) (s : State) : Res := .next (s.learnedInsert p.val)

/-- Sweep one entry (R191). -/
def State.sweepEntry (s : State) (t : Tab) (i : Nat) : State :=
  let e := s.entry t i
  if s.entryBad t i || !t.valid e || t.static e then s
  else if t.hitBit e then s.setEntry t i (t.mark e 0 0)
  else
    let age := min 7 (t.ageOf e + 1)
    if t.age = 2 && decide (t.ageMax ≤ age) then
      (((s.setEntry t i 0).after t).bump (t.cntA 7 1) 1).notify (notice 3 t (bits e 61 53) 0 (t.slotNo i) e)
    else s.setEntry t i (t.mark e 0 age)

/-- The tables that are swept: hashed, with an AGE_MODE. -/
def State.sweepTabs (s : State) : List Tab :=
  let l := (List.range 4).flatMap (fun p => s.tab 3 p 31 :: (List.range 32).map (s.tab 0 p) ++ (List.range 16).map (s.tab 1 p))
    ++ (List.range 8).map (s.tab 2 0)
  l.filter (fun t => t.hashed && (t.age = 1 || t.age = 2))

/-- AGE_S after the last sweep the ageing tables are swept; sweeps that FWD missed while it was not in RUN are not made up for. -/
def State.ageSweep (s : State) : State :=
  let t := s.dp.fwd.sweptAt + s.fld (fwdB + 0x40) 30 16 * uS
  if s.running fwdB && s.past t then
    s.sweepTabs.foldl (fun s t => (s.occupied t).foldl (fun s i => s.sweepEntry t i) s) (s.setFwd (fun f => { f with sweptAt := s.mono - (s.mono - t) % (s.fld (fwdB + 0x40) 30 16 * uS) }))
  else s
def execAgeSweep (s : State) : Res := .next s.ageSweep

/-- A read of FWD_NOTIFY_W0 pops the head notification and latches W1–W3 for its requester (R192). -/
def State.notifyPop (s : State) (q : Req) : Nat × State :=
  let n := (s.dp.fwd.notify.head?).getD 0
  let s := s.setFwd (fun f => { f with notify := f.notify.drop 1 })
  let s := s.setFld (fwdB + 0x90) 12 0 s.dp.fwd.notify.length
  let w := fun i => bits n (127 - 32 * i) (96 - 32 * i)
  (w 0, ((s.setLat q (fwdB + 0x84) (w 1)).setLat q (fwdB + 0x88) (w 2)).setLat q (fwdB + 0x8C) (w 3))
def execFwdNotifyPop (q : Req) (s : State) : Res := .next (answer q (fwdB + 0x80) (s.notifyPop q))

end Sys2Proof.Machine
end

