-- ==== Sys2Proof/Machine/HifOps.lean ====
section
/-! DEFINITION. Shared operations of the host ports: functions, DMA writes and reads, the dirty log (17_host_interface.md R353,
R359–R364; 18_tenant_functions.md R375–R378, R391). -/
namespace Sys2Proof.Machine

/-! ### Host ports and functions -/

/-- A host port, and its update. -/
def State.hport (s : State) (h : Nat) : HpSt := mget (fun _ => {}) s.hp h
def State.setHport (s : State) (h : Nat) (g : HpSt → HpSt) : State :=
  { s with hp := mput (fun _ => {}) s.hp h (g (s.hport h)) }
/-- Update a function's configuration space. -/
def State.setFn (s : State) (f : Nat) (g : FnSt → FnSt) : State :=
  { s with fn := mput (fun _ => {}) s.fn f (g (s.fnGet f)) }
/-- Update the tenant functions' own state. -/
def State.setTfn (s : State) (g : TfnSt → TfnSt) : State := { s with tfn := g s.tfn }

/-- A register of host port h, and HIF_FN_STAT_f. -/
def hpA (h o : Nat) : Nat := hifB + 0x1000 + 0x1000 * h + o
def hifFn (f : Nat) : Nat := hifB + 0x8000 + 16 * f
/-- HIF_HP_STAT.STATE: 0 RESET, 1 TRAINING, 2 UP (Table 17-2). -/
def State.hpState (s : State) (h : Nat) : Nat := s.fld (hpA h 8) 2 0
/-- The strap gives the host port (Table 17-1). -/
def State.hpUsed (s : State) (h : Nat) : Bool :=
  match s.straps.bifurc.toNat with
  | 1 => decide (h < 2)
  | 2 => decide (h < 4)
  | _ => h = 0

/-- The lanes of a host port (Table 17-1). -/
def State.hpLanes (s : State) : Nat := match s.straps.bifurc.toNat with
  | 1 => 8
  | 2 => 4
  | _ => 16

/-- The host port that a function belongs to: its own for a management function, else the one whose range holds it (R353). -/
def State.fnHp (s : State) (f : Nat) : Option Nat :=
  if 256 ≤ f then some (f - 256) else [0, 1, 2, 3].find? (fun h => s.hpReady h && s.hpHolds h f)
/-- VF Enable with NumVFs covers a tenant function on port h (R353). -/
def State.vfOn (s : State) (h f : Nat) : Bool :=
  let m := s.fnGet (256 + h)
  m.vfEnable && s.hpHolds h f && decide (f - s.fld (hpA h 4) 7 0 < m.numVfs)
/-- A function is enumerated: its port READY and UP, and for a tenant function its VF enabled (Table 18-2). -/
def State.fnOn (s : State) (f : Nat) : Bool :=
  match s.fnHp f with
  | none => false
  | some h => s.hpReady h && s.hpState h = 2 && (decide (256 ≤ f) || s.vfOn h f)
/-- The functions of a host port. -/
def State.fnsOf (s : State) (h : Nat) : List Nat :=
  (256 + h) :: (List.range (s.fld (hpA h 4) 20 12)).map (fun i => s.fld (hpA h 4) 7 0 + i)

/-- A function enters a state; a change raises TFN_STATE (R396). -/
def State.fnTo (s : State) (f st : Nat) : State :=
  if s.fnState f = st then s else (s.setFld (tfnStat f) 2 0 st).raise tfnB Ev.tfnState (Src.fn f)
/-- A DISABLED function that is enumerated becomes ACTIVE (Table 18-2). -/
def State.fnWake (s : State) (f : Nat) : State :=
  if s.fnState f = 0 && s.fnOn f then (s.setFld (tfnStat f) 9 8 ((s.fnHp f).getD 0)).fnTo f 1 else s

/-- The function may send request TLPs: Bus Master Enable is set, and HIF is not quiescing (R364, R372). -/
def State.fnSends (s : State) (f : Nat) : Bool := s.bme f && s.running hifB

/-! ### Posted writes (R359, R391) -/

/-- A byte string cut at `mx` bytes and at every 4 KiB boundary. -/
def cutAt (mx : Nat) : Nat → Nat → List Byte → List (Nat × List Byte)
  | 0, _, _ => []
  | n + 1, a, bs =>
    if bs.isEmpty then []
    else
      let k := min (max 1 mx) (4096 - a % 4096)
      (a, bs.take k) :: cutAt mx n (a + k) (bs.drop k)

/-- The pages of a write are set in the function's dirty log; a page outside its range sets OVERFLOW. -/
def State.dirty (s : State) (f a n : Nat) : State :=
  match mget (fun _ => none) s.tfn.log f with
  | none => s
  | some l =>
    let pages := (List.range ((a + n + 4095) / 4096 - a / 4096)).map (fun i => a / 4096 + i)
    let inside := fun p => decide (l.base / 4096 ≤ p) && decide (p < l.base / 4096 + l.pages)
    let new := (pages.filter inside).map (fun p => p - l.base / 4096)
    let l := { l with bits := l.bits ++ new.filter (fun i => !l.bits.contains i) }
    let s := s.setTfn (fun t => { t with log := mput (fun _ => none) t.log f (some l) })
    if pages.all inside then s else s.setFld (tfnStat f) 29 29 1

/-- The TLPs of a posted write leave the link. -/
def State.sendWrite (s : State) (f a : Nat) (bs : List Byte) (ro : Bool) : State :=
  let c := s.fnGet f
  ((cutAt (128 * 2 ^ c.mps) bs.length a bs).foldl (fun s x => s.emit (.dmaWrite f x.1 x.2 (ro && c.roEnable))) s).dirty f a bs.length

/-- A function has reads to reissue whose data was discarded (R364). -/
def State.fnLost (s : State) (f : Nat) : Bool :=
  [0, 1, 2, 3].any (fun h => (s.hport h).fetch.any (fun x => x.f = f && x.reqs.any (fun r => match r.st with
    | .lost => true
    | _ => false)))

/-- A DMA write of a work item started under FGEN `gen`: stale ones are discarded (R377), held ones wait in order (R364). -/
def State.dmaPut (s : State) (f gen a : Nat) (bs : List Byte) (ro : Bool) : State :=
  if s.fgen f ≠ gen then s.bump (tfCnt f 10) 1
  else if s.fnSends f && (s.fnGet f).posts.isEmpty && !s.fnLost f then s.sendWrite f a bs ro
  else s.setFn f (fun c => { c with posts := c.posts ++ [(a, bs, ro)] })

/-- The posted writes that a function held leave in order. -/
def State.flushPosts (s : State) (f : Nat) : State :=
  let l := (s.fnGet f).posts
  l.foldl (fun s x => s.sendWrite f x.1 x.2.1 x.2.2) (s.setFn f (fun c => { c with posts := [] }))

/-! ### DMA reads (R361–R364) -/

/-- Read request size of a function: Max_Read_Request_Size and HIF_HP_DMA.MAX_RD. -/
def State.rdSize (s : State) (h f : Nat) : Nat := min (128 * 2 ^ (s.fnGet f).mrrs) (128 * 2 ^ s.fld (hpA h 0xC) 2 0)

/-- A range cut into read requests. -/
def cutReads (mx : Nat) : Nat → Nat → Nat → List RdReq
  | 0, _, _ => []
  | n + 1, a, len =>
    if len = 0 then []
    else
      let k := min len (min (max 1 mx) (4096 - a % 4096))
      { addr := a, len := k } :: cutReads mx n (a + k) (len - k)

/-- A fetch joins its port's requests. -/
def State.fetchOf (s : State) (f : Nat) (what : FetchFor) (a len : Nat) : State :=
  match s.fnHp f with
  | none => s
  | some h => s.setHport h (fun p => { p with
      fetch := p.fetch ++ [⟨f, s.fgen f, what, cutReads (s.rdSize h f) len a len, 0⟩] })

/-- Tags of a port that are outstanding. -/
def HpSt.tags (p : HpSt) : List Nat :=
  p.fetch.flatMap (fun x => x.reqs.filterMap (fun r => match r.st with
    | .out t _ => some t
    | _ => none))

/-- Outstanding tags of a function, and the completion data held for it. -/
def State.fnOut (s : State) (f : Nat) : Nat :=
  ([0, 1, 2, 3].map (fun h => ((s.hport h).fetch.filter (fun x => x.f = f)).map (fun x => x.reqs.countP (fun r => match r.st with
    | .out _ _ => true
    | _ => false)))).flatten.sum
def State.fnHeld (s : State) (f : Nat) : Nat :=
  if s.fnSends f then 0
  else ([0, 1, 2, 3].map (fun h => ((s.hport h).fetch.filter (fun x => x.f = f && x.gen = s.fgen f)).map
    (fun x => (x.reqs.map (fun r => r.got.length)).sum))).flatten.sum

/-- A fetch has nothing left to wait for. -/
def Fetch.over (x : Fetch) : Bool := x.reqs.all (fun r => match r.st with
  | .done => true
  | .failed => true
  | _ => false)
/-- It failed. -/
def Fetch.failed (x : Fetch) : Bool := x.reqs.any (fun r => match r.st with
  | .failed => true
  | _ => false)
/-- Its data. -/
def Fetch.data (x : Fetch) : List Byte := (x.reqs.map (fun r => r.got)).flatten

/-- The completion timeout of a function (Table 17-7). -/
def ctoTime : Nat → Nat
  | 0x1 => 100 * uUs
  | 0x2 => 10 * uMs
  | 0x5 => 55 * uMs
  | 0x6 => 210 * uMs
  | 0x9 => 900 * uMs
  | 0xA => 3500 * uMs
  | 0xD => 13 * uS
  | 0xE => 64 * uS
  | _ => 50 * uMs
def State.cto (s : State) (f : Nat) : Nat := ctoTime (s.fld (hifFn f) 27 24)

end Sys2Proof.Machine
end

