-- ==== Sys2Proof/Machine/QueOps.lean ====
section
/-! DEFINITION. Tenant queues: completions, descriptors, receive delivery, draining (18_tenant_functions.md R381–R389). -/
namespace Sys2Proof.Machine

/-! ### Completions (R383, R387) -/

/-- What a completion says, PHASE and FGEN apart (Table 18-7). `flag` is TS_VALID or UNVERIFIED, `low` the low half of C3. -/
structure Cpl where
  status : Nat
  cal : Bool := false
  seqno : Option Nat := none
  late : Bool := false
  flag : Bool := false
  prf : Nat := 0
  cls : Nat := 0
  len : Nat := 0
  src : Nat := 0
  ts : Instant := 0
  low : Nat := 0
  deriving DecidableEq, Repr

/-- The 32 bytes of a completion. -/
def cplBytes (phase : Bool) (gen : Nat) (x : Cpl) : List Byte :=
  let c0 := pk [(1, b2n phase), (1, b2n x.cal), (1, b2n x.seqno.isSome), (1, b2n x.late), (1, b2n x.flag), (2, x.prf), (1, 0),
    (8, x.status), (8, gen), (8, x.cls), (14, x.len), (9, x.src), (9, 0)]
  let t := ts96 x.ts
  bytesLE 8 c0 ++ bytesLE 8 (x.seqno.getD 0) ++ bytesLE 8 (bits t 95 32) ++ bytesLE 8 (bits t 31 0 * 2 ^ 32 + x.low)

/-- A service code is counted per function (R283). -/
def State.codeCount (s : State) (f code : Nat) : State :=
  if decide (0x10 ≤ code) && decide (code ≤ 0x1A) then s.bump (tfCnt f (12 + code - 0x10)) 1 else s

/-- An armed queue triggers its vector once and disarms. -/
def State.armFire (s : State) (f : Nat) (rx : Bool) (q : Nat) : State :=
  match s.tq_ f rx q with
  | none => s
  | some t =>
    if t.armed && t.irq then (s.setTq f rx q (some { t with armed := false })).msixTrigger f t.vec else s

/-- Completion i of a queue is written for work started under `gen`. -/
def State.putCpl (s : State) (f gen : Nat) (rx : Bool) (q i : Nat) (x : Cpl) : State :=
  if s.fgen f ≠ gen then s.bump (tfCnt f 10) 1
  else match s.tq_ f rx q with
    | none => s
    | some t =>
      let size := 2 ^ t.log2
      let s := s.dmaPut f gen (t.cring + 32 * (i % size)) (cplBytes (decide (i / size % 2 = 0)) gen x) false
      (s.setTq f rx q (some { t with written := t.written ++ [i], out := t.out - 1 })).armFire f rx q

/-! ### Descriptors (R383–R386) -/

/-- Indices run modulo 2^17. -/
def idxMod (n : Nat) : Nat := n % 131072

/-- The HIF starts the fetches of posted descriptors: not for a FROZEN function (R390), and not for a TX queue bound to a pipeline
where an injected frame waits (R17). -/
def State.queFetch (s : State) (f : Nat) (rx : Bool) (q : Nat) : State :=
  match s.tq_ f rx q with
  | none => s
  | some t =>
    if t.draining || s.fnState f ≠ 1 || (!rx && t.typ = 0 && !(s.pipe t.pipe).host.isEmpty) then s
    else
      let n := idxMod (t.pi + 131072 - t.fetched)
      let s := (List.range n).foldl (fun s k =>
        let i := idxMod (t.fetched + k)
        s.fetchOf f (if rx then .rxDesc q i else .txDesc q i) (t.ring + 32 * (i % 2 ^ t.log2)) 32) s
      s.setTq f rx q (some { t with fetched := t.pi })

/-- Words D0–D3 of a descriptor. -/
def dWord (d : List Byte) (n : Nat) : Nat := leAt d (8 * n) 8

/-- A TX descriptor has every field in range and its reserved bits 0 (Table 18-6). -/
def txDescOk (d : List Byte) : Bool :=
  let d1 := dWord d 1
  decide (14 ≤ bits d1 63 50) && decide (bits d1 63 50 ≤ 9728) && bits d1 46 32 = 0 && bits (dWord d 2) 63 48 = 0
    && bits (dWord d 3) 63 48 = 0 && decide (bits (dWord d 3) 47 16 ≤ 999999999)

/-- An RX descriptor likewise (R386). -/
def rxDescOk (d : List Byte) : Bool :=
  decide (64 ≤ bits (dWord d 1) 63 50) && decide (bits (dWord d 1) 63 50 ≤ 9728) && bits (dWord d 1) 49 0 = 0
    && dWord d 2 = 0 && dWord d 3 = 0

/-- An RX descriptor arrives: a buffer more, or its completion with an error (R385, R386), or FLUSHED while the queue drains. -/
def State.rxDesc (s : State) (f gen q i : Nat) (x : Fetch) : State :=
  match s.tq_ f true q with
  | none => s
  | some t =>
    if s.fgen f ≠ gen then s.bump (tfCnt f 10) 1
    else if t.draining then s.putCpl f gen true q i { status := 4 }
    else if x.failed then (s.bump (tfCnt f 9) 1).putCpl f gen true q i { status := 1 }
    else if !rxDescOk x.data then (s.bump (tfCnt f 8) 1).putCpl f gen true q i { status := 2 }
    else s.setTq f true q (some { t with bufs := t.bufs ++ [(i, dWord x.data 0, bits (dWord x.data 1) 63 50)] })

/-- The RX descriptors that have arrived for functions that send are handed to their queues, in request order. -/
def State.handRx (s : State) (h : Nat) : State :=
  let isIt := fun (s : State) (x : Fetch) => x.over && s.fnSends x.f && !s.fnLost x.f && (match x.what with
    | .rxDesc _ _ => true
    | _ => false)
  let l := (s.hport h).fetch.filter (isIt s)
  let s := s.setHport h (fun p => { p with fetch := p.fetch.filter (fun x => !isIt s x) })
  l.foldl (fun s x => match x.what with
    | .rxDesc q i => s.rxDesc x.f x.gen q i x
    | _ => s) s

/-! ### Receive delivery (R386) -/

/-- The head copy of a vport's queue leaves it, its cells freed. -/
def State.takeWaiting (s : State) (c : Copy) (fate : Fate) : State :=
  let s := s.setVq c.vport c.queue (s.vq c.vport c.queue).tail
  ((s.fcRelease c).setVcells c.vport (s.vcells c.vport - c.cells)).endCopy c.f.id true fate

/-- The completion of a delivered copy. -/
def rxCpl (c : Copy) : Cpl :=
  { status := 0, cal := (c.f.rx.map (·.cal)).getD false, seqno := c.f.seqno, late := c.f.late, flag := mdF c.f.md 3 6 6 = 1,
    cls := c.f.cls, len := c.f.bytes.length, src := c.f.src.vport, ts := c.f.entry, low := mdF c.f.md 2 31 0 }

/-- A waiting RX copy of a RAW queue is delivered into the head buffer, with its completion. -/
def State.rxDeliver (s : State) (f q : Nat) : State :=
  match s.tq_ f true q, s.vq (16 + f) q with
  | some t, c :: _ =>
    if c.gen ≠ s.fgen f then (s.takeWaiting c .dropped).bump (tfCnt f 10) 1
    else if s.fnState f ≠ 1 || !s.fnSends f then s
    else match t.bufs with
      | [] => s
      | (i, a, n) :: r =>
        if n < c.f.bytes.length then (s.takeWaiting c .dropped).bump (tfCnt f 5) 1
        else
          let s := s.setTq f true q (some { t with bufs := r })
          let s := s.dmaPut f c.gen a c.f.bytes true
          let s := ((s.putCpl f c.gen true q i (rxCpl c)).bump (tfCnt f 2) 1).bump (tfCnt f 3) c.f.bytes.length
          s.takeWaiting c .delivered
  | _, _ => s

/-! ### Creating, draining, destroying (R381, R389) -/

/-- Field of TFN_QUEUES and TFN_FN_USE_Q for a direction. -/
def queHi (rx : Bool) : Nat × Nat × Nat := if rx then (14, 9, 0) else (30, 25, 16)
/-- Free hardware queues and queues in use change by one. -/
def State.queUse (s : State) (f : Nat) (rx add : Bool) : State :=
  let h := queHi rx
  let u := tfnB + 0x10014 + 0x40 * f
  let s := s.setFld (tfnB + 0x48) h.1 h.2.2 (if add then s.fld (tfnB + 0x48) h.1 h.2.2 - 1 else s.fld (tfnB + 0x48) h.1 h.2.2 + 1)
  s.setFld u h.2.1 h.2.2 (if add then s.fld u h.2.1 h.2.2 + 1 else s.fld u h.2.1 h.2.2 - 1)

/-- No request of a fetch has been issued. -/
def Fetch.unstarted (x : Fetch) : Bool := x.reqs.all (fun r => match r.st with
  | .wait => true
  | _ => false)
/-- The index of the descriptor that a fetch not started is for, where it is one of the queue. -/
def Fetch.idleDesc (x : Fetch) (f : Nat) (rx : Bool) (q : Nat) : Option Nat :=
  if x.f ≠ f || !x.unstarted then none
  else match x.what with
    | .txDesc q' i => if !rx && q' = q then some i else none
    | .rxDesc q' i => if rx && q' = q then some i else none
    | .txFrame _ _ _ => none

/-- The copies that wait in a queue are discarded. -/
def State.dropWaiting (s : State) (f q : Nat) : State :=
  (s.vq (16 + f) q).foldl (fun s c => s.takeWaiting c .dropped) s

/-- A queue starts to drain: its posted descriptors that have not been fetched or used end with FLUSHED, the first of an RX queue as the
completions of the copies that wait; copies past them are discarded. -/
def State.drainStart (s : State) (f : Nat) (rx : Bool) (q : Nat) : State :=
  match s.tq_ f rx q with
  | none => s
  | some t =>
    if t.draining then s
    else
      let gen := s.fgen f
      let rest := (List.range (idxMod (t.pi + 131072 - t.fetched))).map (fun k => idxMod (t.fetched + k))
      let idle := [0, 1, 2, 3].flatMap (fun h => (s.hport h).fetch.filterMap (fun x => x.idleDesc f rx q))
      let s := [0, 1, 2, 3].foldl (fun s h =>
        s.setHport h (fun p => { p with fetch := p.fetch.filter (fun x => (x.idleDesc f rx q).isNone) })) s
      let idx := t.bufs.map (·.1) ++ idle ++ rest
      let s := s.setTq f rx q (some { t with draining := true, bufs := [], fetched := t.pi })
      let cs := if rx then s.vq (16 + f) q else []
      let s := if rx then s.dropWaiting f q else s
      (List.range idx.length).foldl (fun s k =>
        s.putCpl f gen rx q (idx.getD k 0) (match cs[k]? with
          | some c => { rxCpl c with status := 4 }
          | none => { status := 4 })) s

/-- The last completion of a draining queue is written, and the queue is destroyed. -/
def State.drainDone (s : State) (f : Nat) (rx : Bool) (q : Nat) : State :=
  match s.tq_ f rx q with
  | none => s
  | some t =>
    if t.draining && t.out = 0 then ((s.setTq f rx q none).queUse f rx false).raise tfnB Ev.tfnShrinkDone (Src.fn f) else s

/-! ### Doorbells (R383) -/

/-- A refused doorbell. -/
def State.bellBad (s : State) (f : Nat) : State := s.bump (tfCnt f 7) 1

/-- A producer index acts: descriptors are posted. -/
def State.piAct (s : State) (f : Nat) (rx : Bool) (q v : Nat) : State :=
  match s.tq_ f rx q with
  | none => s.bellBad f
  | some t =>
    let size := 2 ^ t.log2
    let new := idxMod (v + 131072 - t.pi)
    if size < idxMod (v + 131072 - t.ci) || size < new then s.bellBad f
    else (s.setTq f rx q (some { t with pi := v, out := t.out + new })).queFetch f rx q

/-- A consumer index acts; ARM triggers at once where a completion at or above it is written. -/
def State.ciAct (s : State) (f : Nat) (rx : Bool) (q v : Nat) (arm : Bool) : State :=
  match s.tq_ f rx q with
  | none => s.bellBad f
  | some t =>
    let w := t.written.filter (fun i => decide (idxMod (i + 131072 - v) < 65536))
    let s := s.setTq f rx q (some { t with ci := v, written := w, armed := t.armed || arm })
    if arm && !w.isEmpty then s.armFire f rx q else s

/-- A write of a PI doorbell: stored while the function is FROZEN. -/
def State.piWrite (s : State) (f : Nat) (rx : Bool) (q v : Nat) : State :=
  match s.tq_ f rx q with
  | none => s.bellBad f
  | some t =>
    if t.draining then s.bellBad f
    else if s.fnState f = 2 then s.setTq f rx q (some { t with pi2 := some (idxMod v) })
    else s.piAct f rx q (idxMod v)

/-- A write of a CI doorbell. -/
def State.ciWrite (s : State) (f : Nat) (rx : Bool) (q v : Nat) : State :=
  match s.tq_ f rx q with
  | none => s.bellBad f
  | some t =>
    if t.draining then s.bellBad f
    else if s.fnState f = 2 then s.setTq f rx q (some { t with ci2 := some (idxMod v, (t.ci2.map (·.2)).getD false || bit v 31) })
    else s.ciAct f rx q (idxMod v) (bit v 31)

/-- The doorbells stored while FROZEN act (Table 18-2); those of a queue that drains since are refused (R389). -/
def State.bellsAct (s : State) (f : Nat) (rx : Bool) (q : Nat) : State :=
  match s.tq_ f rx q with
  | none => s
  | some t =>
    let s := s.setTq f rx q (some { t with pi2 := none, ci2 := none })
    if t.draining then
      let s := if t.ci2.isSome then s.bellBad f else s
      if t.pi2.isSome then s.bellBad f else s
    else
    let s := match t.ci2 with
      | none => s
      | some (v, a) => s.ciAct f rx q v a
    let s := match t.pi2 with
      | none => s
      | some v => s.piAct f rx q v
    s.queFetch f rx q

/-- The queues of a function that exist, as (RX, QID). -/
def State.queues (s : State) (f : Nat) : List (Bool × Nat) :=
  (s.tfn.q.filter (fun e => decide (f * 2048 ≤ e.1) && decide (e.1 < f * 2048 + 2048) && e.2.isSome)).map
    (fun e => (decide (1024 ≤ e.1 % 2048), e.1 % 1024))

/-! ### Mailbox answers (R379, R380) -/

/-- MGC firmware answers a request: the header with TAG echoed, LEN, the target's FGEN and STATUS, then the payload. -/
def State.mbxAnswer (s : State) (r : MbxReq) (target st : Nat) (payload : List Nat) : State :=
  let w := fun n => (r.words.getD n 0).toNat
  let words := ([w 0, payload.length * 4 * 2 ^ 16 + s.fgen target * 2 ^ 8 + st, w 2, 0] ++ payload).map (BitVec.ofNat 32)
  let s := if decide (r.f < 260) then s.codeCount r.f st else s
  s.setTfn (fun t => { t with rsp := t.rsp ++ [(r.f, r.gen, words)] })

end Sys2Proof.Machine
end

