-- ==== Sys2Proof/Machine/SvcOps.lean ====
section
/-! DEFINITION. Shared operations of the engine-hosted services: delivery to the host, TCP, TLS records, ESP and NVMe/TCP, opening and ending
(13_engine_offloads.md R282–R293). -/
namespace Sys2Proof.Machine

/-- The context runs: its owner is ACTIVE under the FGEN it was opened with (R282, R390). -/
def State.ctxLive (s : State) (c : Ctx) : Bool := s.fnState c.fn = 1 && s.fgen c.fn = c.fgen
/-- The context that a frame's flow names on a cluster (R281). -/
def State.ctxOf (s : State) (c flow : Nat) (kinds : List Nat) : Option Nat :=
  (s.svc.ctx.find? (fun e => e.2.home = c && e.2.flowid = flow && e.2.state ≠ 0 && kinds.contains e.2.kind)).map (·.1)
/-- The context that runs over a TCP context. -/
def State.upper (s : State) (id : Nat) : Option Nat :=
  (s.svc.ctx.find? (fun e => e.2.link = some id && (e.2.state = 1 || e.2.state = 2))).map (·.1)

/-! ### Delivery to the host (R283, R286) -/

/-- What waits for receive buffers goes to the context's queue, as far as posted descriptors reach. -/
def State.svcPump (s : State) (id : Nat) : State :=
  let n := match s.tq_ (s.ctx id).fn true (s.ctx id).req.rxq with
    | none => 0
    | some t => t.bufs.length
  (List.range n).foldl (fun s _ =>
    let c := s.ctx id
    let f := c.fn
    let q := c.req.rxq
    match s.tq_ f true q, c.outq with
    | some t, x :: r => match t.bufs with
      | [] => s
      | (i, a, len) :: rest =>
        if s.fnState f ≠ 1 || !s.fnSends f then s
        else
          let s := s.setTq f true q (some { t with bufs := rest })
          match x with
          | .event code => (s.setCtx id (fun c => { c with outq := r })).putCpl f c.fgen true q i { status := code, low := c.handle }
          | .data bs e st =>
            let p := bs.take len
            let left := bs.drop len
            let s := s.setCtx id (fun c => { c with
              outq := if left.isEmpty then r else .data left e st :: r, octRx := (c.octRx + p.length) % 2 ^ 64 })
            (s.dmaPut f c.fgen a p true).putCpl f c.fgen true q i
              { status := st, len := p.length, src := 272 + c.home, ts := e, low := c.handle }
    | _, _ => s) s

/-- Payload for the host, its completion's status `st`. -/
def State.svcHand (s : State) (id : Nat) (bs : List Byte) (e : Instant) (st : Nat) : State :=
  if bs.isEmpty then s else (s.setCtx id (fun c => { c with outq := c.outq ++ [.data bs e st] })).svcPump id
def State.svcGive (s : State) (id : Nat) (bs : List Byte) (e : Instant) : State := s.svcHand id bs e 0

/-- A code of Table 13-3 arises at a context: LAST_ERR and the function's count (R283). -/
def State.svcNote (s : State) (id code : Nat) : State :=
  (s.setCtx id (fun c => { c with lastErr := code })).codeCount (s.ctx id).fn code
/-- An error that arises from traffic, with an event completion. -/
def State.svcErr (s : State) (id code : Nat) : State :=
  ((s.svcNote id code).setCtx id (fun c => { c with outq := c.outq ++ [.event code] })).svcPump id
/-- The context moves to FAILED with an error. -/
def State.svcFail (s : State) (id code : Nat) : State := (s.setCtx id (fun c => { c with state := 4 })).svcErr id code

/-! ### Received streams -/

/-- The entry stamp of the segment that holds byte n − 1 of a stream. -/
def markAt : List (Nat × Instant) → Nat → Instant
  | [], _ => 0
  | (k, t) :: r, n => if n ≤ k || r.isEmpty then t else markAt r (n - k)
/-- The segments of a stream without its first n bytes. -/
def markDrop : List (Nat × Instant) → Nat → List (Nat × Instant)
  | [], _ => []
  | (k, t) :: r, n => if n < k then (k - n, t) :: r else markDrop r (n - k)
/-- The first n bytes of a stream are used. -/
def State.streamDrop (s : State) (id n : Nat) : State :=
  s.setCtx id (fun c => { c with stream := c.stream.drop n, marks := markDrop c.marks n })

/-! ### Frames that the services send (R263) -/

/-- The service of a cluster emits a frame into a pipeline of its choice. -/
def State.svcEmit (s : State) (c : Nat) (bs : List Byte) : State :=
  let d := s.draw
  let n := Config.anyNat d.1 % 4
  let b := d.2.birth { id := 0, bytes := bs, src := .cluster c, md := busOf (272 + c) s.now false }
  b.2.setPipe n (fun y => { y with clus := y.clus ++ [b.1] })

/-- A header whose IP header begins at `ip`, completed over a transport payload: lengths and the IPv4 header checksum. -/
def sealIp (hdr : List Byte) (ip : Nat) (l4 : List Byte) : List Byte :=
  let n := hdr.length - ip + l4.length
  if beAt hdr ip 1 / 16 = 6 then patch hdr (ip + 4) (bytesBE 2 (n - 40)) ++ l4
  else
    let h := patch (patch hdr (ip + 2) (bytesBE 2 n)) (ip + 10) [0, 0]
    patch h (ip + 10) (bytesBE 2 (inetCsum (h.drop ip))) ++ l4

/-- The pseudo-header of a transport checksum. -/
def pseudoHdr (hdr : List Byte) (ip proto len : Nat) : List Byte :=
  if beAt hdr ip 1 / 16 = 6 then slice hdr (ip + 8) 32 ++ bytesBE 4 len ++ bytesBE 4 proto
  else slice hdr (ip + 12) 8 ++ [0, BitVec.ofNat 8 proto] ++ bytesBE 2 len

/-- The ECN field of an IP header, and a header with ECT(0) in it (RFC 3168). -/
def ipEcn (bs : List Byte) (ip : Nat) : Nat :=
  if beAt bs ip 1 / 16 = 6 then bits (beAt bs (ip + 1) 1) 5 4 else bits (beAt bs (ip + 1) 1) 1 0
def ipEct (hdr : List Byte) (ip : Nat) : List Byte :=
  let b := beAt hdr (ip + 1) 1
  patch hdr (ip + 1) (bytesBE 1 (if beAt hdr ip 1 / 16 = 6 then putBits b 5 4 2 else putBits b 1 0 2))

/-- Where the IP header and the transport header of a received frame lie, the protocol, and where the datagram ends. -/
def ipView (bs : List Byte) : Option (Nat × Nat × Nat × Nat) :=
  let tags := if [0x8100, 0x88A8].contains (beAt bs 12 2) then (if [0x8100, 0x88A8].contains (beAt bs 16 2) then 2 else 1) else 0
  let o := 14 + 4 * tags
  match beAt bs (o - 2) 2 with
  | 0x0800 => some (o, o + 4 * (beAt bs o 1 % 16), beAt bs (o + 9) 1, min bs.length (o + beAt bs (o + 2) 2))
  | 0x86DD => some (o, o + 40, beAt bs (o + 6) 1, min bs.length (o + 40 + beAt bs (o + 4) 2))
  | _ => none

/-! ### TCP segments (Table 13-4) -/

/-- The options of a segment: MSS, window shift, SACK permitted, timestamps (value, echo). -/
structure TcpOpt where
  mss : Option Nat := none
  ws : Option Nat := none
  sackOk : Bool := false
  ts : Option (Nat × Nat) := none
  deriving DecidableEq, Repr

/-- The options that a header's bytes spell; `n` bounds their number. -/
def tcpOpts : Nat → List Byte → TcpOpt → TcpOpt
  | 0, _, o => o
  | n + 1, b, o =>
    let k := beAt b 0 1
    let len := beAt b 1 1
    if b.isEmpty || k = 0 then o
    else if k = 1 then tcpOpts n b.tail o
    else if len < 2 || b.length < len then o
    else tcpOpts n (b.drop len) (match k, len with
      | 2, 4 => { o with mss := some (beAt b 2 2) }
      | 3, 3 => { o with ws := some (min 14 (beAt b 2 1)) }
      | 4, 2 => { o with sackOk := true }
      | 8, 10 => { o with ts := some (beAt b 2 4, beAt b 6 4) }
      | _, _ => o)

/-- A TCP segment, its flags FIN, SYN, RST, PSH, ACK, URG, ECE, CWR from bit 0, and whether its packet was marked CE. -/
structure TcpSeg where
  sport : Nat
  dport : Nat
  seq : Nat
  ack : Nat
  flags : Nat
  wnd : Nat
  opt : TcpOpt
  ce : Bool
  body : List Byte
  deriving DecidableEq, Repr

/-- The segment of a frame. -/
def tcpOf (bs : List Byte) : Option TcpSeg :=
  match ipView bs with
  | some (ip, o, 6, e) =>
    let h := 4 * (beAt bs (o + 12) 1 / 16)
    if h < 20 || e < o + h then none
    else some ⟨beAt bs o 2, beAt bs (o + 2) 2, beAt bs (o + 4) 4, beAt bs (o + 8) 4, beAt bs (o + 13) 1, beAt bs (o + 14) 2,
      tcpOpts 40 (slice bs (o + 20) (h - 20)) {}, ipEcn bs ip = 3, slice bs (o + h) (e - o - h)⟩
  | _ => none

/-- Sequence numbers run modulo 2^32; `a` is before `b`. -/
def seq32 (n : Nat) : Nat := n % 2 ^ 32
def seqLt (a b : Nat) : Bool := decide (0 < seq32 (b + 2 ^ 32 - a)) && decide (seq32 (b + 2 ^ 32 - a) < 2 ^ 31)
/-- How far `b` lies past `a`. -/
def seqGap (a b : Nat) : Nat := seq32 (b + 2 ^ 32 - a)

/-- Bytes a connection buffers in each direction (R287), and the shift that lets a window name them. -/
def tcpBuf : Nat := 4194304
def wsIn : Nat := 7

/-- The free space of a connection's receive buffer and of its RXQ. -/
def State.rcvWnd (s : State) (id : Nat) : Nat :=
  let c := s.ctx id
  let held := (c.outq.map (fun x => match x with
    | .data b _ _ => b.length
    | _ => 0)).sum + (c.ooo.map (fun x => x.2.1.length)).sum + c.stream.length
  let room := match s.tq_ c.fn true c.req.rxq with
    | none => 0
    | some t => (t.bufs.map (fun b => b.2.2)).sum
  min (tcpBuf - held) room

/-- The timestamp clock, in ms (RFC 7323). -/
def State.tsVal (s : State) : Nat := seq32 (s.mono / uMs)
/-- Payload of a full segment: the smaller MSS, less the timestamps. -/
def Ctx.smss (c : Ctx) : Nat := max 1 (min c.req.mss c.pmss - (if c.tsOn then 12 else 0))
/-- The retransmission timeout (RFC 6298), doubled with every retransmission. -/
def Ctx.rto (c : Ctx) : Nat := (if c.srtt = 0 then uS else max (c.req.rtoMs * uMs) (c.srtt + 4 * c.rttvar)) * 2 ^ c.retries
/-- The span of sequence numbers sent and not acknowledged. -/
def Ctx.flight (c : Ctx) : Nat := seqGap c.sndUna c.sndNxt

/-- The options of a SYN: an answer carries those that both sides have. -/
def State.synOpts (s : State) (c : Ctx) (answer : Bool) : List Byte :=
  let has := fun (ask on : Bool) => if answer then on else ask
  let o := [2, 4] ++ bytesBE 2 c.req.mss ++ (if has c.req.wscale c.wsOn then [3, 3, BitVec.ofNat 8 wsIn] else [])
    ++ (if has c.req.sack c.sackOn then [4, 2] else [])
    ++ (if has c.req.tstamp c.tsOn then [8, 10] ++ bytesBE 4 s.tsVal ++ bytesBE 4 (if answer then c.tsRecent else 0) else [])
  o ++ List.replicate ((4 - o.length % 4) % 4) 1
/-- The options of another segment: timestamps, and on one without payload up to three SACK blocks, the latest first. -/
def State.segOpts (s : State) (c : Ctx) (plain : Bool) : List Byte :=
  let bl := if c.sackOn && plain then (c.ooo.reverse.take 3).map (fun x => bytesBE 4 x.1 ++ bytesBE 4 (seq32 (x.1 + x.2.1.length))) else []
  (if c.tsOn then [1, 1, 8, 10] ++ bytesBE 4 s.tsVal ++ bytesBE 4 c.tsRecent else [])
    ++ (if bl.isEmpty then [] else [1, 1, 5, BitVec.ofNat 8 (2 + 8 * bl.length)] ++ bl.flatten)

/-- One segment of a connection leaves. New payload is ECT under ECN; ECE is echoed and CWR told. -/
def State.tcpOut (s : State) (id seq flags : Nat) (body : List Byte) : State :=
  let c := s.ctx id
  let syn := bit flags 1
  let ack := bit flags 4
  let new := !body.isEmpty && seq = c.sndNxt
  let opt := if syn then s.synOpts c ack else s.segOpts c body.isEmpty
  let w := s.rcvWnd id
  let w := min 65535 (if c.wsOn && !syn then w / 2 ^ wsIn else w)
  let fl := flags + (if syn then (if ack then (if c.ecnOn then 0x40 else 0) else if c.req.ecn then 0xC0 else 0)
    else (if c.ece && ack then 0x40 else 0) + (if c.cwr && new then 0x80 else 0))
  let h := bytesBE 2 c.req.lport ++ bytesBE 2 c.req.rport ++ bytesBE 4 seq ++ bytesBE 4 (if ack then c.rcvNxt else 0)
    ++ bytesBE 1 ((5 + opt.length / 4) * 16) ++ bytesBE 1 fl ++ bytesBE 2 w ++ [0, 0, 0, 0] ++ opt
  let l4 := h ++ body
  let ck := inetCsum (pseudoHdr c.req.hdr c.req.ip 6 l4.length ++ l4)
  let hdr := if c.ecnOn && new then ipEct c.req.hdr c.req.ip else c.req.hdr
  (s.setCtx id (fun c => if new then { c with cwr := false } else c)).svcEmit c.home (sealIp hdr c.req.ip (patch l4 16 (bytesBE 2 ck)))

/-- An acknowledgement of what was received. -/
def State.tcpAckOut (s : State) (id : Nat) : State := s.tcpOut id (s.ctx id).sndNxt 0x10 []

/-! ### TCP sending (R286, R287) -/

/-- New payload leaves: the retransmission timer runs, and a segment is timed where none is. -/
def State.tcpData1 (s : State) (id : Nat) (b : List Byte) : State :=
  let s := s.tcpOut id (s.ctx id).sndNxt 0x18 b
  s.setCtx id (fun c => { c with
    unsent := c.unsent.drop b.length, sent := c.sent ++ b, sndNxt := seq32 (c.sndNxt + b.length),
    sentAt := if c.flight = 0 then s.mono else c.sentAt, rtt := some (c.rtt.getD (seq32 (c.sndNxt + b.length), s.mono)) })

/-- A short segment waits while payload is unacknowledged: under Nagle's rule (RFC 896), and where it is short only because the window is. -/
def Ctx.waits (c : Ctx) (n : Nat) : Bool := decide (n < c.smss) && !c.sent.isEmpty && ((c.req.nagle && !c.fin) || decide (n < c.unsent.length))

/-- Payload is segmented and sent in order, within the peer's window and the congestion window; FIN follows once all of it is
sent. -/
def State.tcpPush (s : State) (id : Nat) : State :=
  let c := s.ctx id
  let n := c.unsent.length / c.smss + 1
  let s := (List.range n).foldl (fun s _ =>
    let c := s.ctx id
    let b := c.unsent.take (min c.smss (min c.wnd c.cwnd - c.sent.length))
    if b.isEmpty || !c.estab || c.waits b.length then s else s.tcpData1 id b) s
  let c := s.ctx id
  if c.fin && !c.finSent && c.unsent.isEmpty && c.estab then
    let s := s.tcpOut id c.sndNxt 0x11 []
    s.setCtx id (fun c => { c with
      finSent := true, sndNxt := seq32 (c.sndNxt + 1), sentAt := if c.flight = 0 then s.mono else c.sentAt })
  else s

/-- The oldest segment is sent again; a segment sent again is not timed (RFC 6298). -/
def State.tcpResend (s : State) (id : Nat) : State :=
  let c := s.ctx id
  let s := if !c.estab then s.tcpOut id c.sndUna (if c.synRx then 0x12 else 0x02) []
    else if c.sent.isEmpty then (if c.finSent then s.tcpOut id c.sndUna 0x11 [] else s)
    else s.tcpOut id c.sndUna 0x18 (c.sent.take c.smss)
  s.setCtx id (fun c => { c with sentAt := s.mono, rtt := none })

/-! ### TCP acknowledgements: RFC 9293, RFC 6298, NewReno of RFC 6582, ECN of RFC 3168 -/

/-- The round-trip time of a timed segment that `a` acknowledges. -/
def Ctx.timed (c : Ctx) (a now : Nat) : Ctx :=
  match c.rtt with
  | none => c
  | some (e, t) =>
    if seqLt a e then c
    else
      let r := now - t
      if c.srtt = 0 then { c with srtt := max 1 r, rttvar := r / 2, rtt := none }
      else { c with
        srtt := max 1 ((7 * c.srtt + r) / 8), rttvar := (3 * c.rttvar + (max c.srtt r - min c.srtt r)) / 4, rtt := none }

/-- Half of what is in flight, the new threshold after a loss. -/
def Ctx.half (c : Ctx) : Nat := max (c.flight / 2) (2 * c.smss)
/-- ECE reduces the congestion window once for a window of data, and CWR answers it. -/
def Ctx.eceSeen (c : Ctx) (g : TcpSeg) : Ctx :=
  if c.ecnOn && bit g.flags 6 && c.recov = 0 && !seqLt g.ack c.cwrAt && 0 < c.flight then
    { c with ssthresh := c.half, cwnd := c.half, cwr := true, cwrAt := c.sndNxt }
  else c
/-- The congestion window grows: slow start, then congestion avoidance (RFC 5681). -/
def Ctx.grown (c : Ctx) (new : Nat) : Nat :=
  min 4294967295 (if c.cwnd < c.ssthresh then c.cwnd + min new c.smss else c.cwnd + max 1 (c.smss * c.smss / max 1 c.cwnd))

/-- New payload is acknowledged, `new` bytes up to `a`. In recovery an acknowledgement short of its end sends the next segment again. -/
def State.tcpNewAck (s : State) (id a new w : Nat) : State :=
  let c := s.ctx id
  let part := c.recov ≠ 0 && seqLt a c.recover
  let cw := if c.recov = 1 then
      (if part then c.cwnd - new + (if c.smss ≤ new then c.smss else 0) else min c.ssthresh (max (c.sent.length - new) c.smss + c.smss))
    else c.grown new
  let s := s.setCtx id (fun c => { c.timed a s.mono with
    sent := c.sent.drop new, sndUna := a, retries := 0, dups := 0, cwnd := cw, wnd := w, sentAt := s.mono, recov := if part then c.recov else 0 })
  (if part then s.tcpResend id else s).tcpPush id

/-- A duplicate acknowledgement: the third starts fast recovery. -/
def State.tcpDupAck (s : State) (id a : Nat) : State :=
  let c := s.ctx id
  let s := s.setCtx id (fun c => { c with dups := c.dups + 1 })
  if c.recov = 1 then (s.setCtx id (fun c => { c with cwnd := min 4294967295 (c.cwnd + c.smss) })).tcpPush id
  else if c.dups = 2 && seqLt c.recover a then
    (s.setCtx id (fun c => { c with ssthresh := c.half, cwnd := c.half + 3 * c.smss, recov := 1, recover := c.sndNxt })).tcpResend id
  else s

/-- The acknowledgement of a segment. -/
def State.tcpAck (s : State) (id : Nat) (g : TcpSeg) : State :=
  let s := s.setCtx id (fun c => c.eceSeen g)
  let c := s.ctx id
  let w := g.wnd * 2 ^ c.wsOut
  let new := seqGap c.sndUna g.ack
  if !bit g.flags 4 || seqLt g.ack c.sndUna then s
  else if c.flight < new then s.tcpAckOut id
  else if 0 < new then s.tcpNewAck id g.ack new w
  else if g.body.isEmpty && !bit g.flags 0 && !c.sent.isEmpty && w = c.wnd && 0 < w then s.tcpDupAck id g.ack
  else (s.setCtx id (fun c => { c with wnd := w, retries := if w = 0 then 0 else c.retries })).tcpPush id

/-! ### TCP receiving -/

/-- In-order payload: to the session that runs over the connection, or to the host. -/
def State.tcpTake (s : State) (id : Nat) (bs : List Byte) (e : Instant) : State :=
  let s := s.setCtx id (fun c => { c with rcvNxt := seq32 (c.rcvNxt + bs.length) })
  match s.upper id with
  | some _ => if bs.isEmpty then s else s.setCtx id (fun c => { c with stream := c.stream ++ bs, marks := c.marks ++ [(bs.length, e)] })
  | none => s.svcGive id bs e

/-- Segments received out of order that have become in order. -/
def State.tcpMerge (s : State) (id : Nat) : State :=
  (List.range (s.ctx id).ooo.length).foldl (fun s _ =>
    let c := s.ctx id
    match c.ooo.find? (fun x => !seqLt c.rcvNxt x.1) with
    | none => s
    | some x =>
      let s := s.setCtx id (fun c => { c with ooo := c.ooo.erase x })
      s.tcpTake id (x.2.1.drop (seqGap x.1 c.rcvNxt)) x.2.2) s

/-- The payload of a segment: in order, kept for later, or old; what overruns the window is discarded, and a FIN counts only where every byte
before it was taken (R287). -/
def State.tcpData (s : State) (id : Nat) (g : TcpSeg) (e : Instant) : State :=
  let c := s.ctx id
  if g.body.isEmpty && !bit g.flags 0 then s
  else
    let w := s.rcvWnd id
    let s := if seqLt c.rcvNxt g.seq then
        (if seqGap c.rcvNxt g.seq + g.body.length ≤ w && !g.body.isEmpty && !c.ooo.any (fun x => x.1 = g.seq) then
          s.setCtx id (fun c => { c with ooo := c.ooo ++ [(g.seq, g.body, e)] })
        else s)
      else
        let off := seqGap g.seq c.rcvNxt
        let s := if off < g.body.length then (s.tcpTake id ((g.body.drop off).take w) e).tcpMerge id else s
        if bit g.flags 0 && !c.finRx && off ≤ g.body.length && g.body.length - off ≤ w then
          s.setCtx id (fun c => { c with rcvNxt := seq32 (g.seq + g.body.length + 1), finRx := true, ooo := [] })
        else s
    s.tcpAckOut id

/-- The options and the window of a SYN (Table 13-4): what both sides have is in force. -/
def Ctx.synSeen (c : Ctx) (g : TcpSeg) : Ctx :=
  let ws := c.req.wscale && g.opt.ws.isSome
  let ecn := c.req.ecn && bit g.flags 6 && (bit g.flags 4 || bit g.flags 7)
  { c with
    synRx := true, rcvNxt := seq32 (g.seq + 1), wnd := g.wnd, pmss := max 64 (g.opt.mss.getD 536), wsOn := ws, wsOut := if ws then g.opt.ws.getD 0 else 0,
    sackOn := c.req.sack && g.opt.sackOk, tsOn := c.req.tstamp && g.opt.ts.isSome, tsRecent := (g.opt.ts.getD (0, 0)).1, ecnOn := ecn }

/-- A handshake is complete: the congestion window is ten segments. -/
def Ctx.up (c : Ctx) (a now : Nat) (tb : Instant) : Ctx :=
  { c.timed a now with
    estab := true, state := if c.state = 1 then 2 else c.state, openTs := if c.state = 1 then tb else c.openTs,
    sndUna := a, cwnd := 10 * c.smss, recover := seq32 (a + 2 ^ 32 - 1), cwrAt := a, retries := 0 }

/-- A reset of the connection by the peer. -/
def State.tcpPeerReset (s : State) (id : Nat) : State :=
  let s := s.setCtx id (fun c => { c with sent := [], unsent := [], finSent := true, sndUna := c.sndNxt, aborted := true })
  if (s.ctx id).state = 3 then s.svcErr id 0x15 else s.svcFail id 0x15

/-- A reset segment acts only where its sequence number is the next one expected; elsewhere in the window it is challenged (RFC 9293). -/
def State.tcpRst (s : State) (id : Nat) (g : TcpSeg) : State :=
  let c := s.ctx id
  if !c.synRx then (if bit g.flags 4 && g.ack = c.sndNxt then s.tcpPeerReset id else s)
  else if g.seq = c.rcvNxt then s.tcpPeerReset id
  else if seqGap c.rcvNxt g.seq < s.rcvWnd id then s.tcpAckOut id
  else s

/-- Timestamps and marks of a segment of a connection that is up: it is dropped where its timestamp is older than the latest (PAWS, RFC 7323). -/
def State.tcpMarks (s : State) (id : Nat) (g : TcpSeg) : Option State :=
  let c := s.ctx id
  let v := (g.opt.ts.getD (0, 0)).1
  if c.tsOn && (g.opt.ts.isNone || seqLt v c.tsRecent) then none
  else some (s.setCtx id (fun c => { c with
    tsRecent := if c.tsOn && !seqLt c.rcvNxt g.seq then v else c.tsRecent,
    ece := c.ecnOn && ((c.ece && !bit g.flags 7) || g.ce) }))

/-- A received segment of a connection (R286). -/
def State.tcpRx (s : State) (id : Nat) (g : TcpSeg) (e : Instant) : State :=
  let s := s.setCtx id (fun c => { c with heardAt := s.mono, probes := 0 })
  let c := s.ctx id
  if c.state = 4 || c.aborted then s
  else if bit g.flags 2 then s.tcpRst id g
  else if !c.estab then
    if !(bit g.flags 4 && g.ack = c.sndNxt) then s
    else if bit g.flags 1 then
      (if !c.synRx then (((s.setCtx id (fun c => (c.synSeen g).up g.ack s.mono s.now)).tcpAckOut id).tcpPush id) else s)
    else if !c.synRx then s
    else
      let s := s.setCtx id (fun c => { c.up g.ack s.mono s.now with wnd := g.wnd * 2 ^ c.wsOut })
      match s.tcpMarks id g with
      | none => s.tcpPush id
      | some s => (s.tcpData id g e).tcpPush id
  else if bit g.flags 1 then s.tcpAckOut id
  else match s.tcpMarks id g with
    | none => s.tcpAckOut id
    | some s => (s.tcpAck id g).tcpData id g e

/-- RST at once, unsent payload discarded (R287). -/
def State.tcpReset (s : State) (id : Nat) : State :=
  let s := s.tcpOut id (s.ctx id).sndNxt 0x14 []
  s.setCtx id (fun c => { c with unsent := [], sent := [], sndUna := c.sndNxt, fin := false, finSent := true, aborted := true })

/-! ### Keys of a context -/

/-- The slot of a context's key is usable: VALID, an AEAD key of USE DATA, owned by the function (R288, R290). -/
def State.svcKey (s : State) (c : Ctx) (k : Nat) : Bool :=
  let a := s.rd (keyAttr k)
  s.keyValid k && decide (1 ≤ attrAlg a) && decide (attrAlg a ≤ 3) && attrUse a = 0 && attrOwner a = c.owner

/-! ### TLS 1.3 records (R288, R289) -/

/-- Bytes go to the TCP context underneath, to be sent in order. -/
def State.tcpQueue (s : State) (id : Nat) (bs : List Byte) : State :=
  (s.setCtx id (fun c => { c with unsent := c.unsent ++ bs })).tcpPush id

/-- A record protected under KEY_TX with the next record number. -/
def State.tlsSeal (s : State) (id typ : Nat) (pt : List Byte) : List Byte :=
  let c := s.ctx id
  let a := s.rd (keyAttr c.keyTx)
  let h := [0x17, 3, 3] ++ bytesBE 2 (pt.length + 17)
  let r := cipRun 1 (putBits a 27 26 0) (s.keyWord c.keyTx) c.recTx (pt ++ [BitVec.ofNat 8 typ]) h []
  h ++ r.1 ++ r.2.1

/-- A direction has used up its record or sequence numbers: it stops, and says so once. -/
def State.svcTxEnd (s : State) (id : Nat) : State :=
  if (s.ctx id).txStop then s else (s.setCtx id (fun c => { c with txStop := true })).svcErr id 0x17
def State.svcRxEnd (s : State) (id : Nat) : State :=
  if (s.ctx id).rxStop then s else (s.setCtx id (fun c => { c with rxStop := true })).svcErr id 0x17

/-- Plaintext is sent as records of at most RECORD_MAX bytes; the number after the last record's would be 2^64, and the direction stops. -/
def State.tlsSend (s : State) (id typ : Nat) (bs : List Byte) : State :=
  let n := max 1 (s.ctx id).req.recMax
  (chunks n (bs.length / n + 1) bs).foldl (fun s p =>
    let c := s.ctx id
    if c.txStop then s
    else
      let r := s.tlsSeal id typ p
      let s := (s.setCtx id (fun c => { c with recTx := c.recTx + 1 })).tcpQueue (c.link.getD 0) r
      if top64 ≤ c.recTx then s.svcTxEnd id else s) s

/-- Messages before keys are set go as plaintext records, cut alike. -/
def State.tlsPlain (s : State) (id typ : Nat) (bs : List Byte) : State :=
  let c := s.ctx id
  let n := max 1 c.req.recMax
  s.tcpQueue (c.link.getD 0)
    ((chunks n (bs.length / n + 1) bs).map (fun p => [BitVec.ofNat 8 typ, 3, 3] ++ bytesBE 2 p.length ++ p)).flatten

/-- The padding of an inner plaintext removed: the content and its type. -/
def tlsInner (pt : List Byte) : List Byte × Nat :=
  let r := pt.reverse.dropWhile (· = 0)
  (r.tail.reverse, match r with
    | [] => 0
    | t :: _ => t.toNat)

/-- The handshake messages that a byte string begins with: whether a KeyUpdate (24) is among them, and what remains of an unfinished one. -/
def tlsWalk : Nat → List Byte → Bool × List Byte
  | 0, b => (false, b)
  | n + 1, b =>
    let len := 4 + beAt b 1 3
    if b.length < 4 || b.length < len then (false, b)
    else
      let r := tlsWalk n (b.drop len)
      (beAt b 0 1 = 24 || r.1, r.2)

/-- A protected record, its header `h`, opened under KEY_RX. -/
def State.tlsOpen (s : State) (id : Nat) (h body : List Byte) (e : Instant) : State :=
  let c := s.ctx id
  let n := body.length
  let a := s.rd (keyAttr c.keyRx)
  let r := cipRun 2 (putBits a 27 26 0) (s.keyWord c.keyRx) c.recRx (body.take (n - 16)) h (body.drop (n - 16))
  if n < 17 || !r.2.2 then (s.svcFail id 0x13).tlsSend id 21 [2, 20]
  else
    let p := tlsInner r.1
    if p.2 < 21 || 23 < p.2 || 16384 < p.1.length then s.svcFail id 0x1A
    else
      let w := if p.2 = 22 then tlsWalk p.1.length (c.hs ++ p.1) else (false, c.hs)
      let s := s.setCtx id (fun c => { c with recRx := c.recRx + 1, hs := w.2, hold := w.1 })
      let s := s.svcGive id p.1 e
      if top64 ≤ c.recRx then s.svcRxEnd id else s

/-- The first complete record of the stream below is verified and delivered, or fails the session. Protected records wait for the first
KEY_RX. -/
def State.tlsRx (s : State) (id : Nat) : State :=
  let c := s.ctx id
  match c.link with
  | none => s
  | some t =>
    let b := (s.ctx t).stream
    let typ := beAt b 0 1
    let n := beAt b 3 2
    let e := markAt (s.ctx t).marks (5 + n)
    if c.hold || c.rxStop || c.state = 4 || b.length < 5 || (typ = 0x17 && c.keyRx = 0) then s
    else if beAt b 1 1 ≠ 3 || decide ((if typ = 0x17 then 16640 else 16384) < n) then s.svcFail id 0x1A
    else if b.length < 5 + n then s
    else
      let s := s.streamDrop t (5 + n)
      let body := slice b 5 n
      if typ = 20 then s
      else if typ ≠ 0x17 then (if c.keyRx = 0 && (typ = 21 || typ = 22) then s.svcGive id body e else s.svcFail id 0x1A)
      else if !s.svcKey c c.keyRx then s.svcFail id 0x12
      else s.tlsOpen id (b.take 5) body e

/-! ### ESP (R290, R291) -/

/-- The SPI, sequence number, explicit nonce, ciphertext and tag of an ESP packet, also under UDP encapsulation (RFC 3948). -/
def espOf (bs : List Byte) : Option (Nat × Nat × List Byte × List Byte) :=
  match ipView bs with
  | none => none
  | some (_, o, p, e) =>
    let o := if p = 17 then o + 8 else o
    if (p ≠ 50 && p ≠ 17) || e < o + 32 then none
    else some (beAt bs o 4, beAt bs (o + 4) 4, slice bs (o + 8) 8, slice bs (o + 16) (e - o - 16))

/-- The 64-bit sequence number of an inbound packet with ESN (RFC 4303 appendix A2), or the 32-bit one. -/
def espSeq (c : Ctx) (lo : Nat) : Nat :=
  if !c.req.esn then lo
  else
    let hi := c.espTop / 2 ^ 32
    let tl := c.espTop % 2 ^ 32
    let w := c.req.window
    if w ≤ tl + 1 then (if lo < tl + 1 - w then (hi + 1) * 2 ^ 32 + lo else hi * 2 ^ 32 + lo)
    else if lo < 2 ^ 32 + tl + 1 - w then hi * 2 ^ 32 + lo else (hi - 1) * 2 ^ 32 + lo

/-- The anti-replay window admits a sequence number. -/
def espFresh (c : Ctx) (n : Nat) : Bool :=
  n ≠ 0 && (decide (c.espTop < n) || (decide (c.espTop < n + c.req.window) && !c.espMap.testBit (c.espTop - n)))
/-- The window after it. -/
def espMark (c : Ctx) (n : Nat) : Ctx :=
  if c.espTop < n then { c with espTop := n, espMap := (c.espMap * 2 ^ (n - c.espTop) + 1) % 2 ^ c.req.window }
  else { c with espMap := c.espMap ||| 2 ^ (c.espTop - n) }

/-- Bytes and packets of an SA are used: the soft lifetime is told once, the hard one stops the SA (R291). -/
def State.espUse (s : State) (id n : Nat) : State :=
  let s := s.setCtx id (fun c => { c with espBytes := c.espBytes + n, espPkts := c.espPkts + 1 })
  let c := s.ctx id
  let hit := fun (lim x : Nat) => decide (0 < lim) && decide (lim ≤ x)
  let s := if !c.softTold && (hit c.req.softBytes c.espBytes || hit c.req.softPkts c.espPkts) then
      (s.setCtx id (fun c => { c with softTold := true })).svcErr id 0x18 else s
  if hit c.req.hardBytes c.espBytes || hit c.req.hardPkts c.espPkts then s.svcFail id 0x18 else s

/-- What a decrypted packet carries, padding and trailer off (RFC 4303): none for a dummy packet, or for a tunnel that carries no IP. TFC padding ends
where the inner lengths say. -/
def espInner (c : Ctx) (pt : List Byte) : Option (List Byte) :=
  let n := pt.length
  let b := pt.take (n - 2 - (pt.getD (n - 2) 0).toNat)
  let nh := (pt.getD (n - 1) 0).toNat
  if nh = 59 then none
  else if c.req.transport then some (if nh = 17 && decide (8 ≤ beAt b 4 2) then b.take (beAt b 4 2) else b)
  else if nh = 4 then some (b.take (beAt b 2 2))
  else if nh = 41 then some (b.take (40 + beAt b 4 2))
  else none

/-- An inbound packet: authenticated, checked against the window, its payload delivered; otherwise discarded, the window unchanged. -/
def State.espRx (s : State) (id lo : Nat) (iv body : List Byte) (e : Instant) : State :=
  let c := s.ctx id
  if c.state ≠ 2 then s
  else if !s.svcKey c c.keyRx then s.svcErr id 0x12
  else
    let n := espSeq c lo
    let a := putBits (s.rd (keyAttr c.keyRx)) 27 26 1
    let aad := bytesBE 4 c.req.spi ++ (if c.req.esn then bytesBE 8 n else bytesBE 4 lo)
    let ct := body.take (body.length - 16)
    let r := cipRun 2 a (s.keyWord c.keyRx) (natBE iv) ct aad (body.drop (body.length - 16))
    if !r.2.2 then s.svcErr id 0x13
    else if !espFresh c n then s.svcErr id 0x14
    else
      let s := s.setCtx id (fun c => espMark c n)
      (s.svcGive id ((espInner c r.1).getD []) e).espUse id body.length

/-- The header of an outbound packet, its UDP length filled and UDP checksum 0 where ESP is encapsulated (RFC 3948). -/
def espHdr (c : Ctx) (n : Nat) : List Byte :=
  let h := c.req.hdr
  let p := if beAt h c.req.ip 1 / 16 = 6 then beAt h (c.req.ip + 6) 1 else beAt h (c.req.ip + 9) 1
  if p = 17 then patch h (h.length - 4) (bytesBE 2 (8 + n) ++ [0, 0]) else h

/-- An outbound packet: in a tunnel the next header is that of the IP packet carried, in transport mode the protocol of the SA. -/
def State.espTx (s : State) (id : Nat) (pt : List Byte) : State :=
  let c := s.ctx id
  let n := c.espTop + 1
  if c.state ≠ 2 || c.txStop then s
  else if !s.svcKey c c.keyTx then s.svcErr id 0x12
  else
    let pad := (4 - (pt.length + 2) % 4) % 4
    let nh := if c.req.transport then c.req.proto else if beAt pt 0 1 / 16 = 6 then 41 else 4
    let inner := pt ++ (List.range pad).map (fun i => BitVec.ofNat 8 (i + 1)) ++ [BitVec.ofNat 8 pad, BitVec.ofNat 8 nh]
    let a := putBits (s.rd (keyAttr c.keyTx)) 27 26 1
    let aad := bytesBE 4 c.req.spi ++ (if c.req.esn then bytesBE 8 n else bytesBE 4 n)
    let r := cipRun 1 a (s.keyWord c.keyTx) n inner aad []
    let l4 := bytesBE 4 c.req.spi ++ bytesBE 4 (n % 2 ^ 32) ++ bytesBE 8 n ++ r.1 ++ r.2.1
    let s := s.setCtx id (fun c => { c with espTop := n })
    let s := (s.svcEmit c.home (sealIp (espHdr c l4.length) c.req.ip l4)).espUse id pt.length
    if (if c.req.esn then top64 else 2 ^ 32 - 1) ≤ n then s.svcTxEnd id else s

/-! ### NVMe/TCP (R292, R293) -/

/-- CRC-32C digest bytes of a PDU part. -/
def nvmeDigest (bs : List Byte) : List Byte := bytesLE 4 (crc32c bs).toNat

/-- The connection ends with an error. -/
def State.nvmeEnd (s : State) (id code : Nat) : State :=
  let s := s.svcFail id code
  match (s.ctx id).link with
  | none => s
  | some t => (s.tcpReset t).setCtx t (fun c => { c with state := 4 })

/-- An H2CData PDU. -/
def h2cData (c : Ctx) (cid ttag off : Nat) (data : List Byte) : List Byte :=
  let hd := if c.req.hdgst then 4 else 0
  let dd := if c.req.ddgst then 4 else 0
  let h := [6, BitVec.ofNat 8 (4 + b2n c.req.hdgst + 2 * b2n c.req.ddgst), 24, BitVec.ofNat 8 (24 + hd)]
    ++ bytesLE 4 (24 + hd + data.length + dd) ++ bytesLE 2 cid ++ bytesLE 2 ttag ++ bytesLE 4 off ++ bytesLE 4 data.length ++ [0, 0, 0, 0]
  h ++ (if c.req.hdgst then nvmeDigest h else []) ++ data ++ (if c.req.ddgst then nvmeDigest data else [])

/-- A data digest failure marks its command (R293): LAST_ERR and the count at once; the command's response carries the code, or an event where the
PDU says that none follows. -/
def State.nvmeMark (s : State) (id cid : Nat) (alone : Bool) : State :=
  if alone then s.svcErr id 0x19 else (s.svcNote id 0x19).setCtx id (fun c => { c with nvBad := cid :: c.nvBad.filter (· ≠ cid) })

/-- C2HData: its payload goes to the registered buffer of its command. -/
def State.nvmeC2h (s : State) (id n : Nat) (b : List Byte) : State :=
  let c := s.ctx id
  let cid := leAt b 8 2
  let off := leAt b 12 4
  let len := leAt b 16 4
  let dOff := leAt b 3 1
  let data := slice b dOff len
  match mget (fun _ => none) c.bufs cid with
  | none => s.nvmeEnd id 0x1A
  | some (a, m) =>
    if m < off + len || n < dOff + len + (if c.req.ddgst then 4 else 0) || decide (131072 < len) then s.nvmeEnd id 0x1A
    else if c.req.ddgst && slice b (dOff + len) 4 ≠ nvmeDigest data then s.nvmeMark id cid (bit (leAt b 1 1) 3)
    else (s.setCtx id (fun c => { c with octRx := (c.octRx + len) % 2 ^ 64 })).dmaPut c.fn c.fgen (a + off) data true

/-- R2T: data of the registered buffer of its command, which holds `host`, is sent; the PDU is delivered. -/
def State.nvmeR2t (s : State) (id t n : Nat) (b host : List Byte) (e : Instant) : State :=
  let c := s.ctx id
  let cid := leAt b 8 2
  let off := leAt b 12 4
  let len := leAt b 16 4
  match mget (fun _ => none) c.bufs cid with
  | none => s.nvmeEnd id 0x1A
  | some (_, m) =>
    if m < off + len || decide (131072 < len) then s.nvmeEnd id 0x1A
    else
      let s := s.setCtx id (fun c => { c with octTx := (c.octTx + len) % 2 ^ 64 })
      (s.tcpQueue t (h2cData c cid (leAt b 10 2) off (slice host 0 len))).svcGive id (b.take n) e

/-- A response capsule frees a place of the queue depth; it carries DIGEST_FAIL where its command was marked. -/
def State.nvmeRsp (s : State) (id n : Nat) (b : List Byte) (e : Instant) : State :=
  let c := s.ctx id
  let cid := leAt b 20 2
  let s := s.setCtx id (fun c => { c with nvOut := c.nvOut - 1, nvBad := c.nvBad.filter (· ≠ cid) })
  s.svcHand id (b.take n) e (if c.nvBad.contains cid then 0x19 else 0)

/-- The first complete PDU of the stream below: its header digest first, as its length is trusted only then. -/
def State.nvmeRx (s : State) (id : Nat) (host : List Byte) : State :=
  let c := s.ctx id
  match c.link with
  | none => s
  | some t =>
    let b := (s.ctx t).stream
    let typ := leAt b 0 1
    let hl := leAt b 2 1
    let n := leAt b 4 4
    let e := markAt (s.ctx t).marks n
    let dig := c.req.hdgst && typ ≠ 1
    if c.state = 4 || b.length < 8 || (dig && b.length < hl + 4) then s
    else if dig && slice b hl 4 ≠ nvmeDigest (b.take hl) then s.nvmeEnd id 0x19
    else if hl < 8 || n < hl || decide (131072 + 256 < n) then s.nvmeEnd id 0x1A
    else if b.length < n then s
    else
      let s := s.streamDrop t n
      match typ with
      | 1 => s.svcGive id (b.take n) e
      | 5 => s.nvmeRsp id n b e
      | 7 => s.nvmeC2h id n b
      | 9 => s.nvmeR2t id t n b host e
      | _ => s.nvmeEnd id 0x1A

/-- A PDU that the driver built, with the digests that the connection negotiated; an ICReq comes before that. -/
def nvmePdu (c : Ctx) (bs : List Byte) : List Byte :=
  let hl := leAt bs 2 1
  let h := bs.take hl
  if leAt bs 0 1 = 0 then bs
  else h ++ (if c.req.hdgst then nvmeDigest h else []) ++ bs.drop hl ++ (if c.req.ddgst && decide (hl < bs.length) then nvmeDigest (bs.drop hl) else [])

/-! ### Payload from the host (R285–R292) -/

/-- Whether a context can take a payload now: room in the buffer of its connection, and for a command capsule a place of the queue depth. -/
def State.svcTakes (s : State) (id : Nat) (bs : List Byte) : Bool :=
  let c := s.ctx id
  let t := if c.kind = 1 then some id else c.link
  (c.kind ≠ 5 || leAt bs 0 1 ≠ 4 || decide (c.nvOut < c.req.depth)) && (match t with
  | none => true
  | some t => decide ((s.ctx t).unsent.length + (s.ctx t).sent.length + bs.length ≤ tcpBuf))

/-- Why a payload is refused: in-capsule data above 8 KiB (R292). -/
def State.svcRefuses (s : State) (id : Nat) (bs : List Byte) : Option Nat :=
  if (s.ctx id).kind = 5 && leAt bs 0 1 = 4 && decide (8192 < bs.length - leAt bs 2 1) then some 0x11 else none

/-- A TLS payload: KEY_NEXT switches KEY_TX to the standby slot first (R289). Its content type is a free value (R288): a handshake message or an
alert before KEY_TX is set, also application data after. -/
def State.tlsTx (s : State) (id : Nat) (bs : List Byte) (keyNext : Bool) : State :=
  let s := s.setCtx id (fun c => match keyNext, c.standby with
    | true, some k => { c with keyTx := k, standby := none, recTx := 0, txStop := false }
    | _, _ => c)
  let d := s.draw
  let c := s.ctx id
  if c.keyTx = 0 then d.2.tlsPlain id (21 + Config.anyNat d.1 % 2) bs
  else if s.svcKey c c.keyTx then d.2.tlsSend id (21 + Config.anyNat d.1 % 3) bs
  else s.svcErr id 0x12

/-- A payload of a SERVICE TX queue. -/
def State.svcTx (s : State) (id : Nat) (bs : List Byte) (keyNext : Bool) : State :=
  let s := s.setCtx id (fun c => { c with octTx := (c.octTx + bs.length) % 2 ^ 64 })
  let c := s.ctx id
  match c.kind with
  | 1 => s.tcpQueue id bs
  | 2 => s.tlsTx id bs keyNext
  | 4 => s.espTx id bs
  | 5 =>
    (s.setCtx id (fun c => if leAt bs 0 1 = 4 then { c with nvOut := c.nvOut + 1 } else c)).tcpQueue (c.link.getD 0) (nvmePdu c bs)
  | _ => s

/-! ### Opening and ending (R279, R282) -/

/-- A free context, and a local index free for the function. -/
def State.ctxFree (s : State) : Option Nat × State :=
  let d := s.draw
  (((List.range 16384).map (fun i => (Config.anyNat d.1 + i) % 16384)).find? (fun i => (s.ctx i).state = 0), d.2)
def State.idxFree (s : State) (f mx : Nat) (m : Sparse (Option Nat)) : Option Nat :=
  (List.range mx).find? (fun i => mget (fun _ => none) m (16384 * f + i) = none)

/-- Contexts in use of a function. -/
def ctxUseA (f : Nat) : Nat := tfnB + 0x10018 + 0x40 * f
def ctxMaxA (f : Nat) : Nat := tfnB + 0x1000C + 0x40 * f

/-- A context is allocated for a function, OPENING; no context where the quota or the pool is exhausted or the pool has no control region. None while a
channel does not serve what leaves the cache for it. -/
def State.ctxAlloc (s : State) (f home : Nat) (r : OpenReq) (keyRx keyTx : Nat) (link : Option Nat) : Option (Option Nat × State) :=
  let p := s.ctxFree
  match (if s.fld (ctxUseA f) 30 16 < s.fld (ctxMaxA f) 30 16 then s.idxFree f (s.fld (ctxMaxA f) 30 16) s.tfn.ctxs else none), p.1, p.2.poolOpen with
  | some i, some id, some q =>
    match q.ctxSeat id with
    | none => none
    | some q =>
      let d := q.draw
      let g := ((s.ctx id).gen + 1) % 2 ^ 16
      let s := (d.2.setCtx id (fun _ => {
        kind := r.kind, state := 1, fgen := d.2.fgen f, owner := 16 + f, home := home, gen := g, keyRx := keyRx, keyTx := keyTx,
        link := link, flowid := Config.anyNat d.1 % 2 ^ 32, idx := i, req := r, heardAt := s.mono }))
      let s := s.setTfn (fun t => { t with ctxs := mput (fun _ => none) t.ctxs (16384 * f + i) (some id) })
      some (some id, s.setFld (ctxUseA f) 30 16 (s.fld (ctxUseA f) 30 16 + 1))
  | _, _, _ => some (none, s)

/-- A context becomes ACTIVE. -/
def State.ctxActive (s : State) (id : Nat) : State := s.setCtx id (fun c => { c with state := 2, openTs := s.now })

/-- ABORT of a context (R282, R287): RST for TCP, also after a CLOSE; ESP stops at once. -/
def State.ctxAbort (s : State) (id : Nat) : State :=
  let c := s.ctx id
  if c.state = 0 then s
  else
    let s := if c.kind = 1 && !c.aborted then s.tcpReset id else s
    s.setCtx id (fun c => { c with state := 3, outq := [], ooo := [], stream := [], marks := [] })

/-- CLOSE of a context: FIN after all accepted payload for TCP. -/
def State.ctxClose (s : State) (id : Nat) : State :=
  let c := s.ctx id
  if c.state = 0 || c.state = 3 then s
  else if c.kind = 1 && !c.aborted && c.state ≠ 4 then (s.setCtx id (fun c => { c with state := 3, fin := true })).tcpPush id
  else s.setCtx id (fun c => { c with state := 3, unsent := [], sent := [], sndUna := c.sndNxt, fin := false })

/-- A frame steered to a context waits: at its cluster, or on its way there. -/
def State.steered (s : State) (c : Ctx) : Bool :=
  let mine := fun (f : Frame) => mdF f.md 2 31 0 = c.flowid
  (List.range 16).any (fun q => (s.vq (272 + c.home) q).any (fun x => mine x.f))
    || (List.range 4).any (fun n => (s.pipe n).recirc.any mine)
    || (s.dp.seq.hold ++ (s.dp.seq.fifo.map (·.2)).flatten).any (fun m => mine m.f)

/-- A CLOSING context returns to FREE: its payload and its FIN are acknowledged, and no frame steered to it waits (R282). Its TX queue is no longer its. -/
def State.ctxFreeNow (s : State) (id : Nat) : State :=
  let c := s.ctx id
  if c.state ≠ 3 || s.steered c || (c.kind = 1 && !c.aborted && (!c.unsent.isEmpty || c.sndUna ≠ c.sndNxt || (c.fin && !c.finSent))) then s
  else match s.ctxErase id with
    | none => s
    | some s =>
      let f := c.fn
      let s := match s.tq_ f false c.req.txq with
        | none => s
        | some t => if t.ctx = some id then s.setTq f false c.req.txq (some { t with ctx := none }) else s
      let s := s.setTfn (fun t => { t with
        ctxs := if mget (fun _ => none) t.ctxs (16384 * f + c.idx) = some id then mput (fun _ => none) t.ctxs (16384 * f + c.idx) none else t.ctxs })
      if s.fgen f = c.fgen then s.setFld (ctxUseA f) 30 16 (s.fld (ctxUseA f) 30 16 - 1) else s

end Sys2Proof.Machine
end

