-- ==== Sys2Proof/Machine/FnOps.lean ====
section
/-! DEFINITION. Shared operations of functions and host ports: Bus Master Enable, resets of a function, host port down, cleanup, windows
(17_host_interface.md R350–R372; 18_tenant_functions.md R375–R378, R389–R390). -/
namespace Sys2Proof.Machine

/-! ### Resets of a function (R365, R376–R378) -/

/-- Drop what of a port's fetches is not outstanding, for a function. -/
def dropFetch (f : Nat) (l : List Fetch) : List Fetch :=
  (l.map (fun x => if x.f = f then { x with reqs := x.reqs.filter (fun r => match r.st with
    | .out _ _ => true
    | _ => false) } else x)).filter (fun x => x.f ≠ f || !x.reqs.isEmpty)

/-- The contexts and listeners of a function end: ABORT for each (R282). -/
def State.fnAbort (s : State) (f : Nat) : State :=
  let ids := (s.svc.ctx.filter (fun e => e.2.owner = 16 + f && e.2.state ≠ 0)).map (·.1)
  let s := ids.foldl (fun s id => s.ctxAbort id) s
  let s := s.setSvc (fun x => { x with listen := x.listen.filter (fun l => l.f ≠ f) })
  let s := s.setTfn (fun t => { t with ctxs := t.ctxs.filter (fun e => e.1 / 16384 ≠ f) })
  s.setFld (ctxUseA f) 30 16 0

/-- The key slots and the migration key of a function are opened. -/
def State.fnKeys (s : State) (f : Nat) : State :=
  let ks := (s.tfn.keys.filter (fun e => e.1 / 16384 = f)).filterMap (·.2)
  let ms := match mget (fun _ => none) s.tfn.mig f with
    | none => []
    | some m => [m.slot]
  let s := (ks ++ ms).foldl (fun s k => s.keyOpen k 0) s
  let s := s.setTfn (fun t => { t with keys := t.keys.filter (fun e => e.1 / 16384 ≠ f), mig := mput (fun _ => none) t.mig f none })
  s.setFld (ctxUseA f) 14 0 0

/-- The queues and doorbells of a function are reset: its copies that wait go, its hardware queues return. -/
def State.fnQueues (s : State) (f : Nat) : State :=
  (s.queues f).foldl (fun s x =>
    let s := if x.1 then
        (s.vq (16 + f) x.2).foldl (fun s c => (s.takeWaiting c .dropped).bump (tfCnt f 10) 1) s
      else s
    (s.setTq f x.1 x.2 none).queUse f x.1 false) s

/-- A request of the function that is pending at MGC firmware is dropped: BUSY clears, DONE stays 0, MBX_RSP reads 0 (R379). -/
def State.fnMbx (s : State) (f : Nat) : State :=
  if !bit (s.prd f 0x104) 31 then s
  else
    let s := s.setTfn (fun t => { t with mbxQ := t.mbxQ.filter (fun r => r.f ≠ f), rsp := t.rsp.filter (fun r => r.1 ≠ f) })
    let s := s.setFld (tfnB + 0x44) 8 0 s.tfn.mbxQ.length
    let s := s.pwr f 0x104 (putBits (s.prd f 0x104) 31 30 0)
    ((List.range 256).foldl (fun s n => s.pwr f (0x600 + 4 * n) 0) s).bump (tfCnt f 10) 1

/-- The MSI-X table, pending bits and controls of a function are reset. -/
def State.fnMsix (s : State) (f : Nat) : State :=
  { s with pregs := s.pregs.filter (fun e => e.1 / 65536 ≠ f || decide (e.1 % 65536 < 0x8000)) }.setFn f (fun c =>
    { c with msixEnable := false, funcMask := false })

/-- A function loses everything that a new FGEN ends. -/
def State.fnReset (s : State) (f : Nat) : State :=
  let s := s.fnAbort f
  let s := s.setFld (tfnStat f) 23 16 ((s.fgen f + 1) % 256)
  let s := ((s.fnKeys f).fnQueues f).fnMbx f
  let s := (s.fnMsix f).setFn f (fun c => { c with posts := [] })
  let s := [0, 1, 2, 3].foldl (fun s h => s.setHport h (fun p => { p with fetch := dropFetch f p.fetch })) s
  let s := s.setTfn (fun t => { t with log := mput (fun _ => none) t.log f none })
  s.setFld (tfnStat f) 31 29 0

/-- The configuration space of a function returns to its defaults; an FLR leaves Max Payload Size. -/
def State.fnCfgReset (s : State) (f mps : Nat) : State :=
  (s.setFn f (fun _ => { mps := mps })).wr (hifFn f) 0

/-- A function enters RESETTING (Table 18-2). -/
def State.toResetting (s : State) (f : Nat) (flr : Bool) : State :=
  ((s.fnReset f).setFn f (fun c => { c with flr := flr, resetAt := s.mono })).fnTo f 4

/-- An FLR of one function; outside ACTIVE and FROZEN it has no function to reset. -/
def State.flrOne (s : State) (f : Nat) : State :=
  if s.fnState f = 1 || s.fnState f = 2 then (s.fnCfgReset f (s.fnGet f).mps).toResetting f true else s
/-- An FLR: that of a management function resets every tenant function of its port first (R366). -/
def State.flr (s : State) (f : Nat) : State :=
  if 256 ≤ f then
    let h := f - 256
    let vf := s.fnGet f
    let s := ((s.fnsOf h).drop 1).foldl (fun s g => s.flrOne g) s
    let s := s.flrOne f
    if vf.vfEnable || vf.numVfs ≠ 0 then s.raise hifB Ev.hifVfChange (Src.hostPort h) else s
  else s.flrOne f

/-- RESET of a function (R376); none where it is DISABLED. -/
def State.fnResetCmd (s : State) (f : Nat) : Option State :=
  if s.fnState f = 1 || s.fnState f = 2 then some (s.toResetting f false) else if s.fnState f = 0 then none else some s

/-- No item of a function carries FGEN g: fetches with their tags, frames, completions, answers, held writes; with `all` also its
mailbox requests and contexts (R378, R390). -/
def State.fnClear (s : State) (f g : Nat) (all : Bool) : Bool :=
  let mine := fun (o : Origin) => match o with
    | .tenant f' _ _ gen _ => f' = f && gen = g
    | _ => false
  [0, 1, 2, 3].all (fun h => !(s.hport h).fetch.any (fun x => x.f = f && x.gen = g))
    && !s.dp.live.any (fun e => match e.2 with
      | none => false
      | some l => mine l.f.src)
    && !s.dp.fin.any (fun x => mine x.f.src)
    && [0, 1, 2, 3].all (fun n => !(s.pipe n).host.any (fun x => mine x.src))
    && !s.tfn.rsp.any (fun x => x.1 = f && x.2.1 = g)
    && (s.fnGet f).posts.isEmpty
    && (!all || (!s.tfn.mbxQ.any (fun r => r.f = f && r.gen = g) && !s.svc.ctx.any (fun e => e.2.state ≠ 0 && e.2.fn = f && e.2.fgen = g)))

/-- A function leaves RESETTING: ACTIVE, or DISABLED if it is no longer enumerated. -/
def State.leaveReset (s : State) (f : Nat) : State :=
  let flr := (s.fnGet f).flr
  let s := (s.setFn f (fun c => { c with flr := false })).fnTo f (if s.fnOn f then 1 else 0)
  if flr then s.raise hifB Ev.hifFlr (Src.fn f) else s

/-- The port of a function by its range alone. -/
def State.rangeHp (s : State) (f : Nat) : Option Nat :=
  if 256 ≤ f then some (f - 256) else [0, 1, 2, 3].find? (fun h => s.hpHolds h f)

/-! ### Host port down (R367) -/

/-- A function of a port that goes down. -/
def State.orphan (s : State) (f : Nat) : State :=
  let s := if s.fnState f = 0 then s else (s.fnReset f).fnTo f 3
  s.fnCfgReset f 0

/-- The semaphores of a holder are released (R407). -/
def State.semFree (s : State) (holder : Nat) : State :=
  (List.range 16).foldl (fun s n =>
    let a := genB + 0x80 + 4 * n
    if s.flag a 31 && s.fld a 1 0 = holder then s.wr a 0 else s) s

/-- Registers of window w of function f. -/
def winA (f w o : Nat) : Nat := tfnB + 0x100000 + 0x1000 * f + 0x40 * w + o

/-- A TLP decoded against a slot of a window is incomplete. -/
def State.winBusy (s : State) (f w sl : Nat) : Bool :=
  [0, 1, 2, 3].any (fun h => (s.hport h).wtlp.any (fun x => x.f = f && x.w = w && x.slot = sl))

/-- OLD_BUSY clears once no TLP decoded against the old slot remains (R357); `x` is one that has just completed or been discarded. -/
def State.oldSettle (s : State) (x : WTlp) : State :=
  let c := winA x.f x.w 0x20
  if x.slot = 1 - s.fld c 0 0 && s.flag c 29 && !s.winBusy x.f x.w x.slot then s.setFld c 29 29 0 else s

/-- A host port down; of the owner host port, it releases the owner's semaphores. -/
def State.hpDown (s : State) (h : Nat) : State :=
  let s := if h = s.ownerHp then s.semFree 1 else s
  let s := (s.fnsOf h).foldl (fun s f => s.orphan f) s
  let l := (s.hport h).wtlp
  let s := s.setHport h (fun p => { p with fetch := [], quar := [], wtlp := [] })
  let s := l.foldl (fun s x => s.oldSettle x) s
  let a := hpA h 8
  ((s.setFld a 31 16 (min 0xFFFF (s.fld a 31 16 + 1))).setFld a 14 14 0).setFld a 12 4 0

/-- A host port leaves UP. -/
def State.hpLeave (s : State) (h : Nat) : State := (s.hpDown h).raise hifB Ev.hifLinkDown (Src.hostPort h)
/-- It enters RESET or TRAINING. -/
def State.hpTo (s : State) (h st : Nat) : State :=
  (s.setFld (hpA h 8) 2 0 st).setHport h (fun p => { p with trainAt := s.mono })

/-- HIF_HP_CTRL.DOWN: Hot Reset on a link that is UP (Table 17-2). -/
def State.hpTakeDown (s : State) (h : Nat) : State :=
  if s.hpState h = 2 then ((s.emit (.hotReset h)).hpLeave h).hpTo h 1 else s

/-- The functions of a port that are enumerated wake. -/
def State.hpWake (s : State) (h : Nat) : State := (s.fnsOf h).foldl (fun s f => s.fnWake f) s

/-- The TF range of a port overlaps that of another READY port. -/
def State.tfClash (s : State) (h : Nat) : Bool :=
  let lo := s.fld (hpA h 4) 7 0
  let hi := lo + s.fld (hpA h 4) 20 12
  [0, 1, 2, 3].any (fun g => g ≠ h && s.hpReady g &&
    (let lo' := s.fld (hpA g 4) 7 0
     let hi' := lo' + s.fld (hpA g 4) 20 12
     decide (lo < hi') && decide (lo' < hi)))

/-- HIF_HP_CTRL.READY: discarded where the port's TF range overlaps that of another READY port. -/
def State.hpSetReady (s : State) (h : Nat) : State :=
  if s.tfClash h then s.reject hifB (hpA h 0 - hifB) else (s.setFld (hpA h 0) 31 31 1).hpWake h

/-- Tags of a port for its link's tag width (R362). -/
def State.poolSize (s : State) (h : Nat) : State :=
  s.setFld (hpA h 0x14) 11 0 (if s.flag (hpA h 8) 14 then 2048 else if (s.fnGet (256 + h)).tag10 then 768 else 256)

/-! ### Bus Master Enable (R364) -/

/-- A function observes the bit cleared. -/
def State.bmeClear (s : State) (f : Nat) : State :=
  if s.bme f then (s.setFld (hifFn f) 31 31 0).setFn f (fun c => { c with bmeOffAt := s.mono }) else s

/-- What a function that sends again lets go: the held requests in order, the held data to its consumers. -/
def State.fnFlow (s : State) (f : Nat) : State :=
  if s.fnSends f && !s.fnLost f then
    let s := s.flushPosts f
    match s.fnHp f with
    | none => s
    | some h => s.handRx h
  else s

/-- A function observes the bit set. -/
def State.bmeSet (s : State) (f : Nat) : State :=
  if s.bme f then s else (((s.setFld (hifFn f) 31 31 1).setFld (hifFn f) 29 29 0).fnFlow f)

/-- The bit has stayed clear beyond the completion timeout: the held data is discarded. -/
def State.bmeExpire (s : State) (f : Nat) : State :=
  let out := fun (r : RdReq) => match r.st with
    | .out _ _ => true
    | _ => false
  let n := ([0, 1, 2, 3].map (fun h => ((s.hport h).fetch.filter (fun x => x.f = f && x.gen = s.fgen f)).map
    (fun x => (x.reqs.map (fun r => if out r then 0 else r.got.length)).sum))).flatten.sum
  if s.bme f || !s.running hifB || !s.past ((s.fnGet f).bmeOffAt + s.cto f) || n = 0 then s
  else
    let lose := fun (x : Fetch) => if x.f ≠ f || x.gen ≠ s.fgen f then x else { x with reqs := x.reqs.map (fun r =>
      if r.got.isEmpty then r else match r.st with
        | .done => { r with got := [], st := .lost }
        | .failed => { r with got := [] }
        | _ => r) }
    let s := match s.fnHp f with
      | none => s
      | some h => (s.setHport h (fun p => { p with fetch := p.fetch.map lose })).bump (hpA h 0x128) n
    (s.setFld (hifFn f) 29 29 1).raise hifB Ev.hifBmeExpired (Src.fn f)

/-! ### SR-IOV (R353, R366) -/

/-- VF Enable and NumVFs are written. -/
def State.vfWrite (s : State) (h : Nat) (on : Bool) (n : Nat) : State :=
  let m := s.fnGet (256 + h)
  let on := on && (m.ari || decide (n ≤ 7))
  let lost := fun (s' : State) f => s.vfOn h f && !s'.vfOn h f
  let t := s.setFn (256 + h) (fun c => { c with vfEnable := on, numVfs := n })
  let t := ((s.fnsOf h).drop 1).foldl (fun t f => if lost t f then t.flrOne f else t) t
  let t := t.hpWake h
  if m.vfEnable = on && m.numVfs = n then t else t.raise hifB Ev.hifVfChange (Src.hostPort h)

/-! ### Windows (R355–R358) -/

/-- VF_BAR2_LOG2 of the port whose range holds a tenant function, and the size of a window. -/
def State.winLog (s : State) (f : Nat) : Nat :=
  match [0, 1, 2, 3].find? (fun h => s.hpHolds h f) with
  | none => 0
  | some h => s.fld (hpA h 4) 29 24
def State.winSize (s : State) (f : Nat) : Nat := 2 ^ (s.winLog f - 4)
/-- TARGET of a slot. -/
def State.winTarget (s : State) (f w sl : Nat) : Nat :=
  s.rd (winA f w (0x10 * sl + 4)) + s.rd (winA f w (0x10 * sl + 8)) * 2 ^ 32

/-- A slot word is written: to the inactive slot, with no flip pending and TARGET on a 4 KiB boundary (R356). -/
def State.slotWrite (s : State) (f w sl n v : Nat) : State :=
  let c := winA f w 0x20
  if s.fld c 0 0 = sl || s.flag c 30 || (n = 1 && v % 4096 ≠ 0) then s.reject tfnB (winA f w (0x10 * sl + 4 * n) - tfnB)
  else match n with
    | 0 => s.wr (winA f w (0x10 * sl)) (putBits v 28 0 0)
    | 3 => s
    | _ => s.wr (winA f w (0x10 * sl + 4 * n)) v

/-- TFN_WIN_CTRL.COMMIT. -/
def State.winCommit (s : State) (f w : Nat) : State :=
  let c := winA f w 0x20
  let sl := 1 - s.fld c 0 0
  let ok := !s.flag (winA f w (0x10 * sl)) 31 ||
    (match s.regionAt (s.winTarget f w sl) (s.winSize f) with
     | none => false
     | some r => s.regType r = 1)
  if ok then s.setFld c 30 30 1 else s.reject tfnB (c - tfnB)

/-- A TLP refused by a window (Table 17-5). -/
def State.winRefuse (s : State) (h f w : Nat) (read : Bool) (st : Nat) : State :=
  let s := ((s.bump32 (winA f w 0x28) 1).bump (hpA h 0x120) 1).emit (.aer f (if st = 1 then 4 else 5))
  if read then s.emit (.cpl f st [] false) else s

/-- The completions of a read in address order, each of at most the port's Max Payload Size and ending on a 64-byte boundary but the last (R360).
`bad` is the completion whose first line MCI finds as `e`. -/
def State.winRead (s : State) (f mps : Nat) (e : Ecc) (bad : Nat) : Nat → Nat → Nat → Nat → State
  | 0, _, _, _ => s
  | n + 1, a, len, i =>
    if len = 0 then s
    else
      let k := min len (mps - a % 64)
      let r := s.memRead a k (if i = bad then e else .clean)
      (r.2.emit (.cpl f 0 r.1.1 r.1.2)).winRead f mps e bad n (a + k) (len - k) (i + 1)

/-- A TLP of the window decoder is carried out against its slot. -/
def State.winRun (s : State) (h : Nat) (x : WTlp) (e : Ecc) (bad : Nat) : State :=
  match x.write with
  | some bs =>
    if s.memAllowed .hif x.addr bs.length true then s.memWrite x.addr bs else (s.memRefuse .hif x.addr).winRefuse h x.f x.w false 2
  | none =>
    if s.memAllowed .hif x.addr x.len false then
      s.winRead x.f (128 * 2 ^ (s.fnGet (256 + h)).mps) e bad x.len x.addr x.len 0
    else (s.memRefuse .hif x.addr).winRefuse h x.f x.w true 2

/-- The first `n` TLPs in the window decoder of a port complete in order, as far as their channels serve. -/
def State.winDrain (s : State) (h : Nat) (e : Ecc) (bad : Nat) : Nat → State
  | 0 => s
  | n + 1 => match (s.hport h).wtlp with
    | [] => s
    | x :: r =>
      let len := match x.write with
        | some bs => bs.length
        | none => x.len
      if s.memAllowed .hif x.addr len x.write.isSome && !s.memServes x.addr len then s
      else (((s.setHport h (fun p => { p with wtlp := r })).winRun h x e bad).oldSettle x).winDrain h e bad n

/-- A poisoned TLP is received for a function (Table 17-8). -/
def State.poisoned (s : State) (h f : Nat) : State :=
  ((s.bump (hpA h 0x130) 1).emit (.aer f 0)).raise hifB Ev.hifPoison (Src.fn f)

/-! ### Freeze and thaw (R390, Table 18-2) -/

/-- FREEZE: descriptor fetches not started are withdrawn, everything in flight goes on. -/
def State.fnFreeze (s : State) (f : Nat) : Option State :=
  if s.fnState f ≠ 1 then none
  else
    let idle := fun (x : Fetch) => x.f = f && x.unstarted && (match x.what with
      | .txFrame _ _ _ => false
      | _ => true)
    let s := [0, 1, 2, 3].foldl (fun s h =>
      let w := (s.hport h).fetch.filter idle
      let s := s.setHport h (fun p => { p with fetch := p.fetch.filter (fun x => !idle x) })
      w.reverse.foldl (fun s x =>
        let back := fun (s : State) rx q i => match s.tq_ f rx q with
          | none => s
          | some t => s.setTq f rx q (some { t with fetched := i })
        match x.what with
        | .txDesc q i => back s false q i
        | .rxDesc q i => back s true q i
        | .txFrame _ _ _ => s) s) s
    let s := s.setTfn (fun t => { t with
      frozenAt := mput (fun _ => 0) t.frozenAt f s.mono, frozenOut := t.frozenOut.filter (· ≠ f) })
    some (s.fnTo f 2)

/-- THAW: stored doorbells act, fetching goes on, the timers of contexts stopped since the freeze run on. -/
def State.fnThaw (s : State) (f : Nat) : Option State :=
  if s.fnState f ≠ 2 then none
  else
    let d := s.mono - mget (fun _ => 0) s.tfn.frozenAt f
    let s := (s.setFld (tfnStat f) 31 31 0).fnTo f 1
    let s := s.setSvc (fun x => { x with ctx := x.ctx.map (fun e => if e.2.fn = f && e.2.state ≠ 0 then
      (e.1, { e.2 with sentAt := e.2.sentAt + d, heardAt := e.2.heardAt + d }) else e) })
    some ((s.queues f).foldl (fun s x => s.bellsAct f x.1 x.2) s)

end Sys2Proof.Machine
end

