-- ==== Sys2Proof/Machine/PwrOps.lean ====
section
/-! DEFINITION. Shared operations of power: device and unit states, wake sources, the calendar, sensors and sentinels
(20_power_clocks_lifetime.md R419–R427). -/
namespace Sys2Proof.Machine

/-- Update PWR's own state. -/
def State.setPw (s : State) (g : PwrSt → PwrSt) : State := { s with pw := g s.pw }
/-- PWR_STAT.BUSY: STANDBY is being entered. -/
def State.standbyEntry (s : State) : Bool := s.flag (pwrB + 0x44) 2

/-- State of a unit: 0 HOT, 1 WARM, 2 COLD. -/
def State.unitState (s : State) (u : Nat) : Nat := mget (fun _ => 0) s.pw.unit u
/-- A unit enters a state. -/
def State.setUnit (s : State) (u st : Nat) : State :=
  s.setPw (fun p => { p with unit := mput (fun _ => 0) p.unit u st, unitAt := mput (fun _ => 0) p.unitAt u s.mono, waking := mput (fun _ => none) p.waking u none })
/-- When a unit's wake began. -/
def State.wakingAt (s : State) (u : Nat) : Option Nat := mget (fun _ => none) s.pw.waking u
/-- The wake of a unit begins (R420). -/
def State.wakeUnit (s : State) (u : Nat) : State :=
  if s.unitHot u || (s.wakingAt u).isSome then s
  else s.setPw (fun p => { p with waking := mput (fun _ => none) p.waking u (some s.mono) })
/-- The clusters 0–11 and the pipeline pairs 12–15. -/
def units : List Nat := List.range 16

/-- There is work for a unit: frames in or before a pipeline; frames, threads that run or stall, and pending events of a cluster. -/
def State.unitWork (s : State) (u : Nat) : Bool :=
  if u < 12 then
    (List.range 16).any (fun q => !(s.vq (272 + u) q).isEmpty)
      || (thrsOf u).any (fun t =>
        let x := s.thr t
        x.state = 1 || x.state = 2 || x.state = 3 || (x.state = 5 && x.under = 3) || (x.state = 4 && (s.evPick t x.mask).isSome))
  else
    let p := s.pipe (u - 12)
    !(p.arr.isEmpty && p.recirc.isEmpty && p.host.isEmpty && p.clus.isEmpty && p.egress.isEmpty)

/-- An active calendar entry holds the unit HOT (R423). -/
def State.calHolds (s : State) (u : Nat) : Bool :=
  if u < 12 then s.flag (pwrB + 0x64) (16 + u) else s.flag (pwrB + 0x64) (u - 12)

/-- The idle time of the HOT units that `p` takes begins now (R419, R420). -/
def State.idleFrom (s : State) (p : Nat → Bool) : State :=
  (units.filter (fun u => s.unitHot u && p u)).foldl
    (fun s u => s.setPw (fun x => { x with unitAt := mput (fun _ => 0) x.unitAt u s.mono })) s
/-- Time has passed over the units with work, where units are gated. -/
def State.unitsBusy (s : State) : State := if s.devState = 1 || s.devState = 2 then s.idleFrom s.unitWork else s

/-- The device enters a state other than STANDBY: SR_IDLE_US and the lanes of Table 20-2, and in HOT every unit wakes. -/
def State.pwrGo (s : State) (t : Nat) : State :=
  let s := s.setFld (pwrB + 0x44) 2 2 0
  let s := if s.devState = t then s else ((s.idleFrom (fun _ => true)).setFld (pwrB + 0x44) 1 0 t).raise pwrB Ev.pwrState Src.device
  let s := s.setFld (memB + 0x48) 11 0 (if t = 0 then 0 else if t = 1 then s.fld (pwrB + 0x4C) 27 16 else s.fld (pwrB + 0x4C) 11 0)
  let s := s.lanePower
  if t = 0 then units.foldl (fun s u => s.wakeUnit u) s else s

/-- A wake source arrives in STANDBY or while it is being entered: it is latched (R421). -/
def State.wakeSource (s : State) (i : Nat) (h : Nat) : State :=
  if s.devState = 3 || s.standbyEntry then
    let s := (s.setFld (pwrB + 0x50) i i 1).setPw (fun p => { p with wake := true })
    if i = 2 then s.setFld (pwrB + 0x50) 5 4 h else s
  else s

/-- STANDBY is left for WARM, then for the state that TARGET names (R421). -/
def State.leaveStandby (s : State) : State :=
  let t := s.fld (pwrB + 0x40) 1 0
  let s := ((s.setPw (fun p => { p with wake := false })).pwrGo 1).raise pwrB Ev.pwrWake Src.device
  if t = 0 || t = 2 then s.pwrGo t else s

/-- A block instance reads QUIESCED. -/
def State.isQuiesced (s : State) (base : Nat) : Bool := s.blkState base = 2

/-- The blocks that STANDBY needs QUIESCED (R421). -/
def standbyBlocks : List Nat :=
  (List.range 4).flatMap (fun n => [macB n, prsB n, matB n]) ++ [seqB, prfB, schB, tailB, strB, cipB] ++ (List.range 12).map engB

/-- A write of PWR_CTRL.TARGET (R421). -/
def State.targetWrite (s : State) (q : Req) (t : Nat) : State :=
  if t = 3 then
    if standbyBlocks.all s.isQuiesced && [0, 1, 2, 3].all (fun h => s.fld (hifB + 0x1008 + 0x1000 * h) 2 0 ≠ 2) then
      let s := s.setFld (pwrB + 0x40) 1 0 3
      if s.devState = 3 then s else s.setFld (pwrB + 0x44) 2 2 1
    else s.reject pwrB 0x40
  else
    let s := s.setFld (pwrB + 0x40) 1 0 t
    if s.devState = 3 || s.standbyEntry then (if q = .mgc then s.wakeSource 0 0 else s) else s.pwrGo t

/-! ### Calendar (R423, R424) -/

/-- The position in the week in milliseconds. -/
def State.weekMs (s : State) : Nat :=
  let off := if s.timBit (timB + 0x9C) 31 then s.timF (timB + 0x9C) 15 0 else 0
  (((secOf s.now : Int) - off + 259200).emod 604800).toNat * 1000 + nsOf s.now / 1000000

/-- Words of entry e. -/
def calA (e : Nat) : Nat := pwrB + 0x1000 + 8 * e

/-- Entry e is active at week position w. -/
def State.calActive (s : State) (e w : Nat) : Bool :=
  let lead := s.fld (pwrB + 0x60) 19 0
  let len := lead + 60000 * s.fld (calA e + 4) 15 0
  let from_ := s.fld (calA e) 19 0 * 1000 + 604800000 - lead % 604800000
  s.flag (calA e) 31 && decide ((w + 2 * 604800000 - from_) % 604800000 < len)

/-- The units that the active entries name. -/
def State.calUnits (s : State) (l : List Nat) : State :=
  let m := l.foldl (fun m e => m ||| s.fld (calA e + 4) 31 16) 0
  let s := (s.setFld (pwrB + 0x64) 27 16 (bits m 15 4)).setFld (pwrB + 0x64) 3 0 (bits m 3 0)
  if s.devState = 3 then s else units.foldl (fun s u => if s.calHolds u then s.wakeUnit u else s) s

/-- CAL_EVALUATE: once per whole millisecond of the time base. -/
def State.calEvaluate (s : State) : State :=
  let ms := s.now / uMs
  if !s.flag (pwrB + 0x60) 31 || !s.secondsValid then (s.setPw (fun p => { p with cal := [], calMs := none })).calUnits []
  else if s.pw.calMs = some ms then s
  else
    let l := (List.range 64).filter (fun e => s.calActive e s.weekMs)
    let fresh := l.filter (fun e => s.pw.calNew || !s.pw.cal.contains e)
    let s := s.setPw (fun p => { p with cal := l, calMs := some ms, calNew := false })
    let s := s.calUnits l
    fresh.foldl (fun s _ => (s.raise pwrB Ev.calSession Src.device).wakeSource 1 0) s

/-! ### Sensors and sentinels (R425, R426) -/

/-- Junction temperature of sensor n, in 0.125 °C. -/
def State.tj (s : State) (n : Nat) : Int := signed 12 (s.fld (pwrB + 0x180 + 4 * n) 11 0)
/-- The sensors. -/
def sensors : List Nat := List.range 8

/-- A sensor reads a temperature: TJ, PEAK, TJ_HIGH when the first sensor reaches it, and the hour over the limit (R429). Above 100 °C it keeps a
thermal trip for another second (R425). -/
def State.tempSet (s : State) (n : Nat) (v : Nat) : State :=
  let a := pwrB + 0x180 + 4 * n
  let s := s.setFld a 11 0 v
  let s := if signed 12 (s.fld a 27 16) < signed 12 v then s.setFld a 27 16 v else s
  let lim : Int := if Config.gradeX then 95 * 8 else 85 * 8
  let s := if lim < signed 12 v then s.setPw (fun p => { p with hotHour := true }) else s
  let s := if s.pw.hold.therm && decide (800 < signed 12 v) then s.setPw (fun p => { p with tripAt := s.mono }) else s
  let high := sensors.any (fun k => decide ((s.fld (pwrB + 0x1C0) 7 0 * 8 : Int) ≤ s.tj k))
  let s' := s.setPw (fun p => { p with tjHigh := high })
  if high && !s.pw.tjHigh then s'.raise pwrB Ev.tjHigh Src.device else s'

/-- Where the derating step of a sentinel's island lies; none for an island that is never derated. -/
def derateAt (i : Nat) : Option (Nat × Nat) :=
  if i = 1 then some (pwrB + 0x88, 10)
  else if 2 ≤ i ∧ i ≤ 5 then some (pwrB + 0x88, 2 * (i - 2))
  else if 6 ≤ i ∧ i ≤ 17 then some (pwrB + 0x8C, 2 * (i - 6))
  else if i = 18 then some (pwrB + 0x88, 8)
  else none

/-- One sentinel's measurement: DRIFT_PPM, WARN once, a derating step. -/
def State.sentinel (s : State) (i v : Nat) : State :=
  let a := pwrB + 0x100 + 4 * i
  let age := s.rd (pwrB + 0x80)
  let d := signed 24 v
  let s := s.setFld a 23 0 v
  let s := if ((bits age 15 8 * 1000 : Nat) : Int) ≤ d && !s.flag a 31 then (s.setFld a 31 31 1).raise pwrB Ev.ageWarn Src.device else s
  match derateAt i with
  | none => s
  | some (r, lo) =>
    let st := s.fld r (lo + 1) lo
    if bit age 31 && decide (st < 3) && decide ((((bits age 7 0 + 10 * st) * 1000 : Nat) : Int) ≤ d) then
      (s.setFld r (lo + 1) lo (st + 1)).raise pwrB Ev.pwrDerate Src.device
    else s

/-- A measurement of every sentinel, at most 25 drifts in the order of the table of R426. -/
def State.sentinels (s : State) (l : List Nat) : State :=
  ((l.take 25).zipIdx.foldl (fun s x => s.sentinel x.2 x.1) s).setPw (fun p => { p with sentAt := some s.mono })

end Sys2Proof.Machine
end

