-- ==== Sys2Proof/Machine/Hif.lean ====
section
/-! DEFINITION. Meanings of the host-port commands (17_host_interface.md). -/
namespace Sys2Proof.Machine

/-! ### Links (R350) -/

/-- PERST_ASSERT: a host port goes to RESET. -/
def State.perstOn (s : State) (h : Nat) : State :=
  if !s.hpUsed h then s
  else
    let s := if s.hpState h = 2 then s.hpLeave h else s
    (s.hpTo h 0).setFld (hpA h 8) 15 15 1
def execPerstAssert (h : Fin 4) (s : State) : Res := .next (s.perstOn h.val)

/-- PERST_DEASSERT: with its reference clock present, a port in RESET trains. -/
def State.perstOff (s : State) (h : Nat) : State :=
  if !s.hpUsed h then s
  else
    let s := (s.setFld (hpA h 8) 15 15 0).wakeSource 2 h
    if s.hpState h = 0 && (s.hport h).refclk then s.hpTo h 1 else s
def execPerstDeassert (h : Fin 4) (s : State) : Res := .next (s.perstOff h.val)

/-- PE_REFCLK_PRESENT: the reference clock comes; with PERST# deasserted the port trains. -/
def State.refclkOn (s : State) (h : Nat) : State :=
  if !s.hpUsed h then s
  else
    let s := s.setHport h (fun p => { p with refclk := true })
    if s.hpState h = 0 && !s.flag (hpA h 8) 15 then s.hpTo h 1 else s
def execPeRefclkPresent (h : Fin 4) (s : State) : Res := .next (s.refclkOn h.val)

/-- A function observes Bus Master Enable set; units that the Tail holds for the drain go on (R96). -/
def State.bmeOn (s : State) (f : Nat) : State := if s.bme f then s else (s.bmeSet f).tailSettle

/-- DL_UP: a training port enters UP at a rate (0 2.5 to 5 64 GT/s), a width (2^w lanes, none wider than the port: Table 17-3) and in
Flit mode or not. -/
def State.dlUp (s : State) (h rate w : Nat) (flit : Bool) : State :=
  if s.hpState h ≠ 1 then s
  else
    let a := hpA h 8
    let s := ((s.hpTo h 2).setFld a 7 4 (rate + 1)).setFld a 12 8 (min s.hpLanes (2 ^ w))
    let s := (s.setFld a 14 14 (b2n (flit || rate = 5))).poolSize h
    ((s.raise hifB Ev.hifLinkUp (Src.hostPort h)).hpWake h).tailSettle
def execDlUp (h : Fin 4) (rate : Fin 6) (w : Fin 5) (flit : Bool) (s : State) : Res := .next (s.dlUp h.val rate.val w.val flit)

/-- HIF_TRAIN_TIMEOUT: training restarts after 100 ms without DL_Up. -/
def State.trainAgain (s : State) (h : Nat) : State :=
  if s.hpState h = 1 && s.past ((s.hport h).trainAt + 100 * uMs) then s.hpTo h 1 else s
def execHifTrainTimeout (h : Fin 4) (s : State) : Res := .next (s.trainAgain h.val)

/-- HIF_LINK_LOSS: DL_Down, Hot Reset or Link Disable on a link that is UP. -/
def State.linkLoss (s : State) (h : Nat) : State := if s.hpState h = 2 then (s.hpLeave h).hpTo h 1 else s
def execHifLinkLoss (h : Fin 4) (s : State) : Res := .next (s.linkLoss h.val)

/-- HP_READY: HIF_HP_CTRL.READY is written (R351). -/
def execHpReady (h : Fin 4) (s : State) : Res := .next (s.hpSetReady h.val)

/-- HP_DOWN: HIF_HP_CTRL.DOWN is written. -/
def execHpDown (h : Fin 4) (s : State) : Res := .next (s.hpTakeDown h.val)

/-! ### Configuration (R351, R353, R354) -/

/-- The port that a function's configuration requests come in on: the one that is UP and whose range holds it. -/
def State.cfgPort (s : State) (f : Nat) : Option Nat :=
  [0, 1, 2, 3].find? (fun h => s.hpState h = 2 && (if 256 ≤ f then f = 256 + h else s.hpHolds h f))

/-- log2 of the size of BAR pair n of a management function, and of VF BAR pair n; 0 where it is not implemented (Table 17-4). -/
def State.mfBarLog (s : State) (h n : Nat) : Nat :=
  if n = 0 then (if s.ownerHp = h then 26 else 16) else if n = 1 && s.ownerHp = h then 16 else 0
def State.vfBarLog (s : State) (h n : Nat) : Nat := if n = 0 then 16 else if n = 1 then s.fld (hpA h 4) 29 24 else 0

/-- Word n of the BARs of a pair sized 2^log, holding `v` as written: the low address bits read 0, the type bits as they are. -/
def barWord (log n : Nat) (prefetch : Bool) (v : Nat) : Nat :=
  if log = 0 then 0
  else
    let m := v / 2 ^ log * 2 ^ log
    if n % 2 = 0 then bits m 31 0 + 4 + 8 * b2n prefetch else bits m 63 32

/-- A BAR word is written. -/
def barPut (n : Nat) (old : DWord) (v : Nat) : DWord :=
  if n % 2 = 0 then BitVec.ofNat 64 (putBits old.toNat 31 0 v) else BitVec.ofNat 64 (putBits old.toNat 63 32 v)

/-- A configuration request that is answered normally: the word it reads, and the state. -/
def State.cfgDo (s : State) (h f : Nat) : CfgOp → Nat × State
  | .ids => ((if 256 ≤ f then 0x6160 else 0x6161) * 2 ^ 16 + Config.vendorId.toNat, s)
  | .class_ => (0x020000 * 2 ^ 8 + Config.revisionId.toNat, s)
  | .subsystem => (s.rd (hifB + 0x44), s)
  | .msixSize => ((if s.msixCount f = 0 then 0 else s.msixCount f - 1), s)
  | .vfTotals => ((if 256 ≤ f then s.fld (hpA h 4) 20 12 * 2 ^ 16 + s.fld (hpA h 4) 20 12 else 0), s)
  | .vfOffsets => ((if 256 ≤ f then 0x00010001 else 0), s)
  | .vfDevice => ((if 256 ≤ f then 0x6161 * 2 ^ 16 else 0), s)
  | .vfControl => ((if 256 ≤ f then (s.fnGet f).numVfs * 2 ^ 16 + 16 * b2n (s.fnGet f).ari + b2n (s.fnGet f).vfEnable else 0), s)
  | .bar n => ((if 256 ≤ f then barWord (s.mfBarLog h (n.val / 2)) n.val false (mget (fun _ => 0) (s.fnGet f).bars (n.val / 2)).toNat else 0), s)
  | .vfBar n =>
    ((if 256 ≤ f then barWord (s.vfBarLog h (n.val / 2)) n.val (n.val / 2 = 1) (mget (fun _ => 0) (s.fnGet f).vfBars (n.val / 2)).toNat else 0), s)
  | .setBme on => (0, if on then s.bmeOn f else s.bmeClear f)
  | .setMsix e m => (0, s.setFn f (fun c => { c with msixEnable := e && s.msixCount f ≠ 0, funcMask := m && s.msixCount f ≠ 0 }))
  | .setDevice p r o => (0, s.setFn f (fun c => { c with mps := min 2 p.toNat, mrrs := min 5 r.toNat, roEnable := o }))
  | .setDevice2 v t => (0, ((s.setFld (hifFn f) 27 24 v.toNat).setFn f (fun c => { c with tag10 := t })).poolSize h)
  | .setPtm on => (0, if 256 ≤ f then s.setFn f (fun c => { c with ptmEnable := on }) else s)
  | .setVf on ari n =>
    (0, if 256 ≤ f then (s.setFn f (fun c => { c with ari := ari })).vfWrite h on n.toNat else s)
  | .setBar n v => (0, if 256 ≤ f then
      s.setFn f (fun c => { c with bars := mput (fun _ => 0) c.bars (n.val / 2) (barPut n.val (mget (fun _ => 0) c.bars (n.val / 2)) v.toNat) }) else s)
  | .setVfBar n v => (0, if 256 ≤ f then
      s.setFn f (fun c => { c with vfBars := mput (fun _ => 0) c.vfBars (n.val / 2) (barPut n.val (mget (fun _ => 0) c.vfBars (n.val / 2)) v.toNat) }) else s)
  | .flr => (0, s.flr f)

/-- CONFIG_REQUEST: RRS until the port is READY and while the function is reset (R351, R365); no virtual function that is not enabled. -/
def State.cfgReq (s : State) (f : Nat) (op : CfgOp) : State :=
  match s.cfgPort f with
  | none => s
  | some h =>
    if !s.hpReady h || s.fnState f = 4 then s.emit (.cpl f 3 [] false)
    else if f < 256 && !s.vfOn h f then s.emit (.cpl f 1 [] false)
    else
      let r := s.cfgDo h f op
      r.2.emit (.cpl f 0 (bytesLE 4 r.1) false)
def execConfigRequest (f : Fin 260) (op : CfgOp) (s : State) : Res := .next (s.cfgReq f.val op)

/-! ### Windows (R356–R358) -/

/-- WINDOW_TLP: a TLP to VF BAR2 of a tenant function, at an offset: a write of bytes, poisoned or not, or a read of a length. With `done`
the decoder's TLPs complete now; else this one is left incomplete. -/
def State.windowTlp (s : State) (f off : Nat) (wr : Option (List Byte)) (len : Nat) (ep : Bool) (e : Ecc) (bad : Nat) (done : Bool) : State :=
  match s.cfgPort f with
  | none => s
  | some h =>
    let read := wr.isNone
    let ur := (s.emit (.aer f 4))
    if !s.hpReady h || !s.vfOn h f || s.winLog f = 0 || decide (2 ^ s.winLog f ≤ off) then
      if read then ur.emit (.cpl f 1 [] false) else ur
    else if ep && !read then s.poisoned h f
    else
      let w := off / s.winSize f
      let sl := s.fld (winA f w 0x20) 0 0
      let a := winA f w (0x10 * sl)
      if !s.flag a 31 || !s.flag a (if read then 29 else 30) then s.winRefuse h f w read 1
      else
        let x : WTlp := ⟨f, w, sl, s.winTarget f w sl + off % s.winSize f, wr, len⟩
        let s := s.setHport h (fun p => { p with wtlp := p.wtlp ++ [x] })
        if done then s.winDrain h e bad (s.hport h).wtlp.length else s
def execWindowTlp (f : Fin 256) (off : BitVec 36) (wr : Option (List Byte)) (len : Fin 4097) (ep : Bool) (e : Ecc) (bad : Nat) (done : Bool)
    (s : State) : Res := .next (s.windowTlp f.val off.toNat wr len.val ep e bad done)

/-- WIN_COMMIT: TFN_WIN_CTRL.COMMIT is written. -/
def execWinCommit (f : Fin 256) (w : Fin 16) (s : State) : Res := .next (s.winCommit f.val w.val)

/-- WIN_FLIP: the first cycle with no header in the decoder after a COMMIT. -/
def State.winFlip (s : State) (f w : Nat) : State :=
  let c := winA f w 0x20
  if s.flag c 30 then
    let o := s.fld c 0 0
    ((s.setFld c 30 30 0).setFld c 0 0 (1 - o)).setFld c 29 29 (b2n (s.winBusy f w o))
  else s
def execWinFlip (f : Fin 256) (w : Fin 16) (s : State) : Res := .next (s.winFlip f.val w.val)

/-- OLD_BUSY_CLEAR: the last TLP decoded against the old slot completes, with every one before it. -/
def State.oldBusy (s : State) (f w : Nat) (e : Ecc) (bad : Nat) : State :=
  let c := winA f w 0x20
  if !s.flag c 29 then s
  else
    let o := 1 - s.fld c 0 0
    let s := [0, 1, 2, 3].foldl (fun s h =>
      let l := (s.hport h).wtlp
      let last := (l.reverse.dropWhile (fun x => !(x.f = f && x.w = w && x.slot = o))).length
      s.winDrain h e bad last) s
    if s.winBusy f w o then s else s.setFld c 29 29 0
def execOldBusyClear (f : Fin 256) (w : Fin 16) (e : Ecc) (bad : Nat) (s : State) : Res := .next (s.oldBusy f.val w.val e bad)

/-! ### DMA reads (R361–R363) -/

/-- A TX descriptor of a queue bound to a pipeline where injected frames wait for a slot is not fetched (R17). -/
def State.slotWaits (s : State) (x : Fetch) : Bool :=
  match x.what with
  | .txDesc q _ => match s.tq_ x.f false q with
    | none => false
    | some t => t.typ = 0 && !(s.pipe t.pipe).host.isEmpty
  | _ => false
/-- A request that may be issued: its function sends, no injected frame waits ahead of it, and what was lost goes first. -/
def State.mayIssue (s : State) (x : Fetch) (r : RdReq) : Bool :=
  s.fnSends x.f && !s.slotWaits x && match r.st with
  | .wait => !s.fnLost x.f
  | .lost => true
  | _ => false

/-- The first request of a fetch that may be issued goes out under a tag. -/
def issueReq (p : RdReq → Bool) (tag dl : Nat) : List RdReq → List RdReq
  | [] => []
  | r :: l => if p r then { r with st := .out tag dl } :: l else r :: issueReq p tag dl l

/-- DMA_READ_REQUEST: the oldest request that may be issued takes a free tag (R362). -/
def State.dmaRequest (s : State) (h tag : Nat) : State :=
  let p := s.hport h
  let free := !p.tags.contains tag && !p.quar.any (fun q => q.1 = tag) && decide (tag < s.fld (hpA h 0x14) 11 0)
  match p.fetch.find? (fun x => x.reqs.any (s.mayIssue x)) with
  | none => s
  | some x => match x.reqs.find? (s.mayIssue x) with
    | none => s
    | some r =>
      if !free || s.hpState h ≠ 2 then s
      else
        let lost := decide (r.st = .lost)
        let y := { x with reqs := issueReq (s.mayIssue x) tag (s.mono + s.cto x.f) x.reqs }
        let ro := (s.fnGet x.f).roEnable
        let s := s.setHport h (fun p => { p with fetch := p.fetch.map (fun z => if z = x then y else z) })
        let s := (s.setFld (hpA h 0x10) 27 16 (max (s.fld (hpA h 0x10) 27 16) (s.hport h).tags.length)).emit (.dmaRead x.f tag r.addr r.len ro)
        if lost then (s.bump (hpA h 0x138) 1).fnFlow x.f else s
def execDmaReadRequest (h : Fin 4) (tag : Fin 2048) (s : State) : Res := .next (s.dmaRequest h.val tag.val)

/-- The request of a fetch under a tag is changed. -/
def atTag (tag : Nat) (g : RdReq → RdReq) (x : Fetch) : Fetch :=
  { x with reqs := x.reqs.map (fun r => match r.st with
    | .out t _ => if t = tag then g r else r
    | _ => r) }
/-- The request under a tag. -/
def Fetch.tagged (x : Fetch) (tag : Nat) : Option RdReq :=
  x.reqs.find? (fun r => match r.st with
    | .out t _ => t = tag
    | _ => false)

/-- A fetch of a port is replaced after a completion or a timeout: a failure counts once; a stale fetch with nothing outstanding goes;
its end is stamped; data that may go to its consumer goes. -/
def State.fetchEnd (s : State) (h : Nat) (x y : Fetch) : State :=
  let stale := decide (y.gen ≠ s.fgen y.f)
  let y := if y.over then { y with doneTs := s.now } else y
  let s := if !stale && y.failed && !x.failed then s.bump (hpA h 0x118) 1 else s
  let s := s.setHport h (fun p => { p with
    fetch := (p.fetch.map (fun z => if z = x then y else z)).filter (fun z => !(z = y && stale && y.over)) })
  s.handRx h

/-- CPL_ARRIVE: a completion with a tag, a status (0 SC, 1 UR, 2 CRS, 3 CA), poisoned or not, with Lower Address, Byte Count and data;
`bad` tells that it is malformed or fails its ECRC. -/
def State.cplArrive (s : State) (h tag st : Nat) (ep : Bool) (lower bc : Nat) (data : List Byte) (bad : Bool) : State :=
  if s.hpState h ≠ 2 then s
  else match (s.hport h).fetch.find? (fun x => (x.tagged tag).isSome) with
  | none => ((s.bump (hpA h 0x108) 1).emit (.aer (256 + h) 2)).raise hifB Ev.hifUnexpCpl (Src.hostPort h)
  | some x => match x.tagged tag with
    | none => s
    | some r =>
      let left := r.len - r.got.length
      if x.gen ≠ s.fgen x.f then
        let s := s.bump (hpA h 0x100) 1
        if st ≠ 0 || bc ≤ data.length then s.fetchEnd h x (atTag tag (fun r => { r with st := .failed }) x) else s
      else if bad || (st = 0 && (lower ≠ (r.addr + r.got.length) % 128 || bc ≠ left || left < data.length)) then s.emit (.aer x.f 3)
      else
        let s := if ep then s.poisoned h x.f else s
        if st ≠ 0 then s.fetchEnd h x (atTag tag (fun r => { r with st := .failed }) x)
        else
          let y := atTag tag (fun r =>
            let b := r.bad || ep
            { r with got := r.got ++ data, bad := b, st := if data.length < left then r.st else if b then .failed else .done }) x
          s.fetchEnd h x y
def execCplArrive (h : Fin 4) (tag : Fin 2048) (st : Fin 4) (ep : Bool) (lower : BitVec 7) (bc : Fin 4097) (data : List Byte) (bad : Bool)
    (s : State) : Res := .next (s.cplArrive h.val tag.val st.val ep lower.toNat bc.val data bad)

/-- CPL_TIMEOUT: a request is not complete within its completion timeout (R363). -/
def State.cplTimeout (s : State) (h tag : Nat) : State :=
  match (s.hport h).fetch.find? (fun x => (x.tagged tag).isSome) with
  | none => s
  | some x =>
    let due := match x.tagged tag with
      | some { st := .out _ dl, .. } => s.past dl
      | _ => false
    if !due then s
    else
      let s := s.fetchEnd h x (atTag tag (fun r => { r with st := .failed }) x)
      let s := s.setHport h (fun p => { p with quar := p.quar ++ [(tag, s.mono + uMs)] })
      ((s.bump (hpA h 0x110) 1).emit (.aer x.f 1)).raise hifB Ev.hifCplTimeout (Src.fn x.f)
def execCplTimeout (h : Fin 4) (tag : Fin 2048) (s : State) : Res := .next (s.cplTimeout h.val tag.val)

/-- TAG_QUARANTINE_END: the hold of a tag ends (R362). -/
def State.quarEnd (s : State) (h tag : Nat) : State :=
  s.setHport h (fun p => { p with quar := p.quar.filter (fun q => !(q.1 = tag && s.past q.2)) })
def execTagQuarantineEnd (h : Fin 4) (tag : Fin 2048) (s : State) : Res := .next (s.quarEnd h.val tag.val)

/-! ### Bus Master Enable, resets, vectors -/

/-- BME_CLEAR, BME_SET, BME_EXPIRE (R364). -/
def execBmeClear (f : Fin 260) (s : State) : Res := .next (s.bmeClear f.val)
def execBmeSet (f : Fin 260) (s : State) : Res := .next (s.bmeOn f.val)
def execBmeExpire (f : Fin 260) (s : State) : Res := .next (s.bmeExpire f.val)

/-- FLR: Initiate Function Level Reset is written (R365, R366). -/
def execFlr (f : Fin 260) (s : State) : Res := .next (s.flr f.val)

/-- FLR_DONE: 0.2 ms after it began at the least, and not while an item carries the FGEN the function would hold (R378, R373). -/
def State.flrDone (s : State) (f : Nat) : State :=
  if s.fnState f = 4 && (s.fnGet f).flr && s.past ((s.fnGet f).resetAt + 200 * uUs) && s.fnClear f (s.fgen f) true then s.leaveReset f else s
def execFlrDone (f : Fin 260) (s : State) : Res := .next (s.flrDone f.val)

/-- VF_ENABLE_CHANGE: VF Enable and NumVFs of a management function are written (R353, R366). -/
def State.vfChange (s : State) (h : Nat) (on : Bool) (n : Nat) : State :=
  if s.hpReady h && s.hpState h = 2 && s.fnState (256 + h) ≠ 4 then s.vfWrite h on n else s
def execVfEnableChange (h : Fin 4) (on : Bool) (n : BitVec 16) (s : State) : Res := .next (s.vfChange h.val on n.toNat)

/-- MSIX_SEND: a pending vector sends its message once nothing holds it (R369). -/
def State.msixPend (s : State) (f v : Nat) : State :=
  if s.pba f v && s.msixMay f v then (s.setPba f v false).msixBuild f v else s
def execMsixSend (f : Fin 260) (v : Fin 1024) (s : State) : Res := .next (s.msixPend f.val v.val)

end Sys2Proof.Machine
end

