-- ==== Sys2Proof/Machine/Iluken.lean ====
section
/-! DEFINITION. The Iluken instructions (12_iluken_instruction_set.md R255–R274): engine e of cluster c issues one. -/
namespace Sys2Proof.Machine

/-- A word that names no operation faults with ILLEGAL (R256). -/
def execIllegalInstruction (c : Fin 12) (e : Fin 16) (s : State) : Res :=
  .next (s.issue c e none (fun t w s => s.thrFault t 1 0 (wOp w)))

/-! ### Ordinary instructions (R257) -/

def execIAdd (c : Fin 12) (e : Fin 16) (s : State) : Res :=
  .next (s.issue c e (some .add) (State.alu (fun a b => a + b)))
def execISub (c : Fin 12) (e : Fin 16) (s : State) : Res :=
  .next (s.issue c e (some .sub) (State.alu (fun a b => a - b)))
def execIAnd (c : Fin 12) (e : Fin 16) (s : State) : Res :=
  .next (s.issue c e (some .and_) (State.alu (fun a b => a &&& b)))
def execIOr (c : Fin 12) (e : Fin 16) (s : State) : Res :=
  .next (s.issue c e (some .or_) (State.alu (fun a b => a ||| b)))
def execIXor (c : Fin 12) (e : Fin 16) (s : State) : Res :=
  .next (s.issue c e (some .xor_) (State.alu (fun a b => a ^^^ b)))
def execIAndn (c : Fin 12) (e : Fin 16) (s : State) : Res :=
  .next (s.issue c e (some .andn) (State.alu (fun a b => a &&& ~~~ b)))
def execISll (c : Fin 12) (e : Fin 16) (s : State) : Res :=
  .next (s.issue c e (some .sll) (State.alu (fun a b => a <<< (b.toNat % 64))))
def execISrl (c : Fin 12) (e : Fin 16) (s : State) : Res :=
  .next (s.issue c e (some .srl) (State.alu (fun a b => a >>> (b.toNat % 64))))
def execISra (c : Fin 12) (e : Fin 16) (s : State) : Res :=
  .next (s.issue c e (some .sra) (State.alu (fun a b => a.sshiftRight (b.toNat % 64))))
def execIRor (c : Fin 12) (e : Fin 16) (s : State) : Res :=
  .next (s.issue c e (some .ror) (State.alu (fun a b => a.rotateRight (b.toNat % 64))))
def execISlt (c : Fin 12) (e : Fin 16) (s : State) : Res :=
  .next (s.issue c e (some .slt) (State.alu (fun a b => boolW (a.slt b))))
def execISltu (c : Fin 12) (e : Fin 16) (s : State) : Res :=
  .next (s.issue c e (some .sltu) (State.alu (fun a b => boolW (a.ult b))))
def execIMin (c : Fin 12) (e : Fin 16) (s : State) : Res :=
  .next (s.issue c e (some .min_) (State.alu (fun a b => if b.slt a then b else a)))
def execIMax (c : Fin 12) (e : Fin 16) (s : State) : Res :=
  .next (s.issue c e (some .max_) (State.alu (fun a b => if a.slt b then b else a)))
def execIMinu (c : Fin 12) (e : Fin 16) (s : State) : Res :=
  .next (s.issue c e (some .minu) (State.alu (fun a b => if b.ult a then b else a)))
def execIMaxu (c : Fin 12) (e : Fin 16) (s : State) : Res :=
  .next (s.issue c e (some .maxu) (State.alu (fun a b => if a.ult b then b else a)))
def execIMul (c : Fin 12) (e : Fin 16) (s : State) : Res :=
  .next (s.issue c e (some .mul) (State.alu (fun a b => a * b)))
def execIMulh (c : Fin 12) (e : Fin 16) (s : State) : Res :=
  .next (s.issue c e (some .mulh) (State.alu (fun a b => mulhS a b)))
def execIMulhu (c : Fin 12) (e : Fin 16) (s : State) : Res :=
  .next (s.issue c e (some .mulhu) (State.alu (fun a b => mulhU a b)))
def execIClz (c : Fin 12) (e : Fin 16) (s : State) : Res :=
  .next (s.issue c e (some .clz) (State.alu (fun a _ => clz64 a)))
def execICtz (c : Fin 12) (e : Fin 16) (s : State) : Res :=
  .next (s.issue c e (some .ctz) (State.alu (fun a _ => ctz64 a)))
def execIPopc (c : Fin 12) (e : Fin 16) (s : State) : Res :=
  .next (s.issue c e (some .popc) (State.alu (fun a _ => popc64 a)))
def execIBswap (c : Fin 12) (e : Fin 16) (s : State) : Res :=
  .next (s.issue c e (some .bswap) (State.alu (fun a _ => bswapN 8 a)))
def execIBswap32 (c : Fin 12) (e : Fin 16) (s : State) : Res :=
  .next (s.issue c e (some .bswap32) (State.alu (fun a _ => bswapN 4 a)))
def execIBswap16 (c : Fin 12) (e : Fin 16) (s : State) : Res :=
  .next (s.issue c e (some .bswap16) (State.alu (fun a _ => bswapN 2 a)))
def execIAddi (c : Fin 12) (e : Fin 16) (s : State) : Res :=
  .next (s.issue c e (some .addi) (State.alui (fun w a => a + sext16 w)))
def execIAndi (c : Fin 12) (e : Fin 16) (s : State) : Res :=
  .next (s.issue c e (some .andi) (State.alui (fun w a => a &&& zext16 w)))
def execIOri (c : Fin 12) (e : Fin 16) (s : State) : Res :=
  .next (s.issue c e (some .ori) (State.alui (fun w a => a ||| zext16 w)))
def execIXori (c : Fin 12) (e : Fin 16) (s : State) : Res :=
  .next (s.issue c e (some .xori) (State.alui (fun w a => a ^^^ zext16 w)))
def execISlti (c : Fin 12) (e : Fin 16) (s : State) : Res :=
  .next (s.issue c e (some .slti) (State.alui (fun w a => boolW (a.slt (sext16 w)))))
def execISltiu (c : Fin 12) (e : Fin 16) (s : State) : Res :=
  .next (s.issue c e (some .sltiu) (State.alui (fun w a => boolW (a.ult (sext16 w)))))
def execIShi (c : Fin 12) (e : Fin 16) (s : State) : Res :=
  .next (s.issue c e (some .shi) (State.alui (fun w a => shiftImm w a)))
def execIBfx (c : Fin 12) (e : Fin 16) (s : State) : Res :=
  .next (s.issue c e (some .bfx) (State.alui (fun w a => bfExtract w a)))
def execIInsh (c : Fin 12) (e : Fin 16) (s : State) : Res :=
  .next (s.issue c e (some .insh) (fun t w s => s.putRd t w (insHalf w (s.gr t (wRd w)))))
def execIBfi (c : Fin 12) (e : Fin 16) (s : State) : Res :=
  .next (s.issue c e (some .bfi) (fun t w s => s.putRd t w (bfInsert w (s.gr t (wRd w)) (s.gr t (wRs1 w)))))

/-! ### Loads and stores (R258) -/

def execILdb (c : Fin 12) (e : Fin 16) (s : State) : Res :=
  .next (s.issue c e (some .ldb) (State.load 1 false))
def execILdh (c : Fin 12) (e : Fin 16) (s : State) : Res :=
  .next (s.issue c e (some .ldh) (State.load 2 false))
def execILdw (c : Fin 12) (e : Fin 16) (s : State) : Res :=
  .next (s.issue c e (some .ldw) (State.load 4 false))
def execILdd (c : Fin 12) (e : Fin 16) (s : State) : Res :=
  .next (s.issue c e (some .ldd) (State.load 8 false))
def execILdbs (c : Fin 12) (e : Fin 16) (s : State) : Res :=
  .next (s.issue c e (some .ldbs) (State.load 1 true))
def execILdhs (c : Fin 12) (e : Fin 16) (s : State) : Res :=
  .next (s.issue c e (some .ldhs) (State.load 2 true))
def execILdws (c : Fin 12) (e : Fin 16) (s : State) : Res :=
  .next (s.issue c e (some .ldws) (State.load 4 true))
def execIStb (c : Fin 12) (e : Fin 16) (s : State) : Res :=
  .next (s.issue c e (some .stb) (State.store 1))
def execISth (c : Fin 12) (e : Fin 16) (s : State) : Res :=
  .next (s.issue c e (some .sth) (State.store 2))
def execIStw (c : Fin 12) (e : Fin 16) (s : State) : Res :=
  .next (s.issue c e (some .stw) (State.store 4))
def execIStd (c : Fin 12) (e : Fin 16) (s : State) : Res :=
  .next (s.issue c e (some .std) (State.store 8))

/-! ### Branches and jumps (R257, R258) -/

def execIBeq (c : Fin 12) (e : Fin 16) (s : State) : Res :=
  .next (s.issue c e (some .beq) (State.branch (fun a b => decide (a = b))))
def execIBne (c : Fin 12) (e : Fin 16) (s : State) : Res :=
  .next (s.issue c e (some .bne) (State.branch (fun a b => decide (a ≠ b))))
def execIBlt (c : Fin 12) (e : Fin 16) (s : State) : Res :=
  .next (s.issue c e (some .blt) (State.branch (fun a b => a.slt b)))
def execIBge (c : Fin 12) (e : Fin 16) (s : State) : Res :=
  .next (s.issue c e (some .bge) (State.branch (fun a b => !a.slt b)))
def execIBltu (c : Fin 12) (e : Fin 16) (s : State) : Res :=
  .next (s.issue c e (some .bltu) (State.branch (fun a b => a.ult b)))
def execIBgeu (c : Fin 12) (e : Fin 16) (s : State) : Res :=
  .next (s.issue c e (some .bgeu) (State.branch (fun a b => !a.ult b)))
def execIJal (c : Fin 12) (e : Fin 16) (s : State) : Res :=
  .next (s.issue c e (some .jal) State.jal)
def execIJalr (c : Fin 12) (e : Fin 16) (s : State) : Res :=
  .next (s.issue c e (some .jalr) State.jalr)

/-! ### Atomics (R259) -/

def execIAmoSwap (c : Fin 12) (e : Fin 16) (s : State) : Res :=
  .next (s.issue c e (some .swap) (State.amo .swap))
def execIAmoAdd (c : Fin 12) (e : Fin 16) (s : State) : Res :=
  .next (s.issue c e (some .aadd) (State.amo .aadd))
def execIAmoAnd (c : Fin 12) (e : Fin 16) (s : State) : Res :=
  .next (s.issue c e (some .aand) (State.amo .aand))
def execIAmoOr (c : Fin 12) (e : Fin 16) (s : State) : Res :=
  .next (s.issue c e (some .aor) (State.amo .aor))
def execIAmoCas (c : Fin 12) (e : Fin 16) (s : State) : Res :=
  .next (s.issue c e (some .cas) (State.amo .cas))
def execIAmoMax (c : Fin 12) (e : Fin 16) (s : State) : Res :=
  .next (s.issue c e (some .amax) (State.amo .amax))
def execIAmoMin (c : Fin 12) (e : Fin 16) (s : State) : Res :=
  .next (s.issue c e (some .amin) (State.amo .amin))

/-! ### Special instructions (R260–R269) -/

def execIMrd (c : Fin 12) (e : Fin 16) (s : State) : Res :=
  .next (s.issue c e (some .mrd) (fun t w s => s.issueSpecial t w .mrd))
def execIMwr (c : Fin 12) (e : Fin 16) (s : State) : Res :=
  .next (s.issue c e (some .mwr) (fun t w s => s.issueSpecial t w .mwr))
def execIDlk (c : Fin 12) (e : Fin 16) (s : State) : Res :=
  .next (s.issue c e (some .dlk) (fun t w s => s.issueSpecial t w .dlk))
def execIRcv (c : Fin 12) (e : Fin 16) (s : State) : Res :=
  .next (s.issue c e (some .rcv) (fun t w s => s.issueSpecial t w .rcv))
def execIPbr (c : Fin 12) (e : Fin 16) (s : State) : Res :=
  .next (s.issue c e (some .pbr) (fun t w s => s.issueSpecial t w .pbr))
def execIPbw (c : Fin 12) (e : Fin 16) (s : State) : Res :=
  .next (s.issue c e (some .pbw) (fun t w s => s.issueSpecial t w .pbw))
def execIFrmAlloc (c : Fin 12) (e : Fin 16) (s : State) : Res :=
  .next (s.issue c e (some .alloc) (fun t w s => s.issueSpecial t w .alloc))
def execIFrmFree (c : Fin 12) (e : Fin 16) (s : State) : Res :=
  .next (s.issue c e (some .free) (fun t w s => s.issueSpecial t w .free))
def execIFrmSetlen (c : Fin 12) (e : Fin 16) (s : State) : Res :=
  .next (s.issue c e (some .setlen) (fun t w s => s.issueSpecial t w .setlen))
def execIFrmCopy (c : Fin 12) (e : Fin 16) (s : State) : Res :=
  .next (s.issue c e (some .copy) (fun t w s => s.issueSpecial t w .copy))
def execIEmit (c : Fin 12) (e : Fin 16) (s : State) : Res :=
  .next (s.issue c e (some .emit) (fun t w s => s.issueSpecial t w .emit))
def execIChnRes (c : Fin 12) (e : Fin 16) (s : State) : Res :=
  .next (s.issue c e (some .res) (fun t w s => s.issueSpecial t w .res))
def execIChnWr (c : Fin 12) (e : Fin 16) (s : State) : Res :=
  .next (s.issue c e (some .wr) (fun t w s => s.issueSpecial t w .wr))
def execIChnCmt (c : Fin 12) (e : Fin 16) (s : State) : Res :=
  .next (s.issue c e (some .cmt) (fun t w s => s.issueSpecial t w .cmt))
def execIChnRd (c : Fin 12) (e : Fin 16) (s : State) : Res :=
  .next (s.issue c e (some .rd) (fun t w s => s.issueSpecial t w .rd))
def execIEvtWait (c : Fin 12) (e : Fin 16) (s : State) : Res :=
  .next (s.issue c e (some .wait) State.ilkWait)
def execIEvtSignal (c : Fin 12) (e : Fin 16) (s : State) : Res :=
  .next (s.issue c e (some .signal) (fun t w s => s.issueSpecial t w .signal))
def execIEvtPark (c : Fin 12) (e : Fin 16) (s : State) : Res :=
  .next (s.issue c e (some .park) State.ilkPark)
def execIEvtTmr (c : Fin 12) (e : Fin 16) (s : State) : Res :=
  .next (s.issue c e (some .tmr) (fun t w s => s.issueSpecial t w .tmr))
def execIEvtTmrx (c : Fin 12) (e : Fin 16) (s : State) : Res :=
  .next (s.issue c e (some .tmrx) (fun t w s => s.issueSpecial t w .tmrx))
def execICsub (c : Fin 12) (e : Fin 16) (s : State) : Res :=
  .next (s.issue c e (some .csub) (fun t w s => s.issueSpecial t w .csub))
def execICrb (c : Fin 12) (e : Fin 16) (s : State) : Res :=
  .next (s.issue c e (some .crb) (fun t w s => s.issueSpecial t w .crb))
def execITsr (c : Fin 12) (e : Fin 16) (s : State) : Res :=
  .next (s.issue c e (some .tsr) State.ilkTsr)
def execISysNop (c : Fin 12) (e : Fin 16) (s : State) : Res :=
  .next (s.issue c e (some .nop) (fun t w s => State.status .nop t w St.ok 0 s))
def execISysRdsts (c : Fin 12) (e : Fin 16) (s : State) : Res :=
  .next (s.issue c e (some .rdsts) State.ilkRdsts)
def execISysBkpt (c : Fin 12) (e : Fin 16) (s : State) : Res :=
  .next (s.issue c e (some .bkpt) State.ilkBkpt)
def execISysTrap (c : Fin 12) (e : Fin 16) (s : State) : Res :=
  .next (s.issue c e (some .trap) (fun t w s => s.thrFault t 7 0 (wOp w)))

end Sys2Proof.Machine
end

