-- ==== Sys2Proof/Machine/Mac.lean ====
section
/-! DEFINITION. The commands of the ports and quads (05_network_ports.md). -/
namespace Sys2Proof.Machine

/-! ### Link states (R112, Table 05-2) -/

/-- A write of MAC_PORT_CTRL with EN and RESTART. -/
def State.portCtrl (s : State) (p v : Nat) (cut : Bool) : State :=
  let s := s.setFld (macPort p) 0 0 (bits v 0 0)
  let s := if !bit v 0 then (if s.linkState p = 0 then s else s.goLink p 0 cut) else s.linkEval p
  if bit v 1 && decide (s.linkState p ≠ 0) then s.goLink p 1 cut else s

/-- PORT_EN_WRITE: a write of MAC_PORT_CTRL. `cut` tells that a frame is in reception. -/
def execPortEnWrite (p : Fin 16) (v : Word) (cut : Bool) (s : State) : Res := .next (s.portCtrl p.val v.toNat cut)

/-- PORT_RESTART: RESTART takes a port in any state but DISABLED to SIGNAL_WAIT. -/
def State.portRestart (s : State) (p : Nat) (cut : Bool) : State := if s.linkState p = 0 then s else s.goLink p 1 cut
def execPortRestart (p : Fin 16) (cut : Bool) (s : State) : Res := .next (s.portRestart p.val cut)

/-- PCS_LANE_STAT of logical lane l of quad q. -/
def laneStat (q l : Nat) : Nat := macB q + 0x8004 + 0x100 * l

/-- Signal is detected and CDR locked on all lanes; `eye` is the eye height the adaptation found. -/
def State.signalLock (s : State) (p eye : Nat) : State :=
  if s.linkState p = 1 then
    let s := (s.portLanes p).foldl (fun s l => s.wr (laneStat (p / 4) l) (eye * 65536 + 3)) s
    let c := (s.mac p).cfg
    let s := s.toLink p (if bit c 4 || bit c 5 then 2 else 3)
    if bit c 5 then s.emit (.advert p (s.fld (macB (p / 4) + 0x40) 3 0) (bits c 9 8)) else s
  else s
def execSignalLock (p : Fin 16) (eye : BitVec 16) (s : State) : Res := .next (s.signalLock p.val eye.toNat)

/-- Negotiation and training complete within 3 s of entering TRAINING (R114); with AN_EN only when the partner advertises the one
ability that the port does (R111). -/
def State.anLtDone (s : State) (p : Nat) (partner : List (BitVec 4 × BitVec 2)) : State :=
  let c := (s.mac p).cfg
  let mine := (BitVec.ofNat 4 (s.fld (macB (p / 4) + 0x40) 3 0), BitVec.ofNat 2 (bits c 9 8))
  if s.linkState p = 2 && decide (s.mono < (s.mac p).at_ + 3 * uS) && (!bit c 5 || partner.contains mine) then s.toLink p 3 else s
def execAnLtDone (n : Nego) (s : State) : Res := .next (s.anLtDone n.port.val n.partner)

/-- Training is not complete within 3 s. -/
def State.trainTimeout (s : State) (p : Nat) : State :=
  if s.linkState p = 2 && s.past ((s.mac p).at_ + 3 * uS) then
    (s.raise (macB (p / 4)) Ev.linkTrainFail (Src.port p)).toLink p 1
  else s
def execLinkTrainTimeout (p : Fin 16) (s : State) : Res := .next (s.trainTimeout p.val)

/-- UP_QUAL_US as the port read it on leaving DISABLED. -/
def State.upQual (s : State) (p : Nat) : Nat := bits (s.mac p).cfg 31 16 * uUs

/-- Alignment held for UP_QUAL_US. -/
def State.alignQualified (s : State) (p : Nat) : State :=
  if s.linkState p = 3 && s.past ((s.mac p).at_ + s.upQual p) then s.linkUpNow p else s
def execAlignQualified (p : Fin 16) (s : State) : Res := .next (s.alignQualified p.val)

/-- Not aligned within 100 ms. -/
def State.alignTimeout (s : State) (p : Nat) : State :=
  if s.linkState p = 3 && s.past ((s.mac p).at_ + 100 * uMs) then s.toLink p 1 else s
def execAlignTimeout (p : Fin 16) (s : State) : Res := .next (s.alignTimeout p.val)

/-- A local fault, or a remote fault received. In FAULT it restarts the time without a fault. -/
def State.faultDetect (s : State) (p : Nat) (remote cut : Bool) : State :=
  let i := if remote then 5 else 4
  if s.linkState p = 4 then
    ((s.goLink p 5 cut).setFld (macPort p + 8) i i 1).raise (macB (p / 4)) Ev.linkFault (Src.port p)
  else if s.linkState p = 5 then (s.setFld (macPort p + 8) i i 1).setMac p (fun m => { m with at_ := s.mono })
  else s
def execFaultDetect (p : Fin 16) (remote cut : Bool) (s : State) : Res := .next (s.faultDetect p.val remote cut)

/-- No fault for UP_QUAL_US. -/
def State.faultCleared (s : State) (p : Nat) : State :=
  if s.linkState p = 5 && s.past ((s.mac p).at_ + s.upQual p) then s.linkUpNow p else s
def execFaultCleared (p : Fin 16) (s : State) : Res := .next (s.faultCleared p.val)

/-- Loss of lock on physical lane m of the port's quad; `sig` tells that its signal is still detected. -/
def State.signalLoss (s : State) (p m : Nat) (sig cut : Bool) : State :=
  let l := s.rxLane (p / 4) m
  if (s.portLanes p).contains l then
    let s := s.setFld (laneStat (p / 4) l) 1 0 (b2n sig)
    if s.linkState p = 4 || s.linkState p = 5 then s.goLink p 1 cut else s
  else s
def execSignalLoss (p : Fin 16) (lane : Fin 4) (sig cut : Bool) (s : State) : Res :=
  .next (s.signalLoss p.val lane.val sig cut)

/-! ### Reception (R66, R117, R119, R126) -/

/-- The first check of Table 05-4 that a frame fails, as its counter; `bad` tells of invalid blocks or codewords. -/
def State.rxCheck (s : State) (p : Nat) (bs : List Byte) (bad : Bool) : Option Nat :=
  if bad then some 2
  else if bs.length < 64 then some 3
  else if s.frameLimit p bs < bs.length then some 4
  else if natLE (bs.drop (bs.length - 4)) ≠ (crc32 (bs.take (bs.length - 4))).toNat then some 5
  else if beAt bs 12 2 = 0x8808 && beAt bs 14 2 ≠ 1 && beAt bs 14 2 ≠ 0x0101 then some 6
  else none

/-- A frame that passed every check goes to its pipeline: a discard while PRS or MAT is not in RUN (R171). -/
def State.toPipe (s : State) (p : Nat) (f : Frame) : State :=
  let n := p / 4
  if s.running (prsB n) && s.running (matB n) then
    let b := s.birth f
    b.2.setPipe n (fun x => { x with arr := x.arr ++ [b.1] })
  else s.bump (matCnt n 8) 1

/-- A frame is received on port p: destination address to FCS, and the FEC codewords corrected, uncorrectable and the
invalid blocks within it. Its SFD is at the ball now. -/
def State.rxFrame (s : State) (p : Nat) (bs : List Byte) (corr unc inv : Nat) : State :=
  if !s.linkIsUp p then s
  else if s.blkState (macB (p / 4)) = 1 then s.stat p 12 1
  else
    let pcs := fun k => macPort p + 0x300 + 8 * k
    let s := ((s.bump (pcs 0) corr).bump (pcs 1) unc).bump (pcs 2) inv
    let c := s.rxCapture p
    let s := c.2.2
    match s.rxCheck p bs (decide (0 < unc + inv)) with
    | some k => s.stat p k 1
    | none =>
      let wire := bs.take (bs.length - 4)
      if beAt wire 12 2 = 0x8808 then (s.stat p 7 1).pauseFrame p wire
      else
        let r := s.secRx p wire
        let s := match r.1.stat with
          | none => r.2
          | some k => r.2.stat p k 1
        match r.1.deliver with
        | none => s
        | some (plain, unv) =>
          let s := (s.stat p 0 bs.length).stat p 1 1
          s.toPipe p { id := 0, bytes := plain, fcs := true, src := .port p, md := busOf p c.1 unv,
                       rx := some ⟨p, c.2.1, s.tq, bs.length, c.1, wire⟩ }
def execRxFrame (p : Fin 16) (bytes : List Byte) (corr unc inv : BitVec 16) (s : State) : Res :=
  .next (s.rxFrame p.val bytes corr.toNat unc.toNat inv.toNat)

/-! ### Pause (R122–R124) -/

/-- The pause timer of a key runs out: 0–7 a priority, 8 the port. -/
def State.pauseExpire (s : State) (p k : Nat) : State :=
  if (s.mac p).paused.any (fun e => e.1 = k && decide (e.2 ≤ s.mono)) then s.unpause p k else s
def execPauseExpire (p : Fin 16) (k : Fin 9) (s : State) : Res := .next (s.pauseExpire p.val k.val)

/-- The pause watchdog fires. -/
def State.pauseWdFire (s : State) (p k : Nat) : State :=
  let w := s.rd (macPort p + 0x18)
  let m := s.mac p
  let t := mget (fun _ => 0) m.pausedSince k + bits w 15 0 * uMs
  if decide (bits w 15 0 ≠ 0) && s.past t && m.paused.any (fun e => e.1 = k && decide (t ≤ e.2)) then
    let s := s.setMac p (fun m => { m with ignore := mins m.ignore k (s.mono + bits w 31 16 * uMs) })
    ((s.unpause p k).stat p 20 1).raise (macB (p / 4)) Ev.pauseWatchdog (Src.port p)
  else s
def execPauseWdFire (p : Fin 16) (k : Fin 9) (s : State) : Res := .next (s.pauseWdFire p.val k.val)

/-- IGNORE_MS ends. -/
def State.pauseIgnoreEnd (s : State) (p k : Nat) : State :=
  if (s.mac p).ignore.any (fun e => e.1 = k && decide (e.2 ≤ s.mono)) then
    (s.setMac p (fun m => { m with ignore := mdel m.ignore k })).fcStat p
  else s
def execPauseIgnoreEnd (p : Fin 16) (k : Fin 9) (s : State) : Res := .next (s.pauseIgnoreEnd p.val k.val)

/-- 32,768 quanta after the last XOFF of a key it is repeated, while the bytes stay above XON_KIB (R123). -/
def State.xoffRepeat (s : State) (p k : Nat) : State :=
  let t := mget (fun _ => 0) (s.mac p).xoff k
  if decide (t ≠ 0) && s.past (t - 1 + s.txTime p (32768 * 64)) && s.fcTx p k
      && decide (bits (s.rdA (macPort p + 0x14)) 15 0 * 1024 < s.fcBytes p k) then
    (s.setMac p (fun m => { m with xoff := mins m.xoff k (s.mono + 1) })).sendPause p k 0xFFFF
  else s
def execXoffRepeat (p : Fin 16) (k : Fin 9) (s : State) : Res := .next (s.xoffRepeat p.val k.val)

/-! ### Transmission (R115, R209) -/

/-- Whether a frame of n bytes that is not held may start now: it and its gap end before the start of every held frame
that is due (R209). -/
def State.clearOfHeld (s : State) (p n : Nat) : Bool :=
  (s.heldOf p).all (fun h => match h.r with
    | none => true
    | some r =>
      let i := s.relInstant p r
      decide (s.tb + h.lead < i) || decide (s.tb + s.wireTime p n ≤ s.startInstant p i))

/-- The first staged copy of an unpaused priority starts transmission (R115, R223). -/
def State.txStart (s : State) (p : Nat) : State :=
  let m := s.mac p
  match m.cur, m.staged.find? (fun c => !s.isPaused p c.queue) with
  | none, some c =>
    if s.linkIsUp p && s.past m.busyTo && s.clearOfHeld p (c.f.bytes.length + 4 + (if s.secWants p c.f then 32 else 0)) then
      (s.setMac p (fun m => { m with staged := m.staged.erase c })).startTx p c
    else s
  | _, _ => s
def execTxStart (p : Fin 16) (s : State) : Res := .next (s.txStart p.val)

/-- A transmission completes, its last byte and the gap sent. -/
def State.txEnd (s : State) (p : Nat) : State :=
  match (s.mac p).cur with
  | none => s
  | some t =>
    if s.past t.ends then
      let s := s.setMac p (fun m => { m with cur := none })
      let s := ((s.stat p 14 1).stat p 13 t.len).endCopy t.cp.f.id (!t.cp.deep) (.sent t.cap)
      (s.saBoundary p).pauseFlush p
    else s
def execTxEnd (p : Fin 16) (s : State) : Res := .next (s.txEnd p.val)

/-! ### SA and SC entries (R121) -/

/-- A write of MAC_SA_SEL: a command that names a transmit SC other than 0, or that finds BUSY, is discarded and counted. A write of a
transmit entry waits for the frame in transmission; receive has no frame in progress between commands. -/
def State.saSel (s : State) (p v : Nat) : State :=
  let cmd := bit v 29 || bit v 28
  if cmd && ((s.mac p).saPend.isSome || (bit v 7 && decide (bits v 6 4 ≠ 0))) then
    s.reject (macB (p / 4)) (macPort p + 0x50 - macB (p / 4))
  else if (s.mac p).saPend.isSome then s.setFld (macPort p + 0x50) 8 0 (Nat.land v 0x1F3)
  else
    let s := s.wr (macPort p + 0x50) (Nat.land v 0x1F3)
    if bit v 29 && bit v 7 && (s.mac p).cur.isSome then
      (s.setMac p (fun m => { m with saPend := some (v, BitVec.ofNat 192 (s.saWords p)) })).setFld (macPort p + 0x50) 31 31 1
    else
      let s := if bit v 29 then s.saStore p v (s.saWords p) else s
      if bit v 28 then s.saLoad p v else s

/-- SA_WRITE: MAC_SA_SEL written with WRITE = 1. -/
def execSaWrite (p : Fin 16) (v : Word) (s : State) : Res := .next (s.saSel p.val (putBits v.toNat 29 28 2))
/-- SA_READ: MAC_SA_SEL written with READ = 1. -/
def execSaRead (p : Fin 16) (v : Word) (s : State) : Res := .next (s.saSel p.val (putBits v.toNat 29 28 1))

/-! ### Modules (R127, R128) -/

/-- Update a quad's module bus. -/
def State.modGet (s : State) (q : Nat) : ModSt := mget (fun _ => {}) s.dp.mod q
def State.setMod (s : State) (q : Nat) (g : ModSt → ModSt) : State :=
  s.setDp (fun d => { d with mod := mput (fun _ => {}) d.mod q (g (s.modGet q)) })
/-- The bytes of MAC_MOD_BUF. -/
def State.modBuf (s : State) (q : Nat) : List Byte :=
  (List.range 32).flatMap (fun n => bytesBE 4 (s.rd (macB q + 0x100 + 4 * n)))

/-- A write of MAC_MOD_XFER with START = 1. -/
def State.modXferStart (s : State) (q v : Nat) : State :=
  let w := bit v 30
  let n := bits v 23 16
  if (s.modGet q).busy.isSome || decide (n = 0) || decide ((if w then 8 else 128) < n) then s.reject (macB q) 0x64
  else
    let s := s.wr (macB q + 0x64) (Nat.land v 0x60FFFFFF)
    let s := (s.setMod q (fun m => { m with busy := some (w, n) })).setFld (macB q + 0x68) 3 3 1
    let s := if bit v 29 then
        (s.emit (.modBus q true 126 1 [BitVec.ofNat 8 (s.fld (macB q + 0x60) 15 8)])).emit
          (.modBus q true 127 1 [BitVec.ofNat 8 (bits v 15 8)])
      else s
    s.emit (.modBus q w (bits v 7 0) n (if w then (s.modBuf q).take n else []))
def execModXferStart (q : Fin 4) (v : Word) (s : State) : Res := .next (s.modXferStart q.val v.toNat)

/-- A transfer ends with a RESULT and, for a read, the bytes read. -/
def State.modXferEnd (s : State) (q result : Nat) (data : List Byte) : State :=
  match (s.modGet q).busy with
  | none => s
  | some (w, n) =>
    let s := s.setMod q (fun m => { m with busy := none })
    let s := s.setFld (macB q + 0x68) 3 0 (2 * result + 1)
    let s := if w || decide (result ≠ 0) then s
      else
        let b := (data.take n) ++ (s.modBuf q).drop (min n data.length)
        (List.range 32).foldl (fun s i => s.wr (macB q + 0x100 + 4 * i) (beAt b (4 * i) 4)) s
    s.raise (macB q) Ev.modXferDone (Src.quad q)
def execModXferEnd (q : Fin 4) (result : Fin 4) (data : List Byte) (s : State) : Res :=
  .next (s.modXferEnd q.val result.val data)

/-- MAC_MOD_CTRL.RESET drives MOD_RST_N low for 20 µs; time passing ends the pulse. -/
def State.modReset (s : State) (q : Nat) : State :=
  (s.setMod q (fun m => { m with resetEnds := some (s.mono + 20 * uUs) })).emit (.modRst q false)
def execModReset (q : Fin 4) (s : State) : Res := .next (s.modReset q.val)

/-- The reset pulses that have ended raise their balls. -/
def State.modPulses (s : State) : State :=
  (List.range 4).foldl (fun s q => match (s.modGet q).resetEnds with
    | none => s
    | some t => if s.past t then (s.setMod q (fun m => { m with resetEnds := none })).emit (.modRst q true) else s) s

/-- A module is present after the 50 ms debounce. -/
def State.modInsert (s : State) (q : Nat) : State :=
  if s.flag (macB q + 0x68) 31 then s
  else (s.setFld (macB q + 0x68) 31 31 1).raise (macB q) Ev.modInsert (Src.quad q)
def execModInsert (q : Fin 4) (s : State) : Res := .next (s.modInsert q.val)

/-- The module is gone after the debounce; a transfer in progress ends with RESULT 0b10. -/
def State.modRemove (s : State) (q : Nat) : State :=
  if s.flag (macB q + 0x68) 31 then
    ((s.setFld (macB q + 0x68) 31 31 0).raise (macB q) Ev.modRemove (Src.quad q)).modXferEnd q 2 []
  else s
def execModRemove (q : Fin 4) (s : State) : Res := .next (s.modRemove q.val)

/-- An edge on MOD_INT_N: INT follows its level, and a falling edge raises MOD_INT. -/
def State.modInt (s : State) (q : Nat) (low : Bool) : State :=
  let old := s.flag (macB q + 0x68) 30
  let s := s.setFld (macB q + 0x68) 30 30 (b2n low)
  if low && !old then s.raise (macB q) Ev.modInt (Src.quad q) else s
def execModInt (q : Fin 4) (low : Bool) (s : State) : Res := .next (s.modInt q.val low)

end Sys2Proof.Machine
end

