-- ==== Sys2Proof/Machine/Mem.lean ====
section
/-! DEFINITION. The commands of the GDDR6 memory and of MCI (16_gddr6_memory.md). -/
namespace Sys2Proof.Machine

/-! ### Requests (R334, R339, R344, R345) -/

/-- A request leaves the channel: its port's backlog falls and its requester is told. -/
def State.memDone (s : State) (r : MemReq) (data : List Byte) (bad : Bool) : State :=
  (s.backlogOf r false).emit (.memDone r.q r.addr r.write.isSome data bad)

/-- A request completes as uncorrectable, a write discarded (R344). -/
def State.memFail (s : State) (r : MemReq) : State :=
  match r.write with
  | some _ => s.memDone r [] true
  | none => let d := s.memBytes r.addr r.len; d.2.memDone r d.1 true

/-- Add to the end of a channel's queue or of its hold. -/
def State.enqueueReq (s : State) (c : Nat) (r : MemReq) : State :=
  s.setCh c (fun x => { x with queue := x.queue ++ [r], lastReq := s.mono })

/-- A request arrives at its channel (R339), is held while the channel is out of service (R345), fails at a SAFE channel
(R344), or is refused (R334). A full queue, a hold still served, a full hold and a full backlog hold the requester
back. -/
def State.memRequest (s : State) (r : MemReq) : State :=
  let c := chOf r.addr
  if !s.memAllowed r.q r.addr r.len r.write.isSome then
    let s := s.memRefuse r.q r.addr
    match r.write with
    | some _ => s.emit (.memDone r.q r.addr true [] true)
    | none => let d := s.memBytes r.addr r.len; d.2.emit (.memDone r.q r.addr false d.1 true)
  else if (match r.q.rtPort with
      | none => false
      | some p => decide (1024 < s.fld (rtStat p) 10 0 + unitsOf r.addr r.len)) then s
  else if s.chSafe c then ((s.backlogOf r true).bump (memChCnt c 4) 1).memFail r
  else if s.chState c = 0 then
    if (s.ch c).hold.isEmpty && decide ((s.ch c).queue.length < 256) then (s.backlogOf r true).enqueueReq c r else s
  else if (s.ch c).hold.length < 512 then
    let s := (s.backlogOf r true).setCh c (fun x => { x with hold := x.hold ++ [r] })
    (s.setFld (memCh c + 4) 24 16 (s.ch c).hold.length).bump (memChCnt c 3) 1
  else s

/-- `n + 1` bytes from an address, cut at the end of its 256-byte unit, which one channel holds (R330). -/
def execMemRequest (q : MReq) (addr : BitVec 38) (n : Fin 256) (write : Bool) (data : List Byte) (s : State) : Res :=
  let len := min (n.val + 1) (256 - addr.toNat % 256)
  .next (s.memRequest ⟨q, addr.toNat, len, if write then some (slice data 0 len) else none, s.mono, 0⟩)

/-- While the channel is in RUN, its hold moves to its queue as room is found (R345). -/
def State.refillQueue (s : State) (c : Nat) : State :=
  if s.chState c ≠ 0 then s
  else
    let n := 256 - (s.ch c).queue.length
    let s := s.setCh c (fun x => { x with queue := x.queue ++ x.hold.take n, hold := x.hold.drop n })
    s.setFld (memCh c + 4) 24 16 (s.ch c).hold.length

/-- Two requests touch a common 64-byte line. -/
def sameLine (x y : MemReq) : Bool := (linesOf x.addr x.len).any (fun l => (linesOf y.addr y.len).contains l)

/-- Bank and row of a request. -/
def State.bankRow (s : State) (r : MemReq) : Nat × Nat :=
  let m := mapAddr (s.rd (memB + 0x40)) r.addr
  (m.1, m.2.1)

/-- Whether a request finds its row open. -/
def State.rowHit (s : State) (c : Nat) (r : MemReq) : Bool :=
  mget (fun _ => none) (s.ch c).row (s.bankRow r).1 = some (s.bankRow r).2

/-- The places of a queue whose request may go now (R339, R341): no earlier one touches a line of it; while a port is in
panic, that of the best precedence that has one here; else, of the aged, the oldest; else a row hit if there is one. -/
def State.mayGo (s : State) (c : Nat) : List Nat :=
  let l := (s.ch c).queue
  let ok := (List.range l.length).filter (fun i => match l[i]? with
    | none => false
    | some r => !((l.take i).any (sameLine r)))
  let sel := fun (f : MemReq → Bool) => ok.filter (fun i => match l[i]? with
    | none => false
    | some r => f r)
  let ports := ([0, 1, 2, 3].filter s.panics).mergeSort (fun a b => rtPrec a ≤ rtPrec b)
  let panic := (ports.map (fun p => sel (fun r => r.q.rtPort = some p))).find? (fun g => !g.isEmpty)
  match panic with
  | some g => g
  | none =>
    let aged := sel (fun r => s.past (r.since + s.fld (memB + 0x4C) 15 0 * uNs))
    if !aged.isEmpty then aged.take 1
    else
      let hits := sel (s.rowHit c)
      if hits.isEmpty then ok else hits

/-- The channel can issue now: in service or draining, awake, and no retrain slice runs. -/
def State.chIssues (s : State) (c : Nat) : Bool :=
  decide (s.chState c ≤ 1) && !s.chAsleep c && s.past (s.ch c).busyTo

/-- Take a request out of the queue; its row stays open. -/
def State.dropReq (s : State) (c i : Nat) (r : MemReq) : State :=
  let b := s.bankRow r
  (s.setCh c (fun x => { x with queue := x.queue.eraseIdx i, lastReq := s.mono, row := mput (fun _ => none) x.row b.1 (some b.2) })).refillQueue c

/-- The request at place i of channel c's queue completes (R339); `e` is what the check of its line finds (R336). -/
def State.memComplete (s : State) (c i : Nat) (e : Ecc) : State :=
  match (s.ch c).queue[i]? with
  | none => s
  | some r =>
    if !s.chIssues c || !(s.mayGo c).contains i then s
    else match r.write with
      | some bs => ((s.dropReq c i r).mciWrite r.addr bs).memDone r [] false
      | none =>
        let d := (s.dropReq c i r).mciRead r.addr r.len e
        d.2.memDone r d.1.1 d.1.2
def execMemReqComplete (c : Fin 32) (n : Fin 256) (e : Ecc) (s : State) : Res := .next (s.memComplete c.val n.val e)

/-- A periodic pass ends: margins, its count and a margin below the threshold (R343). -/
def State.passEnd (s : State) (c rd wr : Nat) : State :=
  let s := (s.wr (memCh c + 8) (rd % 256 * 2 ^ 24 + wr % 256 * 2 ^ 16)).bump (memChCnt c 5) 1
  let m := s.fld (memB + 0x50) 7 0
  if rd < m || wr < m then s.raise memB Ev.memMarginLow (Src.memCh c) else s

/-- An EDC mismatch on the request at place i (R344). `rd` and `wr` are the margins that a pass run for it finds. The last
repeat is counted like the others. -/
def State.edcMismatch (s : State) (c i rd wr : Nat) : State :=
  match (s.ch c).queue[i]? with
  | none => s
  | some r =>
    if !s.chIssues c || !(s.mayGo c).contains i then s
    else
      let again := fun (s : State) =>
        (s.setCh c (fun x => { x with queue := x.queue.set i { r with tries := r.tries + 1 } })).bump (memChCnt c 0) 1
      let maxN := s.fld (memB + 0x54) 3 0
      if r.tries < maxN then again s
      else if r.tries = maxN then again ((s.bump (memChCnt c 1) 1).passEnd c rd wr)
      else
        let s := (s.setFld (memCh c + 4) 7 7 1).raise memB Ev.memLinkFail (Src.memCh c)
        let s := (s.setCh c (fun x => { x with queue := x.queue.eraseIdx i })).memFail r
        let rest := (s.ch c).queue ++ (s.ch c).hold
        let s := (s.setCh c (fun x => { x with queue := [], hold := [] })).setFld (memCh c + 4) 24 16 0
        rest.foldl (fun s r => (s.bump (memChCnt c 4) 1).memFail r) s
def execEdcMismatch (c : Fin 32) (n : Fin 256) (rd wr : BitVec 8) (s : State) : Res :=
  .next (s.edcMismatch c.val n.val rd.toNat wr.toNat)

/-- A panic has lasted longer than 100 µs: once per panic (R340). -/
def State.panicLong (s : State) (p : Nat) : State :=
  match mget (fun _ => none) s.mem.panic p with
  | some (t, false) =>
    if t + 100 * uUs < s.mono then
      ({ s with mem := { s.mem with panic := mput (fun _ => none) s.mem.panic p (some (t, true)) } }).raise memB Ev.memPanicLong (Src.rtPort p)
    else s
  | _ => s
def execPanicLong (p : Fin 4) (s : State) : Res := .next (s.panicLong p.val)

/-! ### Refresh and self-refresh (R342) -/

/-- The refresh debt of a bank. -/
def State.debt (s : State) (c b : Nat) : Nat := mget (fun _ => 0) (s.ch c).debt b
/-- Set it. -/
def State.setDebt (s : State) (c b v : Nat) : State := s.setCh c (fun x => { x with debt := mput (fun _ => 0) x.debt b v })
/-- The row of a bank closes. -/
def State.closeRow (s : State) (c b : Nat) : State := s.setCh c (fun x => { x with row := mput (fun _ => none) x.row b none })

/-- REFI_NS of a channel, half while a device is hot, in 2^-16 ns. -/
def State.refi (s : State) (c : Nat) : Nat :=
  s.fld (memB + 0x48) 31 16 * uNs / (if s.flag (memCh c + 4) 4 then 2 else 1)

/-- Every bank gains a unit of debt; from DEBT_MAX on it is refreshed at once until its debt is below. -/
def State.refiTick (s : State) (c : Nat) : State :=
  if s.chAsleep c || !s.past ((s.ch c).refAt + s.refi c) then s
  else
    let s := s.setCh c (fun x => { x with refAt := x.refAt + s.refi c })
    (List.range 16).foldl (fun s b =>
      let d := s.debt c b + 1
      let m := s.fld (memB + 0x48) 15 12
      if m ≤ d then ((s.setDebt c b (m - 1)).closeRow c b).bump (memChCnt c 2) (d + 1 - m)
      else s.setDebt c b d) s
def execRefiTick (c : Fin 32) (s : State) : Res := .next (s.refiTick c.val)

/-- A voluntary refresh of a bank with debt, for which no request waits, outside panic. -/
def State.refreshIssue (s : State) (c b : Nat) : State :=
  if s.chAsleep c || s.anyPanic || s.debt c b = 0 || (s.ch c).queue.any (fun r => (s.bankRow r).1 = b) then s
  else (s.setDebt c b (s.debt c b - 1)).closeRow c b
def execRefreshIssue (c : Fin 32) (b : Fin 16) (s : State) : Res := .next (s.refreshIssue c.val b.val)

/-- The devices of a channel go to self-refresh: no open row and no debt. -/
def State.sleepCh (s : State) (c : Nat) : State :=
  (s.setFld (memCh c + 4) 3 3 1).setCh c (fun x => { x with row := [], debt := [] })
/-- They leave it; debt is gained from now on. -/
def State.wakeCh (s : State) (c : Nat) : State := (s.setFld (memCh c + 4) 3 3 0).setCh c (fun x => { x with refAt := s.mono })

/-- A channel in RUN without a request for SR_IDLE_US. -/
def State.selfRefreshEnter (s : State) (c : Nat) : State :=
  let n := s.fld (memB + 0x48) 11 0
  if n ≠ 0 && s.chState c = 0 && !s.chAsleep c && (s.ch c).queue.isEmpty && s.past ((s.ch c).lastReq + n * uUs) then s.sleepCh c
  else s
def execSelfRefreshEnter (c : Fin 32) (s : State) : Res := .next (s.selfRefreshEnter c.val)

/-- A request waits: the channel leaves self-refresh, at the earliest 0.5 µs after it came (Table 16-7). -/
def State.selfRefreshExit (s : State) (c : Nat) : State :=
  match (s.ch c).queue with
  | [] => s
  | r :: _ => if s.chState c = 0 && s.chAsleep c && s.past (r.since + uUs / 2) then s.wakeCh c else s
def execSelfRefreshExit (c : Fin 32) (s : State) : Res := .next (s.selfRefreshExit c.val)

/-- A device of the channel reports its temperature. -/
def State.tempReport (s : State) (c : Nat) (hot : Bool) : State :=
  let was := s.flag (memCh c + 4) 4
  let s := s.setFld (memCh c + 4) 4 4 (b2n hot)
  if hot && !was then s.raise memB Ev.memTempHi (Src.memCh c) else s
def execTempReport (c : Fin 32) (hot : Bool) (s : State) : Res := .next (s.tempReport c.val hot)

/-! ### Periodic training (R343) -/

/-- When the next slice is due: 50 µs after the last of a pass in progress, else the next instant of the channel's grid
of RETRAIN_MS with its offset after the last pass began. -/
def State.sliceDue (s : State) (c : Nat) : Nat :=
  let x := s.ch c
  if x.slices < 16 then x.sliceAt + 50 * uUs
  else
    let per := s.fld (memB + 0x50) 31 16 * uMs
    let off := c * per / 32
    if x.passAt < off then off else off + ((x.passAt - off) / per + 1) * per

/-- One slice runs; the sixteenth ends the pass with the margins it found. -/
def State.runSlice (s : State) (c rd wr : Nat) : State :=
  let x := s.ch c
  let n := if x.slices < 16 then x.slices + 1 else 1
  let t := if x.slices < 16 then x.passAt else s.mono
  let s := s.setCh c (fun x => { x with slices := n, sliceAt := s.mono, busyTo := s.mono + 8 * uUs / 10, passAt := t })
  if n = 16 then s.passEnd c rd wr else s

/-- A channel in service that can run a slice now. -/
def State.sliceReady (s : State) (c : Nat) : Bool := s.chState c = 0 && !s.chSafe c && s.past (s.ch c).busyTo && s.past (s.sliceDue c)

/-- A slice runs when it is due and no port is in panic. -/
def State.retrainSlice (s : State) (c rd wr : Nat) : State :=
  if s.sliceReady c && !s.anyPanic then s.runSlice c rd wr else s
def execRetrainSlice (c : Fin 32) (rd wr : BitVec 8) (s : State) : Res := .next (s.retrainSlice c.val rd.toNat wr.toNat)

/-- A slice deferred for DEFER_MS runs in panic too. -/
def State.retrainForced (s : State) (c rd wr : Nat) : State :=
  if s.sliceReady c && s.anyPanic && s.past (s.sliceDue c + s.fld (memB + 0x50) 15 8 * uMs) then
    (s.bump (memB + 0x128) 1).runSlice c rd wr
  else s
def execRetrainDeferExpire (c : Fin 32) (rd wr : BitVec 8) (s : State) : Res :=
  .next (s.retrainForced c.val rd.toNat wr.toNat)

/-! ### Channels out of service (R345, Table 16-6) -/

/-- QUIESCE of a channel in RUN. -/
def State.chQuiesce (s : State) (c : Nat) : State :=
  if s.chState c = 0 then (s.toCh c 1).setCh c (fun x => { x with qtRaised := false }) else s
def execMemChQuiesce (c : Fin 32) (s : State) : Res := .next (s.chQuiesce c.val)

/-- Its issued requests are complete: QUIESCED, the devices in self-refresh. -/
def State.chQuiesced (s : State) (c : Nat) : State :=
  if s.chState c = 1 && (s.ch c).queue.isEmpty then (s.toCh c 2).sleepCh c else s
def execMemChQuiesced (c : Fin 32) (s : State) : Res := .next (s.chQuiesced c.val)

/-- 10 µs in QUIESCING: QUIESCE_TIMEOUT, once. -/
def State.chQuiesceTimeout (s : State) (c : Nat) : State :=
  if s.chState c = 1 && !(s.ch c).qtRaised && s.past ((s.ch c).since + 10 * uUs) then
    (s.setCh c (fun x => { x with qtRaised := true })).raise memB Ev.quiesceTimeout (blkSrc memB)
  else s
def execMemChQuiesceTimeout (c : Fin 32) (s : State) : Res := .next (s.chQuiesceTimeout c.val)

/-- TRAIN: from QUIESCED only, otherwise discarded. -/
def State.chTrain (s : State) (c : Nat) : State :=
  if s.chState c = 2 then (s.toCh c 4).wakeCh c else s.reject memB (memCh c - memB)
def execMemChTrain (c : Fin 32) (s : State) : Res := .next (s.chTrain c.val)

/-- Training ends, 150 µs after it began at the earliest (Table 16-7), with its outcome and the margins found. -/
def State.chTrainEnd (s : State) (c : Nat) (pass : Bool) (rd wr : Nat) : State :=
  if s.chState c = 4 && s.past ((s.ch c).since + 150 * uUs) then
    let s := (s.toCh c 2).sleepCh c
    let s := s.wr (memCh c + 8) (rd % 256 * 2 ^ 24 + wr % 256 * 2 ^ 16)
    if pass then (s.setFld (memCh c + 4) 6 5 2).setFld (memCh c + 4) 7 7 0
    else (s.setFld (memCh c + 4) 6 5 1).raise memB Ev.memTrainFail (Src.memCh c)
  else s
def execMemChTrainEnd (c : Fin 32) (pass : Bool) (rd wr : BitVec 8) (s : State) : Res :=
  .next (s.chTrainEnd c.val pass rd.toNat wr.toNat)

/-- RESUME with TRAINED = 1: from QUIESCED to RUN, the hold served; with TRAINED = 0 discarded. -/
def State.chResume (s : State) (c : Nat) : State :=
  if !s.flag (memCh c + 4) 6 then s.reject memB (memCh c - memB)
  else if s.chState c = 2 then
    let s := ((s.toCh c 0).wakeCh c).setCh c (fun x => { x with holdRaised := false, lastReq := s.mono, passAt := s.mono, slices := 16 })
    s.refillQueue c
  else s
def execMemChResume (c : Fin 32) (s : State) : Res := .next (s.chResume c.val)

/-- Controller and PHY of a channel are reset: QUIESCED, self-refresh, not trained, the hold kept. -/
def State.chToReset (s : State) (c : Nat) : State := ((s.toCh c 2).sleepCh c).setFld (memCh c + 4) 6 6 0
/-- RESET: from QUIESCED only, otherwise discarded. -/
def State.chReset (s : State) (c : Nat) : State :=
  if s.chState c = 2 then s.chToReset c else s.reject memB (memCh c - memB)
def execMemChReset (c : Fin 32) (s : State) : Res := .next (s.chReset c.val)

/-- A write of MEM_CH_CTRL: the highest-numbered bit written as 1 acts. -/
def State.chCtrl (s : State) (c w : Nat) : State :=
  if bit w 3 then s.chReset c else if bit w 2 then s.chResume c else if bit w 1 then s.chQuiesce c
  else if bit w 0 then s.chTrain c else s

/-- A request held for HOLD_US: MEM_CH_HOLD, once per outage. -/
def State.holdExpire (s : State) (c : Nat) : State :=
  match (s.ch c).hold with
  | [] => s
  | r :: _ =>
    if !(s.ch c).holdRaised && r.since + s.fld (memB + 0x4C) 31 16 * uUs < s.mono then
      (s.setCh c (fun x => { x with holdRaised := true })).raise memB Ev.memChHold (Src.memCh c)
    else s
def execMemChHoldExpire (c : Fin 32) (s : State) : Res := .next (s.holdExpire c.val)

/-! ### The initialiser (R337) -/

/-- START: ignored while BUSY; RESULT 0x2 without a key, 0x1 for a range that is not in one enabled region. -/
def State.initStart (s : State) : State :=
  let a := mciB + 0x44
  let base := s.rd (mciB + 0x48) * 2 ^ 20
  let size := s.rd (mciB + 0x4C) * 2 ^ 20
  if s.flag a 30 then s
  else if !s.keyed then s.setFld a 3 0 2
  else if size = 0 || (s.regionAt base size).isNone then s.setFld a 3 0 1
  else
    let s := (s.setFld a 3 0 0).setFld a 30 30 1
    { s with mem := { s.mem with init := some (base / 64, (base + size) / 64, s.mono) } }
def execMciInitStart (s : State) : Res := .next s.initStart

/-- The initialisation ends, 0.9 ms per GiB after it began at the earliest (Table 16-7), while MCI is in RUN. -/
def State.initEnd (s : State) : State :=
  match s.mem.init with
  | none => s
  | some (pos, hi, t) =>
    if s.running mciB && s.past (t + s.rd (mciB + 0x4C) * 9 * uMs / 10240) then
      let s := s.zeroRange (64 * pos) (64 * hi)
      let s := { s with mem := { s.mem with init := none } }
      (s.setFld (mciB + 0x44) 30 30 0).raise mciB Ev.mciInitDone Src.device
    else s
def execMciInitEnd (s : State) : Res := .next s.initEnd

end Sys2Proof.Machine
end

