-- ==== Sys2Proof/Machine/Rpl.lean ====
section
/-! DEFINITION. The commands of deterministic mode and replay (14_replay.md). -/
namespace Sys2Proof.Machine

/-! ### The crumb ring (R297–R299) -/

/-- Crumbs that a cluster's ring holds. -/
def State.ringCrumbs (s : State) (c : Nat) : Nat := s.fld (rplC c + 0xC) 15 0 * 32768
/-- Byte address of crumb i of a cluster. -/
def State.crumbAddr (s : State) (c i : Nat) : Nat := s.rd (rplC c + 8) * 2 ^ 20 + 32 * (i % max 1 (s.ringCrumbs c))

/-- CRUMB_DRAIN: the oldest crumb of the capture FIFO goes to the ring, over the oldest there. A refused write is handled by
R334, and the index goes on (DESIGN CHOICE). -/
def State.crumbDrain (s : State) (c : Nat) : State :=
  let x := s.cap c
  match x.fifo with
  | [] => s
  | k :: r =>
    let h := s.cnt (rplHead c)
    let a := s.crumbAddr c h
    if 1 < s.blkState rplB || s.flag (rplC c + 0x14) 29 || (s.memAllowed .crumb a 32 true && !s.memServes a 32) then s
    else
      let s := if s.memAllowed .crumb a 32 true then s.memWrite a (bytesBE 32 k.toNat) else s.memRefuse .crumb a
      let s := (s.setCap c (fun y => { y with fifo := r })).setFld (rplC c + 0x14) 11 0 r.length
      let s := (s.setCnt (rplHead c) (h + 1)).setCnt (rplOldest c) (max (s.cnt (rplOldest c)) (h + 1 - s.ringCrumbs c))
      (s.bump (rplC c + 0x40) 1).capView c
def execCrumbDrain (c : Fin 12) (s : State) : Res := .next (s.crumbDrain c.val)

/-- 64 entries of the capture FIFO are free. -/
def State.fifoRoom (s : State) (c : Nat) : Bool := decide ((s.cap c).fifo.length ≤ 1984)

/-- CRUMB_GAP: the GAP crumb of a loss, where capture runs. -/
def State.crumbGap (s : State) (c : Nat) : State :=
  if s.running rplB && !s.flag (rplC c + 0x14) 29 && s.fifoRoom c then s.chainGapCrumb c else s
def execCrumbGap (c : Fin 12) (s : State) : Res := .next (s.crumbGap c.val)

/-- The end of a loss although no crumb may have been lost (R299, R305): the GAP crumb is due. -/
def State.lossEnd (s : State) (c : Nat) : State :=
  if s.detCfg c then
    let s := if (s.cap c).gap.isNone then s.setCap c (fun x => { x with gap := some (0, s.now) }) else s
    s.crumbGap c
  else s

/-- RPL_FREEZE: a checkpoint in progress stops too. -/
def State.rplFreeze (s : State) (c : Nat) : State :=
  let s := (s.setFld (rplC c + 4) 1 1 1).setFld (rplC c + 0x14) 30 29 1
  s.setCap c (fun x => { x with busy := none, again := false })
def execRplFreeze (c : Fin 12) (s : State) : Res := .next (s.rplFreeze c.val)

/-- RPL_UNFREEZE: FREEZE from 1 to 0. -/
def State.rplUnfreeze (s : State) (c : Nat) : State :=
  if s.flag (rplC c + 0x14) 29 then ((s.setFld (rplC c + 4) 1 1 0).setFld (rplC c + 0x14) 29 29 0).lossEnd c else s
def execRplUnfreeze (c : Fin 12) (s : State) : Res := .next (s.rplUnfreeze c.val)

/-! ### Checkpoints (R300) -/

/-- CKPT_TIMER: CKPT_MS after the previous checkpoint of a cluster in deterministic mode. -/
def State.ckptTimer (s : State) (c : Nat) : State :=
  if s.det c && s.past ((s.cap c).lastAt + s.fld (rplC c) 15 0 * uMs) then s.takeCkpt c else s
def execCkptTimer (c : Fin 12) (s : State) : Res := .next (s.ckptTimer c.val)

/-- CKPT_REQ: ignored and counted while a checkpoint is being taken. -/
def State.ckptReq (s : State) (c : Nat) : State :=
  if (s.cap c).busy.isSome then s.bump (rplC c + 0x60) 1 else s.takeCkpt c
def execCkptReq (c : Fin 12) (s : State) : Res := .next (s.ckptReq c.val)

/-- CKPT_DONE: the checkpoint stands in its slot and the hold ends, 30 µs or more after it began (Table 14-7); another one that is due
begins. -/
def State.ckptDone (s : State) (c : Nat) : State :=
  match (s.cap c).busy with
  | none => s
  | some (k, bs) =>
    let a := s.rd (rplC c + 0x10) * 2 ^ 20 + 0x120000 * k.slot
    let ok := s.memAllowed .ckpt a 0x120000 true
    if !s.past ((s.cap c).lastAt + 30 * uUs) || (ok && !s.memServes a 0x120000) then s
    else
      let s := if ok then s.memWrite a bs else s.memRefuse .ckpt a
      let again := (s.cap c).again
      let s := s.setCap c (fun x => { x with busy := none, again := false, ckpts := k :: x.ckpts.filter (fun y => y.slot ≠ k.slot) })
      let s := ((s.setFld (rplC c + 0x14) 30 30 0).bump (rplC c + 0x58) 1).capView c
      if again then s.takeCkpt c else s
def execCkptDone (c : Fin 12) (s : State) : Res := .next (s.ckptDone c.val)

/-! ### Starting a replay (R302) -/

/-- A checkpoint's header and CRC are right. -/
def State.ckptGood (s : State) (a : Nat) : Bool :=
  s.memAllowed .ckpt a 0x120000 false
    && (let b := s.peek a 0x120000
      leAt b 0 4 = 0x434B5031 && leAt b 4 1 = 1 && leAt b 60 4 = (crc32c (b.drop 64)).toNat)

/-- The target can replay: QUIESCED, an image loaded, and its own capture is not the frozen source. -/
def State.targetGood (s : State) (t : Nat) (host : Bool) : Bool :=
  decide (t < 12) && s.blkState (engB t) = 2 && s.flag (engB t + 0x44) 29
    && !(!host && s.flag (rplC t + 0x14) 29
      && s.rd (rplB + 0x48) + s.rd (rplB + 0x4C) * 2 ^ 32 = s.rd (rplC t + 8) * 2 ^ 20)

/-- A thread restored from its 512 bytes; one that was HALTED is READY (Table 14-4). -/
def restoreThr (b : List Byte) (now : Nat) (x : Thr) : Thr :=
  let st := leAt b 268 1 % 8
  { x with
    g := (List.range 32).foldl (fun m i => mput (fun _ => 0) m i (BitVec.ofNat 64 (if i = 0 then 0 else leAt b (8 * i) 8))) [],
    pc := leAt b 264 4, state := if st = 5 then 1 else st, stall := leAt b 269 1 % 16, chan := 0, under := 0, retired := leAt b 256 8,
    event := leAt b 270 1 % 32, status := leAt b 271 1,
    sig := (List.range 32).foldl (fun m i => mput (fun _ => 0) m i (leAt b (272 + i) 1)) [],
    timer := if leAt b 320 8 % 2 = 1 then some (ofTs96 (leAt b 304 8 * 2 ^ 48 + leAt b 312 8 % 2 ^ 48)) else none, fired := false,
    res := ((List.range 4).map (fun i => leAt b (328 + 8 * i) 8)).filterMap
      (fun r => if r = 0 then none else some (bits r 41 32, bits r 31 16)),
    out := ~~~ (BitVec.ofNat 32 (leAt b 360 4)), loaded := false, sub := [], csub := none, step := false,
    since := now, bpPass := none }

/-- The target is restored from A. -/
def State.rpRestore (s : State) (c a : Nat) : State :=
  let b := s.peek a 0x120000
  let s := (List.range 128).foldl (fun s i => s.setThr (128 * c + i) (restoreThr (slice b (0x1000 + 512 * i) 512) s.mono)) s
  let s := (List.range 16).foldl (fun s e =>
    let o := 0x11000 + 256 * e
    let r := leAt b (o + 9) 1
    let s := (s.putSlot c e 0 (leAt b o 4)).putSlot c e 1 (leAt b (o + 4) 4)
    s.setEng (16 * c + e) (fun x => { x with
      last := leAt b (o + 8) 1 % 16, run := if r < 8 then some (8 * (16 * c + e) + r) else none, quant := s.mono })) s
  s.setClu c (fun x => { x with
    dmem := (List.range dmemTop).foldl (fun m i => mput (fun _ => 0) m i (b.getD (0x20000 + i) 0)) [],
    rhandles := (List.range (min 8192 (leAt b 48 4))).map (fun i => leAt b (0x12000 + 4 * i) 4), gen := x.gen + 1 })

/-- RESULT of the checks of START, in their order; 0 where all pass. B's header is checked with A's (DESIGN CHOICE). -/
def State.rpCheck (s : State) (host : List Crumb) (t : Nat) : Nat :=
  let a := s.rpA
  if !s.targetGood t s.rpHost then 8
  else if !s.ckptGood a then 4
  else if leAt (s.peek a 64) 40 4 ≠ (s.clu t).imgCrc then 5
  else
    let i := leAt (s.peek a 64) 8 8
    match ((s.setCnt rpPosA i).feed i host).crumbAt i with
    | none => 6
    | some k => if kKind k ≠ 0xA || bits k 191 128 ≠ leAt (s.peek a 64) 16 8 then 6
      else if s.rpB ≠ 0 && !s.ckptGood s.rpB then 4 else 0

/-- Retired counts that B records. -/
def State.rpEnds (s : State) : Option (List Nat) :=
  if s.rpB = 0 then none
  else some ((List.range 128).map (fun i => leAt (s.peek (s.rpB + 0x1000 + 512 * i + 256) 8) 0 8))

/-- RPL_START: a write of RPL_RP_CTRL with START; `host` holds what a host ring holds from crumb CIDX of A on. Ignored while
BUSY. -/
def State.rplStart (s : State) (v : Nat) (host : List Crumb) : State :=
  if s.rpl.rp.isSome || !s.running rplB then s
  else
    let s := (s.setFld (rplB + 0x40) 29 29 (bits v 29 29)).setFld (rplB + 0x40) 19 16 (bits v 19 16)
    let t := bits v 19 16
    let r := s.rpCheck host t
    if r ≠ 0 then s.wr (rplB + 0x44) r
    else
      let a := s.rpA
      let s := ((s.wr (rplB + 0x44) (2 ^ 31)).wr (rplB + 0x80) 0).wr (rplB + 0x84) 0
      let s := (((s.setBlk (engB t) 5).flushIq t).voidCluster t).rpRestore t a
      let i := leAt (s.peek a 64) 8 8
      let s := (s.setCnt rpPosA (i + 1)).feed (i + 1) (host.drop 1)
      { s with rpl := { s.rpl with
          rp := some { target := t, lastAt := s.mono, cluster := leAt (s.peek a 64) 5 1 % 16, ends := s.rpEnds } } }
def execRplStart (v : Word) (host : List (BitVec 256)) (s : State) : Res := .next (s.rplStart v.toNat host)

/-! ### Running and ending it (R303, R304) -/

/-- A host ring is read on from POS. -/
def State.feedOn (s : State) (host : List Crumb) : State := s.feed (s.cnt rpPosA) host

/-- REPLAY_CONSUME; `host` holds what a host ring holds from POS on. -/
def execReplayConsume (host : List (BitVec 256)) (s : State) : Res := .next ((s.feedOn host).consume)

/-- The bytes of a thread's record that the end comparison looks at. -/
def cmpOffs : List Nat :=
  (List.range 364).filter (fun i => decide (8 ≤ i ∧ i < 268) || i = 270 || i = 271 || decide (328 ≤ i))

/-- First offset from the list where two byte strings differ. -/
def diffAt (l : List Nat) (x y : List Byte) : Option Nat := l.find? (fun i => x.getD i 0 ≠ y.getD i 0)

/-- First difference of a thread from B: the thread and its offset in the layout. -/
def State.thrDiff (s : State) (c b : Nat) : Option (Nat × Nat) :=
  (List.range 128).findSome? (fun i =>
    (diffAt cmpOffs (thrBytes (s.thr (128 * c + i))) (s.peek (b + 0x1000 + 512 * i) 364)).map (fun o => (i, 0x1000 + 512 * i + o)))

/-- First difference of the handle table or the data memory from B. -/
def State.memDiff (s : State) (c b : Nat) : Option Nat :=
  let h := s.handleList c
  if leAt (s.peek (b + 48) 4) 0 4 ≠ h.length then some 48
  else match diffAt (List.range (4 * h.length)) (h.map (bytesLE 4)).flatten (s.peek (b + 0x12000) (4 * h.length)) with
    | some o => some (0x12000 + o)
    | none => (diffAt (List.range dmemTop) (s.dGet c 0 dmemTop) (s.peek (b + 0x20000) dmemTop)).map (0x20000 + ·)

/-- The next crumb's KIND, 0 where none can be read. -/
def State.nextKind (s : State) : Nat := ((s.crumbAt (s.cnt rpPosA)).map kKind).getD 0

/-- A thread short of its count needs a crumb: it stands at an instruction with a logged event, or waits for a turn. -/
def State.needsCrumb (s : State) (l : List Nat) (t : Nat) : Bool :=
  decide ((s.thr t).retired < l.getD (inClu t) 0) && ((s.thr t).state ≠ 2 || s.atLogged t)

/-- REPLAY_END: the end the replay has come to, if any. -/
def State.replayEnd (s : State) : State :=
  match s.rpl.rp with
  | none => s
  | some x =>
    if s.cnt rpPosA ≠ s.rpLast then s
    else match x.ends with
      | none => s.rpEnd 2
      | some l =>
        let c := x.target
        if (thrsOf c).all (fun t => (s.thr t).retired = l.getD (inClu t) 0) then
          match s.thrDiff c s.rpB, s.memDiff c s.rpB with
          | some d, _ => s.diverge 5 s.nextKind d.1 0 d.2
          | none, some o => s.diverge 6 s.nextKind 0 0 o
          | none, none => s.rpEnd 1
        else match (thrsOf c).find? (s.needsCrumb l) with
          | none => s
          | some t => s.diverge 7 s.nextKind (inClu t) (wOp (s.wordAt t)) 0
def execReplayEnd (host : List (BitVec 256)) (s : State) : Res := .next ((s.feedOn host).replayEnd)

/-- RPL_ABORT. -/
def execRplAbort (s : State) : Res := .next (s.rpEnd 7)

/-- REPLAY_STUCK: no crumb consumed for STALL_US; the timer does not run while the replayer waits for AVAIL of a host ring. -/
def State.replayStuck (s : State) : State :=
  match s.rpl.rp with
  | none => s
  | some x =>
    if s.past (x.lastAt + s.rd (rplB + 0x88) * uUs) && !(s.rpHost && decide (s.rpAvail ≤ s.cnt rpPosA)) then
      let k := (s.crumbAt (s.cnt rpPosA)).getD 0
      let t := 128 * x.target + kThr k
      s.diverge 4 (kKind k) (kThr k) (wOp (s.wordAt t)) 0
    else s
def execReplayStuck (host : List (BitVec 256)) (s : State) : Res := .next ((s.feedOn host).replayStuck)

end Sys2Proof.Machine
end

