-- ==== Sys2Proof/Machine/Mat.lean ====
section
/-! DEFINITION. The commands of the pipelines: passes, rule-set swaps and scrubbing (06_parser.md, 07_match_action.md,
08_forwarding_tables.md R193). -/
namespace Sys2Proof.Machine

/-- MAT_BANK.RSE and ERSE of pair n. -/
def State.rse (s : State) (n : Nat) : Nat := s.fld (matB n + 0x48) 3 0
def State.erse (s : State) (n : Nat) : Nat := s.fld (matB n + 0x48) 27 24

/-- Frames that entered under an older RSE and have a pass still to come: those of the recirculation FIFO (R170). -/
def State.oldIn (s : State) (n : Nat) : Nat := ((s.pipe n).recirc.filter (fun f => mdF f.md 3 31 28 ≠ s.rse n)).length
/-- Copies in the egress pipeline under an older ERSE. -/
def State.oldEg (s : State) (n : Nat) : Nat := ((s.pipe n).egress.filter (fun c => c.erse ≠ s.erse n)).length
/-- OLD_COUNT follows while the bank retires. -/
def State.oldLevel (s : State) (n : Nat) : State :=
  s.setFld (matB n + 0x48) 21 12 (if s.flag (matB n + 0x48) 9 then s.oldIn n else 0)

/-- A frame's first pass, under the current RSE (R15, R154). -/
def State.passZero (s : State) (n : Nat) (f : Frame) : State :=
  (s.ingressPass n { f with md := mdPut f.md 3 31 28 (s.rse n) }).oldLevel n

/-- INGRESS_PASS: the next port arrival of IPLn takes a slot. -/
def State.ingressSlot (s : State) (n : Nat) : State :=
  if !s.unitHot (12 + n) then s else
  match (s.pipe n).arr with
  | [] => s
  | f :: r => (s.setPipe n (fun x => { x with arr := r })).passZero n f
def execIngressPass (n : Fin 4) (s : State) : Res := .next (s.ingressSlot n.val)

/-- RECIRC_PASS: a recirculated frame takes a slot that no port arrival fills. -/
def State.recircSlot (s : State) (n : Nat) : State :=
  if !s.unitHot (12 + n) then s else
  match (s.pipe n).arr, (s.pipe n).recirc with
  | [], f :: r =>
    let s := (s.setPipe n (fun x => { x with recirc := r })).recircLevel n
    (s.ingressPass n { f with md := busNext f.md }).oldLevel n
  | _, _ => s
def execRecircPass (n : Fin 4) (s : State) : Res := .next (s.recircSlot n.val)

/-- INJECT_SLOT: a slot that neither fills goes to the HIF and to clusters in turn, while PRS and MAT run (R15, R17, R171). -/
def State.injectSlot (s : State) (n : Nat) : State :=
  let x := s.pipe n
  if !s.unitHot (12 + n) || !x.arr.isEmpty || !x.recirc.isEmpty || !s.running (prsB n) || !s.running (matB n) then s
  else
    match x.host, x.clus, x.clusTurn with
    | [], [], _ => s
    | f :: r, [], _ => (s.setPipe n (fun x => { x with host := r, clusTurn := true })).passZero n f
    | f :: r, _ :: _, false => (s.setPipe n (fun x => { x with host := r, clusTurn := true })).passZero n f
    | _, f :: r, _ => (s.setPipe n (fun x => { x with clus := r, clusTurn := false })).passZero n f
def execInjectSlot (n : Fin 4) (s : State) : Res := .next (s.injectSlot n.val)

/-- EGRESS_PASS: the next dequeued copy of quad n passes the egress pipeline. -/
def State.egressSlot (s : State) (n : Nat) : State :=
  if !s.unitHot (12 + n) then s else
  match (s.pipe n).egress with
  | [] => s
  | c :: r => (s.setPipe n (fun x => { x with egress := r })).egressPass n c
def execEgressPass (n : Fin 4) (s : State) : Res := .next (s.egressSlot n.val)

/-! ### Rule-set swaps (R170) -/

/-- A bank is released. -/
def State.swapDone (s : State) (n : Nat) : State := s.raise (matB n) Ev.matSwapDone (Src.pipe n)

/-- RSE advances for MAT and PRS together; in QUIESCED the swap completes at once. -/
def State.swapIn (s : State) (n : Nat) : State :=
  let r := (s.rse n + 1) % 16
  let a := matB n + 0x48
  let b := prsB n + 0x40
  let ret := b2n (decide (s.blkState (matB n) ≠ 2))
  let s := ((s.setFld a 3 0 r).setFld a 8 8 r).setFld a 9 9 ret
  let s := ((((s.setFld b 3 0 r).setFld b 8 8 r).setFld b 9 9 ret).oldLevel n).epochCrumb (List.range 12) n 0 0 r
  if ret = 0 then s.swapDone n else s
/-- ERSE advances. -/
def State.swapEg (s : State) (n : Nat) : State :=
  let r := (s.erse n + 1) % 16
  let a := matB n + 0x48
  let ret := b2n (decide (s.blkState (matB n) ≠ 2))
  let s := (((s.setFld a 27 24 r).setFld a 30 30 r).setFld a 31 31 ret).epochCrumb (List.range 12) n 1 0 r
  if ret = 0 then s.swapDone n else s

/-- A write of MAT_SWAP: discarded whole when a bank it would swap is still retiring. -/
def State.matSwap (s : State) (n v : Nat) : State :=
  let a := matB n + 0x48
  if (bit v 0 && s.flag a 9) || (bit v 1 && s.flag a 31) then s.reject (matB n) 0x44
  else
    let s := if bit v 0 then s.swapIn n else s
    if bit v 1 then s.swapEg n else s
/-- SWAP_IN: MAT_SWAP written with SWAP_IN, and with SWAP_EG when `both`. -/
def execSwapIn (n : Fin 4) (both : Bool) (s : State) : Res := .next (s.matSwap n.val (if both then 3 else 1))
/-- SWAP_EG: MAT_SWAP written with SWAP_EG alone. -/
def execSwapEg (n : Fin 4) (s : State) : Res := .next (s.matSwap n.val 2)

/-- SWAP_RETIRE: the in-flight count of a retiring bank has reached 0. -/
def State.swapRetire (s : State) (n : Nat) (eg : Bool) : State :=
  let a := matB n + 0x48
  if eg then (if s.flag a 31 && s.oldEg n = 0 then (s.setFld a 31 31 0).swapDone n else s)
  else if s.flag a 9 && s.oldIn n = 0 then
    (((s.setFld a 9 9 0).setFld a 21 12 0).setFld (prsB n + 0x40) 9 9 0).swapDone n
  else s
def execSwapRetire (n : Fin 4) (eg : Bool) (s : State) : Res := .next (s.swapRetire n.val eg)

/-! ### Scrubbing (R475) -/

/-- A scrub. -/
def State.scrub (s : State) (k : Nat) : ScrubSt := mget (fun _ => {}) s.dp.scrub k
/-- Set it. -/
def State.setScrub (s : State) (k : Nat) (x : ScrubSt) : State :=
  s.setDp (fun d => { d with scrub := mput (fun _ => {}) d.scrub k x })
/-- The next read of a pass over n items in `period` is due. -/
def State.scrubDue (s : State) (k n period : Nat) : Bool :=
  s.past ((s.scrub k).start + (s.scrub k).done * period / n)
/-- One more read is done; after the last, a new pass begins. -/
def State.scrubStep (s : State) (k n period : Nat) : State :=
  let x := s.scrub k
  s.setScrub k (if x.done + 1 < n then { x with done := x.done + 1 } else ⟨x.start + period, 0⟩)
/-- A word's parity goes bad. -/
def State.spoil (s : State) (a : Nat) : State :=
  if s.badWord a then s else s.setDp (fun d => { d with badWords := a :: d.badWords })

/-- Word i of a PRS bank (Table 06-6). -/
def prsWordOff (i : Nat) : Nat :=
  if i < 2 then 4 * i else if i < 1026 then 0x1000 + 4 * (i - 2)
  else if i < 9218 then 0x8000 + 4 * (i - 1026) else 0x10000 + 4 * (i - 9218)
/-- Words of a PRS bank. -/
def prsWords : Nat := 13314

/-- A scrub read of PRS n. `upset` is a bank word, by its offset, whose parity went bad since the last read. -/
def State.prsScrub (s : State) (n : Nat) (upset : Option Nat) : State :=
  let s := match upset with
    | some o => if 0x10000 ≤ o && o < 0x100000 then s.spoil (prsB n + o) else s
    | none => s
  let period := s.fld (prsB n + 0x4C) 15 0 * uMs
  if s.flag (prsB n + 0x4C) 31 && decide (s.blkState (prsB n) ≠ 3) && s.scrubDue n (2 * prsWords) period then
    let i := (s.scrub n).done
    let a := prsBank n (i / prsWords) + prsWordOff (i % prsWords)
    let s := s.scrubStep n (2 * prsWords) period
    if s.badWord a then
      s.raiseAt (prsB n) Ev.prsParity (Src.pipe n) { mem := 0, sub := i / prsWords, nbits := 1, addr := a - prsB n }
    else s
  else s
def execPrsScrubRead (n : Fin 4) (upset : Option (BitVec 18)) (s : State) : Res :=
  .next (s.prsScrub n.val (upset.map (fun w => 4 * w.toNat)))

/-- Words of an ingress and of an egress bank (Table 07-13). -/
def matInWords : Nat := 60336
def matEgWords : Nat := 22636
/-- Word i of an ingress bank. -/
def matInOff (i : Nat) : Nat :=
  if i < 432 then 0x40 * (i / 9) + 4 * (i % 9) else if i < 944 then 0x1000 + 4 * (i - 432)
  else if i < 2992 then 0x2000 + 4 * (i - 944) else if i < 11184 then 0x4000 + 4 * (i - 2992)
  else 0x10000 + 4 * (i - 11184)
/-- Word i of an egress bank. -/
def matEgOff (i : Nat) : Nat :=
  if i < 108 then 0x100 * (i / 18) + 0x40 * (i / 9 % 2) + 4 * (i % 9) else if i < 2156 then 0x2000 + 4 * (i - 108)
  else if i < 10348 then 0x4000 + 4 * (i - 2156) else 0xC000 + 4 * (i - 10348)
/-- Word i of all four banks of pair n. -/
def matWordA (n i : Nat) : Nat :=
  if i < 2 * matInWords then matBank n false (i / matInWords) + matInOff (i % matInWords)
  else
    let j := i - 2 * matInWords
    matBank n true (j / matEgWords) + matEgOff (j % matEgWords)

/-- A scrub read of MAT n. -/
def State.matScrub (s : State) (n : Nat) (upset : Option Nat) : State :=
  let s := match upset with
    | some o => if 0x10000 ≤ o && o < 0xD0000 then s.spoil (matB n + o) else s
    | none => s
  let period := s.fld (matB n + 0x40) 15 0 * uMs
  let k := 2 * (matInWords + matEgWords)
  if s.flag (matB n + 0x40) 31 && decide (s.blkState (matB n) ≠ 3) && s.scrubDue (4 + n) k period then
    let a := matWordA n (s.scrub (4 + n)).done
    let s := s.scrubStep (4 + n) k period
    if s.badWord a then s.matBad n a else s
  else s
def execMatScrubRead (n : Fin 4) (upset : Option (BitVec 18)) (s : State) : Res :=
  .next (s.matScrub n.val (upset.map (fun w => 4 * w.toNat)))

/-- Slots that the FWD scrub reads in each pipeline: L2, exact, ternary, egress exact, egress ternary and LPM results. -/
def fwdSlots : Nat := 944128
/-- Memory, slot and space of slot i of pipeline p in the scrub's order (Table 08-1). -/
def fwdSlotAt (p i : Nat) : Nat × Nat :=
  if i < 262144 then (8 + p, i) else if i < 786432 then (p, i - 262144) else if i < 794624 then (12 + p, i - 786432)
  else if i < 925696 then (4 + p, i - 794624) else if i < 927744 then (16 + p, i - 925696) else (20 + p, i - 927744)

/-- The logical table whose range holds a slot: for the notification of a scrub read; table 0 where none does. -/
def State.tabOf (s : State) (m i : Nat) : Tab :=
  let p := m % 4
  if m / 4 = 2 then s.tab 3 p 31
  else
    let sp := if m / 4 = 1 || m / 4 = 4 then 1 else 0
    let holds := fun (t : Tab) => t.en && decide (t.mem = m) &&
      (if t.mem / 4 = 5 then true
       else if t.hashed then decide (4 * t.base ≤ i) && decide (i < 4 * (t.base + 2 ^ t.log2))
       else decide (t.base ≤ i) && decide (i < t.base + 2 ^ t.log2))
    (((List.range (if sp = 1 then 16 else 32)).map (s.tab sp p)).find? holds).getD
      { s.tab sp p 0 with kind := if m / 4 = 3 || m / 4 = 4 then 3 else if m / 4 = 5 then 4 else 1 }

/-- A trie slot as the table keeps it: pipeline, root, the bit its level ends at, and the bits up to there. -/
def trieSlot (pipe root level path : Nat) : Nat × Nat × Nat × Nat :=
  (pipe % 4, root % 4, 16 + 8 * level, path % 2 ^ (16 + 8 * level))

/-- A parity error that a scrub read finds in slot i of memory m. -/
def State.scrubHit (s : State) (m i : Nat) : State :=
  let t := s.tabOf m i
  let no := if m / 4 = 5 then 6 else memNo t
  let e := if t.kind = 8 then s.fm m i else 0
  s.fwdParity (m % 4) no i (notice 5 t 0 0 i e)

/-- A slot's parity goes bad. -/
def State.fwdUpset (s : State) (upset : Option Upset) : State :=
  match upset with
  | some (.slot m i) =>
    let k := slotKey m.val i.toNat
    s.setFwd (fun f => { f with bad := if f.bad.contains k then f.bad else k :: f.bad })
  | some (.trie p r l x) =>
    let k := trieSlot p.val r.val l.val x.toNat
    s.setFwd (fun f => { f with badTrie := if f.badTrie.contains k then f.badTrie else k :: f.badTrie })
  | none => s

/-- Trie slot j of the pass: the level-1 slots of the four pipelines, then those of their nodes. -/
def State.trieAt (s : State) (j : Nat) : Option (Nat × Nat × Nat × Nat) :=
  if j < 4 * 262144 then some (j / 262144, j % 262144 / 65536, 16, j % 65536)
  else
    let l := (List.range 4).flatMap (fun p => (s.trieNodes p).map (fun n => (p, n)))
    (l[(j - 4 * 262144) / 256]?).map (fun x => (x.1, x.2.1, x.2.2.1 + 8, x.2.2.2 * 256 + j % 256))
/-- Slots of a pass: the tables of the four pipelines, their level-1 trie slots, and their trie nodes as they are now. -/
def State.scrubSlots (s : State) : Nat :=
  4 * fwdSlots + 4 * 262144 + 256 * ((List.range 4).map (fun p => (s.trieNodes p).length)).sum

/-- A scrub read of a trie slot. -/
def State.trieScrub (s : State) (k : Nat × Nat × Nat × Nat) : State :=
  if s.dp.fwd.badTrie.contains k then
    let no := s.trieNo k.1 k.2.1 k.2.2.1 k.2.2.2
    let t := ((List.range 32).map (s.tab 0 k.1)).find? (fun t => t.en && (t.kind = 4 || t.kind = 5) && t.base % 4 = k.2.1)
    s.fwdParity k.1 3 no (notice 5 (t.getD { s.tab 0 k.1 0 with kind := 4 }) 0 0 no 0)
  else s

/-- A scrub read of FWD. `one` and `two` are slots whose parity went bad since the last read. -/
def State.fwdScrub (s : State) (one two : Option Upset) : State :=
  let s := (s.fwdUpset one).fwdUpset two
  let period := s.fld (fwdB + 0x40) 15 0 * uMs
  let n := s.scrubSlots
  if !s.flag (fwdB + 0x40) 31 || !s.running fwdB || !s.scrubDue 8 n period then s
  else
    let j := (s.scrub 8).done
    let s := s.scrubStep 8 n period
    let s := if j < 4 * fwdSlots then
        let x := fwdSlotAt (j / fwdSlots) (j % fwdSlots)
        if s.fbad x.1 x.2 then s.scrubHit x.1 x.2 else s
      else match s.trieAt (j - 4 * fwdSlots) with
        | none => s
        | some k => s.trieScrub k
    if (s.scrub 8).done = 0 then (List.range 4).foldl (fun s p => s.recount p) s else s
def execFwdScrubRead (one two : Option Upset) (s : State) : Res := .next (s.fwdScrub one two)

end Sys2Proof.Machine
end

