-- ==== Sys2Proof/Machine/Sch.lean ====
section
/-! DEFINITION. The commands of the scheduler, Orbit and the policers (10_queues_and_scheduling.md). -/
namespace Sys2Proof.Machine

/-! ### Taking a copy off its queue -/

/-- Queue q leaves its port's active list, or goes to its tail; either way its visit is over. -/
def State.leaveList (s : State) (p q : Nat) (tail : Bool) : State :=
  s.setSch (fun d =>
    let l := (mget (fun _ => []) d.active p).filter (· ≠ q)
    { d with active := mput (fun _ => []) d.active p (if tail then l ++ [q] else l), taken := d.taken.filter (· ≠ 32 * p + q) })

/-- Take the copy at place i of a queue out: its cells, its bytes against XOFF and the queue's states follow. -/
def State.takeCopy (s : State) (p q i : Nat) (c : Copy) : State :=
  let s := s.settleCredit p q
  let s := s.setPq p q (fun x => { x with copies := x.copies.eraseIdx i, fitAt := if i = 0 then none else x.fitAt })
  let s := if c.deep then s.spillFlag p q
    else s.setFld (schQ p q + 0x18) 17 0 (s.fld (schQ p q + 0x18) 17 0 - c.cells)
  let s := if (s.pq p q).copies.isEmpty then
      (s.leaveList p q false).setPq p q (fun x => { x with deficit := 0, credit := min 0 x.credit })
    else s
  s.fcRelease c

/-! ### Service (R223–R225) -/

/-- Copies dequeued for port p that have not started: in the egress pipeline and staged. Held frames have a start of their own (R209) and
do not count (DEDUCED: a buffer of 65,536 of them could not fill otherwise). -/
def State.dequeued (s : State) (p : Nat) : List Copy :=
  (s.pipe (p / 4)).egress.filter (fun c => c.vport = p) ++ (s.mac p).staged
/-- Time they take on the wire. -/
def State.wireSum (s : State) (p : Nat) (l : List Copy) : Nat := (l.map (fun c => s.wireTime p c.f.charged)).sum
/-- The expected start of a copy dequeued now. -/
def State.expectedStart (s : State) (p : Nat) : Instant :=
  s.tb + (match (s.mac p).cur with
    | none => 0
    | some t => t.ends - s.mono) + s.wireSum p (s.dequeued p)
/-- The copies not yet started take less than 32 ns. -/
def State.canTake (s : State) (p : Nat) : Bool := decide (s.wireSum p (s.dequeued p) < 32 * uNs)

/-- FIT holds back the head of queue q now (R223). -/
def State.fitHolds (s : State) (p q : Nat) (c : Copy) : Bool :=
  s.orbEn p && s.flag (orbA p) 30 && !s.fitsGate p q s.tb (s.expectedStart p) (s.wireTime p c.f.charged)

/-- Whether queue q is eligible. -/
def State.eligible (s : State) (p q : Nat) : Bool :=
  match (s.pq p q).copies with
  | [] => false
  | c :: _ =>
    (!c.deep || c.win) && !s.isPaused p q && (s.gatesAt p s.tb).testBit q && !s.fitHolds p q c
      && (!s.flag (schQ p q + 0x10) 31 || decide (0 ≤ (s.pq p q).credit))
      && decide (s.stagingUsed p + c.f.charged ≤ s.stagingShare p)

/-- Note for every head whether FIT holds it back now (R230). -/
def State.noteFit (s : State) (p : Nat) : State :=
  (List.range 32).foldl (fun s q => match (s.pq p q).copies with
    | [] => s
    | c :: _ =>
      if !(s.gatesAt p s.tb).testBit q then s
      else if s.fitHolds p q c then s.setPq p q (fun x => { x with fitAt := some (x.fitAt.getD s.mono) })
      else s.setPq p q (fun x => { x with fitAt := none })) s

/-- SCH_PORT_CFG fields and a queue's quantum. -/
def State.spCount (s : State) (p : Nat) : Nat := s.fld (schB + 0x10000 + 0x1000 * p) 5 0
def State.overhead (s : State) (p : Nat) : Nat := s.fld (schB + 0x10000 + 0x1000 * p) 13 8
def State.quantum (s : State) (p q : Nat) : Nat := s.fld (schQ p q) 19 0

/-- Serve the DRR queues (R224): at most `n` visits; `el` are the eligible queues. Answers the queue that sends. -/
def State.drr (p : Nat) (el : List Nat) : Nat → State → Option Nat × State
  | 0, s => (none, s)
  | n + 1, s =>
    match (mget (fun _ => []) s.dp.sch.active p).find? (fun q => decide (s.spCount p ≤ q)) with
    | none => (none, s)
    | some q =>
      if !el.contains q then State.drr p el n (s.leaveList p q true)
      else
        let s := if s.dp.sch.taken.contains (32 * p + q) then s
          else (s.setPq p q (fun x => { x with deficit := x.deficit + s.quantum p q })).setSch
            (fun d => { d with taken := (32 * p + q) :: d.taken })
        let need := (((s.pq p q).copies.head?.map (fun c => c.f.charged)).getD 0) + s.overhead p
        if need ≤ (s.pq p q).deficit then (some q, s.setPq p q (fun x => { x with deficit := x.deficit - need }))
        else State.drr p el n (s.leaveList p q true)

/-- Charge a queue's shaper with n bytes (R225); the transmission ends `dur` from now. -/
def State.chargeShaper (s : State) (p q n : Nat) : State :=
  let w := s.rd (schQ p q + 0x10)
  let rate := s.rateMbps p
  if !bit w 31 || rate = 0 then s
  else
    let send : Int := (bits w 18 0 : Int) - (rate : Int)
    let cost := fun (k : Nat) => send * ((k * 8 * 65536000 : Nat) : Int) / (rate : Int)
    let lo := cost (s.fldA (macPort p + 0xC) 13 0 + s.overhead p)
    s.setPq p q (fun x => { x with
      credit := max (min 0 lo) (x.credit + cost n)
      creditAt := max s.mono x.creditAt + (n * 8 * 65536000 + rate - 1) / rate })

/-- Dequeue the head of queue q into the egress pipeline. -/
def State.dequeue (s : State) (p q : Nat) : State :=
  match (s.pq p q).copies with
  | [] => s
  | c :: _ =>
    let s := (s.settleCredit p q).chargeShaper p q (c.f.charged + s.overhead p)
    let s := s.takeCopy p q 0 c
    let s := (s.bump (schQCnt p q 1) 1).bump (schQCnt p q 2) c.f.len
    s.setPipe (p / 4) (fun x => { x with egress := x.egress ++ [{ c with erse := s.erse (p / 4) }] })

/-- Discard the head of queue q because the link is down (R113). -/
def State.flushHead (s : State) (p q : Nat) : State :=
  match (s.pq p q).copies with
  | [] => s
  | c :: _ => ((((s.takeCopy p q 0 c).bump (schQCnt p q 7) 1).dropFlag p q).stat p 17 1).loseCopy c

/-- The quad's pipelines and MAC take frames: all in RUN (R110, R171). -/
def State.quadServes (s : State) (q : Nat) : Bool := s.running (macB q) && s.running (prsB q) && s.running (matB q)

/-- SCH_DEQUEUE: the scheduler serves port p once. -/
def State.schDequeue (s : State) (p : Nat) : State :=
  if !s.running schB then s
  else if !s.linkIsUp p then
    match (List.range 32).find? (fun q => !(s.pq p q).copies.isEmpty) with
    | none => s
    | some q => s.flushHead p q
  else if !s.quadServes (p / 4) || !s.canTake p then s
  else
    let s := (List.range 32).foldl (fun s q => s.settleCredit p q) s
    let s := s.noteFit p
    let el := (List.range 32).filter (s.eligible p)
    match el.find? (fun q => decide (q < s.spCount p)) with
    | some q => s.dequeue p q
    | none =>
      if el.isEmpty then s
      else
        let r := State.drr p el 6400 s
        match r.1 with
        | none => r.2
        | some q => r.2.dequeue p q
def execSchDequeue (p : Fin 16) (s : State) : Res := .next (s.schDequeue p.val)

/-- A proofing frame: its data stays in the deep buffer until it is staged (R205, R209). -/
def Copy.proofs (c : Copy) : Bool := bit c.f.ce.toNat 57 && bit c.rule.toNat 63 && c.prf = 0

/-- DEEP_REFILL_DONE: the first copy of queue q that still lies in the deep buffer is fetched into the port's refill window of 512 cells
through the refill port; `bad` tells that the memory returned it with an uncorrectable error, as a refused read does (R221, R334). -/
def State.deepRefill (s : State) (p q : Nat) (bad : Bool) : State :=
  let l := (s.pq p q).copies
  match l.findIdx? (fun c => c.deep && !c.win) with
  | none => s
  | some i =>
    match l[i]? with
    | none => s
    | some c =>
      let used := ((List.range 32).map (fun k => (((s.pq p k).copies.filter (·.win)).map (·.cells)).sum)).sum
      if 512 < used + c.cells || !s.running schB || !s.deepServes c then s
      else
        let r := s.deepRead .refill c
        if bad || r.1.2 then (((r.2.takeCopy p q i c).bump (schQCnt p q 9) 1).dropFlag p q).loseCopy { c with at_ := [] }
        else
          let c' := { r.1.1 with win := true, at_ := if c.proofs then c.at_ else [] }
          (r.2.setPq p q (fun x => { x with copies := x.copies.set i c' })).spillFlag p q
def execDeepRefillDone (p : Fin 16) (q : Fin 32) (bad : Bool) (s : State) : Res := .next (s.deepRefill p.val q.val bad)

/-- FIT_DISCARD: FIT has held the head of queue q back through one whole cycle (R230). -/
def State.fitDiscard (s : State) (p q : Nat) : State :=
  match (s.pq p q).copies, (s.pq p q).fitAt, s.orbRun p with
  | c :: _, some t, some b =>
    if s.past (max t (s.orb p).since + b.cycle) && s.flag (orbA p) 30 && (s.fitHolds p q c || !(s.gatesAt p s.tb).testBit q) then
      (((s.takeCopy p q 0 c).bump (schQCnt p q 8) 1).dropFlag p q).loseCopy c
    else s
  | _, _, _ => s
def execFitDiscard (p : Fin 16) (q : Fin 32) (s : State) : Res := .next (s.fitDiscard p.val q.val)

/-! ### Orbit (R228, R229) -/

/-- ORB_GATE_EDGE: an entry boundary changes the gates. -/
def State.gateEdge (s : State) (p : Nat) : State :=
  (s.settlePort p).setOrb p (fun o => { o with gates := s.gatesAt p s.tb })
def execOrbGateEdge (p : Fin 16) (s : State) : Res := .next (s.gateEdge p.val)

/-- ORB_BANK_TAKEOVER: at S the pending bank takes over. -/
def State.orbTakeover (s : State) (p : Nat) : State :=
  if s.orbEn p && s.orbPending p && decide ((s.orb p).start ≤ s.tb) then
    let s := s.settlePort p
    let s := s.setFld (orbA p) 1 0 (1 - s.orbActive p)
    let s := s.setOrb p (fun o => { o with running := true, since := s.mono })
    (s.setOrb p (fun o => { o with gates := s.gatesAt p s.tb })).raise schB Ev.orbSwitch (Src.port p)
  else s
def execOrbBankTakeover (p : Fin 16) (s : State) : Res := .next (s.orbTakeover p.val)

/-- ORB_SWITCH_WRITE: ORB_CTRL written with EN and SWITCH; `fit` is its FIT bit. -/
def execOrbSwitchWrite (p : Fin 16) (fit : Bool) (s : State) : Res :=
  .next ((s.settlePort p.val).orbWrite p.val (if fit then 0xE0000000 else 0xA0000000))
/-- ORB_EN_WRITE: ORB_CTRL written without SWITCH. -/
def execOrbEnWrite (p : Fin 16) (en fit : Bool) (s : State) : Res :=
  .next ((s.settlePort p.val).orbWrite p.val (b2n en * 2 ^ 31 + b2n fit * 2 ^ 30))

/-! ### Policers (R227) -/

/-- POL_Wn. -/
def polW (n : Nat) : Nat := schB + 0x200004 + 4 * n

/-- Write W0–W3 to the policer; a change of a rate or a burst sets both buckets. -/
def State.polStore (s : State) (k : Nat) : State :=
  let old := (s.pol k).fill s.mono
  let w := pk [(32, Nat.land (s.rd (polW 0)) 0xF0FFFFFF), (32, Nat.land (s.rd (polW 1)) 0xFFFFFF),
    (32, Nat.land (s.rd (polW 2)) 0xFFFFFF), (32, Nat.land (s.rd (polW 3)) 0xFFFFFF)]
  let new : Pol := { old with w := BitVec.ofNat 128 w, yellow := 0, red := 0 }
  let same := (List.range 4).all (fun i => new.word i % 2 ^ 24 = old.word i % 2 ^ 24)
  let full := bit (new.word 0) 29
  s.setPol k (if same then new else { new with tc := if full then new.cbs else 0, tp := if full then new.pbs else 0 })

/-- Read the policer into W0–W7. -/
def State.polLoad (s : State) (k : Nat) : State :=
  let p := (s.pol k).fill s.mono
  let s := s.setPol k p
  let s := (List.range 4).foldl (fun s i => s.wr (polW i) (p.word i)) s
  (((s.wr (polW 4) (p.tc / polUnit)).wr (polW 5) (p.tp / polUnit)).wr (polW 6) p.yellow).wr (polW 7) p.red

/-- A write of POL_SEL: READ or WRITE while BUSY, and a WRITE with PIR below CIR under MODE 0, are discarded and counted. A command makes
BUSY read 1 for 10 to 40 ns (Table 10-1). -/
def State.polSel (s : State) (v : Nat) : State :=
  if (bit v 29 || bit v 28) && decide (s.mono < s.dp.sch.polBusy) then s.reject schB 0x200000
  else if bit v 29 && !s.flag (polW 0) 31 && decide (s.fld (polW 1) 23 0 < s.fld (polW 0) 23 0) then s.reject schB 0x200000
  else
    let k := bits v 12 0
    let s := s.wr (schB + 0x200000) k
    let s := if bit v 29 then s.polStore k else s
    let s := if bit v 28 then s.polLoad k else s
    if bit v 29 || bit v 28 then
      let d := s.draw
      d.2.setSch (fun x => { x with polBusy := s.mono + (10 + Config.anyNat d.1 % 31) * uNs })
    else s
/-- POL_WRITE: POL_SEL written with WRITE. -/
def execPolWrite (k : BitVec 13) (s : State) : Res := .next (s.polSel (2 ^ 29 + k.toNat))
/-- POL_READ: POL_SEL written with READ. -/
def execPolRead (k : BitVec 13) (s : State) : Res := .next (s.polSel (2 ^ 28 + k.toNat))

end Sys2Proof.Machine
end

