-- ==== Sys2Proof/Machine/SeqPrf.lean ====
section
/-! DEFINITION. The commands of the sequencer and of proofing (09_sequencer_and_proofing.md). -/
namespace Sys2Proof.Machine

/-! ### Sequencer (R198) -/

/-- SEQ_ADMIT: the head with the smallest key, one in a 4-ns cycle and before the cycle's emission. -/
def State.seqAdmitNow (s : State) : State :=
  if s.dp.seq.admitAt = some s.seqCycle || s.dp.seq.emitAt = some s.seqCycle then s
  else match s.seqHead with
    | none => s
    | some m => s.seqAdmit m
def execSeqAdmit (s : State) : Res := .next s.seqAdmitNow

/-- SEQ_EMIT: the settled held frame with the smallest key, after the cycle's admission. -/
def State.seqEmitNow (s : State) : State :=
  let c := s.seqCycle
  if s.dp.seq.emitAt = some c || (decide (s.dp.seq.admitAt ≠ some c) && s.seqHead.isSome) then s
  else match firstMember (s.dp.seq.hold.filter (fun m => decide (m.settle ≤ c))) with
    | none => s
    | some m => s.seqNumber m
def execSeqEmit (s : State) : Res := .next s.seqEmitNow

/-! ### Proofing (R209–R214) -/

/-- PRF_FETCH: LEAD_NS before its release instant the next held frame's data goes into staging, when it has room; from the deep buffer
through the proofing-refill port, and a read that fails never stages it (R209, Table 16-4). -/
def State.prfFetch (s : State) (p : Nat) : State :=
  match s.nextHeld p (fun h => !h.fetched && !h.bad) with
  | none => s
  | some (h, i) =>
    let c := { h.cp with f := { h.cp.f with bytes := padFrame h.cp.f.bytes } }
    if s.tb + h.lead < i || decide (s.startInstant p i < s.tb) || !s.linkIsUp p || !s.running (macB (p / 4)) || !s.deepServes c then s
    else if s.frameLimit p c.f.bytes < c.f.bytes.length + 4 then
      (((s.dropHeld h).stat p 18 1).leaveGroup c).endCopy c.f.id (!c.deep) .dropped
    else if s.stagingShare p < s.stagingUsed p + c.f.charged then s
    else
      let r := s.deepRead .prf c
      let h' := if r.1.2 then { h with bad := true } else { h with cp := r.1.1, fetched := true }
      r.2.setHeld p ((s.heldOf p).map (fun x => if x = h then h' else x))
def execPrfFetch (p : Fin 16) (s : State) : Res := .next (s.prfFetch p.val)

/-- The release error of the frame that started (R210), in ps. -/
def State.prfError (s : State) (p : Nat) (i : Instant) : State :=
  match (s.mac p).cur with
  | none => s
  | some t =>
    let a := prfB + 0x108 + 0x10 * p
    let e : Int := ((t.cap.ts : Int) - (i : Int)) * 1000 / 65536
    let last := (max (-32768) (min 32767 e)).emod 65536 |>.toNat
    s.wr a (max (s.fld a 31 16) (min 0xFFFF e.natAbs) * 65536 + last)

/-- A held frame sent before was still being transmitted at a start instant that is past. -/
def State.heldSending (s : State) (p : Nat) (start : Instant) : Bool := decide (s.mono - (s.tb - start) < (s.mac p).heldEnds)

/-- PRF_RELEASE: at its start instant the next held frame starts, or its release is missed (Table 09-3): its data is not staged, an
earlier held frame is still being transmitted, or its priority is paused. Any other frame has ended by then (R209), once its end is
told. -/
def State.prfRelease (s : State) (p : Nat) : State :=
  match s.nextHeld p (fun _ => true) with
  | none => s
  | some (h, i) =>
    let start := s.startInstant p i
    if s.tb < start then s
    else if !s.linkIsUp p then (s.dropHeld h).prfLinkDown h.cp
    else if !h.fetched || s.heldSending p start || s.isPaused p h.cp.queue then (s.dropHeld h).prfMiss h.cp
    else if (s.mac p).cur.isSome || !s.past (s.mac p).busyTo then s
    else
      let s := ((s.dropHeld h).bump (prfCnt (p / 4) 1) 1).leaveGroup h.cp
      let s := (s.startTx p { h.cp with prf := 1, grp := none }).prfError p i
      s.setMac p (fun m => { m with heldEnds := match m.cur with
        | none => m.heldEnds
        | some t => t.ends })
def execPrfRelease (p : Fin 16) (s : State) : Res := .next (s.prfRelease p.val)

/-- PRF_GROUP_TIMEOUT: GROUP_WAIT_US after the first copy of a group entered, its R is fixed (R213). -/
def State.prfGroupTimeout (s : State) : State :=
  let wait := s.fldA (prfB + 0x40) 15 0 * uUs
  match s.dp.prf.groups.find? (fun x => x.r.isNone && (match x.first with
      | none => false
      | some t => s.past (t + wait))) with
  | none => s
  | some x =>
    let lead := (x.ports.map s.leadOf).foldl max 0
    (s.fixGroup x (s.now + lead + x.guard)).raise prfB Ev.prfGroupTimeout Src.device
def execPrfGroupTimeout (s : State) : Res := .next s.prfGroupTimeout

/-- PRF_CAL_START: a write of CAL_START, ignored while it runs or the link is not UP (R210). -/
def State.prfCalWrite (s : State) (p : Nat) : State :=
  if s.flag (prfB + 0x104 + 0x10 * p) 30 || !s.linkIsUp p then s else s.prfCalStart p
def execPrfCalStart (p : Fin 16) (s : State) : Res := .next (s.prfCalWrite p.val)

/-- PRF_CAL_DONE: 16 frames were measured; PRF_PORT_ADJ takes their mean (R210). -/
def State.prfCalDone (s : State) (p : Nat) : State :=
  let a := prfB + 0x104 + 0x10 * p
  let cal : Nat × Int := mget (fun _ => (16, 0)) s.dp.prf.cal p
  if s.flag a 30 && cal.1 = 0 then
    let adj := cal.2 / 16
    let s := s.setPrf (fun f => { f with adj := mput (fun _ => none) f.adj p (some adj) })
    let s := (s.setFld a 31 30 (2 * b2n (s.flag (tsuB p + 0x50) 1))).wr (a + 8) (BitVec.ofInt 32 adj).toNat
    s.raise prfB Ev.prfCalDone (Src.port p)
  else s
def execPrfCalDone (p : Fin 16) (s : State) : Res := .next (s.prfCalDone p.val)

end Sys2Proof.Machine
end

