-- ==== Sys2Proof/Machine/Svc.lean ====
section
/-! DEFINITION. Meanings of the commands of the engine-hosted services (13_engine_offloads.md). -/
namespace Sys2Proof.Machine

/-! ### Frames at a cluster -/

/-- The service takes the frame at the head of a cluster's queue. -/
def State.svcTake (s : State) (x : Copy) (fate : Fate) : State :=
  let s := s.takeWaiting x fate
  s.setFld (engB (x.vport - 272) + 0x100 + 4 * x.queue) 12 0 (s.vq x.vport x.queue).length
/-- It discards that frame, and counts it. -/
def State.svcDiscard (s : State) (x : Copy) : State :=
  (s.svcTake x .dropped).setSvc (fun y => { y with discards := y.discards + 1 })

/-! ### The slow path (R284, R285) -/

/-- The policy of a reason: what the owner set, else the default. -/
def State.slowPolicy (s : State) (r : Nat) : SpPolicy :=
  match mget (fun _ => none) s.svc.policy r with
  | some p => p
  | none =>
    if r = 0x0E then .reassemble
    else if r = 0x20 then .icmp
    else if r = 0x0C || r = 0x0D || decide (0x21 ≤ r ∧ r ≤ 0x24) then .mgc
    else if decide (0x40 ≤ r) && s.svc.custom.contains r then .custom
    else .discard

/-- A policy that a reason allows: REASSEMBLE for fragments, ICMP for TTL_EXPIRED, CUSTOM where a handler is registered. -/
def State.policyAllowed (s : State) (r : Nat) (p : SpPolicy) : Bool :=
  match p with
  | .discard => true
  | .mgc => true
  | .reassemble => r = 0x0E
  | .icmp => r = 0x20
  | .custom => s.svc.custom.contains r

/-- A setting of the owner, and what MGC firmware answers: OK, or BAD_OPTION for one it refuses. A policy of CUSTOM ends with its handler. -/
def State.svcSet (s : State) (x : SpSet) : Nat × State :=
  match x with
  | .policy r p =>
    if s.policyAllowed r.toNat p then (0, s.setSvc (fun y => { y with policy := mput (fun _ => none) y.policy r.toNat (some p) })) else (0x11, s)
  | .handler r on =>
    if r.toNat < 0x40 || 0x7F < r.toNat then (0x11, s)
    else (0, s.setSvc (fun y => { y with
      custom := if on then r.toNat :: y.custom.filter (· ≠ r.toNat) else y.custom.filter (· ≠ r.toNat),
      policy := if !on && mget (fun _ => none) y.policy r.toNat = some .custom then mput (fun _ => none) y.policy r.toNat none else y.policy }))
  | .icmpPps n => (0, s.setSvc (fun y => { y with icmpPps := some n }))
  | .reasmMs n => if n < 1 || 60000 < n then (0x11, s) else (0, s.setSvc (fun y => { y with reasmMs := n }))
  | .mask k m => if k.val = 0 || m = 0 then (0x11, s) else (0, s.setSvc (fun y => { y with masks := mput (fun _ => 0xFFF) y.masks k.val m.toNat }))

/-- The settings that come before a command, in order, and their answers. -/
def State.svcSets (s : State) (l : List SpSet) : State :=
  if l.isEmpty then s
  else
    let r := l.foldl (fun r x => let y := r.2.svcSet x; (r.1 ++ [y.1], y.2)) (([] : List Nat), s)
    r.2.setSvc (fun y => { y with lastSet := r.1 })

/-- The Time Exceeded message for a frame, to its source; its own address is a free value. -/
def State.timeExceeded (s : State) (c : Nat) (bs : List Byte) : State :=
  match ipView bs with
  | none => s
  | some (ip, l4, _, e) =>
    let d := s.draw
    let mac := slice bs 6 6 ++ slice bs 0 6 ++ slice bs 12 (ip - 12)
    if beAt bs ip 1 / 16 = 6 then
      let hdr := mac ++ [0x60, 0, 0, 0, 0, 0, 58, 64] ++ bytesBE 16 (Config.anyNat d.1) ++ slice bs (ip + 8) 16
      let m := [3, 0, 0, 0, 0, 0, 0, 0] ++ slice bs ip (min (e - ip) 1232)
      d.2.svcEmit c (sealIp hdr ip (patch m 2 (bytesBE 2 (inetCsum (pseudoHdr hdr ip 58 m.length ++ m)))))
    else
      let hdr := mac ++ [0x45, 0, 0, 0, 0, 0, 0, 0, 64, 1, 0, 0] ++ bytesBE 4 (Config.anyNat d.1) ++ slice bs (ip + 12) 4
      let m := [11, 0, 0, 0, 0, 0, 0, 0] ++ slice bs ip (min (e - ip) (l4 - ip + 8))
      d.2.svcEmit c (sealIp hdr ip (patch m 2 (bytesBE 2 (inetCsum m))))

/-- A TTL_EXPIRED frame: a message while SP_ICMP_PPS of this second allows it; the frame is freed. -/
def State.slowIcmp (s : State) (c : Nat) (x : Copy) : State :=
  let sec := secOf s.now
  let n := if s.svc.icmpSec = sec then s.svc.icmpN else 0
  let s := s.svcTake x .delivered
  if n < s.svc.icmpPps.getD Config.icmpPps then
    (s.setSvc (fun y => { y with icmpSec := sec, icmpN := n + 1 })).timeExceeded c x.f.bytes
  else s

/-- A fragment: its key, the header up to the fragmented payload with the offset of its IP header, the position of the next-header byte to
restore and its value, the offset, whether more follow, and its bytes. -/
structure Frag where
  key : List Byte
  head : List Byte
  ip : Nat
  proto : Nat
  off : Nat
  more : Bool
  body : List Byte
  deriving DecidableEq, Repr

/-- Where the IPv6 fragment header lies behind hop-by-hop, routing and destination headers: the offset of the byte that names it, and its own
offset. -/
def frag6 (bs : List Byte) : Nat → Nat → Nat → Option (Nat × Nat)
  | 0, _, _ => none
  | n + 1, at_, o =>
    let t := beAt bs at_ 1
    if t = 44 then some (at_, o) else if t = 0 || t = 43 || t = 60 then frag6 bs n o (o + 8 * (beAt bs (o + 1) 1 + 1)) else none

/-- The fragment that a frame carries. -/
def fragOf (bs : List Byte) : Option Frag :=
  match ipView bs with
  | none => none
  | some (ip, l4, p, e) =>
    if beAt bs ip 1 / 16 = 6 then
      match frag6 bs 8 (ip + 6) (ip + 40) with
      | none => none
      | some (at_, o) =>
        if e < o + 8 then none
        else some ⟨[6] ++ slice bs (ip + 8) 32 ++ slice bs (o + 4) 4, patch (bs.take o) at_ [bs.getD o 0], ip, beAt bs o 1,
          beAt bs (o + 2) 2 / 8 * 8, bit (beAt bs (o + 3) 1) 0, slice bs (o + 8) (e - o - 8)⟩
    else
      let w := beAt bs (ip + 6) 2
      if e < l4 then none
      else some ⟨[4] ++ slice bs (ip + 12) 8 ++ slice bs (ip + 4) 2 ++ [BitVec.ofNat 8 p], patch (bs.take l4) (ip + 6) [0, 0], ip, p,
        bits w 12 0 * 8, bit w 13, slice bs l4 (e - l4)⟩

/-- The first fragment holds the whole transport header. -/
def wholeL4 (proto : Nat) (b : List Byte) : Bool :=
  if proto = 6 then decide (20 ≤ b.length) && decide (4 * (beAt b 12 1 / 16) ≤ b.length)
  else if proto = 17 || proto = 1 || proto = 58 then decide (8 ≤ b.length)
  else true

/-- A fault of a fragment against what its datagram already holds (R285). The reassembled frame has the header of the first fragment, where
it is known. -/
def fragBad (r : Reasm) (g : Frag) : Bool :=
  let hi := g.off + g.body.length
  let top := r.pieces.foldl (fun m p => max m (p.1 + p.2.length)) hi
  let head := if g.off = 0 then g.head.length else (r.head.getD g.head).length
  r.pieces.any (fun p => decide (p.1 < hi) && decide (g.off < p.1 + p.2.length))
    || decide (9728 < head + top)
    || (g.off = 0 && !wholeL4 g.proto g.body)
    || (g.more && (g.body.length % 8 ≠ 0 || g.body.isEmpty))
    || (match r.total with
        | some t => decide (t < hi) || (!g.more && hi ≠ t)
        | none => !g.more && r.pieces.any (fun p => decide (hi < p.1 + p.2.length)))

/-- A datagram and every fragment of it go, and the event is counted. -/
def State.reasmDrop (s : State) (r : Reasm) : State :=
  s.setSvc (fun y => { y with reasm := y.reasm.filter (fun z => !(z.c = r.c && z.key = r.key)), reasmDrops := y.reasmDrops + 1 })

/-- A complete datagram is emitted into the pipeline that its first fragment came from. -/
def State.reasmEmit (s : State) (r : Reasm) (ip total : Nat) : State :=
  let body := (List.range total).map (fun i => match r.pieces.find? (fun p => decide (p.1 ≤ i) && decide (i < p.1 + p.2.length)) with
    | none => 0
    | some p => p.2.getD (i - p.1) 0)
  let s := s.setSvc (fun y => { y with reasm := y.reasm.filter (fun z => !(z.c = r.c && z.key = r.key)) })
  let b := s.birth { id := 0, bytes := sealIp (r.head.getD []) ip body, src := .cluster r.c, md := busOf (272 + r.c) s.now false }
  b.2.setPipe r.pipe (fun y => { y with clus := y.clus ++ [b.1] })

/-- A fragment at a cluster. -/
def State.slowFrag (s : State) (c : Nat) (x : Copy) : State :=
  match fragOf x.f.bytes with
  | none => s.svcDiscard x
  | some g =>
    match s.svc.reasm.find? (fun r => r.c = c && r.key = g.key), decide (4096 ≤ s.svc.reasm.length) with
    | none, true => (s.svcDiscard x).setSvc (fun y => { y with reasmDrops := y.reasmDrops + 1 })
    | r?, _ =>
      let r := r?.getD { c := c, key := g.key, since := s.mono }
      if fragBad r g then (s.svcDiscard x).reasmDrop r
      else
        let r' := { r with
          pieces := r.pieces ++ [(g.off, g.body)], total := if g.more then r.total else some (g.off + g.body.length),
          head := if g.off = 0 then some g.head else r.head, pipe := if g.off = 0 then x.f.pipe else r.pipe }
        let s := s.svcTake x .delivered
        let s := s.setSvc (fun y => { y with reasm := y.reasm.filter (fun z => !(z.c = c && z.key = g.key)) ++ [r'] })
        match r'.total, r'.head with
        | some t, some _ => if (r'.pieces.map (fun p => p.2.length)).sum = t then s.reasmEmit r' g.ip t else s
        | _, _ => s

/-- A frame with a slow reason at the head of a cluster's queue is handled by its policy; what customer firmware handles stays for it. -/
def State.slowHandle (s : State) (c q : Nat) : State :=
  match s.vq (272 + c) q with
  | [] => s
  | x :: _ =>
    if x.f.reason = 0 || !s.running (engB c) then s
    else match s.slowPolicy x.f.reason with
      | .mgc =>
        let s := s.svcTake x .delivered
        let b := s.birth { id := 0, bytes := x.f.bytes, src := .cluster c, md := busOf (272 + c) s.now false, phv := x.f.phv, reason := x.f.reason, pipe := x.f.pipe }
        let w := b.2.poolWrite b.1
        if w.1 then w.2.enqueueAll b.1 (.one 284 0) false else w.2
      | .reassemble => s.slowFrag c x
      | .icmp => s.slowIcmp c x
      | .custom => s
      | .discard => s.svcDiscard x
/-- SLOW_PATH_HANDLE, after what the owner has set. -/
def execSlowPathHandle (c : Fin 12) (q : SlowReq) (s : State) : Res := .next ((s.svcSets q.set).slowHandle c.val q.q.val)

/-- REASM_TIMEOUT: the oldest datagram not complete within SP_REASM_MS. -/
def State.reasmLate (s : State) : State :=
  match s.svc.reasm.find? (fun r => s.past (r.since + s.svc.reasmMs * uMs)) with
  | none => s
  | some r => s.reasmDrop r
def execReasmTimeout (s : State) : Res := .next s.reasmLate

/-! ### TCP (R286, R287) -/

/-- The header of a reply to a frame: addresses turned round, a plain IP header. -/
def replyHdr (bs : List Byte) (ip proto : Nat) : List Byte :=
  let mac := slice bs 6 6 ++ slice bs 0 6 ++ slice bs 12 (ip - 12)
  if beAt bs ip 1 / 16 = 6 then mac ++ [0x60, 0, 0, 0, 0, 0, BitVec.ofNat 8 proto, 64] ++ slice bs (ip + 24) 16 ++ slice bs (ip + 8) 16
  else mac ++ [0x45, 0, 0, 0, 0, 0, 0x40, 0, 64, BitVec.ofNat 8 proto, 0, 0] ++ slice bs (ip + 16) 4 ++ slice bs (ip + 12) 4

/-- A SYN for a listener: a context in OPENING that answers it; past the backlog or the quota it is dropped. -/
def State.tcpAccept (s : State) (c : Nat) (x : Copy) (g : TcpSeg) : State :=
  match s.svc.listen.find? (fun l => l.port = g.dport && s.fnState l.f = 1), ipView x.f.bytes with
  | some l, some (ip, _, _, _) =>
    let n := s.svc.ctx.countP (fun e => e.2.fn = l.f && e.2.kind = 1 && e.2.state = 1 && e.2.req.lport = l.port)
    if g.flags % 32 ≠ 2 || l.backlog ≤ n then s.svcDiscard x
    else
      let r := { l.req with hdr := replyHdr x.f.bytes ip 6, ip := ip, lport := g.dport, rport := g.sport }
      let m := s.svcMask 1
      let h := if m.testBit c then (c, s) else s.pickHome m
      match h.2.ctxAlloc l.f h.1 r 0 0 none with
      | none => s
      | some (none, _) => s.svcDiscard x
      | some (some id, a) =>
        let d := a.draw
        let iss := seq32 (Config.anyNat d.1)
        let s := (d.2.svcTake x .delivered).setCtx id (fun k => { k.synSeen g with
          flowid := mdF x.f.md 2 31 0, sndUna := iss, sndNxt := seq32 (iss + 1), sentAt := s.mono, rtt := some (seq32 (iss + 1), s.mono) })
        let s := match s.tq_ l.f false r.txq with
          | some t => if t.typ = 1 && t.ctx.isNone then s.setTq l.f false r.txq (some { t with ctx := some id }) else s
          | none => s
        s.tcpOut id iss 0x12 []
  | _, _ => s.svcDiscard x

/-- TCP_SEGMENT_RX: the frame at the head of a cluster's queue is a segment of a connection, or opens one. Frames steered to a context that
is stopped are discarded and counted (R390). -/
def State.tcpFrame (s : State) (c q : Nat) (e : Ecc) : State :=
  match s.vq (272 + c) q with
  | [] => s
  | x :: _ =>
    if x.f.reason ≠ 0 || !s.running (engB c) then s
    else match tcpOf x.f.bytes with
      | none => s
      | some g => match s.ctxOf c (mdF x.f.md 2 31 0) [1] with
        | none => s.tcpAccept c x g
        | some id => match s.ctxTouch id e with
          | none => s
          | some (ok, t) =>
            if !ok || !t.ctxLive (t.ctx id) then t.svcDiscard x
            else (t.svcTake x .delivered).tcpRx id g x.f.entry
def execTcpSegmentRx (c : Fin 12) (q : Fin 16) (e : Ecc) (s : State) : Res := .next (s.tcpFrame c.val q.val e)

/-- Retransmission is due: something is unacknowledged, or payload waits behind a closed window (RFC 9293). -/
def Ctx.awaits (c : Ctx) : Bool :=
  c.kind = 1 && decide (1 ≤ c.state) && decide (c.state ≤ 3) && !c.aborted && (c.sndUna ≠ c.sndNxt || (c.estab && c.wnd = 0 && !c.unsent.isEmpty))

/-- After eight retransmissions without acknowledgement the connection ends. -/
def State.tcpGiveUp (s : State) (id : Nat) : State :=
  let st := (s.ctx id).state
  let s := s.setCtx id (fun c => { c with sent := [], unsent := [], finSent := true, sndUna := c.sndNxt, aborted := true })
  if st = 3 then s.svcErr id 0x16 else s.svcFail id 0x16

/-- The oldest segment is sent again, or one byte past a closed window; a retransmission leaves a congestion window of one segment
(RFC 5681). -/
def State.tcpAgain (s : State) (id : Nat) : State :=
  let c := s.ctx id
  if c.sndUna = c.sndNxt then s.tcpData1 id (c.unsent.take 1)
  else
    (s.setCtx id (fun c => { c with
      retries := c.retries + 1, ssthresh := if c.retries = 0 then c.half else c.ssthresh, cwnd := if c.estab then c.smss else c.cwnd,
      recov := if c.estab then 2 else 0, recover := if c.estab then c.sndNxt else c.recover, dups := 0 })).tcpResend id

/-- TCP_RETRANSMIT_TIMEOUT: at intervals that double. -/
def State.tcpRetry (s : State) (id : Nat) : State :=
  if !(s.ctx id).awaits || !s.ctxLive (s.ctx id) || !s.past ((s.ctx id).sentAt + (s.ctx id).rto) then s
  else match s.ctxTouch id .clean with
    | none => s
    | some (ok, s) => if !ok then s else if 8 ≤ (s.ctx id).retries then s.tcpGiveUp id else s.tcpAgain id
def execTcpRetransmitTimeout (id : BitVec 14) (s : State) : Res := .next (s.tcpRetry id.toNat)

/-- TCP_KEEPALIVE_TIMEOUT: nothing was heard of the peer for the keepalive interval. A probe asks for an acknowledgement; after as many as the session
asked for, the connection ends. -/
def State.tcpKeep (s : State) (id : Nat) : State :=
  let c := s.ctx id
  if !(c.kind = 1 && c.state = 2 && !c.aborted && 0 < c.req.keepMs) || !s.ctxLive c || !s.past (c.heardAt + (c.probes + 1) * c.req.keepMs * uMs) then s
  else match s.ctxTouch id .clean with
    | none => s
    | some (ok, s) =>
      if !ok then s
      else if c.req.keepN ≤ c.probes then s.tcpGiveUp id
      else (s.setCtx id (fun c => { c with probes := c.probes + 1 })).tcpOut id (seq32 (c.sndNxt + 2 ^ 32 - 1)) 0x10 []
def execTcpKeepaliveTimeout (id : BitVec 14) (s : State) : Res := .next (s.tcpKeep id.toNat)

/-! ### TLS, ESP, NVMe/TCP -/

/-- TLS_RECORD_RX: the next record of a session's stream. -/
def State.tlsGo (s : State) (id : Nat) (e : Ecc) : State :=
  let c := s.ctx id
  if c.kind ≠ 2 || (c.state ≠ 2 && c.state ≠ 3) || !s.ctxLive c then s
  else match s.ctxPair id e with
    | none => s
    | some (ok, s) => if ok then s.tlsRx id else s
def execTlsRecordRx (id : BitVec 14) (e : Ecc) (s : State) : Res := .next (s.tlsGo id.toNat e)

/-- ESP_PACKET_RX: the frame at the head of a cluster's queue is a packet of an inbound SA. -/
def State.espFrame (s : State) (c q : Nat) (e : Ecc) : State :=
  match s.vq (272 + c) q with
  | [] => s
  | x :: _ =>
    if x.f.reason ≠ 0 || !s.running (engB c) then s
    else match espOf x.f.bytes, s.ctxOf c (mdF x.f.md 2 31 0) [3] with
      | some (spi, lo, iv, body), some id =>
        match s.ctxTouch id e with
        | none => s
        | some (ok, t) =>
          if !ok || !t.ctxLive (t.ctx id) || (t.ctx id).req.spi ≠ spi then t.svcDiscard x
          else (t.svcTake x .delivered).espRx id lo iv body x.f.entry
      | _, _ => s
def execEspPacketRx (c : Fin 12) (q : Fin 16) (e : Ecc) (s : State) : Res := .next (s.espFrame c.val q.val e)

/-- NVME_PDU_RX: the next PDU of a connection's stream; `host` is what the registered buffer of an R2T holds. -/
def State.nvmeGo (s : State) (id : Nat) (host : List Byte) (e : Ecc) : State :=
  let c := s.ctx id
  if c.kind ≠ 5 || (c.state ≠ 2 && c.state ≠ 3) || !s.ctxLive c then s
  else match s.ctxPair id e with
    | none => s
    | some (ok, s) => if ok then s.nvmeRx id host else s
def execNvmePduRx (id : BitVec 14) (host : List Byte) (e : Ecc) (s : State) : Res := .next (s.nvmeGo id.toNat host e)

/-- CONTEXT_FREE: a CLOSING context returns to FREE (R282). -/
def execContextFree (id : BitVec 14) (s : State) : Res := .next (s.ctxFreeNow id.toNat)

end Sys2Proof.Machine
end

