-- ==== Sys2Proof/Machine/Tail.lean ====
section
/-! DEFINITION. The commands of the Tail and of Stream Link (04_records_and_stream_port.md). A time-driven command acts
once its time has come by the elapsed time, and otherwise leaves the state as it is. -/
namespace Sys2Proof.Machine

/-- LINK_NS after its first unit, the open link closes (R87). -/
def State.linkNsExpire (s : State) : State :=
  if !s.tl.body.isEmpty && s.past (s.tl.opened + s.tailLinkNs * uNs) then s.closeLink else s
def execLinkNsExpire (s : State) : Res := .next s.linkNsExpire

/-- INTERVAL_MS has passed and no checkpoint awaits its signature (R93). -/
def State.cpIntervalExpire (s : State) : State :=
  if s.tailOn && s.tl.slots.isEmpty && s.tl.due.isNone && s.past (s.tl.lastCp + s.fld (tailB + 0x48) 31 16 * uMs) then
    s.cpDue .interval
  else s
def execCpIntervalExpire (s : State) : Res := .next s.cpIntervalExpire

/-- MAX_MS has passed since the last checkpoint; it does not apply while a checkpoint waits for room (R90, R93). -/
def State.cpMaxExpire (s : State) : State :=
  if s.tailOn && s.tl.due.isNone && s.past (s.tl.lastCp + s.fld (tailB + 0x48) 15 0 * uMs) then
    let room := s.cpRoom
    let s := s.cpDue .interval
    if room then (s.bump (tailCnt 5) 1).raise tailB Ev.tailCpMax Src.device else s
  else s
def execCpMaxExpire (s : State) : Res := .next s.cpMaxExpire

/-- TAIL_CP_CTRL.REQ (R93). -/
def State.cpReq (s : State) : State := if s.tailOn then s.cpDue .request else s
def execCpReq (s : State) : Res := .next s.cpReq

/-- A waiting checkpoint is taken once the room exists; a stored TQ unit goes first (R90). -/
def State.cpDeferredTake (s : State) : State :=
  match s.tl.due with
  | none => s
  | some c => if s.tl.tqStore.isNone && s.cpRoom then s.takeCp c else s
def execCpDeferredTake (s : State) : Res := .next s.cpDeferredTake

/-- The stored TQ unit is chained (R90). -/
def execTqStoreFlush (s : State) : Res := .next s.flushTq

/-- KEY_CTL.ID_PRESENT (R323). -/
def State.idPresent (s : State) : Bool := s.flag (cipB + 0x200) 30

/-- TAIL_CP_CTRL.SIGN (R94, R323): ignored when nothing is pending or a signing is in progress. -/
def State.cpSign (s : State) : State :=
  if !s.tl.slots.isEmpty && !s.tl.signing && s.idPresent then s.setTl (fun t => { t with signing := true }) else s
def execCpSign (s : State) : Res := .next s.cpSign

/-- The signing of the oldest slot ends and its pair enters the output path (R92, R94). -/
def State.cpSignDone (s : State) : State :=
  match s.tl.slots with
  | [] => s
  | u :: r =>
    if s.tl.signing then
      let d := s.draw
      let sg := identitySign (Config.anyNat d.1) (sha256 (unitBytes u))
      let s := d.2.setTl (fun t => { t with slots := r, signing := false })
      (((s.place u).place sg).bump (tailCnt 4) 1).cpRegs
    else s
def execCpSignDone (s : State) : Res := .next s.cpSignDone

/-- A unit is read back from the ring when the sink can take it, in order (R96), once its channels serve the read. It is released
later (R97). A unit whose read is uncorrectable is not sent (Table 16-4). -/
def State.ringReadback (s : State) : State :=
  match s.tl.ring[s.tl.rd]? with
  | none => s
  | some e =>
    if s.sinkTakes 1 && s.memServes (s.ringPlace s.tl.rd) 64 then
      let r := s.ringLoad s.tl.rd
      let s := r.2.setTl (fun t => { t with rd := t.rd + 1 })
      match r.1 with
      | some u => (s.setTl (fun t => { t with skip := 0 })).toSink ⟨u, true, e, s.tl.skip⟩
      | none => (s.setTl (fun t => { t with skip := t.skip + 1 })).ringRelease 0
    else s
def execRingReadback (s : State) : Res := .next s.ringReadback

/-- The drain writes a unit at BASE + 64 × (PROD mod SIZE) and advances PROD (R98); a ring unit is then released. -/
def State.drainWrite (s : State) : State :=
  let h := s.ownerHp
  let size := s.rd (tailB + 0x308)
  let prod := s.rd (tailB + 0x30C)
  match s.tl.drainQ with
  | [] => s
  | r :: q =>
    if s.drainUp && decide ((prod + 2 ^ 32 - s.rd (tailB + 0x310)) % 2 ^ 32 < size) then
      let base := s.rd (tailB + 0x300) + s.rd (tailB + 0x304) * 2 ^ 32
      let s := s.emit (.dmaWrite (256 + h) (base + 64 * (prod % size)) (unitBytes r.u) false)
      let s := s.wr (tailB + 0x30C) ((prod + 1) % 2 ^ 32)
      let s := s.setTl (fun t => { t with drainQ := q })
      (s.ringRelease r.places).tailSettle
    else s
def execDrainWrite (s : State) : Res := .next s.drainWrite

/-- The driver writes TAIL_DRAIN_CONS; a value implying more than PROD is discarded and counted (R98, R472). -/
def State.drainConsWrite (s : State) (v : Nat) : State :=
  if (s.rd (tailB + 0x30C) + 2 ^ 32 - v) % 2 ^ 32 ≤ s.rd (tailB + 0x308) then
    (s.wr (tailB + 0x310) v).tailSettle
  else s.reject tailB 0x310
def execDrainConsWrite (v : Word) (s : State) : Res := .next (s.drainConsWrite v.toNat)

/-- Units of the next flit: the longest run of units from one side of the ring, at most 39 (R100, R101). -/
def flitBatch : List RUnit → List RUnit
  | [] => []
  | r :: q => ((r :: q).takeWhile (fun x => x.ring = r.ring)).take 39

/-- A data flit is built and sent when credit and replay room allow, and kept until acknowledged (R101, R102). -/
def State.flitSend (s : State) : State :=
  match s.sl.waiting with
  | [] => s
  | r :: q =>
    if s.strState = 2 && s.flitRoom 0 then
      let b := flitBatch (r :: q)
      let f : Flit := ⟨s.txFseq, b, flitBytes b.length s.txFseq r.epoch r.ring s.now (b.map (fun x => x.u)), s.mono⟩
      let idle := s.sl.kept.isEmpty
      let s := s.setSl (fun t => { t with waiting := t.waiting.drop b.length, kept := t.kept ++ [f], progress := if idle then s.mono else t.progress })
      let s := s.setCnt (strB + 0x60) ((f.fseq + 1) % 2 ^ 48)
      (s.sendFlit f false).tailSettle
    else s
def execFlitSend (s : State) : Res := .next s.flitSend

/-- When no data flit can be sent, an idle flit: COUNT 0 and the last data flit's FSEQ (R102). It is sent in ACTIVE,
and in TRAINING once the lanes are locked (R105). -/
def State.idleFlitSend (s : State) : State :=
  let busy := s.strState = 2 && !s.sl.waiting.isEmpty && s.flitRoom 0
  if (s.strState = 2 && !busy) || (s.strState = 1 && !s.sl.failed && decide (1 ≤ s.sl.step)) then
    let f := (s.txFseq + 2 ^ 48 - 1) % 2 ^ 48
    s.putFlit f 0 (flitBytes 0 f s.tailEpoch false s.now []) false
  else s
def execIdleFlitSend (s : State) : Res := .next s.idleFlitSend

/-- A return word arrived, so the return lane has block lock. -/
def State.retLock (s : State) : State := s.setFld (strB + 0x44) 8 8 1

/-- TRAINING becomes ACTIVE once step 0x003 and a CREDIT were received; kept flits are sent again (Table 04-11). -/
def State.strTryActive (s : State) : State :=
  if s.strState = 1 && !s.sl.failed && s.sl.step = 3 && s.sl.credit then
    let s := ((s.setStr 2).setSl (fun t => { t with timeouts := 0, progress := s.mono })).raise strB Ev.strLinkUp Src.device
    match s.sl.kept with
    | [] => s
    | f :: _ => s.resendFrom (f.fseq % 2 ^ 40)
  else s

/-- CREDIT: the highest FSEQ[39:0] the 6160 may send; cumulative (R103). -/
def State.retCredit (s : State) (v : Nat) : State :=
  if s.strState = 1 || s.strState = 2 then
    let s := s.retLock
    let adv := !s.sl.credit || fseqLe (s.credFseq % 2 ^ 40) v
    let s := if adv then s.setCnt (strB + 0x70) v else s
    ((s.setSl (fun t => { t with credit := true })).strTryActive).tailSettle
  else s.retLock
def execRetCredit (v : BitVec 40) (s : State) : Res := .next (s.retCredit v.toNat)

/-- ACK (R103). -/
def execRetAck (v : BitVec 40) (s : State) : Res := .next (s.retLock.ackTo v.toNat)

/-- NAK v: every kept flit from FSEQ v onward is sent again, and STR_NAK is raised (R102). -/
def State.retNak (s : State) (v : Nat) : State :=
  let s := s.retLock
  if s.strState = 2 && s.sl.kept.any (fun f => fseqLe v (f.fseq % 2 ^ 40)) then
    ((s.resendFrom v).bump (strCnt 2) 1).raise strB Ev.strNak Src.device
  else s
def execRetNak (v : BitVec 40) (s : State) : Res := .next (s.retNak v.toNat)

/-- TRAIN: accepted from 1 ms after t0; the next step advances, a repeat changes nothing, any other step restarts
training at t0 (R105). -/
def State.retTrain (s : State) (n : Nat) : State :=
  let s := s.retLock
  if s.strState = 1 && !s.sl.failed && s.past (s.sl.t0 + uMs) then
    if n = s.sl.step + 1 && decide (n ≤ 3) then (s.setSl (fun t => { t with step := n })).strTryActive.tailSettle
    else if n = s.sl.step && decide (1 ≤ n) then s
    else s.strTrain
  else s
def execRetTrain (stepNo : BitVec 12) (s : State) : Res := .next (s.retTrain stepNo.toNat)

/-- RETRAIN moves an ACTIVE link to RETRAIN (R104). -/
def State.retRetrain (s : State) : State :=
  let s := s.retLock
  if s.strState = 2 then s.strRetrain else s
def execRetRetrain (s : State) : Res := .next s.retRetrain

/-- HEALTH updates STR_HEALTH (R103). -/
def State.retHealth (s : State) (st v : Nat) : State :=
  s.retLock.wr (strB + 0x78) (st * 2 ^ 20 + min 0xFFFFF (v / 1024))
def execRetHealth (status : BitVec 12) (v : BitVec 40) (s : State) : Res :=
  .next (s.retHealth status.toNat v.toNat)

/-- IDLE carries nothing. -/
def execRetIdle (s : State) : Res := .next s.retLock

/-- A word with a bad CRC-8 or a reserved CMD is discarded and counted (R103). -/
def State.retBad (s : State) (w : BitVec 64) : State :=
  let s := s.retLock
  if !retCrcOk w then s.bump (strCnt 4) 1 else if 7 ≤ (w.extractLsb' 60 4).toNat then s.bump (strCnt 5) 1 else s
def execRetBadWord (w : BitVec 64) (s : State) : Res := .next (s.retBad w)

/-- The oldest kept flit has waited ACK_TIMEOUT_US without an advancing ACK; the fourth consecutive timeout retrains
(R102). -/
def State.strAckTimeout (s : State) : State :=
  match s.sl.kept with
  | [] => s
  | f :: _ =>
    if s.strState = 2 && s.past (s.sl.progress + s.fld (strB + 0x40) 15 0 * uUs) then
      let s := (s.bump (strCnt 3) 1).setSl (fun t => { t with timeouts := t.timeouts + 1 })
      if 4 ≤ s.sl.timeouts then s.strRetrain
      else ((s.resendFrom (f.fseq % 2 ^ 40)).setSl (fun t => { t with progress := s.mono })).raise strB Ev.strAckTimeout Src.device
    else s
def execStrAckTimeout (s : State) : Res := .next s.strAckTimeout

/-- 50 ms in TRAINING without ACTIVE (R104). -/
def State.strTrainTimeout (s : State) : State :=
  if s.strState = 1 && !s.sl.failed && s.past (s.sl.t0 + 50 * uMs) then
    (s.setSl (fun t => { t with failed := true })).raise strB Ev.strTrainFail Src.device
  else s
def execStrTrainTimeout (s : State) : Res := .next s.strTrainTimeout

/-- 100 ms after a training timeout, training restarts at t0 (R105). -/
def State.strTrainRestart (s : State) : State :=
  if s.strState = 1 && s.sl.failed && s.past (s.sl.t0 + 150 * uMs) then s.strTrain else s
def execStrTrainRestart (s : State) : Res := .next s.strTrainRestart

/-- STR_LINK.RETRAIN acts only in ACTIVE (R104). -/
def State.strRetrainWrite (s : State) : State := if s.strState = 2 then s.strRetrain else s
def execStrRetrainWrite (s : State) : Res := .next s.strRetrainWrite

/-- Loss of the stream reference clock (R104). -/
def State.strRefclkLoss (s : State) : State :=
  ((s.setFld (strB + 0x44) 9 9 0).strDisable).raise strB Ev.strRefclkLost Src.device
def execStrRefclkLoss (s : State) : Res := .next s.strRefclkLoss

/-- An enabled STR in RUN with its clock present starts training (R104). -/
def State.strTryTrain (s : State) : State :=
  if s.strState = 0 && s.running strB && s.flag (strB + 0x40) 31 && s.flag (strB + 0x44) 9 then s.strTrain else s
def execStrRefclkReturn (s : State) : Res := .next (s.setFld (strB + 0x44) 9 9 1).strTryTrain

/-- Block lock of the return lane lost for 1 µs (R104). -/
def State.retLockLoss (s : State) : State :=
  let s := s.setFld (strB + 0x44) 8 8 0
  if s.strState = 2 then s.strRetrain else s
def execRetLockLoss (s : State) : Res := .next s.retLockLoss

end Sys2Proof.Machine
end

