-- ==== Sys2Proof/Machine/MbxOps.lean ====
section
/-! DEFINITION. Shared operations of the mailbox: sending, serving and answering requests, session requests
(18_tenant_functions.md R379–R382; 13_engine_offloads.md R279–R292). -/
namespace Sys2Proof.Machine

/-! ### Sending and answering (R379) -/

/-- Word n of a request, its OPCODE, and word n of its payload. -/
def MbxReq.w (r : MbxReq) (n : Nat) : Nat := (r.words.getD n 0).toNat
def MbxReq.op (r : MbxReq) : Nat := bits (r.w 0) 31 24
def MbxReq.p (r : MbxReq) (n : Nat) : Nat := r.w (4 + n)
/-- n bytes of the payload from payload word k, byte 4w in [31:24]. -/
def MbxReq.bytes (r : MbxReq) (k n : Nat) : List Byte := (((List.range 64).map (fun i => bytesBE 4 (r.p (k + i)))).flatten).take n
/-- Bytes as payload words. -/
def wordsOf (bs : List Byte) : List Nat := (List.range ((bs.length + 3) / 4)).map (fun i => beAt bs (4 * i) 4)

/-- A response is written to the function's page, and vector 0 is triggered. -/
def State.mbxDeliver (s : State) (f : Nat) (words : List Word) : State :=
  let s := (List.range 256).foldl (fun s n => s.pwr f (0x600 + 4 * n) (words.getD n 0).toNat) s
  let w := s.prd f 0x104
  let s := s.pwr f 0x104 (putBits (putBits w 31 30 1) 15 0 (bits w 15 0 + 1))
  if bit (s.prd f 0x100) 0 && decide (0 < s.msixCount f) then s.msixTrigger f 0 else s

/-- A response of a header alone, made at once. -/
def State.mbxRefuse (s : State) (f : Nat) (words : List Word) (st : Nat) : State :=
  let w := fun n => (words.getD n 0).toNat
  s.mbxDeliver f ([w 0, s.fgen f * 2 ^ 8 + st, w 2, 0].map (BitVec.ofNat 32))

/-- MBX_CTRL.SEND. -/
def State.mbxSend (s : State) (f : Nat) : State :=
  if bit (s.prd f 0x104) 31 then s.bump (tfCnt f 11) 1
  else
    let words := (List.range 256).map (fun n => BitVec.ofNat 32 (s.prd f (0x200 + 4 * n)))
    let s := (List.range 256).foldl (fun s n => s.pwr f (0x200 + 4 * n) 0) s
    if !s.running tfnB || decide (256 ≤ s.tfn.mbxQ.length) then
      ((s.mbxRefuse f words 1).bump (tfCnt f 11) 1).raise tfnB Ev.tfnMbxBusy (Src.fn f)
    else
      let s := s.setTfn (fun t => { t with mbxQ := t.mbxQ ++ [⟨f, s.fgen f, words⟩] })
      let n := s.tfn.mbxQ.length
      let a := tfnB + 0x44
      ((s.setFld a 8 0 n).setFld a 24 16 (max n (s.fld a 24 16))).pwr f 0x104 (putBits (s.prd f 0x104) 31 31 1)

/-! ### Serving (R380) -/

/-- The target of a request: the sender itself, or the one it names; none where R380 denies it. -/
def State.mbxTarget (s : State) (r : MbxReq) : Option Nat :=
  let t := bits (r.w 2) 8 0
  if !bit (r.w 2) 31 then some r.f
  else if r.f < 256 || decide (260 ≤ t) then none
  else if r.f = 256 + s.ownerHp || (s.hpOfFn t).map (· + 256) = some r.f then some t
  else none

/-- Who may send an opcode (Table 18-4). -/
inductive Sender where
  | any | tenant | mf
  deriving DecidableEq, Repr

/-- What an opcode answers: the state, STATUS and payload. -/
abbrev MbxAns := State × Nat × List Nat

/-- MGC firmware takes the oldest request of a function that is not FROZEN where `k` knows it, and answers it. `k` answers none where the
firmware still waits. -/
def State.mbxServe (s : State) (who : Sender) (mine : MbxReq → Bool) (k : State → MbxReq → Nat → Option MbxAns) : State :=
  match s.tfn.mbxQ.find? (fun r => s.fnState r.f ≠ 2) with
  | none => s
  | some r =>
    if !mine r then s
    else
      let q := s.setTfn (fun t => { t with mbxQ := t.mbxQ.erase r })
      let q := q.setFld (tfnB + 0x44) 8 0 q.tfn.mbxQ.length
      let allowed := match who with
        | .any => true
        | .tenant => decide (r.f < 256)
        | .mf => decide (256 ≤ r.f)
      match (if allowed then s.mbxTarget r else none) with
      | none => q.mbxAnswer r r.f 6 []
      | some t => match k q r t with
        | none => s
        | some x => x.1.mbxAnswer r t x.2.1 x.2.2

/-! ### Queues (R381, R382) -/

/-- Bit n of PIPE_MASK. -/
def State.pipeMay (s : State) (f n : Nat) : Bool := decide (n < 4) && bit (s.rd (tfnB + 0x10010 + 0x40 * f)) n
/-- Quota of a function's queues. -/
def State.queMax (s : State) (f : Nat) (rx : Bool) : Nat :=
  if rx then s.fld (tfnB + 0x10008 + 0x40 * f) 9 0 else s.fld (tfnB + 0x10008 + 0x40 * f) 25 16
/-- Free hardware queues. -/
def State.queFree (s : State) (rx : Bool) : Nat := if rx then s.fld (tfnB + 0x48) 14 0 else s.fld (tfnB + 0x48) 30 16

/-- TXQ_CREATE and RXQ_CREATE. -/
def State.queCreate (s : State) (r : MbxReq) (f : Nat) (rx : Bool) : MbxAns :=
  let p0 := r.p 0
  let q := bits p0 31 16
  let l := bits p0 15 11
  let typ := bits p0 10 8
  let ring := r.p 1 + r.p 2 * 2 ^ 32
  let cring := r.p 3 + r.p 4 * 2 ^ 32
  let vec := if rx then bits p0 7 0 else bits (r.p 5) 10 0
  let raw := !rx && typ = 0
  let ask := bits p0 7 0
  let d := s.draw
  let may := [0, 1, 2, 3].filter (s.pipeMay f)
  let pipe := if ask = 255 then may.getD (Config.anyNat d.1 % max 1 may.length) 0 else ask
  match s.tq_ f rx q with
  | some t => (s, if t.draining then 5 else 7, [])
  | none =>
    if decide (s.queMax f rx ≤ q) || l < 6 || decide (16 < l) || decide (1 < typ) || ring % 64 ≠ 0 || cring % 64 ≠ 0 ||
        decide (s.msixCount f ≤ vec) then (s, 7, [])
    else if raw && !s.pipeMay f pipe then (s, 6, [])
    else if s.queFree rx = 0 then (s, 4, [])
    else
      let s := if raw && ask = 255 then d.2 else s
      let t : TQueue := {
        log2 := l, typ := typ, pipe := if raw then pipe else 0, ring := ring, cring := cring, irq := bit (r.p 5) 31, vec := vec,
        limit := if rx then bits (r.p 5) 15 0 else 0 }
      ((s.setTq f rx q (some t)).queUse f rx true, 0, [])

/-- Q_DESTROY: the queue drains (R389). -/
def State.queDestroy (s : State) (r : MbxReq) (f : Nat) : MbxAns :=
  let rx := bit (r.p 0) 31
  let q := bits (r.p 0) 9 0
  match s.tq_ f rx q with
  | none => (s, 7, [])
  | some t => if t.draining then (s, 5, []) else (s.drainStart f rx q, 0, [])

/-! ### Keys -/

/-- A free key slot, as MGC firmware chooses it. -/
def State.keySlotFree (s : State) : Option Nat × State :=
  let d := s.draw
  (((List.range 16384).map (fun i => (Config.anyNat d.1 + i) % 16384)).find? (fun k => k ≠ 0 && s.rd (keyAttr k) = 0), d.2)

/-- Material and attributes go into an open slot, as R321 loads it. -/
def State.slotLoad (s : State) (k attr : Nat) (mat : List Byte) : State :=
  let s := (s.keyOpen k 0).setMat k (BitVec.ofNat 512 (natBE mat))
  s.attrWrite .mgc k (putBits attr 31 31 1)

/-- KEY_LOAD. -/
def State.keyLoad (s : State) (r : MbxReq) (f : Nat) : MbxAns :=
  let u := ctxUseA f
  let mx := s.fld (ctxMaxA f) 14 0
  let attr := (putBits (putBits (bits (r.p 0) 30 24 * 2 ^ 24) 17 9 (16 + f)) 21 21 (s.fld (tfnB + 0x10010 + 0x40 * f) 31 31))
  let p := s.keySlotFree
  match (if s.fld u 14 0 < mx then s.idxFree f mx s.tfn.keys else none), p.1 with
  | some i, some k =>
    if attrReserved attr then (s, 7, [])
    else if s.zeroizing then (s, 4, [])
    else
      let s := p.2.slotLoad k attr (r.bytes 1 64)
      if !s.keyValid k then (s.keyOpen k 0, 7, [])
      else
        let s := s.setTfn (fun t => { t with keys := mput (fun _ => none) t.keys (16384 * f + i) (some k) })
        (s.setFld u 14 0 (s.fld u 14 0 + 1), 0, [i, keyKcv (s.keyWord k)])
  | _, _ => (s, 4, [])

/-- The slot of a key handle. -/
def State.keyOf (s : State) (f h : Nat) : Option Nat := mget (fun _ => none) s.tfn.keys (16384 * f + h)

/-- KEY_FREE. -/
def State.keyFree (s : State) (r : MbxReq) (f : Nat) : MbxAns :=
  let h := bits (r.p 0) 13 0
  match s.keyOf f h with
  | none => (s, 7, [])
  | some k =>
    let s := (s.keyOpen k 0).setTfn (fun t => { t with keys := mput (fun _ => none) t.keys (16384 * f + h) none })
    (s.setFld (ctxUseA f) 14 0 (s.fld (ctxUseA f) 14 0 - 1), 0, [])

/-! ### Sessions (R279–R292) -/

/-- The context of a handle: CTX_GEN and FGEN must be the current ones (R282). -/
def State.ctxOfHandle (s : State) (f w : Nat) : Option Nat :=
  match mget (fun _ => none) s.tfn.ctxs (16384 * f + bits w 29 16) with
  | none => none
  | some id => if (s.ctx id).gen = bits w 15 0 && (s.ctx id).fgen = s.fgen f && (s.ctx id).state ≠ 0 && !(s.ctx id).bad then some id else none

/-- The key handle of a request names a usable slot of the function: the slot, 0 for none. -/
def State.reqKeySlot (s : State) (f : Nat) : Option Nat → Option Nat
  | none => some 0
  | some h => match s.keyOf f h with
    | none => none
    | some k => if s.svcKey { owner := 16 + f } k then some k else none

/-- The parameters of a session lie in the ranges that R286–R292 give. -/
def OpenReq.inRange (r : OpenReq) : Bool :=
  decide (1 ≤ r.kind) && decide (r.kind ≤ 5) && decide (1 ≤ r.rtoMs) && decide (r.rtoMs ≤ 1000) && decide (64 ≤ r.recMax) && decide (r.recMax ≤ 16384)
    && decide (64 ≤ r.window) && decide (r.window ≤ 4096) && decide (1 ≤ r.depth) && decide (r.depth ≤ 1024) && decide (1 ≤ r.mss)
    && (if r.kind = 2 || r.kind = 5 then r.link.isSome else r.link.isNone)
    && (r.kind ≠ 3 || r.keyRx.isSome) && (r.kind ≠ 4 || r.keyTx.isSome)

/-- The queues of a session: an RX queue, and a SERVICE TX queue that no context has. -/
def State.queuesFor (s : State) (f : Nat) (r : OpenReq) : Bool :=
  (match s.tq_ f true r.rxq with
   | none => false
   | some t => !t.draining) &&
  (match s.tq_ f false r.txq with
   | none => false
   | some t => !t.draining && t.typ = 1 && t.ctx.isNone)

/-- OPEN: a context, and for TCP a SYN. None while the allocation waits for a channel. -/
def State.sessOpen (s : State) (f : Nat) (r : OpenReq) : Option MbxAns :=
  if r.refused then some (s, 0x11, [])
  else if !r.inRange || !s.queuesFor f r then some (s, 7, [])
  else
    let link := match r.link with
      | none => none
      | some w => s.ctxOfHandle f w
    if r.link.isSome && !(match link with
        | none => false
        | some id => (s.ctx id).kind = 1 && ((s.ctx id).state = 1 || (s.ctx id).state = 2) && (s.upper id).isNone) then some (s, 0x10, [])
    else match s.reqKeySlot f r.keyRx, s.reqKeySlot f r.keyTx with
      | some krx, some ktx =>
        let h := match link with
          | some id => ((s.ctx id).home, s)
          | none => s.pickHome (s.svcMask r.kind)
        match h.2.ctxAlloc f h.1 r krx ktx link with
        | none => none
        | some (none, _) => some (s, 0x10, [])
        | some (some id, s) =>
          let s := match s.tq_ f false r.txq with
            | none => s
            | some t => s.setTq f false r.txq (some { t with ctx := some id })
          let s := if r.kind = 1 then
              let i := s.draw
              let n := seq32 (Config.anyNat i.1)
              let s := i.2.setCtx id (fun c => { c with
                sndUna := n, sndNxt := seq32 (n + 1), sentAt := s.mono, rtt := some (seq32 (n + 1), s.mono) })
              s.tcpOut id n 0x02 []
            else s.ctxActive id
          some (s, 0, [(s.ctx id).handle])
      | _, _ => some (s, 0x12, [])

/-- LISTEN: a passive listener with its backlog (R286). -/
def State.sessListen (s : State) (f port backlog : Nat) (r : OpenReq) : MbxAns :=
  if r.refused then (s, 0x11, [])
  else if backlog < 1 || decide (1024 < backlog) || r.kind ≠ 1 || !r.inRange then (s, 7, [])
  else (s.setSvc (fun x => { x with listen := x.listen ++ [⟨f, port, backlog, r⟩] }), 0, [])

/-- MGC firmware works on the context of a handle: none while a channel does not serve the access; NO_CONTEXT where the handle is stale or the
context cannot be read. -/
def State.onHandle (s : State) (f w : Nat) (k : State → Nat → MbxAns) : Option MbxAns :=
  match s.ctxOfHandle f w with
  | none => some (s, 0x10, [])
  | some id => match s.ctxTouch id .clean with
    | none => none
    | some (false, t) => some (t, 0x10, [])
    | some (true, t) => some (k t id)

/-- MODIFY: keys, the standby key, a registered buffer; the record numbers of a direction start afresh with its key. A refusal is also the context's
last error (R283). -/
def State.sessModify (s : State) (r : MbxReq) (f : Nat) (m : ModReq) : Option MbxAns :=
  s.onHandle f (r.p 0) (fun s id => match s.reqKeySlot f m.keyRx, s.reqKeySlot f m.keyTx, s.reqKeySlot f m.standby with
    | some a, some b, some c =>
      let s := s.setCtx id (fun x => if m.keyRx.isSome then { x with keyRx := a, recRx := 0, hold := false, rxStop := false } else x)
      let s := s.setCtx id (fun x => if m.keyTx.isSome then { x with keyTx := b, recTx := 0, txStop := false } else x)
      let s := s.setCtx id (fun x => if m.standby.isSome then { x with standby := some c } else x)
      (s.setCtx id (fun x => match m.buf with
        | none => x
        | some (cid, adr, len) => { x with bufs := mput (fun _ => none) x.bufs cid (if len = 0 then none else some (adr, len)) }), 0, [])
    | _, _, _ => (s.setCtx id (fun x => { x with lastErr := 0x12 }), 0x12, []))

/-- CLOSE and ABORT of a handle. -/
def State.sessEnd (s : State) (r : MbxReq) (f : Nat) (abort : Bool) : Option MbxAns :=
  s.onHandle f (r.p 0) (fun s id => ((if abort then s.ctxAbort id else s.ctxClose id), 0, []))

end Sys2Proof.Machine
end

