-- ==== Sys2Proof/Machine/MigOps.lean ====
section
/-! DEFINITION. Shared operations of migration: keys, the dirty log, the blob and its records, SAVE and RESTORE
(18_tenant_functions.md R391–R394). The layouts of the records are the model's own: the manual binds them to VERSION and does not give them. -/
namespace Sys2Proof.Machine

/-! ### Migration keys (R392) -/

/-- The 44 bytes that each side derives. -/
def migBytes (z : Nat) (ea qb : List Byte) (id : Nat) : List Byte :=
  hkdf (sha256B (ea ++ qb)) (bytesBE 32 z) ([0x36, 0x31, 0x36, 0x30, 0x2D, 0x4D, 0x49, 0x47] ++ bytesBE 4 id) 44

/-- A migration key of a function is loaded into a WRAP slot, replacing the one it had; none where 16 are held or no slot is free. -/
def State.migLoad (s : State) (f id : Nat) (k44 : List Byte) : Option State :=
  let held := (s.tfn.mig.filter (fun e => e.2.isSome)).length
  match mget (fun _ => none) s.tfn.mig f with
  | some m =>
    some ((s.slotLoad m.slot (2 * 2 ^ 28 + 2 * 2 ^ 22) (k44 ++ List.replicate 20 0)).setTfn (fun t => { t with
      mig := mput (fun _ => none) t.mig f (some ⟨id, m.slot⟩) }))
  | none =>
    let p := s.keySlotFree
    match p.1 with
    | none => none
    | some k =>
      if 16 ≤ held then none
      else some ((p.2.slotLoad k (2 * 2 ^ 28 + 2 * 2 ^ 22) (k44 ++ List.replicate 20 0)).setTfn (fun t => { t with
        mig := mput (fun _ => none) t.mig f (some ⟨id, k⟩) }))

/-- MIG_KEYX on the source. -/
def State.migKeyx (s : State) (r : MbxReq) (f : Nat) : MbxAns :=
  let qb := r.bytes 0 65
  let d1 := s.draw
  let d2 := d1.2.draw
  let dE := Config.anyNat d1.1 % (n256 - 1) + 1
  let id := Config.anyNat d2.1 % 2 ^ 32
  match ecdh dE (ptOf qb) with
  | none => (s, 7, [])
  | some z =>
    if 256 ≤ f then (s, 7, [])
    else
      let ea := ptBytes (ptMul (some g256) dE 256)
      match d2.2.migLoad f id (migBytes z ea qb id) with
      | none => (s, 4, [])
      | some s => (s, 0, wordsOf ea ++ [id])

/-- MIG_ACCEPT on the destination: refused while the identity key is absent. -/
def State.migAccept (s : State) (r : MbxReq) (f : Nat) : MbxAns :=
  let ea := r.bytes 0 65
  let id := r.p 17
  if !s.flag (cipB + 0x200) 30 then (s, 6, [])
  else match ecdh identityKey (ptOf ea) with
    | none => (s, 7, [])
    | some z =>
      if 256 ≤ f then (s, 7, [])
      else match s.migLoad f id (migBytes z ea identityPub id) with
        | none => (s, 4, [])
        | some s => (s, 0, [])

/-! ### The dirty log (R391) -/

/-- LOG_START. -/
def State.logStart (s : State) (r : MbxReq) (f : Nat) : MbxAns :=
  let base := r.p 0 + r.p 1 * 2 ^ 32
  let n := r.p 2
  if base % 4096 ≠ 0 || n < 1 || decide (67108864 < n) then (s, 7, [])
  else
    let s := s.setTfn (fun t => { t with log := mput (fun _ => none) t.log f (some ⟨base, n, []⟩) })
    (s.setFld (tfnStat f) 30 29 2, 0, [])

/-- LOG_SYNC: the bits of the pages asked for go to the host through the requesting function, and are cleared. -/
def State.logSync (s : State) (r : MbxReq) (f : Nat) : MbxAns :=
  let buf := r.p 0 + r.p 1 * 2 ^ 32
  let first := r.p 2
  let n := r.p 3
  match mget (fun _ => none) s.tfn.log f with
  | none => (s, 5, [])
  | some l =>
    if n % 64 ≠ 0 then (s, 7, [])
    else
      let byte := fun k => BitVec.ofNat 8 ((List.range 8).foldl (fun acc b => acc + b2n (l.bits.contains (first + 8 * k + b)) * 2 ^ b) 0)
      let data := (List.range (n / 8)).map byte
      let s := s.setTfn (fun t => { t with
        log := mput (fun _ => none) t.log f (some { l with bits := l.bits.filter (fun i => decide (i < first) || decide (first + n ≤ i)) }) })
      (s.dmaPut r.f (s.fgen r.f) buf data false, 0, [s.fld (tfnStat f) 29 29])

/-- LOG_STOP. -/
def State.logStop (s : State) (f : Nat) : MbxAns :=
  match mget (fun _ => none) s.tfn.log f with
  | none => (s, 5, [])
  | some _ => ((s.setTfn (fun t => { t with log := mput (fun _ => none) t.log f none })).setFld (tfnStat f) 30 30 0, 0, [])

/-! ### Records -/

/-- Widths of a queue record: QID, RX, LOG2SIZE, TYPE, PIPE, IRQ with armed and draining, vector, limit, rings, PI, CI, next descriptor to fetch, stored
doorbells, context, PHASE. -/
def queW : List Nat := [2, 1, 1, 1, 1, 1, 2, 2, 8, 8, 3, 3, 3, 4, 4, 2, 1]
/-- A queue record of 64 bytes. RX descriptors fetched and not used are fetched again after the restore. -/
def queRecord (s : State) (rx : Bool) (q : Nat) (t : TQueue) : List Byte :=
  let next := match t.bufs with
    | [] => t.fetched
    | b :: _ => b.1
  padZ 64 (packW queW [q, b2n rx, t.log2, t.typ, t.pipe, b2n t.irq + 2 * b2n t.armed + 4 * b2n t.draining, t.vec, t.limit, t.ring, t.cring, t.pi, t.ci, next,
    optN t.pi2, (match t.ci2 with
      | none => 0
      | some (v, a) => v + 1 + b2n a * 2 ^ 31),
    (match t.ctx with
      | none => 0
      | some id => (s.ctx id).idx + 1), b2n (decide (next / 2 ^ t.log2 % 2 = 0))])
/-- The queue of a record, its context by local index. -/
def queOfRecord (b : List Byte) : Bool × Nat × TQueue × Option Nat :=
  let g := getW queW b
  let fl := g 5
  let n := idxMod (g 12 + 131072 - g 11)
  (g 1 = 1, g 0, {
    log2 := g 2, typ := g 3, pipe := g 4, irq := bit fl 0, armed := bit fl 1, draining := bit fl 2, vec := g 6, limit := g 7, ring := g 8, cring := g 9,
    pi := g 10, ci := g 11, fetched := g 12, out := idxMod (g 10 + 131072 - g 12),
    written := (List.range n).map (fun k => idxMod (g 11 + k)), pi2 := nOpt (g 13),
    ci2 := if g 14 = 0 then none else some (bits (g 14) 30 0 - 1, bit (g 14) 31) }, nOpt (g 15))

/-- The key handle of a slot. -/
def State.handleOf (s : State) (f k : Nat) : Option Nat :=
  ((s.tfn.keys.find? (fun e => e.1 / 16384 = f && e.2 = some k)).map (fun e => e.1 % 16384))
/-- The context of a handle, 512 bytes, its keys and its link as handles plus one. -/
def State.ctxRecord (s : State) (f id : Nat) : List Byte :=
  let c := s.ctx id
  let kh := fun k => if k = 0 then 0 else optN (s.handleOf f k)
  ctxHeader id c ++ svcBytes c [c.idx, kh c.keyRx, kh c.keyTx, (match c.standby with
    | none => 0
    | some k => kh k), (match c.link with
    | none => 0
    | some l => (s.ctx l).idx + 1)]

/-! ### SAVE (R393) -/

/-- A slot sealed under the WRAP slot w (Table 15-6). -/
def State.wrapBytes (s : State) (w k : Nat) : Option (List Byte × State) :=
  match s.takeNonce w with
  | none => none
  | some (n, t) =>
    let aad := bytesBE 2 0x4B57 ++ bytesBE 1 1 ++ bytesBE 1 0 ++ bytesBE 4 (s.rd (keyAttr k)) ++ bytesBE 8 (s.cnt (keyCtr k)) ++ bytesBE 8 n
    let r := cipRun 1 (s.rd (keyAttr w)) (s.keyWord w) n (matBytes (s.keyWord k)) aad []
    some (aad ++ r.1 ++ r.2.1, t)

/-- The key records of a function. -/
def State.keyRecords (s : State) (w : Nat) : List (Nat × Nat) → Option (List Byte × State)
  | [] => some ([], s)
  | (h, k) :: l => match s.wrapBytes w k with
    | none => none
    | some (b, t) => match t.keyRecords w l with
      | none => none
      | some (r, u) => some (padZ 8 (bytesBE 2 h) ++ b ++ r, u)

/-- Handles of a function with what they name, in handle order. -/
def handlesOf (f : Nat) (m : Sparse (Option Nat)) : List (Nat × Nat) :=
  (m.filter (fun e => e.1 / 16384 = f)).filterMap (fun e => e.2.map (fun x => (e.1 % 16384, x)))

/-- The blob header but for its tag (Table 18-8). -/
def blobHeader (svcVer tf gen id len ntx nrx nctx nkey ctr : Nat) (t : Instant) : List Byte :=
  bytesBE 48 (pk [(16, 0x4D47), (8, 1), (8, svcVer), (8, tf), (8, gen), (32, id), (32, len), (16, ntx), (16, nrx), (16, nctx), (16, nkey), (16, 0),
    (64, ctr), (32, 0), (96, ts96 t)])

/-- SAVE. -/
def State.migSave (s : State) (r : MbxReq) (f : Nat) : MbxAns :=
  let buf := r.p 0 + r.p 1 * 2 ^ 32
  let keys := handlesOf f s.tfn.keys
  let ctxs := handlesOf f s.tfn.ctxs
  if s.fld (tfnB + 0x10010 + 0x40 * f) 31 31 = 0 || 256 ≤ f then (s, 6, [])
  else match mget (fun _ => none) s.tfn.mig f with
  | none => (s, 5, [])
  | some m =>
    if s.fnState f ≠ 2 || !s.flag (tfnStat f) 31 then (s, 5, [])
    else if keys.any (fun x => !s.flag (keyAttr x.2) 21) then (s, 6, [])
    else
      let qs := s.queues f
      let tx := qs.filter (fun x => !x.1)
      let rx := qs.filter (fun x => x.1)
      let rec_ := fun (x : Bool × Nat) => match s.tq_ f x.1 x.2 with
        | none => []
        | some t => queRecord s x.1 x.2 t
      match s.keyRecords m.slot keys with
      | none => (s, 4, [])
      | some (kb, s1) =>
        let body := ((tx ++ rx).map rec_).flatten ++ (ctxs.map (fun x => s.ctxRecord f x.2)).flatten ++ kb
        match s1.takeNonce m.slot with
        | none => (s, 4, [])
        | some (n, s2) =>
          let h := blobHeader 1 f (s.fgen f) m.id body.length tx.length rx.length ctxs.length keys.length n s.now
          let e := cipRun 1 (s.rd (keyAttr m.slot)) (s.keyWord m.slot) n body h []
          let s3 := rx.foldl (fun s x => (s.vq (16 + f) x.2).foldl (fun s c => (s.takeWaiting c .dropped).bump (tfCnt f 10) 1) s) s2
          (s3.dmaPut r.f (s3.fgen r.f) buf (h ++ e.2.1 ++ e.1) false, 0, [64 + body.length])

/-! ### RESTORE (R394) -/

/-- A wrapped slot opened: ATTR, counter and material. -/
def State.unwrapBytes (s : State) (w : Nat) (b : List Byte) : Option (Nat × Nat × List Byte) :=
  let r := cipRun 2 (s.rd (keyAttr w)) (s.keyWord w) (beAt b 16 8) (slice b 24 64) (b.take 24) (slice b 88 16)
  if beAt b 0 2 ≠ 0x4B57 || beAt b 2 1 ≠ 1 || !r.2.2 then none else some (beAt b 4 4, beAt b 8 8, r.1)

/-- A key of a blob goes into a new slot under its handle. -/
def State.keyRestore (s : State) (f h attr ctr : Nat) (mat : List Byte) : State :=
  let p := s.keySlotFree
  match p.1 with
  | none => s
  | some k =>
    let s := ((p.2.setMat k (BitVec.ofNat 512 (natBE mat))).setCnt (keyCtr k) ctr).wr (keyAttr k) (putBits attr 17 9 (16 + f))
    let s := s.setTfn (fun t => { t with keys := mput (fun _ => none) t.keys (16384 * f + h) (some k) })
    s.setFld (ctxUseA f) 14 0 (s.fld (ctxUseA f) 14 0 + 1)

/-- A context of a blob is allocated under its handle, with a new HOME; none while a channel does not serve what leaves the cache for it. -/
def State.ctxRestore (s : State) (f : Nat) (c : Ctx) : Option State :=
  let p := s.ctxFree
  let h := p.2.pickHome (p.2.svcMask c.kind)
  match p.1, h.2.ctxSeat (p.1.getD 0) with
  | none, _ => some s
  | some _, none => none
  | some id, some s =>
    let home := h.1
    let key := fun n => if n = 0 then 0 else (s.keyOf f (n - 1)).getD 0
    let s := s.setCtx id (fun _ => { c with
      fgen := s.fgen f, owner := 16 + f, home := home, keyRx := key c.keyRx, keyTx := key c.keyTx,
      standby := match c.standby with
        | none => none
        | some h => s.keyOf f h
      sentAt := s.mono, heardAt := s.mono })
    let s := s.setTfn (fun t => { t with ctxs := mput (fun _ => none) t.ctxs (16384 * f + c.idx) (some id) })
    some (s.setFld (ctxUseA f) 30 16 (s.fld (ctxUseA f) 30 16 + 1))
/-- Every context of a blob, in handle order; with none, the pool is not asked for. -/
def State.ctxsRestore (s : State) (f : Nat) : List Ctx → Option State
  | [] => some s
  | c :: l => match s.ctxRestore f c with
    | none => none
    | some s => s.ctxsRestore f l

/-- A restored context names the one underneath by the handle of the blob. -/
def State.linkRestore (s : State) (f : Nat) (c : Ctx) : State :=
  match c.link, mget (fun _ => none) s.tfn.ctxs (16384 * f + c.idx) with
  | some i, some id =>
    let s := s.setCtx id (fun y => { y with link := mget (fun _ => none) s.tfn.ctxs (16384 * f + i) })
    if s.cached id then s else s.ctxStore id
  | _, _ => s

/-- A queue of a blob is rebuilt under its QID. -/
def State.queRestore (s : State) (f : Nat) (x : Bool × Nat × TQueue × Option Nat) : State :=
  let id := match x.2.2.2 with
    | none => none
    | some i => mget (fun _ => none) s.tfn.ctxs (16384 * f + i)
  (s.setTq f x.1 x.2.1 (some { x.2.2.1 with ctx := id })).queUse f x.1 true

/-- Consecutive records of n bytes. -/
def records (n k : Nat) (b : List Byte) : List (List Byte) := (List.range k).map (fun i => slice b (n * i) n)

/-- What a blob says, its body decrypted. -/
structure Blob where
  svcVer : Nat
  gen : Nat
  id : Nat
  ntx : Nat
  nrx : Nat
  nctx : Nat
  nkey : Nat
  body : List Byte
  deriving DecidableEq, Repr

/-- The fields of a blob, and whether its tag verifies under the WRAP slot w. -/
def State.blobOf (s : State) (w : Nat) (b : List Byte) : Blob × Bool :=
  let h := natBE (slice b 0 48)
  let len := bits h 303 272
  let r := cipRun 2 (s.rd (keyAttr w)) (s.keyWord w) (bits h 191 128) (slice b 64 len) (b.take 48) (slice b 48 16)
  (⟨bits h 359 352, bits h 343 336, bits h 335 304, bits h 271 256, bits h 255 240, bits h 239 224, bits h 223 208, r.1⟩, r.2.2)

/-- RESTORE of a blob read from the host: its checks in order; none while an item carries the FGEN it brings (R378). -/
def State.migRestore (s : State) (f : Nat) (b : List Byte) : Option MbxAns :=
  if beAt b 0 2 ≠ 0x4D47 || beAt b 2 1 ≠ 1 then some (s, 8, [])
  else match mget (fun _ => none) s.tfn.mig f with
  | none => some (s, 6, [])
  | some m =>
    let x := s.blobOf m.slot b
    let p := x.1
    let q := p.body
    let qs := (records 64 (p.ntx + p.nrx) q).map queOfRecord
    let cs := (records 512 p.nctx (q.drop (64 * (p.ntx + p.nrx)))).map ctxOfRecord
    let ks := (records 112 p.nkey (q.drop (64 * (p.ntx + p.nrx) + 512 * p.nctx))).map (fun r => (beAt r 0 2, s.unwrapBytes m.slot (r.drop 8)))
    if p.id ≠ m.id then some (s, 6, [])
    else if !x.2 || ks.any (fun k => k.2.isNone) then some (s, 0x13, [])
    else if p.svcVer ≠ 1 then some (s, 8, [])
    else if (s.fnState f ≠ 1 && s.fnState f ≠ 2) || !(s.queues f).isEmpty || !(handlesOf f s.tfn.ctxs).isEmpty || !(handlesOf f s.tfn.keys).isEmpty then
      some (s, 5, [])
    else if qs.any (fun y => decide (s.queMax f y.1 ≤ y.2.1)) || s.queFree false < p.ntx || s.queFree true < p.nrx ||
        cs.any (fun c => decide (s.fld (ctxMaxA f) 30 16 ≤ c.idx)) || ks.any (fun k => decide (s.fld (ctxMaxA f) 14 0 ≤ k.1)) ||
        decide ((List.range 16384).countP (fun i => (s.ctx i).state = 0) < p.nctx) ||
        decide ((List.range 16384).countP (fun k => k ≠ 0 && s.rd (keyAttr k) = 0) < p.nkey) || (!cs.isEmpty && s.poolOpen.isNone) then some (s, 4, [])
    else if !s.fnClear f p.gen true then none
    else
      let s := (if cs.isEmpty then s else s.poolOpen.getD s).setFld (tfnStat f) 23 16 p.gen
      let s := ks.foldl (fun s k => match k.2 with
        | none => s
        | some (a, c, mat) => s.keyRestore f k.1 a c mat) s
      match s.ctxsRestore f cs with
      | none => none
      | some s =>
      let s := cs.foldl (fun s c => s.linkRestore f c) s
      let s := qs.foldl (fun s y => s.queRestore f y) s
      let s := s.setTfn (fun t => { t with frozenAt := mput (fun _ => 0) t.frozenAt f s.mono, frozenOut := t.frozenOut.filter (· ≠ f) })
      let quiet := s.flag (tfnStat f) 31
      let s := (s.fnTo f 2).setFld (tfnStat f) 31 31 1
      some ((if quiet then s else s.raise tfnB Ev.tfnFrozen (Src.fn f)), 0, [])

end Sys2Proof.Machine
end

