-- ==== Sys2Proof/Machine/Tfn.lean ====
section
/-! DEFINITION. Meanings of the tenant-function commands (18_tenant_functions.md). -/
namespace Sys2Proof.Machine

/-! ### The mailbox (R379, R380) -/

/-- MBX_SEND. -/
def execMbxSend (f : Fin 260) (s : State) : Res := .next (s.mbxSend f.val)

/-- MBX_RESPONSE: the oldest answer for the function is written, if its FGEN is still the current one (R377). -/
def State.mbxRespond (s : State) (f : Nat) : State :=
  match s.tfn.rsp.find? (fun x => x.1 = f) with
  | none => s
  | some x =>
    let s := s.setTfn (fun t => { t with rsp := t.rsp.erase x })
    if x.2.1 = s.fgen f then s.mbxDeliver f x.2.2 else s.bump (tfCnt f 10) 1
def execMbxResponse (f : Fin 260) (s : State) : Res := .next (s.mbxRespond f.val)

/-- QUERY answers the quotas and use. -/
def State.mbxQuery (s : State) (f : Nat) : MbxAns :=
  (s, 0, [s.rd (tfnB + 0x10008 + 0x40 * f), s.rd (ctxMaxA f), s.rd (tfnB + 0x10014 + 0x40 * f), s.rd (ctxUseA f)])
def execMbxQuery (s : State) : Res := .next (s.mbxServe .any (fun r => r.op = 0x01) (fun s _ f => some (s.mbxQuery f)))

/-- TXQ_CREATE, RXQ_CREATE, Q_DESTROY. -/
def execTxqCreate (s : State) : Res :=
  .next (s.mbxServe .tenant (fun r => r.op = 0x02) (fun s r f => some (s.queCreate r f false)))
def execRxqCreate (s : State) : Res :=
  .next (s.mbxServe .tenant (fun r => r.op = 0x03) (fun s r f => some (s.queCreate r f true)))
def execQDestroy (s : State) : Res := .next (s.mbxServe .tenant (fun r => r.op = 0x04) (fun s r f => some (s.queDestroy r f)))

/-- KEY_LOAD, KEY_FREE. -/
def execKeyLoad (s : State) : Res := .next (s.mbxServe .tenant (fun r => r.op = 0x05) (fun s r f => some (s.keyLoad r f)))
def execKeyFree (s : State) : Res := .next (s.mbxServe .tenant (fun r => r.op = 0x06) (fun s r f => some (s.keyFree r f)))

/-- OPEN: the session that the request's payload asks for. -/
def execMbxOpen (o : OpenReq) (s : State) : Res :=
  .next (s.mbxServe .tenant (fun r => r.op = 0x07) (fun s _ f => s.sessOpen f o))
/-- LISTEN: the local port, the backlog and the sessions its connections become. -/
def execMbxListen (port : BitVec 16) (backlog : Nat) (o : OpenReq) (s : State) : Res :=
  .next (s.mbxServe .tenant (fun r => r.op = 0x08) (fun s _ f => some (s.sessListen f port.toNat backlog o)))
/-- MODIFY: what it changes of the context that payload word 0 names. -/
def execMbxModify (m : ModReq) (s : State) : Res :=
  .next (s.mbxServe .tenant (fun r => r.op = 0x09) (fun s r f => s.sessModify r f m))
/-- CLOSE and ABORT: flag [0], in payload word 1, tells them apart. -/
def execMbxClose (s : State) : Res :=
  .next (s.mbxServe .tenant (fun r => r.op = 0x0A && !bit (r.p 1) 0) (fun s r f => s.sessEnd r f false))
def execMbxAbort (s : State) : Res :=
  .next (s.mbxServe .tenant (fun r => r.op = 0x0A && bit (r.p 1) 0) (fun s r f => s.sessEnd r f true))

/-- WINDOW_SET: slot contents for a window, where the owner's policy allows them; the firmware waits while a flip is pending. -/
def State.windowSet (s : State) (r : MbxReq) (f : Nat) (allowed : Bool) : Option MbxAns :=
  let w := r.p 0
  if !allowed then some (s, 6, [])
  else if 16 ≤ w || r.p 2 % 4096 ≠ 0 then some (s, 7, [])
  else if s.flag (winA f w 0x20) 30 then none
  else
    let sl := 1 - s.fld (winA f w 0x20) 0 0
    let s := ((s.slotWrite f w sl 1 (r.p 2)).slotWrite f w sl 2 (r.p 3)).slotWrite f w sl 0 (r.p 1)
    let s := s.winCommit f w
    some (s, if s.flag (winA f w 0x20) 30 then 0 else 7, [])
def execWindowSet (allowed : Bool) (s : State) : Res :=
  .next (s.mbxServe .tenant (fun r => r.op = 0x0B) (fun s r f => s.windowSet r f allowed))

/-- BAD_OPCODE: an opcode that Table 18-4 does not have. -/
def knownOps : List Nat := [1, 2, 3, 4, 5, 6, 7, 8, 9, 0xA, 0xB, 0x10, 0x11, 0x12, 0x20, 0x21, 0x22, 0x23, 0x24, 0x25, 0x26]
def execBadOpcode (s : State) : Res := .next (s.mbxServe .any (fun r => !knownOps.contains r.op) (fun s _ _ => some (s, 2, [])))

/-! ### Function states (R375–R378, R390) -/

/-- A command of TFN_FN_CTRL, refused by a discard. -/
def State.fnCtrl (s : State) (f : Nat) (g : State → Option State) : State :=
  match g s with
  | some t => t
  | none => s.reject tfnB (0x10000 + 0x40 * f)
/-- The same through the mailbox, refused with BAD_STATE. -/
def State.fnMail (s : State) (op : Nat) (g : State → Nat → Option State) : State :=
  s.mbxServe .mf (fun r => r.op = op) (fun s _ f => match g s f with
    | some t => some (t, 0, [])
    | none => some (s, 5, []))

/-- FN_FREEZE, FN_THAW and FN_RESET: by TFN_FN_CTRL of a function, or by the oldest mailbox request. -/
def execFnFreeze (f : Option (Fin 260)) (s : State) : Res :=
  .next (match f with
    | some f => s.fnCtrl f.val (fun s => s.fnFreeze f.val)
    | none => s.fnMail 0x10 State.fnFreeze)
def execFnThaw (f : Option (Fin 260)) (s : State) : Res :=
  .next (match f with
    | some f => s.fnCtrl f.val (fun s => s.fnThaw f.val)
    | none => s.fnMail 0x11 State.fnThaw)
def execFnReset (f : Option (Fin 260)) (s : State) : Res :=
  .next (match f with
    | some f => s.fnCtrl f.val (fun s => s.fnResetCmd f.val)
    | none => s.fnMail 0x12 State.fnResetCmd)

/-- FN_CLEANUP_DONE: a function leaves RESETTING, or ORPHANED once its port is UP, when no item carries the FGEN it would hold (R378). -/
def State.cleanupDone (s : State) (f : Nat) : State :=
  if !s.fnClear f (s.fgen f) true then s
  else if s.fnState f = 4 && !(s.fnGet f).flr then s.leaveReset f
  else if s.fnState f = 3 && (match s.rangeHp f with
      | none => false
      | some h => s.hpState h = 2) then (s.fnTo f 0).fnWake f
  else s
def execFnCleanupDone (f : Fin 260) (s : State) : Res := .next (s.cleanupDone f.val)

/-- FREEZE_QUIET: nothing of a FROZEN function is in flight any more. -/
def State.freezeQuiet (s : State) (f : Nat) : State :=
  if s.fnState f = 2 && !s.flag (tfnStat f) 31 && s.fnClear f (s.fgen f) false then
    (s.setFld (tfnStat f) 31 31 1).raise tfnB Ev.tfnFrozen (Src.fn f)
  else s
def execFreezeQuiet (f : Fin 260) (s : State) : Res := .next (s.freezeQuiet f.val)

/-- FREEZE_TIMEOUT: FREEZE_MS has passed with QUIET 0; raised once for a freeze. -/
def State.freezeLate (s : State) (f : Nat) : State :=
  let due := mget (fun _ => 0) s.tfn.frozenAt f + s.fld (tfnB + 0x40) 31 16 * uMs
  if s.fnState f = 2 && !s.flag (tfnStat f) 31 && s.past due && !s.tfn.frozenOut.contains f then
    (s.setTfn (fun t => { t with frozenOut := f :: t.frozenOut })).raise tfnB Ev.tfnFreezeTimeout (Src.fn f)
  else s
def execFreezeTimeout (f : Fin 260) (s : State) : Res := .next (s.freezeLate f.val)

/-! ### Migration (R391–R394) -/

/-- MIG_KEYX, MIG_ACCEPT, LOG_START, LOG_SYNC, LOG_STOP, SAVE; RESTORE of the blob that the host's buffer holds. -/
def execMigKeyx (s : State) : Res := .next (s.mbxServe .mf (fun r => r.op = 0x20) (fun s r f => some (s.migKeyx r f)))
def execMigAccept (s : State) : Res := .next (s.mbxServe .mf (fun r => r.op = 0x21) (fun s r f => some (s.migAccept r f)))
def execLogStart (s : State) : Res := .next (s.mbxServe .mf (fun r => r.op = 0x22) (fun s r f => some (s.logStart r f)))
def execLogSync (s : State) : Res := .next (s.mbxServe .mf (fun r => r.op = 0x23) (fun s r f => some (s.logSync r f)))
def execLogStop (s : State) : Res := .next (s.mbxServe .mf (fun r => r.op = 0x24) (fun s _ f => some (s.logStop f)))
def execMbxSave (s : State) : Res := .next (s.mbxServe .mf (fun r => r.op = 0x25) (fun s r f => some (s.migSave r f)))
def execMbxRestore (blob : List Byte) (s : State) : Res :=
  .next (s.mbxServe .mf (fun r => r.op = 0x26) (fun s _ f => if 256 ≤ f then some (s, 7, []) else s.migRestore f blob))

/-! ### Doorbells (R383) -/

/-- TXQ_PI_WRITE, TXQ_CI_WRITE, RXQ_PI_WRITE, RXQ_CI_WRITE. -/
def execTxqPiWrite (f : Fin 256) (q : Fin 768) (v : Word) (s : State) : Res := .next (s.piWrite f.val false q.val v.toNat)
def execTxqCiWrite (f : Fin 256) (q : Fin 768) (v : Word) (s : State) : Res := .next (s.ciWrite f.val false q.val v.toNat)
def execRxqPiWrite (f : Fin 256) (q : Fin 768) (v : Word) (s : State) : Res := .next (s.piWrite f.val true q.val v.toNat)
def execRxqCiWrite (f : Fin 256) (q : Fin 768) (v : Word) (s : State) : Res := .next (s.ciWrite f.val true q.val v.toNat)

/-! ### Sending (R384, R385) -/

/-- A fetched TX descriptor, or its frame, leaves the fetches. -/
def State.fetchTake (s : State) (h : Nat) (x : Fetch) : State := s.setHport h (fun p => { p with fetch := p.fetch.erase x })

/-- A TX descriptor has arrived: its frame is fetched, or it is completed with an error. -/
def State.txDesc (s : State) (f q i : Nat) (x : Fetch) : State :=
  if x.failed then (s.bump (tfCnt f 9) 1).putCpl f x.gen false q i { status := 1 }
  else
    let d := x.data
    let low := bits (dWord d 1) 31 0
    if !txDescOk d then (s.bump (tfCnt f 8) 1).putCpl f x.gen false q i { status := 2, low := low }
    else s.fetchOf f (.txFrame q i d) (dWord d 0) (bits (dWord d 1) 63 50)

/-- The frame of a RAW queue has arrived: it waits for an injection slot with its entry stamp. -/
def State.txRaw (s : State) (f q i pipe : Nat) (d : List Byte) (x : Fetch) : State :=
  let d1 := dWord d 1
  let rel := bits (dWord d 2) 47 0 * uS + bits (dWord d 3) 47 16 * uNs + bits (dWord d 3) 15 0
  let b := s.birth {
    id := 0, bytes := x.data, src := .tenant f q i x.gen (bits d1 31 0), md := busOf (16 + f) x.doneTs false,
    rel := if bit d1 49 then some rel else none, oneStep := bit d1 48 }
  b.2.setPipe pipe (fun y => { y with host := y.host ++ [b.1] })

/-- The payload of a SERVICE queue has arrived: its context takes it, or it is completed as DISCARDED, as where the context has stopped sending
(R291) or refuses it (R292). -/
def State.txService (s : State) (f q i id : Nat) (d : List Byte) (x : Fetch) : State :=
  let c := s.ctx id
  let gone := fun (s : State) => s.putCpl f x.gen false q i { status := 3, len := x.data.length, low := c.handle }
  if c.state ≠ 2 || c.fn ≠ f || c.fgen ≠ s.fgen f || (c.txStop && !bit (dWord d 1) 47) then gone s
  else match s.svcRefuses id x.data with
  | some code => gone (s.svcErr id code)
  | none =>
    let s := s.svcTx id x.data (bit (dWord d 1) 47)
    ((s.putCpl f x.gen false q i { status := 0, len := x.data.length, low := c.handle }).bump (tfCnt f 0) 1).bump (tfCnt f 1) x.data.length

/-- Whether a fetch that ended belongs to TX queue q of function f. -/
def Fetch.isTx (x : Fetch) (f q : Nat) : Bool := x.f = f && x.over && (match x.what with
  | .txDesc q' _ => q' = q
  | .txFrame q' _ _ => q' = q
  | .rxDesc _ _ => false)

/-- TX_DESC_FETCHED: the oldest fetch of a TX queue that has ended is handed on. A function that may not send holds it (R364), a context
without room lets it wait. -/
def State.txFetched (s : State) (f q : Nat) : State :=
  let s := s.queFetch f false q
  match s.fnHp f with
  | none => s
  | some h => match (s.hport h).fetch.find? (fun x => x.isTx f q) with
    | none => s
    | some x =>
      if !s.fnSends f || s.fnLost f then s
      else if x.gen ≠ s.fgen f then (s.fetchTake h x).bump (tfCnt f 10) 1
      else match x.what, s.tq_ f false q with
        | .txDesc _ i, some _ => (s.fetchTake h x).txDesc f q i x
        | .txFrame _ i d, some t =>
          if x.failed then
            ((s.fetchTake h x).bump (tfCnt f 9) 1).putCpl f x.gen false q i { status := 1, low := bits (dWord d 1) 31 0 }
          else if t.typ = 0 then (s.fetchTake h x).txRaw f q i t.pipe d x
          else match t.ctx with
            | none => (s.fetchTake h x).putCpl f x.gen false q i { status := 3, len := x.data.length }
            | some id =>
              if (s.ctx id).state = 1 || ((s.ctx id).state = 2 && !s.svcTakes id x.data) then s
              else match s.ctxPair id .clean with
                | none => s
                | some (_, s) => (s.fetchTake h x).txService f q i id d x
        | _, _ => s
def execTxDescFetched (f : Fin 256) (q : Fin 768) (s : State) : Res := .next (s.txFetched f.val q.val)

/-- The completion of a finished frame of a RAW queue. -/
def txCpl (x : TxFin) (tag : Nat) : Cpl :=
  let base : Cpl := { status := x.status, seqno := x.f.seqno, late := x.f.late, cls := x.f.cls, len := x.f.bytes.length, low := tag }
  match x.sent with
  | none => base
  | some c => { base with cal := c.cal, flag := true, prf := c.prf, ts := c.ts }

/-- TX_COMPLETION: the oldest finished frame is reported. -/
def State.txComplete (s : State) : State :=
  match s.dp.fin with
  | [] => s
  | x :: r =>
    let s := s.setDp (fun d => { d with fin := r })
    match x.f.src with
    | .tenant f q i gen tag =>
      let s := if x.status = 0 && gen = s.fgen f then (s.bump (tfCnt f 0) 1).bump (tfCnt f 1) x.f.bytes.length else s
      s.putCpl f gen false q i (txCpl x tag)
    | _ => s
def execTxCompletion (s : State) : Res := .next s.txComplete

/-! ### Receiving, draining, quotas (R386–R389) -/

/-- RX_DELIVER: what waits for buffers of an RX queue is delivered: a receive copy, or what its contexts hold. -/
def State.rxGo (s : State) (f q : Nat) : State :=
  let ids := (s.svc.ctx.filter (fun e => e.2.fn = f && e.2.req.rxq = q && e.2.state ≠ 0 && !e.2.outq.isEmpty)).map (·.1)
  (ids.foldl (fun s id => s.svcPump id) ((s.queFetch f true q))).rxDeliver f q
def execRxDeliver (f : Fin 256) (q : Fin 768) (s : State) : Res := .next (s.rxGo f.val q.val)

/-- QUEUE_DRAIN_DONE. -/
def execQueueDrainDone (f : Fin 256) (rx : Bool) (q : Fin 768) (s : State) : Res := .next (s.drainDone f.val rx q.val)

/-- TFN_FN_QUOTA_Q is written: within R381, and the queues at or above a lowered quota drain. -/
def State.quotaQ (s : State) (f v : Nat) : State :=
  let a := tfnB + 0x10008 + 0x40 * f
  let tx := bits v 25 16
  let rx := bits v 9 0
  let sum := fun hi lo => ((List.range 260).map (fun g => if g = f then 0 else s.fld (tfnB + 0x10008 + 0x40 * g) hi lo)).sum
  if 768 < tx || 768 < rx || (256 ≤ f && (tx ≠ 0 || rx ≠ 0)) || 16384 < sum 25 16 + tx || 16384 < sum 9 0 + rx then s.reject tfnB (a - tfnB)
  else
    let s := s.wr a (tx * 2 ^ 16 + rx)
    ((s.queues f).filter (fun x => decide ((if x.1 then rx else tx) ≤ x.2))).foldl (fun s x => s.drainStart f x.1 x.2) s
/-- TFN_FN_QUOTA_S is written. -/
def State.quotaS (s : State) (f v : Nat) : State :=
  let a := ctxMaxA f
  if 16384 < bits v 30 16 || 16384 < bits v 14 0 then s.reject tfnB (a - tfnB) else s.wr a (bits v 30 16 * 2 ^ 16 + bits v 14 0)
/-- QUOTA_WRITE: the queue quotas, or those of contexts and keys. -/
def execQuotaWrite (f : Fin 260) (queues : Bool) (v : Word) (s : State) : Res :=
  .next (if queues then s.quotaQ f.val v.toNat else s.quotaS f.val v.toNat)

end Sys2Proof.Machine
end

