-- ==== Sys2Proof/Machine/Tim.lean ====
section
/-! DEFINITION. The commands of TIM and of the TSUs (03_time_base.md). -/
namespace Sys2Proof.Machine

/-- A write of TIM_ADJ_CTRL.SET (R50, R58). `both` is the STEP bit of the same write. -/
def execTimeSet (both atPps clrFail : Bool) (s : State) : Res := .next (s.adjWrite true both atPps clrFail)

/-- A write of TIM_ADJ_CTRL.STEP (R58). `both` is the SET bit of the same write. -/
def execTimeStep (both atPps clrFail : Bool) (s : State) : Res := .next (s.adjWrite false both atPps clrFail)

/-- The pending set or step is applied once a tick has passed, or at the active edge that came now (R58, R59). -/
def State.setStepApply (s : State) : State :=
  match s.tim.pend with
  | none => s
  | some p =>
    if p.atPps then
      match s.tim.edge with
      | none => s
      | some e => if e.1 = s.mono then ((s.setTim (fun t => { t with edge := none })).applyAdj p e.2).afterStep else s
    else if s.tick = p.tick then s else (s.applyAdj p 0).afterStep
def execSetStepApply (s : State) : Res := .next s.setStepApply

/-- No edge within 1.5 s: the request is cancelled (R58). -/
def State.adjPpsTimeout (s : State) : State :=
  match s.tim.pend with
  | none => s
  | some p =>
    if p.atPps && s.past (p.since + uS + uS / 2) then
      let s := (s.setTim (fun t => { t with pend := none })).setFld (timB + 0x78) 4 3 2
      s.raise timB Ev.timeAdjFail Src.device
    else s
def execAdjPpsTimeout (s : State) : Res := .next s.adjPpsTimeout

/-- A boundary without a set or step: a due leap, then the evaluation, each with its TQ unit (R61, R64, R83). -/
def State.boundary (s : State) : State :=
  let l := s.leap
  let s := if l.1 then l.2.chainTqEvent l.2.tq 4 (some 0) else l.2
  let old := s.tq
  let r := s.evaluateTq true false
  if r.1 then r.2.chainTqEvent old 1 (some 0) else r.2

/-- A second boundary not yet evaluated (R61): a set or step that is due comes first, then a due leap, then the
evaluation, each with its TQ unit (R83). -/
def State.secondBoundaryEval (s : State) : State :=
  if secOf s.tb = s.tim.lastSec then s
  else match s.tim.pend with
    | some p => if p.atPps then s.boundary else (s.applyAdj p 0).afterStep
    | none => s.boundary
def execSecondBoundaryEval (s : State) : Res := .next s.secondBoundaryEval

/-- The source in TIM_SRC takes effect once a tick has passed (R54). A 1PPS source that is left leaves its last frequency in TIM_FREQ_ADJ,
on which the time base runs on (R60; DEDUCED). -/
def State.srcChange (s : State) : State :=
  let new := s.fld (timB + 0x4C) 2 0
  if new = s.tim.src || s.tick = s.tim.srcTick then s
  else
    let old := s.tq
    let est := s.offsetEst
    let s := if isPps s.tim.src && !isPps new then (s.wr (timB + 0x60) s.tim.pll.toNat).setTim (fun t => { t with slew := 0, liveTick := none }) else s
    let s := s.setTim (fun t => { t with src := new })
    let s := if isPps new then s.setFld (timB + 0x50) 10 10 ((new + 1) % 2) else s
    let s := s.setFld (timB + 0x50) 9 9 (b2n (s.tim.tenMhz && (new = 3 || new = 4)))
    let qualified := isPps new && !(s.trk s.activeIn).lost && decide (s.lockQual ≤ (s.trk s.activeIn).run)
    let s := match s.tracked with
      | none => s
      | some n => if qualified then s else s.setTrk n (fun t => { t with run := 0, bad := 0, since := s.mono })
    if old = 1 && !qualified then (s.tqTransition 2 est).chainTqEvent 1 1 (some 0) else s
def execSrcChange (s : State) : Res := .next s.srcChange

/-- Whether an edge is accepted (R474): a first edge, or within ±1 µs of the expected instant one or two time-base
seconds after the previous accepted edge. -/
def Track.accepts (t : Track) (m : Int) : Bool :=
  match t.last with
  | none => true
  | some p => decide ((m - p - (uS : Nat)).natAbs ≤ uUs) || decide ((m - p - (2 * uS : Nat)).natAbs ≤ uUs)

/-- An edge on PPS_IN n now (R65, R474). An accepted edge on the active input drives the PLL: a phase error above
STEP_KEEP is stepped away, otherwise the PLL takes a new frequency, from the 10 MHz input where the source uses it, and slews the error away
(R54, R55, R57). -/
def State.ppsInEdge (s : State) (n : Nat) (falling : Bool) : State :=
  let a := timB + 0x80 + 4 * n
  if !s.timBit a 31 || s.timBit a 30 ≠ falling then s
  else
    let cable := s.timF a 15 0 * uNs
    let m : Int := (s.mono : Int) - (cable : Nat)
    if !(s.trk n).accepts m then s
    else
      let t : Int := (s.now : Int) - (cable : Nat)
      let e : Int := t - (t + (uS / 2 : Nat)).ediv (uS : Nat) * (uS : Nat)
      let s := s.setTrk n (fun t => { t with last := some m, lost := false, edges := ((m, e) :: t.edges).take 3 })
      if isPps s.tim.src && n = s.activeIn then
        let s := (s.setTim (fun t => { t with edge := some (s.mono, cable) })).showEst
        if s.stepKeep < e.natAbs then (s.jumpTo (moveBy s.tb (-e)) 3 (-e)).afterStep
        else
          let d := s.draw
          let r := d.2.draw
          let g := if s.flag (timB + 0x50) 9 then Config.tenFreq else Config.pllFreq d.1
          let f : Int := (g % 1000000001 : Nat) - (500000000 : Nat)
          r.2.setTim (fun t => { t with
            pll := BitVec.ofInt 32 f, slew := -e * 1000000000000, slewRate := Config.pllFreq r.1 % 500000000 + 1 })
      else s
def execPpsInEdge (n : Fin 2) (falling : Bool) (s : State) : Res := .next (s.ppsInEdge n.val falling)

/-- Two consecutive expected instants of PPS_IN n have passed (R474); the active input's loss may fail over (R56). -/
def State.ppsInputLost (s : State) (n : Nat) : State :=
  let a := timB + 0x80 + 4 * n
  let active := isPps s.tim.src && n = s.activeIn
  match (s.trk n).last with
  | none => s
  | some p =>
    if (s.timBit a 31 || active) && decide (p + (2 * uS + uUs : Nat) < (s.mono : Int) - (s.timF a 15 0 * uNs : Nat)) then
      let s := s.srcLost n
      let o := s.trk (1 - n)
      if active && s.timBit (timB + 0x4C) 3 && !o.lost && decide (s.lockQual ≤ o.run) then
        s.setFld (timB + 0x50) 10 10 (1 - n)
      else s
    else s
def execPpsInputLost (n : Fin 2) (s : State) : Res := .next (s.ppsInputLost n.val)

/-- The 10 MHz input is lost; with it in use TEN_MHZ_OK clears and TIME_SRC_LOST is raised (R54). -/
def State.tenMhzLost (s : State) : State :=
  let s := s.setTim (fun t => { t with tenMhz := false })
  if s.flag (timB + 0x50) 9 then (s.setFld (timB + 0x50) 9 9 0).raise timB Ev.timeSrcLost Src.device else s
def execTenMhzLost (s : State) : Res := .next s.tenMhzLost

/-- The 10 MHz input is present again; a source that uses it takes its frequency from it (R54). -/
def State.tenMhzReturn (s : State) : State :=
  (s.setTim (fun t => { t with tenMhz := true })).setFld (timB + 0x50) 9 9 (b2n (s.tim.src = 3 || s.tim.src = 4))
def execTenMhzReturn (s : State) : Res := .next s.tenMhzReturn

/-- A write of TIM_SERVO (R61): SOURCE_OK 0 means lost. -/
def State.servoWrite (s : State) (v : Nat) : State :=
  let s := s.wr (timB + 0x98) v
  let s := s.setTim (fun t => { t with servo := some (bits v 30 0), servoAt := s.mono })
  let s := if bit v 31 then s.setTrk 2 (fun t => { t with lost := false })
    else if s.tim.src = 5 && !(s.trk 2).lost then s.srcLost 2
    else s.setTrk 2 (fun t => { t with lost := true, run := 0, bad := 0 })
  s.showEst
def execServoWrite (v : Word) (s : State) : Res := .next (s.servoWrite v.toNat)

/-- No TIM_SERVO write for SERVO_TIMEOUT seconds under the PTP source (R61, R63). -/
def State.servoTimeout (s : State) : State :=
  if s.tim.src = 5 && !(s.trk 2).lost && s.ptpGone then s.srcLost 2 else s
def execServoTimeout (s : State) : Res := .next s.servoTimeout

/-- A leap that SEC has reached (R64), with its TQ unit (R83). -/
def State.leapApply (s : State) : State :=
  let l := s.leap
  if l.1 && decide (s.tim.leapFrom < secOf s.tb) then l.2.chainTqEvent l.2.tq 4 (some 0) else s
def execLeapApply (s : State) : Res := .next s.leapApply

/-- The second of output n's latest due rise: seconds since the epoch at the latest boundary whose time plus the phase
is not past the time base (R65). -/
def State.riseSec (s : State) (n : Nat) : Nat :=
  (((s.tb : Int) - psInt (signed 32 (s.timW (timB + 0x90 + 4 * n)))).ediv (uS : Nat)).toNat

/-- The latest due rise of output n was at most 1.0 ns ago, the accuracy of Table 03-5. -/
def State.riseNow (s : State) (n : Nat) : Bool :=
  decide (((s.tb : Int) - psInt (signed 32 (s.timW (timB + 0x90 + 4 * n)))).emod (uS : Nat) ≤ (uNs : Nat))

/-- A PPS_OUT rises once per second at the boundary plus its phase, unless QUAL_GATE suppresses it (R65). -/
def State.ppsOutRise (s : State) (n : Nat) : State :=
  let a := timB + 0x88 + 4 * n
  let k := s.riseSec n + 1
  if !s.timBit a 31 || !s.riseNow n || k = mget (fun _ => 0) s.tim.lastRise n then s
  else
    let s := s.setTim (fun t => { t with lastRise := mput (fun _ => 0) t.lastRise n k })
    if s.timBit a 30 && (s.tq = 0 || s.tq = 3) then s
    else (s.setTim (fun t => { t with
        pulses := mput (fun _ => none) t.pulses n (some ⟨s.mono + s.timF a 18 0 * uUs⟩) })).emit (.ppsOut n true)
def execPpsOutRise (n : Fin 2) (s : State) : Res := .next (s.ppsOutRise n.val)

/-- WIDTH_US after its rise the pulse ends (R65). -/
def State.ppsOutFall (s : State) (n : Nat) : State :=
  match mget (fun _ => none) s.tim.pulses n with
  | none => s
  | some p =>
    if s.past p.falls then
      (s.setTim (fun t => { t with pulses := mput (fun _ => none) t.pulses n none })).emit (.ppsOut n false)
    else s
def execPpsOutFall (n : Fin 2) (s : State) : Res := .next (s.ppsOutFall n.val)

/-- The effects of a device reset on TIM (R52): command and report registers, the pending set or step, the PTM
dialogues, and the captures of rejected writes and first errors (R436). -/
def State.timReset (s : State) : State :=
  let regs := mclear (fun a =>
    [0x0C, 0x10, 0x14, 0x18, 0x1C, 0x20, 0x24, 0x28, 0x2C, 0x30, 0x64, 0x68, 0x6C, 0x70, 0x74, 0x78, 0x98,
      0x100, 0x120, 0x140, 0x160].contains (a - timB) && decide (timB ≤ a)) s.regs
  let latch := mclear (fun k => decide (timB ≤ k % 2 ^ 32) && decide (k % 2 ^ 32 < timB + 0x100000)) s.latch
  let s := { s with regs := regs, latch := latch }
  s.setTim (fun t => { t with
    pend := none
    edge := none
    liveTick := none
    ptm := t.ptm.map (fun e => (e.1, { e.2 with opened := none, lastStart := none })) })

/-- A TIM block reset (R473): the time base runs on and TIM stays in RUN. -/
def execTimBlockReset (s : State) : Res := .next (if s.pw.hold.any then s else s.timReset.raise timB Ev.blockResetDone (blkSrc timB))

/-- A read of TIM_NOW_W2 samples the time base and latches W0 and W1 for its requester (R42, R53). -/
def State.timeNowRead (s : State) (q : Req) : Nat × State :=
  let t := s.now
  (tsWord t 2, (s.setLat q (timB + 0x40) (tsWord t 0)).setLat q (timB + 0x44) (tsWord t 1))
def execTimeNowRead (q : Req) (s : State) : Res := .next (answer q (timB + 0x48) (s.timeNowRead q))

/-- A write of TSU_CAL.START; ignored while RUNNING or while the link is not UP (R67). -/
def State.tsuCalStart (s : State) (p : Nat) : State :=
  if s.flag (tsuB p + 0x50) 2 || !s.linkIsUp p then s else s.calStart p
def execTsuCalStart (p : Fin 16) (s : State) : Res := .next (s.tsuCalStart p.val)

/-- The lane calibration of port p ends, 0.8 ms to 2.0 ms after its start (R67, Table 03-5); `deskew` is the
correction it measured. -/
def State.tsuCalDone (s : State) (p : Nat) (good : Bool) (deskew : Nat) : State :=
  let a := tsuB p + 0x50
  if s.flag a 2 && s.past ((s.tsuGet p).calAt + 800 * uUs) && decide (s.mono ≤ (s.tsuGet p).calAt + 2000 * uUs) then
    if good then
      let s := (s.setFld a 3 1 1).wr (tsuB p + 0x54) deskew
      if (mget (fun _ => none) s.dp.prf.adj p).isSome then s.setFld (prfB + 0x104 + 0x10 * p) 31 31 1 else s
    else (s.setFld a 3 1 4).raise (tsuB p) Ev.tsuCalFail (Src.port p)
  else s
def execTsuCalDone (p : Fin 16) (good : Bool) (deskew : Word) (s : State) : Res :=
  .next (s.tsuCalDone p.val good deskew.toNat)

/-- A read of TSU_TXTS_TAG (R72): with an entry it pops the head and latches its TS96 for the requester. -/
def State.txtsPop (s : State) (q : Req) (p : Nat) : Nat × State :=
  let b := tsuB p
  match (s.tsuGet p).txts with
  | [] => (0, s)
  | e :: r =>
    let s := s.setTsu p (fun t => { t with txts := r })
    let s := ((s.setLat q (b + 0x60) (tsWord e.ts 0)).setLat q (b + 0x64) (tsWord e.ts 1)).setLat q (b + 0x68) (tsWord e.ts 2)
    (pk [(1, 1), (3, 0), (4, e.msgType), (8, e.domain), (16, e.seqId)], s)
def execTxtsPop (q : Req) (p : Fin 16) (s : State) : Res := .next (answer q (tsuB p.val + 0x6C) (s.txtsPop q p.val))

/-- Base of host port h's PTM registers. -/
def ptmB (h : Nat) : Nat := timB + 0x100 + 0x20 * h

/-- A PTM dialogue starts every PERIOD_MS while EN is 1 and the host enabled PTM (R74). -/
def State.ptmDialogueStart (s : State) (h : Nat) : State :=
  let p := s.ptmGet h
  let due := match p.lastStart with
    | none => true
    | some t => s.past (t + s.fld (ptmB h) 15 0 * uMs)
  if s.flag (ptmB h) 31 && (s.fnGet (256 + h)).ptmEnable && p.opened.isNone && due then
    s.setPtm h (fun r => { r with opened := some s.mono, lastStart := some s.mono })
  else s
def execPtmDialogueStart (h : Fin 4) (s : State) : Res := .next (s.ptmDialogueStart h.val)

/-- A PTM response within 100 µs completes the dialogue and publishes a new correlation set, within ±8 ns (R74, Table 03-5). -/
def State.ptmResponse (s : State) (h host link : Nat) : State :=
  match (s.ptmGet h).opened with
  | none => s
  | some t =>
    if s.mono ≤ t + 100 * uUs then
      let d := s.draw
      let s := d.2.setPtm h (fun r => { r with opened := none, fails := 0, set := ⟨captureAt s.tb (8 * uNs) d.1, host, link⟩ })
      (s.setFld (ptmB h + 4) 31 31 1).setFld (ptmB h + 4) 15 0 (s.fld (ptmB h + 4) 15 0 + 1)
    else s
def execPtmResponse (h : Fin 4) (hostNs : BitVec 64) (linkPs : Word) (s : State) : Res :=
  .next (s.ptmResponse h.val hostNs.toNat linkPs.toNat)

/-- No response within 100 µs; the third consecutive failure clears VALID and raises PTM_FAIL (R74). -/
def State.ptmTimeout (s : State) (h : Nat) : State :=
  match (s.ptmGet h).opened with
  | none => s
  | some t =>
    if t + 100 * uUs < s.mono then
      let n := (s.ptmGet h).fails + 1
      let s := s.setPtm h (fun r => { r with opened := none, fails := n })
      if n = 3 then (s.setFld (ptmB h + 4) 31 30 1).raise timB Ev.ptmFail (Src.hostPort h) else s
    else s
def execPtmTimeout (h : Fin 4) (s : State) : Res := .next (s.ptmTimeout h.val)

/-- A read of TIM_PTM_STAT latches the correlation set for its requester (R74). -/
def State.ptmStatRead (s : State) (q : Req) (h : Nat) : Nat × State :=
  let c := (s.ptmGet h).set
  let b := ptmB h
  let s := ((s.setLat q (b + 8) (tsWord c.dev 0)).setLat q (b + 12) (tsWord c.dev 1)).setLat q (b + 16) (tsWord c.dev 2)
  let s := ((s.setLat q (b + 20) (bits c.host 31 0)).setLat q (b + 24) (bits c.host 63 32)).setLat q (b + 28) c.link
  (s.rd (b + 4), s)
def execPtmStatRead (q : Req) (h : Fin 4) (s : State) : Res := .next (answer q (ptmB h.val + 4) (s.ptmStatRead q h.val))

end Sys2Proof.Machine
end

