-- ==== Sys2Proof/Machine/BlkOps.lean ====
section
/-! DEFINITION. What every block header does: COMMIT, QUIESCE, RESUME and BLOCK_RESET, block by block (02_registers_and_views.md
R36–R48; 21_events_and_errors.md R439, R442). -/
namespace Sys2Proof.Machine

/-- The bases of the block instances with a header, in address order. -/
def blkBases : List Nat :=
  [genB, evtB, pwrB, bootB, timB] ++ (List.range 16).map tsuB ++ [tailB, strB] ++ (List.range 4).map macB ++ (List.range 4).map prsB
    ++ (List.range 4).map matB ++ [fwdB, seqB, prfB, schB] ++ (List.range 12).map engB ++ [rplB, cipB, memB, mciB, hifB, tfnB, dbgB]
/-- Block instance i. -/
def blkBase (i : Fin 58) : Nat := blkBases.getD i.val 0

/-- Block code and instance number at a base. -/
def codeOf (base : Nat) : Nat := match instAt base with
  | none => 0
  | some i => i.code
def instOf (base : Nat) : Nat := match instAt base with
  | none => 0
  | some i => i.inst
/-- An address lies in the instance at a base. -/
def inBlk (base a : Nat) : Bool := match instAt base with
  | none => false
  | some i => decide (base ≤ a) && decide (a < base + i.size)

/-! ### COMMIT (R37, R38) -/

/-- No unit is in progress. -/
def State.blkIdle (s : State) (base : Nat) : Bool :=
  let n := instOf base
  match codeOf base with
  | 0x09 => (List.range 4).all (fun i => (s.mac (4 * n + i)).cur.isNone)
  | 0x0E => (List.range 16).all (fun p => (s.heldOf p).isEmpty)
  | 0x10 => (List.range 16).all (fun e => (s.eng (16 * n + e)).run.isNone)
  | 0x12 => cores.all (fun k => (s.coreRun k).isNone)
  | 0x14 => (List.range 32).all (fun c => (s.ch c).queue.isEmpty)
  | 0x16 => [0, 1, 2, 3].all (fun h => (s.hport h).wtlp.isEmpty)
  | _ => true

/-- A commit of a cluster's slot tables leaves an EPOCH crumb for each engine (Table 14-1, R296). -/
def State.slotEpochs (s : State) (c : Nat) : State := (List.range 16).foldl (fun s e => s.epochCrumb [c] 0 2 e 0) s

/-- Every staged shadow of the block becomes active in one step. -/
def State.commitNow (s : State) (base : Nat) : State :=
  let ks := ((s.regs.map (·.1)) ++ (s.act.map (·.1))).filter (fun a => inBlk base a && (match cardAt a with
    | none => false
    | some c => c.s ≠ 0))
  let t := { s with act := ks.foldl (fun m a => mput rstAt m a (mget rstAt s.regs a)) s.act }
  let t := t.setFld (base + 8) 3 3 0
  if codeOf base = 0x10 then t.slotEpochs (instOf base) else t

/-- COMMIT. -/
def State.commit (s : State) (base : Nat) : State :=
  if s.commitBusy base then s
  else if s.blkState base = 2 || s.blkIdle base then s.commitNow base
  else s.setFld (base + 8) 3 3 1

/-- The unit boundary that a pending commit waits for. -/
def State.commitApply (s : State) (base : Nat) : State := if s.commitBusy base then s.commitNow base else s

/-! ### QUIESCE (R40, R41) -/

/-- The blocks that act on QUIESCE (R48). -/
def quiesces (base : Nat) : Bool := !runsAtReset (codeOf base) || codeOf base = 0x15

/-- What a block does on entering QUIESCING. -/
def State.onQuiescing (s : State) (base : Nat) : State :=
  let n := instOf base
  match codeOf base with
  | 0x07 => s.tailChainEnd
  | 0x0D =>
    let l := (List.range 4).flatMap (fun k => s.seqFifo k)
    let s := (List.range 4).foldl (fun s k => s.setFifo k []) s
    l.foldl (fun s m => s.seqBypass m.f m.dest) s.seqPeriod
  | 0x10 => (thrsOf n).foldl (fun s t =>
      if (s.thr t).state = 0 || (s.thr t).state = 6 then s else s.signalTo t (s.fld (engB n + 0x40) 31 27) none) s
  | 0x11 => s.rpEnd 7
  | 0x14 => (List.range 32).foldl (fun s c => s.chQuiesce c) s
  | _ => s

/-- QUIESCE: from RUN; a pending commit completes first. -/
def State.quiesce (s : State) (base : Nat) : State :=
  if quiesces base && s.running base then
    let s := s.commitApply base
    let s := (s.setBlk base 1).onQuiescing base
    { s with quies := mput (fun _ => none) s.quies base (some (s.mono, false)) }
  else s

/-- No unit remains. -/
def State.quDone (s : State) (base : Nat) : Bool :=
  let n := instOf base
  match codeOf base with
  | 0x07 => s.tl.hold.isEmpty && s.tl.tqStore.isNone && s.tl.due.isNone && s.tl.slots.isEmpty
  | 0x08 => s.strState ≠ 2 || (s.sl.kept.isEmpty && s.sl.waiting.isEmpty)
  | 0x09 => (List.range 4).all (fun i =>
      (s.mac (4 * n + i)).cur.isNone && (s.mac (4 * n + i)).staged.isEmpty && !(s.heldOf (4 * n + i)).any (·.fetched))
  | 0x0A => (s.pipe n).arr.isEmpty && (s.pipe n).recirc.isEmpty
  | 0x0B => (s.pipe n).arr.isEmpty && (s.pipe n).recirc.isEmpty && (s.pipe n).egress.isEmpty
  | 0x0D => s.dp.seq.hold.isEmpty
  | 0x0E => (List.range 16).all (fun p => (s.heldOf p).isEmpty)
  | 0x10 => (thrsOf n).all (fun t =>
      let x := s.thr t
      (x.state = 0 || x.state = 5 || x.state = 6) && !s.stalled t && x.res.isEmpty)
  | 0x11 => s.rpl.rp.isNone && (List.range 12).all (fun c => (s.cap c).fifo.isEmpty)
  | 0x12 => cores.all (fun k => (s.coreRun k).isNone) && s.suspended = 0
  | 0x14 => (List.range 32).all (fun c => s.chState c = 2)
  | 0x16 => [0, 1, 2, 3].all (fun h => (s.hport h).fetch.all (fun x => x.reqs.all (fun r => match r.st with
      | .out _ _ => false
      | _ => true)))
  | 0x17 => s.tfn.mbxQ.isEmpty && s.tfn.rsp.isEmpty
  | _ => true

/-- What a block does on becoming QUIESCED. -/
def State.onQuiesced (s : State) (base : Nat) : State :=
  let n := instOf base
  match codeOf base with
  | 0x08 => if s.strState = 2 then s else s.returnUnits
  | 0x09 => (List.range 4).foldl (fun s i => s.goLink (4 * n + i) 0 false) s
  | 0x10 => s.dueCkpt n
  | _ => s

/-- QUIESCE_DONE. -/
def State.quiesced (s : State) (base : Nat) : State :=
  if s.blkState base = 1 && s.quDone base then
    let s := { (s.setBlk base 2) with quies := mput (fun _ => none) s.quies base none }
    s.onQuiesced base
  else s

/-- The quiesce limit of a block. -/
def State.quLimit (s : State) (base : Nat) : Nat :=
  match codeOf base with
  | 0x07 => 10 * uMs
  | 0x08 => 100 * uMs
  | 0x09 => 20 * uMs
  | 0x0A => uUs
  | 0x0B => 10 * uUs
  | 0x0C => 100 * uUs
  | 0x0D => s.settleNs + 20 * uUs
  | 0x0E => (s.fldA (prfB + 0x40) 31 22 + 10) * uMs
  | 0x0F => 2 * uUs
  | 0x10 => s.fld (base + 0x40) 26 16 * uMs
  | 0x11 => uMs
  | 0x12 => uMs
  | 0x14 => 10 * uUs
  | 0x16 => ((List.range 260).foldl (fun m f => if s.fnOn f then max m (s.cto f) else m) 0) + uMs
  | 0x17 => 10 * uMs
  | _ => 0

/-- QUIESCE_TIMEOUT, once per QUIESCING. -/
def State.quiesceLate (s : State) (base : Nat) : State :=
  match mget (fun _ => none) s.quies base with
  | some (t, false) =>
    if s.blkState base = 1 && !s.quDone base && s.past (t + s.quLimit base) then
      { s with quies := mput (fun _ => none) s.quies base (some (t, true)) }.raise base Ev.quiesceTimeout (blkSrc base)
    else s
  | _ => s

/-! ### RESUME (R40, R440) -/

/-- The threads of a cluster on RESUME (Table 11-5); checkpoint 0 follows the START crumb, before any turn (R295). -/
def State.cluResume (s : State) (c : Nat) : State :=
  let s := s.rplResume c
  let s := (thrsOf c).foldl (fun s t =>
    let x := s.thr t
    if x.state ≠ 0 then s
    else if !x.loaded then s.thrTo t 1
    else match x.entry with
      | none => s
      | some pc => (s.setThr t (fun y => { y with pc := pc, loaded := false })).thrTo t 1) s
  (List.range 16).foldl (fun s e => s.kick (16 * c + e)) (s.dueCkpt c)

/-- What a block does on returning to RUN. -/
def State.onResume (s : State) (base : Nat) : State :=
  let n := instOf base
  match codeOf base with
  | 0x07 => s.tailResume
  | 0x08 => if s.flag (strB + 0x40) 31 then s.strTryTrain else if s.strState = 0 then s else s.strDisable
  | 0x09 => (List.range 4).foldl (fun s i => s.linkEval (4 * n + i)) s
  | 0x10 => s.cluResume n
  | 0x11 => (List.range 12).foldl (fun s c => if s.det c then s.lossEnd c else s) s
  | 0x14 => (List.range 32).foldl (fun s c => if s.chState c = 2 && s.flag (memCh c + 4) 6 then s.chResume c else s) s
  | 0x16 => (List.range 260).foldl (fun s f => if s.bme f then s.fnFlow f else s) s
  | _ => s

/-- RESUME: from QUIESCED; refused while SAFE, and for a cluster without an image in any state (R251). -/
def State.resume (s : State) (base : Nat) : State :=
  if !quiesces base then s
  else if codeOf base = 0x10 && !s.flag (base + 0x44) 29 then s.reject base 4
  else if s.blkState base ≠ 2 then s
  else if s.safe base then s.reject base 4
  else (s.setBlk base 0).onResume base

/-! ### BLOCK_RESET (R44, R442) -/

/-- What of a register word a block reset keeps: RWS fields, and the registers that the chapter of the block keeps or that report
what lies outside it. -/
def resetKeeps (code off : Nat) : Nat :=
  match code with
  | 0x01 => if off = 0x44 then top32 else 0
  | 0x02 => if decide (0x1000 ≤ off) && decide (off < 0x2000) && off % 16 ≠ 12 then top32 else 0
  | 0x03 => if off = 0x44 || off = 0x54 || off = 0x1D0 then top32 else 0
  | 0x04 => if off = 0x44 || off = 0x40214 || (decide (0x4C ≤ off) && decide (off < 0xB0)) then top32 else if off = 0x40040 then 0x80000000 else 0
  | 0x06 => 0
  | 0x08 => if off = 0x44 then 0x300 else 0
  | 0x09 => if off = 0x68 then 0x80000000 else 0
  | 0x0A => if off = 0x40 then 0x10F else 0
  | 0x0F => if off = 0x50 then 0x3FFFF else 0
  | 0x10 => if 0x80000 ≤ off then top32 else 0
  | 0x12 => if 0x10000 ≤ off then top32 else if off = 0x200 then 0x60000000 else 0
  | 0x14 => if decide (0x400 ≤ off) && decide (off < 0xC00) && off % 0x40 = 4 then 0x90 else 0
  | 0x15 => if off = 0x40 then top32 else 0
  | 0x16 => if decide (0x1000 ≤ off) && decide (off < 0x5000) && off % 0x1000 = 8 then top32 else 0
  | 0x18 => if off = 0x40 then 0xA0000003 else if off = 0x48 || (decide (0x140 ≤ off) && decide (off < 0x160)) then top32 else 0
  | _ => 0

/-- Counters that outlive a block reset: powered hours, key counters, channels. -/
def keepsCnt (code off : Nat) : Bool :=
  code = 0x03 || (code = 0x12 && decide (0x20000 ≤ off)) || (code = 0x10 && decide (0x80000 ≤ off))

/-- The registers of the instance take their reset values; its latches are lost. -/
def State.regsReset (s : State) (base : Nat) : State :=
  let code := codeOf base
  let keep := fun a => resetKeeps code (a - base) ||| (match cardAt a with
    | none => 0
    | some c => c.rws)
  let regs := s.regs.foldr (fun e m =>
    if inBlk base e.1 then mput rstAt m e.1 ((e.2 &&& BitVec.ofNat 32 (keep e.1)) ||| (rstAt e.1 &&& ~~~ BitVec.ofNat 32 (keep e.1))) else m) s.regs
  { s with regs := regs, act := mclear (inBlk base) s.act, latch := mclear (fun k => inBlk base (k % 2 ^ 32)) s.latch }

/-- Frames in an ingress pipeline end, counted with those that R171 discards. -/
def State.dropPipe (s : State) (n : Nat) : State :=
  let l := (s.pipe n).arr ++ (s.pipe n).recirc
  let s := s.setPipe n (fun x => { x with arr := [], recirc := [] })
  (l.foldl (fun s f => s.endCopy f.id true .dropped) s).bump (matCnt n 8) l.length

/-- A cluster's threads parked, its memory zeroed, queues flushed, reservations voided, handles freed (Table 11-5). -/
def State.cluReset (s : State) (c : Nat) : State :=
  let s := match s.rpl.rp with
    | none => s
    | some x => if x.target = c then s.rpEnd 7 else s
  let s := ((s.flushIq c).voidCluster c).freeHandles c
  let s := s.setClu c (fun x => { x with dmem := [], handles := [], rhandles := [], gen := x.gen + 1, dlAt := none })
  let s := (thrsOf c).foldl (fun s t => s.setThr t (fun _ => {})) s
  (List.range 16).foldl (fun s e => s.setEng (16 * c + e) (fun _ => {})) s

/-- The datapath state of the block; its counters are already at 0. -/
def State.dataReset (s : State) (base : Nat) : State :=
  let n := instOf base
  match codeOf base with
  | 0x02 => { s with log := [] }
  | 0x04 => [0, 1, 2, 3].foldl (fun s q =>
      let l := s.vq 284 q
      (l.foldl (fun s c => s.takeWaiting c .dropped) s).bump (bootB + 0x40300) l.length) s
  | 0x06 => s.setTsu n (fun _ => {})
  | 0x07 => (s.setTl (fun _ => { bucketAt := s.mono })).setSl (fun x => { x with
      kept := x.kept.map (fun f => { f with units := f.units.map (fun u => { u with ring := false }) })
      waiting := x.waiting.map (fun u => { u with ring := false }) })
  | 0x08 => (s.strDisable).setSl (fun _ => {})
  | 0x09 =>
    let s := (List.range 4).foldl (fun s i =>
      let p := 4 * n + i
      let s := (s.goLink p 0 false).setMac p (fun m => { fcb := m.fcb })
      if (s.heldOf p).any (·.fetched) then
        s.setHeld p ((s.heldOf p).map (fun h => if h.fetched then { h with fetched := false, bad := true } else h)) else s) s
    let s := if s.flag (macB n + 0x60) 30 then s else s.emit (.modLp n true)
    s.setMod n (fun m => { m with busy := none })
  | 0x0A =>
    let s := (((s.dropPipe n).setFld (matB n + 0x48) 9 9 0).oldLevel n).recircLevel n
    s.setDp (fun d => { d with badWords := d.badWords.filter (fun a => !inBlk base a) })
  | 0x0B =>
    let l := (s.pipe n).egress
    let s := if s.fld (matB n + 0x48) 3 0 = 0 then s else s.epochCrumb (List.range 12) n 0 0 0
    let s := if s.fld (matB n + 0x48) 27 24 = 0 then s else s.epochCrumb (List.range 12) n 1 0 0
    let s := s.dropPipe n
    let s := l.foldl (fun s c => s.loseCopy c) (s.setPipe n (fun x => { x with egress := [] }))
    let s := (((s.setFld (prsB n + 0x40) 3 0 0).setFld (prsB n + 0x40) 9 8 0).bump (matCnt n 8) l.length)
    s.setDp (fun d => { d with badWords := d.badWords.filter (fun a => !inBlk base a) })
  | 0x0C => s.setFwd (fun _ => { sweptAt := s.mono })
  | 0x0D =>
    let l := s.dp.seq.hold ++ (List.range 4).flatMap (fun k => s.seqFifo k)
    let s := s.setSeq (fun _ => {})
    (l.mergeSort (fun a b => !b.before a)).foldl (fun s m => s.seqBypass m.f m.dest) s
  | 0x0E =>
    let s := (List.range 16).foldl (fun s p =>
      let l := s.heldOf p
      let s := s.setHeld p []
      l.foldl (fun s h => (((s.bump (prfCnt (p / 4) 3) 1).missRecord p h.cp).leaveGroup h.cp).endCopy h.cp.f.id (!h.cp.deep) .dropped) s) s
    s.setPrf (fun f => { f with cal := [], adj := [] })
  | 0x0F =>
    let s := (List.range 16).foldl (fun s p => (List.range 32).foldl (fun s q =>
      let l := (s.pq p q).copies
      l.foldl (fun s c => (((s.takeCopy p q 0 c).bump (schQCnt p q (3 + c.f.colour)) 1).dropFlag p q).loseCopy c) s) s) s
    s.setSch (fun d => { d with q := [], active := [], taken := [], pol := [], polBusy := 0, orb := [] })
  | 0x10 => s.cluReset n
  | 0x11 => { s.rpEnd 7 with rpl := {} }
  | 0x12 => (s.endMsgs 7 (fun _ => true)).setCip (fun x => { x with test := [], kw := none })
  | 0x14 => (List.range 32).foldl (fun s c => s.setCh c (fun x => { x with queue := [], hold := x.queue ++ x.hold })) { s with mem := { s.mem with panic := [] } }
  | 0x15 => { s with mem := { s.mem with init := none } }
  | 0x16 => [0, 1, 2, 3].foldl (fun s h => if s.hpState h = 2 then (s.hpLeave h).hpTo h 1 else if s.hpUsed h then s.hpDown h else s) s
  | 0x17 => (List.range 260).foldl (fun s f => if s.fnState f = 0 then s else s.fnReset f) s
  | 0x18 => { s with dbg := { s.dbg with chal := none } }
  | _ => s

/-- What follows once the registers are reset. -/
def State.afterReset (s : State) (base was : Nat) : State :=
  match codeOf base with
  | 0x0A => s.setScrub (instOf base) ⟨s.mono, 0⟩
  | 0x0B => s.setScrub (4 + instOf base) ⟨s.mono, 0⟩
  | 0x0C => s.setScrub 8 ⟨s.mono, 0⟩
  | 0x03 => s.pwrGo 0
  | 0x0E => s.setFld (prfB + 0x44) 12 0 s.dp.prf.groups.length
  | 0x10 => if was = 2 then s else s.dueCkpt (instOf base)
  | 0x14 =>
    let s := (List.range 32).foldl (fun s c => (s.chToReset c).setFld (memCh c + 4) 24 16 (s.ch c).hold.length) s
    let held := (List.range 32).flatMap (fun c => (s.ch c).hold)
    [0, 1, 2, 3].foldl (fun s p =>
      s.backlog p (min 1024 ((held.filter (fun r => r.q.rtPort = some p)).map (fun r => unitsOf r.addr r.len)).sum)) s
  | 0x17 => (List.range 260).foldl (fun s f => s.fnWake f) s
  | _ => s

/-- BLOCK_RESET: counters, then the units in the block, then the registers (R44); TIM keeps its time (R473). A device that is held in reset
ignores it (R45). -/
def State.blockReset (s : State) (base : Nat) : State :=
  if s.pw.hold.any then s
  else
    let was := s.blkState base
    let s := if codeOf base = 0x05 then s.timReset
      else
        let code := codeOf base
        let s := { s with cnts := mclear (fun a => inBlk base a && !keepsCnt code (a - base)) s.cnts }
        let s := (s.dataReset base).regsReset base
        { s with quies := mput (fun _ => none) s.quies base none }.afterReset base was
    s.raise base Ev.blockResetDone (blkSrc base)

/-! ### CTRL (R47) -/

/-- A write of CTRL: the highest-numbered bit written as 1 acts. -/
def State.ctrlWrite (s : State) (base v : Nat) : State :=
  if bit v 3 then s.blockReset base else if bit v 2 then s.resume base else if bit v 1 then s.quiesce base
  else if bit v 0 then s.commit base else s

/-! ### SAFE (R439) -/

/-- The units that a block holds are discarded, told by their number. -/
def State.unitsHeld (s : State) (base : Nat) : Nat :=
  let n := instOf base
  match codeOf base with
  | 0x06 => (s.tsuGet n).txts.length
  | 0x07 => s.tl.hold.length + s.tl.ring.length + s.tl.drainQ.length
  | 0x08 => ((s.sl.kept.map (fun f => f.units.length)).sum) + s.sl.waiting.length
  | 0x09 => ((List.range 4).map (fun i => (s.mac (4 * n + i)).staged.length + (if (s.mac (4 * n + i)).cur.isSome then 1 else 0))).sum
  | 0x0A => (s.pipe n).arr.length + (s.pipe n).recirc.length
  | 0x0B => (s.pipe n).arr.length + (s.pipe n).recirc.length + (s.pipe n).egress.length
  | 0x0D => s.dp.seq.hold.length + ((List.range 4).map (fun k => (s.seqFifo k).length)).sum
  | 0x0E => ((List.range 16).map (fun p => (s.heldOf p).length)).sum
  | 0x0F => (s.dp.sch.q.map (fun e => e.2.copies.length)).sum
  | 0x11 => (s.rpl.cap.map (fun e => e.2.fifo.length)).sum
  | 0x12 => (cores.filter (fun k => (s.coreRun k).isSome)).length + ((List.range 4).map (fun k => (s.cipQ k).length)).sum
  | 0x14 => ((List.range 32).map (fun c => (s.ch c).queue.length)).sum
  | 0x16 => ((List.range 4).map (fun h => (s.hport h).fetch.length + (s.hport h).wtlp.length)).sum
    + ((List.range 260).map (fun f => (s.fnGet f).posts.length)).sum
  | 0x17 => s.tfn.mbxQ.length
  | _ => 0

/-- The TLPs that a host port holds are discarded: a fetch fails, its outstanding tags stay until their completions (R361, R362). -/
def State.hifDrop (s : State) (h : Nat) : State :=
  let p := s.hport h
  let n := p.fetch.countP (fun x => !x.failed && x.reqs.any (fun r => match r.st with
    | .out _ _ => false
    | _ => true))
  let s := s.setHport h (fun p => { p with
    wtlp := []
    fetch := p.fetch.map (fun x => { x with reqs := x.reqs.map (fun r => match r.st with
      | .out _ _ => r
      | _ => { r with st := .failed }) }) })
  p.wtlp.foldl (fun s x => s.oldSettle x) (s.bump (hpA h 0x118) n)

/-- They leave the block; destinations follow R14. -/
def State.dropUnits (s : State) (base : Nat) : State :=
  let n := instOf base
  match codeOf base with
  | 0x06 => s.setTsu n (fun x => { x with txts := [] })
  | 0x07 => s.setTl (fun t => { t with hold := [], ring := [], rd := 0, skip := 0, drainQ := [], tqStore := none, due := none })
  | 0x08 => s.strDisable
  | 0x09 => (List.range 4).foldl (fun s i => s.goLink (4 * n + i) 0 false) s
  | 0x0A =>
    let l := (s.pipe n).arr ++ (s.pipe n).recirc
    (((l.foldl (fun s f => s.endCopy f.id true .dropped) s).setPipe n (fun x => { x with arr := [], recirc := [] })).oldLevel n).recircLevel n
  | 0x0B =>
    let x := s.pipe n
    let s := (x.arr ++ x.recirc).foldl (fun s f => s.endCopy f.id true .dropped) s
    ((((x.egress.foldl (fun s c => s.loseCopy c) s).setPipe n (fun x => { x with arr := [], recirc := [], egress := [] })).oldLevel n).recircLevel n)
  | 0x0D =>
    let l := s.dp.seq.hold ++ (List.range 4).flatMap (fun k => s.seqFifo k)
    l.foldl (fun s m => s.endCopy m.f.id true .dropped) (s.setSeq (fun q => { q with hold := [], fifo := [], bypassed := false }))
  | 0x0E => (List.range 16).foldl (fun s p =>
      let l := s.heldOf p
      l.foldl (fun s h => ((s.missRecord p h.cp).leaveGroup h.cp).endCopy h.cp.f.id (!h.cp.deep) .dropped) (s.setHeld p [])) s
  | 0x0F => (List.range 16).foldl (fun s p => (List.range 32).foldl (fun s q =>
      ((s.pq p q).copies).foldl (fun s c => (s.takeCopy p q 0 c).loseCopy c) s) s) s
  | 0x11 => (List.range 12).foldl (fun s c => s.setCap c (fun x => { x with fifo := [] })) (s.rpEnd 7)
  | 0x12 => s.endMsgs 7 (fun _ => true)
  | 0x14 => (List.range 32).foldl (fun s c => s.setCh c (fun x => { x with queue := [] })) s
  | 0x16 => (List.range 260).foldl (fun s f => s.setFn f (fun c => { c with posts := [] })) ([0, 1, 2, 3].foldl (fun s h => s.hifDrop h) s)
  | 0x17 => s.tfn.mbxQ.foldl (fun s r => s.fnMbx r.f) s
  | _ => s

/-- Blocks that never enter SAFE by this rule: those held in triplicated registers (R441), and clusters, whose own rule is Table 11-5. -/
def neverSafe (base : Nat) : Bool := [0x01, 0x02, 0x03, 0x05].contains (codeOf base)

/-- An uncorrectable error in state that a block cannot rebuild takes it to SAFE. -/
def State.toSafe (s : State) (base : Nat) (y : Synd) : State :=
  if neverSafe base || s.safe base then s
  else if codeOf base = 0x10 then s.clusterSafe (instOf base)
  else
    let n := s.unitsHeld base
    let s := ((s.dropUnits base).setBlk base 2).setFld (base + 8) 4 4 1
    let s := { s with quies := mput (fun _ => none) s.quies base none }
    (s.bump (evtB + 0x218) n).raiseAt base Ev.blockSafe (blkSrc base) y

end Sys2Proof.Machine
end

