-- ==== Sys2Proof/Machine/RstOps.lean ====
section
/-! DEFINITION. Power-on and device reset (02_registers_and_views.md R44, R45, Table 02-4; 20_power_clocks_lifetime.md R418, R425;
22_pins_electrical_package.md R457, R460). -/
namespace Sys2Proof.Machine

/-- What of a register word the always-on island, the fuses and the balls keep through a device reset; RWS fields are kept besides. -/
def islandKeeps (a : Nat) : Nat :=
  let off := a - (match instAt a with
    | none => 0
    | some i => i.base)
  match codeOf a with
  | 0x02 => if decide (0x1000 ≤ off) && decide (off < 0x2000) && off % 16 ≠ 12 then top32 else 0
  | 0x03 => top32
  | 0x04 => if off = 0x80 || (decide (0x90 ≤ off) && decide (off < 0xB0)) then top32 else 0
  | 0x05 => top32
  | 0x08 => if off = 0x44 then 0x200 else 0
  | 0x09 => if off = 0x68 then 0x80000000 else 0
  | 0x12 => if off = 0x200 then 0x40000000 else 0
  | 0x16 => if decide (0x1000 ≤ off) && decide (off < 0x5000) && off % 0x1000 = 8 then 0x8000 else 0
  | 0x18 => if off = 0x40 then 0xA0000003 else if off = 0x48 || (decide (0x140 ≤ off) && decide (off < 0x160)) then top32 else 0
  | _ => 0

/-- The fuses and the balls alone, which a power-on reset does not touch. -/
def fuseKeeps (a : Nat) : Nat :=
  let off := a - (match instAt a with
    | none => 0
    | some i => i.base)
  match codeOf a with
  | 0x04 => if off = 0x80 || (decide (0x90 ≤ off) && decide (off < 0xB0)) then top32 else 0
  | 0x08 => if off = 0x44 then 0x200 else 0
  | 0x09 => if off = 0x68 then 0x80000000 else 0
  | 0x16 => if decide (0x1000 ≤ off) && decide (off < 0x5000) && off % 0x1000 = 8 then 0x8000 else 0
  | 0x18 => if off = 0x48 || (decide (0x140 ≤ off) && decide (off < 0x160)) then top32 else 0
  | _ => 0

/-- Every register word takes its reset value but for the bits that `keep` names. -/
def keepRegs (keep : Nat → Nat) (regs : Sparse Word) : Sparse Word :=
  regs.foldr (fun e m =>
    let k := BitVec.ofNat 32 (keep e.1)
    mput rstAt m e.1 ((e.2 &&& k) ||| (rstAt e.1 &&& ~~~ k))) []

/-- The counters held in non-volatile storage (R429). -/
def hoursA (a : Nat) : Bool := a = pwrB + 0x200 || a = pwrB + 0x208

/-- A host port outside PERST# with its reference clock trains (R350). -/
def State.portsStart (s : State) : State :=
  [0, 1, 2, 3].foldl (fun s h =>
    if s.hpUsed h && (s.hport h).refclk && !s.flag (hpA h 8) 15 then s.hpTo h 1 else s) s

/-- The host ports after a reset: only whether each reference clock is present stays. -/
def hpKept (hp : Sparse HpSt) : Sparse HpSt :=
  hp.foldl (fun m e => mput (fun _ => {}) m e.1 { refclk := e.2.refclk }) []

/-- The balls of ports and modules that a reset changes: transmitters go off, MOD_LPMODE rises to its reset level. -/
def State.ballsOff (s : State) : State :=
  let s := (List.range 16).foldl (fun s p => s.setTx p false) s
  [0, 1, 2, 3].foldl (fun s q => if s.flag (macB q + 0x60) 30 then s else s.emit (.modLp q true)) s

/-- The data path after a device reset that ends at `mono`: reset pulses to modules run on; scrub passes and the ageing sweep begin
(R191, R475). -/
def freshDp (d : DataSt) (mono : Nat) : DataSt := {
  mod := d.mod.foldl (fun m e => mput (fun _ => {}) m e.1 { e.2 with busy := none }) []
  scrub := (List.range 9).foldl (fun m k => mput (fun _ => {}) m k ⟨mono, 0⟩) []
  fwd := { sweptAt := mono } }

/-- A device reset: everything but the always-on island and RWS fields; links of host ports go down, the key store is zeroized, and boot
starts again. -/
def State.restart (s : State) : State :=
  let s := [0, 1, 2, 3].foldl (fun s h => if s.hpState h = 2 then s.hpLeave h else s) s
  let s := s.ballsOff
  let s : State := { State.reset with
    pending := s.pending, tb := s.tb, mono := s.mono, free := s.free, out := s.out, straps := s.straps, tim := s.tim
    regs := keepRegs (fun a => islandKeeps a ||| (match cardAt a with
      | none => 0
      | some c => c.rws)) s.regs
    cnts := s.cnts.filter (fun e => inBlk pwrB e.1)
    tl := { bucketAt := s.mono }
    dp := freshDp s.dp s.mono
    boot := { flash := s.boot.flash, hashSet := s.boot.hashSet }
    pw := { s.pw with sentAt := none, eye := [] }
    dbg := { s.dbg with chal := none }
    hp := hpKept s.hp }
  s.timReset.portsStart.zeroize

/-- A device reset is requested; a device that is held in reset ignores it (R45). -/
def State.deviceReset (s : State) : State := if s.pw.hold.any then s else s.restart

/-- A power-on reset: everything, RWS fields and the always-on island included; the straps are sampled. The flash, the fuses, the
powered hours and what is plugged in remain; the key store is zeroized (R323). -/
def State.powerOn (s : State) (straps : Straps) : State :=
  let s := s.ballsOff
  let s := [0, 1, 2, 3].foldl (fun s q => if (s.modGet q).resetEnds.isSome then s.emit (.modRst q true) else s) s
  let s : State := { State.reset with
    pending := s.pending, free := s.free, out := s.out, straps := straps
    regs := keepRegs fuseKeeps s.regs
    cnts := s.cnts.filter (fun e => hoursA e.1)
    boot := { flash := s.boot.flash, hashSet := s.boot.hashSet }
    dbg := { hashSet := s.dbg.hashSet }
    tim := { tenMhz := s.tim.tenMhz }
    hp := hpKept s.hp }
  s.portsStart.zeroize

end Sys2Proof.Machine
end

