-- ==== Sys2Proof/Machine/BootOps.lean ====
section
/-! DEFINITION. Shared operations of boot and the management complex: flash, boot descriptor, bank images, semaphores, watchdog, restarts,
microcode, fuses (19_boot_and_management.md). -/
namespace Sys2Proof.Machine

/-- Update boot's own state. -/
def State.setBoot (s : State) (g : BootSt → BootSt) : State := { s with boot := g s.boot }
/-- BOOT_STATE.STATE. -/
def State.bootState (s : State) : Nat := s.fld (bootB + 0x44) 3 0
/-- Enter a boot state. -/
def State.toBoot (s : State) (v : Nat) : State := s.setFld (bootB + 0x44) 3 0 v

/-! ### Flash (R400) -/

/-- Capacity in bytes by BOOT_FLASH_STAT.SIZE. -/
def State.flashCap (s : State) : Nat := 2 ^ (26 + s.fld (bootB + 0x108) 2 0)
/-- Size of a bank and its first offset (Table 19-4). -/
def State.bankSize (s : State) : Nat := (s.flashCap - 2 ^ 24) / 2
def State.bankBase (s : State) (b : Nat) : Nat := 2 ^ 24 + b * s.bankSize
/-- A byte of the flash. -/
def State.flashAt (s : State) (o : Nat) : Byte := (mget (fun _ => none) s.boot.flash o).getD (Config.flashByte o)
/-- Bytes of the flash. -/
def State.flashBytes (s : State) (o n : Nat) : List Byte := (List.range n).map (fun i => s.flashAt (o + i))
/-- The flash holds bytes from an offset. -/
def State.flashPut (s : State) (o : Nat) (bs : List Byte) : State :=
  s.setBoot (fun b => { b with flash := bs.zipIdx.foldl (fun m x => mput (fun _ => none) m (o + x.2) (some x.1)) b.flash })
/-- Erase: every bit 1. -/
def State.flashErase (s : State) (o n : Nat) : State := s.flashPut o (List.replicate n 0xFF)
/-- Program: bits go to 0 only. -/
def State.flashProgram (s : State) (o : Nat) (bs : List Byte) : State :=
  s.flashPut o (bs.zipIdx.map (fun x => x.1 &&& s.flashAt (o + x.2)))
/-- What a failed operation leaves: free values. -/
def State.flashSpoil (s : State) (o n : Nat) : State :=
  let r := s.draw
  r.2.flashPut o (bytesLE n (Config.anyNat r.1))
/-- A byte of MGC SRAM; a byte that nothing known has written is a free value. -/
def State.sramAt (s : State) (o : Nat) : Byte :=
  (mget (fun _ => none) s.boot.sram o).getD (BitVec.ofNat 8 (Config.anyNat (2 ^ 65 + o)))
/-- MGC SRAM holds bytes from an offset. -/
def State.sramPut (s : State) (o : Nat) (bs : List Byte) : State :=
  s.setBoot (fun b => { b with sram := bs.zipIdx.foldl (fun m x => mput (fun _ => none) m (o + x.2) (some x.1)) b.sram })

/-- A write of BOOT_FLASH_CMD. START is ignored while BUSY; an operation that is not aligned, or passes the end of the flash, is
discarded. -/
def State.flashCmd (s : State) (v : Nat) : State :=
  let a := s.rd (bootB + 0x104)
  let prog := bit v 28
  let unit := if prog then 256 else 65536
  if bit v 29 || bits v 7 0 ≠ 0 then s.reject bootB 0x100
  else if bit v 31 && !s.flag (bootB + 0x108) 31 && (a % unit ≠ 0 || decide (s.flashCap < a + unit)) then s.reject bootB 0x100
  else
    let busy := s.flag (bootB + 0x108) 31
    let s := s.wr (bootB + 0x100) (bits v 29 28 * 2 ^ 28 + bits v 22 0)
    if bit v 31 && !busy then
      let data := if prog then (List.range 256).map (fun i => s.sramAt (bits v 22 0 + i)) else []
      (s.setFld (bootB + 0x108) 31 31 1).setBoot (fun b => { b with op := some ⟨prog, a, data⟩ })
    else s

/-- A flash operation ends. -/
def State.flashDone (s : State) (good : Bool) : State :=
  match s.boot.op with
  | none => s
  | some x =>
    let s := s.setBoot (fun b => { b with op := none })
    let s := (s.setFld (bootB + 0x108) 31 31 0).setFld (bootB + 0x108) 30 30 (b2n (!good))
    if good then (if x.prog then s.flashProgram x.addr x.data else s.flashErase x.addr 65536)
    else s.flashSpoil x.addr (if x.prog then 256 else 65536)

/-! ### The boot descriptor (R401) -/

/-- Its fields (Table 19-5); `a` and `b` are BANK_A and BANK_B. -/
structure Desc where
  gen : Nat := 0
  a : Nat := 0
  b : Nat := 0
  count : Nat := 0
  xid : Nat := 0
  off : Nat := 0
  xbank : Nat := 0
  deriving DecidableEq, Repr

/-- A bank's word. -/
def Desc.bank (d : Desc) (n : Nat) : Nat := if n = 0 then d.a else d.b
def Desc.setBank (d : Desc) (n v : Nat) : Desc := if n = 0 then { d with a := v } else { d with b := v }
/-- STATE, ATTEMPTS and SEQ of a bank's word, and the word they make. -/
def bankSt (w : Nat) : Nat := bits w 31 28
def bankTry (w : Nat) : Nat := bits w 27 24
def bankSeq (w : Nat) : Nat := bits w 23 0
def descWord (st try_ seq : Nat) : Nat := st % 16 * 2 ^ 28 + try_ % 16 * 2 ^ 24 + seq % 2 ^ 24

/-- A copy as bytes. -/
def Desc.bytes (d : Desc) : List Byte :=
  let b := bytesBE 2 0x4244 ++ [0x01, 0x00] ++ bytesBE 4 d.gen ++ bytesBE 4 d.a ++ bytesBE 4 d.b ++ bytesBE 4 d.count ++ bytesBE 4 d.xid
    ++ bytesBE 4 d.off ++ [BitVec.ofNat 8 (d.xbank * 128)] ++ List.replicate 31 0
  b ++ bytesBE 4 (crc32c b).toNat
/-- The descriptor that 64 bytes hold. -/
def descOf (b : List Byte) : Desc :=
  ⟨beAt b 4 4, beAt b 8 4, beAt b 12 4, beAt b 16 4, beAt b 20 4, beAt b 24 4, beAt b 28 1 / 128⟩
/-- Copy n, where its CRC passes. -/
def State.descCopy (s : State) (n : Nat) : Option Desc :=
  let b := s.flashBytes (n * 0x10000) 64
  if beAt b 60 4 = (crc32c (b.take 60)).toNat then some (descOf b) else none
/-- The copy that the ROM reads and its number; with neither, both banks are EMPTY. -/
def State.desc (s : State) : Nat × Desc :=
  match s.descCopy 0, s.descCopy 1 with
  | some d, some e => if d.gen < e.gen then (1, e) else (0, d)
  | some d, none => (0, d)
  | none, some e => (1, e)
  | none, none => (1, {})
/-- The descriptor is written to the copy not used last, with GEN + 1. -/
def State.putDesc (s : State) (d : Desc) : State :=
  let c := s.desc
  s.flashPut ((1 - c.1) * 0x10000) { d with gen := (c.2.gen + 1) % 2 ^ 32 }.bytes

/-! ### Bank images (R402, R403) -/

/-- Bytes of a bank. -/
def State.bankBytes (s : State) (b o n : Nat) : List Byte := s.flashBytes (s.bankBase b + o) n
/-- The section entries of a bank. -/
def State.bankSects (s : State) (b : Nat) : List ImgSect :=
  (List.range (natBE (s.bankBytes b 8 1))).map (fun i =>
    let e := s.bankBytes b (64 + 16 * i) 16
    ⟨beAt e 0 1, beAt e 4 4, beAt e 8 4, beAt e 12 4⟩)
/-- The bytes of a section. -/
def State.sectBytes (s : State) (b : Nat) (x : ImgSect) : List Byte := s.bankBytes b x.off x.len
/-- IMAGE_LEN of a bank. -/
def State.bankLen (s : State) (b : Nat) : Nat := natBE (s.bankBytes b 12 4)
/-- SVN of a bank. -/
def State.bankSvn (s : State) (b : Nat) : Nat := natBE (s.bankBytes b 6 2)
/-- A component is an image of its KIND with a good header and CRC. -/
def compOk (kind : Nat) (c : List Byte) : Bool :=
  decide (64 ≤ c.length) && beAt c 0 4 = 0x41424459 && beAt c 4 1 = 1 && beAt c 5 1 = kind && beAt c 12 4 = c.length
    && beAt c 16 4 = (crc32c (c.drop 64)).toNat

/-- The bank's header is well formed. -/
def headOk (h : List Byte) (size : Nat) : Bool :=
  beAt h 0 4 = 0x41424459 && beAt h 4 1 = 1 && beAt h 5 1 = 0x10 && decide (1 ≤ beAt h 8 1) && decide (beAt h 8 1 ≤ 32)
    && decide (beAt h 12 4 ≤ size) && beAt h 24 4 % 64 = 0 && beAt h 24 4 + 64 = beAt h 12 4 && (beAt h 28 1 = 1 || beAt h 28 1 = 2)
    && (h.drop 29).all (· = 0) && beAt h 9 3 = 0 && decide (64 + 16 * beAt h 8 1 ≤ beAt h 24 4)

/-- The section table is well formed, and names every cluster once. -/
def State.sectsOk (s : State) (b : Nat) : Bool :=
  let l := s.bankSects b
  let one := fun k => decide ((ofTyp l k).length = 1)
  l.all (fun x => decide (1 ≤ x.typ) && decide (x.typ ≤ 6) && decide (x.off + x.len ≤ s.bankLen b))
    && one 2 && one 4 && one 5 && (ofTyp l 2).all (fun x => decide (x.len ≤ 6 * 2 ^ 20))
    && (List.range 12).all (fun c => decide (((ofTyp l 1).filter (fun x => bit x.dest c)).length = 1))

/-- The key that SIGNER names, where it is accepted. -/
def State.signKey (s : State) (b : Nat) : Option (List Byte) :=
  let locked := s.flag (bootB + 0x80) 31
  if natBE (s.bankBytes b 28 1) = 1 then (if locked then none else some Config.romKey)
  else match (ofTyp (s.bankSects b) 6).head? with
    | none => none
    | some x =>
      let k := slice (s.sectBytes b x) 64 65
      let hash := pk ((List.range 8).map (fun n => (32, s.rd (bootB + 0x90 + 4 * n))))
      if locked && sha256 k = hash then some k else none

/-- The check of R403 with its code in BOOT_BANK: 0 passes. -/
def State.bankCheck (s : State) (b : Nat) (readErr : Bool) : Nat :=
  let h := s.bankBytes b 0 64
  let n := s.bankLen b
  let so := beAt h 24 4
  if readErr then 6
  else if !headOk h s.bankSize then 1
  else if !s.sectsOk b then 5
  else if beAt h 16 4 ≠ (crc32c (s.bankBytes b 64 (n - 64))).toNat then 2
  else match s.signKey b with
    | none => 3
    | some k =>
      let sg := s.bankBytes b so 64
      if !ecdsaOk (ptOf k) (sha256 (s.bankBytes b 0 so)) (beAt sg 0 32) (beAt sg 32 32) then 3
      else if s.bankSvn b < s.fld (bootB + 0x80) 15 0 then 4 else 0

/-- SHA-256 of the whole bank. -/
def State.bankDigest (s : State) (b : Nat) : Nat := sha256 (s.bankBytes b 0 (s.bankLen b))
/-- BOOT_DIGEST. -/
def State.bootDigest (s : State) : Nat := pk ((List.range 8).map (fun n => (32, s.rd (bootB + 0x60 + 4 * n))))
/-- The running bank. -/
def State.running_ (s : State) : Nat := s.fld (bootB + 0x4C) 31 31

/-! ### Failure and recovery -/

/-- A boot failure (R399). -/
def State.bootFail (s : State) (code info : Nat) : State :=
  let st := s.bootState
  let s := s.wr (bootB + 0x48) (code * 2 ^ 24 + info % 2 ^ 24)
  if 5 ≤ st && s.flag (bootB + 0x4C) 30 then s.deviceReset else s.toBoot 0xF

/-- RECOVERY is entered. -/
def State.toRecovery (s : State) : State :=
  let s := (((s.toBoot 0xE).setFld (bootB + 0x80040) 31 31 1).setFld (bootB + 0x80040) 30 30 1).setBoot
    (fun b => { b with helloAt := s.mono, xfer := none, path := none, okAt := none })
  s.raise bootB Ev.bootRecovery Src.device

/-! ### Semaphores (R407) -/

/-- A write of GEN_SEM_i. -/
def State.semWrite (s : State) (q : Req) (i v : Nat) : State :=
  let a := genB + 0x80 + 4 * i
  let me : Option Nat := match q with
    | .mgc => some 0
    | .owner => some 1
    | _ => none
  match me with
  | none => s.reject genB (0x80 + 4 * i)
  | some h =>
    if bits v 1 0 = 1 then (if s.flag a 31 then s else s.wr a (2 ^ 31 + h))
    else if bits v 1 0 = 2 && s.flag a 31 && s.fld a 1 0 = h then s.wr a 0
    else s.reject genB (0x80 + 4 * i)

/-! ### Watchdog and restarts (R410, R412) -/

/-- A write of MGC_WDT_KICK: the key restarts the timer; firmware that kicks serves again. -/
def State.wdtKick (s : State) (v : Nat) : State :=
  if v = 0x61600A11 then s.setBoot (fun b => { b with kickAt := s.mono, restarting := false }) else s.reject bootB 0x40044

/-- MGC firmware stops for a restart: its semaphores are released and the requests at it answered RETRY. -/
def State.mgcStop (s : State) : State :=
  let s := (s.semFree 0).setBoot (fun b => { b with restarting := true, kickAt := s.mono })
  let l := s.tfn.mbxQ
  l.foldl (fun s r => s.mbxAnswer r ((s.mbxTarget r).getD r.f) 3 []) { s with tfn := { s.tfn with mbxQ := [] } }

/-- A restart escalates to a device reset. -/
def State.escalate (s : State) : State := (s.raise bootB Ev.mgcEscalate Src.device).deviceReset

/-- The bank copy in the MGC region still has BOOT_DIGEST; `e` is what its read finds. -/
def State.rehash (s : State) (e : Ecc) : Bool × State :=
  match s.boot.copyAt with
  | none => (false, s)
  | some a =>
    let r := s.memRead a (s.bankLen s.running_) e
    (!r.1.2 && sha256 r.1.1 = r.2.bootDigest, r.2)

/-- A restart from the boot copy. -/
def State.restartBoot (s : State) (e : Ecc) : State :=
  let r := s.mgcStop.rehash e
  if r.1 then r.2 else r.2.escalate

/-- A trial is abandoned. -/
def State.trialFail (s : State) : State :=
  let s := ((s.setFld (bootB + 0x4004C) 31 31 0).setFld (bootB + 0x4004C) 30 30 1).bump (bootB + 0x40310) 1
  s.raise bootB Ev.mgcTrialFail Src.device

/-- The watchdog finds no kick within TIMEOUT_MS. -/
def State.wdtExpire (s : State) (e : Ecc) : State :=
  let cfg := s.rd (bootB + 0x40040)
  if !bit cfg 31 || !s.past (s.boot.kickAt + bits cfg 15 0 * uMs) then s
  else
    let s := if s.flag (bootB + 0x4004C) 31 then s.trialFail else s
    let s := s.raise bootB Ev.mgcRestart Src.device
    let s := (s.setFld (bootB + 0x4004C) 23 16 (satAdd 255 (s.fld (bootB + 0x4004C) 23 16) 1)).bump (bootB + 0x40308) 1
    let win := (if bits cfg 23 16 = 0 then 600 else bits cfg 23 16) * uS
    let n := if bits cfg 27 24 = 0 then 3 else bits cfg 27 24
    let l := s.mono :: s.boot.restarts.filter (fun t => decide (s.mono ≤ t + win))
    let s := s.setBoot (fun b => { b with restarts := l })
    if n ≤ l.length then s.escalate else s.restartBoot e

/-- MGC_CTRL.RESTART: from the boot copy, or from the staged component as a trial. -/
def State.mgcRestart (s : State) (src : Bool) (e : Ecc) : State :=
  if src then (s.mgcStop.setFld (bootB + 0x4004C) 31 31 1).setBoot (fun b => { b with trialAt := s.mono }) else s.restartBoot e

/-- MGC_CTRL.CONFIRM. -/
def State.mgcConfirm (s : State) : State := (s.setFld (bootB + 0x4004C) 31 31 0).setBoot (fun b => { b with restarting := false })

/-- A write of MGC_CTRL. -/
def State.mgcCtrl (s : State) (v : Nat) (e : Ecc) : State :=
  if bits v 15 0 = 0 then s.reject bootB 0x40048
  else
    let s := s.wr (bootB + 0x40048) (bits v 30 30 * 2 ^ 30 + bits v 15 0)
    let s := if bit v 29 then s.mgcConfirm else s
    if bit v 31 then s.mgcRestart (bit v 30) e else s

/-- No CONFIRM within TRIAL_MS: the boot copy runs again. -/
def State.trialTimeout (s : State) (e : Ecc) : State :=
  if s.flag (bootB + 0x4004C) 31 && s.past (s.boot.trialAt + s.fld (bootB + 0x40048) 15 0 * uMs) then s.trialFail.restartBoot e else s

/-- A write of MGC_WDT_CFG: EN sets only. -/
def State.wdtCfg (s : State) (v : Nat) : State :=
  if bits v 15 0 < 10 then s.reject bootB 0x40040
  else
    let en := s.flag (bootB + 0x40040) 31
    let s := s.wr (bootB + 0x40040) (b2n (en || bit v 31) * 2 ^ 31 + bits v 27 0)
    if bit v 31 && !en then s.setBoot (fun b => { b with kickAt := s.mono }) else s

/-! ### Fuses (R403) -/

/-- A write of BOOT_OTP: SVN_MIN only rises, CUST_LOCKED needs every word of the hash. -/
def State.otpWrite (s : State) (v : Nat) : State :=
  let w := s.rd (bootB + 0x80)
  if bits v 15 0 < bits w 15 0 || (bit v 31 && !bit w 31 && s.boot.hashSet ≠ 255) then s.reject bootB 0x80
  else s.wr (bootB + 0x80) (b2n (bit w 31 || bit v 31) * 2 ^ 31 + bits v 15 0)

/-- A write of BOOT_CUST_HASH_Wn: once per word while CUST_LOCKED is 0. -/
def State.custHash (s : State) (n v : Nat) : State :=
  if s.flag (bootB + 0x80) 31 || s.boot.hashSet.testBit n then s.reject bootB (0x90 + 4 * n)
  else (s.wr (bootB + 0x90 + 4 * n) v).setBoot (fun b => { b with hashSet := b.hashSet ||| 2 ^ n })

/-! ### Microcode (R413) -/

/-- MGC_UCODE_CTRL.START: ignored while BUSY. -/
def State.ucodeStart (s : State) : State :=
  let a := bootB + 0x40200
  let m := s.rd (bootB + 0x40204)
  if s.flag a 30 then s
  else if cores.all (fun k => !bit m k || (s.flag (cipCore k) 28 && s.flag (cipCore k) 29)) then
    (s.wr a (2 ^ 30)).wr (bootB + 0x40214) (s.rd (bootB + 0x40214) &&& (top32 - m))
  else s.wr a 1

/-- A core's known-answer self-test after its load, shown in TEST_FAIL. -/
def State.ucodeCore (s : State) (fail : Nat) (k : Nat) : State :=
  let s := s.setFld (cipCore k) 27 27 (b2n (fail.testBit k))
  if fail.testBit k then s.raise bootB Ev.ucodeFail (Src.core k)
  else (s.setFld (bootB + 0x40214) k k 1).setFld (cipCore k) 31 31 0

/-- The load ends: `e` is what its read finds, `fail` the cores that fail their self-test. -/
def State.ucodeDone (s : State) (e : Ecc) (fail : Nat) : State :=
  let a := s.rd (bootB + 0x40208) + s.rd (bootB + 0x4020C) * 2 ^ 32
  let n := s.fld (bootB + 0x40210) 20 0
  let m := s.rd (bootB + 0x40204)
  if !s.flag (bootB + 0x40200) 30 then s
  else if !s.memAllowed .mgc a n false then (s.memRefuse .mgc a).wr (bootB + 0x40200) 3
  else if !s.memServes a n then s
  else
    let r := s.memRead a n e
    if r.1.2 then r.2.wr (bootB + 0x40200) 3
    else if !compOk 4 r.1.1 then r.2.wr (bootB + 0x40200) 2
    else (cores.filter (fun k => bit m k)).foldl (fun s k => s.ucodeCore fail k) (r.2.wr (bootB + 0x40200) 0)

/-! ### Recovery messages (R414, R415) -/

/-- A message: OP, XFER_ID, OFFSET, DATA. -/
structure RecMsg where
  op : Nat
  xid : Nat
  off : Nat
  data : List Byte
  deriving DecidableEq, Repr

/-- A received message; none for a bad MAGIC, length or CRC. What follows the CRC is padding. -/
def recParse (b : List Byte) : Option RecMsg :=
  let n := beAt b 12 2
  if beAt b 0 2 = 0x5256 && decide (n ≤ 1024) && decide (20 + n ≤ b.length) && beAt b (16 + n) 4 = (crc32c (b.take (16 + n))).toNat then
    some ⟨beAt b 2 1, beAt b 4 4, beAt b 8 4, slice b 16 n⟩
  else none

/-- A message that the ROM sends. -/
def recBytes (op st xid off : Nat) (data : List Byte) : List Byte :=
  let b := bytesBE 2 0x5256 ++ bytesBE 1 op ++ bytesBE 1 st ++ bytesBE 4 xid ++ bytesBE 4 off ++ bytesBE 2 data.length ++ [0, 0] ++ data
  b ++ bytesBE 4 (crc32c b).toNat

/-- The framing of the UART. -/
def uartFrame (b : List Byte) : List Byte :=
  [0x7E] ++ b.flatMap (fun x => if x = 0x7E || x = 0x7D then [0x7D, x ^^^ 0x20] else [x]) ++ [0x7E]

/-- SRV_MAC. -/
def State.srvMac (s : State) : Nat := s.fld (bootB + 0x80048) 15 0 * 2 ^ 32 + s.rd (bootB + 0x80044)

/-- A message goes out to a host: over Ethernet to its address, or over the UART. -/
def State.recSend (s : State) (host : Option Nat) (b : List Byte) : State :=
  match host with
  | some mac => s.emit (.srv true (bytesBE 6 mac ++ bytesBE 6 s.srvMac ++ [0x88, 0xB5] ++ b))
  | none => s.emit (.srv false (uartFrame b))

/-- An answer on the path that the host used last. -/
def State.recAnswer (s : State) (op st xid off : Nat) : State := s.recSend s.boot.path (recBytes op st xid off [])

/-- A message of the host arrives on a path while the ROM is in RECOVERY: a bad one is discarded and counted, one of the operation
`op` acts. -/
def State.recIn (s : State) (host : Option (BitVec 48)) (b : List Byte) (op : Nat) (g : RecMsg → State → State) : State :=
  if s.bootState ≠ 0xE then s
  else match recParse b with
    | none => s.bump (bootB + 0x80100) 1
    | some m => if m.op = op then g m (s.setBoot (fun x => { x with path := host.map (·.toNat) })) else s

/-- The bank that a transfer writes. -/
def Desc.target (d : Desc) : Nat :=
  let conf := fun n => bankSt (d.bank n) = 1
  if conf 0 && conf 1 then (if bankSeq d.a < bankSeq d.b then 0 else 1)
  else if conf 0 then 1 else 0

end Sys2Proof.Machine
end

