-- ==== Sys2Proof/Machine/DbgOps.lean ====
section
/-! DEFINITION. Shared operations of debug access: the unlock, the thread controls, the register and memory windows
(21_events_and_errors.md R444–R450). -/
namespace Sys2Proof.Machine

/-- Update the debug port's own state. -/
def State.setDbg (s : State) (g : DbgSt → DbgSt) : State := { s with dbg := g s.dbg }
/-- DBG_STAT.UNLOCKED, BUSY and LOCKOUT. -/
def State.unlocked (s : State) : Bool := s.flag (dbgB + 0x40) 31
def State.dbgBusy (s : State) : Bool := s.flag (dbgB + 0x40) 30
def State.lockout (s : State) : Bool := s.flag (dbgB + 0x40) 29

/-! ### The unlock (R446) -/

/-- The challenge becomes invalid. -/
def State.chalDrop (s : State) : State :=
  let s := (List.range 8).foldl (fun s n => s.wr (dbgB + 0x80 + 4 * n) 0) s
  (s.setFld (dbgB + 0x40) 28 28 0).setDbg (fun d => { d with chal := none })

/-- CHAL: a nonce of the TRNG, the serial, BOOT_COUNT. -/
def State.dbgChal (s : State) : State :=
  let r := s.draw
  let b := bytesBE 16 (Config.anyNat r.1) ++ bytesBE 8 Config.serial.toNat ++ bytesBE 4 (s.rd (bootB + 0x50)) ++ List.replicate 4 0
  let s := (List.range 8).foldl (fun s n => s.wr (dbgB + 0x80 + 4 * n) (beAt b (4 * n) 4)) r.2
  (s.setFld (dbgB + 0x40) 28 28 1).setDbg (fun d => { d with chal := some (b, s.mono) })

/-- The challenge expires after 60 s, unless a verification uses it. -/
def State.chalExpire (s : State) : State :=
  match s.dbg.chal with
  | none => s
  | some c => if s.past (c.2 + 60 * uS) && !s.dbgBusy then s.chalDrop else s

/-- VERIFY: verification runs. -/
def State.dbgVerify (s : State) : State := s.chalExpire.setFld (dbgB + 0x40) 30 30 1

/-- The bytes of registers that hold four each. -/
def State.wordsAt (s : State) (a n : Nat) : List Byte := (List.range n).flatMap (fun i => bytesBE 4 (s.rd (a + 4 * i)))

/-- RESULT of a verification. -/
def State.dbgResult (s : State) : Nat :=
  match s.dbg.chal with
  | none => 2
  | some (b, _) =>
    let signer := s.fld (dbgB + 0x44) 1 0
    let key := (s.wordsAt (dbgB + 0xE0) 17).take 65
    let hash := sha256 ([0x36, 0x31, 0x36, 0x30, 0x2D, 0x44, 0x42, 0x47] ++ b)
    let resp := s.wordsAt (dbgB + 0xA0) 16
    let good := fun k => ecdsaOk (ptOf k) hash (beAt resp 0 32) (beAt resp 32 32)
    if signer = 1 then (if s.flag (dbgB + 0x48) 31 then 3 else if good Config.dbgKey then 0 else 1)
    else if signer = 2 then
      if !s.flag (dbgB + 0x48) 30 then 3
      else if sha256B key ≠ s.wordsAt (dbgB + 0x140) 8 then 4
      else if good key then 0 else 1
    else 3

/-- Verification ends: the store and the identity key are zeroized and the part unlocks, or the attempt counts. -/
def State.verifyDone (s : State) : State :=
  if !s.dbgBusy then s
  else
    let a := dbgB + 0x40
    let r := s.dbgResult
    let s := (s.setFld a 30 30 0).setFld a 7 4 r
    if r = 0 then
      let s := (s.zeroize.setCip (fun x => { x with zeroAt := none })).setFld (cipB + 0x200) 30 29 0
      let s := s.raise cipB Ev.keyZeroized Src.device
      let s := (((s.setFld a 31 31 1).setFld a 1 0 0).chalDrop).raise dbgB Ev.dbgUnlock Src.device
      s.deviceReset
    else
      let n := min 3 (s.fld a 1 0 + 1)
      let s := ((s.setFld a 1 0 n).setFld a 29 29 (b2n (decide (3 ≤ n)))).chalDrop
      s.raise dbgB Ev.dbgAuthFail Src.device

/-- A write of DBG_CTRL. -/
def State.dbgCtrl (s : State) (v : Nat) : State :=
  let s := s.wr (dbgB + 0x44) (bits v 1 0)
  let s := if bit v 31 then s.dbgChal else s
  if bit v 30 then s.dbgVerify else s

/-- A write of DBG_OTP: the Fengelar key is refused from then on. -/
def State.dbgOtp (s : State) (v : Nat) : State := if bit v 31 then s.setFld (dbgB + 0x48) 31 31 1 else s

/-- A write of DBG_CUST_HASH_Wn: once per word; with the last one CUST_SET. -/
def State.dbgHash (s : State) (n v : Nat) : State :=
  if s.dbg.hashSet.testBit n then s.reject dbgB (0x140 + 4 * n)
  else
    let s := (s.wr (dbgB + 0x140 + 4 * n) v).setDbg (fun d => { d with hashSet := d.hashSet ||| 2 ^ n })
    if s.dbg.hashSet = 255 then s.setFld (dbgB + 0x48) 30 30 1 else s

/-! ### Threads (R448–R450) -/

/-- The thread that DBG_THR_CTRL names. -/
def State.dbgThr (s : State) : Nat :=
  let w := s.rd (dbgB + 0x200)
  128 * bits w 11 8 + 8 * bits w 7 4 + bits w 2 0

/-- HALT: the state it halts in is kept with it. -/
def State.thrHalt (s : State) (t : Nat) : State :=
  let st := (s.thr t).state
  if st = 0 || 5 ≤ st then s.reject dbgB 0x200
  else (s.setThr t (fun x => { x with under := if st = 2 then 1 else st, step := false })).leave t 5 3

/-- A HALTED thread goes on from where it halted. -/
def State.thrGo (s : State) (t : Nat) : State :=
  let u := (s.thr t).under
  let s := (s.setThr t (fun x => { x with under := 0 })).thrTo t u
  if u = 4 then s.eventWake t else s.kick (engOf t)

/-- RESUME. -/
def State.thrResume (s : State) (t : Nat) : State := if (s.thr t).state = 5 then s.thrGo t else s

/-- STEP: it halts again after one instruction. -/
def State.thrStep (s : State) (t : Nat) : State :=
  if (s.thr t).state = 5 then (s.setThr t (fun x => { x with step := true })).thrGo t else s

/-- A write of DBG_THR_CTRL: the highest-numbered action acts. -/
def State.thrCtrl (s : State) (v : Nat) : State :=
  if 11 < bits v 11 8 then s.reject dbgB 0x200
  else
    let s := s.wr (dbgB + 0x200) (v % 2 ^ 32 &&& 0xFF7)
    if bit v 31 then s.thrHalt s.dbgThr else if bit v 30 then s.thrResume s.dbgThr else if bit v 29 then s.thrStep s.dbgThr else s

/-- DBG_THR_STAT as it reads. -/
def State.thrStat (s : State) : Nat :=
  let x := s.thr s.dbgThr
  let h := x.state = 5
  b2n h * 2 ^ 31 + s.fld (dbgB + 0x204) 30 30 * 2 ^ 30 + b2n (h && x.bpPass = some x.pc) * 2 ^ 29 + x.state

/-- A read that is not served counts. -/
def State.dbgMiss (s : State) : State := s.bump32 (dbgB + 0x10) 1

/-- A read of DBG_THR_DATA_0 by the JTAG port: the selected register, its high word latched. -/
def State.thrDataRead (s : State) : Nat × State :=
  let t := s.dbgThr
  if (s.thr t).state ≠ 5 then (0, s.dbgMiss)
  else
    let r := s.fld (dbgB + 0x208) 5 0
    let v := if r = 32 then (s.thr t).pc else (s.gr t r).toNat
    (bits v 31 0, s.setLat .jtag dbgB (bits v 63 32))

/-- A write of DBG_THR_DATA_1 by the JTAG port: the whole register. -/
def State.thrDataWrite (s : State) (hi : Nat) : State :=
  let t := s.dbgThr
  if (s.thr t).state ≠ 5 then s.reject dbgB 0x214
  else
    let r := s.fld (dbgB + 0x208) 5 0
    let v := hi * 2 ^ 32 + s.rd (dbgB + 0x210)
    if r = 32 then
      if v % 4 = 0 && s.inCode (cluOf t) v then s.setThr t (fun x => { x with pc := v }) else s.reject dbgB 0x214
    else s.setGr t r (BitVec.ofNat 64 v)

/-! ### The memory window (R450) -/

/-- A written DBG_MEM_ADDR lies within the memory that it names. -/
def memAddrOk (v : Nat) : Bool := decide (bits v 27 24 < 12) && bits v 2 0 = 0 && (!bit v 31 || decide (bits v 19 0 < 0x40000))

/-- ADDR advances. -/
def State.dbgMemStep (s : State) : State :=
  let a := dbgB + 0x300
  if s.flag a 30 then s.setFld a 19 0 (s.fld a 19 0 + 8) else s

/-- A read of DBG_MEM_DATA_0 by the JTAG port. -/
def State.dbgMemRead (s : State) : Nat × State :=
  let w := s.rd (dbgB + 0x300)
  let c := bits w 27 24
  let o := bits w 19 0
  let v := if bit w 31 then (mget (fun _ => 0) (s.clu c).code (o / 4)).toNat + (mget (fun _ => 0) (s.clu c).code (o / 4 + 1)).toNat * 2 ^ 32
    else natLE (s.dGet c o 8)
  (bits v 31 0, s.setLat .jtag dbgB (bits v 63 32))

/-- A write of DBG_MEM_DATA_1 by the JTAG port: DATA_0 with it. -/
def State.dbgMemWrite (s : State) (hi : Nat) : State :=
  let w := s.rd (dbgB + 0x300)
  let c := bits w 27 24
  let o := bits w 19 0
  let lo := s.rd (dbgB + 0x308)
  if bit w 31 then
    if s.blkState (engB c) ≠ 2 then s.reject dbgB 0x30C
    else
      let put := fun (m : Sparse Word) (k v : Nat) => mput (fun _ => 0) m k (BitVec.ofNat 32 v)
      let s := s.setClu c (fun x => { x with code := put (put x.code (o / 4) lo) (o / 4 + 1) hi })
      (s.setFld (dbgC c + 4) 31 31 1).dbgMemStep
  else (s.dPut c o (bytesLE 8 (hi * 2 ^ 32 + lo))).dbgMemStep

/-! ### Who may write (R447) -/

/-- The requester may write a DBG register now. -/
def State.dbgMay (s : State) (q : Req) (off : Nat) : Bool :=
  if off < 0x40 then true
  else if off = 0x48 || (decide (0x140 ≤ off) && decide (off < 0x160)) then q = .mgc
  else if off < 0x140 then q = .jtag && !s.dbgBusy && !s.lockout
  else q = .jtag && s.unlocked

end Sys2Proof.Machine
end

