-- ==== Sys2Proof/Machine/RegRead.lean ====
section
/-! DEFINITION. Reads of registers through the owner view and the function pages (02_registers_and_views.md R30, R33, R34, R42, R43, and
the cards of each chapter for what a register shows). -/
namespace Sys2Proof.Machine

/-! ### What a register shows that is not stored -/

/-- The entry of the error log as its eight words (Table 21-4). -/
def LogEntry.word (e : LogEntry) : Nat → Nat
  | 0 => pk [(1, 1), (2, e.sev), (1, b2n e.uncorr), (1, b2n e.first), (3, 0), (8, e.cause), (8, e.code), (8, e.inst)]
  | 1 => pk [(12, e.seq), (20, e.src)]
  | 2 => tsWord e.ts 0
  | 3 => tsWord e.ts 1
  | 4 => tsWord e.ts 2
  | 5 => e.synd
  | 6 => bits e.addr 31 0
  | _ => bits e.addr 63 32

/-- A read of EVT_ERRLOG_W0: the head entry leaves the log, W1 to W7 are latched; an empty log reads 0 in every word (R438). -/
def State.logPop (s : State) (q : Req) : Nat × State :=
  let a := evtB + 0x80
  let w := fun n => match s.log.head? with
    | none => 0
    | some e => e.word n
  let t := { s with log := s.log.drop 1 }
  let t := t.setFld (evtB + 0x40) 7 0 t.log.length
  (w 0, [1, 2, 3, 4, 5, 6, 7].foldl (fun t n => t.setLat q (a + 4 * n) (w n)) t)

/-- BOOT_STRAP: the straps as sampled. -/
def State.strapWord (s : State) : Nat :=
  let x := s.straps
  bits x.bootMode.toNat 1 1 * 64 + b2n x.uartFast * 32 + x.bifurc.toNat * 8 + x.ownerHp.toNat * 2 + bits x.bootMode.toNat 0 0

/-- HIF_BIF: the bifurcation in force (Table 17-1). -/
def State.bifWord (s : State) : Nat := if s.straps.bifurc = 3 then 2 ^ 31 else s.straps.bifurc.toNat

/-- PWR_CLK with the reference clocks that other registers already show. -/
def State.clkWord (s : State) : Nat :=
  let pe := ([0, 1, 2, 3].map (fun h => b2n (s.hport h).refclk * 2 ^ (20 + h))).sum
  putBits (putBits (s.rd (pwrB + 0x54)) 23 20 (pe / 2 ^ 20)) 19 19 (s.fld (strB + 0x44) 9 9)

/-- Channel units of 64 bytes that a CHN_CFG word takes (R243). -/
def chnUnits (w : Nat) : Nat := (2 ^ bits w 27 24 * (8 * 2 ^ bits w 29 28) + 63) / 64
/-- Free units of the channel memory. -/
def State.chnFree (s : State) : Nat :=
  16384 - ((List.range 1024).map (fun n => if s.chanEn n then chnUnits (s.rd (chnA n)) else 0)).sum

/-- Vectors allocated to every function (R368). -/
def State.msixUsed (s : State) : Nat := ((List.range 260).map s.msixCount).sum

/-- The registers of a thread (THR_STAT to THR_WAIT_MASK). -/
def State.thrWord (s : State) (t o : Nat) : Nat :=
  let x := s.thr t
  match o with
  | 0 => x.stall * 2 ^ 28 + x.res.length % 8 * 2 ^ 23 + x.state
  | 4 => x.pc % 2 ^ 18
  | 0x10 => ((List.range 32).map (fun i => b2n (s.evPending t i) * 2 ^ i)).sum
  | _ => x.mask

/-- TFN_FN_STAT with the host port of the function. -/
def State.fnStatWord (s : State) (f : Nat) : Nat := putBits (s.rd (tfnStat f)) 9 8 ((s.fnHp f).getD 0)

/-- The word that an owner-view register shows; for most, what it holds. -/
def State.shown (s : State) (i : Inst) (off : Nat) : Nat :=
  let a := i.base + off
  match i.code with
  | 0x03 => if off = 0x54 then s.clkWord else s.rd a
  | 0x04 => if off = 0x40 then s.strapWord else s.rd a
  | 0x05 => if off = 0x60 && isPps s.tim.src then (BitVec.ofInt 32 s.timRate).toNat else s.rd a
  | 0x07 =>
    if off = 0x400 then cert.length
    else if decide (0x1000 ≤ off) && decide (off < 0x1400) then beAt cert (off - 0x1000) 4
    else s.rd a
  | 0x0F =>
    if decide (0x10100 ≤ off) && decide (off < 0x20000) && off % 0x20 = 0x1C then
      let p := (off - 0x10000) / 0x1000
      let q := (off - 0x10100) % 0x1000 / 0x20
      (((s.settleCredit p q).pq p q).credit / 524288000).emod (2 ^ 32) |>.toNat
    else if decide (0x100000 ≤ off) && decide (off < 0x200000) && off % 0x10000 = 4 then s.orbStat ((off - 0x100000) / 0x10000)
    else if off = 0x4C then s.deepMib
    else if off = 0x200000 then putBits (s.rd a) 31 31 (b2n (decide (s.mono < s.dp.sch.polBusy)))
    else s.rd a
  | 0x10 =>
    if off = 0x80000 then s.chnFree
    else if decide (0x10100 ≤ off) && decide (off < 0x20000) && decide (0x100 ≤ off % 0x1000) then
      let t := 128 * i.inst + 8 * ((off - 0x10000) / 0x1000) + (off % 0x1000 - 0x100) / 0x100
      let o := off % 0x100
      if o = 0 || o = 4 || o = 0x10 || o = 0x14 then s.thrWord t o else s.rd a
    else s.rd a
  | 0x14 => if off = 0x44 then capMib (s.rd (memB + 0x40)) else s.rd a
  | 0x16 =>
    if off = 0x40 then s.bifWord
    else if off = 0xB000 then 4096 - s.msixUsed
    else if decide (0x1000 ≤ off) && decide (off < 0x5000) && off % 0x1000 = 0x10 then
      putBits (s.rd a) 11 0 (s.hport ((off - 0x1000) / 0x1000)).tags.length
    else if decide (0x1000 ≤ off) && decide (off < 0x5000) && off % 0x1000 = 0x14 then
      putBits (s.rd a) 27 16 (s.hport ((off - 0x1000) / 0x1000)).quar.length
    else if decide (0x8000 ≤ off) && decide (off < 0xA000) then
      let f := (off - 0x8000) / 16
      let held := s.fnHeld f
      if off % 16 = 4 then min top32 held
      else
        let hold := !s.bme f && (decide (0 < held) || !(s.fnGet f).posts.isEmpty)
        putBits (putBits (s.rd a) 30 30 (b2n hold)) 11 0 (s.fnOut f)
    else s.rd a
  | 0x17 =>
    if decide (0x10000 ≤ off) && decide (off < 0x20000) && off % 0x40 = 4 then s.fnStatWord ((off - 0x10000) / 0x40) else s.rd a
  | 0x18 => if off = 0x204 then s.thrStat else s.rd a
  | _ => s.rd a

/-- A counter of two words as it reads: retired instructions are counted by the thread. -/
def State.counter (s : State) (i : Inst) (low : Nat) : Nat :=
  let off := low - i.base
  if i.code = 0x10 && decide (0x10100 ≤ off) && decide (off < 0x20000) && decide (0x100 ≤ off % 0x1000) && off % 0x100 = 8 then
    (s.thr (128 * i.inst + 8 * ((off - 0x10000) / 0x1000) + (off % 0x1000 - 0x100) / 0x100)).retired
  else s.cnt low

/-! ### Latches -/

/-- The words that a read of another word of the same register latched (R42, R51, R72, R74, R192, R321, R438). -/
def latched (i : Inst) (off : Nat) : Bool :=
  match i.code with
  | 0x02 => decide (0x84 ≤ off) && decide (off < 0xA0)
  | 0x05 => off = 0x40 || off = 0x44 || (decide (0x100 ≤ off) && decide (off < 0x180) && decide (8 ≤ off % 0x20))
  | 0x06 => decide (0x60 ≤ off) && decide (off < 0x6C)
  | 0x0C => decide (0x84 ≤ off) && decide (off < 0x90)
  | 0x12 => off = 0x204 || off = 0x208
  | _ => false

/-- Pairs of words read as a 64-bit value: the low word latches the high one in the block's latch. -/
def pairLow (i : Inst) (off : Nat) : Bool := (i.hdr && off = 0x20) || (i.code = 0x0D && off = 0x44)
/-- Their high words. -/
def pairHigh (i : Inst) (off : Nat) : Bool := (i.hdr && off = 0x24) || (i.code = 0x0D && off = 0x48)

/-- Reads that pop an entry, latch a set, or reach through the debug port. -/
def State.readActs (s : State) (q : Req) (i : Inst) (off : Nat) : Option (Nat × State) :=
  match i.code with
  | 0x02 => if off = 0x80 then some (s.logPop q) else none
  | 0x05 =>
    if off = 0x48 then some (s.timeNowRead q)
    else if decide (0x100 ≤ off) && decide (off < 0x180) && off % 0x20 = 4 then some (s.ptmStatRead q ((off - 0x100) / 0x20))
    else none
  | 0x06 => if off = 0x6C then some (s.txtsPop q i.inst) else none
  | 0x0C => if off = 0x80 then some (s.notifyPop q) else none
  | 0x18 =>
    if off = 0x210 then (if q = .jtag then some s.thrDataRead else some (0, s))
    else if off = 0x308 then (if q = .jtag then some s.dbgMemRead else some (0, s))
    else if off = 0x214 then (if q = .jtag then some (s.lat q dbgB, s) else some (0, s))
    else if off = 0x30C then (if q = .jtag then some (s.lat q dbgB, s.dbgMemStep) else some (0, s))
    else none
  | _ => none

/-! ### Words of program banks -/

/-- Bits of a word of a PRS bank that are not reserved (Table 06-1, R135, R136); 0 where there is no word. -/
def prsMask (o : Nat) : Nat :=
  if o = 0 then top32
  else if o = 4 then 0xFFFFFF
  else if decide (0x1000 ≤ o) && decide (o < 0x2000) then (if o % 16 = 12 then 0 else top32)
  else if decide (0x8000 ≤ o) && decide (o < 0x10000) then (if o % 16 = 12 then 0 else if o % 16 = 8 then 0x800003FF else top32)
  else if decide (0x10000 ≤ o) && decide (o < 0x14000) then 0xFFFFC000
  else 0

/-- Bits of a word of a MAT bank that are not reserved (Table 07-13); 0 where there is no word. -/
def matMask (eg : Bool) (o : Nat) : Nat :=
  if o < 0x100 * (if eg then 6 else 12) then
    if (if eg then 2 else 4) ≤ o % 0x100 / 0x40 || 9 ≤ o % 0x40 / 4 then 0 else if o % 0x40 = 0 then 0xFFFF8000 else 0xFF80FF80
  else if decide (0x1000 ≤ o) && decide (o < 0x1800) && !eg then (if o % 8 = 0 then 0xFFFFFF00 else 0xFF800000)
  else if decide (0x2000 ≤ o) && decide (o < 0x4000) then (if o % 128 = 124 then 0xFFFF8000 else top32)
  else if decide (0x4000 ≤ o) && decide (o < 0xC000) then (if o % 8 = 0 then 0xFFFFE000 else top32)
  else if (eg && decide (0xC000 ≤ o) && decide (o < 0xC000 + 0x2000 * 6)) || (!eg && decide (0x10000 ≤ o) && decide (o < 0x10000 + 0x4000 * 12)) then
    (if o % 16 = 0 then 0xFFFFFFF0 else top32)
  else 0

/-- The bank word at an offset from 0x10000 on of a MAT instance: whether it is egress, its bank, and where it lies in it. -/
def matAt (off : Nat) : Bool × Nat × Nat :=
  if 0x90000 ≤ off then (true, (off - 0x90000) / 0x20000, (off - 0x90000) % 0x20000)
  else (false, (off - 0x10000) / 0x40000, (off - 0x10000) % 0x40000)

/-! ### The owner view -/

/-- An offset that belongs to no register of its instance: the channels are in cluster 0 only; banks have words that no field uses. -/
def absent (i : Inst) (off : Nat) : Bool :=
  match i.code with
  | 0x0A => decide (0x10000 ≤ off) && prsMask ((off - 0x10000) % 0x80000) = 0
  | 0x0B => decide (0x10000 ≤ off) && (let m := matAt off
      matMask m.1 m.2.2 = 0)
  | 0x10 => i.inst ≠ 0 && decide (0x80000 ≤ off)
  | _ => false

/-- The bytes of a word that a read asked for (R30). -/
def byteMask (v be : Nat) : Nat := ((List.range 4).map (fun k => if be.testBit k then v / 256 ^ k % 256 * 256 ^ k else 0)).sum

/-- One 32-bit read of the owner view: the data, and its effects. A reserved address reads 0 (R7). -/
def State.ownerRead (s : State) (q : Req) (a : Nat) : Nat × State :=
  match instAt a with
  | none => (0, s)
  | some i =>
    let off := a - i.base
    match cardIn i off with
    | none => (0, s)
    | some c =>
      if absent i off then (0, s)
      else match s.readActs q i off with
        | some r => r
        | none =>
          if latched i off || pairHigh i off then (s.lat q (if latched i off then a else i.base), s)
          else if pairLow i off then (s.rd a, s.setLat q i.base (s.rd (a + 4)))
          else if c.cnt then
            if c.isHigh off then (s.lat q i.base, s)
            else
              let v := s.counter i a
              let s := s.setLat q i.base (bits v 63 32)
              (bits v 31 0, if c.clr then s.setCnt a 0 else s)
          else
            let v := s.shown i off
            let s := if c.rc = 0 then s else s.wr a (s.rd a &&& (top32 - c.rc))
            (v &&& (top32 - c.wo), s)

/-! ### Function pages (R33, Table 02-2) -/

/-- The queue whose doorbells lie at an offset, which word, and whether it is an RX queue. -/
def bellAt (off : Nat) : Nat × Nat × Bool := ((off - 0x1000) / 16, off % 16, decide (8 ≤ off % 16))

/-- A doorbell as it reads: what was written last to a created queue of a tenant function. -/
def State.bellWord (s : State) (f off : Nat) : Nat :=
  let b := bellAt off
  if 256 ≤ f then 0
  else match s.tq_ f b.2.2 b.1 with
    | none => 0
    | some x => if b.2.1 % 8 = 0 then x.pi2.getD x.pi else (x.ci2.map (·.1)).getD x.ci

/-- One 32-bit read through a function page. -/
def State.pageRead (s : State) (f : Fin 260) (off : Nat) : Nat × State :=
  let q : Req := .page f
  let n := f.val
  if off % 4 ≠ 0 then (0, s)
  else if off = 0 then (n * 2 ^ 16 + (s.fnHp n).getD 0 * 2 ^ 8, s)
  else if off = 4 then (s.fnStatWord n, s)
  else if off = 8 || off = 12 then (s.rd (tfnB + 0x10000 + 0x40 * n + off), s)
  else if off = 0x10 || off = 0x14 then (s.rd (tfnB + 0x10000 + 0x40 * n + off + 4), s)
  else if off = 0x18 then (partId, s)
  else if off = 0x80 then (match s.fnHp n with
    | none => (0, s)
    | some h => s.ptmStatRead q h)
  else if decide (0x84 ≤ off) && decide (off < 0x9C) then (match s.fnHp n with
    | none => (0, s)
    | some h => (s.lat q (ptmB h + off - 0x7C), s))
  else if off = 0xC0 || off = 0xC4 then (if 256 ≤ n then s.prd n off else 0, s)
  else if off = 0x100 || off = 0x104 then (s.prd n off, s)
  else if decide (0x600 ≤ off) && decide (off < 0xA00) then (s.prd n off, s)
  else if decide (0x1000 ≤ off) && decide (off < 0x4000) then (s.bellWord n off, s)
  else if decide (0x4000 ≤ off) && decide (off < 0x40B8) then
    if off % 8 = 0 then
      let v := s.cnt (tfCnt n ((off - 0x4000) / 8))
      (bits v 31 0, s.setLat q tfnB (bits v 63 32))
    else (s.lat q tfnB, s)
  else if decide (0x8000 ≤ off) && decide (off < 0xC080) then
    if off < 0xC000 && s.msixCount n ≤ (off - 0x8000) / 16 then (0, s) else (s.prd n off, s)
  else (0, s)

/-- Registers that a function page has (Table 02-2); the event registers are those of management functions. -/
def State.pageHas (s : State) (f off : Nat) : Bool :=
  let within := fun (lo hi : Nat) => decide (lo ≤ off) && decide (off < hi)
  off % 4 = 0 && (decide (off < 0x1C) || within 0x80 0xA0 || (decide (256 ≤ f) && within 0xC0 0xC8) || within 0x100 0x108 || within 0x200 0xA00 ||
    (decide (f < 256) && within 0x1000 0x4000) || within 0x4000 0x40B8 || (within 0x8000 0xC000 && decide ((off - 0x8000) / 16 < s.msixCount f)) || within 0xC000 0xC080)

/-- One 32-bit register read of a requester: of the owner view, or of the requester's own page. -/
def State.regRead (s : State) (q : Req) (a : Nat) : Nat × State :=
  match q with
  | .page f => s.pageRead f a
  | _ => s.ownerRead q a

end Sys2Proof.Machine
end

