-- ==== Sys2Proof/Machine/WrOps.lean ====
section
/-! DEFINITION. A register write under way: what may be written, what a store changes, how a write is discarded (02_registers_and_views.md
R7, R30, R34–R39, R472). -/
namespace Sys2Proof.Machine

/-- A write access: its requester, the instance and the offset in it, the card of the register, the value, what lies outside. -/
structure Acc where
  q : Req
  i : Inst
  off : Nat
  c : Card
  v : Nat
  x : WEnv

/-- Owner-view address of the access. -/
def Acc.addr (w : Acc) : Nat := w.i.base + w.off
/-- Bits of the word that a write sets. -/
def Acc.puts (w : Acc) : Nat := w.c.l ||| w.c.s ||| w.c.q
/-- The word after the write: RW bits take the value, W1C bits written as 1 clear, the rest stays. -/
def Acc.word (w : Acc) (old : Nat) : Nat :=
  let n := (old &&& (top32 - w.puts)) ||| (w.v &&& w.puts)
  n &&& (top32 - (w.v &&& w.c.w1c))

/-- The block counts a write that is discarded whole; the KEY region has no header, and CIP counts for it (R321). -/
def State.refuse (s : State) (w : Acc) : State := if w.i.hdr then s.reject w.i.base w.off else s.reject cipB w.off

/-- The word accepts the value now: Q fields only in QUIESCED, S fields not during a commit, stated ranges (R38, R39, R472). -/
def State.takes (s : State) (w : Acc) : Bool :=
  (w.c.q = 0 || s.blkState w.i.base = 2) && (w.c.s = 0 || !s.commitBusy w.i.base) && w.c.ok w.v

/-- The word changes. -/
def State.put (s : State) (w : Acc) : State := s.wr w.addr (w.word (s.rd w.addr))

/-- What a write does where the word accepts it. -/
def State.ifTakes (s : State) (w : Acc) (g : State → State) : State := if s.takes w then g s else s.refuse w

/-- A write of a register without effects of its own. -/
def State.accept (s : State) (w : Acc) : State := s.ifTakes w (fun s => s.put w)

/-- A write that a further condition may refuse. -/
def State.acceptIf (s : State) (w : Acc) (may : Bool) : State := if may then s.accept w else s.refuse w

/-- Offset lies in [lo, hi). -/
def Acc.within (w : Acc) (lo hi : Nat) : Bool := decide (lo ≤ w.off) && decide (w.off < hi)

/-! ### Clears of the event path (R432, R436) -/

/-- ERR_STAT.VALID is cleared: the capture is free again. -/
def State.errClear (s : State) (base : Nat) : State :=
  (s.setFld (base + 0x14) 31 29 0).wr (base + 0x18) 0

/-- EVT_CAUSE_STAT_c.LATCHED is cleared, and with it COUNT and SRC_FIRST.VALID. -/
def State.causeClear (s : State) (c : Nat) : State :=
  ((s.setFld (causeA c) 31 31 0).setFld (causeA c) 23 0 0).setFld (causeA c + 4) 31 31 0

/-- Pending bits of a target are cleared. -/
def State.pendClear (s : State) (a v : Nat) : State := s.wr a (s.rd a &&& (top32 - v))

/-! ### The common header (R46, R47) -/

/-- A write of a header register. -/
def State.writeHdr (s : State) (w : Acc) : State :=
  match w.off with
  | 0x4 => s.ctrlWrite w.i.base w.v
  | 0xC => s.accept w
  | 0x14 => if bit w.v 31 then s.errClear w.i.base else s
  | _ => s

/-! ### GEN, EVT, PWR -/

def State.writeGen (s : State) (w : Acc) : State :=
  if w.off = 0x48 then (if w.v = 0x61600D0E then s.deviceReset else s.refuse w)
  else if w.within 0x80 0xC0 then s.semWrite w.q ((w.off - 0x80) / 4) w.v
  else s.accept w

def State.writeEvt (s : State) (w : Acc) : State :=
  if w.within 0x1000 0x2000 then
    let c := (w.off - 0x1000) / 16
    if (sevOf c).isNone then s.refuse w
    else match w.off % 16 with
      | 0 => if bit w.v 31 then s.causeClear c else s
      | 12 => s.accept { w with v := if 192 ≤ c && c ≤ 223 then w.v else putBits w.v 29 29 0 }
      | _ => s
  else if w.within 0x100 0x140 then s.pendClear w.addr w.v
  else s.accept w

def State.writePwr (s : State) (w : Acc) : State :=
  if w.off = 0x40 then s.targetWrite w.q (bits w.v 1 0)
  else if w.within 0x1000 0x1200 then
    s.acceptIf w (if w.off % 8 = 0 then inR w.v 19 0 0 604799 else inR w.v 15 0 1 10080)
  else s.accept w

/-! ### BOOT, MGC, SRV (R397–R416) -/

/-- Registers that the owner management function may not write. -/
def mgcOnly (off : Nat) : Bool :=
  off = 0x80 || (decide (0x90 ≤ off) && decide (off < 0xB0)) || (decide (0x100 ≤ off) && decide (off < 0x10C))
    || (decide (0x40040 ≤ off) && decide (off < 0x4004C)) || (decide (0x40200 ≤ off) && decide (off < 0x40218))

def State.writeBoot (s : State) (w : Acc) : State :=
  if w.q = .owner && mgcOnly w.off then s.refuse w
  else match w.off with
    | 0x44 => if w.q = .mgc then s.accept w else s
    | 0x48 => if w.q = .mgc then s.accept w else s
    | 0x80 => s.otpWrite w.v
    | 0x100 => s.flashCmd w.v
    | 0x40040 => s.wdtCfg w.v
    | 0x40044 => s.wdtKick w.v
    | 0x40048 => s.mgcCtrl w.v w.x.e
    | 0x40050 => s.acceptIf w (bits w.v 11 0 = 0)
    | 0x40200 => if bit w.v 31 then s.ucodeStart else s
    | _ => if w.within 0x90 0xB0 then s.custHash ((w.off - 0x90) / 4) w.v else s.accept w

/-! ### TIM, TSU (R49–R75) -/

/-- A live register of TIM is written: it takes effect at the next tick (R53). -/
def State.timPut (s : State) (w : Acc) (g : State → State) : State := s.ifTakes w (fun s => g (s.timKeep.put w))
/-- PPS_IN: a rise of EN forgets the edge accepted last (R474). -/
def State.ppsInCfg (s : State) (w : Acc) (n : Nat) : State :=
  s.timPut w (fun t => if bit w.v 31 && !s.flag w.addr 31 then t.setTrk n (fun x => { x with last := none }) else t)
/-- Leap flags or LEAP_AT: a leap that SEC has passed by acts from the next second on (R64; DEDUCED). -/
def State.leapCfg (s : State) (w : Acc) : State := s.timPut w (fun s => s.setTim (fun x => { x with leapFrom := secOf s.tb }))

def State.writeTim (s : State) (w : Acc) : State :=
  match w.off with
  | 0x4C => s.timPut w (fun s => s.setTim (fun t => { t with srcTick := s.tick }))
  | 0x60 => if isPps s.tim.src then s.refuse w else s.timPut w id
  | 0x78 =>
    if bit w.v 1 || bit w.v 0 then s.adjWrite (bit w.v 0) (bit w.v 1 && bit w.v 0) (bit w.v 2) (bit w.v 4) else s.accept w
  | 0x80 => s.ppsInCfg w 0
  | 0x84 => s.ppsInCfg w 1
  | 0x98 => s.servoWrite w.v
  | 0x9C =>
    let t := s.leapCfg w
    if s.fld w.addr 15 0 = t.fld w.addr 15 0 && s.flag w.addr 31 = t.flag w.addr 31 then t else t.setPw (fun p => { p with calNew := true })
  | 0xA0 => s.leapCfg w
  | 0xA4 => s.leapCfg w
  | _ => if timLiveA.contains w.addr then s.timPut w id else s.accept w

end Sys2Proof.Machine
end

