-- ==== Sys2Proof/Machine/WrData.lean ====
section
/-! DEFINITION. Writes of the registers of the data path: TSU, TAIL, STR, MAC, PRS, MAT, FWD, SEQ, PRF, SCH (03 to 10 of the spec). -/
namespace Sys2Proof.Machine

/-! ### TSU, TAIL, STR -/

def State.writeTsu (s : State) (w : Acc) : State :=
  if w.off = 0x50 then (if bit w.v 0 then s.tsuCalStart w.i.inst else s) else s.accept w

def State.writeTail (s : State) (w : Acc) : State :=
  match w.off with
  | 0x40 => s.acceptIf w (!bit w.v 31 || s.idPresent)
  | 0x44 => s.ifTakes w (fun s => (s.put w).setTl (fun t => { t with epochWritten := true }))
  | 0x4C =>
    let s := if bit w.v 0 then s.cpReq else s
    if bit w.v 1 then s.cpSign else s
  | 0x310 => s.drainConsWrite w.v
  | _ => s.accept w

def State.writeStr (s : State) (w : Acc) : State :=
  if w.off = 0x44 then (if bit w.v 31 then s.strRetrainWrite else s) else s.accept w

/-! ### MAC, PCS (R108–R130) -/

/-- Four 2-bit fields hold 0 to 3 once each. -/
def isPerm (n : Nat) : Bool := [0, 1, 2, 3].all (fun k => [0, 1, 2, 3].any (fun i => n / 4 ^ i % 4 = k))

/-- The link rules look at the ports of a quad again. -/
def State.quadEval (s : State) (q : Nat) : State := (List.range 4).foldl (fun s i => s.linkEval (4 * q + i)) s

def State.writeMac (s : State) (w : Acc) : State :=
  let q := w.i.inst
  if w.off = 0x40 then
    if 7 < bits w.v 3 0 then s.refuse w else s.ifTakes w (fun s => (s.put w).quadEval q)
  else if w.off = 0x44 then s.acceptIf w (isPerm (bits w.v 23 16) && isPerm (bits w.v 15 8))
  else if w.off = 0x60 then s.ifTakes w (fun s =>
    let t := s.put w
    let t := if t.flag w.addr 30 = s.flag w.addr 30 then t else t.emit (.modLp q (t.flag w.addr 30))
    if bit w.v 31 then t.modReset q else t)
  else if w.off = 0x64 then (if bit w.v 31 then s.modXferStart q w.v else s.accept w)
  else if w.within 0x1000 0x5000 then
    let p := 4 * q + (w.off - 0x1000) / 0x1000
    match w.off % 0x1000 with
    | 0x0 => s.portCtrl p w.v w.x.cut
    | 0x4 => s.ifTakes w (fun s => (s.put w).linkEval p)
    | 0x50 => s.saSel p w.v
    | _ => s.accept w
  else s.accept w

/-! ### Program banks (R131, R155, R170) -/

/-- A scrub register is written: a pass begins when it is enabled or its period changes (R475). -/
def State.scrubCfg (s : State) (w : Acc) (k : Nat) : State :=
  s.ifTakes w (fun s =>
    let t := s.put w
    if t.flag w.addr 31 && (!s.flag w.addr 31 || s.fld w.addr 15 0 ≠ t.fld w.addr 15 0) then t.setScrub k ⟨s.mono, 0⟩ else t)

/-- A word of a bank is written: its parity is good again (R145, R172). -/
def State.bankWord (s : State) (w : Acc) (mask : Nat) : State :=
  (s.wr w.addr (w.v &&& mask)).setDp (fun d => { d with badWords := d.badWords.filter (fun a => a ≠ w.addr) })

def State.writePrs (s : State) (w : Acc) : State :=
  if w.off = 0x4C then s.scrubCfg w w.i.inst
  else if w.off < 0x10000 then s.accept w
  else
    let b := (w.off - 0x10000) / 0x80000
    let m := prsMask ((w.off - 0x10000) % 0x80000)
    let g := w.i.base + 0x40
    if s.fld g 8 8 = b || s.flag g 9 then s.refuse w else s.bankWord w m

/-- A key source that R155 refuses. -/
def keySrcBad (h : Nat) : Bool := bit h 15 && bit h 14 && decide (15 < bits h 13 7)
/-- An operation and its field that R155 refuses. -/
def opBad (op field : Nat) : Bool := decide (7 ≤ op) || (op ≠ 0 && (fieldAt field).isNone)

/-- Whether R155 takes the value of word n of an action entry. -/
def actionOk (n v : Nat) : Bool :=
  match n with
  | 0 => bits v 19 18 ≠ 3
  | 1 => !(opBad (bits v 31 28) (bits v 27 22)) && decide (bits v 7 4 < 7)
  | 2 => !(opBad (bits v 15 12) (bits v 11 6))
  | _ => !(opBad (bits v 23 20) (bits v 19 14))

/-- Whether R155 takes the value of a word of a MAT bank (Table 07-13). -/
def matOk (eg : Bool) (o v : Nat) : Bool :=
  if o < 0x100 * (if eg then 6 else 12) then o % 0x40 = 0 || (!(keySrcBad (bits v 31 16)) && !(keySrcBad (bits v 15 0)))
  else if o < 0x1800 then o % 8 ≠ 0 || bits v 13 12 ≠ 3
  else if o < 0x4000 then o % 128 ≠ 112 || (decide (bits v 31 24 ≤ 112) && decide (bits v 23 16 ≤ 6))
  else if o < 0xC000 then o % 8 ≠ 0 || decide (bits v 30 26 ≤ 0x0B)
  else actionOk (o % 16 / 4) v

def State.writeMat (s : State) (w : Acc) : State :=
  let g := w.i.base + 0x48
  if w.off = 0x40 then s.scrubCfg w (4 + w.i.inst)
  else if w.off = 0x44 then s.matSwap w.i.inst w.v
  else if w.off < 0x10000 then s.accept w
  else
    let m := matAt w.off
    let free := if m.1 then s.fld g 30 30 ≠ m.2.1 && !s.flag g 31 else s.fld g 8 8 ≠ m.2.1 && !s.flag g 9
    if free && matOk m.1 m.2.2 w.v then s.bankWord w (matMask m.1 m.2.2) else s.refuse w

/-! ### FWD (R176, R182–R184) -/

/-- The tables of a space with pipeline and number. -/
def dirTables : List (Nat × Nat × Nat) :=
  (List.range 4).flatMap (fun p => (List.range 32).map (fun t => (0, p, t))) ++
  (List.range 4).flatMap (fun p => (List.range 16).map (fun t => (1, p, t))) ++ (List.range 8).map (fun t => (2, 0, t))

/-- A directory entry holds no reserved encoding and no kind or width that its memory does not take; KIND of a deep table must be 1, as its
word 0 is written or once it is enabled. -/
def Tab.legal (t : Tab) (first : Bool) : Bool :=
  let top := if t.space = 0 then 5 else if t.space = 1 then 3 else 1
  decide (t.kind ≤ top) && (t.space ≠ 2 || t.kind = 1 || !(first || t.en)) && (t.space ≠ 2 || !t.en || decide (10 ≤ t.log2)) && t.evict ≠ 3 && t.age ≠ 3 && (t.age = 0 || t.kind < 3) && (t.age ≠ 2 || t.ageMax ≠ 0) &&
    (match t.kind with
     | 1 => decide (1 ≤ t.keyw) && decide (t.keyw ≤ (if t.space = 2 then 320 else 160))
     | 2 => decide (1 ≤ t.keyw) && decide (t.keyw ≤ 416)
     | _ => true)

/-- Buckets, entries or roots of a table's memory. -/
def State.memTop (s : State) (t : Tab) : Nat :=
  if t.space = 2 then capMib (s.rd (memB + 0x40)) * 4096
  else match t.kind with
    | 3 => if t.space = 0 then 8192 else 2048
    | 4 => 4
    | 5 => 4
    | _ => if t.space = 0 then 131072 else 32768
/-- How much of it the table takes. -/
def Tab.extent (t : Tab) : Nat := if t.kind = 4 || t.kind = 5 then 1 else 2 ^ t.log2
/-- Its range lies in the memory and meets no other enabled table. -/
def State.rangeFits (s : State) (t : Tab) : Bool :=
  decide (t.base + t.extent ≤ s.memTop t) && dirTables.all (fun x =>
    let o := s.tab x.1 x.2.1 x.2.2
    x = (t.space, t.pipe, t.num) || !o.en || o.kind = 0 || o.mem ≠ t.mem ||
      decide (t.base + t.extent ≤ o.base) || decide (o.base + o.extent ≤ t.base))
/-- Buckets of the enabled deep tables. -/
def State.deepSum (s : State) : Nat :=
  ((List.range 8).map (fun d => let t := s.tab 2 0 d; if t.en then t.extent else 0)).sum

/-- A write of a directory word (R176): `n` is the word in the entry. -/
def State.dirWrite (s : State) (w : Acc) (space pipe t n : Nat) : State :=
  s.ifTakes w (fun s =>
    let u := s.put w
    let o := s.tab space pipe t
    let x := u.tab space pipe t
    let frozen := o.en && (o.kind ≠ x.kind || o.keyw ≠ x.keyw || o.base ≠ x.base || o.log2 ≠ x.log2)
    let ranged := x.kind ≠ 0 && (n ≠ 0 || x.en)
    if frozen || !x.legal (n = 0) || (ranged && !u.rangeFits x) || (space = 2 && x.en && decide (2 ^ 24 < u.deepSum)) then s.refuse w else u)

def State.writeFwd (s : State) (w : Acc) : State :=
  if w.off = 0x40 then s.scrubCfg w 8
  else if w.within 0x100 0x300 then
    let c := (w.off - 0x100) / 0x100
    if w.off % 0x100 = 0 then
      let op := bits w.v 31 28
      if op = 0 || 9 < op then s.refuse w else s.fwdCommand c w.q w.v op
    else if w.c.l = 0 then s
    else if w.q ≠ (if c = 0 then .mgc else .owner) || s.flag (fwdCmd c + 4) 31 then s.refuse w
    else s.accept w
  else if w.within 0x1000 0x1400 then
    s.dirWrite w 0 ((w.off - 0x1000) / 0x100) (w.off % 0x100 / 8) (w.off % 8 / 4)
  else if w.within 0x1400 0x1600 then
    s.dirWrite w 1 ((w.off - 0x1400) / 0x80) (w.off % 0x80 / 8) (w.off % 8 / 4)
  else if w.within 0x1600 0x1680 then s.dirWrite w 2 0 ((w.off - 0x1600) / 16) (w.off % 16 / 4)
  else if w.within 0x2000 0x2400 && w.off % 0x100 = 0 then
    s.acceptIf w (bits w.v 27 26 ≠ 3 && bits w.v 25 24 ≠ 3 && (bits w.v 25 24 ≠ 2 || bits w.v 14 12 ≠ 0))
  else if w.within 0x2000 0x2400 then (s.accept w).relimit ((w.off - 0x2000) / 0x100)
  else s.accept w

/-! ### SEQ, PRF -/

def State.writeSeq (s : State) (w : Acc) : State :=
  if w.off = 0x40 then
    s.ifTakes w (fun s => if s.flag w.addr 31 && !bit w.v 31 then (s.put w).seqPeriod else s.put w)
  else s.accept w

def State.writePrf (s : State) (w : Acc) : State :=
  if w.within 0x100 0x200 && w.off % 16 = 4 then
    (if bit w.v 29 then s.prfCalWrite ((w.off - 0x100) / 16) else s)
  else if w.within 0x1000 0x1800 then
    if w.off % 8 = 0 then s.acceptIf w (decide (bits w.v 30 28 ≤ 3) && decide (bits w.v 16 0 ≤ 100000))
    else { w with v := bits w.v 29 0 } |> fun w => s.acceptIf w (decide (w.v ≤ 999999999))
  else s.accept w

/-! ### SCH, ORB, POL (R217–R231) -/

/-- Every GUAR of SCH but the one at an address. -/
def State.guarSum (s : State) (a : Nat) : Nat :=
  let g := fun x => if x = a then 0 else s.fld x 17 0
  ((List.range 16).map (fun p => ((List.range 32).map (fun q => g (schQ p q + 4))).sum)).sum
    + ((List.range 269).map (fun v => g (schB + 0x50000 + 8 * v))).sum

/-- A GUAR is written: the sum of all stays within the pool. -/
def State.guarWrite (s : State) (w : Acc) : State := s.acceptIf w (decide (s.guarSum w.addr + bits w.v 17 0 ≤ 253952))

/-- The shaper of a queue is written: a change of IDLE_MBPS or HICREDIT sets its credit anew at its frame boundary, setting EN starts it at
0, and clearing EN ends it (R225). -/
def State.cbsWrite (s : State) (w : Acc) (p q : Nat) : State :=
  s.ifTakes w (fun s =>
    let s := s.settleCredit p q
    let t := s.put w
    let en := fun (x : State) => x.flag (schQ p q + 0x10) 31
    let idle := fun (x : State) => x.fld (schQ p q + 0x10) 18 0
    let hi := fun (x : State) => x.fld (schQ p q + 0x14) 23 0
    let full := t.flag (schQ p q + 0x10) 30
    if !en t then t.setPq p q (fun x => { x with credit := 0, creditAt := 0, fresh := none })
    else
      let t := if en s then t else t.setPq p q (fun x => { x with credit := 0, creditAt := t.mono, fresh := none })
      if idle s ≠ idle t || hi s ≠ hi t then (t.setPq p q (fun x => { x with fresh := some full })).settleCredit p q else t)

/-- A list entry or a parameter of an Orbit bank is written: not while the bank is in force or pending (R229). -/
def State.orbWord (s : State) (w : Acc) (p b : Nat) (may : Bool) : State :=
  let held := s.orbEn p && (s.orbActive p = b || s.orbPending p)
  s.acceptIf w (!held && may)

def State.writeSch (s : State) (w : Acc) : State :=
  if w.off = 0x40 || w.off = 0x44 then s.acceptIf w (s.deepMib = 0)
  else if w.within 0x10100 0x20000 && decide (0x100 ≤ w.off % 0x1000) then
    let p := (w.off - 0x10000) / 0x1000
    let q := (w.off % 0x1000 - 0x100) / 0x20
    match w.off % 0x20 with
    | 0x04 => s.guarWrite w
    | 0x08 => s.acceptIf w (decide (s.fld (schQ p q + 4) 17 0 ≤ bits w.v 17 0))
    | 0x10 => s.cbsWrite w p q
    | 0x14 => s.cbsWrite w p q
    | _ => s.accept w
  else if w.within 0x50000 0x60000 && w.off % 8 = 0 then s.guarWrite w
  else if w.within 0x100000 0x200000 then
    let p := (w.off - 0x100000) / 0x10000
    let o := w.off % 0x10000
    if o = 0 then s.orbWrite p w.v
    else if decide (0x20 ≤ o) && decide (o < 0x60) then s.orbWord w p ((o - 0x20) / 0x20) true
    else if 0x8000 ≤ o then s.orbWord w p ((o - 0x8000) / 0x2000) (o % 8 = 0 || inR w.v 31 0 1 1000000000)
    else s.accept w
  else if w.off = 0x200000 then s.polSel w.v
  else s.accept w

end Sys2Proof.Machine
end

