-- ==== Sys2Proof/Machine/WrSys.lean ====
section
/-! DEFINITION. Writes of the registers of ENG, CHN, RPL, CIP, KEY, MEM, MCI, HIF, TFN and DBG (11 to 21 of the spec). -/
namespace Sys2Proof.Machine

/-! ### ENG, CHN (R235–R252) -/

/-- An event binding that R239 takes. -/
def bindOk (i v : Nat) : Bool :=
  let k := bits v 31 29
  decide (k ≤ 4) && (k ≠ 4 || i = 31) && (k ≠ 1 || decide (bits v 9 0 ≤ 15))

/-- CHN_CFG_n is written: geometry only while the channel is off and empty, within the memory and clear of other channels (R243). -/
def State.chnCfg (s : State) (w : Acc) (n : Nat) : State :=
  s.ifTakes w (fun s =>
    let old := s.rd w.addr
    let geo := fun (x : Nat) => (bits x 29 24, bits x 13 0)
    let free := !bit old 31 && (s.chan n).slots.isEmpty
    let lo := bits w.v 13 0
    let hi := lo + chnUnits w.v
    let clear := (List.range 1024).all (fun m => m = n || !s.chanEn m ||
      (let o := s.rd (chnA m)
       decide (hi ≤ bits o 13 0) || decide (bits o 13 0 + chnUnits o ≤ lo)))
    if (geo old ≠ geo w.v && !free) || decide (16384 < hi) || !clear then s.refuse w
    else if bit w.v 30 then (s.put w).chnReset n else s.put w)

def State.writeEng (s : State) (w : Acc) : State :=
  let c := w.i.inst
  if w.off = 0x44 then (if bit w.v 31 then s.loadStart c else s)
  else if w.off = 0x54 then s.engSignal c w.v
  else if w.off = 0x5C then
    s.ifTakes w (fun s => if bit w.v 29 then (s.put w).dlRescue c else s.put w)
  else if w.within 0x10100 0x20000 && decide (0x180 ≤ w.off % 0x1000) && decide (0x80 ≤ w.off % 0x100) then
    s.acceptIf w (bindOk ((w.off % 0x100 - 0x80) / 4) w.v)
  else if w.off = 0x80004 then s.chnVoidWrite w.v
  else if decide (0x90000 ≤ w.off) && w.off % 0x20 = 0 then s.chnCfg w ((w.off - 0x90000) / 0x20)
  else s.accept w

/-! ### RPL (R293–R305) -/

/-- A ring or checkpoint register is written: the state tested is that of the cluster it names (R295). -/
def State.rplQ (s : State) (w : Acc) (c : Nat) (may : Bool) : State :=
  if s.blkState (engB c) = 2 && w.c.ok w.v && may then s.put w else s.refuse w

/-- A word of RPL_RP_AVAIL is written: while BUSY only for a host source, whose driver moves AVAIL on as it writes; the time spent
waiting for AVAIL does not count for STUCK (R302, R304). -/
def State.rpAvailWrite (s : State) (w : Acc) : State :=
  let waited := decide (s.rpAvail ≤ s.cnt rpPosA)
  let s := s.acceptIf w (!s.flag (rplB + 0x44) 31 || s.rpHost)
  if waited && decide (s.cnt rpPosA < s.rpAvail) then
    { s with rpl := { s.rpl with rp := s.rpl.rp.map (fun x => { x with lastAt := s.mono }) } }
  else s

def State.writeRpl (s : State) (w : Acc) : State :=
  if w.off = 0x40 then
    let t := if bit w.v 31 then s.rplStart w.v w.x.host else s.accept w
    if bit w.v 30 then t.rpEnd 7 else t
  else if w.off = 0x58 || w.off = 0x5C then s.rpAvailWrite w
  else if w.within 0x48 0x80 && w.c.l ≠ 0 then s.acceptIf w (!s.flag (rplB + 0x44) 31)
  else if 0x1000 ≤ w.off then
    let c := (w.off - 0x1000) / 0x100
    match w.off % 0x100 with
    | 0x00 => s.rplQ w c true
    | 0x04 =>
      let was := s.flag (rplC c + 4) 1
      let s := if bit w.v 1 && !was then s.rplFreeze c else if !bit w.v 1 && was then s.rplUnfreeze c else s
      if bit w.v 0 then s.ckptReq c else s
    | 0x08 => s.rplQ w c true
    | 0x0C => s.rplQ w c (!(s.detCfg c && bits w.v 15 0 = 0))
    | 0x10 => s.rplQ w c true
    | _ => s
  else s.accept w

/-! ### CIP, KEY (R315–R325) -/

/-- KEY_CTR of a slot is written, one word of two: only while the slot is open (R321). -/
def State.ctrWrite (s : State) (w : Acc) (k : Nat) : State :=
  if s.keyValid k then s.refuse w
  else
    let a := cipB + 0x20000 + 8 * k
    let c := s.cnt a
    s.setCnt a (if w.off % 8 = 0 then bits c 63 32 * 2 ^ 32 + w.v else w.v * 2 ^ 32 + bits c 31 0)

def State.writeCip (s : State) (w : Acc) : State :=
  if w.within 0x80 0x100 then
    s.ifTakes w (fun s => if bit w.v 30 then (s.put w).coreTest ((w.off - 0x80) / 4) else s.put w)
  else if w.off = 0x200 then (if bit w.v 31 then s.keyZero else s)
  else if w.off = 0x240 then
    (if bit w.v 31 then s.kwStart (bit w.v 30) (bits w.v 27 14) (bits w.v 13 0) else s.accept w)
  else if w.off = 0x248 || w.within 0x280 0x2E8 then s.acceptIf w (!s.flag (cipB + 0x244) 31)
  else if w.within 0x10000 0x20000 then s.attrWrite w.q ((w.off - 0x10000) / 4) w.v
  else if 0x20000 ≤ w.off then s.ctrWrite w ((w.off - 0x20000) / 8)
  else s.accept w

def State.writeKey (s : State) (w : Acc) : State := s.matWrite (w.off / 64) (w.off % 64 / 4) w.v

/-! ### MEM, MCI (R328–R346) -/

/-- The MiB that a region takes with its metadata area (R333). -/
def regionSpan (typ base size : Nat) : Nat × Nat := (base, base + size + (if eccType typ then size / 8 else 0))

/-- A region's range meets that of another one, enabled in force or in the words that a commit would bring. -/
def State.regionMeets (s : State) (r : Nat) (x : Nat × Nat) : Bool :=
  (List.range 32).any (fun o => o ≠ r && [State.rd s, State.rdA s].any (fun g =>
    bit (g (memReg o 0)) 31 && (let y := regionSpan (bits (g (memReg o 0)) 30 28) (g (memReg o 1)) (g (memReg o 2))
      decide (x.1 < y.2) && decide (y.1 < x.2))))

/-- A region word is written (R333). -/
def State.regionWrite (s : State) (w : Acc) (r n : Nat) : State :=
  s.ifTakes w (fun s =>
    if s.flagA (memReg r 0) 31 then (if n = 0 && !bit w.v 31 then s.put w else s.refuse w)
    else
      let u := s.put w
      let w0 := u.rd (memReg r 0)
      let t := bits w0 30 28
      let size := u.rd (memReg r 2)
      let sized := size ≠ 0 && (!eccType t || size % 8 = 0)
      let span := regionSpan t (u.rd (memReg r 1)) size
      let fits := decide (span.2 ≤ capMib (s.rd (memB + 0x40))) && !u.regionMeets r span
      let ok := match n with
        | 0 => t ≠ 7 && (!bit w0 31 || (t ≠ 0 && sized && fits))
        | 1 => size = 0 || fits
        | 2 => sized && fits
        | _ => true
      if ok then u else s.refuse w)

def State.writeMem (s : State) (w : Acc) : State :=
  if w.within 0x400 0xC00 && w.off % 0x40 = 0 then s.chCtrl ((w.off - 0x400) / 0x40) w.v
  else if w.within 0x1000 0x1200 then s.regionWrite w ((w.off - 0x1000) / 16) (w.off % 16 / 4)
  else if w.within 0x60 0x80 && w.off % 8 = 0 then s.ifTakes w (fun s => (s.put w).rejudge ((w.off - 0x60) / 8))
  else s.accept w

def State.writeMci (s : State) (w : Acc) : State :=
  if w.off = 0x44 then (if bit w.v 31 then s.initStart else s)
  else if w.off = 0x48 then s.acceptIf w (!s.flag (mciB + 0x44) 30)
  else s.accept w

/-! ### HIF, TFN (R349–R383) -/

/-- HIF_MSIX_ALLOC_f is written (R368). -/
def State.msixAlloc (s : State) (w : Acc) (f : Nat) : State :=
  let lo := bits w.v 27 16
  let hi := lo + bits w.v 10 0
  let meets := (List.range 260).any (fun g => g ≠ f &&
    (let x := s.rd (hifB + 0xA000 + 4 * g)
     decide (bits w.v 10 0 ≠ 0) && decide (bits x 10 0 ≠ 0) && decide (lo < bits x 27 16 + bits x 10 0) && decide (bits x 27 16 < hi)))
  s.acceptIf w (!(s.fnGet f).msixEnable && decide (hi ≤ 4096) && !meets)

def State.writeHif (s : State) (w : Acc) : State :=
  if w.within 0x1000 0x5000 then
    let h := (w.off - 0x1000) / 0x1000
    match w.off % 0x1000 with
    | 0x0 =>
      if bit w.v 31 && s.tfClash h then s.refuse w
      else
        let s := if bit w.v 31 then s.hpSetReady h else s
        if bit w.v 30 then s.hpTakeDown h else s
    | 0x4 => s.acceptIf w (!s.hpReady h)
    | _ => s.accept w
  else if w.off = 0x44 then s.acceptIf w (!([0, 1, 2, 3].any s.hpReady))
  else if w.within 0xA000 0xB000 then s.msixAlloc w ((w.off - 0xA000) / 4)
  else s.accept w

def State.writeTfn (s : State) (w : Acc) : State :=
  if w.within 0x10000 0x20000 then
    let f := (w.off - 0x10000) / 0x40
    match w.off % 0x40 with
    | 0x0 =>
      if bit w.v 31 then s.fnCtrl f (fun s => s.fnFreeze f)
      else if bit w.v 30 then s.fnCtrl f (fun s => s.fnThaw f)
      else if bit w.v 29 then s.fnCtrl f (fun s => s.fnResetCmd f)
      else s
    | 0x8 => s.quotaQ f w.v
    | 0xC => s.quotaS f w.v
    | _ => s.accept w
  else if 0x100000 ≤ w.off then
    let f := (w.off - 0x100000) / 0x1000
    let n := w.off % 0x1000 / 0x40
    let o := w.off % 0x40
    if o < 0x20 then s.slotWrite f n (o / 16) (o % 16 / 4) w.v
    else if o = 0x20 then (if bit w.v 31 then s.winCommit f n else s)
    else s
  else s.accept w

/-! ### DBG (R446–R450) -/

def State.writeDbg (s : State) (w : Acc) : State :=
  if !s.dbgMay w.q w.off then s.refuse w
  else match w.off with
    | 0x44 => s.dbgCtrl w.v
    | 0x48 => s.dbgOtp w.v
    | 0x120 => s.accept { w with v := w.v - w.v % 2 ^ 24 }
    | 0x200 => s.thrCtrl w.v
    | 0x214 => s.thrDataWrite w.v
    | 0x300 => s.acceptIf w (memAddrOk w.v)
    | 0x30C => s.dbgMemWrite w.v
    | _ => if w.within 0x140 0x160 then s.dbgHash ((w.off - 0x140) / 4) w.v else s.accept w

end Sys2Proof.Machine
end

