-- ==== Sys2Proof/Machine/RegWrite.lean ====
section
/-! DEFINITION. Register writes through the owner view and the function pages (02_registers_and_views.md R30–R34, R472). -/
namespace Sys2Proof.Machine

/-- A write reaches the block that its instance belongs to. -/
def State.writeBlock (s : State) (w : Acc) : State :=
  match w.i.code with
  | 0x01 => s.writeGen w
  | 0x02 => s.writeEvt w
  | 0x03 => s.writePwr w
  | 0x04 => s.writeBoot w
  | 0x05 => s.writeTim w
  | 0x06 => s.writeTsu w
  | 0x07 => s.writeTail w
  | 0x08 => s.writeStr w
  | 0x09 => s.writeMac w
  | 0x0A => s.writePrs w
  | 0x0B => s.writeMat w
  | 0x0C => s.writeFwd w
  | 0x0D => s.writeSeq w
  | 0x0E => s.writePrf w
  | 0x0F => s.writeSch w
  | 0x10 => s.writeEng w
  | 0x11 => s.writeRpl w
  | 0x12 => s.writeCip w
  | 0x13 => s.writeKey w
  | 0x14 => s.writeMem w
  | 0x15 => s.writeMci w
  | 0x16 => s.writeHif w
  | 0x17 => s.writeTfn w
  | 0x18 => s.writeDbg w
  | _ => s

/-- One 32-bit write of the owner view with byte enables. A reserved address takes no effect (R7); partial byte enables are
discarded (R30). -/
def State.ownerWrite (s : State) (q : Req) (a be v : Nat) (x : WEnv) : State :=
  match instAt a with
  | none => s
  | some i =>
    let off := a - i.base
    match cardIn i off with
    | none => s
    | some c =>
      if absent i off then s
      else
        let w : Acc := ⟨q, i, off, c, v, x⟩
        if be ≠ 15 then s.refuse w
        else if i.hdr && decide (off < 0x34) then s.writeHdr w
        else s.writeBlock w

/-! ### Function pages (R33, R379, R383) -/

/-- An MSI-X table word is written; unmasking sends a pending message (R369). -/
def State.msixWord (s : State) (n off v : Nat) : State :=
  let e := (off - 0x8000) / 16
  if s.msixCount n ≤ e then s
  else if off % 16 = 12 then (s.pwr n off (v % 2)).msixPend n e
  else s.pwr n off v

/-- A doorbell is written. -/
def State.bellWrite (s : State) (n off v : Nat) : State :=
  let b := bellAt off
  if 256 ≤ n then s
  else if b.2.1 % 8 = 0 then s.piWrite n b.2.2 b.1 v else s.ciWrite n b.2.2 b.1 v

/-- One 32-bit write through a function page. -/
def State.pageWrite (s : State) (f : Fin 260) (off be v : Nat) : State :=
  let n := f.val
  if !s.pageHas n off then s
  else if be ≠ 15 then s.rejectPage
  else if off = 0xC0 then s.pwr n 0xC0 (s.prd n 0xC0 &&& (top32 - v))
  else if off = 0x100 then
    if bit v 31 && bit (s.prd n 0x104) 31 then s.mbxSend n
    else
      let s := s.pwr n 0x100 (bits v 0 0)
      if bit v 31 then s.mbxSend n else s
  else if off = 0x104 then (if bit v 30 then s.pwr n 0x104 (putBits (s.prd n 0x104) 30 30 0) else s)
  else if decide (0x200 ≤ off) && decide (off < 0x600) then
    (if bit (s.prd n 0x104) 31 then s.rejectPage else s.pwr n off v)
  else if decide (0x1000 ≤ off) && decide (off < 0x4000) then s.bellWrite n off v
  else if decide (0x8000 ≤ off) && decide (off < 0xC000) then s.msixWord n off v
  else s

/-- One 32-bit register write of a requester: of the owner view, or of the requester's own page. -/
def State.regWrite (s : State) (q : Req) (a be v : Nat) (x : WEnv) : State :=
  match q with
  | .page f => s.pageWrite f a be v
  | _ => s.ownerWrite q a be v x

end Sys2Proof.Machine
end

