-- ==== Sys2Proof/Machine/Boot.lean ====
section
/-! DEFINITION. Commands of boot, the management complex and recovery (19_boot_and_management.md R397–R415). -/
namespace Sys2Proof.Machine

/-! ### The ROM's states (R398, R335, R427) -/

/-- BOOT_ROM_START: the ROM starts once nothing holds the device in reset; BOOT_MODE 0b10 enters RECOVERY at once. -/
def State.romStart (s : State) : State :=
  if s.bootState ≠ 0 || s.pw.hold.any then s
  else
    let s := s.setFld (pwrB + 0x54) 31 31 1
    if s.straps.bootMode = 2 then s.toRecovery else s.toBoot 1
def execBootRomStart (s : State) : Res := .next s.romStart

/-- BOOT_SELF_TEST: the rows repaired and the fewest spares left, an array beyond its spares, the TRNG's health. -/
def State.selfTest (s : State) (trngOk : Bool) (array : Option (BitVec 24)) (repaired : BitVec 16) (spare : BitVec 8) : State :=
  if s.bootState ≠ 1 then s
  else
    let s := s.wr (pwrB + 0x1D0) (repaired.toNat * 2 ^ 16 + spare.toNat)
    let s := if spare.toNat < s.fld (pwrB + 0x1C4) 23 16 then s.raise pwrB Ev.sramSpareLow Src.device else s
    match array with
    | some a => s.bootFail 2 a.toNat
    | none => if trngOk then (s.setFld (mciB + 0x40) 31 31 1).toBoot 2 else (s.setFld (mciB + 0x40) 30 30 1).bootFail 1 0
def execBootSelfTest (trngOk : Bool) (array : Option (BitVec 24)) (repaired : BitVec 16) (spare : BitVec 8) (s : State) : Res :=
  .next (s.selfTest trngOk array repaired spare)

/-- BOOT_FLASH: whether SFDP discovery finds a device of 1 to 4 Gbit. -/
def execBootFlash (found : Bool) (s : State) : Res :=
  .next (if s.bootState ≠ 2 then s else if found then s.toBoot 3 else s.bootFail 3 0)

/-! ### VERIFY (R401, R403) -/

/-- A TRIAL bank whose ATTEMPTS has reached 3 is marked BAD. -/
def State.markTried (s : State) (n : Nat) : State :=
  let d := s.desc.2
  let w := d.bank n
  if bankSt w = 2 && 3 ≤ bankTry w then
    (s.putDesc (d.setBank n (descWord 3 (bankTry w) (bankSeq w)))).raise bootB Ev.bootFallback Src.device
  else s

/-- A bank's word makes it a candidate. -/
def bankCand (w : Nat) : Bool := bankSt w = 1 || (bankSt w = 2 && decide (bankTry w < 3))

/-- The candidates, that of the higher SEQ first. -/
def Desc.cands (d : Desc) : List Nat := (if bankSeq d.a < bankSeq d.b then [1, 0] else [0, 1]).filter (fun n => bankCand (d.bank n))

/-- The check of a bank, its result in BOOT_BANK; a failing bank is marked BAD. -/
def State.tryBank (s : State) (n : Nat) (readErr : Bool) : Bool × State :=
  let code := s.bankCheck n readErr
  let s := s.setFld (bootB + 0x4C) (23 - 4 * n) (20 - 4 * n) code
  let d := s.desc.2
  let w := d.bank n
  if code = 0 then (true, s) else (false, s.putDesc (d.setBank n (descWord 3 (bankTry w) (bankSeq w))))

/-- The candidates in turn; `boots` is what BOOT_COUNT rises by with the first descriptor written. Answers the bank that passes. -/
def State.tryBanks (err : BitVec 2) : List Nat → Nat → State → Option Nat × State
  | [], boots, s =>
    let d := s.desc.2
    (none, if boots = 0 then s else s.putDesc { d with count := (d.count + boots) % 2 ^ 32 })
  | n :: l, boots, s =>
    let d := s.desc.2
    let w := d.bank n
    let e := { d with count := (d.count + boots) % 2 ^ 32 }
    let e := if bankSt w = 2 then e.setBank n (descWord 2 (bankTry w + 1) (bankSeq w)) else e
    let s := if e = d then s else s.putDesc e
    let r := s.tryBank n (err.getLsbD n)
    if r.1 then (some n, r.2) else State.tryBanks err l 0 r.2

/-- The bank that passed runs: BOOT_BANK, BOOT_DIGEST, its MGC firmware in SRAM. -/
def State.runBank (s : State) (n : Nat) : State :=
  let w := s.desc.2.bank n
  let a := bootB + 0x4C
  let s := (((s.setFld a 31 31 n).setFld a 30 30 (b2n (decide (bankSt w = 2)))).setFld a 27 24 (bankTry w)).setFld a 15 0 (s.bankSvn n)
  let g := s.bankDigest n
  let s := (List.range 8).foldl (fun s k => s.wr (bootB + 0x60 + 4 * k) (bits g (255 - 32 * k) (224 - 32 * k))) s
  let s := match (ofTyp (s.bankSects n) 2).head? with
    | none => s
    | some x => s.sramPut 0 (s.sectBytes n x)
  s.toBoot 4

/-- BOOT_VERIFY: bit b of `readErr` tells that reading bank b fails. -/
def State.bootVerify (s : State) (readErr : BitVec 2) : State :=
  if s.bootState ≠ 3 then s
  else
    let s := (s.markTried 0).markTried 1
    let r := State.tryBanks readErr s.desc.2.cands 1 s
    let s := r.2.wr (bootB + 0x50) r.2.desc.2.count
    match r.1 with
    | some n => s.runBank n
    | none => if s.straps.bootMode = 0 then s.bootFail 4 0 else (s.wr (bootB + 0x48) (4 * 2 ^ 24)).toRecovery
def execBootVerify (readErr : BitVec 2) (s : State) : Res := .next (s.bootVerify readErr)

/-- BOOT_MGC_START: the ROM enables the watchdog and MGC firmware writes CONFIG. -/
def State.bootMgcStart (s : State) : State :=
  if s.bootState ≠ 4 then s
  else ((s.setFld (bootB + 0x40040) 31 31 1).setBoot (fun b => { b with kickAt := s.mono })).toBoot 5
def execBootMgcStart (s : State) : Res := .next s.bootMgcStart

/-! ### CONFIG (R404) -/

/-- A configuration record: its index, OP, OFFSET, VALUE, MASK, TIMEOUT_US, and when it fell due. -/
structure CfgRec where
  idx : Nat
  op : Nat
  off : Nat
  val : Nat
  mask : Nat
  us : Nat
  since : Nat

/-- The configuration component of the running bank. -/
def State.cfgBytes (s : State) : List Byte := match (ofTyp (s.bankSects s.running_) 5).head? with
  | none => []
  | some x => s.sectBytes s.running_ x

/-- Record i of the component. -/
def cfgRec (b : List Byte) (i since : Nat) : CfgRec :=
  let a := 64 + 16 * i
  let w := beAt b a 4
  ⟨i, bits w 31 28, bits w 25 0, beAt b (a + 4) 4, beAt b (a + 8) 4, beAt b (a + 12) 4, since⟩

/-- The record is one of the component, and R404 takes it. -/
def CfgRec.ok (r : CfgRec) (b : List Byte) : Bool :=
  decide (64 + 16 * (r.idx + 1) ≤ b.length) && match r.op with
    | 0 => true
    | 1 => r.off % 4 = 0 && codeOf r.off ≠ 0x04
    | 2 => r.off % 4 = 0 && codeOf r.off ≠ 0x04 && decide (1 ≤ r.us) && decide (r.us ≤ 10000000)
    | 3 => decide (1 ≤ r.us) && decide (r.us ≤ 10000000)
    | 4 => r.off = 1 || r.off = 2
    | _ => false

/-- Record i falls due; one that is refused fails the boot. -/
def State.cfgNext (s : State) (i : Nat) : State :=
  let b := s.cfgBytes
  if (cfgRec b i 0).ok b then s.setBoot (fun x => { x with recAt := some (i, s.mono) })
  else (s.setBoot (fun x => { x with recAt := none })).bootFail 5 i

/-- BOOT_CONFIG: the component is checked and its first record falls due. -/
def State.bootConfig (s : State) : State :=
  if s.bootState ≠ 5 || s.boot.recAt.isSome then s
  else if compOk 5 s.cfgBytes then s.cfgNext 0
  else s.bootFail 5 0
def execBootConfig (s : State) : Res := .next s.bootConfig

/-- The record that is due acts where its OP is `op`. -/
def State.recDo (s : State) (op : Nat) (g : CfgRec → State → State) : State :=
  match s.boot.recAt with
  | none => s
  | some (i, t) =>
    let r := cfgRec s.cfgBytes i t
    if s.bootState = 5 && r.op = op then g r s else s

/-- A write of a requester, and whether it raised CFG_REJECT: COUNT of the cause has risen. -/
def State.wroteBad (s : State) (q : Req) (a v : Nat) (x : WEnv) : Bool × State :=
  let c := causeA Ev.cfgReject
  let n := s.fld c 23 0
  let m := n - b2n (decide (n = 0xFFFFFF))
  let t := (s.setFld c 23 0 m).ownerWrite q a 15 v x
  let k := t.fld c 23 0
  if m < k then (true, t) else (false, if k = m then t.setFld c 23 0 n else t)

/-- CFG_REC_WRITE. -/
def State.cfgWrite (s : State) (x : WEnv) : State :=
  s.recDo 1 (fun r s =>
    let old := if r.mask = top32 then (0, s) else s.ownerRead .mgc r.off
    let w := old.2.wroteBad .mgc r.off ((old.1 &&& (top32 - r.mask)) ||| (r.val &&& r.mask)) x
    if w.1 then w.2.bootFail 6 r.idx else if w.2.bootState = 5 then w.2.cfgNext (r.idx + 1) else w.2)
def execCfgRecWrite (x : WEnv) (s : State) : Res := .next (s.cfgWrite x)

/-- CFG_REC_WAIT: one poll. -/
def State.cfgWait (s : State) : State :=
  s.recDo 2 (fun r s =>
    let v := s.ownerRead .mgc r.off
    if v.1 &&& r.mask = r.val then v.2.cfgNext (r.idx + 1)
    else if s.past (r.since + r.us * uUs) then v.2.bootFail 7 r.idx else v.2)
def execCfgRecWait (s : State) : Res := .next s.cfgWait

/-- CFG_REC_DELAY. -/
def State.cfgDelay (s : State) : State :=
  s.recDo 3 (fun r s => if s.past (r.since + r.us * uUs) then s.cfgNext (r.idx + 1) else s)
def execCfgRecDelay (s : State) : Res := .next s.cfgDelay

/-- CFG_REC_PARAM: 1 the owner host port, 2 that SVN_MIN rises on confirm. -/
def State.cfgParam (s : State) : State :=
  s.recDo 4 (fun r s =>
    (s.setBoot (fun b => if r.off = 1 then { b with owner := some r.val } else { b with raise := r.val = 1 })).cfgNext (r.idx + 1))
def execCfgRecParam (s : State) : Res := .next s.cfgParam

/-- The owner host port of R28 with its source. -/
def State.ownerPick (s : State) : Nat × Nat :=
  let strap := s.straps.ownerHp.toNat
  let named := s.boot.owner.filter s.hpUsed
  match named with
  | some h => (h, 1)
  | none => if s.hpUsed strap then (strap, 0) else (0, 2)

/-- CFG_REC_END: the owner host port is chosen and LOAD begins. -/
def State.cfgEnd (s : State) : State :=
  s.recDo 0 (fun _ s =>
    let p := s.ownerPick
    let s := (s.setBoot (fun b => { b with recAt := none })).wr (genB + 0x44) (p.2 * 4 + p.1)
    let s := if p.2 = 2 then s.raise genB Ev.ownerFallback (Src.hostPort s.straps.ownerHp.toNat) else s
    s.toBoot 6)
def execCfgRecEnd (s : State) : Res := .next s.cfgEnd

/-! ### LOAD, START, FORWARDING (R405, R398) -/

/-- The image of cluster c is put where the loader reads it, loaded under R252; answers whether it is valid then. -/
def State.bootCluster (s : State) (c : Fin 12) (at_ : Nat) (img : List Byte) : Bool × State :=
  let a := engB c.val
  let s := if s.memAllowed .mgc at_ img.length true then s.memWrite at_ img else s.memRefuse .mgc at_
  let s := ((s.wr (a + 0x48) (bits at_ 31 0)).wr (a + 0x4C) (bits at_ 63 32)).wr (a + 0x50) img.length
  let s := (s.loadStart c.val).loadFinish c .clean
  (s.flag (a + 0x44) 29, s)

/-- The clusters in turn; answers the first whose load fails. -/
def State.bootClusters (b : Nat) (at_ : Fin 12 → Nat) : List (Fin 12) → State → Option Nat × State
  | [], s => (none, s)
  | c :: l, s =>
    let img := match (ofTyp (s.bankSects b) 1).find? (fun x => bit x.dest c.val) with
      | none => []
      | some x => s.sectBytes b x
    let r := s.bootCluster c (at_ c) img
    if r.1 then State.bootClusters b at_ l r.2 else (some c.val, r.2)

/-- The pipeline programs: MGC firmware writes the words of the free banks, then swaps the pairs that a component names. -/
def State.bootPipes (s : State) (b : Nat) (words : List (BitVec 26 × Word)) : State :=
  let s := (words.filter (fun w => codeOf w.1.toNat = 0x0A || codeOf w.1.toNat = 0x0B)).foldl
    (fun s w => s.ownerWrite .mgc w.1.toNat 15 w.2.toNat {}) s
  [0, 1, 2, 3].foldl (fun s n => if (ofTyp (s.bankSects b) 3).any (fun x => bit x.dest n) then s.matSwap n 3 else s) s

/-- The microcode in every core; bit k of `fail` tells that core k fails its self-test. Answers the first that fails. -/
def State.bootUcode (s : State) (b : Nat) (fail : BitVec 32) : Option Nat × State :=
  let c := match (ofTyp (s.bankSects b) 4).head? with
    | none => []
    | some x => s.sectBytes b x
  if compOk 4 c then (cores.find? (fun k => fail.getLsbD k), cores.foldl (fun s k => s.ucodeCore fail.toNat k) s)
  else (some 0, s)

/-- BOOT_LOAD: the bank goes to `copy` in the MGC region, the cluster images to `imgs`, the programs' words to the pipelines, the
microcode to the cores; `e` is what rereading the copy finds. -/
def State.bootLoad (s : State) (copy : BitVec 40) (imgs : Vector (BitVec 40) 12) (words : List (BitVec 26 × Word))
    (fail : BitVec 32) (e : Ecc) : State :=
  let b := s.running_
  let a := copy.toNat
  let n := s.bankLen b
  let mgcRegion := match s.regionAt a n with
    | none => false
    | some r => s.regType r = 6
  if s.bootState ≠ 6 then s
  else if !(mgcRegion && s.memAllowed .mgc a n true) then (s.memRefuse .mgc a).bootFail 8 0
  else if !s.memServes a n then s
  else
    let s := (s.memWrite a (s.bankBytes b 0 n)).setBoot (fun x => { x with copyAt := some a })
    let r := s.rehash e
    if !r.1 then r.2.bootFail 8 0
    else
      let r := State.bootClusters b (fun c => (imgs[c.val]).toNat) (List.finRange 12) r.2
      match r.1 with
      | some c => r.2.bootFail 9 c
      | none =>
        let r := (r.2.bootPipes b words).bootUcode b fail
        match r.1 with
        | some k => r.2.bootFail 9 k
        | none => r.2.toBoot 7
def execBootLoad (copy : BitVec 40) (imgs : Vector (BitVec 40) 12) (words : List (BitVec 26 × Word)) (fail : BitVec 32) (e : Ecc)
    (s : State) : Res := .next (s.bootLoad copy imgs words fail e)

/-- BOOT_START_BLOCKS: TAIL_EPOCH takes BOOT_COUNT, TAIL resumes, then every other block instance still QUIESCED, clusters last. -/
def State.bootStart (s : State) : State :=
  if s.bootState ≠ 7 || s.boot.started then s
  else
    let s := if s.blkState tailB = 2 then
        ((s.wr (tailB + 0x44) (s.rd (bootB + 0x50))).setTl (fun t => { t with epochWritten := true })).resume tailB
      else s
    let go := fun (s : State) b => if s.blkState b = 2 then s.resume b else s
    let s := (blkBases.filter (fun b => codeOf b ≠ 0x10)).foldl go s
    ((List.range 12).foldl (fun s c => go s (engB c)) s).setBoot (fun b => { b with started := true })
def execBootStartBlocks (s : State) : Res := .next s.bootStart

/-- BOOT_FORWARDING. -/
def State.bootForward (s : State) : State :=
  if s.bootState ≠ 7 || !s.boot.started then s
  else
    let s := [0, 1, 2, 3].foldl (fun s h => if s.hpUsed h then s.hpSetReady h else s) (s.toBoot 9)
    s.raise bootB Ev.bootForwarding Src.device
def execBootForwarding (s : State) : Res := .next s.bootForward

/-- BOOT_FAILED: a failure of the boot with its code and what it concerns. -/
def execBootFailed (code : BitVec 8) (info : BitVec 24) (s : State) : Res :=
  .next (if s.bootState < 8 then s.bootFail code.toNat info.toNat else s)

/-! ### Semaphores, the watchdog, restarts (R407, R410, R412) -/

/-- The two requesters that share the semaphores. -/
def semReq (mgc : Bool) : Req := if mgc then .mgc else .owner
/-- GEN_SEM_ACQUIRE. -/
def execGenSemAcquire (mgc : Bool) (n : Fin 16) (s : State) : Res := .next (s.semWrite (semReq mgc) n.val 1)
/-- GEN_SEM_RELEASE. -/
def execGenSemRelease (mgc : Bool) (n : Fin 16) (s : State) : Res := .next (s.semWrite (semReq mgc) n.val 2)

/-- WDT_KICK: the key is written. -/
def execWdtKick (s : State) : Res := .next (s.wdtKick 0x61600A11)
/-- WDT_EXPIRE; `e` is what reading the boot copy finds. -/
def execWdtExpire (e : Ecc) (s : State) : Res := .next (s.wdtExpire e)
/-- MGC_RESTART with its SRC. -/
def execMgcRestart (src : Bool) (e : Ecc) (s : State) : Res :=
  .next ((s.setFld (bootB + 0x40048) 30 30 (b2n src)).mgcRestart src e)

/-- The new firmware is confirmed: a TRIAL bank becomes CONFIRMED, and with PARAM 0x02 SVN_MIN rises to its SVN (R411). -/
def State.bankConfirm (s : State) (n : Nat) : State :=
  let d := s.desc.2
  let w := d.bank n
  if bankSt w ≠ 2 then s
  else
    let s := s.putDesc (d.setBank n (descWord 1 (bankTry w) (bankSeq w)))
    let s := if s.running_ = n then s.setFld (bootB + 0x4C) 30 30 0 else s
    if s.boot.raise then s.setFld (bootB + 0x80) 15 0 (max (s.fld (bootB + 0x80) 15 0) (s.bankSvn n)) else s
/-- MGC_CONFIRM; `bank` is the one whose activation is complete with it, if any. -/
def execMgcConfirm (bank : Option (Fin 2)) (s : State) : Res :=
  .next (match bank with
    | none => s.mgcConfirm
    | some b => s.mgcConfirm.bankConfirm b.val)
/-- TRIAL_TIMEOUT. -/
def execTrialTimeout (e : Ecc) (s : State) : Res := .next (s.trialTimeout e)

/-! ### Microcode, flash, fuses (R413, R400, R403) -/

/-- UCODE_LOAD. -/
def execUcodeLoad (s : State) : Res := .next s.ucodeStart
/-- UCODE_DONE; `e` is what the read finds, bit k of `fail` tells that core k fails its self-test. -/
def execUcodeDone (e : Ecc) (fail : BitVec 32) (s : State) : Res := .next (s.ucodeDone e fail.toNat)

/-- FLASH_ERASE of the sector at an offset. -/
def execFlashErase (addr : BitVec 32) (s : State) : Res := .next ((s.wr (bootB + 0x104) addr.toNat).flashCmd (2 ^ 31))
/-- FLASH_PROGRAM of 256 bytes that MGC firmware puts into its SRAM at 256 × `src`. -/
def execFlashProgram (addr : BitVec 32) (src : BitVec 15) (data : BitVec 2048) (s : State) : Res :=
  .next (((s.sramPut (256 * src.toNat) (bytesBE 256 data.toNat)).wr (bootB + 0x104) addr.toNat).flashCmd
    (2 ^ 31 + 2 ^ 28 + 256 * src.toNat))
/-- FLASH_OP_DONE. -/
def execFlashOpDone (good : Bool) (s : State) : Res := .next (s.flashDone good)

/-- CUST_LOCK. -/
def execCustLock (s : State) : Res := .next (s.otpWrite (2 ^ 31 + s.fld (bootB + 0x80) 15 0))
/-- SVN_MIN_RAISE. -/
def execSvnMinRaise (v : BitVec 16) (s : State) : Res := .next (s.otpWrite v.toNat)

/-! ### Recovery (R414, R415) -/

/-- REC_HELLO, each second on both paths. -/
def State.recHello (s : State) : State :=
  if s.bootState ≠ 0xE || !s.past s.boot.helloAt then s
  else
    let d := s.desc.2
    let b := recBytes 1 0 d.xid d.off (bytesBE 4 (s.rd (genB + 0x40)) ++ bytesBE 8 Config.serial.toNat ++ bytesBE 4 (s.rd (bootB + 0x48)))
    ((s.recSend (some (2 ^ 48 - 1)) b).recSend none b).setBoot (fun x => { x with helloAt := s.mono + uS })
def execRecHello (s : State) : Res := .next s.recHello

/-- A BEGIN: the transfer that the descriptor holds goes on, or a fresh one erases the bank. -/
def State.recBegin (s : State) (m : RecMsg) : State :=
  let d := s.desc.2
  let n := beAt m.data 12 4
  if m.data.length ≠ 64 || !headOk m.data (2 ^ 32) then s.recAnswer 4 1 m.xid 0
  else if m.xid = 0 then s.recAnswer 4 6 m.xid 0
  else if s.bankSize < n then s.recAnswer 4 2 m.xid 0
  else if m.xid = d.xid && m.data = s.bankBytes d.xbank 0 64 then
    (s.setBoot (fun x => { x with xfer := some ⟨m.xid, d.xbank, n, d.off⟩, okAt := none })).recAnswer 4 0 m.xid d.off
  else
    let b := d.target
    let s := (s.putDesc { d.setBank b (descWord 0 0 0) with xid := m.xid, off := 0, xbank := b }).flashErase (s.bankBase b) s.bankSize
    (s.setBoot (fun x => { x with xfer := some ⟨m.xid, b, n, 0⟩, okAt := none })).recAnswer 4 0 m.xid 0
def execRecBegin (host : Option (BitVec 48)) (msg : List Byte) (s : State) : Res :=
  .next (s.recIn host msg 2 (fun m s => s.recBegin m))

/-- A DATA chunk; `err` tells that programming it fails. -/
def State.recData (s : State) (m : RecMsg) (err : Bool) : State :=
  match s.boot.xfer with
  | none => s.recAnswer 4 6 m.xid 0
  | some x =>
    if m.xid ≠ x.id then s.recAnswer 4 6 m.xid 0
    else if m.off ≠ x.next || m.data.length ≠ min 1024 (x.len - x.next) || x.len ≤ x.next then
      (s.bump (bootB + 0x80108) 1).recAnswer 4 0 m.xid x.next
    else
      let a := s.bankBase x.bank + x.next
      if err then (s.flashSpoil a m.data.length).recAnswer 4 5 m.xid x.next
      else
        let k := x.next + m.data.length
        let s := (s.flashProgram a m.data).setBoot (fun y => { y with xfer := some { x with next := k } })
        let s := if k % 2 ^ 20 = 0 then s.putDesc { s.desc.2 with off := k } else s
        s.recAnswer 4 0 m.xid k
def execRecData (host : Option (BitVec 48)) (msg : List Byte) (err : Bool) (s : State) : Res :=
  .next (s.recIn host msg 3 (fun m s => s.recData m err))

/-- STATUS of a RESULT for a code of the bank check. -/
def recStatus (code : Nat) : Nat := [0, 1, 5, 3, 4, 1, 5].getD code 1

/-- END: the bank is checked and becomes TRIAL or BAD. -/
def State.recEnd (s : State) (m : RecMsg) (err : Bool) : State :=
  match s.boot.xfer with
  | none => s.recAnswer 6 6 m.xid 0
  | some x =>
    if m.xid ≠ x.id then s.recAnswer 6 6 m.xid 0
    else
      let code := s.bankCheck x.bank err
      let d := { s.desc.2 with xid := 0, off := 0 }
      let s := s.setBoot (fun y => { y with xfer := none })
      let s := s.putDesc (d.setBank x.bank (if code = 0 then descWord 2 0 (bankSeq (d.bank (1 - x.bank)) + 1) else descWord 3 0 0))
      let s := if code = 0 then s.setBoot (fun y => { y with okAt := some s.mono }) else s
      s.recAnswer 6 (recStatus code) m.xid x.next
def execRecEnd (host : Option (BitVec 48)) (msg : List Byte) (err : Bool) (s : State) : Res :=
  .next (s.recIn host msg 5 (fun m s => s.recEnd m err))

/-- REC_REBOOT. -/
def execRecReboot (host : Option (BitVec 48)) (msg : List Byte) (s : State) : Res :=
  .next (s.recIn host msg 7 (fun _ s => s.deviceReset))

/-- REC_AUTO_REBOOT, 10 s after RESULT OK. -/
def State.recAuto (s : State) : State :=
  match s.boot.okAt with
  | none => s
  | some t => if s.bootState = 0xE && s.past (t + 10 * uS) then s.deviceReset else s
def execRecAutoReboot (s : State) : Res := .next s.recAuto

/-- REC_BAD_MESSAGE. -/
def execRecBadMessage (host : Option (BitVec 48)) (msg : List Byte) (s : State) : Res :=
  .next (s.recIn host msg 0 (fun _ s => s))

end Sys2Proof.Machine
end

