-- ==== Sys2Proof/Machine/Dbg.lean ====
section
/-! DEFINITION. Commands of events, errors, the JTAG port and debug access (21_events_and_errors.md R431–R450). -/
namespace Sys2Proof.Machine

/-! ### Errors and events (R433–R441) -/

/-- UNCORR_ERROR in block instance b, with the syndrome of what failed. -/
def execUncorrError (b : Fin 58) (mem sub : BitVec 8) (nbits : BitVec 16) (addr : BitVec 64) (s : State) : Res :=
  .next (s.toSafe (blkBase b) ⟨mem.toNat, sub.toNat, nbits.toNat, addr.toNat⟩)

/-- Blocks whose state is triplicated (R441). -/
def triplicated (code : Nat) : Bool := code = 0x01 || code = 0x02 || code = 0x03 || code = 0x05

/-- A register word takes its reset value. -/
def State.wordReset (s : State) (a : Nat) (c : Card) : State :=
  if c.cnt then s.setCnt (a - a % 8) (if a % 8 = 0 then s.cnt a / 2 ^ 32 * 2 ^ 32 else s.cnt (a - a % 8) % 2 ^ 32)
  else s.wr a (rstAt a).toNat

/-- AON_CORR of a word whose three copies differ, raised and logged with UNCORR. -/
def State.aonLost (s : State) (a : Nat) (y : Synd) : State :=
  let n := s.log.length
  let t := (s.raiseAt genB Ev.aonCorr (blkSrc a) y).setFld (genB + 0x14) 29 29 1
  { t with log := t.log.take n ++ (t.log.drop n).map (fun e => if e.cause = Ev.aonCorr then { e with uncorr := true } else e) }

/-- AON_CORRECTION of a word: the majority stands, or all three copies differ. -/
def State.aonFix (s : State) (a : Nat) (majority : Bool) : State :=
  match cardAt a with
  | none => s
  | some c =>
    if !triplicated (codeOf a) then s
    else
      let y : Synd := { addr := a }
      if majority then s.raiseAt genB Ev.aonCorr (blkSrc a) y
      else
        let old := s.tq
        let s := s.wordReset a c
        let s := s.aonLost a y
        if codeOf a = 0x05 then (s.tqTransition 0 s.offsetEst).chainTqEvent old 1 (some 0) else s
def execAonCorrection (a : BitVec 26) (majority : Bool) (s : State) : Res := .next (s.aonFix a.toNat majority)

/-- ERR_STAT_CLEAR of block instance b. -/
def execErrStatClear (b : Fin 58) (s : State) : Res := .next (s.errClear (blkBase b))
/-- ERRLOG_POP. -/
def execErrlogPop (q : Req) (s : State) : Res := .next (answer q (evtB + 0x80) (s.logPop q))
/-- CAUSE_STAT_CLEAR of cause c; a cause that is not used counts a reject. -/
def execCauseStatClear (c : Fin 256) (s : State) : Res :=
  .next (if (sevOf c.val).isNone then s.reject evtB (0x1000 + 16 * c.val) else s.causeClear c.val)
/-- PEND_CLEAR: word w of EVT_MGC_PEND (0–7) or EVT_OWN_PEND (8–15), or MF_EVT_PEND of host port w − 16. -/
def execPendClear (w : Fin 20) (v : Word) (s : State) : Res :=
  .next (if w.val < 16 then s.pendClear (evtB + 0x100 + 4 * w.val) v.toNat
    else s.pwr (240 + w.val) 0xC0 (s.prd (240 + w.val) 0xC0 &&& (top32 - v.toNat)))

/-! ### The JTAG port (R444, R445) -/

/-- IDCODE (Table 21-8). -/
def idcode : Nat := pk [(4, 1), (16, 0x6160), (11, Config.jep106), (1, 1)]

/-- The instruction that the TAP carries out: one not in the table, and boundary scan on a running part, act as BYPASS. -/
def State.tapIr (s : State) (ir : Nat) : Nat :=
  if ir = 1 || ir = 2 || ir = 0x20 then ir
  else if (ir = 3 || ir = 4 || ir = 5) && s.pw.hold.por then ir
  else 0xFF

/-- The data register of the selected instruction is captured: the balls' levels under boundary scan are free values. -/
def State.capture_ (s : State) : State :=
  match s.dbg.ir with
  | 1 => s.emit (.tdo 1 idcode)
  | 2 => let r := s.draw; r.2.emit (.tdo 2 (Config.anyNat r.1))
  | 3 => let r := s.draw; r.2.emit (.tdo 3 (Config.anyNat r.1))
  | 0x20 => s.emit (.tdo 0x20 s.dbg.dr)
  | ir => s.emit (.tdo ir 0)

/-- TAP_RESET: IDCODE is selected. -/
def execTapReset (s : State) : Res := .next (s.setDbg (fun d => { d with ir := 1 })).capture_
/-- IR_LOAD. -/
def execIrLoad (ir : BitVec 8) (s : State) : Res := .next (s.setDbg (fun d => { d with ir := s.tapIr ir.toNat })).capture_

/-- An offset that the port reaches while the part is locked. -/
def dbgOpen (a : Nat) : Bool := decide (dbgB + 0x40 ≤ a) && decide (a ≤ dbgB + 0x120)

/-- The access of an Update-DR: whether it was refused, the data for the next Capture-DR, and its effects. -/
def State.tapAccess (s : State) (write : Bool) (a v : Nat) (x : WEnv) : Bool × Nat × State :=
  if a % 4 ≠ 0 then (true, if write then v else 0, s)
  else if !s.unlocked && !dbgOpen a then
    if write then (true, v, s.reject dbgB (a % 2 ^ 22)) else (true, 0, s)
  else if write then
    let r := s.wroteBad .jtag a v x
    (r.1, v, r.2)
  else
    let r := s.ownerRead .jtag a
    (false, r.1, r.2)

/-- DBG_ACCESS: the scan gives out what the last access left, then makes the access that it shifted in. -/
def State.tapScan (s : State) (dr : Nat) (x : WEnv) : State :=
  if s.dbg.ir ≠ 0x20 then s
  else
    let a := bits dr 57 32
    let r := s.capture_.tapAccess (bit dr 63) a (bits dr 31 0) x
    r.2.2.setDbg (fun d => { d with dr := b2n r.1 * 2 ^ 63 + a * 2 ^ 32 + r.2.1 })
def execDbgAccess (dr : BitVec 64) (x : WEnv) (s : State) : Res := .next (s.tapScan dr.toNat x)

/-! ### The unlock (R446) -/

/-- A write of DBG_CTRL by the JTAG port. -/
def State.jtagCtrl (s : State) (v : Nat) : State := if s.dbgMay .jtag 0x44 then s.dbgCtrl v else s.reject dbgB 0x44
/-- DBG_CHAL. -/
def execDbgChal (signer : BitVec 2) (s : State) : Res := .next (s.jtagCtrl (2 ^ 31 + signer.toNat))
/-- DBG_VERIFY. -/
def execDbgVerify (signer : BitVec 2) (s : State) : Res := .next (s.jtagCtrl (2 ^ 30 + signer.toNat))
/-- DBG_VERIFY_DONE. -/
def execDbgVerifyDone (s : State) : Res := .next s.verifyDone
/-- DBG_CHAL_EXPIRE. -/
def execDbgChalExpire (s : State) : Res := .next s.chalExpire

/-! ### Threads and memory (R448–R450) -/

/-- A write of DBG_THR_CTRL by the JTAG port that names a thread, with an action bit. -/
def State.jtagThr (s : State) (act : Nat) (t : Fin 1536) : State :=
  if s.dbgMay .jtag 0x200 then s.thrCtrl (act + t.val / 128 * 2 ^ 8 + t.val / 8 % 16 * 2 ^ 4 + t.val % 8) else s.reject dbgB 0x200
/-- THR_HALT. -/
def execThrHalt (t : Fin 1536) (s : State) : Res := .next (s.jtagThr (2 ^ 31) t)
/-- THR_RESUME. -/
def execThrResume (t : Fin 1536) (s : State) : Res := .next (s.jtagThr (2 ^ 30) t)
/-- THR_STEP. -/
def execThrStep (t : Fin 1536) (s : State) : Res := .next (s.jtagThr (2 ^ 29) t)

/-- BKPT_HIT: the thread that engine e of cluster c would issue from stands at a breakpoint. -/
def State.bkptHit (s : State) (c e : Nat) : State :=
  match s.issuer c e with
  | none => s
  | some t => if s.breaks t then s.bpHalt t (s.thr t).pc else s
def execBkptHit (c : Fin 12) (e : Fin 16) (s : State) : Res := .next (s.bkptHit c.val e.val)

/-- THR_DATA_READ by a requester. -/
def execThrDataRead (q : Req) (s : State) : Res := .next (answer q (dbgB + 0x210) (if q = .jtag then s.thrDataRead else (0, s)))
/-- THR_DATA_WRITE: DBG_THR_DATA_0 holds the low word. -/
def execThrDataWrite (hi : Word) (s : State) : Res :=
  .next (if s.dbgMay .jtag 0x214 then s.thrDataWrite hi.toNat else s.reject dbgB 0x214)
/-- DBG_MEM_READ by a requester. -/
def execDbgMemRead (q : Req) (s : State) : Res := .next (answer q (dbgB + 0x308) (if q = .jtag then s.dbgMemRead else (0, s)))
/-- DBG_MEM_WRITE: DBG_MEM_DATA_0 holds the low word. -/
def execDbgMemWrite (hi : Word) (s : State) : Res :=
  .next (if s.dbgMay .jtag 0x30C then s.dbgMemWrite hi.toNat else s.reject dbgB 0x30C)

end Sys2Proof.Machine
end

