-- ==== Sys2Proof/Machine/Pwr.lean ====
section
/-! DEFINITION. Commands of power, clocks, lifetime and the supply rails (20_power_clocks_lifetime.md R418–R429;
22_pins_electrical_package.md R457, R460). -/
namespace Sys2Proof.Machine

/-! ### Device states (R419, R421) -/

/-- TARGET_HOT: PWR_CTRL.TARGET is written by MGC firmware or by the owner. -/
def execTargetHot (mgc : Bool) (s : State) : Res := .next (s.targetWrite (semReq mgc) 0)
/-- TARGET_WARM. -/
def execTargetWarm (mgc : Bool) (s : State) : Res := .next (s.targetWrite (semReq mgc) 1)
/-- TARGET_COLD. -/
def execTargetCold (mgc : Bool) (s : State) : Res := .next (s.targetWrite (semReq mgc) 2)
/-- TARGET_STANDBY. -/
def execTargetStandby (mgc : Bool) (s : State) : Res := .next (s.targetWrite (semReq mgc) 3)

/-- STANDBY_REACHED: every unit COLD, every lane off, every channel in self-refresh; a wake source that came meanwhile acts now. -/
def State.standbyReached (s : State) : State :=
  if !s.standbyEntry then s
  else
    let s := ((s.setFld (pwrB + 0x44) 2 2 0).setFld (pwrB + 0x44) 1 0 3).raise pwrB Ev.pwrState Src.device
    let s := (units.foldl (fun s u => s.setUnit u 2) s).lanePower
    let s := (List.range 32).foldl (fun s c => s.sleepCh c) s
    if s.pw.wake then s.leaveStandby else s
def execStandbyReached (s : State) : Res := .next s.standbyReached

/-- STANDBY_WAKE: a latched wake source takes the device out of STANDBY. -/
def execStandbyWake (s : State) : Res := .next (if s.devState = 3 && s.pw.wake then s.leaveStandby else s)

/-! ### Units (R419, R420, Table 20-3) -/

/-- UNIT_GATE: a unit that has had no work for GATE_IDLE_NS, and that no calendar entry holds, is gated as the device state says. -/
def State.unitGate (s : State) (u : Nat) : State :=
  let d := s.devState
  let aim := if d = 2 && decide (u < 12) then 2 else 1
  let since := mget (fun _ => 0) s.pw.unitAt u
  if (d = 1 || d = 2) && !s.calHolds u && !s.unitWork u && (s.wakingAt u).isNone && decide (s.unitState u < aim)
      && s.past (since + s.fld (pwrB + 0x48) 15 0 * uNs) then s.setUnit u aim
  else s
def execUnitGate (u : Fin 16) (s : State) : Res := .next (s.unitGate u.val)

/-- UNIT_WAKE: work, an active calendar entry or the HOT device state wakes a gated unit. -/
def execUnitWake (u : Fin 16) (s : State) : Res :=
  .next (if s.devState ≠ 3 && (s.devState = 0 || s.calHolds u.val || s.unitWork u.val) then s.wakeUnit u.val else s)

/-- UNIT_WAKE_DONE: the unit is HOT once its wake time has passed; what waited in a cluster goes on. -/
def State.unitWakeDone (s : State) (u : Nat) : State :=
  match s.wakingAt u with
  | none => s
  | some t =>
    let time := if s.unitState u = 2 then 40 * uUs + 10 * uNs else 10 * uNs
    if s.past (t + time) then
      let s := s.setUnit u 0
      if u < 12 then (List.range 16).foldl (fun s e => s.kick (16 * u + e)) s else s
    else s
def execUnitWakeDone (u : Fin 16) (s : State) : Res := .next (s.unitWakeDone u.val)

/-! ### What holds the device in reset (R418, R425, R457, R460) -/

/-- A cause holds a device reset; a device already held is in it (R45). -/
def State.heldReset (s : State) (g : Hold → Hold) : State :=
  let was := s.pw.hold.any
  let s := s.setPw (fun p => { p with hold := g p.hold })
  if was then s else s.restart

/-- SYSREF_LOSS. -/
def State.sysrefLoss (s : State) : State :=
  if s.pw.hold.sysref then s
  else
    let s := ((s.setFld (pwrB + 0x54) 31 31 0).setFld (pwrB + 0x54) 30 30 1).raise pwrB Ev.sysrefLost Src.device
    let s := match s.tracked with
      | none => s
      | some n => if (s.trk n).lost then s else s.srcLost n
    (s.heldReset (fun h => { h with sysref := true })).showEst
def execSysrefLoss (s : State) : Res := .next s.sysrefLoss

/-- SYSREF_RETURN: SYS_REFCLK has been present for 10 ms. -/
def State.sysrefReturn (s : State) : State :=
  if s.pw.hold.sysref then
    (((s.setFld (pwrB + 0x54) 31 31 1).setFld (pwrB + 0x54) 30 30 0).setPw (fun p => { p with hold := { p.hold with sysref := false } })).showEst
  else s
def execSysrefReturn (s : State) : Res := .next s.sysrefReturn

/-- TJ_HIGH_CROSS: a sensor reads a temperature. -/
def execTjHighCross (n : Fin 8) (v : BitVec 12) (s : State) : Res := .next (s.tempSet n.val v.toNat)

/-- THERM_TRIP: a sensor reads 125 °C or more. -/
def State.thermTrip (s : State) (n v : Nat) : State :=
  let s := s.tempSet n v
  if signed 12 v < 1000 || s.pw.hold.therm then s
  else
    let s := (s.raise pwrB Ev.thermTrip Src.device).setPw (fun p => { p with tripAt := s.mono })
    (s.heldReset (fun h => { h with therm := true })).emit (.thermtrip true)
def execThermTrip (n : Fin 8) (v : BitVec 12) (s : State) : Res := .next (s.thermTrip n.val v.toNat)

/-- THERM_CLEAR: the eight sensors have read 100 °C or less for 1 s. -/
def State.thermClear (s : State) (v : Vector (BitVec 12) 8) : State :=
  let s := v.toList.zipIdx.foldl (fun s x => s.tempSet x.2 x.1.toNat) s
  if s.pw.hold.therm && v.toList.all (fun x => decide (signed 12 x.toNat ≤ 800)) && s.past (s.pw.tripAt + uS) then
    (s.setPw (fun p => { p with hold := { p.hold with therm := false } })).emit (.thermtrip false)
  else s
def execThermClear (v : Vector (BitVec 12) 8) (s : State) : Res := .next (s.thermClear v)

/-- RAIL_DROP: a rail that is not always-on has been out of range for 2 µs. -/
def execRailDrop (s : State) : Res := .next (s.heldReset (fun h => { h with rail := true }))
/-- RAIL_RECOVER: it has been back in range for 1 ms. -/
def execRailRecover (s : State) : Res := .next (s.setPw (fun p => { p with hold := { p.hold with rail := false } }))
/-- AON_RAIL_DROP: a power-on reset, held until the rail is in range. -/
def execAonRailDrop (straps : Straps) (s : State) : Res :=
  .next ((s.powerOn straps).setPw (fun p => { p with hold := { p.hold with rail := true } }))
/-- TEST_EN_HIGH: a power-on reset, held until TEST_EN falls and power-on follows. -/
def execTestEnHigh (straps : Straps) (s : State) : Res :=
  .next ((s.powerOn straps).setPw (fun p => { p with hold := { p.hold with por := true } }))

/-! ### Calendar, sentinels, lanes, hours (R423–R429) -/

/-- CAL_EVALUATE. -/
def execCalEvaluate (s : State) : Res := .next s.calEvaluate

/-- SENTINEL_MEASURE: at boot, then every PERIOD_H hours; the drifts in the order of the table of R426. -/
def State.sentinelsDue (s : State) (l : List (BitVec 24)) : State :=
  let due := match s.pw.sentAt with
    | none => true
    | some t => s.past (t + s.fld (pwrB + 0x80) 30 16 * 3600 * uS)
  if due then s.sentinels (l.map (·.toNat)) else s
def execSentinelMeasure (l : List (BitVec 24)) (s : State) : Res := .next (s.sentinelsDue l)

/-- LANE_ADAPT: lane l of quad q adapts and finds its eye height. -/
def State.laneAdapt (s : State) (q l eye : Nat) : State :=
  let s := s.setFld (laneStat q l) 31 16 eye
  let k := 4 * q + l
  if eye < s.fld (pwrB + 0x1C4) 15 0 && !s.pw.eye.contains k then
    let p := ((List.range 4).find? (fun i => (s.portLanes (4 * q + i)).contains l)).getD l
    (s.setPw (fun x => { x with eye := k :: x.eye })).raise pwrB Ev.serdesMarginLow (Src.port (4 * q + p))
  else s
def execLaneAdapt (q l : Fin 4) (eye : BitVec 16) (s : State) : Res := .next (s.laneAdapt q.val l.val eye.toNat)

/-- HOUR_TICK: a whole powered hour ends. -/
def State.hourTick (s : State) : State :=
  let t := s.pw.hourAt + 3600 * uS
  if !s.past t then s
  else
    let s := s.bump (pwrB + 0x200) 1
    let s := if s.pw.hotHour then s.bump (pwrB + 0x208) 1 else s
    let lim : Int := if Config.gradeX then 95 * 8 else 85 * 8
    s.setPw (fun p => { p with hourAt := t, hotHour := sensors.any (fun n => decide (lim < s.tj n)) })
def execHourTick (s : State) : Res := .next s.hourTick

end Sys2Proof.Machine
end

