-- ==== Sys2Proof/Machine/Regs.lean ====
section
/-! DEFINITION. Commands on registers, block headers and resets, and host accesses to BARs (02_registers_and_views.md R30–R48, R472;
17_host_interface.md R351, R354). -/
namespace Sys2Proof.Machine

/-! ### Registers (R30, R34, R42, R472) -/

/-- A requester has the owner view: the owner management function only while its host port is there (R29). -/
def State.holdsView (s : State) (q : Req) : Bool := q ≠ .owner || s.hpState s.ownerHp = 2
/-- A read: the whole word is read, the bytes asked for are answered (R30). -/
def State.readFor (s : State) (q : Req) (a be : Nat) : State :=
  if s.holdsView q then
    let r := s.regRead q a
    answer q a (byteMask r.1 be, r.2)
  else s

/-- REGISTER_WRITE of a requester: a word of the owner view or of its function page, with byte enables. -/
def execRegisterWrite (q : Req) (a : BitVec 26) (be : BitVec 4) (v : Word) (x : WEnv) (s : State) : Res :=
  .next (if s.holdsView q then s.regWrite q a.toNat be.toNat v.toNat x else s)
/-- COUNTER_LOW_READ. -/
def execCounterLowRead (q : Req) (a : RegRef) (s : State) : Res := .next (s.readFor q a.a.toNat a.be.toNat)
/-- READ_CLEAR. -/
def execReadClear (q : Req) (a : RegRef) (s : State) : Res := .next (s.readFor q a.a.toNat a.be.toNat)

/-! ### Block headers (R37–R41, R44) -/

/-- COMMIT of block instance b. -/
def execCommit (b : Fin 58) (s : State) : Res := .next (s.commit (blkBase b))
/-- COMMIT_APPLY: the unit boundary that a commit waits for. -/
def execCommitApply (b : Fin 58) (s : State) : Res := .next (s.commitApply (blkBase b))
/-- QUIESCE. -/
def execQuiesce (b : Fin 58) (s : State) : Res := .next (s.quiesce (blkBase b))
/-- QUIESCE_DONE. -/
def execQuiesceDone (b : Fin 58) (s : State) : Res := .next (s.quiesced (blkBase b))
/-- QUIESCE_TIMEOUT. -/
def execQuiesceTimeout (b : Fin 58) (s : State) : Res := .next (s.quiesceLate (blkBase b))
/-- RESUME. -/
def execResume (b : Fin 58) (s : State) : Res := .next (s.resume (blkBase b))
/-- BLOCK_RESET. -/
def execBlockReset (b : Fin 58) (s : State) : Res := .next (s.blockReset (blkBase b))

/-! ### Resets (R44, R45) -/

/-- POWER_ON. -/
def execPowerOn (straps : Straps) (s : State) : Res := .next (s.powerOn straps)
/-- DEVICE_RESET; a device that is held in reset ignores it. -/
def execDeviceReset (s : State) : Res := .next s.deviceReset

/-! ### BARs (R351, R354, R358) -/

/-- The two words of an access in order, low first; `go` makes one 32-bit access. -/
def twice (wide : Bool) (go : Nat → State → Nat × State) (s : State) : List Nat × State :=
  let r := go 0 s
  if wide then
    let r' := go 1 r.2
    ([r.1, r'.1], r'.2)
  else ([r.1], r.2)

/-- Where a BAR pair of a function leads: the owner view, the function's page, or nowhere (Table 17-4). -/
def State.barReq (s : State) (h : Nat) (f : Fin 260) (second : Bool) (off : Nat) : Option Req :=
  if f.val = 256 + s.ownerHp then
    if !second then some .owner else if h = s.ownerHp && off < 0x10000 then some (.page f) else none
  else if !second && off < 0x10000 then some (.page f) else none

/-- BAR_ACCESS: a memory request of one aligned word or two with its byte enables, a write's data and poison. Window accesses are
WINDOW_TLP's. -/
def State.barAccess (s : State) (f : Fin 260) (second : Bool) (off : Nat) (wide : Bool) (be : Nat) (wr : Option Nat) (ep : Bool)
    (x : WEnv) : State :=
  match s.cfgPort f.val with
  | none => s
  | some h =>
    if f.val < 256 && second then s
    else
      let aim := if !s.hpReady h || (decide (f.val < 256) && !s.vfOn h f.val) then none else s.barReq h f second off
      match aim, wr with
      | none, none => (s.emit (.aer f.val 4)).emit (.cpl f.val 1 [] false)
      | none, some _ => s.emit (.aer f.val 4)
      | some q, none =>
        let r := twice wide (fun k s =>
          let r := s.regRead q (off + 4 * k)
          (byteMask r.1 (be / 16 ^ k % 16), r.2)) s
        r.2.emit (.cpl f.val 0 (r.1.flatMap (bytesLE 4)) false)
      | some q, some v =>
        if ep then s.poisoned h f.val
        else (twice wide (fun k s => (0, s.regWrite q (off + 4 * k) (be / 16 ^ k % 16) (v / 2 ^ (32 * k) % 2 ^ 32) x)) s).2
def execBarAccess (f : Fin 260) (second : Bool) (off : BitVec 24) (wide : Bool) (wr : BarReq) (ep : Bool)
    (x : WEnv) (s : State) : Res :=
  .next (s.barAccess f second (4 * off.toNat) wide wr.be.toNat (wr.data.map (·.toNat)) ep x)

end Sys2Proof.Machine
end

