-- ==== Sys2Proof/Machine/Dispatch.lean ====
section
/-! DEFINITION. One arm per command: a direct call of its meaning, or a rejection by name. -/
namespace Sys2Proof.Machine

def exec (i : Instr) (s : State) : Host.Outcome State Fault Refusal :=
  match i with
  | .registerWrite q a be v x => Sys2Proof.Machine.execRegisterWrite q a be v x s
  | .counterLowRead q a => Sys2Proof.Machine.execCounterLowRead q a s
  | .readClear q a => Sys2Proof.Machine.execReadClear q a s
  | .commit b => Sys2Proof.Machine.execCommit b s
  | .commitApply b => Sys2Proof.Machine.execCommitApply b s
  | .quiesce b => Sys2Proof.Machine.execQuiesce b s
  | .quiesceDone b => Sys2Proof.Machine.execQuiesceDone b s
  | .quiesceTimeout b => Sys2Proof.Machine.execQuiesceTimeout b s
  | .resume b => Sys2Proof.Machine.execResume b s
  | .blockReset b => Sys2Proof.Machine.execBlockReset b s
  | .powerOn straps => Sys2Proof.Machine.execPowerOn straps s
  | .deviceReset => Sys2Proof.Machine.execDeviceReset s
  | .timeSet both atPps clrFail => Sys2Proof.Machine.execTimeSet both atPps clrFail s
  | .timeStep both atPps clrFail => Sys2Proof.Machine.execTimeStep both atPps clrFail s
  | .setStepApply => Sys2Proof.Machine.execSetStepApply s
  | .adjPpsTimeout => Sys2Proof.Machine.execAdjPpsTimeout s
  | .secondBoundaryEval => Sys2Proof.Machine.execSecondBoundaryEval s
  | .srcChange => Sys2Proof.Machine.execSrcChange s
  | .ppsInEdge n falling => Sys2Proof.Machine.execPpsInEdge n falling s
  | .ppsInputLost n => Sys2Proof.Machine.execPpsInputLost n s
  | .tenMhzLost => Sys2Proof.Machine.execTenMhzLost s
  | .servoWrite v => Sys2Proof.Machine.execServoWrite v s
  | .servoTimeout => Sys2Proof.Machine.execServoTimeout s
  | .leapApply => Sys2Proof.Machine.execLeapApply s
  | .ppsOutRise n => Sys2Proof.Machine.execPpsOutRise n s
  | .ppsOutFall n => Sys2Proof.Machine.execPpsOutFall n s
  | .timBlockReset => Sys2Proof.Machine.execTimBlockReset s
  | .timeNowRead q => Sys2Proof.Machine.execTimeNowRead q s
  | .tsuCalStart p => Sys2Proof.Machine.execTsuCalStart p s
  | .tsuCalDone p good deskew => Sys2Proof.Machine.execTsuCalDone p good deskew s
  | .txtsPop q p => Sys2Proof.Machine.execTxtsPop q p s
  | .ptmDialogueStart h => Sys2Proof.Machine.execPtmDialogueStart h s
  | .ptmResponse h hostNs linkPs => Sys2Proof.Machine.execPtmResponse h hostNs linkPs s
  | .ptmTimeout h => Sys2Proof.Machine.execPtmTimeout h s
  | .ptmStatRead q h => Sys2Proof.Machine.execPtmStatRead q h s
  | .linkNsExpire => Sys2Proof.Machine.execLinkNsExpire s
  | .cpIntervalExpire => Sys2Proof.Machine.execCpIntervalExpire s
  | .cpMaxExpire => Sys2Proof.Machine.execCpMaxExpire s
  | .cpReq => Sys2Proof.Machine.execCpReq s
  | .cpDeferredTake => Sys2Proof.Machine.execCpDeferredTake s
  | .tqStoreFlush => Sys2Proof.Machine.execTqStoreFlush s
  | .cpSign => Sys2Proof.Machine.execCpSign s
  | .cpSignDone => Sys2Proof.Machine.execCpSignDone s
  | .ringReadback => Sys2Proof.Machine.execRingReadback s
  | .drainWrite => Sys2Proof.Machine.execDrainWrite s
  | .drainConsWrite v => Sys2Proof.Machine.execDrainConsWrite v s
  | .flitSend => Sys2Proof.Machine.execFlitSend s
  | .idleFlitSend => Sys2Proof.Machine.execIdleFlitSend s
  | .retCredit v => Sys2Proof.Machine.execRetCredit v s
  | .retAck v => Sys2Proof.Machine.execRetAck v s
  | .retNak v => Sys2Proof.Machine.execRetNak v s
  | .retTrain stepNo => Sys2Proof.Machine.execRetTrain stepNo s
  | .retRetrain => Sys2Proof.Machine.execRetRetrain s
  | .retHealth status v => Sys2Proof.Machine.execRetHealth status v s
  | .retIdle => Sys2Proof.Machine.execRetIdle s
  | .retBadWord badCrc => Sys2Proof.Machine.execRetBadWord badCrc s
  | .strAckTimeout => Sys2Proof.Machine.execStrAckTimeout s
  | .strTrainTimeout => Sys2Proof.Machine.execStrTrainTimeout s
  | .strTrainRestart => Sys2Proof.Machine.execStrTrainRestart s
  | .strRetrainWrite => Sys2Proof.Machine.execStrRetrainWrite s
  | .strRefclkLoss => Sys2Proof.Machine.execStrRefclkLoss s
  | .strRefclkReturn => Sys2Proof.Machine.execStrRefclkReturn s
  | .retLockLoss => Sys2Proof.Machine.execRetLockLoss s
  | .portEnWrite p v cut => Sys2Proof.Machine.execPortEnWrite p v cut s
  | .portRestart p cut => Sys2Proof.Machine.execPortRestart p cut s
  | .signalLock p eye => Sys2Proof.Machine.execSignalLock p eye s
  | .anLtDone n => Sys2Proof.Machine.execAnLtDone n s
  | .linkTrainTimeout p => Sys2Proof.Machine.execLinkTrainTimeout p s
  | .alignQualified p => Sys2Proof.Machine.execAlignQualified p s
  | .alignTimeout p => Sys2Proof.Machine.execAlignTimeout p s
  | .faultDetect p remote cut => Sys2Proof.Machine.execFaultDetect p remote cut s
  | .faultCleared p => Sys2Proof.Machine.execFaultCleared p s
  | .signalLoss p lane sig cut => Sys2Proof.Machine.execSignalLoss p lane sig cut s
  | .rxFrame p bytes corr unc inv => Sys2Proof.Machine.execRxFrame p bytes corr unc inv s
  | .pauseExpire p k => Sys2Proof.Machine.execPauseExpire p k s
  | .pauseWdFire p k => Sys2Proof.Machine.execPauseWdFire p k s
  | .pauseIgnoreEnd p k => Sys2Proof.Machine.execPauseIgnoreEnd p k s
  | .xoffRepeat p k => Sys2Proof.Machine.execXoffRepeat p k s
  | .txStart p => Sys2Proof.Machine.execTxStart p s
  | .txEnd p => Sys2Proof.Machine.execTxEnd p s
  | .saWrite p v => Sys2Proof.Machine.execSaWrite p v s
  | .saRead p v => Sys2Proof.Machine.execSaRead p v s
  | .modXferStart q v => Sys2Proof.Machine.execModXferStart q v s
  | .modXferEnd q result data => Sys2Proof.Machine.execModXferEnd q result data s
  | .modReset q => Sys2Proof.Machine.execModReset q s
  | .modInsert q => Sys2Proof.Machine.execModInsert q s
  | .modRemove q => Sys2Proof.Machine.execModRemove q s
  | .modInt q low => Sys2Proof.Machine.execModInt q low s
  | .ingressPass n => Sys2Proof.Machine.execIngressPass n s
  | .recircPass n => Sys2Proof.Machine.execRecircPass n s
  | .injectSlot n => Sys2Proof.Machine.execInjectSlot n s
  | .prsScrubRead n upset => Sys2Proof.Machine.execPrsScrubRead n upset s
  | .matScrubRead n upset => Sys2Proof.Machine.execMatScrubRead n upset s
  | .fwdScrubRead one two => Sys2Proof.Machine.execFwdScrubRead one two s
  | .swapIn n both => Sys2Proof.Machine.execSwapIn n both s
  | .swapEg n => Sys2Proof.Machine.execSwapEg n s
  | .swapRetire n eg => Sys2Proof.Machine.execSwapRetire n eg s
  | .egressPass n => Sys2Proof.Machine.execEgressPass n s
  | .fwdInsert c q v => Sys2Proof.Machine.execFwdInsert c q v s
  | .fwdUpdate c q v => Sys2Proof.Machine.execFwdUpdate c q v s
  | .fwdDelete c q v => Sys2Proof.Machine.execFwdDelete c q v s
  | .fwdRead c q v => Sys2Proof.Machine.execFwdRead c q v s
  | .fwdWriteSlot c q v => Sys2Proof.Machine.execFwdWriteSlot c q v s
  | .fwdReadSlot c q v => Sys2Proof.Machine.execFwdReadSlot c q v s
  | .fwdClearSlot c q v => Sys2Proof.Machine.execFwdClearSlot c q v s
  | .fwdFlush c q v => Sys2Proof.Machine.execFwdFlush c q v s
  | .fwdClear c q v => Sys2Proof.Machine.execFwdClear c q v s
  | .fwdCmdDone c => Sys2Proof.Machine.execFwdCmdDone c s
  | .learnedInsert p => Sys2Proof.Machine.execLearnedInsert p s
  | .ageSweep => Sys2Proof.Machine.execAgeSweep s
  | .fwdNotifyPop q => Sys2Proof.Machine.execFwdNotifyPop q s
  | .seqAdmit => Sys2Proof.Machine.execSeqAdmit s
  | .seqEmit => Sys2Proof.Machine.execSeqEmit s
  | .prfFetch p => Sys2Proof.Machine.execPrfFetch p s
  | .prfRelease p => Sys2Proof.Machine.execPrfRelease p s
  | .prfGroupTimeout => Sys2Proof.Machine.execPrfGroupTimeout s
  | .prfCalStart p => Sys2Proof.Machine.execPrfCalStart p s
  | .prfCalDone p => Sys2Proof.Machine.execPrfCalDone p s
  | .schDequeue p => Sys2Proof.Machine.execSchDequeue p s
  | .deepRefillDone p q bad => Sys2Proof.Machine.execDeepRefillDone p q bad s
  | .orbGateEdge p => Sys2Proof.Machine.execOrbGateEdge p s
  | .orbBankTakeover p => Sys2Proof.Machine.execOrbBankTakeover p s
  | .orbSwitchWrite p fit => Sys2Proof.Machine.execOrbSwitchWrite p fit s
  | .orbEnWrite p en fit => Sys2Proof.Machine.execOrbEnWrite p en fit s
  | .fitDiscard p q => Sys2Proof.Machine.execFitDiscard p q s
  | .polWrite k => Sys2Proof.Machine.execPolWrite k s
  | .polRead k => Sys2Proof.Machine.execPolRead k s
  | .quantumExpire c e => Sys2Proof.Machine.execQuantumExpire c e s
  | .stallComplete t e => Sys2Proof.Machine.execStallComplete t e s
  | .eventWake t => Sys2Proof.Machine.execEventWake t s
  | .timerFire t => Sys2Proof.Machine.execTimerFire t s
  | .engSignalWrite c v => Sys2Proof.Machine.execEngSignalWrite c v s
  | .dlRescue c => Sys2Proof.Machine.execDlRescue c s
  | .deadlockDetect d => Sys2Proof.Machine.execDeadlockDetect d s
  | .chnHoldDetect n => Sys2Proof.Machine.execChnHoldDetect n s
  | .chnVoidWrite v => Sys2Proof.Machine.execChnVoidWrite v s
  | .chnCfgReset n => Sys2Proof.Machine.execChnCfgReset n s
  | .engLoadStart c => Sys2Proof.Machine.execEngLoadStart c s
  | .engLoadEnd c e => Sys2Proof.Machine.execEngLoadEnd c e s
  | .clusterSafe c => Sys2Proof.Machine.execClusterSafe c s
  | .illegalInstruction c e => Sys2Proof.Machine.execIllegalInstruction c e s
  | .iAdd c e => Sys2Proof.Machine.execIAdd c e s
  | .iSub c e => Sys2Proof.Machine.execISub c e s
  | .iAnd c e => Sys2Proof.Machine.execIAnd c e s
  | .iOr c e => Sys2Proof.Machine.execIOr c e s
  | .iXor c e => Sys2Proof.Machine.execIXor c e s
  | .iAndn c e => Sys2Proof.Machine.execIAndn c e s
  | .iSll c e => Sys2Proof.Machine.execISll c e s
  | .iSrl c e => Sys2Proof.Machine.execISrl c e s
  | .iSra c e => Sys2Proof.Machine.execISra c e s
  | .iRor c e => Sys2Proof.Machine.execIRor c e s
  | .iSlt c e => Sys2Proof.Machine.execISlt c e s
  | .iSltu c e => Sys2Proof.Machine.execISltu c e s
  | .iMin c e => Sys2Proof.Machine.execIMin c e s
  | .iMax c e => Sys2Proof.Machine.execIMax c e s
  | .iMinu c e => Sys2Proof.Machine.execIMinu c e s
  | .iMaxu c e => Sys2Proof.Machine.execIMaxu c e s
  | .iMul c e => Sys2Proof.Machine.execIMul c e s
  | .iMulh c e => Sys2Proof.Machine.execIMulh c e s
  | .iMulhu c e => Sys2Proof.Machine.execIMulhu c e s
  | .iClz c e => Sys2Proof.Machine.execIClz c e s
  | .iCtz c e => Sys2Proof.Machine.execICtz c e s
  | .iPopc c e => Sys2Proof.Machine.execIPopc c e s
  | .iBswap c e => Sys2Proof.Machine.execIBswap c e s
  | .iBswap32 c e => Sys2Proof.Machine.execIBswap32 c e s
  | .iBswap16 c e => Sys2Proof.Machine.execIBswap16 c e s
  | .iAddi c e => Sys2Proof.Machine.execIAddi c e s
  | .iAndi c e => Sys2Proof.Machine.execIAndi c e s
  | .iOri c e => Sys2Proof.Machine.execIOri c e s
  | .iXori c e => Sys2Proof.Machine.execIXori c e s
  | .iSlti c e => Sys2Proof.Machine.execISlti c e s
  | .iSltiu c e => Sys2Proof.Machine.execISltiu c e s
  | .iShi c e => Sys2Proof.Machine.execIShi c e s
  | .iInsh c e => Sys2Proof.Machine.execIInsh c e s
  | .iBfx c e => Sys2Proof.Machine.execIBfx c e s
  | .iBfi c e => Sys2Proof.Machine.execIBfi c e s
  | .iLdb c e => Sys2Proof.Machine.execILdb c e s
  | .iLdh c e => Sys2Proof.Machine.execILdh c e s
  | .iLdw c e => Sys2Proof.Machine.execILdw c e s
  | .iLdd c e => Sys2Proof.Machine.execILdd c e s
  | .iLdbs c e => Sys2Proof.Machine.execILdbs c e s
  | .iLdhs c e => Sys2Proof.Machine.execILdhs c e s
  | .iLdws c e => Sys2Proof.Machine.execILdws c e s
  | .iStb c e => Sys2Proof.Machine.execIStb c e s
  | .iSth c e => Sys2Proof.Machine.execISth c e s
  | .iStw c e => Sys2Proof.Machine.execIStw c e s
  | .iStd c e => Sys2Proof.Machine.execIStd c e s
  | .iBeq c e => Sys2Proof.Machine.execIBeq c e s
  | .iBne c e => Sys2Proof.Machine.execIBne c e s
  | .iBlt c e => Sys2Proof.Machine.execIBlt c e s
  | .iBge c e => Sys2Proof.Machine.execIBge c e s
  | .iBltu c e => Sys2Proof.Machine.execIBltu c e s
  | .iBgeu c e => Sys2Proof.Machine.execIBgeu c e s
  | .iJal c e => Sys2Proof.Machine.execIJal c e s
  | .iJalr c e => Sys2Proof.Machine.execIJalr c e s
  | .iAmoSwap c e => Sys2Proof.Machine.execIAmoSwap c e s
  | .iAmoAdd c e => Sys2Proof.Machine.execIAmoAdd c e s
  | .iAmoAnd c e => Sys2Proof.Machine.execIAmoAnd c e s
  | .iAmoOr c e => Sys2Proof.Machine.execIAmoOr c e s
  | .iAmoCas c e => Sys2Proof.Machine.execIAmoCas c e s
  | .iAmoMax c e => Sys2Proof.Machine.execIAmoMax c e s
  | .iAmoMin c e => Sys2Proof.Machine.execIAmoMin c e s
  | .iMrd c e => Sys2Proof.Machine.execIMrd c e s
  | .iMwr c e => Sys2Proof.Machine.execIMwr c e s
  | .iDlk c e => Sys2Proof.Machine.execIDlk c e s
  | .iRcv c e => Sys2Proof.Machine.execIRcv c e s
  | .iPbr c e => Sys2Proof.Machine.execIPbr c e s
  | .iPbw c e => Sys2Proof.Machine.execIPbw c e s
  | .iFrmAlloc c e => Sys2Proof.Machine.execIFrmAlloc c e s
  | .iFrmFree c e => Sys2Proof.Machine.execIFrmFree c e s
  | .iFrmSetlen c e => Sys2Proof.Machine.execIFrmSetlen c e s
  | .iFrmCopy c e => Sys2Proof.Machine.execIFrmCopy c e s
  | .iEmit c e => Sys2Proof.Machine.execIEmit c e s
  | .iChnRes c e => Sys2Proof.Machine.execIChnRes c e s
  | .iChnWr c e => Sys2Proof.Machine.execIChnWr c e s
  | .iChnCmt c e => Sys2Proof.Machine.execIChnCmt c e s
  | .iChnRd c e => Sys2Proof.Machine.execIChnRd c e s
  | .iEvtWait c e => Sys2Proof.Machine.execIEvtWait c e s
  | .iEvtSignal c e => Sys2Proof.Machine.execIEvtSignal c e s
  | .iEvtPark c e => Sys2Proof.Machine.execIEvtPark c e s
  | .iEvtTmr c e => Sys2Proof.Machine.execIEvtTmr c e s
  | .iEvtTmrx c e => Sys2Proof.Machine.execIEvtTmrx c e s
  | .iCsub c e => Sys2Proof.Machine.execICsub c e s
  | .iCrb c e => Sys2Proof.Machine.execICrb c e s
  | .iTsr c e => Sys2Proof.Machine.execITsr c e s
  | .iSysNop c e => Sys2Proof.Machine.execISysNop c e s
  | .iSysRdsts c e => Sys2Proof.Machine.execISysRdsts c e s
  | .iSysBkpt c e => Sys2Proof.Machine.execISysBkpt c e s
  | .iSysTrap c e => Sys2Proof.Machine.execISysTrap c e s
  | .slowPathHandle c q => Sys2Proof.Machine.execSlowPathHandle c q s
  | .reasmTimeout => Sys2Proof.Machine.execReasmTimeout s
  | .tcpSegmentRx c q e => Sys2Proof.Machine.execTcpSegmentRx c q e s
  | .tcpRetransmitTimeout id => Sys2Proof.Machine.execTcpRetransmitTimeout id s
  | .tlsRecordRx id e => Sys2Proof.Machine.execTlsRecordRx id e s
  | .espPacketRx c q e => Sys2Proof.Machine.execEspPacketRx c q e s
  | .nvmePduRx id host e => Sys2Proof.Machine.execNvmePduRx id host e s
  | .contextFree id => Sys2Proof.Machine.execContextFree id s
  | .crumbDrain c => Sys2Proof.Machine.execCrumbDrain c s
  | .crumbGap c => Sys2Proof.Machine.execCrumbGap c s
  | .ckptTimer c => Sys2Proof.Machine.execCkptTimer c s
  | .ckptReq c => Sys2Proof.Machine.execCkptReq c s
  | .ckptDone c => Sys2Proof.Machine.execCkptDone c s
  | .rplFreeze c => Sys2Proof.Machine.execRplFreeze c s
  | .rplUnfreeze c => Sys2Proof.Machine.execRplUnfreeze c s
  | .rplStart v host => Sys2Proof.Machine.execRplStart v host s
  | .replayConsume host => Sys2Proof.Machine.execReplayConsume host s
  | .replayEnd host => Sys2Proof.Machine.execReplayEnd host s
  | .rplAbort => Sys2Proof.Machine.execRplAbort s
  | .replayStuck host => Sys2Proof.Machine.execReplayStuck host s
  | .cipCoreStart k j => Sys2Proof.Machine.execCipCoreStart k j s
  | .urgentPreempt => Sys2Proof.Machine.execUrgentPreempt s
  | .cipMsgDone k mismatch n e => Sys2Proof.Machine.execCipMsgDone k mismatch n e s
  | .coreTest k => Sys2Proof.Machine.execCoreTest k s
  | .coreTestDone k pass => Sys2Proof.Machine.execCoreTestDone k pass s
  | .keyOpen q k v => Sys2Proof.Machine.execKeyOpen q k v s
  | .keyValidate q k v => Sys2Proof.Machine.execKeyValidate q k v s
  | .keyMatWrite k w v => Sys2Proof.Machine.execKeyMatWrite k w v s
  | .keyZero => Sys2Proof.Machine.execKeyZero s
  | .keyZeroizeDone => Sys2Proof.Machine.execKeyZeroizeDone s
  | .kwWrap w k => Sys2Proof.Machine.execKwWrap w k s
  | .kwUnwrap w k => Sys2Proof.Machine.execKwUnwrap w k s
  | .kwDone => Sys2Proof.Machine.execKwDone s
  | .memRequest q addr n write data => Sys2Proof.Machine.execMemRequest q addr n write data s
  | .memReqComplete c n e => Sys2Proof.Machine.execMemReqComplete c n e s
  | .panicLong p => Sys2Proof.Machine.execPanicLong p s
  | .refiTick c => Sys2Proof.Machine.execRefiTick c s
  | .refreshIssue c b => Sys2Proof.Machine.execRefreshIssue c b s
  | .selfRefreshEnter c => Sys2Proof.Machine.execSelfRefreshEnter c s
  | .selfRefreshExit c => Sys2Proof.Machine.execSelfRefreshExit c s
  | .tempReport c hot => Sys2Proof.Machine.execTempReport c hot s
  | .retrainSlice c rd wr => Sys2Proof.Machine.execRetrainSlice c rd wr s
  | .retrainDeferExpire c rd wr => Sys2Proof.Machine.execRetrainDeferExpire c rd wr s
  | .edcMismatch c n rd wr => Sys2Proof.Machine.execEdcMismatch c n rd wr s
  | .memChQuiesce c => Sys2Proof.Machine.execMemChQuiesce c s
  | .memChQuiesced c => Sys2Proof.Machine.execMemChQuiesced c s
  | .memChQuiesceTimeout c => Sys2Proof.Machine.execMemChQuiesceTimeout c s
  | .memChTrain c => Sys2Proof.Machine.execMemChTrain c s
  | .memChTrainEnd c pass rd wr => Sys2Proof.Machine.execMemChTrainEnd c pass rd wr s
  | .memChResume c => Sys2Proof.Machine.execMemChResume c s
  | .memChReset c => Sys2Proof.Machine.execMemChReset c s
  | .memChHoldExpire c => Sys2Proof.Machine.execMemChHoldExpire c s
  | .mciInitStart => Sys2Proof.Machine.execMciInitStart s
  | .mciInitEnd => Sys2Proof.Machine.execMciInitEnd s
  | .perstAssert h => Sys2Proof.Machine.execPerstAssert h s
  | .perstDeassert h => Sys2Proof.Machine.execPerstDeassert h s
  | .dlUp h rate w flit => Sys2Proof.Machine.execDlUp h rate w flit s
  | .hifTrainTimeout h => Sys2Proof.Machine.execHifTrainTimeout h s
  | .hifLinkLoss h => Sys2Proof.Machine.execHifLinkLoss h s
  | .hpReady h => Sys2Proof.Machine.execHpReady h s
  | .hpDown h => Sys2Proof.Machine.execHpDown h s
  | .configRequest f op => Sys2Proof.Machine.execConfigRequest f op s
  | .barAccess f second off wide wr ep x => Sys2Proof.Machine.execBarAccess f second off wide wr ep x s
  | .windowTlp f off wr len ep e bad done => Sys2Proof.Machine.execWindowTlp f off wr len ep e bad done s
  | .dmaReadRequest h tag => Sys2Proof.Machine.execDmaReadRequest h tag s
  | .cplArrive h tag st ep lower bc data bad => Sys2Proof.Machine.execCplArrive h tag st ep lower bc data bad s
  | .cplTimeout h tag => Sys2Proof.Machine.execCplTimeout h tag s
  | .tagQuarantineEnd h tag => Sys2Proof.Machine.execTagQuarantineEnd h tag s
  | .bmeClear f => Sys2Proof.Machine.execBmeClear f s
  | .bmeSet f => Sys2Proof.Machine.execBmeSet f s
  | .bmeExpire f => Sys2Proof.Machine.execBmeExpire f s
  | .flr f => Sys2Proof.Machine.execFlr f s
  | .flrDone f => Sys2Proof.Machine.execFlrDone f s
  | .vfEnableChange h on n => Sys2Proof.Machine.execVfEnableChange h on n s
  | .msixSend f v => Sys2Proof.Machine.execMsixSend f v s
  | .winCommit f w => Sys2Proof.Machine.execWinCommit f w s
  | .winFlip f w => Sys2Proof.Machine.execWinFlip f w s
  | .oldBusyClear f w e bad => Sys2Proof.Machine.execOldBusyClear f w e bad s
  | .mbxSend f => Sys2Proof.Machine.execMbxSend f s
  | .mbxResponse f => Sys2Proof.Machine.execMbxResponse f s
  | .mbxQuery => Sys2Proof.Machine.execMbxQuery s
  | .txqCreate => Sys2Proof.Machine.execTxqCreate s
  | .rxqCreate => Sys2Proof.Machine.execRxqCreate s
  | .qDestroy => Sys2Proof.Machine.execQDestroy s
  | .keyLoad => Sys2Proof.Machine.execKeyLoad s
  | .keyFree => Sys2Proof.Machine.execKeyFree s
  | .mbxOpen o => Sys2Proof.Machine.execMbxOpen o s
  | .mbxListen port backlog o => Sys2Proof.Machine.execMbxListen port backlog o s
  | .mbxModify m => Sys2Proof.Machine.execMbxModify m s
  | .mbxClose => Sys2Proof.Machine.execMbxClose s
  | .mbxAbort => Sys2Proof.Machine.execMbxAbort s
  | .windowSet allowed => Sys2Proof.Machine.execWindowSet allowed s
  | .fnFreeze f => Sys2Proof.Machine.execFnFreeze f s
  | .fnThaw f => Sys2Proof.Machine.execFnThaw f s
  | .fnReset f => Sys2Proof.Machine.execFnReset f s
  | .fnCleanupDone f => Sys2Proof.Machine.execFnCleanupDone f s
  | .freezeQuiet f => Sys2Proof.Machine.execFreezeQuiet f s
  | .freezeTimeout f => Sys2Proof.Machine.execFreezeTimeout f s
  | .migKeyx => Sys2Proof.Machine.execMigKeyx s
  | .migAccept => Sys2Proof.Machine.execMigAccept s
  | .logStart => Sys2Proof.Machine.execLogStart s
  | .logSync => Sys2Proof.Machine.execLogSync s
  | .logStop => Sys2Proof.Machine.execLogStop s
  | .mbxSave => Sys2Proof.Machine.execMbxSave s
  | .mbxRestore blob => Sys2Proof.Machine.execMbxRestore blob s
  | .badOpcode => Sys2Proof.Machine.execBadOpcode s
  | .txqPiWrite f q v => Sys2Proof.Machine.execTxqPiWrite f q v s
  | .txqCiWrite f q v => Sys2Proof.Machine.execTxqCiWrite f q v s
  | .rxqPiWrite f q v => Sys2Proof.Machine.execRxqPiWrite f q v s
  | .rxqCiWrite f q v => Sys2Proof.Machine.execRxqCiWrite f q v s
  | .txDescFetched f q => Sys2Proof.Machine.execTxDescFetched f q s
  | .txCompletion => Sys2Proof.Machine.execTxCompletion s
  | .rxDeliver f q => Sys2Proof.Machine.execRxDeliver f q s
  | .queueDrainDone f rx q => Sys2Proof.Machine.execQueueDrainDone f rx q s
  | .quotaWrite f queues v => Sys2Proof.Machine.execQuotaWrite f queues v s
  | .bootRomStart => Sys2Proof.Machine.execBootRomStart s
  | .bootSelfTest trngOk array repaired spare => Sys2Proof.Machine.execBootSelfTest trngOk array repaired spare s
  | .bootFlash found => Sys2Proof.Machine.execBootFlash found s
  | .bootVerify readErr => Sys2Proof.Machine.execBootVerify readErr s
  | .bootMgcStart => Sys2Proof.Machine.execBootMgcStart s
  | .bootConfig => Sys2Proof.Machine.execBootConfig s
  | .cfgRecWrite x => Sys2Proof.Machine.execCfgRecWrite x s
  | .cfgRecWait => Sys2Proof.Machine.execCfgRecWait s
  | .cfgRecDelay => Sys2Proof.Machine.execCfgRecDelay s
  | .cfgRecParam => Sys2Proof.Machine.execCfgRecParam s
  | .cfgRecEnd => Sys2Proof.Machine.execCfgRecEnd s
  | .bootLoad copy imgs words fail e => Sys2Proof.Machine.execBootLoad copy imgs words fail e s
  | .bootStartBlocks => Sys2Proof.Machine.execBootStartBlocks s
  | .bootForwarding => Sys2Proof.Machine.execBootForwarding s
  | .bootFailed code info => Sys2Proof.Machine.execBootFailed code info s
  | .genSemAcquire mgc n => Sys2Proof.Machine.execGenSemAcquire mgc n s
  | .genSemRelease mgc n => Sys2Proof.Machine.execGenSemRelease mgc n s
  | .wdtKick => Sys2Proof.Machine.execWdtKick s
  | .wdtExpire e => Sys2Proof.Machine.execWdtExpire e s
  | .mgcRestart src e => Sys2Proof.Machine.execMgcRestart src e s
  | .mgcConfirm bank => Sys2Proof.Machine.execMgcConfirm bank s
  | .trialTimeout e => Sys2Proof.Machine.execTrialTimeout e s
  | .ucodeLoad => Sys2Proof.Machine.execUcodeLoad s
  | .ucodeDone e fail => Sys2Proof.Machine.execUcodeDone e fail s
  | .flashErase addr => Sys2Proof.Machine.execFlashErase addr s
  | .flashProgram addr src data => Sys2Proof.Machine.execFlashProgram addr src data s
  | .flashOpDone good => Sys2Proof.Machine.execFlashOpDone good s
  | .custLock => Sys2Proof.Machine.execCustLock s
  | .svnMinRaise v => Sys2Proof.Machine.execSvnMinRaise v s
  | .recHello => Sys2Proof.Machine.execRecHello s
  | .recBegin host msg => Sys2Proof.Machine.execRecBegin host msg s
  | .recData host msg err => Sys2Proof.Machine.execRecData host msg err s
  | .recEnd host msg err => Sys2Proof.Machine.execRecEnd host msg err s
  | .recReboot host msg => Sys2Proof.Machine.execRecReboot host msg s
  | .recAutoReboot => Sys2Proof.Machine.execRecAutoReboot s
  | .recBadMessage host msg => Sys2Proof.Machine.execRecBadMessage host msg s
  | .targetHot mgc => Sys2Proof.Machine.execTargetHot mgc s
  | .targetWarm mgc => Sys2Proof.Machine.execTargetWarm mgc s
  | .targetCold mgc => Sys2Proof.Machine.execTargetCold mgc s
  | .targetStandby mgc => Sys2Proof.Machine.execTargetStandby mgc s
  | .standbyWake => Sys2Proof.Machine.execStandbyWake s
  | .unitGate u => Sys2Proof.Machine.execUnitGate u s
  | .unitWake u => Sys2Proof.Machine.execUnitWake u s
  | .unitWakeDone u => Sys2Proof.Machine.execUnitWakeDone u s
  | .sysrefLoss => Sys2Proof.Machine.execSysrefLoss s
  | .sysrefReturn => Sys2Proof.Machine.execSysrefReturn s
  | .calEvaluate => Sys2Proof.Machine.execCalEvaluate s
  | .tjHighCross n v => Sys2Proof.Machine.execTjHighCross n v s
  | .thermTrip n v => Sys2Proof.Machine.execThermTrip n v s
  | .thermClear v => Sys2Proof.Machine.execThermClear v s
  | .sentinelMeasure l => Sys2Proof.Machine.execSentinelMeasure l s
  | .laneAdapt q l eye => Sys2Proof.Machine.execLaneAdapt q l eye s
  | .hourTick => Sys2Proof.Machine.execHourTick s
  | .railDrop => Sys2Proof.Machine.execRailDrop s
  | .railRecover => Sys2Proof.Machine.execRailRecover s
  | .aonRailDrop straps => Sys2Proof.Machine.execAonRailDrop straps s
  | .testEnHigh straps => Sys2Proof.Machine.execTestEnHigh straps s
  | .uncorrError b mem sub nbits addr => Sys2Proof.Machine.execUncorrError b mem sub nbits addr s
  | .aonCorrection a majority => Sys2Proof.Machine.execAonCorrection a majority s
  | .errStatClear b => Sys2Proof.Machine.execErrStatClear b s
  | .errlogPop q => Sys2Proof.Machine.execErrlogPop q s
  | .causeStatClear c => Sys2Proof.Machine.execCauseStatClear c s
  | .pendClear w v => Sys2Proof.Machine.execPendClear w v s
  | .tapReset => Sys2Proof.Machine.execTapReset s
  | .irLoad ir => Sys2Proof.Machine.execIrLoad ir s
  | .dbgAccess dr x => Sys2Proof.Machine.execDbgAccess dr x s
  | .dbgChal signer => Sys2Proof.Machine.execDbgChal signer s
  | .dbgVerify signer => Sys2Proof.Machine.execDbgVerify signer s
  | .dbgVerifyDone => Sys2Proof.Machine.execDbgVerifyDone s
  | .dbgChalExpire => Sys2Proof.Machine.execDbgChalExpire s
  | .thrHalt t => Sys2Proof.Machine.execThrHalt t s
  | .thrResume t => Sys2Proof.Machine.execThrResume t s
  | .thrStep t => Sys2Proof.Machine.execThrStep t s
  | .bkptHit c e => Sys2Proof.Machine.execBkptHit c e s
  | .thrDataRead q => Sys2Proof.Machine.execThrDataRead q s
  | .thrDataWrite hi => Sys2Proof.Machine.execThrDataWrite hi s
  | .dbgMemRead q => Sys2Proof.Machine.execDbgMemRead q s
  | .dbgMemWrite hi => Sys2Proof.Machine.execDbgMemWrite hi s
  | .peRefclkPresent h => Sys2Proof.Machine.execPeRefclkPresent h s
  | .tenMhzReturn => Sys2Proof.Machine.execTenMhzReturn s
  | .tcpKeepaliveTimeout id => Sys2Proof.Machine.execTcpKeepaliveTimeout id s
  | .standbyReached => Sys2Proof.Machine.execStandbyReached s

end Sys2Proof.Machine
end

