-- ==== Sys2Proof/Machine/Step.lean ====
section
/-! DEFINITION. One step: the command at the front of the queue, or the passage of time on an empty queue. -/
namespace Sys2Proof.Machine

/-- The block with nothing to do: 62.5 ps of the time base pass, the resolution of R51, module reset pulses that are over end, and units with
work stay busy (DESIGN CHOICE). -/
def idle (s : State) : State := s.passTime.modPulses.unitsBusy

/-- Take the command at the front of the queue and run it with the queue's rest. -/
def step (s : State) : Host.Outcome State Fault Refusal :=
  match s.pending with
  | [] => .next (idle s)
  | c :: rest => exec c { s with pending := rest }

/-- `s` with the command that a word spells put at the front of its queue; `s` itself where the word spells none. -/
def State.withFetchWord (s : State) (nbits w : Nat) : State :=
  match decodeTableWord nbits w with
  | none => s
  | some c => { s with pending := c :: s.pending }

end Sys2Proof.Machine
end

