-- ==== Sys2Proof/Safety.lean ====
section
/-! DEFINITION. What a sound state is: every sparse table in its canonical form. And the frames that claims use: what a command leaves
as it is. -/
namespace Sys2Proof.Machine

/-- The bytes of the GDDR6 memory are listed by strictly rising address; a byte that is not listed has no value (R337). -/
def State.memWf (s : State) : Bool := mrising s.mem.bytes
/-- The register, counter, latch and page tables are in canonical form, and so is the memory. -/
def State.wf (s : State) : Bool :=
  mwf rstAt s.regs && mwf rstAt s.act && mwf (fun _ => 0) s.cnts && mwf (fun _ => 0) s.latch && mwf pageRst s.pregs && s.memWf

/-- The parts of State beside its queue and its register words. -/
inductive Part where
  | act | latch | pregs | tb | mono | free | out | straps | tim | tsu | log | fn | tl | sl | dp | boot | tfn | cip | mem | en | rpl | hp | svc | pw | dbg | quies
  deriving DecidableEq, Repr

/-- A state with the named parts, the register words and the 64-bit counters left out: two states agree in all else when these are equal. -/
def State.blank (ks : List Part) (s : State) : State := { s with
  regs := []
  cnts := []
  act := if ks.contains .act then [] else s.act
  latch := if ks.contains .latch then [] else s.latch
  pregs := if ks.contains .pregs then [] else s.pregs
  tb := if ks.contains .tb then 0 else s.tb
  mono := if ks.contains .mono then 0 else s.mono
  free := if ks.contains .free then 0 else s.free
  out := if ks.contains .out then [] else s.out
  straps := if ks.contains .straps then {} else s.straps
  tim := if ks.contains .tim then {} else s.tim
  tsu := if ks.contains .tsu then [] else s.tsu
  log := if ks.contains .log then [] else s.log
  fn := if ks.contains .fn then [] else s.fn
  tl := if ks.contains .tl then {} else s.tl
  sl := if ks.contains .sl then {} else s.sl
  dp := if ks.contains .dp then {} else s.dp
  boot := if ks.contains .boot then {} else s.boot
  tfn := if ks.contains .tfn then {} else s.tfn
  cip := if ks.contains .cip then {} else s.cip
  mem := if ks.contains .mem then {} else s.mem
  en := if ks.contains .en then {} else s.en
  rpl := if ks.contains .rpl then {} else s.rpl
  hp := if ks.contains .hp then [] else s.hp
  svc := if ks.contains .svc then {} else s.svc
  pw := if ks.contains .pw then {} else s.pw
  dbg := if ks.contains .dbg then {} else s.dbg
  quies := if ks.contains .quies then [] else s.quies }

/-- What an event may change besides registers: pending bits of the management functions, the error log, what leaves the device. -/
def evParts : List Part := [.pregs, .log, .out]

/-- The EVT block's addresses. -/
def inEvt (a : Nat) : Prop := 0x100000 ≤ a ∧ a < 0x200000
/-- The capture registers of the instance at `base` (R435). -/
def inCapture (base a : Nat) : Prop := base + 0x14 ≤ a ∧ a ≤ base + 0x30
/-- What an event raised by the instance at `base` writes among the registers. -/
def evArea (base a : Nat) : Prop := inEvt a ∨ inCapture base a

/-- The frame of a command: from `s` to `t` nothing changes but the named parts, the registers in `p` and the counters in `q`. -/
def Keeps (ks : List Part) (p q : Nat → Prop) (s t : State) : Prop :=
  t.blank ks = s.blank ks ∧ (∀ a, ¬ p a → t.rd a = s.rd a) ∧ (∀ a, ¬ q a → t.cnt a = s.cnt a)

/-- The frame of a command that raises an event at `base`: as `Keeps`, with what the event writes besides. -/
def KeepsEv (base : Nat) (ks : List Part) (p q : Nat → Prop) (s t : State) : Prop :=
  Keeps (evParts ++ ks) (fun a => evArea base a ∨ p a) (fun a => inEvt a ∨ q a) s t

/-- Cause c has been raised and its latch not cleared since. -/
def Raised (c : Nat) (t : State) : Prop := t.flag (causeA c) 31 = true

/-- No register, or no counter. -/
def noAddr (_ : Nat) : Prop := False
/-- The addresses of a list. -/
def oneOf (l : List Nat) (a : Nat) : Prop := a ∈ l

/-! ### Iluken threads -/

/-- Engine e of cluster c issues operation `o` for thread t of that cluster, whose word is w: nothing halts it first, the
word lies in a CODE section, and no step is in progress. -/
def Issues (s : State) (c : Fin 12) (e : Fin 16) (t w : Nat) (o : Option Iop) : Prop :=
  s.issuer c.val e.val = some t ∧ cluOf t = c.val ∧ s.breaks t = false ∧ s.replayHolds t = false ∧
    s.inCode c.val (s.thr t).pc = true ∧ s.wordAt t = w ∧ iDecode w = o ∧ (s.thr t).step = false

/-- Thread t has retired one instruction and goes on at pc, still RUNNING; no other thread, no engine, channel or channel
memory changed, nor anything outside the engine array. -/
def Retires (s u : State) (t pc : Nat) : Prop :=
  (u.thr t).pc = pc % 2 ^ 64 ∧ (u.thr t).retired = ((s.thr t).retired + 1) % 2 ^ 64 ∧ (u.thr t).state = (s.thr t).state ∧
    (∀ x, x ≠ t → u.thr x = s.thr x) ∧ u.en.eng = s.en.eng ∧ u.en.chan = s.en.chan ∧ u.en.chmem = s.en.chmem ∧
    Keeps [.en] noAddr noAddr s u

/-- The word's rd takes v, unless it is g0; the thread's other registers stay. -/
def WritesRd (s u : State) (t w : Nat) (v : DWord) : Prop :=
  (wRd w ≠ 0 → u.gr t (wRd w) = v) ∧ ∀ n, n ≠ wRd w ∨ n = 0 → u.gr t n = s.gr t n

/-- A special instruction of thread t has completed with STATUS and VALUE: rd holds the result word (R260), the pc is at the next
instruction. -/
def Completes (s u : State) (t w st v : Nat) : Prop :=
  WritesRd s u t w (BitVec.ofNat 64 (st * 2 ^ 56 + v)) ∧ (u.thr t).status = st ∧ (u.thr t).pc = ((s.thr t).pc + 4) % 2 ^ 64 ∧
    (u.thr t).retired = ((s.thr t).retired + 1) % 2 ^ 64

/-- What a special instruction does now ends in a fault. -/
def Ex.faulted : Ex → Bool
  | .fault .. => true
  | _ => false

/-- No cluster's instruction store, data memory or handles changed. -/
def CluKept (s u : State) : Prop := u.en.clu = s.en.clu

/-- Thread t has faulted with CODE and ADDR (R274): FAULTED, its registers and pc as they were, the event raised. -/
def Faults (s u : State) (t code addr : Nat) : Prop :=
  (u.thr t).state = 6 ∧ (u.thr t).pc = (s.thr t).pc ∧ (u.thr t).g = (s.thr t).g ∧ u.fld (thrA t 0x20) 31 24 = code ∧
    u.cnt (thrA t 0x28) = addr % 2 ^ 64 ∧ Raised Ev.engFault u

/-! ### Cipher messages -/

/-- An engine's submission b of thread t that has not started, that R310 and R309 accept, and that needs one core. -/
def Startable (s : State) (m : Msg) (t gen dst : Nat) (b : List Byte) : Prop :=
  m.work = .eng t gen dst b ∧ m.started = false ∧ (s.clu (cluOf t)).gen = gen ∧ s.subCheck (cluOf t) b = 0 ∧
    (isHash (subOp b) = true → s.protOf b ≠ 2) ∧ s.keyOk b = true ∧ s.protOf b ≠ 1

/-- Core k runs message m of submission b from now on, with copies of its slot's key and attributes and the counter ctr. -/
def StartsOn (s u : State) (k : Nat) (m : Msg) (b : List Byte) (ctr : Nat) : Prop :=
  u.coreRun k = some ⟨{ m with
    started := true, key := s.keyWord (subSlot b), attr := s.rd (keyAttr (subSlot b)), ctr := ctr, prot := s.protOf b, at_ := s.mono }, none⟩ ∧
  u.flag (cipCore k) 28 = false

/-! ### Mailbox requests -/

/-- The next request that MGC firmware takes is r: OPCODE op, for function t. -/
def Asks (s : State) (r : MbxReq) (op t : Nat) : Prop :=
  s.tfn.mbxQ.find? (fun r => s.fnState r.f ≠ 2) = some r ∧ r.op = op ∧ s.mbxTarget r = some t

/-- Request r has left the queue and is answered with STATUS st and payload p, the header of R379 before it. -/
def Answered (s u : State) (r : MbxReq) (t st : Nat) (p : List Nat) : Prop :=
  u.tfn.mbxQ = s.tfn.mbxQ.erase r ∧
    u.tfn.rsp = s.tfn.rsp ++ [(r.f, r.gen, ([r.w 0, p.length * 4 * 2 ^ 16 + u.fgen t * 2 ^ 8 + st, r.w 2, 0] ++ p).map (BitVec.ofNat 32))]

end Sys2Proof.Machine
end

