-- ==== Sys2Proof/Certificates/Slice0/Obligations.lean ====
section
/-! DEFINITION. Statements for the provers. Each says what a rule of spec/ says of the model; where a title says so, it is the model's
own choice. `exec c s = .next t` is said for every state and every operand that meets the hypotheses. -/
open Sys2Proof Sys2Proof.Machine


/-- For every command c, queue rest and state s: step of s with c at the front of its queue is exec c on s with the queue's rest. The queue is
the model's form of the commands that wait (log entries 1 and 35). (spec/INDEX.md: the commands; spec/opcode_table.json) -/
def Obligations.StepRunsTheFrontCommand : Prop :=
  ∀ (c : Instr) (rest : List Instr) (s : State),
    step { s with pending := c :: rest } = exec c { s with pending := rest }

/-- With an empty queue a step answers a next state in which the time base has moved by 4,096 units of 2^-16 ns scaled by 1 plus the rate in
10^-12, what is below one unit being carried over; registers and counters stay. That an idle step is 62.5 ps is a DESIGN CHOICE of the log.
Where a clause rests on a choice of the model: log entries 1, 3. (R50; R51) -/
def Obligations.IdleStepPassesTime : Prop :=
  ∀ s : State, s.pending = [] → s.tb < uWrap →
    ∃ t, step s = .next t ∧ t.pending = [] ∧
      (t.tb : Int) = ((s.tb : Int) + (4096 * 1000000000000 + 4096 * s.timRate + s.tim.rem) / 1000000000000 % (uWrap : Int)) % (uWrap : Int) ∧
      t.tim.rem = (4096 * 1000000000000 + 4096 * s.timRate + s.tim.rem) % 1000000000000 ∧
      (∀ a, t.rd a = s.rd a) ∧ (∀ a, t.cnt a = s.cnt a)

/-- In State.reset the time base is TS96 zero in state UNCALIBRATED with TIM_OFFSET_EST unknown, every instance of GEN, EVT, PWR, BOOT, TIM,
TSU, MCI and DBG reads RUN and every other block QUIESCED, no command waits, no counter has counted, SCH_POOL.FREE is the whole pool of
253,952 cells, every port is DISABLED, and State.reset meets State.wf: every sparse table strictly rising and without an entry equal to what
an unlisted key reads as. Where a clause rests on a choice of the model: log entries 36, 37, 58, 169. (R48; R52; R397;
02_registers_and_views.md Table 02-4; 03_time_base.md; R218) -/
def Obligations.ResetLeavesThePowerOnValues : Prop :=
  State.reset.tb = 0 ∧ State.reset.tq = 0 ∧ State.reset.rd (timB + 0x54) = 0xFFFFFFFF ∧ State.reset.pending = [] ∧
    (∀ b : Fin 58, State.reset.blkState (blkBase b) = if runsAtReset (codeOf (blkBase b)) then 0 else 2) ∧
    (∀ a, State.reset.cnt a = 0) ∧ State.reset.fld (schB + 0x50) 17 0 = 253952 ∧
    (∀ p : Fin 16, State.reset.linkState p.val = 0) ∧ State.reset.wf = true

/-- For every command of the table, with every operand, and every state, exec answers a next state: a command that a block does not accept now
is discarded, counted or without effect, as its rule says, and the device goes on. What each command does when it takes effect is said by
the statements of its family. Where a clause rests on a choice of the model: log entry 2. (spec/opcode_table.json; R7; R14; R40; R472) -/
def Obligations.EveryCommandCompletes : Prop :=
  ∀ (c : Instr) (s : State), ∃ t, exec c s = .next t

/-- From every state whose tables of register words, active copies, 64-bit counters, read latches and function-page words are in canonical form
and whose memory bytes are listed by strictly rising address, whatever command is at the front of the queue and whatever waits behind it, a
step that answers a next state leaves all five tables canonical and the memory listed so. With the law that canonical tables reading the
same are equal, two states that every requester reads alike hold equal tables. Where a clause rests on a choice of the model: log entries
17, 36. (R32; R37; R42; R43; R33; R337) -/
def Obligations.EveryStepKeepsTheTablesCanonical : Prop :=
  ∀ s t : State, s.wf = true → step s = .next t → t.wf = true

/-- For every state, a step that answers a next state leaves as its queue the tail of the queue it found, whatever the command was, the resets
included. So the commands run in the order in which they were given, first in, first out. Where a clause rests on a choice of the model: log
entries 1, 35. (R44; spec/opcode_table.json) -/
def Obligations.EveryStepLeavesTheQueueToItsSender : Prop :=
  ∀ s t : State, step s = .next t → t.pending = s.pending.tail

/-- From every state whose queue has no power-on reset at its front (POWER_ON, or AON_RAIL_DROP and TEST_EN_HIGH, which are power-on resets
too), a step that answers a next state leaves the straps as they were. After POWER_ON they are the sampled ones; DEVICE_RESET answers a next
state with the straps it found. A read of BOOT_STRAP by the owner view gives them as Table 19-1 and its card lay them out: BOOT_MODE[1],
UART_FAST, BIF, OWNER_HP, BOOT_MODE[0]. (R397) -/
def Obligations.StrapsAreSampledOnceAtPowerOn : Prop :=
  (∀ s t : State, (∀ c rest, s.pending = c :: rest → (∀ x, c ≠ .powerOn x) ∧ (∀ x, c ≠ .aonRailDrop x) ∧ (∀ x, c ≠ .testEnHigh x)) →
      step s = .next t → t.straps = s.straps) ∧
    (∀ (s : State) (x : Straps), ∃ t, exec (.powerOn x) s = .next t ∧ t.straps = x) ∧
    (∀ s : State, ∃ t, exec .deviceReset s = .next t ∧ t.straps = s.straps) ∧
    (∀ (s : State) (q : Req), (∀ f, q ≠ .page f) → (s.regRead q (bootB + 0x40)).1 = s.straps.bootMode.toNat / 2 * 64 +
      (if s.straps.uartFast then 32 else 0) + s.straps.bifurc.toNat * 8 + s.straps.ownerHp.toNat * 2 + s.straps.bootMode.toNat % 2)

/-- For MGC firmware, a full write of a word of TSU p that its card accepts (TSU_CAL aside) answers a next state in which the word has the
written value on its live and staged bits, loses the W1C bits written as 1, and keeps the rest, and nothing else changes; a write with
partial byte enables to a register is discarded whole, with REJECT_CNT counting up and CFG_REJECT raised; an address in no block changes
nothing; and while the owner host port is absent its management function reaches nothing. Where a clause rests on a choice of the model: log
entries 41, 45, 47, 49, 51, 53. (R7; R29; R30; R34; R39; R472) -/
def Obligations.RegisterWritesAndReadsOfTheOwnerView : Prop :=
  (∀ (s : State) (p : Fin 16) (a : BitVec 26) (v : Word) (x : WEnv) (c : Card) (i : Inst),
      instAt a.toNat = some i → i.base = tsuB p.val → i.hdr = true → i.code = 0x06 → 0x34 ≤ a.toNat - i.base → a.toNat - i.base ≠ 0x50 →
      cardIn i (a.toNat - i.base) = some c → c.q = 0 → s.commitBusy i.base = false → c.ok v.toNat = true →
      ∃ t, exec (.registerWrite .mgc a 15 v x) s = .next t ∧
        t.rd a.toNat = ((s.rd a.toNat &&& (top32 - (c.l ||| c.s))) ||| (v.toNat &&& (c.l ||| c.s))) &&& (top32 - (v.toNat &&& c.w1c)) ∧
        Keeps [] (oneOf [a.toNat]) noAddr s t) ∧
    (∀ (s : State) (a : BitVec 26) (be : BitVec 4) (v : Word) (x : WEnv) (c : Card) (i : Inst),
      be ≠ 15 → instAt a.toNat = some i → i.hdr = true → cardIn i (a.toNat - i.base) = some c → absent i (a.toNat - i.base) = false →
      ∃ t, exec (.registerWrite .mgc a be v x) s = .next t ∧ t = s.reject i.base (a.toNat - i.base) ∧
        KeepsEv i.base [] (oneOf [i.base + 0x10, i.base + 0xC]) noAddr s t) ∧
    (∀ (s : State) (a : BitVec 26) (be : BitVec 4) (v : Word) (x : WEnv),
      instAt a.toNat = none → exec (.registerWrite .mgc a be v x) s = .next s) ∧
    (∀ (s : State) (a : BitVec 26) (be : BitVec 4) (v : Word) (x : WEnv), s.hpState s.ownerHp ≠ 2 →
      exec (.registerWrite .owner a be v x) s = .next s ∧ exec (.readClear .owner ⟨a, be⟩) s = .next s ∧ exec (.counterLowRead .owner ⟨a, be⟩) s = .next s)

/-- A low-word read of a 64-bit counter that is no engine's answers its bits 31 to 0, latches bits 63 to 32 for that requester in that block and
leaves the counter, or clears it where it is a MAC statistic; registers stay. A read of a word with RC fields answers it as it was shown,
without its write-only bits, and clears exactly those fields. Either read answers the bytes asked for and acts as a full read. Where a
clause rests on a choice of the model: log entries 42, 44. (R30; R42; R43; R34) -/
def Obligations.CounterReadsLatchTheHighWord : Prop :=
  (∀ (s : State) (a : BitVec 26) (be : BitVec 4) (c : Card) (i : Inst),
      instAt a.toNat = some i → cardIn i (a.toNat - i.base) = some c → absent i (a.toNat - i.base) = false → c.cnt = true →
      c.isHigh (a.toNat - i.base) = false → latched i (a.toNat - i.base) = false → pairHigh i (a.toNat - i.base) = false →
      pairLow i (a.toNat - i.base) = false → s.readActs .mgc i (a.toNat - i.base) = none → i.code ≠ 0x10 →
      ∃ t, exec (.counterLowRead .mgc ⟨a, be⟩) s = .next t ∧
        t.out = .readData .mgc a.toNat (BitVec.ofNat 32 (byteMask (bits (s.cnt a.toNat) 31 0) be.toNat)) :: s.out ∧
        t.lat .mgc i.base = bits (s.cnt a.toNat) 63 32 ∧ t.cnt a.toNat = (if c.clr then 0 else s.cnt a.toNat) ∧
        Keeps [.latch, .out] noAddr (oneOf [a.toNat]) s t) ∧
    (∀ (s : State) (a : BitVec 26) (be : BitVec 4) (c : Card) (i : Inst),
      instAt a.toNat = some i → cardIn i (a.toNat - i.base) = some c → absent i (a.toNat - i.base) = false → c.cnt = false → c.rc ≠ 0 →
      latched i (a.toNat - i.base) = false → pairHigh i (a.toNat - i.base) = false → pairLow i (a.toNat - i.base) = false →
      s.readActs .mgc i (a.toNat - i.base) = none →
      ∃ t, exec (.readClear .mgc ⟨a, be⟩) s = .next t ∧
        t.out = .readData .mgc a.toNat (BitVec.ofNat 32 (byteMask (s.shown i (a.toNat - i.base) &&& (top32 - c.wo)) be.toNat)) :: s.out ∧
        t.rd a.toNat = s.rd a.toNat &&& (top32 - c.rc) ∧ Keeps [.out] (oneOf [a.toNat]) noAddr s t)

/-- With no commit pending, COMMIT of a block that is QUIESCED or has no unit in progress answers a next state in which every staged word of the
block is active and COMMIT_BUSY reads 0; otherwise COMMIT_BUSY reads 1 and nothing else changes. COMMIT while COMMIT_BUSY reads 1 has no
effect. COMMIT_APPLY with a commit pending makes every staged word of the block active and clears COMMIT_BUSY. (R37; R38; R47) -/
def Obligations.CommitMovesTheStagedSet : Prop :=
  (∀ (s : State) (b : Fin 58), s.commitBusy (blkBase b) = false → (s.blkState (blkBase b) = 2 ∨ s.blkIdle (blkBase b) = true) →
      ∃ t, exec (.commit b) s = .next t ∧ t.commitBusy (blkBase b) = false ∧
        ∀ a c, inBlk (blkBase b) a = true → cardAt a = some c → c.s ≠ 0 → t.rdA a = s.rd a) ∧
    (∀ (s : State) (b : Fin 58), s.commitBusy (blkBase b) = false → s.blkState (blkBase b) ≠ 2 → s.blkIdle (blkBase b) = false →
      ∃ t, exec (.commit b) s = .next t ∧ t.commitBusy (blkBase b) = true ∧ Keeps [] (oneOf [blkBase b + 8]) noAddr s t) ∧
    (∀ (s : State) (b : Fin 58), s.commitBusy (blkBase b) = true → exec (.commit b) s = .next s) ∧
    (∀ (s : State) (b : Fin 58), s.commitBusy (blkBase b) = true →
      ∃ t, exec (.commitApply b) s = .next t ∧ t.commitBusy (blkBase b) = false ∧
        ∀ a c, inBlk (blkBase b) a = true → cardAt a = some c → c.s ≠ 0 → t.rdA a = s.rd a)

/-- QUIESCE of a block that quiesces, in RUN, answers a next state in QUIESCING with the start of its quiesce limit; of PRS, MAT or FWD without
a pending commit nothing else changes. In any other state, and for a block that does not quiesce, it has no effect. QUIESCE_DONE in
QUIESCING with no unit left answers QUIESCED, and has no effect otherwise; past the limit with units left QUIESCE_TIMEOUT raises EV5 once.
RESUME in QUIESCED and not in SAFE answers RUN, of FWD with nothing else changed; in SAFE, and for a cluster without an image, it is
discarded and counted. BLOCK_RESET of any block but TIM leaves it in the state it has after reset, that of FWD with its counters and tables
zero; a device held in reset ignores it. (A replay target below 12 is the premise that every run meets.) Where a clause rests on a choice of
the model: log entries 55, 57. (R40; R41; R44; R45; R48; R251) -/
def Obligations.QuiesceHandshake : Prop :=
  (∀ (s : State) (b : Fin 58), (∀ x, s.rpl.rp = some x → x.target < 12) → quiesces (blkBase b) = true → s.running (blkBase b) = true →
      ∃ t, exec (.quiesce b) s = .next t ∧ t.blkState (blkBase b) = 1 ∧ mget (fun _ => none) t.quies (blkBase b) = some (s.mono, false)) ∧
    (∀ (s : State) (b : Fin 58), codeOf (blkBase b) ∈ [0x0A, 0x0B, 0x0C] → s.running (blkBase b) = true → s.commitBusy (blkBase b) = false →
      ∃ t, exec (.quiesce b) s = .next t ∧ t.blkState (blkBase b) = 1 ∧ Keeps [.quies] (oneOf [blkBase b + 8]) noAddr s t) ∧
    (∀ (s : State) (b : Fin 58), quiesces (blkBase b) = false ∨ s.running (blkBase b) = false → exec (.quiesce b) s = .next s) ∧
    (∀ (s : State) (b : Fin 58), s.blkState (blkBase b) = 1 → s.quDone (blkBase b) = true →
      ∃ t, exec (.quiesceDone b) s = .next t ∧ t.blkState (blkBase b) = 2) ∧
    (∀ (s : State) (b : Fin 58), codeOf (blkBase b) ∈ [0x0A, 0x0B] → s.blkState (blkBase b) = 1 → s.quDone (blkBase b) = true →
      ∃ t, exec (.quiesceDone b) s = .next t ∧ t.blkState (blkBase b) = 2 ∧ Keeps [.quies] (oneOf [blkBase b + 8]) noAddr s t) ∧
    (∀ (s : State) (b : Fin 58), s.blkState (blkBase b) ≠ 1 ∨ s.quDone (blkBase b) = false → exec (.quiesceDone b) s = .next s) ∧
    (∀ (s : State) (b : Fin 58) (u : Nat), s.blkState (blkBase b) = 1 → s.quDone (blkBase b) = false →
      mget (fun _ => none) s.quies (blkBase b) = some (u, false) → u + s.quLimit (blkBase b) ≤ s.mono →
      ∃ t, exec (.quiesceTimeout b) s = .next t ∧ mget (fun _ => none) t.quies (blkBase b) = some (u, true) ∧
        KeepsEv (blkBase b) [.quies] noAddr noAddr s t) ∧
    (∀ (s : State) (b : Fin 58), quiesces (blkBase b) = true → s.blkState (blkBase b) = 2 → s.safe (blkBase b) = false →
      (codeOf (blkBase b) = 0x10 → s.flag (blkBase b + 0x44) 29 = true) →
      ∃ t, exec (.resume b) s = .next t ∧ t.blkState (blkBase b) = 0) ∧
    (∀ (s : State) (b : Fin 58), codeOf (blkBase b) = 0x0C → s.blkState (blkBase b) = 2 → s.safe (blkBase b) = false →
      ∃ t, exec (.resume b) s = .next t ∧ t.blkState (blkBase b) = 0 ∧ Keeps [] (oneOf [blkBase b + 8]) noAddr s t) ∧
    (∀ (s : State) (b : Fin 58), quiesces (blkBase b) = true →
      (s.blkState (blkBase b) = 2 ∧ s.safe (blkBase b) = true) ∨ (codeOf (blkBase b) = 0x10 ∧ s.flag (blkBase b + 0x44) 29 = false) →
      exec (.resume b) s = .next (s.reject (blkBase b) 4)) ∧
    (∀ (s : State) (b : Fin 58), codeOf (blkBase b) ≠ 0x05 → s.pw.hold.any = false →
      ∃ t, exec (.blockReset b) s = .next t ∧ t.blkState (blkBase b) = (if runsAtReset (codeOf (blkBase b)) then 0 else 2)) ∧
    (∀ (s : State) (b : Fin 58), codeOf (blkBase b) = 0x0C → s.pw.hold.any = false →
      ∃ t, exec (.blockReset b) s = .next t ∧ t.blkState (blkBase b) = 2 ∧ t.dp.fwd = { sweptAt := s.mono } ∧
        (∀ a, inBlk (blkBase b) a = true → t.cnt a = 0) ∧ (∀ a, a < 0x100000 → t.rd a = s.rd a)) ∧
    (∀ (s : State) (b : Fin 58), s.pw.hold.any = true → exec (.blockReset b) s = .next s)

/-- POWER_ON answers a next state with the time base at zero, elapsed time zero, the sampled straps, TIM UNCALIBRATED, no frame, engine, session
or memory request alive, the key store being zeroized (KEY_CTL.ZEROIZING reads 1), and the queue as it was. DEVICE_RESET outside a reset
that is held answers a next state that keeps the time base, the elapsed time, the straps and every RWS-only TIM discipline register, cancels
a pending set or step, ends every frame, engine thread and session; inside a held reset it is ignored. Where a clause rests on a choice of
the model: log entries 48, 58, 128, 152. (R44; R45; R52; R323; Table 02-4) -/
def Obligations.PowerOnAndDeviceReset : Prop :=
  (∀ (s : State) (x : Straps), ∃ t, exec (.powerOn x) s = .next t ∧ t.tb = 0 ∧ t.mono = 0 ∧ t.straps = x ∧ t.tq = 0 ∧
      t.pending = s.pending ∧ t.dp = {} ∧ t.en = {} ∧ t.svc = {} ∧ t.mem = {} ∧ t.tl = {} ∧ t.tim.pend = none ∧
      t.flag (cipB + 0x200) 29 = true ∧ t.cip.mat = []) ∧
    (∀ s : State, s.pw.hold.any = false → ∃ t, exec .deviceReset s = .next t ∧ t.tb = s.tb ∧ t.mono = s.mono ∧ t.straps = s.straps ∧
      t.pending = s.pending ∧ t.tim.pend = none ∧ t.dp = freshDp s.dp s.mono ∧ t.en = {} ∧ t.svc = {} ∧ t.mem = {} ∧
      t.tl = { bucketAt := s.mono } ∧ t.flag (cipB + 0x200) 29 = true ∧ t.cip.mat = [] ∧
      (∀ a ∈ [timB + 0x4C, timB + 0x58, timB + 0x5C, timB + 0x60, timB + 0x9C, timB + 0xA0, timB + 0xA4], t.rd a = s.rd a)) ∧
    (∀ s : State, s.pw.hold.any = true → exec .deviceReset s = .next s)

/-- With no change pending, a SET with TIM_SETV nanoseconds below 10^9 (or a STEP of any amount) answers a next state that holds the request
with its value and AT_PPS, BUSY 1, and nothing else changed but TIM_ADJ_CTRL and TIM's own request; while one is pending, or with SET and
STEP together, the write is discarded and counted. (R50; R58) -/
def Obligations.TimeSetAndStepAreRequested : Prop :=
  (∀ (s : State) (atPps clr : Bool), s.tim.pend = none →
      bits (s.rd (timB + 0x64) * 2 ^ 64 + s.rd (timB + 0x68) * 2 ^ 32 + s.rd (timB + 0x6C)) 47 16 < 1000000000 →
      ∃ t p, exec (.timeSet false atPps clr) s = .next t ∧ t.tim.pend = some p ∧ p.isSet = true ∧ p.atPps = atPps ∧ p.since = s.mono ∧
        p.value = (ofTs96 (s.rd (timB + 0x64) * 2 ^ 64 + s.rd (timB + 0x68) * 2 ^ 32 + s.rd (timB + 0x6C)) : Int) ∧
        t.flag (timB + 0x78) 3 = true ∧ t.flag (timB + 0x78) 2 = atPps ∧
        t.flag (timB + 0x78) 4 = (s.flag (timB + 0x78) 4 && !clr) ∧ Keeps [.tim] (oneOf [timB + 0x78]) noAddr s t) ∧
    (∀ (s : State) (atPps clr : Bool), s.tim.pend = none →
      ∃ t p, exec (.timeStep false atPps clr) s = .next t ∧ t.tim.pend = some p ∧ p.isSet = false ∧ p.atPps = atPps ∧
        p.value = signed 64 (s.rd (timB + 0x70) + s.rd (timB + 0x74) * 2 ^ 32) ∧
        t.flag (timB + 0x78) 3 = true ∧ Keeps [.tim] (oneOf [timB + 0x78]) noAddr s t) ∧
    (∀ (s : State) (both atPps clr : Bool), (s.tim.pend.isSome = true ∨ both = true) →
      exec (.timeSet both atPps clr) s = .next (s.reject timB 0x78) ∧ exec (.timeStep both atPps clr) s = .next (s.reject timB 0x78))

/-- A pending change without AT_PPS whose tick has passed is applied: the time base reads the set value, or has moved by the signed step modulo
the wrap of SEC; nothing is pending, BUSY reads 0 and SECONDS_VALID 1; elapsed time is not moved. A change that waits for a 1PPS edge leaves
the state as it is without an edge, and after 1.5 s is cancelled with FAIL set and TIME_ADJ_FAIL raised. Where a clause rests on a choice of
the model: log entry 39. (R50; R55; R58; R59) -/
def Obligations.SetAndStepMoveTheTimeBase : Prop :=
  (∀ (s : State) (p : PendAdj), s.tim.pend = some p → p.atPps = false → s.tick ≠ p.tick →
      ∃ t, exec .setStepApply s = .next t ∧ t.tim.pend = none ∧ t.flag (timB + 0x78) 3 = false ∧ t.secondsValid = true ∧
        (t.tb : Int) = (if p.isSet then p.value else (s.tb : Int) + p.value) % (uWrap : Int) ∧ t.mono = s.mono) ∧
    (∀ (s : State) (p : PendAdj), s.tim.pend = some p → p.atPps = true → s.tim.edge = none → exec .setStepApply s = .next s) ∧
    (∀ (s : State) (p : PendAdj), s.tim.pend = some p → p.atPps = true → p.since + uS + uS / 2 ≤ s.mono →
      ∃ t, exec .adjPpsTimeout s = .next t ∧ t.tim.pend = none ∧ t.flag (timB + 0x78) 3 = false ∧ t.flag (timB + 0x78) 4 = true ∧
        t.tb = s.tb ∧ KeepsEv timB [.tim] (oneOf [timB + 0x78]) noAddr s t)

/-- At a second boundary not yet evaluated, with no change pending, no leap pending and SRC 0: an UNCALIBRATED time base with SECONDS_VALID goes
to FREERUN, a FREERUN one stays, and that second counts as evaluated; a boundary already evaluated changes nothing. At the next tick a new
SRC takes effect: a LOCKED time base stays LOCKED only if the new source is qualified, and otherwise enters HOLDOVER. A PTP source without a
TIM_SERVO write for SERVO_TIMEOUT seconds is lost, and TIME_SRC_LOST is raised. Where a clause rests on a choice of the model: log entries
8, 13, 64, 68. (R54; R61; R62; R63; Table 03-4) -/
def Obligations.TimeQualityIsEvaluatedEachSecond : Prop :=
  (∀ s : State, secOf s.tb ≠ s.tim.lastSec → s.tim.pend = none → s.tim.src = 0 → s.secondsValid = true →
      s.timBit (timB + 0x9C) 30 = false → s.timBit (timB + 0x9C) 29 = false → (s.tq = 0 ∨ s.tq = 3) →
      ∃ t, exec .secondBoundaryEval s = .next t ∧ t.tq = 3 ∧ t.tim.lastSec = secOf s.tb ∧ t.tb = s.tb) ∧
    (∀ s : State, secOf s.tb = s.tim.lastSec → exec .secondBoundaryEval s = .next s) ∧
    (∀ s : State, s.fld (timB + 0x4C) 2 0 = 0 → s.tim.src ≠ 0 → s.tick ≠ s.tim.srcTick →
      ∃ t, exec .srcChange s = .next t ∧ t.tim.src = 0 ∧ t.tq = (if s.tq = 1 then 2 else s.tq) ∧ t.tb = s.tb) ∧
    (∀ s : State, s.tim.src = 5 → (s.trk 2).lost = false →
      s.tim.servoAt + s.timF (timB + 0x4C) 7 4 * uS ≤ s.mono →
      ∃ t, exec .servoTimeout s = .next t ∧ (t.trk 2).lost = true ∧ (t.trk 2).run = 0 ∧ KeepsEv timB [.tim] noAddr noAddr s t)

/-- A first edge of the selected polarity on an enabled PPS input that is not the source is accepted and recorded, less its cable delay, with no
effect on the time base; an edge on a disabled input is ignored. After two expected instants and their window without an accepted edge an
enabled input that is not the source is lost with TIME_SRC_LOST. Losing 10 MHz while it is in use clears TEN_MHZ_OK and raises
TIME_SRC_LOST, and its return under source 3 or 4 sets it. A TIM_SERVO write with SOURCE_OK stores the offset and restarts the timeout.
Where a clause rests on a choice of the model: log entries 9, 10, 66, 67, 69. (R54; R61; R65; R474) -/
def Obligations.TimeSourcesAreFollowed : Prop :=
  (∀ (s : State) (n : Fin 2), s.timBit (timB + 0x80 + 4 * n.val) 31 = true → s.timBit (timB + 0x80 + 4 * n.val) 30 = false →
      (s.trk n.val).last = none → isPps s.tim.src = false →
      ∃ t, exec (.ppsInEdge n false) s = .next t ∧
        (t.trk n.val).last = some ((s.mono : Int) - (s.timF (timB + 0x80 + 4 * n.val) 15 0 * uNs : Nat)) ∧ (t.trk n.val).lost = false ∧
        Keeps [.tim] noAddr noAddr s t) ∧
    (∀ (s : State) (n : Fin 2) (f : Bool), s.timBit (timB + 0x80 + 4 * n.val) 31 = false → exec (.ppsInEdge n f) s = .next s) ∧
    (∀ (s : State) (n : Fin 2) (p : Int), (s.trk n.val).last = some p → s.timBit (timB + 0x80 + 4 * n.val) 31 = true → isPps s.tim.src = false →
      p + (2 * uS + uUs : Nat) < (s.mono : Int) - (s.timF (timB + 0x80 + 4 * n.val) 15 0 * uNs : Nat) →
      ∃ t, exec (.ppsInputLost n) s = .next t ∧ (t.trk n.val).lost = true ∧ (t.trk n.val).last = none ∧
        KeepsEv timB [.tim] noAddr noAddr s t) ∧
    (∀ s : State, s.flag (timB + 0x50) 9 = true →
      ∃ t, exec .tenMhzLost s = .next t ∧ t.tim.tenMhz = false ∧ t.flag (timB + 0x50) 9 = false ∧ t.tq = s.tq ∧
        KeepsEv timB [.tim] (oneOf [timB + 0x50]) noAddr s t) ∧
    (∀ s : State, ∃ t, exec .tenMhzReturn s = .next t ∧ t.tim.tenMhz = true ∧
      t.flag (timB + 0x50) 9 = (decide (s.tim.src = 3) || decide (s.tim.src = 4)) ∧ Keeps [.tim] (oneOf [timB + 0x50]) noAddr s t) ∧
    (∀ (s : State) (v : Word), v.toNat.testBit 31 = true →
      ∃ t, exec (.servoWrite v) s = .next t ∧ t.rd (timB + 0x98) = v.toNat ∧ t.tim.servo = some (bits v.toNat 30 0) ∧
        t.tim.servoAt = s.mono ∧ (t.trk 2).lost = false ∧ Keeps [.tim] (oneOf [timB + 0x98, timB + 0x54]) noAddr s t)

/-- When SEC has reached LEAP_AT in a second after the flags were written, LEAP61 adds 1 to OFFSET and both flags read 0 while the time base
stands; with no flag pending nothing happens. An enabled output without QUAL_GATE rises, at most 1.0 ns after its second boundary plus
phase, and is set to fall WIDTH_US later, and falls when that time has passed. A TIM block reset keeps the time base, the state and
SECONDS_VALID and cancels a pending change. A read of TIM_NOW_W2 answers the low word of the sampled time base and latches the others for
its requester. Where a clause rests on a choice of the model: log entries 11, 65, 70. (R53; R64; R65; R68; R473) -/
def Obligations.LeapAndPulsesFollowTheSeconds : Prop :=
  (∀ s : State, s.timHeld = false → s.flag (timB + 0x9C) 30 = true → s.rd (timB + 0xA0) + s.fld (timB + 0xA4) 15 0 * 2 ^ 32 ≤ secOf s.tb →
      s.tim.leapFrom < secOf s.tb →
      ∃ t, exec .leapApply s = .next t ∧ t.fld (timB + 0x9C) 15 0 = (s.fld (timB + 0x9C) 15 0 + 1) % 65536 ∧
        t.flag (timB + 0x9C) 30 = false ∧ t.flag (timB + 0x9C) 29 = false ∧ t.tb = s.tb) ∧
    (∀ s : State, s.timBit (timB + 0x9C) 30 = false → s.timBit (timB + 0x9C) 29 = false → exec .leapApply s = .next s) ∧
    (∀ (s : State) (n : Fin 2), s.timBit (timB + 0x88 + 4 * n.val) 31 = true → s.timBit (timB + 0x88 + 4 * n.val) 30 = false → s.riseNow n.val = true →
      s.riseSec n.val + 1 ≠ mget (fun _ => 0) s.tim.lastRise n.val →
      ∃ t, exec (.ppsOutRise n) s = .next t ∧ t.out = .ppsOut n.val true :: s.out ∧
        mget (fun _ => none) t.tim.pulses n.val = some ⟨s.mono + s.timF (timB + 0x88 + 4 * n.val) 18 0 * uUs⟩ ∧
        Keeps [.tim, .out] noAddr noAddr s t) ∧
    (∀ (s : State) (n : Fin 2) (p : PpsPulse), mget (fun _ => none) s.tim.pulses n.val = some p → p.falls ≤ s.mono →
      ∃ t, exec (.ppsOutFall n) s = .next t ∧ t.out = .ppsOut n.val false :: s.out ∧
        mget (fun _ => none) t.tim.pulses n.val = none ∧ Keeps [.tim, .out] noAddr noAddr s t) ∧
    (∀ s : State, s.pw.hold.any = false → ∃ t, exec .timBlockReset s = .next t ∧ t.tb = s.tb ∧ t.mono = s.mono ∧ t.tim.pend = none ∧ t.tq = s.tq ∧
      t.secondsValid = s.secondsValid ∧ t.rd (timB + 0x78) = rstNat (timB + 0x78) ∧ t.blkState timB = s.blkState timB) ∧
    (∀ (s : State) (q : Req), ∃ t, exec (.timeNowRead q) s = .next t ∧
      t.out = .readData q (timB + 0x48) (BitVec.ofNat 32 (tsWord s.now 2)) :: s.out ∧
      t.lat q (timB + 0x40) = tsWord s.now 0 ∧ t.lat q (timB + 0x44) = tsWord s.now 1 ∧ Keeps [.latch, .out] noAddr noAddr s t)

/-- START on an UP port with none running sets RUNNING and clears CALIBRATED; 0.8 to 2.0 ms later it ends CALIBRATED with the measured deskew,
or with FAIL and TSU_CAL_FAIL. A read of TSU_TXTS_TAG pops the head entry and answers its VALID, type, domain and sequence number. A PTM
dialogue starts when enabled and due; a response within 100 us publishes the correlation set, its device instant within 8 ns, sets VALID and
counts; the third failure in a row clears VALID and raises PTM_FAIL; a read of TIM_PTM_STAT latches the set for its requester. Where a
clause rests on a choice of the model: log entries 14, 71. (R67; R72; R74) -/
def Obligations.TimestampUnitsCalibrateAndPop : Prop :=
  (∀ (s : State) (p : Fin 16), s.linkIsUp p.val = true → s.flag (tsuB p.val + 0x50) 2 = false →
      ∃ t, exec (.tsuCalStart p) s = .next t ∧ t.flag (tsuB p.val + 0x50) 2 = true ∧ t.flag (tsuB p.val + 0x50) 1 = false ∧
        (t.tsuGet p.val).calAt = s.mono ∧ Keeps [.tsu] (oneOf [tsuB p.val + 0x50]) noAddr s t) ∧
    (∀ (s : State) (p : Fin 16) (d : Word), s.flag (tsuB p.val + 0x50) 2 = true → (s.tsuGet p.val).calAt + 800 * uUs ≤ s.mono →
      s.mono ≤ (s.tsuGet p.val).calAt + 2000 * uUs →
      (∃ t, exec (.tsuCalDone p true d) s = .next t ∧ t.flag (tsuB p.val + 0x50) 1 = true ∧ t.flag (tsuB p.val + 0x50) 2 = false ∧
        t.rd (tsuB p.val + 0x54) = d.toNat) ∧
      (∃ t, exec (.tsuCalDone p false d) s = .next t ∧ t.flag (tsuB p.val + 0x50) 3 = true ∧ t.flag (tsuB p.val + 0x50) 1 = false ∧
        KeepsEv (tsuB p.val) [] (oneOf [tsuB p.val + 0x50]) noAddr s t)) ∧
    (∀ (s : State) (q : Req) (p : Fin 16) (e : TxtsEntry) (r : List TxtsEntry), (s.tsuGet p.val).txts = e :: r →
      ∃ t, exec (.txtsPop q p) s = .next t ∧ (t.tsuGet p.val).txts = r ∧ t.lat q (tsuB p.val + 0x60) = tsWord e.ts 0 ∧
        t.out = .readData q (tsuB p.val + 0x6C) (BitVec.ofNat 32
          (2 ^ 31 + e.msgType % 16 * 2 ^ 24 + e.domain % 256 * 2 ^ 16 + e.seqId % 65536)) :: s.out ∧
        Keeps [.tsu, .latch, .out] noAddr noAddr s t) ∧
    (∀ (s : State) (h : Fin 4), s.flag (ptmB h.val) 31 = true → (s.fnGet (256 + h.val)).ptmEnable = true → (s.ptmGet h.val).opened = none →
      (s.ptmGet h.val).lastStart = none →
      ∃ t, exec (.ptmDialogueStart h) s = .next t ∧ (t.ptmGet h.val).opened = some s.mono ∧ Keeps [.tim] noAddr noAddr s t) ∧
    (∀ (s : State) (h : Fin 4) (n : BitVec 64) (l : Word) (u : Nat), (s.ptmGet h.val).opened = some u → s.mono ≤ u + 100 * uUs →
      ∃ t, exec (.ptmResponse h n l) s = .next t ∧ (t.ptmGet h.val).opened = none ∧ (t.ptmGet h.val).set.host = n.toNat ∧ (t.ptmGet h.val).set.link = l.toNat ∧ (8 * uNs ≤ s.tb → s.tb + 8 * uNs < uWrap →
          s.tb ≤ (t.ptmGet h.val).set.dev + 8 * uNs ∧ (t.ptmGet h.val).set.dev ≤ s.tb + 8 * uNs) ∧
        t.flag (ptmB h.val + 4) 31 = true ∧ t.fld (ptmB h.val + 4) 15 0 = (s.fld (ptmB h.val + 4) 15 0 + 1) % 65536 ∧
        Keeps [.tim, .free] (oneOf [ptmB h.val + 4]) noAddr s t) ∧
    (∀ (s : State) (h : Fin 4) (u : Nat), (s.ptmGet h.val).opened = some u → u + 100 * uUs < s.mono → (s.ptmGet h.val).fails = 2 →
      ∃ t, exec (.ptmTimeout h) s = .next t ∧ (t.ptmGet h.val).opened = none ∧ t.flag (ptmB h.val + 4) 31 = false ∧
        KeepsEv timB [.tim] (oneOf [ptmB h.val + 4]) noAddr s t) ∧
    (∀ (s : State) (q : Req) (h : Fin 4), ∃ t, exec (.ptmStatRead q h) s = .next t ∧
      t.out = .readData q (ptmB h.val + 4) (BitVec.ofNat 32 (s.rd (ptmB h.val + 4))) :: s.out ∧
      t.lat q (ptmB h.val + 8) = tsWord (s.ptmGet h.val).set.dev 0 ∧ Keeps [.latch, .out] noAddr noAddr s t)

/-- With no gap pending, no TQ unit stored and no checkpoint of the same instant: LINK_NS after its first unit an open link closes, its hash
becoming the head and the next link opening empty. While chaining with room and no checkpoint waiting, a request, INTERVAL_MS without an
unsigned slot and MAX_MS each close the open link and add one slot; MAX_MS also counts; a request in an instant with a checkpoint adds no
second one; a waiting checkpoint is taken once room is back and no TQ unit is stored. A request while nothing is chained changes nothing. A
stored TQ unit with room is chained with the next INDEX and the store empties. Where a clause rests on a choice of the model: log entries
75, 76. (R87; R90; R93) -/
def Obligations.CheckpointsAreTaken : Prop :=
  (∀ s : State, s.tl.body ≠ [] → s.tl.opened + s.tailLinkNs * uNs ≤ s.mono →
      ∃ t, exec .linkNsExpire s = .next t ∧ t.tl.body = [] ∧ t.tl.link = s.tl.link + 1 ∧
        t.tl.head = BitVec.ofNat 256 (sha256 (bytesBE 32 s.tl.head.toNat ++ sha256B ((s.tl.body.map unitBytes).flatten))) ∧
        Keeps [.tl] noAddr noAddr s t) ∧
    (∀ s : State, s.tailOn = true → s.cpRoom = true → s.tl.gap = none → s.tl.due = none → s.tl.tqStore = none → s.cpNow = none →
      ∃ t, exec .cpReq s = .next t ∧ t.tl.slots.length = s.tl.slots.length + 1 ∧ t.tl.body = [] ∧ t.tl.lastCp = s.mono ∧
        KeepsEv tailB [.tl] (fun a => a = tailB + 0x4C ∨ (tailB + 0x100 ≤ a ∧ a < tailB + 0x140)) noAddr s t) ∧
    (∀ s : State, s.tailOn = false → exec .cpReq s = .next s) ∧
    (∀ (s : State) (c : CpCause), s.tailOn = true → s.tl.tqStore = none → s.cpNow = some c →
      ∃ t, exec .cpReq s = .next t ∧ t.tl.slots.length = s.tl.slots.length ∧ t.tl.body = [] ∧ t.tl.cpAt = some (s.mono, CpCause.request.join c)) ∧
    (∀ s : State, s.tailOn = true → s.cpRoom = true → s.tl.gap = none → s.tl.due = none → s.tl.tqStore = none → s.tl.slots = [] →
      s.tl.lastCp + s.fld (tailB + 0x48) 31 16 * uMs ≤ s.mono →
      ∃ t, exec .cpIntervalExpire s = .next t ∧ t.tl.slots.length = 1 ∧ t.tl.body = [] ∧ t.tl.lastCp = s.mono) ∧
    (∀ s : State, s.tailOn = true → s.cpRoom = true → s.tl.gap = none → s.tl.due = none → s.tl.tqStore = none → s.cpNow = none →
      s.tl.lastCp + s.fld (tailB + 0x48) 15 0 * uMs ≤ s.mono →
      ∃ t, exec .cpMaxExpire s = .next t ∧ t.tl.slots.length = s.tl.slots.length + 1 ∧ t.tl.lastCp = s.mono ∧
        t.cnt (tailCnt 5) = min top64 (s.cnt (tailCnt 5) + 1)) ∧
    (∀ (s : State) (c : CpCause), s.tl.due = some c → s.tl.tqStore = none → s.cpRoom = true → s.tl.gap = none →
      ∃ t, exec .cpDeferredTake s = .next t ∧ t.tl.due = none ∧ t.tl.slots.length = s.tl.slots.length + 1 ∧ t.tl.body = []) ∧
    (∀ (s : State) (q : TqRec), s.tl.tqStore = some q → s.tqRoom = true → s.tl.gap = none →
      ∃ t, exec .tqStoreFlush s = .next t ∧ t.tl.tqStore = none ∧ t.tailIndex = (s.tailIndex + 1) % 2 ^ 64)

/-- With an unsigned slot, no signing in progress and the identity key present, SIGN starts a signing and changes nothing else; without a slot
it is ignored. When the signing ends the oldest slot leaves, the others keep their order, the signing is over and TAIL_CNT_4 counts up.
Where a clause rests on a choice of the model: log entry 38. (R92; R94; R323) -/
def Obligations.CheckpointsAreSignedInOrder : Prop :=
  (∀ s : State, s.tl.slots ≠ [] → s.tl.signing = false → s.idPresent = true →
      ∃ t, exec .cpSign s = .next t ∧ t.tl = { s.tl with signing := true } ∧ Keeps [.tl] noAddr noAddr s t) ∧
    (∀ s : State, s.tl.slots = [] → exec .cpSign s = .next s) ∧
    (∀ (s : State) (u : TUnit) (r : List TUnit), s.tl.slots = u :: r → s.tl.signing = true →
      ∃ t, exec .cpSignDone s = .next t ∧ t.tl.slots = r ∧ t.tl.signing = false ∧
        t.cnt (tailCnt 4) = min top64 (s.cnt (tailCnt 4) + 1))

/-- With STR as the sink and able to take a unit, the next unread ring unit is read from GDDR6 and joins the units waiting for a flit, marked as
read from the ring, and the ring keeps it until it is acknowledged; where no Tail-ring region holds it, it is not sent, MEM_CNT_4 counts and
MEM_REGION_FAULT is raised. With the owner port UP, Bus Master Enable set and free space in the host buffer, the drain writes its next unit
at BASE + 64 times PROD modulo SIZE and PROD goes up by one. A TAIL_DRAIN_CONS that leaves at most SIZE units outstanding is stored; any
other is discarded and counted. Where a clause rests on a choice of the model: log entries 7, 78. (R96; R97; R98; R472) -/
def Obligations.UnitsLeaveThroughRingAndDrain : Prop :=
  (∀ (s : State) (e : Nat) (u : TUnit), s.tl.ring[s.tl.rd]? = some e → s.tailSink = 0 → s.strTakes 1 = true →
      s.memServes (s.ringPlace s.tl.rd) 64 = true → s.memAllowed .ringRd (s.ringPlace s.tl.rd) 64 false = true →
      (s.ringLoad s.tl.rd).1 = some u →
      ∃ t, exec .ringReadback s = .next t ∧ t.sl.waiting = s.sl.waiting ++ [⟨u, true, e, s.tl.skip⟩] ∧ t.tl.rd = s.tl.rd + 1 ∧
        t.tl.ring = s.tl.ring ∧ t.mem = s.mem ∧ Keeps [.tl, .sl, .free] noAddr noAddr s t) ∧
    (∀ (s : State) (e : Nat), s.tl.ring[s.tl.rd]? = some e → s.tailSink = 0 → s.strTakes 1 = true →
      s.memServes (s.ringPlace s.tl.rd) 64 = true → s.memAllowed .ringRd (s.ringPlace s.tl.rd) 64 false = false →
      ∃ t, exec .ringReadback s = .next t ∧ t.sl = s.sl ∧ t.cnt (memB + 0x120) = min top64 (s.cnt (memB + 0x120) + 1) ∧
        Raised Ev.memRegionFault t) ∧
    (∀ (s : State) (r : RUnit) (q : List RUnit), s.tl.drainQ = r :: q → s.drainUp = true →
      (s.rd (tailB + 0x30C) + 2 ^ 32 - s.rd (tailB + 0x310)) % 2 ^ 32 < s.rd (tailB + 0x308) →
      ∃ t, exec .drainWrite s = .next t ∧ t.rd (tailB + 0x30C) = (s.rd (tailB + 0x30C) + 1) % 2 ^ 32 ∧
        .dmaWrite (256 + s.ownerHp) (s.rd (tailB + 0x300) + s.rd (tailB + 0x304) * 2 ^ 32
          + 64 * (s.rd (tailB + 0x30C) % s.rd (tailB + 0x308))) (unitBytes r.u) false ∈ t.out) ∧
    (∀ (s : State) (v : Word), (s.rd (tailB + 0x30C) + 2 ^ 32 - v.toNat) % 2 ^ 32 ≤ s.rd (tailB + 0x308) →
      ∃ t, exec (.drainConsWrite v) s = .next t ∧ t.rd (tailB + 0x310) = v.toNat) ∧
    (∀ (s : State) (v : Word), s.rd (tailB + 0x308) < (s.rd (tailB + 0x30C) + 2 ^ 32 - v.toNat) % 2 ^ 32 →
      exec (.drainConsWrite v) s = .next (s.reject tailB 0x310))

/-- In ACTIVE with units waiting, credit and replay room, FLIT_SEND sends a flit with the next FSEQ, of the longest run of waiting units from
one side of the ring up to 39, and keeps it behind the flits it kept before; FSEQ goes up by one modulo 2^48. With nothing waiting an idle
flit leaves with COUNT 0. When the oldest kept flit has waited ACK_TIMEOUT_US, the timeout is counted and flits are sent again, the link
staying ACTIVE before the fourth in a row, and with the fourth it trains again. Where a clause rests on a choice of the model: log entries
82, 83. (R100; R101; R102) -/
def Obligations.FlitsAreSentAndKept : Prop :=
  (∀ (s : State) (r : RUnit) (q : List RUnit), s.sl.waiting = r :: q → s.strState = 2 → s.flitRoom 0 = true →
      ∃ t f, exec .flitSend s = .next t ∧ t.sl.kept = s.sl.kept ++ [f] ∧ f.fseq = s.txFseq ∧ f.sentAt = s.mono ∧
        f.units = flitBatch s.sl.waiting ∧ t.txFseq = (s.txFseq + 1) % 2 ^ 48 ∧
        f.bytes = flitBytes f.units.length f.fseq r.epoch r.ring s.now (f.units.map (fun x => x.u)) ∧
        .flit f.fseq f.units.length f.bytes (flitLanes s.sl.scr f.bytes).1 false ∈ t.out) ∧
    (∀ s : State, s.strState = 2 → s.sl.waiting = [] →
      ∃ t, exec .idleFlitSend s = .next t ∧ t.out = .flit ((s.txFseq + 2 ^ 48 - 1) % 2 ^ 48) 0
          (flitBytes 0 ((s.txFseq + 2 ^ 48 - 1) % 2 ^ 48) s.tailEpoch false s.now [])
          (flitLanes s.sl.scr (flitBytes 0 ((s.txFseq + 2 ^ 48 - 1) % 2 ^ 48) s.tailEpoch false s.now [])).1 false :: s.out ∧
        Keeps [.sl, .out] noAddr noAddr s t) ∧
    (∀ (s : State) (f : Flit) (r : List Flit), s.sl.kept = f :: r → s.strState = 2 →
      s.sl.progress + s.fld (strB + 0x40) 15 0 * uUs ≤ s.mono →
      (s.sl.timeouts < 3 → ∃ t, exec .strAckTimeout s = .next t ∧ t.sl.timeouts = s.sl.timeouts + 1 ∧ t.strState = 2 ∧
        t.sl.kept.map (fun x => x.fseq) = s.sl.kept.map (fun x => x.fseq) ∧ t.cnt (strCnt 3) = min top64 (s.cnt (strCnt 3) + 1)) ∧
      (3 ≤ s.sl.timeouts → ∃ t, exec .strAckTimeout s = .next t ∧ t.strState = 1 ∧ t.sl.kept = s.sl.kept ∧ t.sl.t0 = s.mono))

/-- In ACTIVE a CREDIT that advances sets the credit limit; an ACK that covers a kept flit releases exactly the flits it covers; a NAK of a kept
flit resends from it, counts, and keeps every flit. In TRAINING the next TRAIN step from 1 ms on advances. RETRAIN in ACTIVE trains again.
HEALTH updates STR_HEALTH with the free space in 1,024 units, saturated at 20 bits; IDLE only shows the lane locked; a bad CRC-8 or a
reserved command is counted and does nothing else. 50 ms in TRAINING raises STR_TRAIN_FAIL and 150 ms after t0 training restarts.
STR_LINK.RETRAIN and loss of return-lane lock take an ACTIVE link through RETRAIN to TRAINING with its flits kept. Loss of the reference
clock takes the link to DISABLED with no flit kept and no unit waiting; its return starts training in RUN with EN set. Where a clause rests
on a choice of the model: log entries 5, 6, 80, 81. (R102; R103; R104; R105; Table 04-10; Table 04-11) -/
def Obligations.ReturnWordsAndEventsMoveTheLink : Prop :=
  (∀ (s : State) (v : BitVec 40), s.strState = 2 → fseqLe (s.credFseq % 2 ^ 40) v.toNat = true →
      ∃ t, exec (.retCredit v) s = .next t ∧ t.credFseq = v.toNat ∧ t.sl.credit = true ∧ t.strState = 2) ∧
    (∀ (s : State) (v : BitVec 40), (∃ f ∈ s.sl.kept, fseqLe (f.fseq % 2 ^ 40) v.toNat = true) →
      ∃ t, exec (.retAck v) s = .next t ∧ t.ackFseq = v.toNat ∧ t.sl.timeouts = 0 ∧
        t.sl.kept = s.sl.kept.filter (fun f => !fseqLe (f.fseq % 2 ^ 40) v.toNat)) ∧
    (∀ (s : State) (v : BitVec 40), s.strState = 2 → (∃ f ∈ s.sl.kept, fseqLe v.toNat (f.fseq % 2 ^ 40) = true) →
      ∃ t, exec (.retNak v) s = .next t ∧ t.cnt (strCnt 2) = min top64 (s.cnt (strCnt 2) + 1) ∧
        t.sl.kept.map (fun x => x.fseq) = s.sl.kept.map (fun x => x.fseq) ∧ t.strState = 2) ∧
    (∀ (s : State) (n : BitVec 12), s.strState = 1 → s.sl.failed = false → s.sl.t0 + uMs ≤ s.mono → n.toNat = s.sl.step + 1 → n.toNat ≤ 2 →
      ∃ t, exec (.retTrain n) s = .next t ∧ t.sl.step = n.toNat ∧ t.strState = 1) ∧
    (∀ s : State, s.strState = 2 → ∃ t, exec .retRetrain s = .next t ∧ t.strState = 1 ∧ t.sl.kept = s.sl.kept ∧
      t.cnt (strCnt 6) = min top64 (s.cnt (strCnt 6) + 1) ∧ KeepsEv strB [.sl] (oneOf [strB + 0x44]) (oneOf [strCnt 6]) s t) ∧
    (∀ (s : State) (c : BitVec 12) (v : BitVec 40), ∃ t, exec (.retHealth c v) s = .next t ∧
      t.fld (strB + 0x78) 31 20 = c.toNat ∧ t.fld (strB + 0x78) 19 0 = min 0xFFFFF (v.toNat / 1024) ∧
      Keeps [] (oneOf [strB + 0x44, strB + 0x78]) noAddr s t) ∧
    (∀ s : State, ∃ t, exec .retIdle s = .next t ∧ t.flag (strB + 0x44) 8 = true ∧ Keeps [] (oneOf [strB + 0x44]) noAddr s t) ∧
    (∀ (s : State) (w : BitVec 64), readReturnWord w = .retBadWord w → ∃ t, exec (.retBadWord w) s = .next t ∧
      t.cnt (strCnt (if retCrcOk w then 5 else 4)) = min top64 (s.cnt (strCnt (if retCrcOk w then 5 else 4)) + 1) ∧
      Keeps [] (oneOf [strB + 0x44]) (oneOf [strCnt (if retCrcOk w then 5 else 4)]) s t) ∧
    (∀ w : BitVec 64, retCrcOk w = true → (w.extractLsb' 60 4 = 2 → readReturnWord w = .retAck (w.extractLsb' 8 40)) ∧
      (w.extractLsb' 60 4 = 4 → readReturnWord w = .retTrain (w.extractLsb' 48 12)) ∧ (7 ≤ (w.extractLsb' 60 4).toNat → readReturnWord w = .retBadWord w)) ∧
    (∀ s : State, s.strState = 1 → s.sl.failed = false → s.sl.t0 + 50 * uMs ≤ s.mono →
      ∃ t, exec .strTrainTimeout s = .next t ∧ t.sl.failed = true ∧ t.strState = 1 ∧ KeepsEv strB [.sl] noAddr noAddr s t) ∧
    (∀ s : State, s.strState = 1 → s.sl.failed = true → s.sl.t0 + 150 * uMs ≤ s.mono →
      ∃ t, exec .strTrainRestart s = .next t ∧ t.sl.failed = false ∧ t.sl.t0 = s.mono ∧ t.sl.step = 0 ∧ t.strState = 1 ∧ .prbs31 [false, true, false, true] ∈ t.out ∧
        Keeps [.sl, .out] (oneOf [strB + 0x44]) noAddr s t) ∧
    (∀ s : State, s.strState = 2 → ∃ t, exec .strRetrainWrite s = .next t ∧ t.strState = 1 ∧ t.sl.kept = s.sl.kept ∧ t.sl.t0 = s.mono) ∧
    (∀ s : State, s.strState = 2 → ∃ t, exec .retLockLoss s = .next t ∧ t.strState = 1 ∧ t.flag (strB + 0x44) 8 = false ∧ t.sl.kept = s.sl.kept) ∧
    (∀ s : State, ∃ t, exec .strRefclkLoss s = .next t ∧ t.strState = 0 ∧ t.flag (strB + 0x44) 9 = false ∧ t.sl.kept = [] ∧ t.sl.waiting = []) ∧
    (∀ s : State, s.strState = 0 → s.running strB = true → s.flag (strB + 0x40) 31 = true →
      ∃ t, exec .strRefclkReturn s = .next t ∧ t.strState = 1 ∧ t.flag (strB + 0x44) 9 = true ∧ t.sl.t0 = s.mono ∧
        Keeps [.sl, .out] (oneOf [strB + 0x44]) noAddr s t)

/-- A write of MAC_PORT_CTRL with EN 1 in DISABLED, the port used, its FEC an option of the mode and the quad in RUN, takes the port to
SIGNAL_WAIT with the configuration read there; with a FEC that is no option it stays in DISABLED with CFG_ERR and LINK_CFG_ERR. Signal lock
goes to TRAINING under AN or LT, else to ALIGNING, under AN with the one ability of the mode and FEC sent to the partner; training done
within 3 s, under AN with a partner that advertises that ability, goes to ALIGNING, and 3 s without it raises LINK_TRAIN_FAIL and goes to
SIGNAL_WAIT, as 100 ms without alignment does without an event. Alignment held for UP_QUAL_US, and UP_QUAL_US without a fault, bring the
port UP, start its lane and release calibration and raise LINK_UP. Where a clause rests on a choice of the model: log entries 87, 89. (R112;
R114; R111; Table 05-2; R67; R210) -/
def Obligations.PortLinkStatesGoUp : Prop :=
  (∀ (s : State) (p : Fin 16) (v : Word) (cut : Bool), s.linkState p.val = 0 → v.toNat.testBit 0 = true → s.portUsed p.val = true →
      s.fecOk p.val = true → s.running (macB (p.val / 4)) = true →
      ∃ t, exec (.portEnWrite p v cut) s = .next t ∧ t.linkState p.val = 1 ∧ t.flag (macPort p.val + 8) 7 = false ∧
        (t.mac p.val).at_ = s.mono ∧ (t.mac p.val).cfg = s.rd (macPort p.val + 4) ∧
        Keeps [.dp, .out] (oneOf [macPort p.val, macPort p.val + 8]) noAddr s t) ∧
    (∀ (s : State) (p : Fin 16) (v : Word) (cut : Bool), s.linkState p.val = 0 → v.toNat.testBit 0 = true → s.portUsed p.val = true →
      s.fecOk p.val = false → s.flag (macPort p.val + 8) 7 = false →
      ∃ t, exec (.portEnWrite p v cut) s = .next t ∧ t.linkState p.val = 0 ∧ t.flag (macPort p.val + 8) 7 = true ∧ Raised Ev.linkCfgErr t ∧
        KeepsEv (macB (p.val / 4)) [] (oneOf [macPort p.val, macPort p.val + 8]) noAddr s t) ∧
    (∀ (s : State) (p : Fin 16) (eye : BitVec 16), s.linkState p.val = 1 →
      ∃ t, exec (.signalLock p eye) s = .next t ∧
        t.linkState p.val = (if (s.mac p.val).cfg.testBit 4 ∨ (s.mac p.val).cfg.testBit 5 then 2 else 3) ∧ (t.mac p.val).at_ = s.mono ∧
        (∀ l ∈ s.portLanes p.val, t.rd (laneStat (p.val / 4) l) = eye.toNat * 65536 + 3) ∧
        ((s.mac p.val).cfg.testBit 5 = true →
          t.out.head? = some (.advert p.val (s.fld (macB (p.val / 4) + 0x40) 3 0) (bits (s.mac p.val).cfg 9 8))) ∧
        Keeps [.dp, .out] (fun a => a = macPort p.val + 8 ∨ ∃ l ∈ s.portLanes p.val, a = laneStat (p.val / 4) l) noAddr s t) ∧
    (∀ (s : State) (p : Fin 16) (l : List (BitVec 4 × BitVec 2)), s.linkState p.val = 2 → s.mono < (s.mac p.val).at_ + 3 * uS →
      (s.mac p.val).cfg.testBit 5 = false ∨
        l.contains (BitVec.ofNat 4 (s.fld (macB (p.val / 4) + 0x40) 3 0), BitVec.ofNat 2 (bits (s.mac p.val).cfg 9 8)) = true →
      ∃ t, exec (.anLtDone ⟨p, l⟩) s = .next t ∧ t.linkState p.val = 3 ∧ (t.mac p.val).at_ = s.mono ∧
        Keeps [.dp, .out] (oneOf [macPort p.val + 8]) noAddr s t) ∧
    (∀ (s : State) (p : Fin 16), s.linkState p.val = 2 → (s.mac p.val).at_ + 3 * uS ≤ s.mono →
      ∃ t, exec (.linkTrainTimeout p) s = .next t ∧ t.linkState p.val = 1 ∧ Raised Ev.linkTrainFail t ∧
        KeepsEv (macB (p.val / 4)) [.dp] (oneOf [macPort p.val + 8]) noAddr s t) ∧
    (∀ (s : State) (p : Fin 16), s.linkState p.val = 3 → (s.mac p.val).at_ + 100 * uMs ≤ s.mono →
      ∃ t, exec (.alignTimeout p) s = .next t ∧ t.linkState p.val = 1 ∧ Keeps [.dp, .out] (oneOf [macPort p.val + 8]) noAddr s t) ∧
    (∀ (s : State) (p : Fin 16), s.linkState p.val = 3 → (s.mac p.val).at_ + bits (s.mac p.val).cfg 31 16 * uUs ≤ s.mono →
      ∃ t, exec (.alignQualified p) s = .next t ∧ t.linkState p.val = 4 ∧ Raised Ev.linkUp t ∧ t.flag (tsuB p.val + 0x50) 2 = true ∧
        t.fld (prfB + 0x104 + 0x10 * p.val) 31 30 = 1 ∧
        KeepsEv (macB (p.val / 4)) [.dp, .tsu, .free] (oneOf [macPort p.val + 8, tsuB p.val + 0x50, prfB + 0x104 + 0x10 * p.val])
          (oneOf [macPort p.val + 0x278]) s t) ∧
    (∀ (s : State) (p : Fin 16), s.linkState p.val = 5 → (s.mac p.val).at_ + bits (s.mac p.val).cfg 31 16 * uUs ≤ s.mono →
      ∃ t, exec (.faultCleared p) s = .next t ∧ t.linkState p.val = 4 ∧ Raised Ev.linkUp t ∧ t.flag (tsuB p.val + 0x50) 2 = true ∧
        KeepsEv (macB (p.val / 4)) [.dp, .tsu, .free] (oneOf [macPort p.val + 8, tsuB p.val + 0x50, prfB + 0x104 + 0x10 * p.val])
          (oneOf [macPort p.val + 0x278]) s t)

/-- EN 0 takes a port to DISABLED from any state. RESTART takes it to SIGNAL_WAIT from any state but DISABLED, where it changes nothing. A local
or remote fault takes an UP port to FAULT with its bit, nothing in transmission, nothing staged and no pause left, and with no frame in the
port DOWN_CNT counts up; elsewhere but in FAULT it changes nothing. Loss on a physical lane that carries a lane of the port shows that
lane's signal, and takes a port in UP or FAULT to SIGNAL_WAIT. Where a clause rests on a choice of the model: log entries 88, 89, 107.
(R112; R113; R109; Table 05-2) -/
def Obligations.PortLinkStatesGoDown : Prop :=
  (∀ (s : State) (p : Fin 16) (v : Word) (cut : Bool), v.toNat.testBit 0 = false → s.linkState p.val ≠ 0 →
      ∃ t, exec (.portEnWrite p v cut) s = .next t ∧ t.linkState p.val = 0 ∧ (t.mac p.val).at_ = s.mono) ∧
    (∀ (s : State) (p : Fin 16) (cut : Bool), s.linkState p.val ≠ 0 →
      ∃ t, exec (.portRestart p cut) s = .next t ∧ t.linkState p.val = 1 ∧ (t.mac p.val).at_ = s.mono) ∧
    (∀ (s : State) (p : Fin 16) (cut : Bool), s.linkState p.val = 0 → exec (.portRestart p cut) s = .next s) ∧
    (∀ (s : State) (p : Fin 16) (remote cut : Bool), s.linkState p.val = 4 →
      ∃ t, exec (.faultDetect p remote cut) s = .next t ∧ t.linkState p.val = 5 ∧
        t.flag (macPort p.val + 8) (if remote then 5 else 4) = true ∧
        (t.mac p.val).cur = none ∧ (t.mac p.val).staged = [] ∧ (t.mac p.val).paused = [] ∧
        Raised Ev.linkDown t ∧ Raised Ev.linkFault t) ∧
    (∀ (s : State) (p : Fin 16) (remote : Bool), s.linkState p.val = 4 → (s.mac p.val).cur = none → (s.mac p.val).staged = [] →
      ∃ t, exec (.faultDetect p remote true) s = .next t ∧
        t.fld (macPort p.val + 8) 31 16 = min 0xFFFF (s.fld (macPort p.val + 8) 31 16 + 1) ∧
        t.cnt (macPort p.val + 0x260) = min top64 (s.cnt (macPort p.val + 0x260) + 1)) ∧
    (∀ (s : State) (p : Fin 16) (remote cut : Bool), s.linkState p.val ≠ 4 → s.linkState p.val ≠ 5 →
      exec (.faultDetect p remote cut) s = .next s) ∧
    (∀ (s : State) (p : Fin 16) (m : Fin 4) (sig cut : Bool), s.rxLane (p.val / 4) m.val ∈ s.portLanes p.val → s.linkState p.val = 4 ∨ s.linkState p.val = 5 →
      ∃ t, exec (.signalLoss p m sig cut) s = .next t ∧ t.linkState p.val = 1 ∧ (t.mac p.val).at_ = s.mono) ∧
    (∀ (s : State) (p : Fin 16) (m : Fin 4) (sig cut : Bool), s.rxLane (p.val / 4) m.val ∈ s.portLanes p.val → s.linkState p.val ≠ 4 → s.linkState p.val ≠ 5 →
      ∃ t, exec (.signalLoss p m sig cut) s = .next t ∧ t.flag (laneStat (p.val / 4) (s.rxLane (p.val / 4) m.val)) 0 = sig ∧
        t.flag (laneStat (p.val / 4) (s.rxLane (p.val / 4) m.val)) 1 = false ∧
        Keeps [] (oneOf [laneStat (p.val / 4) (s.rxLane (p.val / 4) m.val)]) noAddr s t)

/-- While the port is down nothing is received. With the port UP and its quad not QUIESCING, a frame with no bad codeword, within the length
limits, its FCS right, no pause frame and MACsec off, is counted with its octets, and reaches the arrivals of its pipeline in RUN with its
bytes up to the FCS, as from this port; all else the port staged, paused or sent stays. A frame that fails a check is counted in that
check's counter alone and goes nowhere. While the quad is QUIESCING the frame is counted in RX_ABORT. Where a clause rests on a choice of
the model: log entries 12, 86, 92. (R117; R126; R171; Table 05-4) -/
def Obligations.FramesAreReceivedAndChecked : Prop :=
  (∀ (s : State) (p : Fin 16) (bs : List Byte) (c u i : BitVec 16), s.linkIsUp p.val = false → exec (.rxFrame p bs c u i) s = .next s) ∧
    (∀ (s : State) (p : Fin 16) (bs : List Byte) (c : BitVec 16), s.linkIsUp p.val = true → s.blkState (macB (p.val / 4)) ≠ 1 →
      s.rxCheck p.val bs false = none → beAt (bs.take (bs.length - 4)) 12 2 ≠ 0x8808 → (s.secCfg p.val).testBit 31 = false →
      s.running (prsB (p.val / 4)) = true → s.running (matB (p.val / 4)) = true →
      ∃ t f, exec (.rxFrame p bs c 0 0) s = .next t ∧ (t.pipe (p.val / 4)).arr = (s.pipe (p.val / 4)).arr ++ [f] ∧
        f.bytes = bs.take (bs.length - 4) ∧ f.fcs = true ∧ f.src = .port p.val ∧ f.id = s.dp.nextId ∧
        t.cnt (macPort p.val + 0x200) = min top64 (s.cnt (macPort p.val + 0x200) + bs.length) ∧
        t.cnt (macPort p.val + 0x208) = min top64 (s.cnt (macPort p.val + 0x208) + 1) ∧ t.mac p.val = s.mac p.val ∧
        Keeps [.dp, .free] noAddr (fun a => macPort p.val + 0x200 ≤ a ∧ a < macPort p.val + 0x318) s t) ∧
    (∀ (s : State) (p : Fin 16) (bs : List Byte) (c u i : BitVec 16) (k : Nat), s.linkIsUp p.val = true → s.blkState (macB (p.val / 4)) ≠ 1 →
      s.rxCheck p.val bs (decide (0 < u.toNat + i.toNat)) = some k →
      ∃ t, exec (.rxFrame p bs c u i) s = .next t ∧ t.cnt (macPort p.val + 0x200 + 8 * k) = min top64 (s.cnt (macPort p.val + 0x200 + 8 * k) + 1) ∧
        Keeps [.free] noAddr (oneOf [macPort p.val + 0x200 + 8 * k, macPort p.val + 0x300, macPort p.val + 0x308, macPort p.val + 0x310]) s t) ∧
    (∀ (s : State) (p : Fin 16) (bs : List Byte) (c u i : BitVec 16), s.linkIsUp p.val = true → s.blkState (macB (p.val / 4)) = 1 →
      ∃ t, exec (.rxFrame p bs c u i) s = .next t ∧ t.cnt (macPort p.val + 0x260) = min top64 (s.cnt (macPort p.val + 0x260) + 1) ∧
        Keeps [] noAddr (oneOf [macPort p.val + 0x260]) s t)

/-- A pause whose timer has run out ends. A pause unbroken for WD_MS, not 0, ends under the watchdog, which counts FC_WD_FIRE, raises
PAUSE_WATCHDOG and ignores pause for IGNORE_MS; at its end the ignoring ends. 32,768 quanta after an XOFF, with the bytes still above
XON_KIB, it is sent again with quanta 0xFFFF, after the frame in transmission if there is one. With nothing in transmission and the last
pause frame gone, the first staged copy whose priority is not paused starts when it clears the held frames, and its bytes leave the port;
when its last byte and gap have left, the transmission is over, the frame and its octets are counted, pause frames and a MACsec entry that
waited for this boundary take their turn. Where a clause rests on a choice of the model: log entries 86, 91, 94. (R115; R121; R122; R123;
R124) -/
def Obligations.PausesEndAndFramesAreSent : Prop :=
  (∀ (s : State) (p : Fin 16) (k : Fin 9), (s.mac p.val).paused.any (fun e => e.1 = k.val && decide (e.2 ≤ s.mono)) = true →
      ∃ t, exec (.pauseExpire p k) s = .next t ∧ (t.mac p.val).paused = mdel (s.mac p.val).paused k.val ∧
        (t.mac p.val).pausedSince = mdel (s.mac p.val).pausedSince k.val ∧ Keeps [.dp] (oneOf [macPort p.val + 0x30]) noAddr s t) ∧
    (∀ (s : State) (p : Fin 16) (k : Fin 9) (u e : Nat), s.fld (macPort p.val + 0x18) 15 0 ≠ 0 →
      (k.val, e) ∈ (s.mac p.val).paused → mget (fun _ => 0) (s.mac p.val).pausedSince k.val = u →
      u + s.fld (macPort p.val + 0x18) 15 0 * uMs ≤ s.mono → u + s.fld (macPort p.val + 0x18) 15 0 * uMs ≤ e →
      ∃ t, exec (.pauseWdFire p k) s = .next t ∧ (t.mac p.val).paused = mdel (s.mac p.val).paused k.val ∧
        (t.mac p.val).ignore = mins (s.mac p.val).ignore k.val (s.mono + s.fld (macPort p.val + 0x18) 31 16 * uMs) ∧ Raised Ev.pauseWatchdog t ∧
        t.cnt (macPort p.val + 0x2A0) = min top64 (s.cnt (macPort p.val + 0x2A0) + 1) ∧
        KeepsEv (macB (p.val / 4)) [.dp] (oneOf [macPort p.val + 0x30]) (oneOf [macPort p.val + 0x2A0]) s t) ∧
    (∀ (s : State) (p : Fin 16) (k : Fin 9) (e : Nat), (k.val, e) ∈ (s.mac p.val).ignore → e ≤ s.mono →
      ∃ t, exec (.pauseIgnoreEnd p k) s = .next t ∧ (t.mac p.val).ignore = mdel (s.mac p.val).ignore k.val ∧
        (t.mac p.val).paused = (s.mac p.val).paused ∧ Keeps [.dp] (oneOf [macPort p.val + 0x30]) noAddr s t) ∧
    (∀ (s : State) (p : Fin 16) (k : Fin 9) (u : Nat), mget (fun _ => 0) (s.mac p.val).xoff k.val = u + 1 →
      u + s.txTime p.val (32768 * 64) ≤ s.mono → s.fcTx p.val k.val = true →
      bits (s.rdA (macPort p.val + 0x14)) 15 0 * 1024 < s.fcBytes p.val k.val →
      ∃ t, exec (.xoffRepeat p k) s = .next t ∧ mget (fun _ => 0) (t.mac p.val).xoff k.val = s.mono + 1 ∧
        ((s.mac p.val).cur = none → t.out = .pause p.val (if k.val = 8 then 255 else 2 ^ k.val) 0xFFFF :: s.out ∧
          t.cnt (macPort p.val + 0x278) = min top64 (s.cnt (macPort p.val + 0x278) + 1)) ∧
        ((s.mac p.val).cur ≠ none → t.out = s.out ∧ (t.mac p.val).pauseQ = (s.mac p.val).pauseQ ++ [(k.val, 0xFFFF)]) ∧
        Keeps [.dp, .out, .free] noAddr (oneOf [macPort p.val + 0x278]) s t) ∧
    (∀ (s : State) (p : Fin 16) (c : Copy), s.linkIsUp p.val = true → (s.mac p.val).cur = none →
      (s.mac p.val).busyTo ≤ s.mono → (s.mac p.val).staged.find? (fun c => !s.isPaused p.val c.queue) = some c → s.secWants p.val c.f = false → c.f.ptpOff = none →
      s.clearOfHeld p.val (c.f.bytes.length + 4) = true → s.recClass c.f 1 = none →
      ∃ t n, exec (.txStart p) s = .next t ∧ t.out = .txFrame p.val c.f.bytes :: s.out ∧ (t.mac p.val).cur = some n ∧ n.cp = c ∧
        n.len = c.f.bytes.length + 4 ∧ n.ends = s.mono + s.wireTime p.val (c.f.bytes.length + 4) ∧
        (t.mac p.val).staged = (s.mac p.val).staged.erase c ∧ Keeps [.dp, .free, .out] noAddr noAddr s t) ∧
    (∀ (s : State) (p : Fin 16) (n : TxNow), (s.mac p.val).cur = some n → n.ends ≤ s.mono →
      ∃ t, exec (.txEnd p) s = .next t ∧ (t.mac p.val).cur = none ∧ (t.mac p.val).staged = (s.mac p.val).staged ∧
        (t.mac p.val).pauseQ = [] ∧ (t.mac p.val).saPend = none ∧
        (∀ v e, (s.mac p.val).saPend = some (v, e) → t.sa p.val (selKey v) = e.toNat) ∧
        t.cnt (macPort p.val + 0x270) = min top64 (s.cnt (macPort p.val + 0x270) + 1) ∧
        t.cnt (macPort p.val + 0x268) = min top64 (s.cnt (macPort p.val + 0x268) + n.len) ∧
        Keeps [.dp, .free, .out] (fun a => a = schB + 0x50 ∨ (macPort p.val + 0x50 ≤ a ∧ a ≤ macPort p.val + 0x68))
          (oneOf [macPort p.val + 0x268, macPort p.val + 0x270, macPort p.val + 0x278]) s t)

/-- MAC_SA_SEL with WRITE 1 replaces the entry it selects by W0 to W5, as a new SA for its events; a transmit entry waits, BUSY, for the frame
in transmission; with READ 1 it loads W0 to W5 from it; selecting a transmit SC other than 0, and any command while BUSY, is discarded and
counted. A transfer of 1 to 128 bytes read or 1 to 8 written starts on an idle bus and leaves it busy, any other START being discarded; its
end sets DONE and RESULT, stores what was read with RESULT 0 and raises MOD_XFER_DONE. RESET drives the ball low for 20 us. Insertion and
removal set and clear PRESENT, a removal ending a transfer with RESULT 0b10; a falling edge on MOD_INT_N sets INT and raises MOD_INT. Where
a clause rests on a choice of the model: log entries 92, 171. (R121; R127; R128; R472) -/
def Obligations.KeysAndModulesOfAPort : Prop :=
  (∀ (s : State) (p : Fin 16) (v : Word), ¬ (v.toNat.testBit 7 = true ∧ bits v.toNat 6 4 ≠ 0) → (s.mac p.val).saPend = none →
      (v.toNat.testBit 7 = true → (s.mac p.val).cur = none) →
      ∃ t, exec (.saWrite p v) s = .next t ∧
        t.sa p.val (selKey v.toNat) = pk ((32, Nat.land (s.rd (saW p.val 0)) 0x80003FFF) :: (List.range 5).map (fun n => (32, s.rd (saW p.val (n + 1))))) ∧
        (∀ k, k ≠ selKey v.toNat → t.sa p.val k = s.sa p.val k) ∧ selKey v.toNat ∉ (t.mac p.val).spent ∧
        selKey v.toNat ∉ (t.mac p.val).exhausted ∧ Keeps [.dp] (oneOf [macPort p.val + 0x50]) noAddr s t) ∧
    (∀ (s : State) (p : Fin 16) (v : Word), v.toNat.testBit 7 = true → bits v.toNat 6 4 = 0 → (s.mac p.val).saPend = none →
      (s.mac p.val).cur ≠ none →
      ∃ t, exec (.saWrite p v) s = .next t ∧ t.flag (macPort p.val + 0x50) 31 = true ∧ (t.mac p.val).sas = (s.mac p.val).sas ∧
        (t.mac p.val).saPend.map (·.2.toNat) = some (s.saWords p.val) ∧ Keeps [.dp] (oneOf [macPort p.val + 0x50]) noAddr s t) ∧
    (∀ (s : State) (p : Fin 16) (v : Word), ¬ (v.toNat.testBit 7 = true ∧ bits v.toNat 6 4 ≠ 0) → (s.mac p.val).saPend = none →
      ∃ t, exec (.saRead p v) s = .next t ∧
        (∀ n : Fin 6, t.rd (saW p.val n.val) = bits (s.sa p.val (selKey v.toNat)) (191 - 32 * n.val) (160 - 32 * n.val)) ∧
        Keeps [] (fun a => macPort p.val + 0x50 ≤ a ∧ a ≤ macPort p.val + 0x68) noAddr s t) ∧
    (∀ (s : State) (p : Fin 16) (v : Word), (v.toNat.testBit 7 = true ∧ bits v.toNat 6 4 ≠ 0) ∨ (s.mac p.val).saPend ≠ none →
      exec (.saWrite p v) s = .next (s.reject (macB (p.val / 4)) (macPort p.val + 0x50 - macB (p.val / 4))) ∧
      exec (.saRead p v) s = .next (s.reject (macB (p.val / 4)) (macPort p.val + 0x50 - macB (p.val / 4)))) ∧
    (∀ (s : State) (q : Fin 4) (v : Word), (s.modGet q.val).busy = none → 1 ≤ bits v.toNat 23 16 →
      bits v.toNat 23 16 ≤ (if v.toNat.testBit 30 then 8 else 128) →
      ∃ t, exec (.modXferStart q v) s = .next t ∧ (t.modGet q.val).busy = some (v.toNat.testBit 30, bits v.toNat 23 16) ∧
        t.fld (macB q.val + 0x68) 3 3 = 1 ∧ Keeps [.dp, .out] (oneOf [macB q.val + 0x64, macB q.val + 0x68]) noAddr s t) ∧
    (∀ (s : State) (q : Fin 4) (v : Word), (s.modGet q.val).busy ≠ none ∨ bits v.toNat 23 16 = 0 ∨
      (if v.toNat.testBit 30 then 8 else 128) < bits v.toNat 23 16 → exec (.modXferStart q v) s = .next (s.reject (macB q.val) 0x64)) ∧
    (∀ (s : State) (q r : Fin 4) (d : List Byte) (w : Bool) (n : Nat), (s.modGet q.val).busy = some (w, n) →
      ∃ t, exec (.modXferEnd q r d) s = .next t ∧ (t.modGet q.val).busy = none ∧ t.fld (macB q.val + 0x68) 3 0 = 2 * r.val + 1 ∧
        (w = false → r = 0 → d.length = n → n ≤ 128 → t.modBuf q.val = d ++ (s.modBuf q.val).drop n) ∧ Raised Ev.modXferDone t ∧
        KeepsEv (macB q.val) [.dp] (fun a => a = macB q.val + 0x68 ∨ (macB q.val + 0x100 ≤ a ∧ a < macB q.val + 0x180)) noAddr s t) ∧
    (∀ (s : State) (q : Fin 4), ∃ t, exec (.modReset q) s = .next t ∧ (t.modGet q.val).resetEnds = some (s.mono + 20 * uUs) ∧
      t.out = .modRst q.val false :: s.out ∧ Keeps [.dp, .out] noAddr noAddr s t) ∧
    (∀ (s : State) (q : Fin 4), s.flag (macB q.val + 0x68) 31 = false →
      ∃ t, exec (.modInsert q) s = .next t ∧ t.flag (macB q.val + 0x68) 31 = true ∧ Raised Ev.modInsert t ∧
        KeepsEv (macB q.val) [] (oneOf [macB q.val + 0x68]) noAddr s t) ∧
    (∀ (s : State) (q : Fin 4) (w : Bool) (n : Nat), s.flag (macB q.val + 0x68) 31 = true → (s.modGet q.val).busy = some (w, n) →
      ∃ t, exec (.modRemove q) s = .next t ∧ t.flag (macB q.val + 0x68) 31 = false ∧ Raised Ev.modRemove t ∧ (t.modGet q.val).busy = none ∧
        t.fld (macB q.val + 0x68) 3 0 = 5) ∧
    (∀ (s : State) (q : Fin 4), s.flag (macB q.val + 0x68) 30 = false →
      ∃ t, exec (.modInt q true) s = .next t ∧ t.flag (macB q.val + 0x68) 30 = true ∧
        Raised Ev.modInt t ∧ KeepsEv (macB q.val) [] (oneOf [macB q.val + 0x68]) noAddr s t)

/-- While its unit is HOT: INGRESS_PASS takes the first port arrival and counts one parse and one match-action pass, no other pipeline losing an
arrival; with none waiting, RECIRC_PASS takes the oldest recirculated frame, the others keeping their order, and counts a later pass; with
neither, and PRS and MAT in RUN, INJECT_SLOT takes the HIF frame when it is its turn or no cluster frame waits, else the cluster frame, the
turn going over; with PRS or MAT not in RUN it takes none. EGRESS_PASS takes the oldest dequeued copy. Where a clause rests on a choice of
the model: log entry 61. (R15; R16; R17; R147; R162; R171) -/
def Obligations.PipelineSlotsArbitrate : Prop :=
  (∀ (s : State) (n : Fin 4) (f : Frame) (r : List Frame), s.unitHot (12 + n.val) = true → (s.pipe n.val).arr = f :: r →
      ∃ t, exec (.ingressPass n) s = .next t ∧ (t.pipe n.val).arr = r ∧ (∀ m, m ≠ n.val → (t.pipe m).arr = (s.pipe m).arr) ∧
        t.cnt (prsB n.val + 0x100) = min top64 (s.cnt (prsB n.val + 0x100) + 1) ∧
        t.cnt (matCnt n.val 0) = min top64 (s.cnt (matCnt n.val 0) + 1) ∧ t.tb = s.tb ∧ t.mono = s.mono) ∧
    (∀ (s : State) (n : Fin 4) (f : Frame) (r : List Frame), s.unitHot (12 + n.val) = true → (s.pipe n.val).arr = [] →
      (s.pipe n.val).recirc = f :: r → mdF f.md 3 27 26 < 3 →
      ∃ t, exec (.recircPass n) s = .next t ∧ (t.pipe n.val).recirc.take r.length = r ∧ (t.pipe n.val).recirc.length ≤ r.length + 1 ∧
        t.cnt (matCnt n.val 1) = min top64 (s.cnt (matCnt n.val 1) + 1) ∧ (t.pipe n.val).arr = [] ∧ t.tb = s.tb) ∧
    (∀ (s : State) (n : Fin 4) (f : Frame) (r : List Frame), s.unitHot (12 + n.val) = true → (s.pipe n.val).arr = [] →
      (s.pipe n.val).recirc = [] → s.running (prsB n.val) = true → s.running (matB n.val) = true → (s.pipe n.val).host = f :: r →
      ((s.pipe n.val).clus = [] ∨ (s.pipe n.val).clusTurn = false) →
      ∃ t, exec (.injectSlot n) s = .next t ∧ (t.pipe n.val).host = r ∧ (t.pipe n.val).clus = (s.pipe n.val).clus ∧
        (t.pipe n.val).clusTurn = true) ∧
    (∀ (s : State) (n : Fin 4) (f : Frame) (r : List Frame), s.unitHot (12 + n.val) = true → (s.pipe n.val).arr = [] →
      (s.pipe n.val).recirc = [] → s.running (prsB n.val) = true → s.running (matB n.val) = true → (s.pipe n.val).clus = f :: r →
      ((s.pipe n.val).host = [] ∨ (s.pipe n.val).clusTurn = true) →
      ∃ t, exec (.injectSlot n) s = .next t ∧ (t.pipe n.val).clus = r ∧ (t.pipe n.val).host = (s.pipe n.val).host ∧
        (t.pipe n.val).clusTurn = false) ∧
    (∀ (s : State) (n : Fin 4), s.running (prsB n.val) = false ∨ s.running (matB n.val) = false → exec (.injectSlot n) s = .next s) ∧
    (∀ (s : State) (n : Fin 4) (c : Copy) (r : List Copy), s.unitHot (12 + n.val) = true → (s.pipe n.val).egress = c :: r →
      ∃ t, exec (.egressPass n) s = .next t ∧ (t.pipe n.val).egress = r ∧ (t.pipe n.val).arr = (s.pipe n.val).arr ∧ t.tb = s.tb)

/-- SWAP_IN with no ingress bank retiring advances RSE modulo 16 in MAT and PRS together, the other bank becoming the active one; RETIRING sets
unless MAT is QUIESCED, where the swap is done at once; with a bank retiring it is discarded whole. SWAP_EG does so for ERSE. A retiring
bank with no frame left is released and MAT_SWAP_DONE raised. A due scrub read of a good word only moves the scrub on, one of a bad word
also raises PRS_PARITY or MAT_PARITY; so it does for FWD, over its slots and then the slots of its tries, a bad one being counted and
raising FWD_PARITY. Where a clause rests on a choice of the model: log entry 102. (R145; R170; R172; R193; R475) -/
def Obligations.RuleSetsSwapAndScrub : Prop :=
  (∀ (s : State) (n : Fin 4), s.flag (matB n.val + 0x48) 9 = false →
      ∃ t, exec (.swapIn n false) s = .next t ∧ t.rse n.val = (s.rse n.val + 1) % 16 ∧
        t.fld (prsB n.val + 0x40) 3 0 = (s.rse n.val + 1) % 16 ∧ t.fld (matB n.val + 0x48) 8 8 = (s.rse n.val + 1) % 2 ∧
        t.fld (prsB n.val + 0x40) 8 8 = (s.rse n.val + 1) % 2 ∧ t.flag (matB n.val + 0x48) 9 = decide (s.blkState (matB n.val) ≠ 2) ∧
        t.erse n.val = s.erse n.val ∧ (s.blkState (matB n.val) = 2 → Raised Ev.matSwapDone t)) ∧
    (∀ (s : State) (n : Fin 4), s.flag (matB n.val + 0x48) 9 = false → s.flag (matB n.val + 0x48) 31 = false →
      ∃ t, exec (.swapIn n true) s = .next t ∧ t.rse n.val = (s.rse n.val + 1) % 16 ∧ t.erse n.val = (s.erse n.val + 1) % 16) ∧
    (∀ (s : State) (n : Fin 4), s.flag (matB n.val + 0x48) 9 = true →
      exec (.swapIn n false) s = .next (s.reject (matB n.val) 0x44) ∧ exec (.swapIn n true) s = .next (s.reject (matB n.val) 0x44)) ∧
    (∀ (s : State) (n : Fin 4), s.flag (matB n.val + 0x48) 31 = false →
      ∃ t, exec (.swapEg n) s = .next t ∧ t.erse n.val = (s.erse n.val + 1) % 16 ∧ t.fld (matB n.val + 0x48) 30 30 = (s.erse n.val + 1) % 2 ∧
        t.flag (matB n.val + 0x48) 31 = decide (s.blkState (matB n.val) ≠ 2) ∧ t.rse n.val = s.rse n.val) ∧
    (∀ (s : State) (n : Fin 4), s.flag (matB n.val + 0x48) 9 = true → s.oldIn n.val = 0 →
      ∃ t, exec (.swapRetire n false) s = .next t ∧ t.flag (matB n.val + 0x48) 9 = false ∧ t.fld (matB n.val + 0x48) 21 12 = 0 ∧
        t.flag (prsB n.val + 0x40) 9 = false ∧ Raised Ev.matSwapDone t ∧
        KeepsEv (matB n.val) [] (oneOf [matB n.val + 0x48, prsB n.val + 0x40]) noAddr s t) ∧
    (∀ (s : State) (n : Fin 4), s.flag (matB n.val + 0x48) 31 = true → s.oldEg n.val = 0 →
      ∃ t, exec (.swapRetire n true) s = .next t ∧ t.flag (matB n.val + 0x48) 31 = false ∧ Raised Ev.matSwapDone t ∧
        KeepsEv (matB n.val) [] (oneOf [matB n.val + 0x48]) noAddr s t) ∧
    (∀ (s : State) (n : Fin 4) (i : Nat), s.flag (prsB n.val + 0x4C) 31 = true → s.blkState (prsB n.val) ≠ 3 →
      (s.scrub n.val).done = i → i + 1 < 2 * prsWords → s.scrubDue n.val (2 * prsWords) (s.fld (prsB n.val + 0x4C) 15 0 * uMs) = true →
      ∃ t, exec (.prsScrubRead n none) s = .next t ∧ (t.scrub n.val).done = i + 1 ∧
        (if s.badWord (prsBank n.val (i / prsWords) + prsWordOff (i % prsWords)) then
          Raised Ev.prsParity t ∧ KeepsEv (prsB n.val) [.dp] noAddr noAddr s t else Keeps [.dp] noAddr noAddr s t)) ∧
    (∀ (s : State) (n : Fin 4) (i : Nat), s.flag (matB n.val + 0x40) 31 = true → s.blkState (matB n.val) ≠ 3 →
      (s.scrub (4 + n.val)).done = i → i + 1 < 2 * (matInWords + matEgWords) →
      s.scrubDue (4 + n.val) (2 * (matInWords + matEgWords)) (s.fld (matB n.val + 0x40) 15 0 * uMs) = true →
      ∃ t, exec (.matScrubRead n none) s = .next t ∧ (t.scrub (4 + n.val)).done = i + 1 ∧
        (if s.badWord (matWordA n.val i) then Raised Ev.matParity t ∧ KeepsEv (matB n.val) [.dp] noAddr noAddr s t
         else Keeps [.dp] noAddr noAddr s t)) ∧
    (∀ (s : State) (i : Nat), s.flag (fwdB + 0x40) 31 = true → s.running fwdB = true → (s.scrub 8).done = i → i < 4 * fwdSlots →
      s.scrubDue 8 s.scrubSlots (s.fld (fwdB + 0x40) 15 0 * uMs) = true →
      ∃ t, exec (.fwdScrubRead none none) s = .next t ∧ (t.scrub 8).done = i + 1 ∧
        (if s.fbad (fwdSlotAt (i / fwdSlots) (i % fwdSlots)).1 (fwdSlotAt (i / fwdSlots) (i % fwdSlots)).2 then
          Raised Ev.fwdParity t ∧ t.cnt (fwdCnt ((fwdSlotAt (i / fwdSlots) (i % fwdSlots)).1 % 4) 9) =
            min top64 (s.cnt (fwdCnt ((fwdSlotAt (i / fwdSlots) (i % fwdSlots)).1 % 4) 9) + 1)
         else Keeps [.dp] noAddr noAddr s t)) ∧
    (∀ (s : State) (i : Nat) (k : Nat × Nat × Nat × Nat), s.flag (fwdB + 0x40) 31 = true → s.running fwdB = true → (s.scrub 8).done = i →
      4 * fwdSlots ≤ i → i + 1 < s.scrubSlots → s.trieAt (i - 4 * fwdSlots) = some k →
      s.scrubDue 8 s.scrubSlots (s.fld (fwdB + 0x40) 15 0 * uMs) = true →
      ∃ t, exec (.fwdScrubRead none none) s = .next t ∧ (t.scrub 8).done = i + 1 ∧
        (if s.dp.fwd.badTrie.contains k then
          Raised Ev.fwdParity t ∧ t.cnt (fwdCnt k.1 9) = min top64 (s.cnt (fwdCnt k.1 9) + 1)
         else Keeps [.dp] noAddr noAddr s t))

/-- On the interface's own side, not BUSY, for an enabled hashed table of one pipeline: INSERT of a new valid entry with a free slot of its key
places it with HIT and AGE 0 in the first such slot and answers OK with that slot; INSERT of a key that is there answers EXISTS and changes
no slot; UPDATE replaces the entry of the key, its HIT and AGE kept; DELETE clears it, and of a key not there answers NOT_FOUND; READ
answers its slot and words, changing nothing. INSERT and DELETE of a prefix of an LPM table store it with its result and units, and remove
it; INSERT in a deep table writes the entry in GDDR6. Each leaves its interface BUSY with that result to come. From another requester, or
while BUSY, all nine commands are discarded and counted. Where a clause rests on a choice of the model: log entries 100, 103. (R183; R184;
R186; R181; R182; Table 08-3) -/
def Obligations.TableEntriesAreInsertedAndChanged : Prop :=
  (∀ (s : State) (c : Fin 2) (q : Req) (v : Word) (p : Fin 4) (sp : Nat) (tb : Tab) (i : Nat),
      (c = 0 ∧ q = .mgc ∨ c = 1 ∧ q = .owner) → s.flag (fwdCmd c.val + 4) 31 = false → sp ≠ 2 → bits v.toNat 27 26 = sp →
      bits v.toNat 25 22 = 2 ^ p.val → (sp = 1 → bits v.toNat 21 17 < 16) → tb = s.tab sp p.val (bits v.toNat 21 17) → tb.en = true → (tb.kind = 1 ∨ tb.kind = 2 ∨ tb.kind = 8) → tb.entryOk (tb.arg (s.fwdArgs c.val)) = true → tb.valid (tb.arg (s.fwdArgs c.val)) = true →
      (s.find tb (tb.keyOf (tb.arg (s.fwdArgs c.val)))).1 = none → (tb.slots (tb.keyOf (tb.arg (s.fwdArgs c.val)))).find? (s.slotFree tb) = some i →
      ∃ t d, exec (.fwdInsert c q v) s = .next t ∧ t.flag (fwdCmd c.val + 4) 31 = true ∧ mget (fun _ => none) t.dp.fwd.cmd c.val = some d ∧ bits d.result (4 * p.val + 3) (4 * p.val) = 0 ∧
        d.slot = some (tb.slotNo i) ∧ t.entry tb i = tb.mark (tb.arg (s.fwdArgs c.val)) 0 0) ∧
    (∀ (s : State) (c : Fin 2) (q : Req) (v : Word) (p : Fin 4) (sp : Nat) (tb : Tab) (i : Nat),
      (c = 0 ∧ q = .mgc ∨ c = 1 ∧ q = .owner) → s.flag (fwdCmd c.val + 4) 31 = false → sp ≠ 2 → bits v.toNat 27 26 = sp →
      bits v.toNat 25 22 = 2 ^ p.val → (sp = 1 → bits v.toNat 21 17 < 16) → tb = s.tab sp p.val (bits v.toNat 21 17) → tb.en = true → (tb.kind = 1 ∨ tb.kind = 2 ∨ tb.kind = 8) → tb.entryOk (tb.arg (s.fwdArgs c.val)) = true → tb.valid (tb.arg (s.fwdArgs c.val)) = true →
      (s.find tb (tb.keyOf (tb.arg (s.fwdArgs c.val)))).1 = some i →
      (∃ t d, exec (.fwdInsert c q v) s = .next t ∧ t.flag (fwdCmd c.val + 4) 31 = true ∧ mget (fun _ => none) t.dp.fwd.cmd c.val = some d ∧ bits d.result (4 * p.val + 3) (4 * p.val) = 1 ∧
        t.dp.fwd.mem = s.dp.fwd.mem ∧ Keeps [.dp] (oneOf [fwdCmd c.val + 4]) noAddr s t) ∧
      (∃ t d, exec (.fwdUpdate c q v) s = .next t ∧ t.flag (fwdCmd c.val + 4) 31 = true ∧ mget (fun _ => none) t.dp.fwd.cmd c.val = some d ∧ bits d.result (4 * p.val + 3) (4 * p.val) = 0 ∧
        t.entry tb i = tb.mark (tb.arg (s.fwdArgs c.val)) (b2n (tb.hitBit (s.entry tb i))) (tb.ageOf (s.entry tb i)))) ∧
    (∀ (s : State) (c : Fin 2) (q : Req) (v : Word) (p : Fin 4) (sp : Nat) (tb : Tab) (i : Nat),
      (c = 0 ∧ q = .mgc ∨ c = 1 ∧ q = .owner) → s.flag (fwdCmd c.val + 4) 31 = false → sp ≠ 2 → bits v.toNat 27 26 = sp →
      bits v.toNat 25 22 = 2 ^ p.val → (sp = 1 → bits v.toNat 21 17 < 16) → tb = s.tab sp p.val (bits v.toNat 21 17) → tb.en = true → (tb.kind = 1 ∨ tb.kind = 2 ∨ tb.kind = 8) → tb.entryOk (tb.arg (s.fwdArgs c.val)) = true → (s.find tb (tb.keyOf (tb.arg (s.fwdArgs c.val)))).1 = some i →
      (∃ t d, exec (.fwdDelete c q v) s = .next t ∧ t.flag (fwdCmd c.val + 4) 31 = true ∧ mget (fun _ => none) t.dp.fwd.cmd c.val = some d ∧ bits d.result (4 * p.val + 3) (4 * p.val) = 0 ∧ t.entry tb i = 0) ∧
      (∃ t d, exec (.fwdRead c q v) s = .next t ∧ t.flag (fwdCmd c.val + 4) 31 = true ∧ mget (fun _ => none) t.dp.fwd.cmd c.val = some d ∧ bits d.result (4 * p.val + 3) (4 * p.val) = 0 ∧
        d.slot = some (tb.slotNo i) ∧ d.entry = some (entryOut (tb.w / 32) (s.entry tb i)) ∧ t.dp.fwd.mem = s.dp.fwd.mem ∧
        Keeps [.dp] (oneOf [fwdCmd c.val + 4]) noAddr s t)) ∧
    (∀ (s : State) (c : Fin 2) (q : Req) (v : Word) (p : Fin 4) (sp : Nat) (tb : Tab),
      (c = 0 ∧ q = .mgc ∨ c = 1 ∧ q = .owner) → s.flag (fwdCmd c.val + 4) 31 = false → sp ≠ 2 → bits v.toNat 27 26 = sp →
      bits v.toNat 25 22 = 2 ^ p.val → (sp = 1 → bits v.toNat 21 17 < 16) → tb = s.tab sp p.val (bits v.toNat 21 17) → tb.en = true → (tb.kind = 1 ∨ tb.kind = 2 ∨ tb.kind = 8) → tb.entryOk (tb.arg (s.fwdArgs c.val)) = true → (s.find tb (tb.keyOf (tb.arg (s.fwdArgs c.val)))).1 = none →
      ∃ t d, exec (.fwdDelete c q v) s = .next t ∧ t.flag (fwdCmd c.val + 4) 31 = true ∧ mget (fun _ => none) t.dp.fwd.cmd c.val = some d ∧ bits d.result (4 * p.val + 3) (4 * p.val) = 2 ∧
        t.dp.fwd.mem = s.dp.fwd.mem ∧ Keeps [.dp] (oneOf [fwdCmd c.val + 4]) noAddr s t) ∧
    (∀ (s : State) (c : Fin 2) (q : Req) (v : Word) (p : Fin 4) (sp : Nat) (tb : Tab) (e : Nat),
      (c = 0 ∧ q = .mgc ∨ c = 1 ∧ q = .owner) → s.flag (fwdCmd c.val + 4) 31 = false → sp ≠ 2 → bits v.toNat 27 26 = sp →
      bits v.toNat 25 22 = 2 ^ p.val → (sp = 1 → bits v.toNat 21 17 < 16) → tb = s.tab sp p.val (bits v.toNat 21 17) → tb.en = true → (tb.kind = 4 ∨ tb.kind = 5) → e = (s.fwdArgs c.val).entry >>> 256 → e.testBit 255 = true → bits e 254 248 = 0 → bits e 225 128 = 0 →
      bits e 247 240 ≤ (if tb.kind = 4 then 32 else 128) → bits e 127 0 % 2 ^ (128 - bits e 247 240) = 0 →
      (mget (fun _ => 0) s.dp.fwd.lpm (lpmKey p.val (tb.base % 4) (bits e 247 240) (bits e 127 0)) = 0 →
        s.fld (lpmUnits p.val) 20 0 + (if tb.kind = 4 then 1 else 4) ≤ 1048576 →
        ∃ t d, exec (.fwdInsert c q v) s = .next t ∧ t.flag (fwdCmd c.val + 4) 31 = true ∧ mget (fun _ => none) t.dp.fwd.cmd c.val = some d ∧ bits d.result (4 * p.val + 3) (4 * p.val) = 0 ∧
          mget (fun _ => 0) t.dp.fwd.lpm (lpmKey p.val (tb.base % 4) (bits e 247 240) (bits e 127 0)) =
            8 * (bits e 239 226 + 1) + (if tb.kind = 4 then 1 else 4) ∧
          t.fld (lpmUnits p.val) 20 0 = s.fld (lpmUnits p.val) 20 0 + (if tb.kind = 4 then 1 else 4)) ∧
      (mget (fun _ => 0) s.dp.fwd.lpm (lpmKey p.val (tb.base % 4) (bits e 247 240) (bits e 127 0)) ≠ 0 →
        ∃ t d, exec (.fwdDelete c q v) s = .next t ∧ t.flag (fwdCmd c.val + 4) 31 = true ∧ mget (fun _ => none) t.dp.fwd.cmd c.val = some d ∧ bits d.result (4 * p.val + 3) (4 * p.val) = 0 ∧
          mget (fun _ => 0) t.dp.fwd.lpm (lpmKey p.val (tb.base % 4) (bits e 247 240) (bits e 127 0)) = 0)) ∧
    (∀ (s : State) (c : Fin 2) (q : Req) (v : Word) (tb : Tab) (i : Nat), (c = 0 ∧ q = .mgc ∨ c = 1 ∧ q = .owner) →
      s.flag (fwdCmd c.val + 4) 31 = false → bits v.toNat 27 26 = 2 → bits v.toNat 21 17 < 8 → tb = s.tab 2 0 (bits v.toNat 21 17) →
      tb.en = true → tb.kind = 1 → tb.entryOk (tb.arg (s.fwdArgs c.val)) = true → tb.valid (tb.arg (s.fwdArgs c.val)) = true → (s.find tb (tb.keyOf (tb.arg (s.fwdArgs c.val)))).1 = none →
      (tb.slots (tb.keyOf (tb.arg (s.fwdArgs c.val)))).find? (s.slotFree tb) = some i → s.memAllowed .fwd (64 * i) 64 true = true →
      s.safeCh (64 * i) 64 = none → s.mem.init = none →
      ∃ t d, exec (.fwdInsert c q v) s = .next t ∧ t.flag (fwdCmd c.val + 4) 31 = true ∧ mget (fun _ => none) t.dp.fwd.cmd c.val = some d ∧
        d.result = 0xFFF0 ∧ d.slot = some (tb.slotNo i) ∧ t.entry tb i = tb.mark (tb.arg (s.fwdArgs c.val)) 0 0) ∧
    (∀ (s : State) (c : Fin 2) (q : Req) (v : Word), (q ≠ (if c = 0 then .mgc else .owner) ∨ s.flag (fwdCmd c.val + 4) 31 = true) →
      ∀ i ∈ [Instr.fwdInsert c q v, .fwdUpdate c q v, .fwdDelete c q v, .fwdRead c q v, .fwdWriteSlot c q v, .fwdReadSlot c q v,
        .fwdClearSlot c q v, .fwdFlush c q v, .fwdClear c q v], exec i s = .next (s.reject fwdB (fwdCmd c.val - fwdB)))

/-- With the same conditions: WRITE_SLOT of a ternary table writes value, mask and AUX with HIT 0 in a slot of its range; READ_SLOT answers the
words of a good slot of a hashed table, changing nothing; CLEAR_SLOT empties it; FLUSH of an L2 table empties exactly its valid entries that
the selector hits; CLEAR empties a hashed table's range and no other slot of its memory. The completion writes RESULT, with BUSY 0, and
raises FWD_CMD_DONE when asked. Where a clause rests on a choice of the model: log entry 103. (R183; R184; R191; Table 08-3) -/
def Obligations.TableSlotsAreWrittenFlushedAndCleared : Prop :=
  (∀ (s : State) (c : Fin 2) (q : Req) (v : Word) (p : Fin 4) (sp : Nat) (tb : Tab),
      (c = 0 ∧ q = .mgc ∨ c = 1 ∧ q = .owner) → s.flag (fwdCmd c.val + 4) 31 = false → sp ≠ 2 → bits v.toNat 27 26 = sp →
      bits v.toNat 25 22 = 2 ^ p.val → (sp = 1 → bits v.toNat 21 17 < 16) → tb = s.tab sp p.val (bits v.toNat 21 17) → tb.en = true → tb.kind = 3 → tb.base ≤ (s.fwdArgs c.val).slot → (s.fwdArgs c.val).slot < tb.base + 2 ^ tb.log2 → bits (s.fwdArgs c.val).aux 93 74 = 0 →
      ∃ t d, exec (.fwdWriteSlot c q v) s = .next t ∧ t.flag (fwdCmd c.val + 4) 31 = true ∧ mget (fun _ => none) t.dp.fwd.cmd c.val = some d ∧ bits d.result (4 * p.val + 3) (4 * p.val) = 0 ∧
        t.fm tb.mem (s.fwdArgs c.val).slot = (s.fwdArgs c.val).entry * 2 ^ 608 + (s.fwdArgs c.val).mask * 2 ^ 96
          + putBits (s.fwdArgs c.val).aux 94 94 0 ∧ Keeps [.dp] (oneOf [fwdCmd c.val + 4]) noAddr s t) ∧
    (∀ (s : State) (c : Fin 2) (q : Req) (v : Word) (p : Fin 4) (sp : Nat) (tb : Tab),
      (c = 0 ∧ q = .mgc ∨ c = 1 ∧ q = .owner) → s.flag (fwdCmd c.val + 4) 31 = false → sp ≠ 2 → bits v.toNat 27 26 = sp →
      bits v.toNat 25 22 = 2 ^ p.val → (sp = 1 → bits v.toNat 21 17 < 16) → tb = s.tab sp p.val (bits v.toNat 21 17) → tb.en = true → (tb.kind = 1 ∨ tb.kind = 2 ∨ tb.kind = 8) → tb.slotOk (s.fwdArgs c.val).slot = true → s.entryBad tb (s.fwdArgs c.val).slot = false →
      (∃ t d, exec (.fwdReadSlot c q v) s = .next t ∧ t.flag (fwdCmd c.val + 4) 31 = true ∧ mget (fun _ => none) t.dp.fwd.cmd c.val = some d ∧ bits d.result (4 * p.val + 3) (4 * p.val) = 0 ∧
        d.entry = some (entryOut (tb.w / 32) (s.entry tb (s.fwdArgs c.val).slot)) ∧ t.dp.fwd.mem = s.dp.fwd.mem ∧
        Keeps [.dp] (oneOf [fwdCmd c.val + 4]) noAddr s t) ∧
      (∃ t d, exec (.fwdClearSlot c q v) s = .next t ∧ t.flag (fwdCmd c.val + 4) 31 = true ∧ mget (fun _ => none) t.dp.fwd.cmd c.val = some d ∧ bits d.result (4 * p.val + 3) (4 * p.val) = 0 ∧ t.entry tb (s.fwdArgs c.val).slot = 0)) ∧
    (∀ (s : State) (c : Fin 2) (q : Req) (v : Word) (p : Fin 4) (sp : Nat) (tb : Tab),
      (c = 0 ∧ q = .mgc ∨ c = 1 ∧ q = .owner) → s.flag (fwdCmd c.val + 4) 31 = false → sp ≠ 2 → bits v.toNat 27 26 = sp →
      bits v.toNat 25 22 = 2 ^ p.val → (sp = 1 → bits v.toNat 21 17 < 16) → tb = s.tab sp p.val (bits v.toNat 21 17) → tb.en = true → tb.kind = 8 →
      ∃ t d, exec (.fwdFlush c q v) s = .next t ∧ t.flag (fwdCmd c.val + 4) 31 = true ∧ mget (fun _ => none) t.dp.fwd.cmd c.val = some d ∧ bits d.result (4 * p.val + 3) (4 * p.val) = 0 ∧
        ∀ j, tb.slotOk j = true → t.entry tb j = (if tb.valid (s.entry tb j) && flushHit (bits (s.fwdArgs c.val).aux 95 64) (s.entry tb j) then 0
          else s.entry tb j)) ∧
    (∀ (s : State) (c : Fin 2) (q : Req) (v : Word) (p : Fin 4) (sp : Nat) (tb : Tab),
      (c = 0 ∧ q = .mgc ∨ c = 1 ∧ q = .owner) → s.flag (fwdCmd c.val + 4) 31 = false → sp ≠ 2 → bits v.toNat 27 26 = sp →
      bits v.toNat 25 22 = 2 ^ p.val → (sp = 1 → bits v.toNat 21 17 < 16) → tb = s.tab sp p.val (bits v.toNat 21 17) → tb.en = true → (tb.kind = 1 ∨ tb.kind = 2 ∨ tb.kind = 8) →
      ∃ t d, exec (.fwdClear c q v) s = .next t ∧ t.flag (fwdCmd c.val + 4) 31 = true ∧ mget (fun _ => none) t.dp.fwd.cmd c.val = some d ∧ bits d.result (4 * p.val + 3) (4 * p.val) = 0 ∧
        ∀ j, j < 2 ^ 64 → t.fm tb.mem j = (if 4 * tb.base ≤ j ∧ j < 4 * (tb.base + 2 ^ tb.log2) then 0 else s.fm tb.mem j)) ∧
    (∀ (s : State) (c : Fin 2) (d : FwdDone), mget (fun _ => none) s.dp.fwd.cmd c.val = some d → d.result < 65536 →
      ∃ t, exec (.fwdCmdDone c) s = .next t ∧ mget (fun _ => none) t.dp.fwd.cmd c.val = none ∧ t.rd (fwdCmd c.val + 4) = d.result ∧
        (∀ i, d.slot = some i → t.rd (fwdCmd c.val + 8) = i % 2 ^ 32) ∧ (d.irq = true → Raised Ev.fwdCmdDone t))

/-- With FWD in RUN, the oldest learned insert of a pipeline whose key is not there and whose key has a free slot is placed there and counted.
AGE_S after the last sweep, missed sweeps not being made up (the log's choice), in the one table that is swept, a good valid entry that is
not static loses HIT and has AGE 0 when it was hit, else ages by one up to 7, or, under the mode that removes, goes when it reaches AGE_MAX.
A read of FWD_NOTIFY_W0 answers the oldest notification's first word, latches the rest for its requester and pops it. Where a clause rests
on a choice of the model: log entries 99, 100, 101. (R189; R191; R192) -/
def Obligations.TablesLearnAgeAndNotify : Prop :=
  (∀ (s : State) (p : Fin 4) (k v i : Nat) (r : List (Nat × Nat)), s.learnQ p.val = (k, v) :: r → s.running fwdB = true →
      (s.find (s.tab 3 p.val 31) k).1 = none → ((s.tab 3 p.val 31).slots k).find? (s.slotFree (s.tab 3 p.val 31)) = some i →
      ∃ t, exec (.learnedInsert p) s = .next t ∧ t.learnQ p.val = r ∧ t.entry (s.tab 3 p.val 31) i = l2Entry k v ∧
        t.cnt (fwdCnt p.val 0) = min top64 (s.cnt (fwdCnt p.val 0) + 1)) ∧
    (∀ (s : State) (tb : Tab) (i : Nat), s.running fwdB = true → s.dp.fwd.sweptAt + s.fld (fwdB + 0x40) 30 16 * uS ≤ s.mono →
      s.sweepTabs = [tb] → tb.per = 1 → (tb.space = 2 → s.mem.init = none) → i ∈ s.occupied tb → s.entryBad tb i = false → tb.valid (s.entry tb i) = true →
      tb.static (s.entry tb i) = false →
      ∃ t, exec .ageSweep s = .next t ∧ 
        t.dp.fwd.sweptAt = s.mono - (s.mono - (s.dp.fwd.sweptAt + s.fld (fwdB + 0x40) 30 16 * uS)) % (s.fld (fwdB + 0x40) 30 16 * uS) ∧
        t.entry tb i = (if tb.hitBit (s.entry tb i) then tb.mark (s.entry tb i) 0 0
          else if tb.age = 2 ∧ tb.ageMax ≤ min 7 (tb.ageOf (s.entry tb i) + 1) then 0
          else tb.mark (s.entry tb i) 0 (min 7 (tb.ageOf (s.entry tb i) + 1)))) ∧
    (∀ s : State, s.running fwdB = true → s.dp.fwd.sweptAt + s.fld (fwdB + 0x40) 30 16 * uS ≤ s.mono → s.sweepTabs = [] →
      ∃ t, exec .ageSweep s = .next t ∧ t.dp.fwd.mem = s.dp.fwd.mem ∧ Keeps [.dp] noAddr noAddr s t) ∧
    (∀ (s : State) (q : Req) (n : Nat) (r : List Nat), s.dp.fwd.notify = n :: r →
      ∃ t, exec (.fwdNotifyPop q) s = .next t ∧ t.dp.fwd.notify = r ∧
        t.out = .readData q (fwdB + 0x80) (BitVec.ofNat 32 (bits n 127 96)) :: s.out ∧
        t.lat q (fwdB + 0x84) = bits n 95 64 ∧ t.lat q (fwdB + 0x88) = bits n 63 32 ∧ t.lat q (fwdB + 0x8C) = bits n 31 0 ∧
        Keeps [.dp, .latch, .out] (oneOf [fwdB + 0x90]) noAddr s t)

/-- In a cycle that has neither admitted nor emitted, the head SEQ would take leaves its input FIFO and joins the hold at the end with settle
instant entry + SETTLE_NS, late when that lies before the cycle; SEQ_LEVEL and SEQ_LATE_MAX aside, no register changes. In a cycle that has
not emitted, once its admission is done or nothing waits, the settled member with the smallest key leaves the hold, SEQ_NEXT goes up by one
modulo 2^64 and SEQ_CNT_0 counts; with no settled member nothing changes. Where a clause rests on a choice of the model: log entry 106.
(R197; R198; R199; R200) -/
def Obligations.SequencerAdmitsAndNumbers : Prop :=
  (∀ (s : State) (m : Member), s.dp.seq.admitAt ≠ some s.seqCycle → s.dp.seq.emitAt ≠ some s.seqCycle → s.seqHead = some m →
      ∃ t, exec .seqAdmit s = .next t ∧ t.seqFifo m.f.pipe = (s.seqFifo m.f.pipe).drop 1 ∧
        t.dp.seq.hold = s.dp.seq.hold ++ [{ m with settle := m.f.entry + s.settleNs, late := decide (m.f.entry + s.settleNs < s.seqCycle) }] ∧
        t.dp.seq.admitAt = some s.seqCycle ∧ Keeps [.dp] (oneOf [seqB + 0x4C, seqB + 0x50]) noAddr s t) ∧
    (∀ s : State, s.dp.seq.admitAt = some s.seqCycle ∨ s.dp.seq.emitAt = some s.seqCycle ∨ s.seqHead = none → exec .seqAdmit s = .next s) ∧
    (∀ (s : State) (m : Member) (n : Nat), s.dp.seq.emitAt ≠ some s.seqCycle → (s.dp.seq.admitAt = some s.seqCycle ∨ s.seqHead = none) →
      firstMember (s.dp.seq.hold.filter (fun m => decide (m.settle ≤ s.seqCycle))) = some m →
      s.rd (seqB + 0x44) + s.rd (seqB + 0x48) * 2 ^ 32 = n →
      ∃ t, exec .seqEmit s = .next t ∧ t.dp.seq.hold = s.dp.seq.hold.erase m ∧ t.dp.seq.emitAt = some s.seqCycle ∧
        t.rd (seqB + 0x44) + t.rd (seqB + 0x48) * 2 ^ 32 = (n + 1) % 2 ^ 64 ∧
        t.cnt (seqB + 0x100) = min top64 (s.cnt (seqB + 0x100) + 1)) ∧
    (∀ s : State, firstMember (s.dp.seq.hold.filter (fun m => decide (m.settle ≤ s.seqCycle))) = none → exec .seqEmit s = .next s)

/-- With the link UP, LEAD_NS before its release instant the next unfetched held frame that fits the staging share is fetched, through the
memory where it lies there, and stays held. At its start instant the next held frame leaves the hold: fetched, its priority not paused, no
earlier held frame and nothing else in transmission, it starts and its bytes leave the port, PRF_CNT_1 counting; not fetched, paused or
behind an earlier held frame it is missed, PRF_CNT_2 or _3 counting, and with the link down PRF_CNT_6. GROUP_WAIT_US after its first copy a
group has its release time fixed and PRF_GROUP_TIMEOUT is raised. CAL_START on an UP port with none running starts a calibration, else it is
ignored; after 16 measured frames PRF_PORT_ADJ takes their mean and PRF_CAL_DONE is raised. Where a clause rests on a choice of the model:
log entries 95, 107. (R208; R209; R210; R211; R213) -/
def Obligations.ProofingReleasesOnTime : Prop :=
  (∀ (s : State) (p : Fin 16) (h : Held) (i : Instant) (c : Copy), s.nextHeld p.val (fun h => !h.fetched && !h.bad) = some (h, i) →
      c = { h.cp with f := { h.cp.f with bytes := padFrame h.cp.f.bytes } } → i ≤ s.tb + h.lead → s.tb ≤ s.startInstant p.val i →
      s.linkIsUp p.val = true → s.running (macB (p.val / 4)) = true → s.deepServes c = true →
      c.f.bytes.length + 4 ≤ s.frameLimit p.val c.f.bytes → s.stagingUsed p.val + c.f.charged ≤ s.stagingShare p.val →
      ∃ t, exec (.prfFetch p) s = .next t ∧
        t.heldOf p.val = (s.heldOf p.val).map (fun x => if x = h then
          (if (s.deepRead .prf c).1.2 then { h with bad := true } else { h with cp := (s.deepRead .prf c).1.1, fetched := true }) else x) ∧
        (c.at_ = [] → (s.deepRead .prf c).1 = (c, false) ∧
          Keeps [.dp] (oneOf [prfB + 0x200 + 8 * (p.val / 4), prfB + 0x204 + 8 * (p.val / 4)]) noAddr s t)) ∧
    (∀ (s : State) (p : Fin 16) (h : Held) (i : Instant), s.nextHeld p.val (fun _ => true) = some (h, i) → s.startInstant p.val i ≤ s.tb →
      h.cp.vport = p.val → h.cp.grp = none → s.linkIsUp p.val = true → h.fetched = true → (s.mac p.val).cur = none → (s.mac p.val).busyTo ≤ s.mono →
      s.heldSending p.val (s.startInstant p.val i) = false → s.isPaused p.val h.cp.queue = false →
      s.secWants p.val h.cp.f = false → h.cp.f.ptpOff = none → s.recClass h.cp.f 1 = none →
      ∃ t n, exec (.prfRelease p) s = .next t ∧ t.heldOf p.val = (s.heldOf p.val).erase h ∧ t.out = .txFrame p.val h.cp.f.bytes :: s.out ∧
        (t.mac p.val).cur = some n ∧ n.cp = { h.cp with prf := 1 } ∧ n.len = h.cp.f.bytes.length + 4 ∧
        t.cnt (prfCnt (p.val / 4) 1) = min top64 (s.cnt (prfCnt (p.val / 4) 1) + 1)) ∧
    (∀ (s : State) (p : Fin 16) (h : Held) (i : Instant), s.nextHeld p.val (fun _ => true) = some (h, i) → s.startInstant p.val i ≤ s.tb →
      h.cp.vport = p.val → s.linkIsUp p.val = true →
      h.fetched = false ∨ s.heldSending p.val (s.startInstant p.val i) = true ∨ s.isPaused p.val h.cp.queue = true →
      ∃ t, exec (.prfRelease p) s = .next t ∧ Raised Ev.prfMissed t ∧
        t.cnt (prfCnt (p.val / 4) (if h.cp.f.missBit then 3 else 2)) =
          min top64 (s.cnt (prfCnt (p.val / 4) (if h.cp.f.missBit then 3 else 2)) + 1)) ∧
    (∀ (s : State) (p : Fin 16) (h : Held) (i : Instant), s.nextHeld p.val (fun _ => true) = some (h, i) → s.startInstant p.val i ≤ s.tb →
      h.cp.vport = p.val → s.linkIsUp p.val = false →
      ∃ t, exec (.prfRelease p) s = .next t ∧ Raised Ev.prfMissed t ∧
        t.cnt (prfCnt (p.val / 4) 6) = min top64 (s.cnt (prfCnt (p.val / 4) 6) + 1)) ∧
    (∀ (s : State) (p : Fin 16), s.nextHeld p.val (fun _ => true) = none → exec (.prfRelease p) s = .next s) ∧
    (∀ (s : State) (x : Group), s.dp.prf.groups.find? (fun x => x.r.isNone && (match x.first with
        | none => false
        | some t => s.past (t + s.fldA (prfB + 0x40) 15 0 * uUs))) = some x →
      ∃ t, exec .prfGroupTimeout s = .next t ∧ Raised Ev.prfGroupTimeout t ∧
        ∀ y ∈ t.dp.prf.groups, y.id = x.id → y.r = some (s.now + (x.ports.map s.leadOf).foldl max 0 + x.guard)) ∧
    (∀ (s : State) (p : Fin 16), s.linkIsUp p.val = true → s.flag (prfB + 0x104 + 0x10 * p.val) 30 = false →
      ∃ t, exec (.prfCalStart p) s = .next t ∧ t.fld (prfB + 0x104 + 0x10 * p.val) 31 30 = 1 ∧
        mget (fun _ => (16, 0)) t.dp.prf.cal p.val = (16, 0) ∧ Keeps [.dp] (oneOf [prfB + 0x104 + 0x10 * p.val]) noAddr s t) ∧
    (∀ (s : State) (p : Fin 16), s.linkIsUp p.val = false ∨ s.flag (prfB + 0x104 + 0x10 * p.val) 30 = true →
      exec (.prfCalStart p) s = .next s) ∧
    (∀ (s : State) (p : Fin 16) (d : Int), s.flag (prfB + 0x104 + 0x10 * p.val) 30 = true → mget (fun _ => (16, 0)) s.dp.prf.cal p.val = (0, d) →
      ∃ t, exec (.prfCalDone p) s = .next t ∧ Raised Ev.prfCalDone t ∧ t.flag (prfB + 0x104 + 0x10 * p.val) 30 = false ∧
        t.flag (prfB + 0x104 + 0x10 * p.val) 31 = s.flag (tsuB p.val + 0x50) 1 ∧
        t.rd (prfB + 0x10C + 0x10 * p.val) = (BitVec.ofInt 32 (d / 16)).toNat)

/-- With SCH and the quad in RUN, the port UP and able to take a copy, the strict-priority queue with the smallest number among the eligible
ones loses its head to the egress pipeline, under the current egress epoch, and QCNT_1 and QCNT_2 count the frame and its bytes. With the
port down the head of its first queue that holds anything is discarded, QCNT_7 and TX_FLUSH counting. A deep copy that fits the window of
512 cells is read from the memory and moves there; one refused or read with an error is discarded, QCNT_9 counting. A head that FIT held
back through a whole cycle is discarded, QCNT_8 counting. Where a clause rests on a choice of the model: log entries 108, 109, 110. (R113;
R221; R223; R224; R230) -/
def Obligations.QueuesAreServed : Prop :=
  (∀ (s : State) (p : Fin 16) (q : Nat) (c : Copy) (r : List Copy), s.running schB = true → s.linkIsUp p.val = true →
      s.quadServes (p.val / 4) = true → s.canTake p.val = true → q < 32 →
      ((List.range 32).filter (((s.settlePort p.val).noteFit p.val).eligible p.val)).find? (fun q => decide (q < s.spCount p.val)) = some q →
      (s.pq p.val q).copies = c :: r →
      ∃ t, exec (.schDequeue p) s = .next t ∧ (t.pq p.val q).copies = r ∧
        (t.pipe (p.val / 4)).egress = (s.pipe (p.val / 4)).egress ++ [{ c with erse := s.erse (p.val / 4) }] ∧
        t.cnt (schQCnt p.val q 1) = min top64 (s.cnt (schQCnt p.val q 1) + 1) ∧
        t.cnt (schQCnt p.val q 2) = min top64 (s.cnt (schQCnt p.val q 2) + c.f.len)) ∧
    (∀ (s : State) (p : Fin 16) (q : Nat) (c : Copy) (r : List Copy), s.running schB = true → s.linkIsUp p.val = false →
      (List.range 32).find? (fun q => !(s.pq p.val q).copies.isEmpty) = some q → (s.pq p.val q).copies = c :: r →
      ∃ t, exec (.schDequeue p) s = .next t ∧ (t.pq p.val q).copies = r ∧
        t.cnt (schQCnt p.val q 7) = min top64 (s.cnt (schQCnt p.val q 7) + 1) ∧
        t.cnt (macPort p.val + 0x288) = min top64 (s.cnt (macPort p.val + 0x288) + 1)) ∧
    (∀ (s : State) (p : Fin 16), s.running schB = false → exec (.schDequeue p) s = .next s) ∧
    (∀ (s : State) (p : Fin 16) (q : Fin 32) (bad : Bool) (i : Nat) (c : Copy), (s.pq p.val q.val).copies.findIdx? (fun c => c.deep && !c.win) = some i →
      (s.pq p.val q.val).copies[i]? = some c →
      s.running schB = true → s.deepServes c = true →
      ((List.range 32).map (fun k => (((s.pq p k).copies.filter (·.win)).map (·.cells)).sum)).sum + c.cells ≤ 512 →
      if bad || (s.deepRead .refill c).1.2 then
        ∃ t, exec (.deepRefillDone p q bad) s = .next t ∧ (t.pq p.val q.val).copies = (s.pq p.val q.val).copies.eraseIdx i ∧
          t.cnt (schQCnt p.val q.val 9) = min top64 (s.cnt (schQCnt p.val q.val 9) + 1)
      else
        ∃ t, exec (.deepRefillDone p q bad) s = .next t ∧ (t.pq p.val q.val).copies = (s.pq p.val q.val).copies.set i
          { (s.deepRead .refill c).1.1 with win := true, at_ := if c.proofs then c.at_ else [] }) ∧
    (∀ (s : State) (p : Fin 16) (q : Fin 32) (c : Copy) (r : List Copy) (u : Nat) (b : OrbBank), (s.pq p.val q.val).copies = c :: r →
      (s.pq p.val q.val).fitAt = some u → s.orbRun p.val = some b → max u (s.orb p.val).since + b.cycle ≤ s.mono →
      s.flag (orbA p.val) 30 = true → (s.fitHolds p.val q.val c = true ∨ (s.gatesAt p.val s.tb).testBit q.val = false) →
      ∃ t, exec (.fitDiscard p q) s = .next t ∧ (t.pq p.val q.val).copies = r ∧
        t.cnt (schQCnt p.val q.val 8) = min top64 (s.cnt (schQCnt p.val q.val 8) + 1))

/-- A gate edge sets the gates to those in force now. At S the pending bank becomes the active one and ORB_SWITCH is raised. EN with SWITCH, or
EN set from 0, makes the other bank pending from its first cycle start 1 us from now on, unless one is pending or that bank has no entry or
no cycle: then the write is discarded and counted; EN 0 opens every gate and drops what is pending; EN 1 again without SWITCH only sets FIT.
POL_WRITE writes the policer's words and clears its counts, one with PIR below CIR under MODE 0 being discarded; POL_READ loads its words as
they are; either is discarded while BUSY. Where a clause rests on a choice of the model: log entry 111. (R226; R227; R228; R229; R472) -/
def Obligations.OrbitAndPolicersAreSet : Prop :=
  (∀ (s : State) (p : Fin 16), ∃ t, exec (.orbGateEdge p) s = .next t ∧ (t.orb p.val).gates = s.gatesAt p.val s.tb ∧
      (t.orb p.val).running = (s.orb p.val).running ∧ Keeps [.dp] noAddr noAddr s t) ∧
    (∀ (s : State) (p : Fin 16), s.orbEn p.val = true → s.orbPending p.val = true → (s.orb p.val).start ≤ s.tb →
      ∃ t, exec (.orbBankTakeover p) s = .next t ∧ t.orbActive p.val = 1 - s.orbActive p.val ∧ t.orbPending p.val = false ∧
        (t.orb p.val).running = true ∧ (t.orb p.val).since = s.mono ∧ Raised Ev.orbSwitch t ∧
        KeepsEv schB [.dp] (oneOf [orbA p.val]) noAddr s t) ∧
    (∀ (s : State) (p : Fin 16) (fit : Bool), s.orbPending p.val = false →
      s.fld (orbA p.val + 0x20 + 0x20 * (1 - s.orbActive p.val) + 16) 10 0 ≠ 0 → s.fld (orbA p.val + 0x20 + 0x20 * (1 - s.orbActive p.val) + 12) 29 0 ≠ 0 →
      (∃ t, exec (.orbSwitchWrite p fit) s = .next t ∧ t.orbEn p.val = true ∧ t.flag (orbA p.val) 30 = fit ∧ t.orbPending p.val = true ∧
        t.orbActive p.val = s.orbActive p.val ∧ (t.orb p.val).start = (s.orbBank p.val (1 - s.orbActive p.val)).first (s.tb + uUs) ∧
        Keeps [.dp] (oneOf [orbA p.val]) noAddr s t) ∧
      (s.orbEn p.val = false → ∃ t, exec (.orbEnWrite p true fit) s = .next t ∧ t.orbEn p.val = true ∧ t.flag (orbA p.val) 30 = fit ∧
        t.orbPending p.val = true ∧ (t.orb p.val).start = (s.orbBank p.val (1 - s.orbActive p.val)).first (s.tb + uUs))) ∧
    (∀ (s : State) (p : Fin 16) (fit : Bool), (s.orbPending p.val = true ∨
      s.fld (orbA p.val + 0x20 + 0x20 * (1 - s.orbActive p.val) + 16) 10 0 = 0 ∨ s.fld (orbA p.val + 0x20 + 0x20 * (1 - s.orbActive p.val) + 12) 29 0 = 0) →
      ∃ t, exec (.orbSwitchWrite p fit) s = .next t ∧ t.rd (orbA p.val) = s.rd (orbA p.val) ∧ t.rd (schB + 0x10) = min top32 (s.rd (schB + 0x10) + 1) ∧
        Raised Ev.cfgReject t) ∧
    (∀ (s : State) (p : Fin 16) (fit : Bool), ∃ t, exec (.orbEnWrite p false fit) s = .next t ∧ t.orbEn p.val = false ∧ t.orbPending p.val = false ∧
      (t.orb p.val).running = false ∧ (∀ u, t.gatesAt p.val u = 0xFFFFFFFF) ∧ Keeps [.dp] (oneOf [orbA p.val]) noAddr s t) ∧
    (∀ (s : State) (p : Fin 16) (fit : Bool), s.orbEn p.val = true → ∃ t, exec (.orbEnWrite p true fit) s = .next t ∧
      t.flag (orbA p.val) 30 = fit ∧ t.orbEn p.val = true ∧ t.orb p.val = s.orb p.val ∧ Keeps [.dp] (oneOf [orbA p.val]) noAddr s t) ∧
    (∀ (s : State) (k : BitVec 13), s.dp.sch.polBusy ≤ s.mono → s.flag (polW 0) 31 = true ∨ s.fld (polW 0) 23 0 ≤ s.fld (polW 1) 23 0 →
      ∃ t, exec (.polWrite k) s = .next t ∧
        (t.pol k.toNat).w.toNat = pk [(32, Nat.land (s.rd (polW 0)) 0xF0FFFFFF), (32, Nat.land (s.rd (polW 1)) 0xFFFFFF),
          (32, Nat.land (s.rd (polW 2)) 0xFFFFFF), (32, Nat.land (s.rd (polW 3)) 0xFFFFFF)] ∧
        (t.pol k.toNat).yellow = 0 ∧ (t.pol k.toNat).red = 0 ∧ (∀ j, j ≠ k.toNat → t.pol j = s.pol j) ∧
        Keeps [.dp, .free] (oneOf [schB + 0x200000]) noAddr s t) ∧
    (∀ (s : State) (k : BitVec 13), s.mono < s.dp.sch.polBusy → exec (.polRead k) s = .next (s.reject schB 0x200000)) ∧
    (∀ (s : State) (k : BitVec 13), s.mono < s.dp.sch.polBusy ∨ (s.flag (polW 0) 31 = false ∧ s.fld (polW 1) 23 0 < s.fld (polW 0) 23 0) →
      exec (.polWrite k) s = .next (s.reject schB 0x200000)) ∧
    (∀ (s : State) (k : BitVec 13), s.dp.sch.polBusy ≤ s.mono → ∃ t, exec (.polRead k) s = .next t ∧ t.pol k.toNat = (s.pol k.toNat).fill s.mono ∧
      (∀ i : Fin 4, t.rd (polW i.val) = (s.pol k.toNat).word i.val) ∧ (∀ j, j ≠ k.toNat → t.pol j = s.pol j) ∧
      Keeps [.dp, .free] (fun a => schB + 0x200000 ≤ a ∧ a ≤ polW 7) noAddr s t)

/-- With the quantum of its turn over for the RUNNING thread of a running cluster: with no other thread of the engine READY it goes on with a
fresh quantum and nothing else changes; else the thread that the slot table chooses runs, and a different one left is READY. A WAITING
thread with a pending input takes the lowest-numbered one: it completes its wait with that input and is READY or RUNNING. A timer that has
been reached is pending from then on; one not reached changes nothing. A signal from outside adds one to a signal input below 255, and is
counted as an overflow on a full one or on an input of another kind. Where a clause rests on a choice of the model: log entry 40. (R237;
R238; R240; R241; R250; Table 11-4) -/
def Obligations.ThreadsTurnWakeAndAreSignalled : Prop :=
  (∀ (s : State) (c : Fin 12) (e : Fin 16) (t : Nat), (s.eng (16 * c.val + e.val)).run = some t → s.cluRuns c.val = true → s.replays c.val = false →
      s.cluHeld c.val = false → (s.thr t).state = 2 → (s.eng (16 * c.val + e.val)).quant + (s.eng (16 * c.val + e.val)).qlen * 32768 ≤ s.mono →
      ((∀ i : Fin 8, 8 * (16 * c.val + e.val) + i.val ≠ t → (s.thr (8 * (16 * c.val + e.val) + i.val)).state ≠ 1) →
        ∃ u, exec (.quantumExpire c e) s = .next u ∧ (u.eng (16 * c.val + e.val)).quant = s.mono ∧ u.en.thr = s.en.thr ∧
          Keeps [.en] noAddr noAddr s u) ∧
      (∀ (i : Fin 8) (j x : Nat), 8 * (16 * c.val + e.val) + i.val ≠ t → (s.thr (8 * (16 * c.val + e.val) + i.val)).state = 1 →
        s.turnPick (16 * c.val + e.val) (some t) = some (j, x) →
        ∃ u, exec (.quantumExpire c e) s = .next u ∧ (u.eng (16 * c.val + e.val)).run = some x ∧ (u.eng (16 * c.val + e.val)).last = j ∧
          (u.thr x).state = 2 ∧ (x ≠ t → (u.thr t).state = 1) ∧ (u.thr t).pc = (s.thr t).pc)) ∧
    (∀ (s : State) (t : Fin 1536) (i : Nat), s.thrLive t.val = true → (s.thr t.val).state = 4 → (s.thr t.val).step = false →
      s.evPick t.val (s.thr t.val).mask = some i →
      ∃ u, exec (.eventWake t) s = .next u ∧ Completes s u t.val (s.wordAt t.val) 0 i ∧ (u.thr t.val).event = i ∧
        ((u.thr t.val).state = 1 ∨ (u.thr t.val).state = 2) ∧
        (s.bindKind t.val i = 0 → u.sigCount t.val i = s.sigCount t.val i - 1) ∧ (s.bindKind t.val i = 4 → (u.thr t.val).timer = none)) ∧
    (∀ (s : State) (t : Fin 1536), s.evPick t.val (s.thr t.val).mask = none → exec (.eventWake t) s = .next s) ∧
    (∀ (s : State) (t : Fin 1536), (s.timerDue t.val = true →
        ∃ u, exec (.timerFire t) s = .next u ∧ (u.thr t.val).fired = true ∧ (∀ x, x ≠ t.val → u.thr x = s.thr x) ∧ Keeps [.en] noAddr noAddr s u) ∧
      (s.timerDue t.val = false → exec (.timerFire t) s = .next s)) ∧
    (∀ (s : State) (c : Fin 12) (v : Word) (t i : Nat), t = 128 * c.val + 8 * bits v.toNat 19 16 + bits v.toNat 10 8 → i = bits v.toNat 4 0 →
      (s.bindKind t i = 0 → s.sigCount t i < 255 →
        ∃ u, exec (.engSignalWrite c v) s = .next u ∧ u.sigCount t i = s.sigCount t i + 1 ∧ (∀ x, x ≠ t → u.thr x = s.thr x) ∧
          (u.thr t).pc = (s.thr t).pc ∧ Keeps [.en] noAddr noAddr s u) ∧
      ((s.bindKind t i ≠ 0 ∨ 255 ≤ s.sigCount t i) →
        ∃ u, exec (.engSignalWrite c v) s = .next u ∧ u.en.thr = s.en.thr ∧ Raised Ev.engEvtOverflow u ∧
          u.cnt (engB c.val + 0x218) = min top64 (s.cnt (engB c.val + 0x218) + 1))) ∧
    (∀ (s : State) (c : Fin 12) (t i : Nat), t = 128 * c.val + 8 * s.fld (engB c.val + 0x58) 30 27 + s.fld (engB c.val + 0x58) 26 24 →
      i = s.fld (engB c.val + 0x58) 23 19 → s.bindKind t i = 0 → s.sigCount t i < 255 →
      ∃ u, exec (.dlRescue c) s = .next u ∧ u.sigCount t i = s.sigCount t i + 1 ∧ (∀ x, x ≠ t → u.thr x = s.thr x) ∧
        Keeps [.en] noAddr noAddr s u)

/-- A scope whose detector runs and whose deadlock condition has held for WINDOW_US, not yet found since it began, is found: with no snapshot
held in it every cluster of it gets its snapshot mark, ENG_CNT_4 counts there and ENG_DEADLOCK is raised; without the condition nothing
changes. An uncommitted oldest reservation older than HOLD_US sets HOLD and raises CHN_HOLD once. CHN_VOID of the reservation that HOLD
reports voids it, any other is discarded and counted. A channel reset discards every slot, counts them, and brings the read index to the
reserve index. Where a clause rests on a choice of the model: log entry 116. (R246; R248; R249; R250) -/
def Obligations.DeadlocksAndHeldChannelsAreFound : Prop :=
  (∀ (s : State) (d : Fin 13) (b : Nat), s.dlStart d = some b → (s.dlCfg d).1 = true → b + (s.dlCfg d).2 ≤ s.mono → s.dlAt d ≠ some b →
      (∀ c ∈ s.scopeClus d, s.flag (engB c + 0x5C) 31 = false) →
      ∃ u, exec (.deadlockDetect d) s = .next u ∧ u.dlAt d = some b ∧ Raised Ev.engDeadlock u ∧
        ∀ c ∈ s.scopeClus d, u.flag (engB c + 0x5C) 31 = true ∧ u.cnt (engB c + 0x220) = min top64 (s.cnt (engB c + 0x220) + 1)) ∧
    (∀ (s : State) (d : Fin 13), s.dlStart d = none → exec (.deadlockDetect d) s = .next s) ∧
    (∀ (s : State) (n : Fin 1024) (x : Slot), (s.chan n.val).slots.find? (fun x => x.st = 0) = some x → x.held = false →
      x.since + s.fld (chnA n.val + 4) 15 0 * uUs < s.mono →
      ∃ u, exec (.chnHoldDetect n) s = .next u ∧ u.flag (chnA n.val + 0xC) 31 = true ∧ Raised Ev.chnHold u ∧
        (u.chan n.val).slots.length = (s.chan n.val).slots.length ∧ KeepsEv (engB 0) [.en] (oneOf [chnA n.val + 0xC]) noAddr s u) ∧
    (∀ (s : State) (n : Fin 1024) (x : Slot), (s.chan n.val).slots.find? (fun x => x.st = 0) = some x →
      (x.held = true ∨ s.mono ≤ x.since + s.fld (chnA n.val + 4) 15 0 * uUs) → exec (.chnHoldDetect n) s = .next s) ∧
    (∀ (s : State) (v : Word) (x : Slot), (s.chan (bits v.toNat 25 16)).slots.find? (fun x => x.st = 0) = some x →
      (x.held = true → x.idx = bits v.toNat 15 0 →
        ∃ u, exec (.chnVoidWrite v) s = .next u ∧
          (u.chan (bits v.toNat 25 16)).slots = (s.chan (bits v.toNat 25 16)).slots.map (fun y => if y = x then { y with st := 2 } else y) ∧
          Keeps [.en] (oneOf [chnA (bits v.toNat 25 16) + 0x18, chnA (bits v.toNat 25 16) + 0xC]) noAddr s u) ∧
      (x.held = false ∨ x.idx ≠ bits v.toNat 15 0 → exec (.chnVoidWrite v) s = .next (s.reject (engB 0) 0x80004))) ∧
    (∀ (s : State) (n : Fin 1024), ∃ u, exec (.chnCfgReset n) s = .next u ∧ (u.chan n.val).slots = [] ∧
      u.fld (chnA n.val + 8) 15 0 = s.fld (chnA n.val + 8) 31 16 ∧
      u.rd (chnA n.val + 0x18) = min top32 (s.rd (chnA n.val + 0x18) + (s.chan n.val).slots.length) ∧
      Keeps [.en] (oneOf [chnA n.val + 8, chnA n.val + 0x18, chnA n.val + 0xC]) noAddr s u)

/-- ENG_LOAD_CTRL.START in QUIESCED goes to LOADING with BUSY, its input queues empty and its reservations voided; in any other state it is
discarded and counted. In LOADING, with the image readable, the load ends in QUIESCED with the RESULT of the checks: 0 writes the image's
code and data, clears every thread and raises ENG_LOAD_DONE; another keeps code and data and raises ENG_LOAD_FAIL; a region refusal or an
uncorrectable read ends with RESULT 3. CLUSTER_SAFE takes a cluster in RUN or QUIESCING to QUIESCED and SAFE and raises ENG_FAULT. Where a
clause rests on a choice of the model: log entry 124. (R251; R252; R278; Table 11-5) -/
def Obligations.ClustersLoadAndGoSafe : Prop :=
  (∀ (s : State) (c : Fin 12), s.blkState (engB c.val) = 2 →
      ∃ u, exec (.engLoadStart c) s = .next u ∧ u.blkState (engB c.val) = 4 ∧ u.flag (engB c.val + 0x44) 30 = true ∧
        (∀ q, q < 16 → u.vq (272 + c.val) q = []) ∧ (∀ t ∈ thrsOf c.val, (u.thr t).res = [])) ∧
    (∀ (s : State) (c : Fin 12), s.blkState (engB c.val) ≠ 2 → exec (.engLoadStart c) s = .next (s.reject (engB c.val) 0x44)) ∧
    (∀ (s : State) (c : Fin 12) (e : Ecc) (a n : Nat) (b : List Byte), s.blkState (engB c.val) = 4 →
      a = s.rd (engB c.val + 0x48) + s.rd (engB c.val + 0x4C) * 2 ^ 32 → n = s.fld (engB c.val + 0x50) 20 0 →
      s.memAllowed (.loader c) a n false = true → s.memServes a n = true → (s.memRead a n e).1 = (b, false) →
      ∃ u, exec (.engLoadEnd c e) s = .next u ∧ u.blkState (engB c.val) = 2 ∧ u.flag (engB c.val + 0x44) 30 = false ∧
        u.fld (engB c.val + 0x44) 3 0 = imgCheck b ∧
        (imgCheck b = 0 → Raised Ev.engLoadDone u ∧ (u.clu c.val).code = loadCode b (ofTyp (imgSects b) 1) (s.clu c.val).code ∧
          (u.clu c.val).dmem = loadData b (ofTyp (imgSects b) 2) ∧ (u.clu c.val).handles = [] ∧ u.safe (engB c.val) = false ∧
          ∀ t ∈ thrsOf c.val, (u.thr t).g = [] ∧ (u.thr t).state = 0 ∧ (u.thr t).retired = 0) ∧
        (imgCheck b ≠ 0 → Raised Ev.engLoadFail u ∧ u.en = s.en)) ∧
    (∀ (s : State) (c : Fin 12) (e : Ecc), s.blkState (engB c.val) = 4 →
      s.memAllowed (.loader c) (s.rd (engB c.val + 0x48) + s.rd (engB c.val + 0x4C) * 2 ^ 32) (s.fld (engB c.val + 0x50) 20 0) false = false →
      ∃ u, exec (.engLoadEnd c e) s = .next u ∧ u.blkState (engB c.val) = 2 ∧ u.fld (engB c.val + 0x44) 3 0 = 3 ∧ Raised Ev.engLoadFail u ∧ u.en = s.en) ∧
    (∀ (s : State) (c : Fin 12), s.blkState (engB c.val) ≤ 1 →
      ∃ u, exec (.clusterSafe c) s = .next u ∧ u.blkState (engB c.val) = 2 ∧ u.safe (engB c.val) = true ∧ Raised Ev.engFault u ∧
        (u.clu c.val).dmem = (s.clu c.val).dmem) ∧
    (∀ (s : State) (c : Fin 12), 1 < s.blkState (engB c.val) → exec (.clusterSafe c) s = .next s)

/-- For each of ADD, SUB, AND, OR, XOR, ANDN, the shifts and ROR, the compares, minima and maxima, MUL, MULH, MULHU, CLZ, CTZ, POPC and the byte
swaps: when an engine issues it, rd takes the value that Table 12-2 gives for rs1 and rs2 (none where rd is g0), the thread goes on at pc +
4 with one more retired, and every other register, thread, engine, channel, memory and register word stays. With imm the 16-bit immediate,
sign- or zero-extended as Table 12-2 says, ADDI, ANDI, ORI, XORI, SLTI, SLTIU, SHI and BFX give rd their value of rs1; INSH replaces one
halfword of rd, and BFI the bits [p+l-1:p] of rd up to bit 63, the other bits of rd kept. The thread goes on at pc + 4 and nothing else
changes. (R255; R256; R257; Table 12-2) -/
def Obligations.ArithmeticInstructionsWriteTheirResult : Prop :=
  (∀ x ∈ ([
      (Instr.iAdd, Iop.add, fun a b => BitVec.ofNat 64 (a.toNat + b.toNat)), (.iSub, .sub, fun a b => BitVec.ofInt 64 (a.toInt - b.toInt)),
      (.iAnd, .and_, fun a b => a &&& b), (.iOr, .or_, fun a b => a ||| b), (.iXor, .xor_, fun a b => a ^^^ b), (.iAndn, .andn, fun a b => a &&& ~~~ b),
      (.iSll, .sll, fun a b => BitVec.ofNat 64 (a.toNat * 2 ^ (b.toNat % 64))), (.iSrl, .srl, fun a b => BitVec.ofNat 64 (a.toNat / 2 ^ (b.toNat % 64))),
      (.iSra, .sra, fun a b => BitVec.ofInt 64 (a.toInt / 2 ^ (b.toNat % 64))),
      (.iRor, .ror, fun a b => (a >>> (b.toNat % 64)) ||| (a <<< (64 - b.toNat % 64))),
      (.iSlt, .slt, fun a b => if a.toInt < b.toInt then 1 else 0), (.iSltu, .sltu, fun a b => if a.toNat < b.toNat then 1 else 0),
      (.iMin, .min_, fun a b => if a.toInt ≤ b.toInt then a else b), (.iMax, .max_, fun a b => if b.toInt ≤ a.toInt then a else b),
      (.iMinu, .minu, fun a b => if a.toNat ≤ b.toNat then a else b), (.iMaxu, .maxu, fun a b => if b.toNat ≤ a.toNat then a else b),
      (.iMul, .mul, fun a b => BitVec.ofNat 64 (a.toNat * b.toNat)),
      (.iMulh, .mulh, fun a b => ((a.signExtend 128 * b.signExtend 128) >>> 64).setWidth 64),
      (.iMulhu, .mulhu, fun a b => ((a.setWidth 128 * b.setWidth 128) >>> 64).setWidth 64),
      (.iClz, .clz, fun a _ => BitVec.ofNat 64 ((List.range 64).takeWhile (fun i => !a.getLsbD (63 - i))).length),
      (.iCtz, .ctz, fun a _ => BitVec.ofNat 64 ((List.range 64).takeWhile (fun i => !a.getLsbD i)).length),
      (.iPopc, .popc, fun a _ => BitVec.ofNat 64 ((List.range 64).filter (fun i => a.getLsbD i)).length),
      (.iBswap, .bswap, fun a _ => BitVec.ofNat 64 ((List.range 8).map (fun i => a.toNat / 2 ^ (8 * i) % 256 * 2 ^ (8 * (7 - i)))).sum),
      (.iBswap32, .bswap32, fun a _ => BitVec.ofNat 64 ((List.range 4).map (fun i => a.toNat / 2 ^ (8 * i) % 256 * 2 ^ (8 * (3 - i)))).sum),
      (.iBswap16, .bswap16, fun a _ => BitVec.ofNat 64 ((List.range 2).map (fun i => a.toNat / 2 ^ (8 * i) % 256 * 2 ^ (8 * (1 - i)))).sum)]
      : List ((Fin 12 → Fin 16 → Instr) × Iop × (DWord → DWord → DWord))),
    ∀ (s : State) (c : Fin 12) (e : Fin 16) (t w : Nat), Issues s c e t w (some x.2.1) →
      ∃ u, exec (x.1 c e) s = .next u ∧ WritesRd s u t w (x.2.2 (s.gr t (wRs1 w)) (s.gr t (wRs2 w))) ∧
        Retires s u t ((s.thr t).pc + 4) ∧ CluKept s u) ∧
    (∀ x ∈ ([
      (Instr.iAddi, Iop.addi, fun a m _ => BitVec.ofInt 64 (a.toInt + (if m < 2 ^ 15 then (m : Int) else m - 2 ^ 16))),
      (.iAndi, .andi, fun a m _ => a &&& BitVec.ofNat 64 m), (.iOri, .ori, fun a m _ => a ||| BitVec.ofNat 64 m),
      (.iXori, .xori, fun a m _ => a ^^^ BitVec.ofNat 64 m),
      (.iSlti, .slti, fun a m _ => if a.toInt < (if m < 2 ^ 15 then (m : Int) else m - 2 ^ 16) then 1 else 0),
      (.iSltiu, .sltiu, fun a m _ => if a.toNat < (if m < 2 ^ 15 then m else 2 ^ 64 + m - 2 ^ 16) then 1 else 0),
      (.iShi, .shi, fun a m _ => if m / 2 ^ 14 = 0 then BitVec.ofNat 64 (a.toNat * 2 ^ (m % 64)) else if m / 2 ^ 14 = 1 then BitVec.ofNat 64 (a.toNat / 2 ^ (m % 64))
        else if m / 2 ^ 14 = 2 then BitVec.ofInt 64 (a.toInt / 2 ^ (m % 64)) else (a >>> (m % 64)) ||| (a <<< (64 - m % 64))),
      (.iBfx, .bfx, fun a m _ => (a >>> (m / 256 % 64)) &&& BitVec.ofNat 64 (2 ^ (m % 64 + 1) - 1)),
      (.iInsh, .insh, fun _ m w => BitVec.ofNat 64 (m * 2 ^ (16 * (wRs1 w % 4)))),
      (.iBfi, .bfi, fun a m _ => BitVec.ofNat 64 (a.toNat % 2 ^ (m % 64 + 1) * 2 ^ (m / 256 % 64)))]
      : List ((Fin 12 → Fin 16 → Instr) × Iop × (DWord → Nat → Nat → DWord))),
    ∀ (s : State) (c : Fin 12) (e : Fin 16) (t w : Nat), Issues s c e t w (some x.2.1) →
      ∃ u, exec (x.1 c e) s = .next u ∧ Retires s u t ((s.thr t).pc + 4) ∧ CluKept s u ∧
        WritesRd s u t w (
          if x.2.1 = .insh then (s.gr t (wRd w) &&& ~~~ BitVec.ofNat 64 (0xFFFF * 2 ^ (16 * (wRs1 w % 4)))) ||| x.2.2 0 (wImm w) w
          else if x.2.1 = .bfi then
            (s.gr t (wRd w) &&& ~~~ BitVec.ofNat 64 ((2 ^ (wImm w % 64 + 1) - 1) * 2 ^ (wImm w / 256 % 64))) ||| x.2.2 (s.gr t (wRs1 w)) (wImm w) w
          else x.2.2 (s.gr t (wRs1 w)) (wImm w) w))

/-- At address a = rs1 + sext(imm) modulo 2^64, aligned and below 0x10_0000: a load gives rd the little-endian value of its bytes, zero- or
sign-extended, and changes no memory; a store writes the low bytes of the rd-field register at a and no other byte. A misaligned access
faults with MISALIGNED, one at or above 0x10_0000 with DMEM_RANGE, without effect. (R257; R258; R274; Table 12-2; Table 12-7) -/
def Obligations.LoadsAndStoresActOnDataMemory : Prop :=
  (∀ x ∈ ([(Instr.iLdb, Iop.ldb, 1, false), (.iLdh, .ldh, 2, false), (.iLdw, .ldw, 4, false), (.iLdd, .ldd, 8, false),
      (.iLdbs, .ldbs, 1, true), (.iLdhs, .ldhs, 2, true), (.iLdws, .ldws, 4, true)] : List ((Fin 12 → Fin 16 → Instr) × Iop × Nat × Bool)),
    ∀ (s : State) (c : Fin 12) (e : Fin 16) (t w a v : Nat), Issues s c e t w (some x.2.1) → a = s.effAddr t w →
      v = ((List.range x.2.2.1).map (fun i => (s.dByte c.val (a + i)).toNat * 256 ^ i)).sum →
      (a % x.2.2.1 = 0 → a < 0x100000 →
        ∃ u, exec (x.1 c e) s = .next u ∧ Retires s u t ((s.thr t).pc + 4) ∧ CluKept s u ∧
          WritesRd s u t w (BitVec.ofInt 64 (if x.2.2.2 ∧ 2 ^ (8 * x.2.2.1 - 1) ≤ v then (v : Int) - 2 ^ (8 * x.2.2.1) else v))) ∧
      (a % x.2.2.1 ≠ 0 → ∃ u, exec (x.1 c e) s = .next u ∧ Faults s u t 2 a) ∧
      (a % x.2.2.1 = 0 → 0x100000 ≤ a → ∃ u, exec (x.1 c e) s = .next u ∧ Faults s u t 3 a)) ∧
    (∀ x ∈ ([(Instr.iStb, Iop.stb, 1), (.iSth, .sth, 2), (.iStw, .stw, 4), (.iStd, .std, 8)] : List ((Fin 12 → Fin 16 → Instr) × Iop × Nat)),
    ∀ (s : State) (c : Fin 12) (e : Fin 16) (t w a : Nat), Issues s c e t w (some x.2.1) → a = s.effAddr t w →
      (a % x.2.2 = 0 → a < 0x100000 →
        ∃ u, exec (x.1 c e) s = .next u ∧ Retires s u t ((s.thr t).pc + 4) ∧ (∀ n, u.gr t n = s.gr t n) ∧
          (∀ i, i < x.2.2 → (u.dByte c.val (a + i)).toNat = (s.gr t (wRd w)).toNat / 256 ^ i % 256) ∧
          (∀ d b, (d ≠ c.val ∨ b < a ∨ a + x.2.2 ≤ b) → u.dByte d b = s.dByte d b) ∧
          (∀ d, (u.clu d).code = (s.clu d).code ∧ (u.clu d).handles = (s.clu d).handles)) ∧
      (a % x.2.2 ≠ 0 → ∃ u, exec (x.1 c e) s = .next u ∧ Faults s u t 2 a) ∧
      (a % x.2.2 = 0 → 0x100000 ≤ a → ∃ u, exec (x.1 c e) s = .next u ∧ Faults s u t 3 a))

/-- A word of opcode 0x28 decodes by its FN to SWAP, ADD, AND, OR, CAS, MAX (signed) and MIN (signed), and to nothing beyond 6. When an engine
issues one at the 8-aligned address in rs1 below 0x10_0000, one step gives rd the old 8 bytes and writes the new value over them: rs2, the
sum, the AND, the OR, rs2 where the memory equals rd as it was (CAS), the larger or the smaller; no other byte of data memory changes. A
misaligned address faults with MISALIGNED and one at or above 0x10_0000 with DMEM_RANGE. (R259) -/
def Obligations.AtomicsReadAndWriteEightBytesAtOnce : Prop :=
  (∀ w : Nat, wOp w = 0x28 → iDecode w = ([.swap, .aadd, .aand, .aor, .cas, .amax, .amin] : List Iop)[wFn w]?) ∧
    (∀ x ∈ ([(Instr.iAmoSwap, Iop.swap, fun _ b _ => b), (.iAmoAdd, .aadd, fun o b _ => o + b), (.iAmoAnd, .aand, fun o b _ => o &&& b),
      (.iAmoOr, .aor, fun o b _ => o ||| b), (.iAmoCas, .cas, fun o b d => if o = d then b else o),
      (.iAmoMax, .amax, fun o b _ => if o.toInt < b.toInt then b else o), (.iAmoMin, .amin, fun o b _ => if b.toInt < o.toInt then b else o)]
      : List ((Fin 12 → Fin 16 → Instr) × Iop × (DWord → DWord → DWord → DWord))),
    ∀ (s : State) (c : Fin 12) (e : Fin 16) (t w a : Nat) (o : DWord), Issues s c e t w (some x.2.1) → a = s.opA t w →
      o = BitVec.ofNat 64 ((List.range 8).map (fun i => (s.dByte c.val (a + i)).toNat * 256 ^ i)).sum →
      (a % 8 = 0 → a < 0x100000 →
        ∃ u, exec (x.1 c e) s = .next u ∧ WritesRd s u t w o ∧ (u.thr t).pc = ((s.thr t).pc + 4) % 2 ^ 64 ∧
          (∀ i, i < 8 → (u.dByte c.val (a + i)).toNat = (x.2.2 o (s.gr t (wRs2 w)) (s.gr t (wRd w))).toNat / 256 ^ i % 256) ∧
          (∀ d b, (d ≠ c.val ∨ b < a ∨ a + 8 ≤ b) → u.dByte d b = s.dByte d b)) ∧
      (a % 8 ≠ 0 → ∃ u, exec (x.1 c e) s = .next u ∧ Faults s u t 2 a) ∧
      (a % 8 = 0 → 0x100000 ≤ a → ∃ u, exec (x.1 c e) s = .next u ∧ Faults s u t 3 a))

/-- A branch compares its two registers and goes to pc + 4 times the sign-extended offset, else to pc + 4; JAL and JALR write pc + 4 to rd and
go to 4 times the target, and to rs1 + sext(imm) as it was before, which must be 4-aligned or it faults with MISALIGNED; nothing else
changes. TRAP faults with code 7, BKPT with breakpoints disabled with code 8, and a word that names no operation with ILLEGAL, code 1.
(R257; R258; R269; R274; Table 12-2; Table 12-7) -/
def Obligations.BranchesAndJumpsSetThePc : Prop :=
  (∀ x ∈ ([(Instr.iBeq, Iop.beq, fun a b => decide (a = b)), (.iBne, .bne, fun a b => decide (a ≠ b)), (.iBlt, .blt, fun a b => decide (a.toInt < b.toInt)),
      (.iBge, .bge, fun a b => decide (b.toInt ≤ a.toInt)), (.iBltu, .bltu, fun a b => decide (a.toNat < b.toNat)),
      (.iBgeu, .bgeu, fun a b => decide (b.toNat ≤ a.toNat))] : List ((Fin 12 → Fin 16 → Instr) × Iop × (DWord → DWord → Bool))),
    ∀ (s : State) (c : Fin 12) (e : Fin 16) (t w : Nat), Issues s c e t w (some x.2.1) →
      ∃ u, exec (x.1 c e) s = .next u ∧ CluKept s u ∧ (∀ n, u.gr t n = s.gr t n) ∧
        Retires s u t (if x.2.2 (s.gr t (wRd w)) (s.gr t (wRs1 w)) then
          (((s.thr t).pc : Int) + 4 * (if wImm w < 2 ^ 15 then (wImm w : Int) else wImm w - 2 ^ 16) + 2 ^ 64).toNat else (s.thr t).pc + 4)) ∧
    (∀ (s : State) (c : Fin 12) (e : Fin 16) (t w : Nat), Issues s c e t w (some .jal) →
      ∃ u, exec (.iJal c e) s = .next u ∧ CluKept s u ∧ WritesRd s u t w (BitVec.ofNat 64 ((s.thr t).pc + 4)) ∧ Retires s u t (4 * wImm w)) ∧
    (∀ (s : State) (c : Fin 12) (e : Fin 16) (t w : Nat), Issues s c e t w (some .jalr) →
      (s.effAddr t w % 4 = 0 → ∃ u, exec (.iJalr c e) s = .next u ∧ CluKept s u ∧ WritesRd s u t w (BitVec.ofNat 64 ((s.thr t).pc + 4)) ∧
        Retires s u t (s.effAddr t w)) ∧
      (s.effAddr t w % 4 ≠ 0 → ∃ u, exec (.iJalr c e) s = .next u ∧ Faults s u t 2 (s.effAddr t w))) ∧
    (∀ (s : State) (c : Fin 12) (e : Fin 16) (t w : Nat), Issues s c e t w (some .trap) →
      ∃ u, exec (.iSysTrap c e) s = .next u ∧ Faults s u t 7 0 ∧ u.cnt (engB c.val + 0x230) = min top64 (s.cnt (engB c.val + 0x230) + 1)) ∧
    (∀ (s : State) (c : Fin 12) (e : Fin 16) (t w : Nat), Issues s c e t w (some .bkpt) →
      (s.flag (dbgC c.val) 31 = false → ∃ u, exec (.iSysBkpt c e) s = .next u ∧ Faults s u t 8 0) ∧
      (s.flag (dbgC c.val) 31 = true → ∃ u, exec (.iSysBkpt c e) s = .next u ∧ (u.thr t).state = 5 ∧ Completes s u t w 0 0)) ∧
    (∀ (s : State) (c : Fin 12) (e : Fin 16) (t w : Nat), Issues s c e t w none →
      ∃ u, exec (.illegalInstruction c e) s = .next u ∧ Faults s u t 1 0)

/-- MRD, MWR, DLK, CSUB, PBR, PBW and the four FRM instructions, issued with operands that take no fault, leave the thread STALLED at the same
pc with the cause of Table 11-3 and no register changed. STALL_COMPLETE then completes: MRD with its bytes in data memory, MWR with the
memory written, DLK of a disabled table with MISS, CSUB once its cipher is done, with its output and completion in data memory, PBR with the
frame's bytes in data memory and PBW with them written to the frame, ALLOC and COPY with a handle that names the new frame, FREE with the
handle gone, SETLEN with the frame cut or filled with zeros; the status is in rd. Where a clause rests on a choice of the model: log entries
114, 117. (R237; R260; R261; R262; R266; R267; R268; Table 11-3) -/
def Obligations.LongStallsIssueAndComplete : Prop :=
  (∀ x ∈ ([(Instr.iMrd, Iop.mrd, 1), (.iMwr, .mwr, 1), (.iDlk, .dlk, 2), (.iCsub, .csub, 3), (.iPbr, .pbr, 6), (.iPbw, .pbw, 6),
      (.iFrmAlloc, .alloc, 6), (.iFrmFree, .free, 6), (.iFrmSetlen, .setlen, 6), (.iFrmCopy, .copy, 6)] : List ((Fin 12 → Fin 16 → Instr) × Iop × Nat)),
    ∀ (s : State) (c : Fin 12) (e : Fin 16) (t w : Nat), Issues s c e t w (some x.2.1) → (s.special t w x.2.1 .clean).faulted = false →
      ∃ u, exec (x.1 c e) s = .next u ∧ (u.thr t).state = 3 ∧ (u.thr t).stall = x.2.2 ∧ (u.thr t).pc = (s.thr t).pc ∧
        (u.thr t).g = (s.thr t).g ∧ (u.thr t).retired = (s.thr t).retired) ∧
    (∀ (s : State) (t : Fin 1536) (w c a b n : Nat) (e : Ecc) (l : List Byte), s.thrLive t.val = true → (s.thr t.val).state = 3 → (s.thr t.val).step = false → s.wordAt t.val = w → c = cluOf t.val → s.opAt t.val = some .mrd → a = s.opA t.val w → b = s.opB t.val w →
      n = wFn w + 1 → inDmem b n = true → s.memAllowed (.thread t) a n false = true → s.memServes a n = true → (s.memRead a n e).1 = (l, false) →
      ∃ u, exec (.stallComplete t e) s = .next u ∧ Completes s u t.val w 0 0 ∧ u.dGet c b n = l) ∧
    (∀ (s : State) (t : Fin 1536) (w c a b n : Nat) (e : Ecc), s.thrLive t.val = true → (s.thr t.val).state = 3 → (s.thr t.val).step = false → s.wordAt t.val = w → c = cluOf t.val → s.opAt t.val = some .mwr → a = s.opA t.val w → b = s.opB t.val w →
      n = wFn w + 1 → inDmem b n = true → s.memAllowed (.thread t) a n true = true → s.memServes a n = true →
      ∃ u, exec (.stallComplete t e) s = .next u ∧ Completes s u t.val w 0 0 ∧ u.mem = (s.memWrite a (s.dGet c b n)).mem) ∧
    (∀ (s : State) (t : Fin 1536) (w c : Nat) (e : Ecc), s.thrLive t.val = true → (s.thr t.val).state = 3 → (s.thr t.val).step = false → s.wordAt t.val = w → c = cluOf t.val → s.opAt t.val = some .dlk → (s.tab 2 0 (wFn w)).en = false →
      inDmem (s.opA t.val w) (((s.tab 2 0 (wFn w)).keyw + 7) / 8) = true → inDmem (s.opB t.val w) 16 = true →
      ∃ u, exec (.stallComplete t e) s = .next u ∧ Completes s u t.val w 2 0) ∧
    (∀ (s : State) (t : Fin 1536) (w c : Nat) (e : Ecc) (l : List (Nat × List Byte)), s.thrLive t.val = true → (s.thr t.val).state = 3 → (s.thr t.val).step = false → s.wordAt t.val = w → c = cluOf t.val → s.opAt t.val = some .csub → (s.thr t.val).csub = some l →
      s.opA t.val w % 8 = 0 → inDmem (s.opA t.val w) 64 = true → inDmem (s.opB t.val w) 32 = true →
      ∃ u, exec (.stallComplete t e) s = .next u ∧ Completes s u t.val w 0 0 ∧ (u.thr t.val).csub = none ∧
        (∀ x, l.getLast? = some x → u.dGet c x.1 x.2.length = x.2) ∧
        ∀ i, (∀ x ∈ l, i < x.1 ∨ x.1 + x.2.length ≤ i) → u.dByte c i = s.dByte c i) ∧
    (∀ (s : State) (t : Fin 1536) (w c a b n : Nat) (e : Ecc) (x : Copy), s.thrLive t.val = true → (s.thr t.val).state = 3 → (s.thr t.val).step = false → s.wordAt t.val = w → c = cluOf t.val → a = s.opA t.val w → b = s.opB t.val w → n = wFn w + 1 →
      a / 2 ^ 32 < 2 ^ 32 → s.handle c (a / 2 ^ 32) = some x → inDmem b n = true → bits a 31 16 = 0 → bits a 15 0 + n ≤ x.f.bytes.length →
      (s.opAt t.val = some .pbr → ∃ u, exec (.stallComplete t e) s = .next u ∧ Completes s u t.val w 0 0 ∧ u.dGet c b n = slice x.f.bytes (bits a 15 0) n) ∧
      (s.opAt t.val = some .pbw → ∃ u, exec (.stallComplete t e) s = .next u ∧ Completes s u t.val w 0 0 ∧
        u.handle c (a / 2 ^ 32) = some { x with f := { x.f with bytes := patch x.f.bytes (bits a 15 0) (s.dGet c b n) } })) ∧
    (∀ (s : State) (t : Fin 1536) (w c n : Nat) (e : Ecc), s.thrLive t.val = true → (s.thr t.val).state = 3 → (s.thr t.val).step = false → s.wordAt t.val = w → c = cluOf t.val → s.opAt t.val = some .alloc → n = s.opA t.val w → 1 ≤ n → n ≤ 9728 →
      s.engRoom c (cellsOf n) = true → s.handles c < 8192 →
      ∃ u h x, exec (.stallComplete t e) s = .next u ∧ Completes s u t.val w 0 h ∧ u.handle c h = some x ∧ x.f.bytes = List.replicate n 0 ∧
        x.cells = cellsOf n ∧ x.vport = 272 + c) ∧
    (∀ (s : State) (t : Fin 1536) (w c h : Nat) (e : Ecc) (x : Copy), s.thrLive t.val = true → (s.thr t.val).state = 3 → (s.thr t.val).step = false → s.wordAt t.val = w → c = cluOf t.val → h = s.opA t.val w → h < 2 ^ 32 → s.handle c h = some x →
      (s.opAt t.val = some .free → ∃ u, exec (.stallComplete t e) s = .next u ∧ Completes s u t.val w 0 0 ∧ u.handle c h = none) ∧
      (s.opAt t.val = some .setlen → 1 ≤ s.opB t.val w → s.opB t.val w ≤ 9728 →
        (x.cells < cellsOf (s.opB t.val w + (if x.f.fcs then 4 else 0)) → s.engRoom c (cellsOf (s.opB t.val w + (if x.f.fcs then 4 else 0)) - x.cells) = true) →
        ∃ u y, exec (.stallComplete t e) s = .next u ∧ Completes s u t.val w 0 0 ∧ u.handle c h = some y ∧
          y.f.bytes = x.f.bytes.take (s.opB t.val w) ++ List.replicate (s.opB t.val w - x.f.bytes.length) 0) ∧
      (s.opAt t.val = some .copy → s.engRoom c (cellsOf x.f.len) = true → s.handles c < 8192 →
        ∃ u k y, exec (.stallComplete t e) s = .next u ∧ Completes s u t.val w 0 k ∧ u.handle c k = some y ∧ y.f.bytes = x.f.bytes))

/-- Issued with aligned operands in range: RCV of a waiting frame takes it off its queue and gives it a handle, with EMPTY when none waits; EMIT
to a pipeline with PRS and MAT in RUN and a slot for it hands the frame over and drops its handle, and stalls with cause 7 otherwise; RES
with room and no one before it reserves the next slot, CMT commits a slot the thread holds, WR writes channel memory, RD of a committed slot
delivers its bytes, and each of RES and RD is DISABLED on a disabled channel. WAIT takes the lowest pending input, waits when none is, and
answers NO_MASK to mask 0; SIGNAL adds one to its target; TMR arms and TMRX disarms the timer; PARK stops the thread at the next
instruction. Where a clause rests on a choice of the model: log entries 114, 115. (R244; R245; R246; R261; R263; R264; R265; Table 12-3) -/
def Obligations.FramesChannelsAndEventsOfAThread : Prop :=
  (∀ (s : State) (c : Fin 12) (e : Fin 16) (t w : Nat), Issues s c e t w (some .rcv) → s.opA t w % 8 = 0 → inDmem (s.opA t w) 128 = true →
      (s.vq (272 + c.val) (bits w 3 0) = [] → ∃ u, exec (.iRcv c e) s = .next u ∧ Completes s u t w St.empty 0) ∧
      (∀ x r, s.vq (272 + c.val) (bits w 3 0) = x :: r → s.handles c.val < 8192 →
        ∃ u h, exec (.iRcv c e) s = .next u ∧ Completes s u t w St.ok h ∧ u.handle c.val h = some x ∧ u.vq (272 + c.val) (bits w 3 0) = r ∧
          u.dGet c.val (s.opA t w) 128 = frameContext h (bits w 3 0) x)) ∧
    (∀ (s : State) (c : Fin 12) (e : Fin 16) (t w h n : Nat) (x : Copy) (d : List Byte), Issues s c e t w (some .emit) → h = s.opA t w → h < 2 ^ 32 →
      s.handle c.val h = some x → s.opB t w % 8 = 0 → inDmem (s.opB t w) 32 = true → d = s.dGet c.val (s.opB t w) 32 → emitBad d = false →
      leAt d 0 1 = 0 → n = leAt d 1 1 → s.running (prsB n) = true → s.running (matB n) = true → (s.pipe n).arr = [] → (s.pipe n).recirc = [] → (s.pipe n).clus = [] →
      ((s.pipe n).host = [] ∨ (s.pipe n).clusTurn = true) →
      ∃ u f, exec (.iEmit c e) s = .next u ∧ Completes s u t w St.ok 0 ∧ u.handle c.val h = none ∧ (u.pipe n).clus = [f] ∧ f.bytes = x.f.bytes ∧
        f.src = .cluster c.val) ∧
    (∀ (s : State) (c : Fin 12) (e : Fin 16) (t w h n : Nat) (x : Copy) (d : List Byte), Issues s c e t w (some .emit) → h = s.opA t w → h < 2 ^ 32 →
      s.handle c.val h = some x → s.opB t w % 8 = 0 → inDmem (s.opB t w) 32 = true → d = s.dGet c.val (s.opB t w) 32 → emitBad d = false →
      leAt d 0 1 = 0 → n = leAt d 1 1 → (s.running (prsB n) = false ∨ s.running (matB n) = false ∨ (s.pipe n).arr ≠ [] ∨ (s.pipe n).recirc ≠ [] ∨
        (s.pipe n).clus ≠ [] ∨ ((s.pipe n).host ≠ [] ∧ (s.pipe n).clusTurn = false)) →
      ∃ u, exec (.iEmit c e) s = .next u ∧ (u.thr t).state = 3 ∧ (u.thr t).stall = 7 ∧ (u.thr t).pc = (s.thr t).pc ∧ u.handle c.val h = some x) ∧
    (∀ (s : State) (c : Fin 12) (e : Fin 16) (t w n : Nat), Issues s c e t w (some .res) → n = s.opA t w % 1024 →
      (s.chanEn n = false → ∃ u, exec (.iChnRes c e) s = .next u ∧ Completes s u t w St.disabled 0) ∧
      (s.chanEn n = true → (s.thr t).res.length < 4 → s.chanRoom n = true → (s.chan n).resWait = [] →
        ∃ u, exec (.iChnRes c e) s = .next u ∧ Completes s u t w St.ok (slotRef n (s.fld (chnA n + 8) 31 16)) ∧
          (u.chan n).slots = (s.chan n).slots ++ [⟨s.fld (chnA n + 8) 31 16, t, s.mono, 0, false⟩] ∧
          (u.thr t).res = (s.thr t).res ++ [(n, s.fld (chnA n + 8) 31 16)])) ∧
    (∀ (s : State) (c : Fin 12) (e : Fin 16) (t w n i : Nat) (y : Slot), s.heldSlot t (s.opA t w) = some (n, i, some y) → y.st = 0 →
      (Issues s c e t w (some .cmt) → ∃ u, exec (.iChnCmt c e) s = .next u ∧ Completes s u t w St.ok 0 ∧
        (u.thr t).res = (s.thr t).res.erase (n, i) ∧
        (u.chan n).slots = (s.chan n).slots.map (fun x => if x.idx = i ∧ x.t = t then { x with st := 1 } else x)) ∧
      (Issues s c e t w (some .wr) → inDmem (s.opB t w) (bits w 6 0 + 1) = true → bits (s.opA t w) 5 0 + (bits w 6 0 + 1) ≤ s.slotBytes n →
        ∃ u, exec (.iChnWr c e) s = .next u ∧ Completes s u t w St.ok 0 ∧
          u.chGet (s.slotAt n i + bits (s.opA t w) 5 0) (bits w 6 0 + 1) = s.dGet c.val (s.opB t w) (bits w 6 0 + 1))) ∧
    (∀ (s : State) (c : Fin 12) (e : Fin 16) (t w n : Nat), Issues s c e t w (some .rd) → n = s.opA t w % 1024 → inDmem (s.opB t w) (s.slotBytes n) = true →
      (s.chanEn n = false → ∃ u, exec (.iChnRd c e) s = .next u ∧ Completes s u t w St.disabled 0) ∧
      (∀ x r, s.chanEn n = true → (s.chan n).rdWait = [] → (s.chan n).slots = x :: r → x.st = 1 →
        ∃ u, exec (.iChnRd c e) s = .next u ∧ Completes s u t w St.ok (slotRef n x.idx) ∧ (u.chan n).slots = r ∧
          u.dGet c.val (s.opB t w) (s.slotBytes n) = s.chGet (s.slotAt n x.idx) (s.slotBytes n))) ∧
    (∀ (s : State) (c : Fin 12) (e : Fin 16) (t w m : Nat), Issues s c e t w (some .wait) → m = s.opA t w % 2 ^ 32 →
      (m = 0 → ∃ u, exec (.iEvtWait c e) s = .next u ∧ Completes s u t w St.noMask 0) ∧
      (∀ i, s.evPick t m = some i → ∃ u, exec (.iEvtWait c e) s = .next u ∧ Completes s u t w St.ok i ∧ (u.thr t).event = i) ∧
      (m ≠ 0 → s.evPick t m = none → ∃ u, exec (.iEvtWait c e) s = .next u ∧ (u.thr t).state = 4 ∧ (u.thr t).mask = m ∧ (u.thr t).pc = (s.thr t).pc)) ∧
    (∀ (s : State) (c : Fin 12) (e : Fin 16) (t w d i : Nat), Issues s c e t w (some .signal) → d < 1536 → i < 32 →
      s.opA t w = d / 128 * 2 ^ 24 + d / 8 % 16 * 2 ^ 16 + d % 8 * 2 ^ 8 + i → s.bindKind d i = 0 → s.sigCount d i < 255 →
      ∃ u, exec (.iEvtSignal c e) s = .next u ∧ Completes s u t w St.ok 0 ∧ u.sigCount d i = s.sigCount d i + 1) ∧
    (∀ (s : State) (c : Fin 12) (e : Fin 16) (t w : Nat), Issues s c e t w (some .tmr) → s.bindKind t 31 = 4 →
      ∃ u, exec (.iEvtTmr c e) s = .next u ∧ Completes s u t w St.ok 0 ∧ (u.thr t).timer =
        some (ofTs96 ((s.gr t (wRs1 w)).toNat % 2 ^ 48 * 2 ^ 48 + (s.gr t (wRs1 w + 1)).toNat % 2 ^ 48))) ∧
    (∀ (s : State) (c : Fin 12) (e : Fin 16) (t w : Nat), Issues s c e t w (some .tmrx) →
      ∃ u, exec (.iEvtTmrx c e) s = .next u ∧ Completes s u t w St.ok 0 ∧ (u.thr t).timer = none ∧ (u.thr t).fired = false) ∧
    (∀ (s : State) (c : Fin 12) (e : Fin 16) (t w : Nat), Issues s c e t w (some .park) →
      ∃ u, exec (.iEvtPark c e) s = .next u ∧ Completes s u t w St.ok 0 ∧ (u.thr t).state = 0 ∧ (u.thr t).loaded = false)

/-- TSR writes seconds to rd and nanoseconds with fraction to the register after it, both of one instant, and goes on; RDSTS writes the status
word as R255 lays it out, LAST_STATUS then being OK, and changes nothing else; NOP completes with STATUS OK. CRB in deterministic mode adds
a FIRMWARE crumb with rs1 and rs2 to the capture when it has room, and answers OK; outside it answers NOT_DET and adds none. Where a clause
rests on a choice of the model: log entry 119. (R255; R260; R269; R296) -/
def Obligations.TimeStatusAndCrumbInstructions : Prop :=
  (∀ (s : State) (c : Fin 12) (e : Fin 16) (t w : Nat), Issues s c e t w (some .tsr) →
      ∃ u, exec (.iTsr c e) s = .next u ∧ u.gr t (wRd w) = BitVec.ofNat 64 (secOf s.now) ∧
        u.gr t (wRd w + 1) = BitVec.ofNat 64 (nsOf s.now * 2 ^ 16 + fracOf s.now) ∧ (∀ n, n ≠ wRd w → n ≠ wRd w + 1 → u.gr t n = s.gr t n) ∧
        (u.thr t).pc = ((s.thr t).pc + 4) % 2 ^ 64 ∧ CluKept s u) ∧
    (∀ (s : State) (c : Fin 12) (e : Fin 16) (t w : Nat), Issues s c e t w (some .rdsts) →
      ∃ u, exec (.iSysRdsts c e) s = .next u ∧ WritesRd s u t w (BitVec.ofNat 64 (s.sts t)) ∧ Retires s u t ((s.thr t).pc + 4) ∧ CluKept s u ∧ (u.thr t).status = 0 ∧
        (s.rpl.rp = none → (s.thr t).event < 32 → (s.thr t).status < 256 → s.sts t = c.val * 2 ^ 28 + t / 8 % 16 * 2 ^ 24 + t % 8 * 2 ^ 21 +
          (if s.det c.val then 2 ^ 20 else 0) + (s.thr t).event * 2 ^ 8 + (s.thr t).status)) ∧
    (∀ (s : State) (c : Fin 12) (e : Fin 16) (t w : Nat), Issues s c e t w (some .nop) →
      ∃ u, exec (.iSysNop c e) s = .next u ∧ Completes s u t w 0 0 ∧ Retires s u t ((s.thr t).pc + 4) ∧ CluKept s u) ∧
    (∀ (s : State) (c : Fin 12) (e : Fin 16) (t w : Nat), Issues s c e t w (some .crb) →
      (s.det c.val = true → s.flag (rplC c.val + 0x14) 29 = false → s.running rplB = true → (s.cap c.val).fifo.length < 2048 →
        ∃ u, exec (.iCrb c e) s = .next u ∧ Completes s u t w 0 0 ∧ (u.cap c.val).fifo = (s.cap c.val).fifo ++ [mkCrumb 7 (inClu t) 0 (s.thr t).retired
          (pk [(64, s.opA t w), (64, s.opB t w), (64, 0)])]) ∧
      (s.det c.val = false → ∃ u, exec (.iCrb c e) s = .next u ∧ Completes s u t w St.notDet 0 ∧ (u.cap c.val).fifo = (s.cap c.val).fifo))

/-- A slow frame at the head of a running cluster's queue is discarded and counted, passed to MGC, turned into an ICMP answer within the rate or
left to customer firmware, by its policy; SP_REASM_MS outside 1–60,000 and a policy that its reason does not allow are answered BAD_OPTION
and set nothing. A datagram past SP_REASM_MS is dropped whole. A RST at the next sequence number, eight retransmissions without
acknowledgement or a keepalive limit make an ACTIVE context FAILED with 0x15 or 0x16, LAST_ERR and the function's count of the code telling
it; an earlier retransmission timeout counts one more try, and an earlier keepalive interval one more probe. A TLS record that fails
authentication is consumed, not counted as received, and fails the session with 0x13; a good one advances the record number. An ESP packet
that fails authentication or replay leaves the window and the SA, with 0x13 or 0x14; a good one marks the window. A header digest failure of
NVMe/TCP ends the connection and the one below it with 0x19; a data digest failure marks its command, writes no host memory and the
connection goes on. A CLOSING context with nothing left is FREE, its generation kept and its TX queue no longer its. Contexts are taken as
cached. (Owner settings come with SLOW_PATH_HANDLE, the retransmission timeout is that of RFC 6298, and keepalive probes are the model's
choices: log entries on the services.) Where a clause rests on a choice of the model: log entries 143, 144, 146, 147, 148, 149, 150. (R282;
R283; R284; R285; R286; R289; R290; R291; R293) -/
def Obligations.ServicesFollowTheirRules : Prop :=
  (∀ (s : State) (c : Fin 12) (q : Fin 16) (x : Copy) (r : List Copy), s.vq (272 + c.val) q.val = x :: r → x.vport = 272 + c.val → x.queue = q.val →
      x.f.reason ≠ 0 → s.running (engB c.val) = true →
      (s.slowPolicy x.f.reason = .discard → ∃ u, exec (.slowPathHandle c { q := q }) s = .next u ∧ u.vq (272 + c.val) q.val = r ∧
        u.svc = { s.svc with discards := s.svc.discards + 1 }) ∧
      (s.slowPolicy x.f.reason = .mgc → ∃ u, exec (.slowPathHandle c { q := q }) s = .next u ∧ u.vq (272 + c.val) q.val = r ∧ u.svc = s.svc) ∧
      (s.slowPolicy x.f.reason = .icmp → ∃ u, exec (.slowPathHandle c { q := q }) s = .next u ∧ u.vq (272 + c.val) q.val = r ∧
        u.svc.discards = s.svc.discards ∧ u.svc.ctx = s.svc.ctx ∧
        (s.svc.icmpSec = secOf s.now → s.svc.icmpN < s.svc.icmpPps.getD Config.icmpPps → u.svc.icmpN = s.svc.icmpN + 1) ∧
        (s.svc.icmpSec = secOf s.now → s.svc.icmpPps.getD Config.icmpPps ≤ s.svc.icmpN → u.svc = s.svc ∧ u.dp.nextId = s.dp.nextId)) ∧
      (s.slowPolicy x.f.reason = .custom → exec (.slowPathHandle c { q := q }) s = .next s)) ∧
    (∀ (s : State) (c : Fin 12) (q : Fin 16) (n : Nat) (r : BitVec 8) (p : SpPolicy), s.vq (272 + c.val) q.val = [] →
      (∃ u, exec (.slowPathHandle c { q := q, set := [.reasmMs n] }) s = .next u ∧ u.svc = if 1 ≤ n ∧ n ≤ 60000 then
        { s.svc with reasmMs := n, lastSet := [0] } else { s.svc with lastSet := [0x11] }) ∧
      (∃ u, exec (.slowPathHandle c { q := q, set := [.policy r p] }) s = .next u ∧
        (s.policyAllowed r.toNat p = true → u.svc.lastSet = [0] ∧ u.slowPolicy r.toNat = p) ∧
        (s.policyAllowed r.toNat p = false → u.svc = { s.svc with lastSet := [0x11] }))) ∧
    (∀ (s : State) (r : Reasm), s.svc.reasm.find? (fun r => s.past (r.since + s.svc.reasmMs * uMs)) = some r →
      ∃ u, exec .reasmTimeout s = .next u ∧ u.svc.reasmDrops = s.svc.reasmDrops + 1 ∧
        u.svc.reasm = s.svc.reasm.filter (fun z => !(z.c = r.c && z.key = r.key)) ∧ Keeps [.svc] noAddr noAddr s u) ∧
    (∀ (s : State), (∀ r ∈ s.svc.reasm, s.mono < r.since + s.svc.reasmMs * uMs) → exec .reasmTimeout s = .next s) ∧
    (∀ (s : State) (c : Fin 12) (q : Fin 16) (x : Copy) (r : List Copy) (g : TcpSeg) (id f : Nat), s.vq (272 + c.val) q.val = x :: r →
      x.vport = 272 + c.val → x.queue = q.val → x.f.reason = 0 → s.running (engB c.val) = true → tcpOf x.f.bytes = some g →
      s.ctxOf c.val (mdF x.f.md 2 31 0) [1] = some id → s.ctxLive (s.ctx id) = true → (s.ctx id).state = 2 → (s.ctx id).owner = 16 + f → f < 256 →
      s.cached id = true → (s.ctx id).synRx = true → (s.ctx id).aborted = false → g.flags.testBit 2 = true → g.seq = (s.ctx id).rcvNxt →
      ∃ u, exec (.tcpSegmentRx c q .clean) s = .next u ∧ u.vq (272 + c.val) q.val = r ∧ (u.ctx id).state = 4 ∧ (u.ctx id).lastErr = 0x15 ∧
        u.cnt (tfCnt f 17) = min top64 (s.cnt (tfCnt f 17) + 1) ∧ (u.ctx id).rcvNxt = (s.ctx id).rcvNxt) ∧
    (∀ (s : State) (id : BitVec 14) (x : Ctx) (f : Nat), s.ctx id.toNat = x → x.kind = 1 → s.ctxLive x = true → x.owner = 16 + f → f < 256 →
      s.cached id.toNat = true →
      (x.awaits = true → x.sndUna ≠ x.sndNxt → x.sentAt + x.rto ≤ s.mono → x.retries < 8 →
        ∃ u, exec (.tcpRetransmitTimeout id) s = .next u ∧ (u.ctx id.toNat).retries = x.retries + 1 ∧ (u.ctx id.toNat).sentAt = s.mono ∧
          (u.ctx id.toNat).state = x.state ∧ (u.ctx id.toNat).sent = x.sent ∧ (x.estab = true → (u.ctx id.toNat).cwnd = x.smss) ∧
          (∀ i, i ≠ id.toNat → u.ctx i = s.ctx i)) ∧
      (x.awaits = true → x.sentAt + x.rto ≤ s.mono → 8 ≤ x.retries →
        ∃ u, exec (.tcpRetransmitTimeout id) s = .next u ∧ (u.ctx id.toNat).state = (if x.state = 3 then 3 else 4) ∧ (u.ctx id.toNat).lastErr = 0x16 ∧
          (u.ctx id.toNat).unsent = [] ∧ u.cnt (tfCnt f 18) = min top64 (s.cnt (tfCnt f 18) + 1)) ∧
      (s.mono < x.sentAt + x.rto ∨ x.awaits = false → exec (.tcpRetransmitTimeout id) s = .next s) ∧
      (x.state = 2 → x.aborted = false → 0 < x.req.keepMs → x.heardAt + (x.probes + 1) * x.req.keepMs * uMs ≤ s.mono →
        ∃ u, exec (.tcpKeepaliveTimeout id) s = .next u ∧
          (x.probes < x.req.keepN → (u.ctx id.toNat).state = 2 ∧ (u.ctx id.toNat).probes = x.probes + 1 ∧ (u.ctx id.toNat).lastErr = x.lastErr) ∧
          (x.req.keepN ≤ x.probes → (u.ctx id.toNat).state = 4 ∧ (u.ctx id.toNat).lastErr = 0x16 ∧
            u.cnt (tfCnt f 18) = min top64 (s.cnt (tfCnt f 18) + 1))) ∧
      (x.req.keepMs = 0 ∨ s.mono < x.heardAt + (x.probes + 1) * x.req.keepMs * uMs → exec (.tcpKeepaliveTimeout id) s = .next s)) ∧
    (∀ (s : State) (id : BitVec 14) (x : Ctx) (t n : Nat) (b body pt : List Byte), s.ctx id.toNat = x → x.kind = 2 → x.state = 2 → s.ctxLive x = true →
      x.link = some t → t ≠ id.toNat → x.hold = false → b = (s.ctx t).stream → n = beAt b 3 2 → body = slice b 5 n →
      beAt b 0 1 = 0x17 → beAt b 1 1 = 3 → 17 ≤ n → n ≤ 16640 → 5 + n ≤ b.length → s.svcKey x x.keyRx = true → x.recRx < top64 →
      x.keyRx ≠ 0 → x.rxStop = false → s.cached id.toNat = true → s.cached t = true →
      ((cipRun 2 (putBits (s.rd (keyAttr x.keyRx)) 27 26 0) (s.keyWord x.keyRx) x.recRx (body.take (n - 16)) (b.take 5) (body.drop (n - 16))).2.2 = false →
        x.recTx + 2 ≤ top64 →
        ∃ u, exec (.tlsRecordRx id .clean) s = .next u ∧ (u.ctx id.toNat).state = 4 ∧ (u.ctx id.toNat).lastErr = 0x13 ∧
          (u.ctx id.toNat).recRx = x.recRx ∧ (u.ctx t).stream = b.drop (5 + n)) ∧
      ((cipRun 2 (putBits (s.rd (keyAttr x.keyRx)) 27 26 0) (s.keyWord x.keyRx) x.recRx (body.take (n - 16)) (b.take 5) (body.drop (n - 16))).2.2 = true →
        pt = (cipRun 2 (putBits (s.rd (keyAttr x.keyRx)) 27 26 0) (s.keyWord x.keyRx) x.recRx (body.take (n - 16)) (b.take 5) (body.drop (n - 16))).1 →
        21 ≤ (tlsInner pt).2 → (tlsInner pt).2 ≤ 23 → (tlsInner pt).1.length ≤ 16384 →
        ∃ u, exec (.tlsRecordRx id .clean) s = .next u ∧ (u.ctx id.toNat).state = 2 ∧ (u.ctx id.toNat).recRx = x.recRx + 1 ∧ ((tlsInner pt).2 ≠ 22 → (u.ctx id.toNat).hold = false) ∧
          (u.ctx t).stream = b.drop (5 + n))) ∧
    (∀ (s : State) (c : Fin 12) (q : Fin 16) (y : Copy) (r : List Copy) (x : Ctx) (id f lo a : Nat) (iv body aad : List Byte),
      s.vq (272 + c.val) q.val = y :: r → y.vport = 272 + c.val → y.queue = q.val → y.f.reason = 0 → s.running (engB c.val) = true →
      s.ctxOf c.val (mdF y.f.md 2 31 0) [3] = some id → s.ctx id = x → espOf y.f.bytes = some (x.req.spi, lo, iv, body) →
      s.ctxLive x = true → x.state = 2 → x.owner = 16 + f → f < 256 → s.svcKey x x.keyRx = true → s.cached id = true → a = putBits (s.rd (keyAttr x.keyRx)) 27 26 1 →
      aad = bytesBE 4 x.req.spi ++ (if x.req.esn then bytesBE 8 (espSeq x lo) else bytesBE 4 lo) →
      ((cipRun 2 a (s.keyWord x.keyRx) (natBE iv) (body.take (body.length - 16)) aad (body.drop (body.length - 16))).2.2 = false →
        ∃ u, exec (.espPacketRx c q .clean) s = .next u ∧ u.vq (272 + c.val) q.val = r ∧ (u.ctx id).state = 2 ∧ (u.ctx id).lastErr = 0x13 ∧
          (u.ctx id).espTop = x.espTop ∧ (u.ctx id).espMap = x.espMap ∧ u.cnt (tfCnt f 15) = min top64 (s.cnt (tfCnt f 15) + 1)) ∧
      ((cipRun 2 a (s.keyWord x.keyRx) (natBE iv) (body.take (body.length - 16)) aad (body.drop (body.length - 16))).2.2 = true →
        (espFresh x (espSeq x lo) = false →
          ∃ u, exec (.espPacketRx c q .clean) s = .next u ∧ u.vq (272 + c.val) q.val = r ∧ (u.ctx id).state = 2 ∧ (u.ctx id).lastErr = 0x14 ∧
            (u.ctx id).espTop = x.espTop ∧ (u.ctx id).espMap = x.espMap ∧ u.cnt (tfCnt f 16) = min top64 (s.cnt (tfCnt f 16) + 1)) ∧
        (espFresh x (espSeq x lo) = true →
          ∃ u, exec (.espPacketRx c q .clean) s = .next u ∧ u.vq (272 + c.val) q.val = r ∧ (u.ctx id).espTop = max x.espTop (espSeq x lo) ∧
            (u.ctx id).espBytes = x.espBytes + body.length ∧ (u.ctx id).espPkts = x.espPkts + 1))) ∧
    (∀ (s : State) (id : BitVec 14) (h : List Byte) (x : Ctx) (t n hl : Nat) (b : List Byte), s.ctx id.toNat = x → x.kind = 5 → x.state = 2 → s.ctxLive x = true →
      x.link = some t → t ≠ id.toNat → b = (s.ctx t).stream → n = leAt b 4 4 → hl = leAt b 2 1 → 8 ≤ b.length → s.cached id.toNat = true → s.cached t = true →
      (x.req.hdgst = true → leAt b 0 1 ≠ 1 → hl + 4 ≤ b.length → slice b hl 4 ≠ nvmeDigest (b.take hl) →
        ∃ u, exec (.nvmePduRx id h .clean) s = .next u ∧ (u.ctx id.toNat).state = 4 ∧ (u.ctx id.toNat).lastErr = 0x19 ∧ (u.ctx t).state = 4) ∧
      (∀ a m, (x.req.hdgst = true → hl + 4 ≤ b.length ∧ slice b hl 4 = nvmeDigest (b.take hl)) → leAt b 0 1 = 7 → 8 ≤ hl → hl ≤ n → n ≤ 131328 → n ≤ b.length →
        mget (fun _ => none) x.bufs (leAt b 8 2) = some (a, m) → leAt b 12 4 + leAt b 16 4 ≤ m → leAt b 16 4 ≤ 131072 → leAt b 3 1 + leAt b 16 4 + 4 ≤ n →
        x.req.ddgst = true → (leAt b 1 1).testBit 3 = false → slice b (leAt b 3 1 + leAt b 16 4) 4 ≠ nvmeDigest (slice b (leAt b 3 1) (leAt b 16 4)) →
        ∃ u, exec (.nvmePduRx id h .clean) s = .next u ∧ (u.ctx id.toNat).state = 2 ∧ (u.ctx id.toNat).lastErr = 0x19 ∧
          leAt b 8 2 ∈ (u.ctx id.toNat).nvBad ∧ (u.ctx t).stream = b.drop n ∧ (u.ctx t).state = (s.ctx t).state ∧ u.hp = s.hp)) ∧
    (∀ (s : State) (id : BitVec 14) (x : Ctx) (f : Nat), s.ctx id.toNat = x → x.owner = 16 + f → f < 256 →
      (x.state = 3 → s.steered x = false → s.ctxServes id.toNat = true →
        (x.kind = 1 → x.aborted = false → x.unsent = [] ∧ x.sndUna = x.sndNxt ∧ (x.fin = true → x.finSent = true)) →
        ∃ u, exec (.contextFree id) s = .next u ∧ u.ctx id.toNat = { gen := x.gen } ∧ (∀ i, i ≠ id.toNat → u.ctx i = s.ctx i) ∧
          (∀ t, u.tq_ f false x.req.txq = some t → t.ctx ≠ some id.toNat) ∧ u.dp = s.dp ∧ u.en = s.en ∧ u.hp = s.hp ∧ u.cip = s.cip ∧
          u.fld (ctxUseA f) 30 16 = if s.fgen f = x.fgen then s.fld (ctxUseA f) 30 16 - 1 else s.fld (ctxUseA f) 30 16) ∧
      (x.state ≠ 3 ∨ s.steered x = true ∨ s.ctxServes id.toNat = false → exec (.contextFree id) s = .next s))

/-- CRUMB_DRAIN moves the oldest crumb of a capture FIFO into the ring at its index, over the oldest there. The end of a loss chains a GAP crumb
with the count and the first loss, raises RPL_GAP, makes earlier checkpoints unusable and takes one. FREEZE stops capture and a checkpoint
in progress at once; unfreezing ends a loss. CKPT_TIMER when due and CKPT_REQ begin a checkpoint with the next SEQ and slot; CKPT_REQ during
one is counted only; CKPT_DONE stores it, another that fell due meanwhile following. RPL_START is ignored while a replay runs, gives RESULT
8 for a target that may not replay, and otherwise brings the target to REPLAY at the crumb after A's. A START, EPOCH or CKPT crumb is passed
over. A replay ends with RESULT 6 at a GAP crumb, 2 at STOP, 1 where state and B agree, 7 on ABORT, and diverges with REASON 4 after
STALL_US without a crumb; each end leaves the target QUIESCED. (30 us is the shortest checkpoint of Table 14-7.) Where a clause rests on a
choice of the model: log entries 118, 119, 120, 122. (R297; R298; R299; R300; R302; R303; R304; R305) -/
def Obligations.CrumbsCheckpointsAndReplayRun : Prop :=
  (∀ (s : State) (c : Fin 12) (k : Crumb) (r : List Crumb) (h : Nat), (s.cap c.val).fifo = k :: r → h = s.cnt (rplHead c.val) →
      s.blkState rplB ≤ 1 → s.flag (rplC c.val + 0x14) 29 = false → s.memServes (s.crumbAddr c.val h) 32 = true →
      ∃ u, exec (.crumbDrain c) s = .next u ∧ (u.cap c.val).fifo = r ∧ u.cnt (rplHead c.val) = h + 1 ∧
        u.cnt (rplOldest c.val) = max (s.cnt (rplOldest c.val)) (h + 1 - s.ringCrumbs c.val) ∧
        u.cnt (rplC c.val + 0x40) = min top64 (s.cnt (rplC c.val + 0x40) + 1) ∧
        (s.memAllowed .crumb (s.crumbAddr c.val h) 32 true = true → s.safeCh (s.crumbAddr c.val h) 32 = none → s.mem.init = none →
          s.eccAt (s.crumbAddr c.val h) = false → u.peek (s.crumbAddr c.val h) 32 = bytesBE 32 k.toNat) ∧
        (s.memAllowed .crumb (s.crumbAddr c.val h) 32 true = false → u.mem = s.mem ∧ Raised Ev.memRegionFault u)) ∧
    (∀ (s : State) (c : Fin 12), ((s.cap c.val).fifo = [] ∨ 1 < s.blkState rplB ∨ s.flag (rplC c.val + 0x14) 29 = true) →
      exec (.crumbDrain c) s = .next s) ∧
    (∀ (s : State) (c : Fin 12) (g : Nat × Instant), (s.cap c.val).gap = some g → s.running rplB = true → s.flag (rplC c.val + 0x14) 29 = false →
      (s.cap c.val).fifo.length ≤ 1984 →
      ∃ u, exec (.crumbGap c) s = .next u ∧ (u.cap c.val).gap = none ∧ Raised Ev.rplGap u ∧
        (u.cap c.val).fifo.take ((s.cap c.val).fifo.length + 1) = (s.cap c.val).fifo ++ [mkCrumb 0xB 0 0 0 (pk [(64, g.1), (32, 0), (96, ts96 g.2)])] ∧
        (∀ k ∈ (u.cap c.val).ckpts, k.fresh = false) ∧ u.cnt (rplC c.val + 0x50) = min top64 (s.cnt (rplC c.val + 0x50) + 1) ∧
        (s.detCfg c.val = true → (u.cap c.val).busy ≠ none)) ∧
    (∀ (s : State) (c : Fin 12), (1984 < (s.cap c.val).fifo.length ∨ (s.cap c.val).gap = none) → exec (.crumbGap c) s = .next s) ∧
    (∀ (s : State) (c : Fin 12), ∃ u, exec (.rplFreeze c) s = .next u ∧ u.flag (rplC c.val + 4) 1 = true ∧ u.flag (rplC c.val + 0x14) 29 = true ∧
      (u.cap c.val).busy = none ∧ (u.cap c.val).fifo = (s.cap c.val).fifo ∧ Keeps [.rpl] (oneOf [rplC c.val + 4, rplC c.val + 0x14]) noAddr s u) ∧
    (∀ (s : State) (c : Fin 12), s.flag (rplC c.val + 0x14) 29 = true →
      ∃ u, exec (.rplUnfreeze c) s = .next u ∧ u.flag (rplC c.val + 0x14) 29 = false ∧ u.flag (rplC c.val + 4) 1 = false ∧
        (s.detCfg c.val = true → s.running rplB = true → (s.cap c.val).fifo.length ≤ 1984 → Raised Ev.rplGap u ∧ (u.cap c.val).gap = none)) ∧
    (∀ (s : State) (c : Fin 12), s.detCfg c.val = true → s.running rplB = true → s.flag (rplC c.val + 0x14) 29 = false → (s.cap c.val).busy = none →
      (∃ u k b, exec (.ckptReq c) s = .next u ∧ (u.cap c.val).busy = some (k, b) ∧ k.seq = (s.cap c.val).seq ∧
        k.slot = (s.cap c.val).seq % max 1 (s.fld (rplC c.val) 19 16) ∧ k.ts = s.now ∧ (u.cap c.val).seq = (s.cap c.val).seq + 1 ∧
        u.flag (rplC c.val + 0x14) 30 = true) ∧
      (s.det c.val = true → (s.cap c.val).lastAt + s.fld (rplC c.val) 15 0 * uMs ≤ s.mono →
        ∃ u k b, exec (.ckptTimer c) s = .next u ∧ (u.cap c.val).busy = some (k, b) ∧ k.seq = (s.cap c.val).seq ∧ (u.cap c.val).lastAt = s.mono)) ∧
    (∀ (s : State) (c : Fin 12), (s.det c.val = false ∨ s.mono < (s.cap c.val).lastAt + s.fld (rplC c.val) 15 0 * uMs) →
      exec (.ckptTimer c) s = .next s) ∧
    (∀ (s : State) (c : Fin 12) (k : Ckpt) (b : List Byte), (s.cap c.val).busy = some (k, b) →
      exec (.ckptReq c) s = .next (s.bump (rplC c.val + 0x60) 1) ∧
      ((s.cap c.val).lastAt + 30 * uUs ≤ s.mono → s.memServes (s.rd (rplC c.val + 0x10) * 2 ^ 20 + 0x120000 * k.slot) 0x120000 = true →
        ∃ u, exec (.ckptDone c) s = .next u ∧ (u.cap c.val).ckpts.head? = some k ∧
          ((s.cap c.val).again = false → (u.cap c.val).busy = none ∧ u.flag (rplC c.val + 0x14) 30 = false) ∧
          u.cnt (rplC c.val + 0x58) = min top64 (s.cnt (rplC c.val + 0x58) + 1)) ∧
      (s.mono < (s.cap c.val).lastAt + 30 * uUs → exec (.ckptDone c) s = .next s)) ∧
    (∀ (s : State) (v : Word) (l : List Crumb), (s.rpl.rp ≠ none ∨ s.running rplB = false → exec (.rplStart v l) s = .next s) ∧
      (s.rpl.rp = none → s.running rplB = true → 12 ≤ bits v.toNat 19 16 →
        ∃ u, exec (.rplStart v l) s = .next u ∧ u.rd (rplB + 0x44) = 8 ∧ Keeps [] (oneOf [rplB + 0x40, rplB + 0x44]) noAddr s u) ∧
      (∀ s', s' = (s.setFld (rplB + 0x40) 29 29 (bits v.toNat 29 29)).setFld (rplB + 0x40) 19 16 (bits v.toNat 19 16) →
        s.rpl.rp = none → s.running rplB = true → s'.rpCheck l (bits v.toNat 19 16) = 0 →
        ∃ u, exec (.rplStart v l) s = .next u ∧ u.rd (rplB + 0x44) = 2 ^ 31 ∧ u.blkState (engB (bits v.toNat 19 16)) = 5 ∧
          u.rpl.rp = some { target := bits v.toNat 19 16, lastAt := s.mono, cluster := leAt (s.peek s.rpA 64) 5 1 % 16, ends := s.rpEnds } ∧
          u.cnt rpPosA = leAt (s.peek s.rpA 64) 8 8 + 1)) ∧
    (∀ (s : State) (l : List Crumb) (x : RpSt), s.rpl.rp = some x → x.target < 12 →
      (∀ k, s.cnt rpPosA ≠ s.rpLast → (s.feedOn l).crumbAt (s.cnt rpPosA) = some k →
        (kKind k = 1 ∨ kKind k = 9 ∨ kKind k = 0xA → ∃ u, exec (.replayConsume l) s = .next u ∧ u.cnt rpPosA = s.cnt rpPosA + 1 ∧
          u.rpl.rp = some { x with lastAt := s.mono } ∧ Keeps [.rpl] noAddr (oneOf [rpPosA]) s u) ∧
        (kKind k = 0xB → ∃ u, exec (.replayConsume l) s = .next u ∧ u.rpl.rp = none ∧ u.fld (rplB + 0x44) 3 0 = 6 ∧ u.blkState (engB x.target) = 2 ∧
          Raised Ev.rplReplayDone u)) ∧
      ((s.feedOn l).crumbAt (s.cnt rpPosA) = none → exec (.replayConsume l) s = .next (s.feedOn l)) ∧
      (s.cnt rpPosA = s.rpLast → x.ends = none →
        ∃ u, exec (.replayEnd l) s = .next u ∧ u.rpl.rp = none ∧ u.fld (rplB + 0x44) 3 0 = 2 ∧ u.blkState (engB x.target) = 2 ∧ Raised Ev.rplReplayDone u) ∧
      (∀ n, s.cnt rpPosA = s.rpLast → x.ends = some n → (∀ t ∈ thrsOf x.target, (s.thr t).retired = n.getD (inClu t) 0) →
        s.thrDiff x.target s.rpB = none → s.memDiff x.target s.rpB = none →
        ∃ u, exec (.replayEnd l) s = .next u ∧ u.rpl.rp = none ∧ u.fld (rplB + 0x44) 3 0 = 1 ∧ u.blkState (engB x.target) = 2 ∧ Raised Ev.rplReplayDone u) ∧
      (s.cnt rpPosA ≠ s.rpLast → exec (.replayEnd l) s = .next (s.feedOn l)) ∧
      (∃ u, exec .rplAbort s = .next u ∧ u.rpl.rp = none ∧ u.fld (rplB + 0x44) 3 0 = 7 ∧ u.blkState (engB x.target) = 2 ∧ Raised Ev.rplReplayDone u) ∧
      (x.lastAt + s.rd (rplB + 0x88) * uUs ≤ s.mono → (s.rpHost = false ∨ s.cnt rpPosA < s.rpAvail) →
        ∃ u, exec (.replayStuck l) s = .next u ∧ u.rpl.rp = none ∧ u.fld (rplB + 0x44) 3 0 = 3 ∧ u.fld (rplB + 0x80) 31 28 = 4 ∧
          Raised Ev.rplDiverged u ∧ Raised Ev.rplReplayDone u) ∧
      (s.mono < x.lastAt + s.rd (rplB + 0x88) * uUs → exec (.replayStuck l) s = .next (s.feedOn l))) ∧
    (∀ (s : State), s.rpl.rp = none → exec .rplAbort s = .next s)

/-- A free core takes the head of the first class that may start and runs it with copies of key and attributes: AEAD_ENC with the slot's
counter, which moves on, or with NONCE_EXHAUSTED ending an exhausted slot's message; a tap digest needs no key. URGENT_PREEMPT with no core
free puts the victim's message back at the head of its class queue, suspended, counts it and starts the URGENT message there. A message in
data memory whose time has passed ends: the core is IDLE, and the thread is given the output for DST and then the completion of Table 15-4
for its address, which says OK, or AUTH_FAIL with the plaintext given too. A self-test is taken only with QUIESCE and IDLE; a failure fences
the core and is raised, a pass of a commanded one returns it to service. Where a clause rests on a choice of the model: log entries 24, 25,
26, 126. (R309; R312; R313; R314; R317; R319; Table 15-5) -/
def Obligations.CoresStartPreemptAndFinishMessages : Prop :=
  (∀ (s : State) (k j : Fin 32) (n : Nat) (m : Msg) (r : List Msg) (t g d : Nat) (b : List Byte), s.coreFree k.val = true →
      s.cipOrder.find? s.mayStart = some n → s.cipQ n = m :: r → Startable s m t g d b →
      (subOp b = 1 → s.flag (keyAttr (subSlot b)) 20 = false → s.cnt (keyCtr (subSlot b)) + 1 < 2 ^ 64 →
        ∃ u, exec (.cipCoreStart k j) s = .next u ∧ StartsOn s u k.val m b (s.cnt (keyCtr (subSlot b))) ∧
          u.cnt (keyCtr (subSlot b)) = (s.cnt (keyCtr (subSlot b)) + 1) % 2 ^ 64) ∧
      (subOp b = 1 → s.flag (keyAttr (subSlot b)) 20 = true →
        ∃ u, exec (.cipCoreStart k j) s = .next u ∧ u.coreRun k.val = none ∧ (u.thr t).csub = some [(d, cipCompletion { status := 4, ctr := m.ctrOut })] ∧ u.cnt (keyCtr (subSlot b)) = s.cnt (keyCtr (subSlot b))) ∧
      (subOp b ≠ 1 → ∃ u, exec (.cipCoreStart k j) s = .next u ∧ StartsOn s u k.val m b (subCtr b) ∧ u.cnts = s.cnts)) ∧
    (∀ (s : State) (k j : Fin 32) (m : Msg) (r : List Msg) (n : Nat), s.coreFree k.val = true → s.cipOrder.find? s.mayStart = some 1 →
      s.cipQ 1 = m :: r → m.work = .tap n →
      ∃ u, exec (.cipCoreStart k j) s = .next u ∧ u.coreRun k.val = some ⟨{ m with started := true, at_ := s.mono }, none⟩ ∧
        u.flag (cipCore k.val) 28 = false) ∧
    (∀ (s : State) (k j : Fin 32), (s.coreFree k.val = false ∨ s.cipOrder.find? s.mayStart = none) → exec (.cipCoreStart k j) s = .next s) ∧
    (∀ (s : State) (m : Msg) (q : List Msg) (k : Nat) (r : Run) (t g d : Nat) (b : List Byte), s.cipQ 0 = m :: q → s.running cipB = true →
      (∀ i ∈ cores, s.coreFree i = false) → s.coresOf 0 < s.fldA (cipB + 0x40) 13 8 → s.suspended < 64 → s.victimCore none = some k →
      s.coreRun k = some r → r.second = none → Startable s m t g d b → subOp b ≠ 1 →
      ∃ u, exec .urgentPreempt s = .next u ∧ StartsOn s u k m b (subCtr b) ∧ u.cnt (cipB + 0x120) = min top64 (s.cnt (cipB + 0x120) + 1) ∧
        u.cipQ r.m.cls = { r.m with done := r.m.doneBy s.mono, susp := true } :: s.cipQ r.m.cls) ∧
    (∀ (s : State), (s.cipQ 0 = [] ∨ s.victimCore none = none ∨ 64 ≤ s.suspended) → exec .urgentPreempt s = .next s) ∧
    (∀ (s : State) (k : Fin 32) (n : BitVec 20) (e : BufEcc) (r : Run) (t g d o oa od c : Nat) (b : List Byte) (out : List Byte × List Byte × Bool),
      s.coreRun k.val = some r → r.m.work = .eng t g d b → r.m.at_ + r.m.time (r.m.total - r.m.done) ≤ s.mono → c = cluOf t → (s.clu c).gen = g →
      bufRef (subSrc b) = some (0, 0, o) → bufRef (subAad b) = some (0, 0, oa) → bufRef (subDst b) = some (0, 0, od) →
      out = cipRun (subOp b) r.m.attr r.m.key r.m.ctr (s.dGet c o (subLen b)) (s.dGet c oa (subAadLen b)) (subTag b) →
      ∃ u, exec (.cipMsgDone k false n e) s = .next u ∧ u.coreRun k.val = none ∧ u.flag (cipCore k.val) 28 = true ∧
        (u.thr t).csub = some ((if out.1.isEmpty then [] else [(od, out.1)]) ++ [(d, cipCompletion {
          status := if out.2.2 then 0 else 1, coreA := k.val, coreB := r.second.getD 0xFF, done := dstLen (subOp b) (subLen b), ctr := r.m.ctrOut, tag := if subOp b = 1 ∨ subOp b = 7 ∨ subOp b = 8 then out.2.1 else [], susp := r.m.susp, prot := r.m.prot ≠ 0 })])) ∧
    (∀ (s : State) (k : Fin 32) (f : Bool) (n : BitVec 20) (e : BufEcc), s.coreRun k.val = none → exec (.cipMsgDone k f n e) s = .next s) ∧
    (∀ (s : State) (k : Fin 32), mget (fun _ => none) s.cip.test k.val = none →
      (s.flag (cipCore k.val) 28 = true → s.flag (cipCore k.val) 29 = true →
        ∃ u, exec (.coreTest k) s = .next u ∧ mget (fun _ => none) u.cip.test k.val = some (s.mono, false) ∧ Keeps [.cip] noAddr noAddr s u) ∧
      (s.flag (cipCore k.val) 28 = false ∨ s.flag (cipCore k.val) 29 = false → exec (.coreTest k) s = .next s) ∧
      (∀ p, exec (.coreTestDone k p) s = .next s)) ∧
    (∀ (s : State) (k : Fin 32) (x : Nat) (auto : Bool), mget (fun _ => none) s.cip.test k.val = some (x, auto) →
      (x + 40 * uUs ≤ s.mono → (∃ u, exec (.coreTestDone k false) s = .next u ∧ u.flag (cipCore k.val) 31 = true ∧ u.flag (cipCore k.val) 27 = true ∧
          Raised Ev.cipCoreFenced u ∧ mget (fun _ => none) u.cip.test k.val = none ∧ KeepsEv cipB [.cip] (oneOf [cipCore k.val]) noAddr s u) ∧
        (∃ u, exec (.coreTestDone k true) s = .next u ∧ u.flag (cipCore k.val) 27 = false ∧ mget (fun _ => none) u.cip.test k.val = none ∧
          u.flag (cipCore k.val) 31 = (auto && s.flag (cipCore k.val) 31) ∧ Keeps [.cip] (oneOf [cipCore k.val]) noAddr s u)) ∧
      (s.mono < x + 40 * uUs → ∀ p, exec (.coreTestDone k p) s = .next s))

/-- A KEY_ATTR write with VALID 0 opens a slot: material and counter zero, EXHAUSTED clear. A material write to an open slot sets its word
alone. A VALID write to an open slot that passes the check of R321 makes it VALID and reports slot and KCV; one that fails leaves it open,
reports the reason and raises KEY_LOAD_FAIL. Writes to a VALID slot other than an opening one, reserved encodings and any write while
zeroizing are discarded, counted and raise CFG_REJECT. ZERO clears every slot and sets ZEROIZING; its end, 8 us later or more, clears it and
raises KEY_ZEROIZED. KW_WRAP seals an exportable slot into CIP_KW_BUF under the next counter of the WRAP slot; KW_UNWRAP opens it into an
open slot with the owner read at START; an error gives its RESULT and changes no slot. Where a clause rests on a choice of the model: log
entries 29, 31, 128. (R320; R321; R323; R324; Table 15-6; Table 15-7; Table 15-8) -/
def Obligations.KeySlotsLoadZeroizeAndWrap : Prop :=
  (∀ (s : State) (q : Req) (k : BitVec 14) (v : BitVec 31), s.zeroizing = false →
      (attrReserved v.toNat = false →
        ∃ u, exec (.keyOpen q k v) s = .next u ∧ u.keyWord k.toNat = 0 ∧ u.cnt (keyCtr k.toNat) = 0 ∧ u.keyValid k.toNat = false ∧
          u.flag (keyAttr k.toNat) 20 = false ∧ attrAlg (u.rd (keyAttr k.toNat)) = attrAlg v.toNat ∧ (∀ i, i ≠ k.toNat → u.keyWord i = s.keyWord i) ∧
          Keeps [.cip] (oneOf [keyAttr k.toNat]) (oneOf [keyCtr k.toNat]) s u) ∧
      (attrReserved v.toNat = true → exec (.keyOpen q k v) s = .next (s.reject cipB (keyAttr k.toNat - cipB))) ∧
      (s.keyValid k.toNat = true → exec (.keyValidate q k v) s = .next (s.reject cipB (keyAttr k.toNat - cipB))) ∧
      (s.keyValid k.toNat = false → attrReserved (2 ^ 31 + v.toNat) = false →
        (keyCheck (2 ^ 31 + v.toNat) (s.keyWord k.toNat) = 0 →
          ∃ u, exec (.keyValidate q k v) s = .next u ∧ u.keyValid k.toNat = true ∧ attrAlg (u.rd (keyAttr k.toNat)) = attrAlg v.toNat ∧
            attrOwner (u.rd (keyAttr k.toNat)) = attrOwner v.toNat ∧ u.lat q (cipB + 0x204) = 2 ^ 31 + k.toNat ∧
            u.lat q (cipB + 0x208) = keyKcv (s.keyWord k.toNat) % 2 ^ 32 ∧ Keeps [.latch] (oneOf [keyAttr k.toNat]) noAddr s u) ∧
        (keyCheck (2 ^ 31 + v.toNat) (s.keyWord k.toNat) ≠ 0 →
          ∃ u, exec (.keyValidate q k v) s = .next u ∧ u.keyValid k.toNat = false ∧ Raised Ev.keyLoadFail u ∧
            u.lat q (cipB + 0x204) = 2 ^ 31 + 2 ^ 30 + keyCheck (2 ^ 31 + v.toNat) (s.keyWord k.toNat) * 2 ^ 16 + k.toNat ∧
            KeepsEv cipB [.latch] (oneOf [keyAttr k.toNat]) noAddr s u))) ∧
    (∀ (s : State) (q : Req) (k : BitVec 14) (v : BitVec 31), s.zeroizing = true →
      exec (.keyOpen q k v) s = .next (s.reject cipB (keyAttr k.toNat - cipB)) ∧ exec (.keyValidate q k v) s = .next (s.reject cipB (keyAttr k.toNat - cipB))) ∧
    (∀ (s : State) (k : BitVec 14) (w : Fin 16) (v : Word),
      (s.zeroizing = false → s.keyValid k.toNat = false →
        ∃ u, exec (.keyMatWrite k w v) s = .next u ∧ beAt (matBytes (u.keyWord k.toNat)) (4 * w.val) 4 = v.toNat ∧
          (∀ x, x < 16 → x ≠ w.val → beAt (matBytes (u.keyWord k.toNat)) (4 * x) 4 = beAt (matBytes (s.keyWord k.toNat)) (4 * x) 4) ∧
          (∀ i, i ≠ k.toNat → u.keyWord i = s.keyWord i) ∧ Keeps [.cip] noAddr noAddr s u) ∧
      (s.zeroizing = true ∨ s.keyValid k.toNat = true → exec (.keyMatWrite k w v) s = .next (s.reject cipB (64 * k.toNat + 4 * w.val)))) ∧
    (∀ (s : State), (s.zeroizing = false → ∃ u, exec .keyZero s = .next u ∧ u.zeroizing = true ∧ u.cip.zeroAt = some s.mono ∧
        ∀ k, k < 16384 → u.keyWord k = 0 ∧ u.keyValid k = false ∧ u.cnt (keyCtr k) = 0) ∧
      (s.zeroizing = true → exec .keyZero s = .next s)) ∧
    (∀ (s : State) (x : Nat), s.cip.zeroAt = some x →
      (x + 8 * uUs ≤ s.mono → ∃ u, exec .keyZeroizeDone s = .next u ∧ u.zeroizing = false ∧ u.cip.zeroAt = none ∧ Raised Ev.keyZeroized u ∧
        KeepsEv cipB [.cip] (oneOf [cipB + 0x200]) noAddr s u) ∧
      (s.mono < x + 8 * uUs → exec .keyZeroizeDone s = .next s)) ∧
    (∀ (s : State) (w k : BitVec 14), (s.flag (cipB + 0x244) 31 = false →
        (∃ u, exec (.kwWrap w k) s = .next u ∧ u.cip.kw = some ⟨false, w.toNat, k.toNat, s.fld (cipB + 0x248) 8 0⟩ ∧ u.flag (cipB + 0x244) 31 = true ∧
          Keeps [.cip] (oneOf [cipB + 0x240, cipB + 0x244]) noAddr s u) ∧
        (∃ u, exec (.kwUnwrap w k) s = .next u ∧ u.cip.kw = some ⟨true, w.toNat, k.toNat, s.fld (cipB + 0x248) 8 0⟩ ∧ u.flag (cipB + 0x244) 31 = true ∧
          Keeps [.cip] (oneOf [cipB + 0x240, cipB + 0x244]) noAddr s u)) ∧
      (s.flag (cipB + 0x244) 31 = true → exec (.kwWrap w k) s = .next s ∧ exec (.kwUnwrap w k) s = .next s)) ∧
    (∀ (s : State) (w k o n : Nat) (aad : List Byte) (r : List Byte × List Byte × Bool), s.cip.kw = some ⟨false, w, k, o⟩ → w < 16384 → k < 16384 →
      n = s.cnt (keyCtr w) → n < 2 ^ 64 → aad = bytesBE 2 0x4B57 ++ [1, 0] ++ bytesBE 4 (s.rd (keyAttr k)) ++ bytesBE 8 (s.cnt (keyCtr k)) ++ bytesBE 8 n →
      r = cipRun 1 (s.rd (keyAttr w)) (s.keyWord w) n (matBytes (s.keyWord k)) aad [] →
      s.wrapSlot w = true → s.keyValid k = true → s.flag (keyAttr k) 21 = true → s.flag (keyAttr w) 20 = false → n + 1 < 2 ^ 64 →
      ∃ u, exec .kwDone s = .next u ∧ u.fld (cipB + 0x244) 3 0 = 0 ∧ u.flag (cipB + 0x244) 31 = false ∧ Raised Ev.cipKwDone u ∧
        u.cnt (keyCtr w) = n + 1 ∧ u.cip.mat = s.cip.mat ∧ ∀ i, i < 26 → u.rd (cipB + 0x280 + 4 * i) = beAt (aad ++ r.1 ++ r.2.1) (4 * i) 4) ∧
    (∀ (s : State) (w k o : Nat) (x : Bool), s.cip.kw = some ⟨x, w, k, o⟩ →
      (s.wrapSlot w = false → ∃ u, exec .kwDone s = .next u ∧ u.fld (cipB + 0x244) 3 0 = 4 ∧ u.cip.mat = s.cip.mat ∧ u.cip.kw = none ∧
        Raised Ev.cipKwDone u ∧ KeepsEv cipB [.cip] (oneOf [cipB + 0x244]) noAddr s u) ∧
      (s.wrapSlot w = true → x = true → s.keyValid k = true → ∃ u, exec .kwDone s = .next u ∧ u.fld (cipB + 0x244) 3 0 = 3 ∧ u.cip.mat = s.cip.mat ∧
        Raised Ev.cipKwDone u ∧ KeepsEv cipB [.cip] (oneOf [cipB + 0x244]) noAddr s u) ∧
      (s.wrapSlot w = true → x = false → (s.keyValid k = false ∨ s.flag (keyAttr k) 21 = false) → ∃ u, exec .kwDone s = .next u ∧
        u.fld (cipB + 0x244) 3 0 = 5 ∧ u.cip.mat = s.cip.mat ∧ Raised Ev.cipKwDone u ∧ KeepsEv cipB [.cip] (oneOf [cipB + 0x244]) noAddr s u)) ∧
    (∀ (s : State) (w k o : Nat) (b : List Byte) (r : List Byte × List Byte × Bool), s.cip.kw = some ⟨true, w, k, o⟩ → w < 16384 → k < 16384 → b = s.kwBuf →
      r = cipRun 2 (s.rd (keyAttr w)) (s.keyWord w) (beAt b 16 8) (slice b 24 64) (b.take 24) (slice b 88 16) → s.wrapSlot w = true →
      s.keyValid k = false → beAt b 0 2 = 0x4B57 → beAt b 2 1 = 1 →
      (r.2.2 = false → ∃ u, exec .kwDone s = .next u ∧ u.fld (cipB + 0x244) 3 0 = 1 ∧ u.cip.mat = s.cip.mat ∧ Raised Ev.cipKwDone u) ∧
      (r.2.2 = true → ∃ u, exec .kwDone s = .next u ∧ u.fld (cipB + 0x244) 3 0 = 0 ∧ Raised Ev.cipKwDone u ∧
        u.keyWord k = BitVec.ofNat 512 (natBE r.1) ∧ u.cnt (keyCtr k) = beAt b 8 8 ∧ u.rd (keyAttr k) = putBits (beAt b 4 4) 17 9 o % 2 ^ 32 ∧
        (∀ i, i ≠ k → u.keyWord i = s.keyWord i)))

/-- A request that its region does not admit is answered as failed, counted and raised; an admitted one joins the queue of a channel in RUN
whose hold is empty, or the hold of a channel out of service, counted. A request that may go completes: a write stands in memory, the
requester is told. 100 us of panic raise once. REFI adds a unit of debt to each bank, or refreshes at DEBT_MAX; a refresh takes one unit and
closes the row; self-refresh closes every row and clears the debt. Slices of a pass count to 16, where margins and the pass count follow; a
slice deferred too long is counted. An EDC mismatch repeats the request and counts, MAX_REPEAT of them count a retraining, the next makes
the channel SAFE, raises, and empties it. QUIESCE, QUIESCED, TRAIN with its outcome, RESUME and RESET move the channel as Table 16-6 says,
other commands being discarded and counted. The initialiser leaves zeros in its range. Where a clause rests on a choice of the model: log
entries 16, 17, 18, 19, 23. (R334; R336; R337; R339; R340; R342; R343; R344; R345; Table 16-6; Table 16-7) -/
def Obligations.MemoryRequestsChannelsAndInit : Prop :=
  (∀ (s : State) (q : MReq) (a : BitVec 38) (n : Fin 256) (d : List Byte) (c k : Nat), c = chOf a.toNat → k = min (n.val + 1) (256 - a.toNat % 256) →
      (∀ w, s.memAllowed q a.toNat k w = false → ∃ u x, exec (.memRequest q a n w d) s = .next u ∧ Raised Ev.memRegionFault u ∧
        u.out.head? = some (.memDone q a.toNat w x true) ∧ u.mem = s.mem ∧ u.cnt (memB + 0x120) = min top64 (s.cnt (memB + 0x120) + 1)) ∧
      (∀ w, s.memAllowed q a.toNat k w = true → q.rtPort = none → s.chSafe c = false →
        (s.chState c = 0 → (s.ch c).hold = [] → (s.ch c).queue.length < 256 →
          ∃ u, exec (.memRequest q a n w d) s = .next u ∧ Keeps [.mem] noAddr noAddr s u ∧
            (u.ch c).queue = (s.ch c).queue ++ [⟨q, a.toNat, k, if w then some (slice d 0 k) else none, s.mono, 0⟩]) ∧
        (s.chState c ≠ 0 → (s.ch c).hold.length < 512 →
          ∃ u, exec (.memRequest q a n w d) s = .next u ∧ Keeps [.mem] (oneOf [memCh c + 4]) (oneOf [memChCnt c 3]) s u ∧
            (u.ch c).hold = (s.ch c).hold ++ [⟨q, a.toNat, k, if w then some (slice d 0 k) else none, s.mono, 0⟩] ∧
            u.cnt (memChCnt c 3) = min top64 (s.cnt (memChCnt c 3) + 1)))) ∧
    (∀ (s : State) (c : Fin 32) (n : Fin 256) (e : Ecc) (r : MemReq), (s.ch c.val).queue[n.val]? = some r → r.q.rtPort = none → (s.ch c.val).hold = [] →
      s.chIssues c.val = true → (s.mayGo c.val).contains n.val = true →
      (∀ b, r.write = some b → s.eccAt r.addr = false → s.mem.init = none →
        ∃ u, exec (.memReqComplete c n e) s = .next u ∧ (u.ch c.val).queue = (s.ch c.val).queue.eraseIdx n.val ∧ u.peek r.addr b.length = b ∧
          (∀ x, (x < r.addr ∨ r.addr + b.length ≤ x) → mfind u.mem.bytes x = mfind s.mem.bytes x) ∧
          u.out = .memDone r.q r.addr true [] false :: s.out) ∧
      (r.write = none → s.eccAt r.addr = false → (∀ i, i < r.len → mfind s.mem.bytes (r.addr + i) ≠ none) →
        ∃ u, exec (.memReqComplete c n e) s = .next u ∧ (u.ch c.val).queue = (s.ch c.val).queue.eraseIdx n.val ∧ u.mem.bytes = s.mem.bytes ∧
          u.out = .memDone r.q r.addr false (s.peek r.addr r.len) false :: s.out)) ∧
    (∀ (s : State) (c : Fin 32) (n : Fin 256) (e : Ecc), s.chIssues c.val = false → exec (.memReqComplete c n e) s = .next s) ∧
    (∀ (s : State) (p : Fin 4) (x : Nat), mget (fun _ => none) s.mem.panic p.val = some (x, false) →
      (x + 100 * uUs < s.mono → ∃ u, exec (.panicLong p) s = .next u ∧ Raised Ev.memPanicLong u ∧
        mget (fun _ => none) u.mem.panic p.val = some (x, true) ∧ KeepsEv memB [.mem] noAddr noAddr s u) ∧
      (s.mono ≤ x + 100 * uUs → exec (.panicLong p) s = .next s)) ∧
    (∀ (s : State) (c : Fin 32), s.chAsleep c.val = false → (s.ch c.val).refAt + s.refi c.val ≤ s.mono →
      ∃ u, exec (.refiTick c) s = .next u ∧ (u.ch c.val).refAt = (s.ch c.val).refAt + s.refi c.val ∧ Keeps [.mem] noAddr (oneOf [memChCnt c.val 2]) s u ∧
        ∀ b, b < 16 → u.debt c.val b = if s.fld (memB + 0x48) 15 12 ≤ s.debt c.val b + 1 then s.fld (memB + 0x48) 15 12 - 1 else s.debt c.val b + 1) ∧
    (∀ (s : State) (c : Fin 32) (b : Fin 16), s.chAsleep c.val = false → s.anyPanic = false → s.debt c.val b.val ≠ 0 →
      (∀ r ∈ (s.ch c.val).queue, (s.bankRow r).1 ≠ b.val) →
      ∃ u, exec (.refreshIssue c b) s = .next u ∧ u.debt c.val b.val = s.debt c.val b.val - 1 ∧ mget (fun _ => none) (u.ch c.val).row b.val = none ∧
        Keeps [.mem] noAddr noAddr s u) ∧
    (∀ (s : State) (c : Fin 32), s.chState c.val = 0 →
      (s.chAsleep c.val = false → s.fld (memB + 0x48) 11 0 ≠ 0 → (s.ch c.val).queue = [] →
        (s.ch c.val).lastReq + s.fld (memB + 0x48) 11 0 * uUs ≤ s.mono →
        ∃ u, exec (.selfRefreshEnter c) s = .next u ∧ u.chAsleep c.val = true ∧ (u.ch c.val).row = [] ∧ (u.ch c.val).debt = [] ∧
          Keeps [.mem] (oneOf [memCh c.val + 4]) noAddr s u) ∧
      (∀ r l, s.chAsleep c.val = true → (s.ch c.val).queue = r :: l → r.since + uUs / 2 ≤ s.mono →
        ∃ u, exec (.selfRefreshExit c) s = .next u ∧ u.chAsleep c.val = false ∧ (u.ch c.val).refAt = s.mono ∧ (u.ch c.val).queue = r :: l ∧
          Keeps [.mem] (oneOf [memCh c.val + 4]) noAddr s u)) ∧
    (∀ (s : State) (c : Fin 32), (∃ u, exec (.tempReport c false) s = .next u ∧ u.flag (memCh c.val + 4) 4 = false ∧
        Keeps [] (oneOf [memCh c.val + 4]) noAddr s u) ∧
      (s.flag (memCh c.val + 4) 4 = false → ∃ u, exec (.tempReport c true) s = .next u ∧ u.flag (memCh c.val + 4) 4 = true ∧ Raised Ev.memTempHi u ∧
        KeepsEv memB [] (oneOf [memCh c.val + 4]) noAddr s u)) ∧
    (∀ (s : State) (c : Fin 32) (x y : BitVec 8), s.sliceReady c.val = true →
      (s.anyPanic = false → (s.ch c.val).slices < 15 → ∃ u, exec (.retrainSlice c x y) s = .next u ∧ (u.ch c.val).slices = (s.ch c.val).slices + 1 ∧
        (u.ch c.val).sliceAt = s.mono ∧ Keeps [.mem] noAddr noAddr s u) ∧
      (s.anyPanic = false → (s.ch c.val).slices = 15 → ∃ u, exec (.retrainSlice c x y) s = .next u ∧ (u.ch c.val).slices = 16 ∧
        u.fld (memCh c.val + 8) 31 24 = x.toNat ∧ u.fld (memCh c.val + 8) 23 16 = y.toNat ∧
        u.cnt (memChCnt c.val 5) = min top64 (s.cnt (memChCnt c.val 5) + 1) ∧
        (x.toNat < s.fld (memB + 0x50) 7 0 ∨ y.toNat < s.fld (memB + 0x50) 7 0 → Raised Ev.memMarginLow u)) ∧
      (s.anyPanic = true → exec (.retrainSlice c x y) s = .next s) ∧
      (s.anyPanic = true → s.sliceDue c.val + s.fld (memB + 0x50) 15 8 * uMs ≤ s.mono →
        ∃ u, exec (.retrainDeferExpire c x y) s = .next u ∧ u.cnt (memB + 0x128) = min top64 (s.cnt (memB + 0x128) + 1) ∧ (u.ch c.val).sliceAt = s.mono)) ∧
    (∀ (s : State) (c : Fin 32) (n : Fin 256) (x y : BitVec 8) (r : MemReq), (s.ch c.val).queue[n.val]? = some r → s.chIssues c.val = true →
      (s.mayGo c.val).contains n.val = true →
      (r.tries ≤ s.fld (memB + 0x54) 3 0 → ∃ u, exec (.edcMismatch c n x y) s = .next u ∧
        (u.ch c.val).queue = (s.ch c.val).queue.set n.val { r with tries := r.tries + 1 } ∧ u.cnt (memChCnt c.val 0) = min top64 (s.cnt (memChCnt c.val 0) + 1) ∧
        u.cnt (memChCnt c.val 1) = (if r.tries = s.fld (memB + 0x54) 3 0 then min top64 (s.cnt (memChCnt c.val 1) + 1) else s.cnt (memChCnt c.val 1))) ∧
      (s.fld (memB + 0x54) 3 0 < r.tries → ∃ u, exec (.edcMismatch c n x y) s = .next u ∧ u.chSafe c.val = true ∧ Raised Ev.memLinkFail u ∧
        (u.ch c.val).queue = [] ∧ (u.ch c.val).hold = [] ∧ u.fld (memCh c.val + 4) 24 16 = 0)) ∧
    (∀ (s : State) (c : Fin 32) (ok : Bool) (x y : BitVec 8),
      (s.chState c.val = 0 → ∃ u, exec (.memChQuiesce c) s = .next u ∧ u.chState c.val = 1 ∧ (u.ch c.val).queue = (s.ch c.val).queue ∧
        Keeps [.mem] (oneOf [memCh c.val + 4]) noAddr s u) ∧
      (s.chState c.val = 1 → (s.ch c.val).queue = [] → ∃ u, exec (.memChQuiesced c) s = .next u ∧ u.chState c.val = 2 ∧ u.chAsleep c.val = true ∧
        Keeps [.mem] (oneOf [memCh c.val + 4]) noAddr s u) ∧
      (s.chState c.val = 1 → (s.ch c.val).qtRaised = false → (s.ch c.val).since + 10 * uUs ≤ s.mono →
        ∃ u, exec (.memChQuiesceTimeout c) s = .next u ∧ Raised Ev.quiesceTimeout u ∧ u.chState c.val = 1 ∧ KeepsEv memB [.mem] noAddr noAddr s u) ∧
      (s.chState c.val = 2 → (∃ u, exec (.memChTrain c) s = .next u ∧ u.chState c.val = 4 ∧ u.chAsleep c.val = false ∧ (u.ch c.val).since = s.mono) ∧
        (∃ u, exec (.memChReset c) s = .next u ∧ u.chState c.val = 2 ∧ u.flag (memCh c.val + 4) 6 = false ∧ u.chAsleep c.val = true ∧
          (u.ch c.val).hold = (s.ch c.val).hold) ∧
        (s.flag (memCh c.val + 4) 6 = true → (s.ch c.val).queue = [] → (s.ch c.val).hold.length ≤ 256 →
          ∃ u, exec (.memChResume c) s = .next u ∧ u.chState c.val = 0 ∧ (u.ch c.val).queue = (s.ch c.val).hold ∧ (u.ch c.val).hold = [])) ∧
      (s.chState c.val ≠ 2 → exec (.memChTrain c) s = .next (s.reject memB (memCh c.val - memB)) ∧
        exec (.memChReset c) s = .next (s.reject memB (memCh c.val - memB))) ∧
      (s.flag (memCh c.val + 4) 6 = false → exec (.memChResume c) s = .next (s.reject memB (memCh c.val - memB))) ∧
      (s.chState c.val = 4 → (s.ch c.val).since + 150 * uUs ≤ s.mono → ∃ u, exec (.memChTrainEnd c ok x y) s = .next u ∧ u.chState c.val = 2 ∧
        u.flag (memCh c.val + 4) 6 = ok ∧ u.flag (memCh c.val + 4) 5 = !ok ∧ u.fld (memCh c.val + 8) 31 24 = x.toNat ∧
        (ok = true → u.chSafe c.val = false) ∧ (ok = false → Raised Ev.memTrainFail u)) ∧
      (∀ r l, (s.ch c.val).hold = r :: l → (s.ch c.val).holdRaised = false → r.since + s.fld (memB + 0x4C) 31 16 * uUs < s.mono →
        ∃ u, exec (.memChHoldExpire c) s = .next u ∧ Raised Ev.memChHold u ∧ (u.ch c.val).holdRaised = true ∧ KeepsEv memB [.mem] noAddr noAddr s u)) ∧
    (∀ (s : State) (b z : Nat), b = s.rd (mciB + 0x48) * 2 ^ 20 → z = s.rd (mciB + 0x4C) * 2 ^ 20 →
      (s.flag (mciB + 0x44) 30 = true → exec .mciInitStart s = .next s) ∧
      (s.flag (mciB + 0x44) 30 = false → s.keyed = false → ∃ u, exec .mciInitStart s = .next u ∧ u.fld (mciB + 0x44) 3 0 = 2 ∧
        Keeps [] (oneOf [mciB + 0x44]) noAddr s u) ∧
      (s.flag (mciB + 0x44) 30 = false → s.keyed = true → (z = 0 ∨ s.regionAt b z = none) → ∃ u, exec .mciInitStart s = .next u ∧
        u.fld (mciB + 0x44) 3 0 = 1 ∧ Keeps [] (oneOf [mciB + 0x44]) noAddr s u) ∧
      (s.flag (mciB + 0x44) 30 = false → s.keyed = true → z ≠ 0 → s.regionAt b z ≠ none → ∃ u, exec .mciInitStart s = .next u ∧
        u.flag (mciB + 0x44) 30 = true ∧ u.fld (mciB + 0x44) 3 0 = 0 ∧ u.mem.init = some (b / 64, (b + z) / 64, s.mono) ∧ u.mem.bytes = s.mem.bytes)) ∧
    (∀ (s : State) (l h x : Nat), s.mem.init = some (l, h, x) →
      (s.running mciB = true → x + s.rd (mciB + 0x4C) * 9 * uMs / 10240 ≤ s.mono →
        ∃ u, exec .mciInitEnd s = .next u ∧ u.mem.init = none ∧ u.flag (mciB + 0x44) 30 = false ∧ Raised Ev.mciInitDone u ∧
          (∀ a, 64 * l ≤ a → a < 64 * h → mfind u.mem.bytes a = some 0) ∧ (∀ a, a < 64 * l → mfind u.mem.bytes a = mfind s.mem.bytes a)) ∧
      (s.mono < x + s.rd (mciB + 0x4C) * 9 * uMs / 10240 → exec .mciInitEnd s = .next s))

/-- PERST# takes a port to RESET, an UP one through host port down with HIF_LINK_DOWN; with PERST# deasserted and the reference clock present it
trains; DL_Up brings it UP with rate, width (at most the bifurcated one) and Flit mode shown and HIF_LINK_UP raised; training restarts after
100 ms; link loss or DOWN takes UP to TRAINING through host port down. READY is set unless the port's range overlaps that of another READY
port. Until READY, and in RESETTING, configuration requests end with RRS; a VF that is not enabled with UR; others are answered. A BAR read
answers the register word, a write writes it, a poisoned one is counted and raised. A window TLP against a slot without VALID or the enable
is refused and counted; a write against a good slot stands in memory at TARGET plus its offset. COMMIT sets PENDING when the inactive slot
is invalid or within one enabled GENERAL region, else it is discarded and counted; the flip changes ACTIVE, clears PENDING and shows
OLD_BUSY. Where a clause rests on a choice of the model: log entries 46, 129, 130, 131, 132. (R350; R351; R353; R354; R355; R356; R357;
R358; R367; Table 17-2; Table 17-5) -/
def Obligations.HostPortsTrainAnswerAndUseWindows : Prop :=
  (∀ (s : State) (h : Fin 4), s.hpUsed h.val = true →
      (∃ u, exec (.perstAssert h) s = .next u ∧ u.hpState h.val = 0 ∧ u.flag (hpA h.val 8) 15 = true ∧
        (s.hpState h.val = 2 → Raised Ev.hifLinkDown u ∧ (u.hport h.val).fetch = [] ∧ (u.hport h.val).wtlp = [])) ∧
      (s.hpState h.val = 0 → (s.hport h.val).refclk = true →
        ∃ u, exec (.perstDeassert h) s = .next u ∧ u.hpState h.val = 1 ∧ u.flag (hpA h.val 8) 15 = false ∧ (u.hport h.val).trainAt = s.mono) ∧
      (s.hpState h.val = 0 → (s.hport h.val).refclk = false →
        ∃ u, exec (.perstDeassert h) s = .next u ∧ u.hpState h.val = 0 ∧ u.flag (hpA h.val 8) 15 = false) ∧
      (s.hpState h.val = 0 → s.flag (hpA h.val 8) 15 = false →
        ∃ u, exec (.peRefclkPresent h) s = .next u ∧ u.hpState h.val = 1 ∧ (u.hport h.val).refclk = true ∧ Keeps [.hp] (oneOf [hpA h.val 8]) noAddr s u)) ∧
    (∀ (s : State) (h : Fin 4), s.hpUsed h.val = false → exec (.perstAssert h) s = .next s ∧ exec (.perstDeassert h) s = .next s ∧
      exec (.peRefclkPresent h) s = .next s) ∧
    (∀ (s : State) (h : Fin 4) (r : Fin 6) (w : Fin 5) (x : Bool),
      (s.hpState h.val = 1 → ∃ u, exec (.dlUp h r w x) s = .next u ∧ u.hpState h.val = 2 ∧ u.fld (hpA h.val 8) 7 4 = r.val + 1 ∧
        u.fld (hpA h.val 8) 12 8 = min s.hpLanes (2 ^ w.val) ∧ u.flag (hpA h.val 8) 14 = (x || decide (r.val = 5)) ∧ Raised Ev.hifLinkUp u) ∧
      (s.hpState h.val ≠ 1 → exec (.dlUp h r w x) s = .next s ∧ exec (.hifTrainTimeout h) s = .next s) ∧
      (s.hpState h.val = 1 → (s.hport h.val).trainAt + 100 * uMs ≤ s.mono →
        ∃ u, exec (.hifTrainTimeout h) s = .next u ∧ u.hpState h.val = 1 ∧ (u.hport h.val).trainAt = s.mono ∧
          Keeps [.hp] (oneOf [hpA h.val 8]) noAddr s u) ∧
      (s.hpState h.val = 2 → (∃ u, exec (.hifLinkLoss h) s = .next u ∧ u.hpState h.val = 1 ∧ Raised Ev.hifLinkDown u ∧ (u.hport h.val).fetch = []) ∧
        (∃ u, exec (.hpDown h) s = .next u ∧ u.hpState h.val = 1 ∧ Raised Ev.hifLinkDown u ∧ .hotReset h ∈ u.out ∧ (u.hport h.val).fetch = [])) ∧
      (s.hpState h.val ≠ 2 → exec (.hifLinkLoss h) s = .next s ∧ exec (.hpDown h) s = .next s)) ∧
    (∀ (s : State) (h : Fin 4),
      ((∀ g : Fin 4, g ≠ h → s.hpReady g.val = true → s.fld (hpA g.val 4) 7 0 + s.fld (hpA g.val 4) 20 12 ≤ s.fld (hpA h.val 4) 7 0 ∨
          s.fld (hpA h.val 4) 7 0 + s.fld (hpA h.val 4) 20 12 ≤ s.fld (hpA g.val 4) 7 0) →
        ∃ u, exec (.hpReady h) s = .next u ∧ u.hpReady h.val = true) ∧
      (∀ g : Fin 4, g ≠ h → s.hpReady g.val = true → s.fld (hpA h.val 4) 7 0 < s.fld (hpA g.val 4) 7 0 + s.fld (hpA g.val 4) 20 12 →
        s.fld (hpA g.val 4) 7 0 < s.fld (hpA h.val 4) 7 0 + s.fld (hpA h.val 4) 20 12 →
        exec (.hpReady h) s = .next (s.reject hifB (hpA h.val 0 - hifB)))) ∧
    (∀ (s : State) (f : Fin 260) (op : CfgOp), (s.cfgPort f.val = none → exec (.configRequest f op) s = .next s) ∧
      (∀ h, s.cfgPort f.val = some h →
        (s.hpReady h = false ∨ s.fnState f.val = 4 → exec (.configRequest f op) s = .next (s.emit (.cpl f.val 3 [] false))) ∧
        (s.hpReady h = true → s.fnState f.val ≠ 4 → f.val < 256 → s.vfOn h f.val = false →
          exec (.configRequest f op) s = .next (s.emit (.cpl f.val 1 [] false))) ∧
        (s.hpReady h = true → s.fnState f.val ≠ 4 → (256 ≤ f.val ∨ s.vfOn h f.val = true) →
          (∃ u v, exec (.configRequest f op) s = .next u ∧ u.out.head? = some (.cpl f.val 0 (bytesLE 4 v) false)) ∧
          exec (.configRequest f .ids) s = .next (s.emit (.cpl f.val 0
            (bytesLE 4 ((if 256 ≤ f.val then 0x6160 else 0x6161) * 2 ^ 16 + Config.vendorId.toNat)) false))))) ∧
    (∀ (s : State) (f : Fin 260) (b : Bool) (o : BitVec 24) (e : BitVec 8) (x : WEnv) (h : Nat) (q : Req), s.cfgPort f.val = some h →
      (s.hpReady h = false → 256 ≤ f.val → exec (.barAccess f b o false ⟨e, none⟩ false x) s = .next ((s.emit (.aer f.val 4)).emit (.cpl f.val 1 [] false))) ∧
      (s.hpReady h = true → (256 ≤ f.val ∨ (s.vfOn h f.val = true ∧ b = false)) → s.barReq h f b (4 * o.toNat) = some q →
        (∃ u, exec (.barAccess f b o false ⟨e, none⟩ false x) s = .next u ∧
          u.out.head? = some (.cpl f.val 0 (bytesLE 4 (byteMask (s.regRead q (4 * o.toNat)).1 (e.toNat % 16))) false)) ∧
        (∀ (v : BitVec 64) (be : BitVec 8), exec (.barAccess f b o false ⟨be, some v⟩ false x) s =
          .next (s.regWrite q (4 * o.toNat) (be.toNat % 16) (v.toNat % 2 ^ 32) x)) ∧
        (∀ (v : BitVec 64) (be : BitVec 8), h < 4 → ∃ u, exec (.barAccess f b o false ⟨be, some v⟩ true x) s = .next u ∧
          u.cnt (hpA h 0x130) = min top64 (s.cnt (hpA h 0x130) + 1) ∧ Raised Ev.hifPoison u ∧ KeepsEv hifB [] noAddr (oneOf [hpA h 0x130]) s u))) ∧
    (∀ (s : State) (f : Fin 256) (o : BitVec 36) (d : Option (List Byte)) (n : Fin 4097) (e : Ecc) (bad : Nat) (c : Bool) (h w k : Nat),
      s.cfgPort f.val = some h → s.hpReady h = true → s.vfOn h f.val = true → s.winLog f.val ≠ 0 → o.toNat < 2 ^ s.winLog f.val →
      w = o.toNat / s.winSize f.val → k = s.fld (winA f.val w 0x20) 0 0 → w < 16 → h < 4 →
      ((s.flag (winA f.val w (0x10 * k)) 31 = false ∨ s.flag (winA f.val w (0x10 * k)) (if d.isNone then 29 else 30) = false) →
        ∃ u, exec (.windowTlp f o d n false e bad c) s = .next u ∧ u.rd (winA f.val w 0x28) = min top32 (s.rd (winA f.val w 0x28) + 1) ∧
          u.cnt (hpA h 0x120) = min top64 (s.cnt (hpA h 0x120) + 1) ∧ u.mem = s.mem ∧ (d = none → u.out.head? = some (.cpl f.val 1 [] false))) ∧
      (∀ bs a, d = some bs → a = s.winTarget f.val w k + o.toNat % s.winSize f.val → s.flag (winA f.val w (0x10 * k)) 31 = true →
        s.flag (winA f.val w (0x10 * k)) 30 = true → (s.hport h).wtlp = [] → s.memAllowed .hif a bs.length true = true → s.memServes a bs.length = true →
        s.safeCh a bs.length = none → s.mem.init = none → s.eccAt a = false →
        ∃ u, exec (.windowTlp f o d n false e bad true) s = .next u ∧ u.peek a bs.length = bs ∧ (u.hport h).wtlp = [] ∧
          (∀ y, (y < a ∨ a + bs.length ≤ y) → mfind u.mem.bytes y = mfind s.mem.bytes y) ∧ Keeps [.hp, .mem] noAddr noAddr s u)) ∧
    (∀ (s : State) (f : Fin 256) (w : Fin 16) (c k : Nat), c = winA f.val w.val 0x20 → k = 1 - s.fld c 0 0 →
      ((s.flag (winA f.val w.val (0x10 * k)) 31 = false ∨
          ∃ r, s.regionAt (s.winTarget f.val w.val k) (s.winSize f.val) = some r ∧ s.regType r = 1) →
        ∃ u, exec (.winCommit f w) s = .next u ∧ u.flag c 30 = true ∧ u.fld c 0 0 = s.fld c 0 0 ∧ Keeps [] (oneOf [c]) noAddr s u) ∧
      (s.flag (winA f.val w.val (0x10 * k)) 31 = true → s.regionAt (s.winTarget f.val w.val k) (s.winSize f.val) = none →
        exec (.winCommit f w) s = .next (s.reject tfnB (c - tfnB))) ∧
      (s.flag c 30 = true → ∃ u, exec (.winFlip f w) s = .next u ∧ u.fld c 0 0 = k ∧ u.flag c 30 = false ∧
        u.flag c 29 = s.winBusy f.val w.val (s.fld c 0 0) ∧ Keeps [] (oneOf [c]) noAddr s u) ∧
      (s.flag c 30 = false → exec (.winFlip f w) s = .next s) ∧
      (∀ e bad, s.flag c 29 = false → exec (.oldBusyClear f w e bad) s = .next s) ∧
      (∀ e bad, s.flag c 29 = true → (∀ h : Fin 4, (s.hport h.val).wtlp = []) →
        ∃ u, exec (.oldBusyClear f w e bad) s = .next u ∧ u.flag c 29 = false ∧ Keeps [] (oneOf [c]) noAddr s u))

/-- The oldest request that may be issued goes out under a free tag of an UP port; a tag in use, in quarantine or beyond the pool changes
nothing. A completion without a request is counted and raised; a malformed one is logged only; a good one adds its data to its request; a
failing one counts the fetch once. A request past its timeout fails: counted, logged, raised, its tag held for 1 ms, after which the hold
ends. Clearing Bus Master Enable stops a function from sending and notes when; setting it lets held writes go; held data past the timeout is
discarded and raised. An FLR takes an ACTIVE or FROZEN function to RESETTING, with a new FGEN; it ends, with HIF_FLR, when 0.2 ms have
passed and nothing carries the old FGEN. VF Enable with more than 7 VFs needs ARI. A pending vector that may send does so and its bit
clears. Where a clause rests on a choice of the model: log entries 133, 134. (R353; R361; R362; R363; R364; R365; R366; R369; Table 17-8) -/
def Obligations.DmaReadsTagsAndFunctionResets : Prop :=
  (∀ (s : State) (h : Fin 4) (tag : Fin 2048) (x : Fetch) (r : RdReq), (s.hport h.val).fetch.find? (fun x => x.reqs.any (s.mayIssue x)) = some x →
      x.reqs.find? (s.mayIssue x) = some r → s.hpState h.val = 2 →
      (r.st = .wait → (s.hport h.val).tags.contains tag.val = false → (∀ q ∈ (s.hport h.val).quar, q.1 ≠ tag.val) → tag.val < s.fld (hpA h.val 0x14) 11 0 →
        ∃ u, exec (.dmaReadRequest h tag) s = .next u ∧ u.out = .dmaRead x.f tag.val r.addr r.len (s.fnGet x.f).roEnable :: s.out ∧
          (u.hport h.val).fetch = (s.hport h.val).fetch.map (fun z => if z = x then
            { x with reqs := issueReq (s.mayIssue x) tag.val (s.mono + s.cto x.f) x.reqs } else z) ∧
          Keeps [.hp, .out] (oneOf [hpA h.val 0x10]) noAddr s u) ∧
      ((s.hport h.val).tags.contains tag.val = true ∨ (∃ q ∈ (s.hport h.val).quar, q.1 = tag.val) ∨ s.fld (hpA h.val 0x14) 11 0 ≤ tag.val →
        exec (.dmaReadRequest h tag) s = .next s)) ∧
    (∀ (s : State) (h : Fin 4) (tag : Fin 2048) (st : Fin 4) (ep b : Bool) (l : BitVec 7) (n : Fin 4097) (d : List Byte),
      (s.hpState h.val ≠ 2 → exec (.cplArrive h tag st ep l n d b) s = .next s) ∧
      (s.hpState h.val = 2 → (∀ x ∈ (s.hport h.val).fetch, x.tagged tag.val = none) →
        ∃ u, exec (.cplArrive h tag st ep l n d b) s = .next u ∧ u.cnt (hpA h.val 0x108) = min top64 (s.cnt (hpA h.val 0x108) + 1) ∧
          Raised Ev.hifUnexpCpl u ∧ KeepsEv hifB [] noAddr (oneOf [hpA h.val 0x108]) s u) ∧
      (∀ x r, s.hpState h.val = 2 → (s.hport h.val).fetch.find? (fun x => (x.tagged tag.val).isSome) = some x → x.tagged tag.val = some r →
        x.gen = s.fgen x.f →
        (b = true → exec (.cplArrive h tag st ep l n d b) s = .next (s.emit (.aer x.f 3))) ∧
        (b = false → ep = false → st.val = 0 → l.toNat = (r.addr + r.got.length) % 128 → n.val = r.len - r.got.length → d.length < n.val →
          ∃ u y, exec (.cplArrive h tag st ep l n d b) s = .next u ∧ y ∈ (u.hport h.val).fetch ∧ y.f = x.f ∧
            y.tagged tag.val = some { r with got := r.got ++ d }) ∧
        (b = false → ep = false → st.val ≠ 0 → x.failed = false → ∃ u, exec (.cplArrive h tag st ep l n d b) s = .next u ∧
          u.cnt (hpA h.val 0x118) = min top64 (s.cnt (hpA h.val 0x118) + 1)))) ∧
    (∀ (s : State) (h : Fin 4) (tag : Fin 2048) (x : Fetch) (r : RdReq) (t dl : Nat),
      (s.hport h.val).fetch.find? (fun x => (x.tagged tag.val).isSome) = some x → x.tagged tag.val = some r → r.st = .out t dl →
      (dl ≤ s.mono → ∃ u, exec (.cplTimeout h tag) s = .next u ∧ u.cnt (hpA h.val 0x110) = min top64 (s.cnt (hpA h.val 0x110) + 1) ∧
        Raised Ev.hifCplTimeout u ∧ (tag.val, s.mono + uMs) ∈ (u.hport h.val).quar) ∧
      (s.mono < dl → exec (.cplTimeout h tag) s = .next s)) ∧
    (∀ (s : State) (h : Fin 4) (tag : Fin 2048), ∃ u, exec (.tagQuarantineEnd h tag) s = .next u ∧ Keeps [.hp] noAddr noAddr s u ∧
      (u.hport h.val).quar = (s.hport h.val).quar.filter (fun q => !(decide (q.1 = tag.val) && decide (q.2 ≤ s.mono)))) ∧
    (∀ (s : State) (f : Fin 260),
      (s.bme f.val = true → exec (.bmeSet f) s = .next s ∧ exec (.bmeExpire f) s = .next s ∧
        ∃ u, exec (.bmeClear f) s = .next u ∧ u.bme f.val = false ∧ (u.fnGet f.val).bmeOffAt = s.mono ∧ Keeps [.fn] (oneOf [hifFn f.val]) noAddr s u) ∧
      (s.bme f.val = false → exec (.bmeClear f) s = .next s ∧
        (∃ u, exec (.bmeSet f) s = .next u ∧ u.bme f.val = true ∧ u.flag (hifFn f.val) 29 = false ∧
          (s.running hifB = true → s.fnLost f.val = false → (u.fnGet f.val).posts = []))) ∧
      (∀ h x r, s.bme f.val = false → s.running hifB = true → (s.fnGet f.val).bmeOffAt + s.cto f.val ≤ s.mono → x ∈ (s.hport h).fetch → h < 4 →
        x.f = f.val → x.gen = s.fgen f.val → r ∈ x.reqs → r.st = .done → r.got ≠ [] →
        ∃ u, exec (.bmeExpire f) s = .next u ∧ u.flag (hifFn f.val) 29 = true ∧ Raised Ev.hifBmeExpired u)) ∧
    (∀ (s : State) (f : Fin 256) (f' : Fin 260), f'.val = f.val →
      ((s.fnState f.val = 1 ∨ s.fnState f.val = 2) →
        ∃ u, exec (.flr f') s = .next u ∧ u.fnState f.val = 4 ∧ (u.fnGet f.val).flr = true ∧ (u.fnGet f.val).resetAt = s.mono ∧
          (u.fnGet f.val).posts = [] ∧ (s.queues f.val = [] → (∀ e ∈ s.tfn.keys, e.1 / 16384 ≠ f.val) → mget (fun _ => none) s.tfn.mig f.val = none →
            u.fgen f.val = (s.fgen f.val + 1) % 256)) ∧
      (s.fnState f.val ≠ 1 → s.fnState f.val ≠ 2 → exec (.flr f') s = .next s) ∧
      (s.fnState f.val = 4 → (s.fnGet f.val).flr = true → (s.fnGet f.val).resetAt + 200 * uUs ≤ s.mono → s.fnClear f.val (s.fgen f.val) true = true →
        ∃ u, exec (.flrDone f') s = .next u ∧ u.fnState f.val = (if s.fnOn f.val then 1 else 0) ∧ Raised Ev.hifFlr u ∧ (u.fnGet f.val).flr = false) ∧
      (s.fnState f.val ≠ 4 ∨ s.mono < (s.fnGet f.val).resetAt + 200 * uUs → exec (.flrDone f') s = .next s)) ∧
    (∀ (s : State) (h : Fin 4) (on : Bool) (n : BitVec 16),
      (s.hpReady h.val = true → s.hpState h.val = 2 → s.fnState (256 + h.val) ≠ 4 → (s.fnGet (256 + h.val)).vfEnable = false →
        ∃ u, exec (.vfEnableChange h on n) s = .next u ∧ (u.fnGet (256 + h.val)).numVfs = n.toNat ∧
          (u.fnGet (256 + h.val)).vfEnable = (on && ((s.fnGet (256 + h.val)).ari || decide (n.toNat ≤ 7))) ∧
          (on = true → n.toNat ≤ 7 → Raised Ev.hifVfChange u)) ∧
      (s.hpReady h.val = false ∨ s.hpState h.val ≠ 2 → exec (.vfEnableChange h on n) s = .next s)) ∧
    (∀ (s : State) (f : Fin 260) (v : Fin 1024), (s.pba f.val v.val = true → s.msixMay f.val v.val = true →
        ∃ u, exec (.msixSend f v) s = .next u ∧ u.pba f.val v.val = false ∧ Keeps [.pregs, .out] noAddr noAddr s u ∧
          u.out = .msix f.val v.val (s.prd f.val (0x8000 + 16 * v.val) + s.prd f.val (0x8000 + 16 * v.val + 4) * 2 ^ 32)
            (BitVec.ofNat 32 (s.prd f.val (0x8000 + 16 * v.val + 8))) :: s.out) ∧
      (s.pba f.val v.val = false ∨ s.msixMay f.val v.val = false → exec (.msixSend f v) s = .next s))

/-- SEND queues the 256 words and sets BUSY; while BUSY it is counted only; a full queue answers at once with BUSY. An answer is written to the
page with DONE if its FGEN is current, else counted and dropped. The oldest request of a function that is not FROZEN is served: QUERY gives
quotas and use; a request from a sender the opcode does not allow, or an unknown opcode, is answered so. Queue creation makes the queue it
asks for, destruction drains it. KEY_LOAD gives a handle to a VALID slot, KEY_FREE opens it. OPEN allocates a context in the pool, or
answers NO_CONTEXT without quota or pool; LISTEN adds a listener; MODIFY changes keys, a refusal being the context's last error, and waits
for a context out of reach; CLOSE and ABORT end a context. WINDOW_SET writes the inactive slot and commits. LOG_START, LOG_SYNC and LOG_STOP
run the dirty log, MIG_KEYX and MIG_ACCEPT install a migration key, SAVE seals a quiet FROZEN function, RESTORE of an empty blob leaves it
FROZEN with the blob's FGEN. (Payload layouts that the manual leaves to the firmware are the model's, log entry 136.) Where a clause rests
on a choice of the model: log entries 135, 137, 142. (R279; R282; R283; R286; R377; R379; R380; R381; R389; R391; R392; Table 18-4) -/
def Obligations.MailboxRequestsAreServed : Prop :=
  (∀ (s : State) (f : Fin 260), ((s.prd f.val 0x104).testBit 31 = true → exec (.mbxSend f) s = .next (s.bump (tfCnt f.val 11) 1)) ∧
      ((s.prd f.val 0x104).testBit 31 = false → s.running tfnB = true → s.tfn.mbxQ.length < 256 →
        ∃ u, exec (.mbxSend f) s = .next u ∧ (u.prd f.val 0x104).testBit 31 = true ∧
          u.tfn.mbxQ = s.tfn.mbxQ ++ [⟨f.val, s.fgen f.val, (List.range 256).map (fun n => BitVec.ofNat 32 (s.prd f.val (0x200 + 4 * n)))⟩]) ∧
      ((s.prd f.val 0x104).testBit 31 = false → 256 ≤ s.tfn.mbxQ.length →
        ∃ u, exec (.mbxSend f) s = .next u ∧ u.tfn.mbxQ = s.tfn.mbxQ ∧ Raised Ev.tfnMbxBusy u ∧ u.prd f.val 0x604 = s.fgen f.val * 2 ^ 8 + 1)) ∧
    (∀ (s : State) (f : Fin 260) (x : Nat × Nat × List Word), s.tfn.rsp.find? (fun x => x.1 = f.val) = some x →
      (x.2.1 = s.fgen f.val → ∃ u, exec (.mbxResponse f) s = .next u ∧ (∀ n, n < 256 → u.prd f.val (0x600 + 4 * n) = (x.2.2.getD n 0).toNat) ∧
        (u.prd f.val 0x104).testBit 31 = false ∧ (u.prd f.val 0x104).testBit 30 = true ∧ u.tfn.rsp = s.tfn.rsp.erase x) ∧
      (x.2.1 ≠ s.fgen f.val → ∃ u, exec (.mbxResponse f) s = .next u ∧ u.pregs = s.pregs ∧ u.tfn.rsp = s.tfn.rsp.erase x ∧
        u.cnt (tfCnt f.val 10) = min top64 (s.cnt (tfCnt f.val 10) + 1))) ∧
    (∀ (s : State) (r : MbxReq) (f : Nat), Asks s r 1 f → f < 260 → ∃ u, exec .mbxQuery s = .next u ∧
      Answered s u r f 0 [s.rd (tfnB + 0x10008 + 0x40 * f), s.rd (ctxMaxA f), s.rd (tfnB + 0x10014 + 0x40 * f), s.rd (ctxUseA f)]) ∧
    (∀ (s : State) (r : MbxReq) (f : Nat), Asks s r r.op f → knownOps.contains r.op = false → ∃ u, exec .badOpcode s = .next u ∧ Answered s u r f 2 []) ∧
    (∀ (s : State) (r : MbxReq), s.tfn.mbxQ.find? (fun r => s.fnState r.f ≠ 2) = some r → r.op = 2 → 256 ≤ r.f →
      ∃ u, exec .txqCreate s = .next u ∧ Answered s u r r.f 6 []) ∧
    (∀ (s : State) (r : MbxReq) (f q l : Nat), r.f < 256 → q = bits (r.p 0) 31 16 → l = bits (r.p 0) 15 11 →
      q < 768 → 6 ≤ l → l ≤ 16 → bits (r.p 0) 10 8 ≤ 1 → (r.p 1 + r.p 2 * 2 ^ 32) % 64 = 0 → (r.p 3 + r.p 4 * 2 ^ 32) % 64 = 0 →
      (Asks s r 2 f → s.tq_ f false q = none → q < s.queMax f false → bits (r.p 5) 10 0 < s.msixCount f → s.queFree false ≠ 0 →
        (bits (r.p 0) 10 8 = 0 → bits (r.p 0) 7 0 ≠ 255 ∧ s.pipeMay f (bits (r.p 0) 7 0) = true) →
        ∃ u, exec .txqCreate s = .next u ∧ Answered s u r f 0 [] ∧ u.queFree false = s.queFree false - 1 ∧ u.tq_ f false q = some {
          log2 := l, typ := bits (r.p 0) 10 8, pipe := if bits (r.p 0) 10 8 = 0 then bits (r.p 0) 7 0 else 0, ring := r.p 1 + r.p 2 * 2 ^ 32,
          cring := r.p 3 + r.p 4 * 2 ^ 32, irq := (r.p 5).testBit 31, vec := bits (r.p 5) 10 0 }) ∧
      (Asks s r 3 f → s.tq_ f true q = none → q < s.queMax f true → bits (r.p 0) 7 0 < s.msixCount f → s.queFree true ≠ 0 →
        ∃ u, exec .rxqCreate s = .next u ∧ Answered s u r f 0 [] ∧ u.queFree true = s.queFree true - 1 ∧ u.tq_ f true q = some {
          log2 := l, typ := bits (r.p 0) 10 8, ring := r.p 1 + r.p 2 * 2 ^ 32, cring := r.p 3 + r.p 4 * 2 ^ 32, irq := (r.p 5).testBit 31,
          vec := bits (r.p 0) 7 0, limit := bits (r.p 5) 15 0 }) ∧
      (Asks s r 2 f → s.tq_ f false q = none → s.queMax f false ≤ q → ∃ u, exec .txqCreate s = .next u ∧ Answered s u r f 7 [] ∧ u.tfn.q = s.tfn.q)) ∧
    (∀ (s : State) (r : MbxReq) (f q : Nat) (rx : Bool), r.f < 256 → Asks s r 4 f → rx = (r.p 0).testBit 31 → q = bits (r.p 0) 9 0 →
      (s.tq_ f rx q = none → ∃ u, exec .qDestroy s = .next u ∧ Answered s u r f 7 []) ∧
      (∀ t, s.tq_ f rx q = some t → t.draining = false → s.vq (16 + f) q = [] →
        ∃ u y, exec .qDestroy s = .next u ∧ u.tq_ f rx q = some y ∧ y.draining = true ∧ y.bufs = [] ∧ Answered s u r f 0 [])) ∧
    (∀ (s : State) (r : MbxReq) (f k i a : Nat), r.f < 256 → Asks s r 5 f → s.fld (ctxUseA f) 14 0 < s.fld (ctxMaxA f) 14 0 →
      s.idxFree f (s.fld (ctxMaxA f) 14 0) s.tfn.keys = some i → s.keySlotFree.1 = some k →
      a = putBits (putBits (bits (r.p 0) 30 24 * 2 ^ 24) 17 9 (16 + f)) 21 21 (s.fld (tfnB + 0x10010 + 0x40 * f) 31 31) →
      attrReserved a = false → s.zeroizing = false → keyCheck (putBits a 31 31 1) (BitVec.ofNat 512 (natBE (r.bytes 1 64))) = 0 →
      ∃ u, exec .keyLoad s = .next u ∧ u.keyValid k = true ∧ u.keyWord k = BitVec.ofNat 512 (natBE (r.bytes 1 64)) ∧ u.keyOf f i = some k ∧
        attrOwner (u.rd (keyAttr k)) = 16 + f ∧ Answered s u r f 0 [i, keyKcv (u.keyWord k)]) ∧
    (∀ (s : State) (r : MbxReq) (f : Nat), r.f < 256 → Asks s r 5 f → s.fld (ctxMaxA f) 14 0 ≤ s.fld (ctxUseA f) 14 0 →
      ∃ u, exec .keyLoad s = .next u ∧ Answered s u r f 4 [] ∧ u.cip = s.cip) ∧
    (∀ (s : State) (r : MbxReq) (f : Nat), r.f < 256 → Asks s r 6 f →
      (∀ k, s.keyOf f (bits (r.p 0) 13 0) = some k → k < 16384 → ∃ u, exec .keyFree s = .next u ∧ u.keyOf f (bits (r.p 0) 13 0) = none ∧
        u.keyValid k = false ∧ u.keyWord k = 0 ∧ u.fld (ctxUseA f) 14 0 = s.fld (ctxUseA f) 14 0 - 1 ∧ Answered s u r f 0 []) ∧
      (s.keyOf f (bits (r.p 0) 13 0) = none → ∃ u, exec .keyFree s = .next u ∧ Answered s u r f 7 [])) ∧
    (∀ (s : State) (r : MbxReq) (f : Nat) (o : OpenReq), r.f < 256 → Asks s r 7 f →
      (o.refused = true → ∃ u, exec (.mbxOpen o) s = .next u ∧ Answered s u r f 0x11 [] ∧ u.svc = s.svc) ∧
      (∀ a b, o.refused = false → o.inRange = true → s.queuesFor f o = true → (o.kind = 3 ∨ o.kind = 4) → s.reqKeySlot f o.keyRx = some a →
        s.reqKeySlot f o.keyTx = some b →
        (∀ i id z, s.fld (ctxUseA f) 30 16 < s.fld (ctxMaxA f) 30 16 → s.idxFree f (s.fld (ctxMaxA f) 30 16) s.tfn.ctxs = some i →
          s.draw.2.ctxFree.1 = some id → s.svc.pool = some z → s.memAllowed .ctx z poolBytes true = true → s.cacheOut (id % 128) = none →
          ∃ u, exec (.mbxOpen o) s = .next u ∧ (u.ctx id).kind = o.kind ∧ (u.ctx id).state = 2 ∧ (u.ctx id).owner = 16 + f ∧ (u.ctx id).keyRx = a ∧
            (u.ctx id).keyTx = b ∧ (u.ctx id).req = o ∧ (u.ctx id).gen = ((s.ctx id).gen + 1) % 2 ^ 16 ∧ u.cached id = true ∧
            mget (fun _ => none) u.tfn.ctxs (16384 * f + i) = some id ∧ u.fld (ctxUseA f) 30 16 = s.fld (ctxUseA f) 30 16 + 1 ∧
            Answered s u r f 0 [(u.ctx id).handle]) ∧
        ((s.fld (ctxMaxA f) 30 16 ≤ s.fld (ctxUseA f) 30 16 ∨ (s.svc.pool = none ∧ ∀ g, g < 32 → s.regType g ≠ 2)) →
          ∃ u, exec (.mbxOpen o) s = .next u ∧ u.svc = s.svc ∧ Answered s u r f 0x10 []))) ∧
    (∀ (s : State) (r : MbxReq) (f : Nat) (p : BitVec 16) (n : Nat) (o : OpenReq), r.f < 256 → Asks s r 8 f → o.refused = false → o.inRange = true →
      o.kind = 1 → (1 ≤ n → n ≤ 1024 → ∃ u, exec (.mbxListen p n o) s = .next u ∧ Answered s u r f 0 [] ∧
        u.svc = { s.svc with listen := s.svc.listen ++ [⟨f, p.toNat, n, o⟩] }) ∧
      (n < 1 ∨ 1024 < n → ∃ u, exec (.mbxListen p n o) s = .next u ∧ Answered s u r f 7 [] ∧ u.svc = s.svc)) ∧
    (∀ (s : State) (r : MbxReq) (f : Nat) (m : ModReq), r.f < 256 →
      (Asks s r 9 f → s.ctxOfHandle f (r.p 0) = none → ∃ u, exec (.mbxModify m) s = .next u ∧ Answered s u r f 0x10 []) ∧
      (∀ id h a, Asks s r 9 f → s.ctxOfHandle f (r.p 0) = some id → s.cached id = true → m.keyRx = some h → m.keyTx = none → m.standby = none →
        m.buf = none → (s.reqKeySlot f (some h) = some a → ∃ u, exec (.mbxModify m) s = .next u ∧
          u.ctx id = { s.ctx id with keyRx := a, recRx := 0, hold := false, rxStop := false } ∧ Answered s u r f 0 []) ∧
        (s.reqKeySlot f (some h) = none → ∃ u, exec (.mbxModify m) s = .next u ∧
          u.ctx id = { s.ctx id with lastErr := 0x12 } ∧ Answered s u r f 0x12 [])) ∧
      (∀ id, Asks s r 9 f → s.ctxOfHandle f (r.p 0) = some id → s.cached id = false → s.ctxServes id = false → exec (.mbxModify m) s = .next s) ∧
      (∀ id, Asks s r 0xA f → s.ctxOfHandle f (r.p 0) = some id → s.cached id = true → (s.ctx id).state ≠ 3 →
        ((r.p 1).testBit 0 = false → ∃ u, exec .mbxClose s = .next u ∧ (u.ctx id).state = 3 ∧ Answered s u r f 0 []) ∧
        ((r.p 1).testBit 0 = true → ∃ u, exec .mbxAbort s = .next u ∧ (u.ctx id).state = 3 ∧ (u.ctx id).outq = [] ∧ Answered s u r f 0 []))) ∧
    (∀ (s : State) (r : MbxReq) (f w k : Nat), r.f < 256 → Asks s r 0xB f → w = r.p 0 → k = 1 - s.fld (winA f w 0x20) 0 0 →
      (∃ u, exec (.windowSet false) s = .next u ∧ Answered s u r f 6 []) ∧
      (w < 16 → r.p 2 % 4096 = 0 → s.flag (winA f w 0x20) 30 = true → exec (.windowSet true) s = .next s) ∧
      (w < 16 → r.p 2 % 4096 = 0 → s.flag (winA f w 0x20) 30 = false → ((r.p 1).testBit 31 = false ∨
          ∃ g, s.regionAt (r.p 2 + r.p 3 * 2 ^ 32) (s.winSize f) = some g ∧ s.regType g = 1) →
        ∃ u, exec (.windowSet true) s = .next u ∧ u.flag (winA f w 0x20) 30 = true ∧ u.winTarget f w k = r.p 2 + r.p 3 * 2 ^ 32 ∧
          u.flag (winA f w (0x10 * k)) 31 = (r.p 1).testBit 31 ∧ Answered s u r f 0 [])) ∧
    (∀ (s : State) (r : MbxReq) (f : Nat), 256 ≤ r.f → f < 256 →
      (∀ b, Asks s r 0x22 f → b = r.p 0 + r.p 1 * 2 ^ 32 → b % 4096 = 0 → 1 ≤ r.p 2 → r.p 2 ≤ 67108864 →
        ∃ u, exec .logStart s = .next u ∧ mget (fun _ => none) u.tfn.log f = some ⟨b, r.p 2, []⟩ ∧ u.flag (tfnStat f) 30 = true ∧
          u.flag (tfnStat f) 29 = false ∧ Answered s u r f 0 []) ∧
      (∀ l, Asks s r 0x23 f → mget (fun _ => none) s.tfn.log f = some l → r.p 3 % 64 = 0 → f ≠ r.f →
        ∃ u, exec .logSync s = .next u ∧ Answered s u r f 0 [s.fld (tfnStat f) 29 29] ∧ mget (fun _ => none) u.tfn.log f =
          some { l with bits := l.bits.filter (fun i => decide (i < r.p 2) || decide (r.p 2 + r.p 3 ≤ i)) }) ∧
      (∀ l, Asks s r 0x24 f → mget (fun _ => none) s.tfn.log f = some l → ∃ u, exec .logStop s = .next u ∧
        mget (fun _ => none) u.tfn.log f = none ∧ u.flag (tfnStat f) 30 = false ∧ Answered s u r f 0 []) ∧
      (Asks s r 0x24 f → mget (fun _ => none) s.tfn.log f = none → ∃ u, exec .logStop s = .next u ∧ Answered s u r f 5 []) ∧
      (∀ m z, Asks s r 0x20 f → mget (fun _ => none) s.tfn.mig f = some m → m.slot < 16384 →
        ecdh (Config.anyNat s.free % (n256 - 1) + 1) (ptOf (r.bytes 0 65)) = some z →
        ∃ u i p, exec .migKeyx s = .next u ∧ mget (fun _ => none) u.tfn.mig f = some ⟨i, m.slot⟩ ∧ Answered s u r f 0 (p ++ [i])) ∧
      (Asks s r 0x21 f → s.flag (cipB + 0x200) 30 = false → ∃ u, exec .migAccept s = .next u ∧ Answered s u r f 6 []) ∧
      (∀ m z, Asks s r 0x21 f → s.flag (cipB + 0x200) 30 = true → mget (fun _ => none) s.tfn.mig f = some m → m.slot < 16384 →
        ecdh identityKey (ptOf (r.bytes 0 65)) = some z →
        ∃ u, exec .migAccept s = .next u ∧ mget (fun _ => none) u.tfn.mig f = some ⟨r.p 17, m.slot⟩ ∧ Answered s u r f 0 []) ∧
      (Asks s r 0x25 f → s.flag (tfnB + 0x10010 + 0x40 * f) 31 = false → ∃ u, exec .mbxSave s = .next u ∧ Answered s u r f 6 []) ∧
      (∀ m, Asks s r 0x25 f → s.flag (tfnB + 0x10010 + 0x40 * f) 31 = true → mget (fun _ => none) s.tfn.mig f = some m → m.slot < 16384 →
        s.fnState f = 2 → s.flag (tfnStat f) 31 = true → (∀ x ∈ handlesOf f s.tfn.keys, s.flag (keyAttr x.2) 21 = true) →
        (∀ x ∈ s.queues f, s.vq (16 + f) x.2 = []) → s.flag (keyAttr m.slot) 20 = false →
        s.cnt (keyCtr m.slot) + (handlesOf f s.tfn.keys).length + 1 < 2 ^ 64 →
        ∃ u x, exec .mbxSave s = .next u ∧ 64 ≤ x ∧ Answered s u r f 0 [x] ∧
          u.cnt (keyCtr m.slot) = s.cnt (keyCtr m.slot) + (handlesOf f s.tfn.keys).length + 1) ∧
      (∀ b, Asks s r 0x26 f → beAt b 0 2 ≠ 0x4D47 → ∃ u, exec (.mbxRestore b) s = .next u ∧ Answered s u r f 8 []) ∧
      (∀ b m p, Asks s r 0x26 f → beAt b 0 2 = 0x4D47 → beAt b 2 1 = 1 → mget (fun _ => none) s.tfn.mig f = some m → s.blobOf m.slot b = (p, true) →
        p.id = m.id → p.svcVer = 1 → p.ntx = 0 → p.nrx = 0 → p.nctx = 0 → p.nkey = 0 → (s.fnState f = 1 ∨ s.fnState f = 2) → s.queues f = [] →
        handlesOf f s.tfn.ctxs = [] → handlesOf f s.tfn.keys = [] → s.fnClear f p.gen true = true → p.gen < 256 →
        (∀ x ∈ s.tfn.mbxQ.erase r, x.f ≠ f) →
        ∃ u, exec (.mbxRestore b) s = .next u ∧ u.fnState f = 2 ∧ u.fgen f = p.gen ∧ u.flag (tfnStat f) 31 = true ∧ Answered s u r f 0 []))

/-- FREEZE takes an ACTIVE function to FROZEN, THAW a FROZEN one to ACTIVE with its stored doorbells spent, RESET an ACTIVE or FROZEN one to
RESETTING with a new FGEN and no queue; elsewhere the command is discarded, or answered BAD_STATE through the mailbox. A function leaves
RESETTING, or ORPHANED on a port that is UP, when nothing carries its FGEN. QUIET rises with TFN_FROZEN when nothing is in flight; a late
freeze raises TFN_FREEZE_TIMEOUT once. A doorbell of no queue, of a draining one or with an index too far ahead is counted; of a FROZEN
function it is stored. A frame fetched for a RAW queue waits at its pipeline; a failed fetch is completed with an error; stale work is
dropped and counted. A finished frame is completed. A receive copy goes into the head buffer, or is dropped where it does not fit. A drained
queue is destroyed and returned. Quotas beyond R381 are discarded; a lowered one drains queues. Where a clause rests on a choice of the
model: log entries 139, 140, 141. (R375; R376; R377; R378; R381; R383; R385; R386; R389; R390; Table 18-2) -/
def Obligations.FunctionsAndQueuesChangeAsTheirTablesGive : Prop :=
  (∀ (s : State) (f : Fin 260), (s.fnState f.val = 1 → ∃ u, exec (.fnFreeze (some f)) s = .next u ∧ u.fnState f.val = 2 ∧
        mget (fun _ => 0) u.tfn.frozenAt f.val = s.mono ∧ Raised Ev.tfnState u ∧ KeepsEv tfnB [.tfn, .hp] (oneOf [tfnStat f.val]) noAddr s u) ∧
      (s.fnState f.val ≠ 1 → exec (.fnFreeze (some f)) s = .next (s.reject tfnB (0x10000 + 0x40 * f.val))) ∧
      (s.fnState f.val = 2 → ∃ u, exec (.fnThaw (some f)) s = .next u ∧ u.fnState f.val = 1 ∧ u.flag (tfnStat f.val) 31 = false ∧ Raised Ev.tfnState u ∧
        (∀ g : Fin 260, g ≠ f → u.fnState g.val = s.fnState g.val) ∧
        (∀ rx q t, q < 768 → u.tq_ f.val rx q = some t → t.pi2 = none ∧ t.ci2 = none)) ∧
      (s.fnState f.val ≠ 2 → exec (.fnThaw (some f)) s = .next (s.reject tfnB (0x10000 + 0x40 * f.val))) ∧
      ((s.fnState f.val = 1 ∨ s.fnState f.val = 2) → ∃ u, exec (.fnReset (some f)) s = .next u ∧ u.fnState f.val = 4 ∧ u.queues f.val = [] ∧
        handlesOf f.val u.tfn.keys = [] ∧ mget (fun _ => none) u.tfn.mig f.val = none ∧ mget (fun _ => none) u.tfn.log f.val = none ∧
        (s.queues f.val = [] → handlesOf f.val s.tfn.keys = [] → mget (fun _ => none) s.tfn.mig f.val = none →
          u.fgen f.val = (s.fgen f.val + 1) % 256 ∧ Raised Ev.tfnState u)) ∧
      (s.fnState f.val = 0 → exec (.fnReset (some f)) s = .next (s.reject tfnB (0x10000 + 0x40 * f.val))) ∧
      (2 < s.fnState f.val → exec (.fnReset (some f)) s = .next s)) ∧
    (∀ (s : State) (r : MbxReq) (f : Nat), 256 ≤ r.f → f < 260 →
      (Asks s r 0x10 f → (s.fnState f = 1 → ∃ u, exec (.fnFreeze none) s = .next u ∧ u.fnState f = 2 ∧ Answered s u r f 0 []) ∧
        (s.fnState f ≠ 1 → ∃ u, exec (.fnFreeze none) s = .next u ∧ Answered s u r f 5 [])) ∧
      (Asks s r 0x11 f → (s.fnState f = 2 → ∃ u, exec (.fnThaw none) s = .next u ∧ u.fnState f = 1 ∧ Answered s u r f 0 []) ∧
        (s.fnState f ≠ 2 → ∃ u, exec (.fnThaw none) s = .next u ∧ Answered s u r f 5 [])) ∧
      (Asks s r 0x12 f → ((s.fnState f = 1 ∨ s.fnState f = 2) → ∃ u w, exec (.fnReset none) s = .next u ∧ u.fnState f = 4 ∧
          u.tfn.rsp.getLast? = some (r.f, r.gen, w) ∧ bits (w.getD 1 0).toNat 7 0 = 0) ∧
        (s.fnState f = 0 → ∃ u, exec (.fnReset none) s = .next u ∧ Answered s u r f 5 []))) ∧
    (∀ (s : State) (f : Fin 260),
      (s.fnClear f.val (s.fgen f.val) true = true → s.fnState f.val = 4 → (s.fnGet f.val).flr = false →
        ∃ u, exec (.fnCleanupDone f) s = .next u ∧ u.fnState f.val = (if s.fnOn f.val then 1 else 0) ∧ Raised Ev.tfnState u ∧
          KeepsEv tfnB [.fn] (oneOf [tfnStat f.val]) noAddr s u) ∧
      (∀ h, s.fnClear f.val (s.fgen f.val) true = true → s.fnState f.val = 3 → s.rangeHp f.val = some h → s.hpState h = 2 →
        ∃ u, exec (.fnCleanupDone f) s = .next u ∧ u.fnState f.val = (if s.fnOn f.val then 1 else 0) ∧ Raised Ev.tfnState u) ∧
      (s.fnClear f.val (s.fgen f.val) true = false → exec (.fnCleanupDone f) s = .next s) ∧
      (s.fnState f.val = 2 → s.flag (tfnStat f.val) 31 = false → s.fnClear f.val (s.fgen f.val) false = true →
        ∃ u, exec (.freezeQuiet f) s = .next u ∧ u.flag (tfnStat f.val) 31 = true ∧ Raised Ev.tfnFrozen u ∧
          KeepsEv tfnB [] (oneOf [tfnStat f.val]) noAddr s u) ∧
      (s.fnState f.val ≠ 2 ∨ s.fnClear f.val (s.fgen f.val) false = false → exec (.freezeQuiet f) s = .next s) ∧
      (s.fnState f.val = 2 → s.flag (tfnStat f.val) 31 = false →
        mget (fun _ => 0) s.tfn.frozenAt f.val + s.fld (tfnB + 0x40) 31 16 * uMs ≤ s.mono → s.tfn.frozenOut.contains f.val = false →
        ∃ u, exec (.freezeTimeout f) s = .next u ∧ Raised Ev.tfnFreezeTimeout u ∧ u.tfn = { s.tfn with frozenOut := f.val :: s.tfn.frozenOut } ∧
          KeepsEv tfnB [.tfn] noAddr noAddr s u) ∧
      (s.tfn.frozenOut.contains f.val = true → exec (.freezeTimeout f) s = .next s)) ∧
    (∀ (s : State) (f : Fin 256) (q : Fin 768) (v : Word) (rx : Bool) (i : Nat) (p c : Instr), i = v.toNat % 131072 →
      p = (if rx then .rxqPiWrite f q v else .txqPiWrite f q v) → c = (if rx then .rxqCiWrite f q v else .txqCiWrite f q v) →
      (s.tq_ f.val rx q.val = none → exec p s = .next (s.bump (tfCnt f.val 7) 1) ∧ exec c s = .next (s.bump (tfCnt f.val 7) 1)) ∧
      (∀ t, s.tq_ f.val rx q.val = some t →
        (t.draining = true → exec p s = .next (s.bump (tfCnt f.val 7) 1) ∧ exec c s = .next (s.bump (tfCnt f.val 7) 1)) ∧
        (t.draining = false → s.fnState f.val = 2 →
          (∃ u, exec p s = .next u ∧ u.tq_ f.val rx q.val = some { t with pi2 := some i } ∧ Keeps [.tfn] noAddr noAddr s u) ∧
          (∃ u, exec c s = .next u ∧ u.tq_ f.val rx q.val = some { t with ci2 := some (i, (t.ci2.map (·.2)).getD false || v.toNat.testBit 31) } ∧ Keeps [.tfn] noAddr noAddr s u)) ∧
        (t.draining = false → s.fnState f.val ≠ 2 →
          (2 ^ t.log2 < (i + 131072 - t.ci) % 131072 ∨ 2 ^ t.log2 < (i + 131072 - t.pi) % 131072 → exec p s = .next (s.bump (tfCnt f.val 7) 1)) ∧
          ((i + 131072 - t.ci) % 131072 ≤ 2 ^ t.log2 → (i + 131072 - t.pi) % 131072 ≤ 2 ^ t.log2 → ∃ u y, exec p s = .next u ∧
            u.tq_ f.val rx q.val = some y ∧ y.pi = i ∧ y.out = t.out + (i + 131072 - t.pi) % 131072 ∧ Keeps [.tfn, .hp] noAddr noAddr s u) ∧
          (v.toNat.testBit 31 = false → ∃ u, exec c s = .next u ∧ Keeps [.tfn] noAddr noAddr s u ∧ u.tq_ f.val rx q.val = some { t with
            ci := i, written := t.written.filter (fun k => decide ((k + 131072 - i) % 131072 < 65536)) }) ∧
          (v.toNat.testBit 31 = true → ∃ u y, exec c s = .next u ∧ u.tq_ f.val rx q.val = some y ∧ y.ci = i ∧
            y.written = t.written.filter (fun k => decide ((k + 131072 - i) % 131072 < 65536)) ∧
            (y.armed = true ↔ y.written = [] ∨ t.irq = false) ∧ Keeps [.tfn, .pregs, .out] noAddr noAddr s u)))) ∧
    (∀ (s : State) (f : Fin 256) (q : Fin 768) (t : TQueue) (h : Nat) (x : Fetch), s.tq_ f.val false q.val = some t → t.pi = t.fetched → t.fetched < 131072 →
      s.fnHp f.val = some h → (s.hport h).fetch.find? (fun x => x.isTx f.val q.val) = some x → s.fnSends f.val = true → s.fnLost f.val = false →
      (x.gen ≠ s.fgen f.val → ∃ u, exec (.txDescFetched f q) s = .next u ∧ u.cnt (tfCnt f.val 10) = min top64 (s.cnt (tfCnt f.val 10) + 1) ∧
        (u.hport h).fetch = (s.hport h).fetch.erase x) ∧
      (∀ i, x.gen = s.fgen f.val → x.what = .txDesc q.val i → x.failed = true → ∃ u y, exec (.txDescFetched f q) s = .next u ∧
        u.tq_ f.val false q.val = some y ∧ y.written = t.written ++ [i] ∧ y.out = t.out - 1 ∧
        u.cnt (tfCnt f.val 9) = min top64 (s.cnt (tfCnt f.val 9) + 1)) ∧
      (∀ i, x.gen = s.fgen f.val → x.what = .txDesc q.val i → x.failed = false → txDescOk x.data = true → ∃ u y, exec (.txDescFetched f q) s = .next u ∧
        (u.hport h).fetch = (s.hport h).fetch.erase x ++ [y] ∧ y.f = f.val ∧ y.gen = s.fgen f.val ∧ y.what = .txFrame q.val i x.data) ∧
      (∀ i d, x.gen = s.fgen f.val → x.what = .txFrame q.val i d → x.failed = false → t.typ = 0 → ∃ u y, exec (.txDescFetched f q) s = .next u ∧
        (u.pipe t.pipe).host = (s.pipe t.pipe).host ++ [y] ∧ y.bytes = x.data ∧ y.src = .tenant f.val q.val i x.gen (bits (dWord d 1) 31 0))) ∧
    (∀ (s : State), (s.dp.fin = [] → exec .txCompletion s = .next s) ∧
      (∀ x r (f : Fin 256) q i gen tag t, s.dp.fin = x :: r → x.f.src = .tenant f.val q i gen tag → gen = s.fgen f.val → s.tq_ f.val false q = some t →
        ∃ u y, exec .txCompletion s = .next u ∧ u.dp = { s.dp with fin := r } ∧ u.tq_ f.val false q = some y ∧ y.written = t.written ++ [i] ∧
          y.out = t.out - 1 ∧ (x.status = 0 → u.cnt (tfCnt f.val 0) = min top64 (s.cnt (tfCnt f.val 0) + 1)))) ∧
    (∀ (s : State) (f : Fin 256) (q : Fin 768) (t : TQueue) (c : Copy) (r : List Copy), s.tq_ f.val true q.val = some t → t.pi = t.fetched →
      t.fetched < 131072 → (∀ e ∈ s.svc.ctx, e.2.req.rxq ≠ q.val) → s.vq (16 + f.val) q.val = c :: r → c.vport = 16 + f.val → c.queue = q.val → c.fc = none →
      (c.gen ≠ s.fgen f.val → ∃ u, exec (.rxDeliver f q) s = .next u ∧ u.vq (16 + f.val) q.val = r ∧
        u.cnt (tfCnt f.val 10) = min top64 (s.cnt (tfCnt f.val 10) + 1)) ∧
      (c.gen = s.fgen f.val → s.fnState f.val = 1 → s.fnSends f.val = true →
        (∀ i a n b, t.bufs = (i, a, n) :: b → (c.f.bytes.length ≤ n → ∃ u y, exec (.rxDeliver f q) s = .next u ∧ u.vq (16 + f.val) q.val = r ∧
            u.tq_ f.val true q.val = some y ∧ y.bufs = b ∧ y.written = t.written ++ [i] ∧ y.out = t.out - 1 ∧
            u.cnt (tfCnt f.val 2) = min top64 (s.cnt (tfCnt f.val 2) + 1)) ∧
          (n < c.f.bytes.length → ∃ u, exec (.rxDeliver f q) s = .next u ∧ u.vq (16 + f.val) q.val = r ∧ u.tq_ f.val true q.val = some t ∧
            u.cnt (tfCnt f.val 5) = min top64 (s.cnt (tfCnt f.val 5) + 1))))) ∧
    (∀ (s : State) (f : Fin 256) (rx : Bool) (q : Fin 768),
      (∀ t, s.tq_ f.val rx q.val = some t → t.draining = true → t.out = 0 → ∃ u, exec (.queueDrainDone f rx q) s = .next u ∧
        u.tq_ f.val rx q.val = none ∧ u.queFree rx = (s.queFree rx + 1) % 2 ^ 15 ∧ Raised Ev.tfnShrinkDone u ∧
        KeepsEv tfnB [.tfn] (oneOf [tfnB + 0x48, tfnB + 0x10014 + 0x40 * f.val]) noAddr s u) ∧
      (∀ t, s.tq_ f.val rx q.val = some t → t.draining = false ∨ t.out ≠ 0 → exec (.queueDrainDone f rx q) s = .next s)) ∧
    (∀ (s : State) (f : Fin 260) (v : Word) (tx rx : Nat), tx = bits v.toNat 25 16 → rx = bits v.toNat 9 0 →
      (768 < tx ∨ 768 < rx ∨ (256 ≤ f.val ∧ (tx ≠ 0 ∨ rx ≠ 0)) → exec (.quotaWrite f true v) s = .next (s.reject tfnB (0x10008 + 0x40 * f.val))) ∧
      (tx ≤ 768 → rx ≤ 768 → f.val < 256 → (∀ g : Fin 260, g ≠ f → s.fld (tfnB + 0x10008 + 0x40 * g.val) 25 16 = 0 ∧
          s.fld (tfnB + 0x10008 + 0x40 * g.val) 9 0 = 0) →
        ∃ u, exec (.quotaWrite f true v) s = .next u ∧ (s.queues f.val = [] → u = s.wr (tfnB + 0x10008 + 0x40 * f.val) (tx * 2 ^ 16 + rx)) ∧
          ∀ x ∈ s.queues f.val, (if x.1 then rx else tx) ≤ x.2 → ∀ y, u.tq_ f.val x.1 x.2 = some y → y.draining = true) ∧
      (16384 < bits v.toNat 30 16 ∨ 16384 < bits v.toNat 14 0 → exec (.quotaWrite f false v) s = .next (s.reject tfnB (0x1000C + 0x40 * f.val))) ∧
      (bits v.toNat 30 16 ≤ 16384 → bits v.toNat 14 0 ≤ 16384 → exec (.quotaWrite f false v) s =
        .next (s.wr (tfnB + 0x1000C + 0x40 * f.val) (bits v.toNat 30 16 * 2 ^ 16 + bits v.toNat 14 0))))

/-- ROM start, with nothing holding the device in reset, enters SELF_TEST, or RECOVERY when the strap says so. The self-test passes to FLASH
with the memory keyed, or fails with code 1 or 2. A flash is found or code 3 fails. VERIFY of one CONFIRMED bank that passes runs it:
BOOT_BANK, its SVN and digest, MGC_START; one that fails leaves its code in BOOT_BANK, and without a candidate the boot fails with code 4 or
enters RECOVERY. MGC_START enables the watchdog. CONFIG checks its component; a record that is due acts: WRITE through the register view,
its refusal failing with code 6; WAIT polls until the value or its timeout, code 7; DELAY; PARAM; END picks the owner host port and enters
LOAD. LOAD copies the bank into an MGC region, loads every cluster, program and core, else fails with code 8 or 9. START resumes the blocks,
TAIL first; FORWARDING makes used ports READY and is raised. A failure shows its code and ends in FAILED, or resets the device where a TRIAL
bank runs. A row of another state changes nothing. Where a clause rests on a choice of the model: log entries 60, 155, 156, 157, 158, 159.
(R28; R335; R398; R399; R401; R403; R404; R405; R410; R427; Table 19-2; Table 19-6) -/
def Obligations.TheDeviceBootsThroughItsStates : Prop :=
  (∀ (s : State), s.bootState = 0 → s.pw.hold.any = false →
      (s.straps.bootMode = 2 → ∃ u, exec .bootRomStart s = .next u ∧ u.bootState = 0xE ∧ Raised Ev.bootRecovery u ∧ u.flag (bootB + 0x80040) 31 = true) ∧
      (s.straps.bootMode ≠ 2 → ∃ u, exec .bootRomStart s = .next u ∧ u.bootState = 1 ∧ u.flag (pwrB + 0x54) 31 = true ∧
        Keeps [] (oneOf [bootB + 0x44, pwrB + 0x54]) noAddr s u)) ∧
    (∀ (s : State), s.bootState ≠ 0 ∨ s.pw.hold.any = true → exec .bootRomStart s = .next s) ∧
    (∀ (s : State) (t : Bool) (a : BitVec 24) (r : BitVec 16) (n : BitVec 8),
      (s.bootState = 1 →
        (∃ u, exec (.bootSelfTest true none r n) s = .next u ∧ u.bootState = 2 ∧ u.keyed = true ∧ u.rd (pwrB + 0x1D0) = r.toNat * 2 ^ 16 + n.toNat ∧
          (n.toNat < s.fld (pwrB + 0x1C4) 23 16 → Raised Ev.sramSpareLow u)) ∧
        (∃ u, exec (.bootSelfTest false none r n) s = .next u ∧ u.bootState = 0xF ∧ u.rd (bootB + 0x48) = 1 * 2 ^ 24 ∧ u.flag (mciB + 0x40) 30 = true) ∧
        (∃ u, exec (.bootSelfTest t (some a) r n) s = .next u ∧ u.bootState = 0xF ∧ u.rd (bootB + 0x48) = 2 * 2 ^ 24 + a.toNat)) ∧
      (s.bootState ≠ 1 → exec (.bootSelfTest t (some a) r n) s = .next s ∧ exec (.bootSelfTest t none r n) s = .next s)) ∧
    (∀ (s : State) (x : Bool), (s.bootState ≠ 2 → exec (.bootFlash x) s = .next s) ∧
      (s.bootState = 2 → (∃ u, exec (.bootFlash true) s = .next u ∧ u.bootState = 3 ∧ Keeps [] (oneOf [bootB + 0x44]) noAddr s u) ∧
        (∃ u, exec (.bootFlash false) s = .next u ∧ u.bootState = 0xF ∧ u.rd (bootB + 0x48) = 3 * 2 ^ 24 ∧
          Keeps [] (oneOf [bootB + 0x44, bootB + 0x48]) noAddr s u))) ∧
    (∀ (s : State) (e : BitVec 2), (s.bootState ≠ 3 → exec (.bootVerify e) s = .next s) ∧
      (s.bootState = 3 → (∀ m, m < 2 → bankSt (s.desc.2.bank m) ≠ 2) →
        (s.desc.2.cands = [] → s.straps.bootMode = 0 → ∃ u, exec (.bootVerify e) s = .next u ∧ u.bootState = 0xF ∧ u.rd (bootB + 0x48) = 4 * 2 ^ 24) ∧
        (s.desc.2.cands = [] → s.straps.bootMode ≠ 0 → ∃ u, exec (.bootVerify e) s = .next u ∧ u.bootState = 0xE ∧ u.rd (bootB + 0x48) = 4 * 2 ^ 24 ∧
          Raised Ev.bootRecovery u) ∧
        (∀ n, s.desc.2.cands = [n] → s.bankCheck n (e.getLsbD n) = 0 → ∃ u, exec (.bootVerify e) s = .next u ∧ u.bootState = 4 ∧ u.running_ = n ∧
          u.bootDigest = s.bankDigest n ∧ u.fld (bootB + 0x4C) 15 0 = s.bankSvn n ∧ u.fld (bootB + 0x4C) (23 - 4 * n) (20 - 4 * n) = 0) ∧
        (∀ n, s.desc.2.cands = [n] → s.bankCheck n (e.getLsbD n) ≠ 0 → s.straps.bootMode = 0 → ∃ u, exec (.bootVerify e) s = .next u ∧
          u.bootState = 0xF ∧ u.rd (bootB + 0x48) = 4 * 2 ^ 24 ∧ u.fld (bootB + 0x4C) (23 - 4 * n) (20 - 4 * n) = s.bankCheck n (e.getLsbD n)))) ∧
    (∀ (s : State), (s.bootState ≠ 4 → exec .bootMgcStart s = .next s) ∧
      (s.bootState = 4 → ∃ u, exec .bootMgcStart s = .next u ∧ u.bootState = 5 ∧ u.flag (bootB + 0x40040) 31 = true ∧ u.boot.kickAt = s.mono ∧
        Keeps [.boot] (oneOf [bootB + 0x44, bootB + 0x40040]) noAddr s u)) ∧
    (∀ (s : State), (s.bootState ≠ 5 ∨ s.boot.recAt.isSome = true → exec .bootConfig s = .next s) ∧
      (s.bootState = 5 → s.boot.recAt = none →
        (compOk 5 s.cfgBytes = true → (cfgRec s.cfgBytes 0 0).ok s.cfgBytes = true → ∃ u, exec .bootConfig s = .next u ∧
          u.boot.recAt = some (0, s.mono) ∧ Keeps [.boot] noAddr noAddr s u) ∧
        (compOk 5 s.cfgBytes = false → s.flag (bootB + 0x4C) 30 = false → ∃ u, exec .bootConfig s = .next u ∧ u.bootState = 0xF ∧
          u.rd (bootB + 0x48) = 5 * 2 ^ 24) ∧
        (compOk 5 s.cfgBytes = false → s.flag (bootB + 0x4C) 30 = true → exec .bootConfig s = .next ((s.wr (bootB + 0x48) (5 * 2 ^ 24)).deviceReset)))) ∧
    (∀ (s : State) (i t : Nat) (r : CfgRec) (x : WEnv), s.bootState = 5 → s.boot.recAt = some (i, t) → r = cfgRec s.cfgBytes i t →
      (∀ o w, r.op = 1 → o = (if r.mask = top32 then (0, s) else s.ownerRead .mgc r.off) →
        w = o.2.wroteBad .mgc r.off ((o.1 &&& (top32 - r.mask)) ||| (r.val &&& r.mask)) x →
        (w.1 = true → exec (.cfgRecWrite x) s = .next (w.2.bootFail 6 i)) ∧
        (w.1 = false → w.2.bootState = 5 → (cfgRec w.2.cfgBytes (i + 1) 0).ok w.2.cfgBytes = true →
          ∃ u, exec (.cfgRecWrite x) s = .next u ∧ u.boot.recAt = some (i + 1, w.2.mono) ∧ Keeps [.boot] noAddr noAddr w.2 u)) ∧
      (∀ v, r.op = 2 → v = s.ownerRead .mgc r.off →
        (v.1 &&& r.mask = r.val → (cfgRec v.2.cfgBytes (i + 1) 0).ok v.2.cfgBytes = true → ∃ u, exec .cfgRecWait s = .next u ∧
          u.boot.recAt = some (i + 1, v.2.mono)) ∧
        (v.1 &&& r.mask ≠ r.val → t + r.us * uUs ≤ s.mono →
          exec .cfgRecWait s = .next (v.2.bootFail 7 i)) ∧
        (v.1 &&& r.mask ≠ r.val → s.mono < t + r.us * uUs → exec .cfgRecWait s = .next v.2)) ∧
      (r.op = 3 → (s.mono < t + r.us * uUs → exec .cfgRecDelay s = .next s) ∧
        (t + r.us * uUs ≤ s.mono → (cfgRec s.cfgBytes (i + 1) 0).ok s.cfgBytes = true → ∃ u, exec .cfgRecDelay s = .next u ∧
          u.boot.recAt = some (i + 1, s.mono) ∧ Keeps [.boot] noAddr noAddr s u) ∧
        (t + r.us * uUs ≤ s.mono → (cfgRec s.cfgBytes (i + 1) 0).ok s.cfgBytes = false → s.flag (bootB + 0x4C) 30 = false → ∃ u,
          exec .cfgRecDelay s = .next u ∧ u.bootState = 0xF ∧ u.rd (bootB + 0x48) = 5 * 2 ^ 24 + (i + 1) % 2 ^ 24)) ∧
      (r.op = 4 → (cfgRec s.cfgBytes (i + 1) 0).ok s.cfgBytes = true → ∃ u, exec .cfgRecParam s = .next u ∧ u.boot.recAt = some (i + 1, s.mono) ∧
        (r.off = 1 → u.boot.owner = some r.val ∧ u.boot.raise = s.boot.raise) ∧
        (r.off ≠ 1 → u.boot.raise = decide (r.val = 1) ∧ u.boot.owner = s.boot.owner) ∧ Keeps [.boot] noAddr noAddr s u) ∧
      (r.op = 0 → ∃ u, exec .cfgRecEnd s = .next u ∧ u.bootState = 6 ∧ u.boot.recAt = none ∧
        (∀ h, s.boot.owner = some h → h < 4 → s.hpUsed h = true → u.rd (genB + 0x44) = 4 + h) ∧
        (s.boot.owner.filter s.hpUsed = none → s.hpUsed s.straps.ownerHp.toNat = true → u.rd (genB + 0x44) = s.straps.ownerHp.toNat) ∧
        (s.boot.owner.filter s.hpUsed = none → s.hpUsed s.straps.ownerHp.toNat = false → u.rd (genB + 0x44) = 8 ∧ Raised Ev.ownerFallback u)) ∧
      (r.op ≠ 1 → exec (.cfgRecWrite x) s = .next s) ∧ (r.op ≠ 2 → exec .cfgRecWait s = .next s) ∧ (r.op ≠ 3 → exec .cfgRecDelay s = .next s) ∧
      (r.op ≠ 4 → exec .cfgRecParam s = .next s) ∧ (r.op ≠ 0 → exec .cfgRecEnd s = .next s)) ∧
    (∀ (s : State) (c : BitVec 40) (im : Vector (BitVec 40) 12) (ws : List (BitVec 26 × Word)) (f : BitVec 32) (e : Ecc) (b n : Nat),
      b = s.running_ → n = s.bankLen b →
      (s.bootState ≠ 6 → exec (.bootLoad c im ws f e) s = .next s) ∧
      (s.bootState = 6 → s.memAllowed .mgc c.toNat n true = false → exec (.bootLoad c im ws f e) s = .next ((s.memRefuse .mgc c.toNat).bootFail 8 0)) ∧
      (∀ g, s.bootState = 6 → s.regionAt c.toNat n = some g → (s.regType g ≠ 6 → exec (.bootLoad c im ws f e) s = .next ((s.memRefuse .mgc c.toNat).bootFail 8 0)) ∧
        (s.regType g = 6 → s.keyed = true → s.memServes c.toNat n = false → exec (.bootLoad c im ws f e) s = .next s)) ∧
      (∀ g r p k, s.bootState = 6 → s.regionAt c.toNat n = some g → s.regType g = 6 → s.memAllowed .mgc c.toNat n true = true →
        s.memServes c.toNat n = true → r = ((s.memWrite c.toNat (s.bankBytes b 0 n)).setBoot (fun x => { x with copyAt := some c.toNat })).rehash e →
        p = State.bootClusters b (fun c => (im[c.val]).toNat) (List.finRange 12) r.2 → k = (p.2.bootPipes b ws).bootUcode b f →
        (r.1 = false → exec (.bootLoad c im ws f e) s = .next (r.2.bootFail 8 0)) ∧
        (∀ z, r.1 = true → p.1 = some z → exec (.bootLoad c im ws f e) s = .next (p.2.bootFail 9 z)) ∧
        (∀ z, r.1 = true → p.1 = none → k.1 = some z → exec (.bootLoad c im ws f e) s = .next (k.2.bootFail 9 z)) ∧
        (r.1 = true → p.1 = none → k.1 = none → ∃ u, exec (.bootLoad c im ws f e) s = .next u ∧ u.bootState = 7 ∧
          Keeps [] (oneOf [bootB + 0x44]) noAddr k.2 u))) ∧
    (∀ (s : State), (s.bootState ≠ 7 ∨ s.boot.started = true → exec .bootStartBlocks s = .next s) ∧
      (s.bootState = 7 → s.boot.started = false → ∃ u, exec .bootStartBlocks s = .next u ∧ u.boot.started = true ∧
        (s.blkState tailB = 2 → s.safe tailB = false → u.blkState tailB = 0 ∧ u.rd (tailB + 0x44) = s.rd (bootB + 0x50))) ∧
      (s.bootState ≠ 7 ∨ s.boot.started = false → exec .bootForwarding s = .next s) ∧
      (s.bootState = 7 → s.boot.started = true → ∃ u, exec .bootForwarding s = .next u ∧ u.bootState = 9 ∧ Raised Ev.bootForwarding u ∧
        ((∀ h : Fin 4, s.fld (hpA h.val 4) 20 12 = 0) → ∀ h : Fin 4, s.hpUsed h.val = true → u.hpReady h.val = true))) ∧
    (∀ (s : State) (c : BitVec 8) (i : BitVec 24), (8 ≤ s.bootState → exec (.bootFailed c i) s = .next s) ∧
      (s.bootState < 8 → (s.bootState < 5 ∨ s.flag (bootB + 0x4C) 30 = false) → ∃ u, exec (.bootFailed c i) s = .next u ∧ u.bootState = 0xF ∧
        u.rd (bootB + 0x48) = c.toNat * 2 ^ 24 + i.toNat ∧ Keeps [] (oneOf [bootB + 0x44, bootB + 0x48]) noAddr s u) ∧
      (5 ≤ s.bootState → s.bootState < 8 → s.flag (bootB + 0x4C) 30 = true →
        exec (.bootFailed c i) s = .next ((s.wr (bootB + 0x48) (c.toNat * 2 ^ 24 + i.toNat)).deviceReset)))

/-- A free semaphore is acquired by its writer, a held one stays; its holder alone releases it. A kick restarts the watchdog; an expiry counts,
raises MGC_RESTART and restarts the firmware from the boot copy that still has its digest: its semaphores are freed and its mailbox requests
leave; as many restarts in the window as the limit, or a copy that is lost, reset the device. A restart from the staged component begins a
trial, which CONFIRM ends and a timeout abandons. A microcode load needs idle quiesced cores, ends with its RESULT, and enables or fails
each core by its self-test. Flash operations are taken when aligned and not busy; erase sets bytes to FFh, program clears bits, a failure
sets ERR; no other byte changes. CUST_LOCK needs the hash written; SVN_MIN only rises. In RECOVERY, HELLO goes out each second on both
paths; a bad message is counted; BEGIN resumes its transfer or erases the bank; a DATA chunk at the expected offset is programmed, another
counted; END closes the transfer; REBOOT, or 10 s after a good END, resets the device. Where a clause rests on a choice of the model: log
entries 62, 153, 154, 160, 161. (R400; R403; R407; R410; R411; R412; R413; R414; R415; R45; Table 19-10) -/
def Obligations.ManagementRestartsFlashAndRecoveryAct : Prop :=
  (∀ (s : State) (m : Bool) (n : Fin 16) (a h : Nat), a = genB + 0x80 + 4 * n.val → h = (if m then 0 else 1) →
      (s.flag a 31 = false → ∃ u, exec (.genSemAcquire m n) s = .next u ∧ u.rd a = 2 ^ 31 + h ∧ Keeps [] (oneOf [a]) noAddr s u) ∧
      (s.flag a 31 = true → exec (.genSemAcquire m n) s = .next s) ∧
      (s.flag a 31 = true → s.fld a 1 0 = h → ∃ u, exec (.genSemRelease m n) s = .next u ∧ u.rd a = 0 ∧ Keeps [] (oneOf [a]) noAddr s u) ∧
      (s.flag a 31 = false ∨ s.fld a 1 0 ≠ h → exec (.genSemRelease m n) s = .next (s.reject genB (0x80 + 4 * n.val)))) ∧
    (∀ (s : State), ∃ u, exec .wdtKick s = .next u ∧ u.boot = { s.boot with kickAt := s.mono, restarting := false } ∧ Keeps [.boot] noAddr noAddr s u) ∧
    (∀ (s : State) (e : Ecc) (w : Nat) (l : List Nat), w = (if s.fld (bootB + 0x40040) 23 16 = 0 then 600 else s.fld (bootB + 0x40040) 23 16) * uS →
      l = s.boot.restarts.filter (fun t => decide (s.mono ≤ t + w)) →
      (s.flag (bootB + 0x40040) 31 = false ∨ s.mono < s.boot.kickAt + s.fld (bootB + 0x40040) 15 0 * uMs → exec (.wdtExpire e) s = .next s) ∧
      (s.flag (bootB + 0x40040) 31 = true → s.boot.kickAt + s.fld (bootB + 0x40040) 15 0 * uMs ≤ s.mono → s.flag (bootB + 0x4004C) 31 = false →
        (∀ a bs, l.length + 1 < (if s.fld (bootB + 0x40040) 27 24 = 0 then 3 else s.fld (bootB + 0x40040) 27 24) → s.boot.copyAt = some a →
          (s.memRead a (s.bankLen s.running_) e).1 = (bs, false) → sha256 bs = s.bootDigest →
          ∃ u, exec (.wdtExpire e) s = .next u ∧ Raised Ev.mgcRestart u ∧ u.boot.restarting = true ∧ u.boot.kickAt = s.mono ∧
            u.boot.restarts = s.mono :: l ∧ u.tfn.mbxQ = [] ∧ u.fld (bootB + 0x4004C) 23 16 = satAdd 255 (s.fld (bootB + 0x4004C) 23 16) 1 ∧
            ∀ i, i < 16 → s.flag (genB + 0x80 + 4 * i) 31 = true → s.fld (genB + 0x80 + 4 * i) 1 0 = 0 → u.rd (genB + 0x80 + 4 * i) = 0) ∧
        ((if s.fld (bootB + 0x40040) 27 24 = 0 then 3 else s.fld (bootB + 0x40040) 27 24) ≤ l.length + 1 → s.pw.hold.any = false →
          ∃ u, exec (.wdtExpire e) s = .next u ∧ u.bootState = 0 ∧ Raised Ev.mgcEscalate u))) ∧
    (∀ (s : State) (e : Ecc), (∃ u, exec (.mgcRestart true e) s = .next u ∧ u.flag (bootB + 0x4004C) 31 = true ∧ u.boot.trialAt = s.mono ∧
        u.boot.restarting = true ∧ u.tfn.mbxQ = []) ∧
      (s.boot.copyAt = none → s.pw.hold.any = false → ∃ u, exec (.mgcRestart false e) s = .next u ∧ u.bootState = 0 ∧ Raised Ev.mgcEscalate u) ∧
      (∀ a bs, s.boot.copyAt = some a → (s.memRead a (s.bankLen s.running_) e).1 = (bs, false) → sha256 bs = s.bootDigest →
        (∃ u, exec (.mgcRestart false e) s = .next u ∧ u.boot.restarting = true ∧ u.tfn.mbxQ = [] ∧
          u.flag (bootB + 0x4004C) 31 = s.flag (bootB + 0x4004C) 31) ∧
        (s.flag (bootB + 0x4004C) 31 = true → s.boot.trialAt + s.fld (bootB + 0x40048) 15 0 * uMs ≤ s.mono →
          ∃ u, exec (.trialTimeout e) s = .next u ∧ u.flag (bootB + 0x4004C) 31 = false ∧ u.flag (bootB + 0x4004C) 30 = true ∧
            Raised Ev.mgcTrialFail u ∧ u.boot.restarting = true ∧ u.cnt (bootB + 0x40310) = min top64 (s.cnt (bootB + 0x40310) + 1))) ∧
      (s.flag (bootB + 0x4004C) 31 = false ∨ s.mono < s.boot.trialAt + s.fld (bootB + 0x40048) 15 0 * uMs → exec (.trialTimeout e) s = .next s)) ∧
    (∀ (s : State) (b : Fin 2), (∃ u, exec (.mgcConfirm none) s = .next u ∧ u.flag (bootB + 0x4004C) 31 = false ∧ u.boot.restarting = false ∧
        Keeps [.boot] (oneOf [bootB + 0x4004C]) noAddr s u) ∧
      (bankSt (s.desc.2.bank b.val) = 2 → ∃ u, exec (.mgcConfirm (some b)) s = .next u ∧ u.flag (bootB + 0x4004C) 31 = false ∧
        (s.running_ = b.val → u.flag (bootB + 0x4C) 30 = false) ∧ u.fld (bootB + 0x80) 15 0 =
          (if s.boot.raise then max (s.fld (bootB + 0x80) 15 0) (s.bankSvn b.val) else s.fld (bootB + 0x80) 15 0) ∧
        Keeps [.boot] (oneOf [bootB + 0x4004C, bootB + 0x4C, bootB + 0x80]) noAddr s u)) ∧
    (∀ (s : State) (e : Ecc) (f : BitVec 32) (m a n : Nat), m = s.rd (bootB + 0x40204) → a = s.rd (bootB + 0x40208) + s.rd (bootB + 0x4020C) * 2 ^ 32 →
      n = s.fld (bootB + 0x40210) 20 0 →
      (s.flag (bootB + 0x40200) 30 = true → exec .ucodeLoad s = .next s) ∧
      (s.flag (bootB + 0x40200) 30 = false → (∀ k, k < 32 → m.testBit k = true → s.flag (cipCore k) 28 = true ∧ s.flag (cipCore k) 29 = true) →
        ∃ u, exec .ucodeLoad s = .next u ∧ u.rd (bootB + 0x40200) = 2 ^ 30 ∧ u.rd (bootB + 0x40214) = s.rd (bootB + 0x40214) &&& (top32 - m) ∧
          Keeps [] (oneOf [bootB + 0x40200, bootB + 0x40214]) noAddr s u) ∧
      (∀ k, s.flag (bootB + 0x40200) 30 = false → k < 32 → m.testBit k = true → (s.flag (cipCore k) 28 = false ∨ s.flag (cipCore k) 29 = false) →
        ∃ u, exec .ucodeLoad s = .next u ∧ u.rd (bootB + 0x40200) = 1 ∧ Keeps [] (oneOf [bootB + 0x40200]) noAddr s u) ∧
      (s.flag (bootB + 0x40200) 30 = false → exec (.ucodeDone e f) s = .next s) ∧
      (s.flag (bootB + 0x40200) 30 = true → s.memAllowed .mgc a n false = false → ∃ u, exec (.ucodeDone e f) s = .next u ∧
        u.rd (bootB + 0x40200) = 3 ∧ Raised Ev.memRegionFault u) ∧
      (s.flag (bootB + 0x40200) 30 = true → s.memAllowed .mgc a n false = true → s.memServes a n = true → ∀ bs x, (s.memRead a n e).1 = (bs, x) →
        (x = true → ∃ u, exec (.ucodeDone e f) s = .next u ∧ u.rd (bootB + 0x40200) = 3) ∧
        (x = false → compOk 4 bs = false → ∃ u, exec (.ucodeDone e f) s = .next u ∧ u.rd (bootB + 0x40200) = 2) ∧
        (x = false → compOk 4 bs = true → ∃ u, exec (.ucodeDone e f) s = .next u ∧ u.rd (bootB + 0x40200) = 0 ∧ ∀ k, k < 32 → m.testBit k = true →
          u.flag (cipCore k) 27 = f.getLsbD k ∧ (f.getLsbD k = true → Raised Ev.ucodeFail u) ∧
            (f.getLsbD k = false → u.flag (bootB + 0x40214) k = true ∧ u.flag (cipCore k) 31 = false)))) ∧
    (∀ (s : State) (a : BitVec 32) (x : BitVec 15) (d : BitVec 2048),
      (s.flag (bootB + 0x108) 31 = false → a.toNat % 65536 = 0 → a.toNat + 65536 ≤ s.flashCap → ∃ u, exec (.flashErase a) s = .next u ∧
        u.boot.op = some ⟨false, a.toNat, []⟩ ∧ u.flag (bootB + 0x108) 31 = true ∧
        Keeps [.boot] (oneOf [bootB + 0x100, bootB + 0x104, bootB + 0x108]) noAddr s u) ∧
      (s.flag (bootB + 0x108) 31 = false → (a.toNat % 65536 ≠ 0 ∨ s.flashCap < a.toNat + 65536) →
        exec (.flashErase a) s = .next ((s.wr (bootB + 0x104) a.toNat).reject bootB 0x100)) ∧
      (s.flag (bootB + 0x108) 31 = true → (∃ u, exec (.flashErase a) s = .next u ∧ u.boot = s.boot) ∧
        (∃ u, exec (.flashProgram a x d) s = .next u ∧ u.boot.op = s.boot.op ∧ u.boot.flash = s.boot.flash)) ∧
      (s.flag (bootB + 0x108) 31 = false → a.toNat % 256 = 0 → a.toNat + 256 ≤ s.flashCap → ∃ u, exec (.flashProgram a x d) s = .next u ∧
        u.boot.op = some ⟨true, a.toNat, bytesBE 256 d.toNat⟩ ∧ u.boot.flash = s.boot.flash ∧ u.flag (bootB + 0x108) 31 = true)) ∧
    (∀ (s : State) (g : Bool), (s.boot.op = none → exec (.flashOpDone g) s = .next s) ∧
      (∀ x n, s.boot.op = some x → n = (if x.prog then 256 else 65536) → x.data.length = (if x.prog then 256 else 0) →
        ∃ u, exec (.flashOpDone g) s = .next u ∧ u.boot.op = none ∧ u.flag (bootB + 0x108) 31 = false ∧ u.flag (bootB + 0x108) 30 = !g ∧
          (∀ o, (o < x.addr ∨ x.addr + n ≤ o) → u.flashAt o = s.flashAt o) ∧
          (g = true → ∀ i, i < n → u.flashAt (x.addr + i) = (if x.prog then x.data.getD i 0 &&& s.flashAt (x.addr + i) else 0xFF)))) ∧
    (∀ (s : State) (v : BitVec 16), (s.flag (bootB + 0x80) 31 = true ∨ s.boot.hashSet = 255 → ∃ u, exec .custLock s = .next u ∧
        u.flag (bootB + 0x80) 31 = true ∧ u.fld (bootB + 0x80) 15 0 = s.fld (bootB + 0x80) 15 0 ∧ Keeps [] (oneOf [bootB + 0x80]) noAddr s u) ∧
      (s.flag (bootB + 0x80) 31 = false → s.boot.hashSet ≠ 255 → exec .custLock s = .next (s.reject bootB 0x80)) ∧
      (s.fld (bootB + 0x80) 15 0 ≤ v.toNat → ∃ u, exec (.svnMinRaise v) s = .next u ∧ u.fld (bootB + 0x80) 15 0 = v.toNat ∧
        u.flag (bootB + 0x80) 31 = s.flag (bootB + 0x80) 31 ∧ Keeps [] (oneOf [bootB + 0x80]) noAddr s u) ∧
      (v.toNat < s.fld (bootB + 0x80) 15 0 → exec (.svnMinRaise v) s = .next (s.reject bootB 0x80))) ∧
    (∀ (s : State) (b : List Byte), b = recBytes 1 0 s.desc.2.xid s.desc.2.off
        (bytesBE 4 (s.rd (genB + 0x40)) ++ bytesBE 8 Config.serial.toNat ++ bytesBE 4 (s.rd (bootB + 0x48))) →
      (s.bootState = 0xE → s.boot.helloAt ≤ s.mono → ∃ u, exec .recHello s = .next u ∧ u.boot = { s.boot with helloAt := s.mono + uS } ∧
        u.out = .srv false (uartFrame b) :: .srv true (bytesBE 6 (2 ^ 48 - 1) ++ bytesBE 6 s.srvMac ++ [0x88, 0xB5] ++ b) :: s.out ∧
        Keeps [.boot, .out] noAddr noAddr s u) ∧
      (s.bootState ≠ 0xE ∨ s.mono < s.boot.helloAt → exec .recHello s = .next s)) ∧
    (∀ (s : State) (h : Option (BitVec 48)) (b : List Byte) (x : Bool), (s.bootState ≠ 0xE → exec (.recBegin h b) s = .next s ∧
        exec (.recData h b x) s = .next s ∧ exec (.recEnd h b x) s = .next s ∧ exec (.recReboot h b) s = .next s ∧ exec (.recBadMessage h b) s = .next s) ∧
      (s.bootState = 0xE → recParse b = none → ∀ i ∈ [Instr.recBegin h b, .recData h b x, .recEnd h b x, .recReboot h b, .recBadMessage h b],
        exec i s = .next (s.bump (bootB + 0x80100) 1))) ∧
    (∀ (s : State) (h : Option (BitVec 48)) (b : List Byte) (m : RecMsg) (n : Nat), s.bootState = 0xE → recParse b = some m → m.op = 2 →
      n = beAt m.data 12 4 → m.data.length = 64 → headOk m.data (2 ^ 32) = true → m.xid ≠ 0 →
      (s.bankSize < n → ∃ u, exec (.recBegin h b) s = .next u ∧ u.boot = { s.boot with path := h.map (·.toNat) }) ∧
      (n ≤ s.bankSize → m.xid = s.desc.2.xid → m.data = s.bankBytes s.desc.2.xbank 0 64 → ∃ u, exec (.recBegin h b) s = .next u ∧
        u.boot.xfer = some ⟨m.xid, s.desc.2.xbank, n, s.desc.2.off⟩ ∧ u.boot.flash = s.boot.flash) ∧
      (n ≤ s.bankSize → m.xid ≠ s.desc.2.xid → ∃ u, exec (.recBegin h b) s = .next u ∧ u.boot.xfer = some ⟨m.xid, s.desc.2.target, n, 0⟩ ∧
        ∀ i, i < s.bankSize → u.flashAt (s.bankBase s.desc.2.target + i) = 0xFF)) ∧
    (∀ (s : State) (h : Option (BitVec 48)) (b : List Byte) (m : RecMsg) (x : Xfer) (k : Bool), s.bootState = 0xE → recParse b = some m →
      s.boot.xfer = some x → m.xid = x.id →
      (m.op = 3 → m.off = x.next → x.next < x.len → m.data.length = min 1024 (x.len - x.next) → ∃ u, exec (.recData h b false) s = .next u ∧
        u.boot.xfer = some { x with next := x.next + m.data.length } ∧
        ∀ i, i < m.data.length → u.flashAt (s.bankBase x.bank + x.next + i) = m.data.getD i 0 &&& s.flashAt (s.bankBase x.bank + x.next + i)) ∧
      (m.op = 3 → m.off ≠ x.next → ∃ u, exec (.recData h b k) s = .next u ∧ u.boot.xfer = some x ∧ u.boot.flash = s.boot.flash ∧
        u.cnt (bootB + 0x80108) = min top64 (s.cnt (bootB + 0x80108) + 1)) ∧
      (m.op = 5 → ∃ u, exec (.recEnd h b k) s = .next u ∧ u.boot.xfer = none ∧
        (s.bankCheck x.bank k = 0 → u.boot.okAt = some s.mono) ∧ (s.bankCheck x.bank k ≠ 0 → u.boot.okAt = s.boot.okAt))) ∧
    (∀ (s : State) (h : Option (BitVec 48)) (b : List Byte) (m : RecMsg), s.bootState = 0xE → recParse b = some m →
      (m.op = 7 → s.pw.hold.any = false → ∃ u, exec (.recReboot h b) s = .next u ∧ u.bootState = 0) ∧
      (m.op ≠ 0 → exec (.recBadMessage h b) s = .next s)) ∧
    (∀ (s : State), (s.boot.okAt = none ∨ s.bootState ≠ 0xE → exec .recAutoReboot s = .next s) ∧
      (∀ t, s.boot.okAt = some t → s.mono < t + 10 * uS → exec .recAutoReboot s = .next s) ∧
      (∀ t, s.boot.okAt = some t → s.bootState = 0xE → t + 10 * uS ≤ s.mono → s.pw.hold.any = false →
        ∃ u, exec .recAutoReboot s = .next u ∧ u.bootState = 0))

/-- TARGET takes effect at once outside STANDBY: the state and its self-refresh idle time change, and HOT wakes every unit; in STANDBY, or on
the way to it, a write by MGC firmware wakes, one by the owner only sets TARGET. STANDBY is taken when the blocks are QUIESCED and no host
port is UP, else discarded; once reached, every unit is COLD and every channel in self-refresh; a latched wake source leads through WARM to
TARGET. An idle unit that nothing holds is gated after its idle time, woken by work, and HOT again after its wake time. Loss of SYS_REFCLK,
the thermal trip and a rail out of range hold the device in reset until they end; an always-on rail or TEST_EN power-on resets it. A new
millisecond evaluates the calendar, a session that begins is raised. Sensors keep their peak and raise TJ_HIGH once. Sentinels show their
drift; a lane whose eye is too low is raised once; each powered hour counts, an hour too hot counts apart. Where a clause rests on a choice
of the model: log entries 87, 167, 168. (R418; R419; R420; R421; R423; R425; R426; R428; R429; R457; R460; Table 20-2) -/
def Obligations.PowerStatesUnitsHoldsAndLifetime : Prop :=
  (∀ (s : State) (m : Bool) (t : Nat) (i : Instr), (t = 0 ∧ i = .targetHot m) ∨ (t = 1 ∧ i = .targetWarm m) ∨ (t = 2 ∧ i = .targetCold m) →
      ((s.devState = 3 ∨ s.standbyEntry = true) → m = true → ∃ u, exec i s = .next u ∧ u.fld (pwrB + 0x40) 1 0 = t ∧ u.pw.wake = true ∧
        u.flag (pwrB + 0x50) 0 = true ∧ Keeps [.pw] (oneOf [pwrB + 0x40, pwrB + 0x50]) noAddr s u) ∧
      ((s.devState = 3 ∨ s.standbyEntry = true) → m = false → exec i s = .next (s.setFld (pwrB + 0x40) 1 0 t)) ∧
      (s.devState ≠ 3 → s.standbyEntry = false → ∃ u, exec i s = .next u ∧ u.devState = t ∧ u.fld (pwrB + 0x40) 1 0 = t ∧
        (s.devState ≠ t → Raised Ev.pwrState u) ∧
        u.fld (memB + 0x48) 11 0 = (if t = 0 then 0 else if t = 1 then s.fld (pwrB + 0x4C) 27 16 else s.fld (pwrB + 0x4C) 11 0) ∧
        (t = 0 → ∀ k, k < 16 → s.unitHot k = false → s.wakingAt k = none → u.wakingAt k = some s.mono))) ∧
    (∀ (s : State) (m : Bool),
      (standbyBlocks.all s.isQuiesced = true → (∀ h : Fin 4, s.hpState h.val ≠ 2) → ∃ u, exec (.targetStandby m) s = .next u ∧
        u.fld (pwrB + 0x40) 1 0 = 3 ∧ (s.devState ≠ 3 → u.standbyEntry = true) ∧ Keeps [] (oneOf [pwrB + 0x40, pwrB + 0x44]) noAddr s u) ∧
      ((standbyBlocks.all s.isQuiesced = false ∨ ∃ h : Fin 4, s.hpState h.val = 2) → exec (.targetStandby m) s = .next (s.reject pwrB 0x40))) ∧
    (∀ (s : State) (t : Nat), t = s.fld (pwrB + 0x40) 1 0 →
      (s.standbyEntry = false → exec .standbyReached s = .next s) ∧
      (s.standbyEntry = true → s.pw.wake = false → ∃ u, exec .standbyReached s = .next u ∧ u.devState = 3 ∧ u.standbyEntry = false ∧
        Raised Ev.pwrState u ∧ (∀ k, k < 16 → u.unitState k = 2) ∧ ∀ c, c < 32 → u.chAsleep c = true) ∧
      (s.standbyEntry = true → s.pw.wake = true → ∃ u, exec .standbyReached s = .next u ∧ u.devState = (if t = 0 ∨ t = 2 then t else 1) ∧
        u.pw.wake = false ∧ Raised Ev.pwrWake u) ∧
      (s.devState ≠ 3 ∨ s.pw.wake = false → exec .standbyWake s = .next s) ∧
      (s.devState = 3 → s.pw.wake = true → ∃ u, exec .standbyWake s = .next u ∧ u.devState = (if t = 0 ∨ t = 2 then t else 1) ∧
        u.pw.wake = false ∧ Raised Ev.pwrWake u)) ∧
    (∀ (s : State) (k : Fin 16) (a : Nat), a = (if s.devState = 2 ∧ k.val < 12 then 2 else 1) →
      (s.devState = 1 ∨ s.devState = 2 → s.calHolds k.val = false → s.unitWork k.val = false → s.wakingAt k.val = none → s.unitState k.val < a →
        mget (fun _ => 0) s.pw.unitAt k.val + s.fld (pwrB + 0x48) 15 0 * uNs ≤ s.mono →
        ∃ u, exec (.unitGate k) s = .next u ∧ u.unitState k.val = a ∧ Keeps [.pw] noAddr noAddr s u) ∧
      (s.devState = 0 ∨ s.devState = 3 ∨ s.calHolds k.val = true ∨ s.unitWork k.val = true → exec (.unitGate k) s = .next s) ∧
      (s.devState = 3 → exec (.unitWake k) s = .next s) ∧
      (s.devState = 0 ∨ (s.devState ≠ 3 ∧ (s.calHolds k.val = true ∨ s.unitWork k.val = true)) → s.unitHot k.val = false → s.wakingAt k.val = none →
        ∃ u, exec (.unitWake k) s = .next u ∧ u.wakingAt k.val = some s.mono ∧ Keeps [.pw] noAddr noAddr s u) ∧
      (s.wakingAt k.val = none → exec (.unitWakeDone k) s = .next s) ∧
      (∀ x d, s.wakingAt k.val = some x → d = (if s.unitState k.val = 2 then 40 * uUs + 10 * uNs else 10 * uNs) →
        (x + d ≤ s.mono → ∃ u, exec (.unitWakeDone k) s = .next u ∧ u.unitHot k.val = true ∧ u.wakingAt k.val = none) ∧
        (s.mono < x + d → exec (.unitWakeDone k) s = .next s))) ∧
    (∀ (s : State), (s.pw.hold.sysref = true → exec .sysrefLoss s = .next s) ∧
      (s.pw.hold.sysref = false → ∃ u, exec .sysrefLoss s = .next u ∧ u.pw.hold = { s.pw.hold with sysref := true } ∧ u.flag (pwrB + 0x54) 31 = false ∧
        u.flag (pwrB + 0x54) 30 = true ∧ Raised Ev.sysrefLost u ∧ u.tb = s.tb ∧ (s.pw.hold.any = false → u.bootState = 0)) ∧
      (s.pw.hold.sysref = false → exec .sysrefReturn s = .next s) ∧
      (s.pw.hold.sysref = true → ∃ u, exec .sysrefReturn s = .next u ∧ u.pw.hold = { s.pw.hold with sysref := false } ∧
        u.flag (pwrB + 0x54) 31 = true ∧ u.flag (pwrB + 0x54) 30 = false ∧ Keeps [.pw] (oneOf [pwrB + 0x54, timB + 0x54]) noAddr s u) ∧
      (s.pw.hold.any = false → ∃ u, exec .railDrop s = .next u ∧ u.pw.hold = { s.pw.hold with rail := true } ∧ u.bootState = 0) ∧
      (s.pw.hold.any = true → ∃ u, exec .railDrop s = .next u ∧ u.pw.hold = { s.pw.hold with rail := true } ∧ Keeps [.pw] noAddr noAddr s u) ∧
      (∃ u, exec .railRecover s = .next u ∧ u.pw.hold = { s.pw.hold with rail := false } ∧ Keeps [.pw] noAddr noAddr s u) ∧
      (∀ x, (∃ u, exec (.aonRailDrop x) s = .next u ∧ u.straps = x ∧ u.mono = 0 ∧ u.bootState = 0 ∧ u.pw.hold = { rail := true }) ∧
        (∃ u, exec (.testEnHigh x) s = .next u ∧ u.straps = x ∧ u.mono = 0 ∧ u.bootState = 0 ∧ u.pw.hold = { por := true }))) ∧
    (∀ (s : State) (n : Fin 8) (v : BitVec 12) (a : Nat), a = pwrB + 0x180 + 4 * n.val →
      (∃ u, exec (.tjHighCross n v) s = .next u ∧ u.fld a 11 0 = v.toNat ∧
        u.fld a 27 16 = (if signed 12 (s.fld a 27 16) < signed 12 v.toNat then v.toNat else s.fld a 27 16) ∧
        ((s.fld (pwrB + 0x1C0) 7 0 * 8 : Int) ≤ signed 12 v.toNat → u.pw.tjHigh = true ∧ (s.pw.tjHigh = false → Raised Ev.tjHigh u)) ∧
        KeepsEv pwrB [.pw] (oneOf [a]) noAddr s u) ∧
      (signed 12 v.toNat < 1000 ∨ s.pw.hold.therm = true → exec (.thermTrip n v) s = exec (.tjHighCross n v) s) ∧
      (1000 ≤ signed 12 v.toNat → s.pw.hold.therm = false → ∃ u, exec (.thermTrip n v) s = .next u ∧ u.pw.hold = { s.pw.hold with therm := true } ∧
        u.pw.tripAt = s.mono ∧ Raised Ev.thermTrip u ∧ u.out.head? = some (.thermtrip true) ∧ (s.pw.hold.any = false → u.bootState = 0))) ∧
    (∀ (s : State) (v : Vector (BitVec 12) 8),
      (s.pw.hold.therm = true → (∀ x ∈ v.toList, signed 12 x.toNat ≤ 800) → s.pw.tripAt + uS ≤ s.mono → ∃ u, exec (.thermClear v) s = .next u ∧
        u.pw.hold = { s.pw.hold with therm := false } ∧ u.out.head? = some (.thermtrip false)) ∧
      ((s.pw.hold.therm = false ∨ (∃ x ∈ v.toList, 800 < signed 12 x.toNat) ∨ s.mono < s.pw.tripAt + uS) →
        ∃ u, exec (.thermClear v) s = .next u ∧ u.pw.hold = s.pw.hold ∧ ∀ n (h : n < 8), u.fld (pwrB + 0x180 + 4 * n) 11 0 = (v[n]).toNat)) ∧
    (∀ (s : State) (ms : Nat), ms = s.now / uMs →
      (s.flag (pwrB + 0x60) 31 = false ∨ s.secondsValid = false → ∃ u, exec .calEvaluate s = .next u ∧ u.pw.cal = [] ∧ u.pw.calMs = none) ∧
      (s.flag (pwrB + 0x60) 31 = true → s.secondsValid = true →
        (s.pw.calMs = some ms → exec .calEvaluate s = .next s) ∧
        (s.pw.calMs ≠ some ms → ∃ u, exec .calEvaluate s = .next u ∧ u.pw.calMs = some ms ∧
          u.pw.cal = (List.range 64).filter (fun e => s.calActive e s.weekMs) ∧
          (∀ e, e < 64 → s.calActive e s.weekMs = true → s.pw.cal.contains e = false → Raised Ev.calSession u) ∧
          (s.devState ≠ 3 → ∀ k, k < 16 → s.unitHot k = false → s.wakingAt k = none → u.calHolds k = true → u.wakingAt k = some s.mono)))) ∧
    (∀ (s : State) (l : List (BitVec 24)), (s.pw.sentAt = none → ∃ u, exec (.sentinelMeasure l) s = .next u ∧ u.pw.sentAt = some s.mono ∧
        ∀ i v, i < 25 → l[i]? = some v → u.fld (pwrB + 0x100 + 4 * i) 23 0 = v.toNat ∧
          (((s.fld (pwrB + 0x80) 15 8 * 1000 : Nat) : Int) ≤ signed 24 v.toNat → u.flag (pwrB + 0x100 + 4 * i) 31 = true)) ∧
      (∀ t, s.pw.sentAt = some t → s.mono < t + s.fld (pwrB + 0x80) 30 16 * 3600 * uS → exec (.sentinelMeasure l) s = .next s)) ∧
    (∀ (s : State) (q l : Fin 4) (e : BitVec 16), ∃ u, exec (.laneAdapt q l e) s = .next u ∧ u.fld (laneStat q.val l.val) 31 16 = e.toNat ∧
      (e.toNat < s.fld (pwrB + 0x1C4) 15 0 → s.pw.eye.contains (4 * q.val + l.val) = false →
        Raised Ev.serdesMarginLow u ∧ u.pw.eye = (4 * q.val + l.val) :: s.pw.eye) ∧
      (s.fld (pwrB + 0x1C4) 15 0 ≤ e.toNat ∨ s.pw.eye.contains (4 * q.val + l.val) = true → Keeps [] (oneOf [laneStat q.val l.val]) noAddr s u)) ∧
    (∀ (s : State), (s.mono < s.pw.hourAt + 3600 * uS → exec .hourTick s = .next s) ∧
      (s.pw.hourAt + 3600 * uS ≤ s.mono → ∃ u, exec .hourTick s = .next u ∧ u.cnt (pwrB + 0x200) = min top64 (s.cnt (pwrB + 0x200) + 1) ∧
        u.cnt (pwrB + 0x208) = (if s.pw.hotHour then min top64 (s.cnt (pwrB + 0x208) + 1) else s.cnt (pwrB + 0x208)) ∧
        u.pw.hourAt = s.pw.hourAt + 3600 * uS ∧ Keeps [.pw] noAddr (oneOf [pwrB + 0x200, pwrB + 0x208]) s u))

/-- An uncorrectable error takes a block that holds its state in plain registers to SAFE, its units discarded and counted, and BLOCK_SAFE is
raised; a cluster goes QUIESCED and SAFE with ENG_FAULT; a block already SAFE and the triplicated blocks stay. A triplicated word is
corrected by majority, or takes its reset value with UNCORR, and one of TIM makes the time quality UNCALIBRATED; AON_CORR is raised.
ERR_STAT, a used cause and pending bits are cleared by ones; an unused cause counts a reject. A pop gives the head of the error log and
latches its other words, or 0. TAP_RESET selects IDCODE, IR_LOAD an instruction of the table or BYPASS; boundary scan acts only under
PORST_N. A DBG_ACCESS makes nothing under another instruction, and is refused while locked outside the unlock registers. CHAL builds the
challenge, VERIFY starts a verification, whose end unlocks the part or counts the failure and locks out at three; the challenge expires
after 60 s. HALT, RESUME and STEP act on the named thread while unlocked; a breakpoint halts the thread before it issues. The data windows
read 0 to others than the JTAG port, and read and write one register of a HALTED thread, or eight bytes of a memory with ADDR advancing.
(The expiry test at a VERIFY and the 0 of an empty pipeline register are as log entries on debug access say.) Where a clause rests on a
choice of the model: log entries 56, 162, 163, 164, 165. (R437; R438; R439; R440; R441; R444; R445; R446; R447; R448; R449; R450) -/
def Obligations.ErrorsEventsAndDebugAccess : Prop :=
  (∀ (s : State) (b : Fin 58) (m x : BitVec 8) (n : BitVec 16) (a : BitVec 64) (B : Nat), B = blkBase b →
      (neverSafe B = true ∨ s.safe B = true → exec (.uncorrError b m x n a) s = .next s) ∧
      (neverSafe B = false → s.safe B = false → codeOf B ≠ 0x10 → ∃ u, exec (.uncorrError b m x n a) s = .next u ∧ u.blkState B = 2 ∧ u.safe B = true ∧
        u.cnt (evtB + 0x218) = min top64 (s.cnt (evtB + 0x218) + s.unitsHeld B) ∧ Raised Ev.blockSafe u) ∧
      (s.safe B = false → codeOf B = 0x10 → s.blkState B ≤ 1 → ∃ u, exec (.uncorrError b m x n a) s = .next u ∧ u.blkState B = 2 ∧ u.safe B = true ∧
        Raised Ev.engFault u) ∧
      (codeOf B = 0x10 → 2 ≤ s.blkState B → exec (.uncorrError b m x n a) s = .next s)) ∧
    (∀ (s : State) (w : BitVec 26) (j : Bool) (a : Nat), a = w.toNat →
      (cardAt a = none ∨ triplicated (codeOf a) = false → exec (.aonCorrection w j) s = .next s) ∧
      (∀ c, cardAt a = some c → triplicated (codeOf a) = true →
        (∃ u, exec (.aonCorrection w true) s = .next u ∧ Raised Ev.aonCorr u ∧ KeepsEv genB [] noAddr noAddr s u) ∧
        (¬ evArea genB a → codeOf a ≠ 0x05 → c.cnt = false → ∃ u, exec (.aonCorrection w false) s = .next u ∧ u.rd a = (rstAt a).toNat ∧
          u.flag (genB + 0x14) 29 = true ∧ Raised Ev.aonCorr u ∧ KeepsEv genB [] (oneOf [a]) noAddr s u) ∧
        (codeOf a = 0x05 → ∃ u, exec (.aonCorrection w false) s = .next u ∧ u.tq = 0 ∧ u.flag (genB + 0x14) 29 = true ∧ Raised Ev.aonCorr u))) ∧
    (∀ (s : State) (b : Fin 58) (B : Nat), B = blkBase b → ∃ u, exec (.errStatClear b) s = .next u ∧ u.fld (B + 0x14) 31 29 = 0 ∧ u.rd (B + 0x18) = 0 ∧
      u.fld (B + 0x14) 28 0 = s.fld (B + 0x14) 28 0 ∧ Keeps [] (oneOf [B + 0x14, B + 0x18]) noAddr s u) ∧
    (∀ (s : State) (q : Req),
      (s.log = [] → ∃ u, exec (.errlogPop q) s = .next u ∧ u.log = [] ∧ u.out.head? = some (.readData q (evtB + 0x80) 0)) ∧
      (∀ e l, s.log = e :: l → l.length < 128 → ∃ u, exec (.errlogPop q) s = .next u ∧ u.log = l ∧ u.fld (evtB + 0x40) 7 0 = l.length ∧
        u.out.head? = some (.readData q (evtB + 0x80) (BitVec.ofNat 32 (e.word 0))) ∧
        (∀ n, 1 ≤ n → n < 8 → u.lat q (evtB + 0x80 + 4 * n) = e.word n % 2 ^ 32) ∧ Keeps [.log, .latch, .out] (oneOf [evtB + 0x40]) noAddr s u)) ∧
    (∀ (s : State) (c : Fin 256),
      (sevOf c.val = none → exec (.causeStatClear c) s = .next (s.reject evtB (0x1000 + 16 * c.val))) ∧
      (sevOf c.val ≠ none → ∃ u, exec (.causeStatClear c) s = .next u ∧ u.flag (causeA c.val) 31 = false ∧ u.fld (causeA c.val) 23 0 = 0 ∧
        u.flag (causeA c.val + 4) 31 = false ∧ u.fld (causeA c.val + 4) 19 0 = s.fld (causeA c.val + 4) 19 0 ∧
        Keeps [] (oneOf [causeA c.val, causeA c.val + 4]) noAddr s u)) ∧
    (∀ (s : State) (w : Fin 20) (v : Word),
      (w.val < 16 → ∃ u, exec (.pendClear w v) s = .next u ∧ u.rd (evtB + 0x100 + 4 * w.val) = (BitVec.ofNat 32 (s.rd (evtB + 0x100 + 4 * w.val)) &&& ~~~v).toNat ∧
        Keeps [] (oneOf [evtB + 0x100 + 4 * w.val]) noAddr s u) ∧
      (16 ≤ w.val → ∃ u, exec (.pendClear w v) s = .next u ∧ u.prd (240 + w.val) 0xC0 = (BitVec.ofNat 32 (s.prd (240 + w.val) 0xC0) &&& ~~~v).toNat ∧
        Keeps [.pregs] noAddr noAddr s u)) ∧
    (∀ (s : State), ∃ u, exec .tapReset s = .next u ∧ u.dbg.ir = 1 ∧ u.out = .tdo 1 idcode :: s.out ∧ Keeps [.dbg, .out] noAddr noAddr s u) ∧
    (∀ (s : State) (i : BitVec 8), ∃ u, exec (.irLoad i) s = .next u ∧ Keeps [.dbg, .out, .free] noAddr noAddr s u ∧
      (i = 1 → u.dbg.ir = 1 ∧ u.out.head? = some (.tdo 1 idcode)) ∧ (i = 2 → u.dbg.ir = 2) ∧
      (i = 0x20 → u.dbg.ir = 0x20 ∧ u.out.head? = some (.tdo 0x20 s.dbg.dr)) ∧
      (i = 3 ∨ i = 4 ∨ i = 5 → u.dbg.ir = (if s.pw.hold.por then i.toNat else 0xFF)) ∧
      (i ≠ 1 → i ≠ 2 → i ≠ 3 → i ≠ 4 → i ≠ 5 → i ≠ 0x20 → u.dbg.ir = 0xFF)) ∧
    (∀ (s : State) (d : BitVec 64) (x : WEnv) (a v : Nat), a = bits d.toNat 57 32 → v = bits d.toNat 31 0 →
      (s.dbg.ir ≠ 0x20 → exec (.dbgAccess d x) s = .next s) ∧
      (s.dbg.ir = 0x20 → a % 4 = 0 → s.unlocked = false → dbgOpen a = false →
        (bit d.toNat 63 = false → ∃ u, exec (.dbgAccess d x) s = .next u ∧ u.dbg.dr = 2 ^ 63 + a * 2 ^ 32 ∧ u.out = .tdo 0x20 s.dbg.dr :: s.out ∧
          Keeps [.dbg, .out] noAddr noAddr s u) ∧
        (bit d.toNat 63 = true → ∃ u, exec (.dbgAccess d x) s = .next u ∧ u.dbg.dr = 2 ^ 63 + a * 2 ^ 32 + v ∧
          u.rd (dbgB + 0x10) = min top32 (s.rd (dbgB + 0x10) + 1) ∧ Raised Ev.cfgReject u)) ∧
      (s.dbg.ir = 0x20 → a % 4 = 0 → s.unlocked = true ∨ dbgOpen a = true → bit d.toNat 63 = false →
        ∃ u, exec (.dbgAccess d x) s = .next u ∧ u.dbg.dr = a * 2 ^ 32 + ((s.emit (.tdo 0x20 s.dbg.dr)).ownerRead .jtag a).1) ∧
      (s.dbg.ir = 0x20 → s.dbgBusy = false → s.lockout = false → bit d.toNat 63 = true → ∀ n, n < 16 → a = dbgB + 0xA0 + 4 * n →
        ∃ u, exec (.dbgAccess d x) s = .next u ∧ u.rd a = v ∧ u.dbg.dr = a * 2 ^ 32 + v)) ∧
    (∀ (s : State) (g : BitVec 2),
      (s.dbgBusy = true ∨ s.lockout = true → exec (.dbgChal g) s = .next (s.reject dbgB 0x44) ∧ exec (.dbgVerify g) s = .next (s.reject dbgB 0x44)) ∧
      (s.dbgBusy = false → s.lockout = false →
        (∃ u b, exec (.dbgChal g) s = .next u ∧ u.dbg.chal = some (b, s.mono) ∧ b.length = 32 ∧
          b.drop 16 = bytesBE 8 Config.serial.toNat ++ bytesBE 4 (s.rd (bootB + 0x50)) ++ [0, 0, 0, 0] ∧
          (∀ n, n < 8 → u.rd (dbgB + 0x80 + 4 * n) = beAt b (4 * n) 4) ∧ u.flag (dbgB + 0x40) 28 = true ∧ u.rd (dbgB + 0x44) = g.toNat ∧
          Keeps [.dbg, .free] (oneOf ([dbgB + 0x40, dbgB + 0x44] ++ (List.range 8).map (fun n => dbgB + 0x80 + 4 * n))) noAddr s u) ∧
        (∃ u, exec (.dbgVerify g) s = .next u ∧ u.dbgBusy = true ∧ u.rd (dbgB + 0x44) = g.toNat ∧
          u.dbg.chal = (match s.dbg.chal with
            | none => none
            | some c => if c.2 + 60 * uS ≤ s.mono then none else some c)))) ∧
    (∀ (s : State), (s.dbgBusy = false → exec .dbgVerifyDone s = .next s) ∧
      (s.dbgBusy = true → s.dbgResult = 0 → ∃ u, exec .dbgVerifyDone s = .next u ∧ u.unlocked = true ∧ u.dbgBusy = false ∧ u.dbg.chal = none ∧
        u.fld (dbgB + 0x40) 1 0 = 0 ∧ u.cip.mat = [] ∧ Raised Ev.dbgUnlock u) ∧
      (∀ r, s.dbgBusy = true → s.dbgResult = r → r ≠ 0 → ∃ u, exec .dbgVerifyDone s = .next u ∧ u.dbgBusy = false ∧ u.dbg.chal = none ∧
        u.fld (dbgB + 0x40) 7 4 = r ∧ u.unlocked = s.unlocked ∧ u.fld (dbgB + 0x40) 1 0 = min 3 (s.fld (dbgB + 0x40) 1 0 + 1) ∧
        u.lockout = decide (2 ≤ s.fld (dbgB + 0x40) 1 0) ∧ Raised Ev.dbgAuthFail u) ∧
      (s.dbg.chal = none → s.dbgResult = 2) ∧
      (∀ c, s.dbg.chal = some c → (s.fld (dbgB + 0x44) 1 0 = 0 ∨ s.fld (dbgB + 0x44) 1 0 = 3 ∨ (s.fld (dbgB + 0x44) 1 0 = 1 ∧ s.flag (dbgB + 0x48) 31 = true) ∨
        (s.fld (dbgB + 0x44) 1 0 = 2 ∧ s.flag (dbgB + 0x48) 30 = false)) → s.dbgResult = 3) ∧
      (s.dbg.chal = none → exec .dbgChalExpire s = .next s) ∧
      (∀ b c, s.dbg.chal = some (b, c) → (s.dbgBusy = true ∨ s.mono < c + 60 * uS → exec .dbgChalExpire s = .next s) ∧
        (s.dbgBusy = false → c + 60 * uS ≤ s.mono → ∃ u, exec .dbgChalExpire s = .next u ∧ u.dbg.chal = none ∧ u.flag (dbgB + 0x40) 28 = false ∧
          ∀ n, n < 8 → u.rd (dbgB + 0x80 + 4 * n) = 0))) ∧
    (∀ (s : State) (t : Fin 1536), (s.unlocked = false → exec (.thrHalt t) s = .next (s.reject dbgB 0x200) ∧
        exec (.thrResume t) s = .next (s.reject dbgB 0x200) ∧ exec (.thrStep t) s = .next (s.reject dbgB 0x200)) ∧
      (s.unlocked = true →
        (1 ≤ (s.thr t.val).state → (s.thr t.val).state ≤ 4 → ∃ u, exec (.thrHalt t) s = .next u ∧ (u.thr t.val).state = 5 ∧
          (u.thr t.val).under = (if (s.thr t.val).state = 2 then 1 else (s.thr t.val).state) ∧ (u.thr t.val).pc = (s.thr t.val).pc ∧
          (u.thr t.val).g = (s.thr t.val).g ∧ u.dbgThr = t.val) ∧
        ((s.thr t.val).state = 0 ∨ 5 ≤ (s.thr t.val).state → ∃ u, exec (.thrHalt t) s = .next u ∧ u.thr t.val = s.thr t.val ∧ u.dbgThr = t.val ∧
          u.rd (dbgB + 0x10) = min top32 (s.rd (dbgB + 0x10) + 1) ∧ Raised Ev.cfgReject u) ∧
        ((s.thr t.val).state ≠ 5 → ∃ u, exec (.thrResume t) s = .next u ∧ exec (.thrStep t) s = .next u ∧ u.dbgThr = t.val ∧
          Keeps [] (oneOf [dbgB + 0x200]) noAddr s u) ∧
        ((s.thr t.val).state = 5 → (s.thr t.val).under = 1 →
          (∃ u, exec (.thrResume t) s = .next u ∧ ((u.thr t.val).state = 1 ∨ (u.thr t.val).state = 2)) ∧
          (∃ u, exec (.thrStep t) s = .next u ∧ ((u.thr t.val).state = 1 ∨ (u.thr t.val).state = 2) ∧ (u.thr t.val).step = true)) ∧
        ((s.thr t.val).state = 5 → (s.thr t.val).under = 3 → (∃ u, exec (.thrResume t) s = .next u ∧ (u.thr t.val).state = 3) ∧
          (∃ u, exec (.thrStep t) s = .next u ∧ (u.thr t.val).state = 3 ∧ (u.thr t.val).step = true)) ∧
        ((s.thr t.val).state = 5 → (s.thr t.val).under = 4 → (s.thr t.val).step = false → ∃ u, exec (.thrResume t) s = .next u ∧
          ((u.thr t.val).state = 4 ∨ (u.thr t.val).state = 1 ∨ (u.thr t.val).state = 2)))) ∧
    (∀ (s : State) (c : Fin 12) (e : Fin 16), (s.issuer c.val e.val = none → exec (.bkptHit c e) s = .next s) ∧
      (∀ t, s.issuer c.val e.val = some t → (s.breaks t = false → exec (.bkptHit c e) s = .next s) ∧
        (s.breaks t = true → ∃ u, exec (.bkptHit c e) s = .next u ∧ (u.thr t).state = 5 ∧ (u.thr t).under = 1 ∧ (u.thr t).pc = (s.thr t).pc ∧
          (u.thr t).retired = (s.thr t).retired ∧ (u.thr t).bpPass = some (s.thr t).pc ∧ u.flag (dbgC (cluOf t) + 4) 30 = true ∧
          u.fld (dbgC (cluOf t) + 4) 6 0 = inClu t))) ∧
    (∀ (s : State) (q : Req) (r : Nat), r = s.fld (dbgB + 0x208) 5 0 →
      (q ≠ .jtag → (∃ u, exec (.thrDataRead q) s = .next u ∧ u.out = .readData q (dbgB + 0x210) 0 :: s.out ∧ Keeps [.out] noAddr noAddr s u) ∧
        (∃ u, exec (.dbgMemRead q) s = .next u ∧ u.out = .readData q (dbgB + 0x308) 0 :: s.out ∧ Keeps [.out] noAddr noAddr s u)) ∧
      ((s.thr s.dbgThr).state ≠ 5 → ∃ u, exec (.thrDataRead .jtag) s = .next u ∧ u.out = .readData .jtag (dbgB + 0x210) 0 :: s.out ∧
        u.rd (dbgB + 0x10) = min top32 (s.rd (dbgB + 0x10) + 1) ∧ Keeps [.out] (oneOf [dbgB + 0x10]) noAddr s u) ∧
      (∀ v : Nat, (s.thr s.dbgThr).state = 5 → (r < 32 ∧ v = (s.gr s.dbgThr r).toNat) ∨ (r = 32 ∧ v = (s.thr s.dbgThr).pc) →
        ∃ u, exec (.thrDataRead .jtag) s = .next u ∧ u.out = .readData .jtag (dbgB + 0x210) (BitVec.ofNat 32 v) :: s.out ∧
          u.lat .jtag dbgB = v / 2 ^ 32 % 2 ^ 32 ∧ Keeps [.out, .latch] noAddr noAddr s u) ∧
      (s.flag (dbgB + 0x300) 31 = false → ∀ v, v = natLE (s.dGet (s.fld (dbgB + 0x300) 27 24) (s.fld (dbgB + 0x300) 19 0) 8) →
        ∃ u, exec (.dbgMemRead .jtag) s = .next u ∧ u.out = .readData .jtag (dbgB + 0x308) (BitVec.ofNat 32 v) :: s.out ∧
          u.lat .jtag dbgB = v / 2 ^ 32 % 2 ^ 32 ∧ Keeps [.out, .latch] noAddr noAddr s u)) ∧
    (∀ (s : State) (h : Word) (r v t : Nat), r = s.fld (dbgB + 0x208) 5 0 → t = s.dbgThr → v = h.toNat * 2 ^ 32 + s.rd (dbgB + 0x210) →
      (s.unlocked = false ∨ (s.thr t).state ≠ 5 → exec (.thrDataWrite h) s = .next (s.reject dbgB 0x214)) ∧
      (s.unlocked = true → (s.thr t).state = 5 →
        (r = 0 → exec (.thrDataWrite h) s = .next s) ∧
        (1 ≤ r → r < 32 → ∃ u, exec (.thrDataWrite h) s = .next u ∧ u.gr t r = BitVec.ofNat 64 v ∧ (∀ k, k ≠ r → u.gr t k = s.gr t k) ∧
          (u.thr t).pc = (s.thr t).pc ∧ Keeps [.en] noAddr noAddr s u) ∧
        (r = 32 → v % 4 = 0 → s.inCode (cluOf t) v = true → ∃ u, exec (.thrDataWrite h) s = .next u ∧ (u.thr t).pc = v ∧ (u.thr t).g = (s.thr t).g ∧
          Keeps [.en] noAddr noAddr s u) ∧
        (r = 32 → v % 4 ≠ 0 ∨ s.inCode (cluOf t) v = false → exec (.thrDataWrite h) s = .next (s.reject dbgB 0x214)))) ∧
    (∀ (s : State) (h : Word) (c o lo : Nat), c = s.fld (dbgB + 0x300) 27 24 → o = s.fld (dbgB + 0x300) 19 0 → lo = s.rd (dbgB + 0x308) →
      (s.unlocked = false → exec (.dbgMemWrite h) s = .next (s.reject dbgB 0x30C)) ∧
      (s.unlocked = true → s.flag (dbgB + 0x300) 31 = false → ∃ u, exec (.dbgMemWrite h) s = .next u ∧
        natLE (u.dGet c o 8) = h.toNat * 2 ^ 32 + lo ∧ (∀ a, a < o ∨ o + 8 ≤ a → u.dByte c a = s.dByte c a) ∧
        u.fld (dbgB + 0x300) 19 0 = (if s.flag (dbgB + 0x300) 30 then (o + 8) % 2 ^ 20 else o) ∧ Keeps [.en] (oneOf [dbgB + 0x300]) noAddr s u) ∧
      (s.unlocked = true → s.flag (dbgB + 0x300) 31 = true →
        (s.blkState (engB c) ≠ 2 → exec (.dbgMemWrite h) s = .next (s.reject dbgB 0x30C)) ∧
        (s.blkState (engB c) = 2 → ∃ u, exec (.dbgMemWrite h) s = .next u ∧ mget (fun _ => 0) (u.clu c).code (o / 4) = BitVec.ofNat 32 lo ∧
          mget (fun _ => 0) (u.clu c).code (o / 4 + 1) = h ∧ u.flag (dbgC c + 4) 31 = true ∧
          Keeps [.en] (oneOf [dbgB + 0x300, dbgC c + 4]) noAddr s u)))
end

