-- ==== Sys2Proof/Laws/Sparse.lean ====
section
/-! SUPPORT. Laws of the sparse tables: a read after a write, and the canonical form that every write keeps. -/
namespace Sys2Proof.Machine

variable {α : Type}

/-- Every key of a table lies above `k`. -/
def mabove (k : Nat) (m : Sparse α) : Prop := ∀ e ∈ m, k < e.1

theorem mget_above (d : Nat → α) (m : Sparse α) (k : Nat) (h : mabove k m) : mget d m k = d k := by
  induction m with
  | nil => rfl
  | cons e m ih =>
    obtain ⟨j, v⟩ := e
    have hj : k < j := h (j, v) (by simp)
    have hm : mabove k m := fun x hx => h x (by simp [hx])
    simp only [mget]
    rw [if_neg (by omega), ih hm]

theorem mrising_cons (j : Nat) (v : α) (m : Sparse α) :
    mrising ((j, v) :: m) = true ↔ mabove j m ∧ mrising m = true := by
  induction m generalizing j v with
  | nil => simp [mrising, mabove]
  | cons e m ih =>
    obtain ⟨k, w⟩ := e
    simp only [mrising, Bool.and_eq_true, decide_eq_true_eq]
    constructor
    · rintro ⟨hjk, hr⟩
      refine ⟨?_, hr⟩
      intro x hx
      rcases List.mem_cons.1 hx with rfl | hx
      · exact hjk
      · exact Nat.lt_trans hjk (((ih k w).1 hr).1 x hx)
    · rintro ⟨ha, hr⟩
      exact ⟨ha (k, w) (by simp), hr⟩

theorem mget_mins (d : Nat → α) (m : Sparse α) (k : Nat) (v : α) (i : Nat) :
    mget d (mins m k v) i = if i = k then v else mget d m i := by
  induction m with
  | nil => simp [mins, mget]
  | cons e m ih =>
    obtain ⟨j, w⟩ := e
    unfold mins
    by_cases h1 : k < j
    · simp [h1, mget]
    · by_cases h2 : k = j
      · subst h2
        by_cases h3 : i = k <;> simp [h3, mget]
      · simp only [h1, h2, if_false, mget, ih]
        by_cases h3 : i = j
        · subst h3; simp [Ne.symm h2]
        · simp [h3]

theorem mget_mdel (d : Nat → α) (m : Sparse α) (k i : Nat) :
    mget d (mdel m k) i = if i = k then d k else mget d m i := by
  induction m with
  | nil =>
    simp only [mdel, List.filter_nil, mget]
    split
    · rename_i h; rw [h]
    · rfl
  | cons e m ih =>
    obtain ⟨j, w⟩ := e
    have ih' : mget d (List.filter (fun e => decide (e.1 ≠ k)) m) i = if i = k then d k else mget d m i := ih
    simp only [mdel, List.filter_cons]
    by_cases hj : j = k
    · subst hj
      simp only [ne_eq, not_true_eq_false, decide_false, Bool.false_eq_true, if_false]
      rw [ih']
      by_cases hi : i = j
      · simp [hi]
      · simp [mget, hi]
    · simp only [ne_eq, hj, not_false_eq_true, decide_true, if_true, mget]
      rw [ih']
      by_cases hi : i = j
      · subst hi; simp [hj]
      · simp [hi]

/-- A read of a table after a write. -/
theorem mget_mput [DecidableEq α] (d : Nat → α) (m : Sparse α) (k : Nat) (v : α) (i : Nat) :
    mget d (mput d m k v) i = if i = k then v else mget d m i := by
  unfold mput
  split
  · rename_i h; rw [mget_mdel, h]
  · rw [mget_mins]

theorem mabove_mins (m : Sparse α) (k j : Nat) (v : α) (h : mabove j m) (hk : j < k) : mabove j (mins m k v) := by
  induction m with
  | nil => intro e he; simp [mins] at he; simp [he, hk]
  | cons e m ih =>
    obtain ⟨a, w⟩ := e
    have ha : j < a := h (a, w) (by simp)
    have hm : mabove j m := fun x hx => h x (by simp [hx])
    unfold mins
    split_ifs with h1 h2
    · intro x hx
      rcases List.mem_cons.1 hx with rfl | hx
      · exact hk
      · exact h x hx
    · intro x hx
      rcases List.mem_cons.1 hx with rfl | hx
      · exact hk
      · exact hm x hx
    · intro x hx
      rcases List.mem_cons.1 hx with rfl | hx
      · exact ha
      · exact ih hm x hx

theorem mrising_mins (m : Sparse α) (k : Nat) (v : α) (h : mrising m = true) : mrising (mins m k v) = true := by
  induction m with
  | nil => simp [mins, mrising]
  | cons e m ih =>
    obtain ⟨a, w⟩ := e
    obtain ⟨ha, hm⟩ := (mrising_cons a w m).1 h
    unfold mins
    split_ifs with h1 h2
    · refine (mrising_cons k v _).2 ⟨?_, h⟩
      intro x hx
      rcases List.mem_cons.1 hx with rfl | hx
      · exact h1
      · exact Nat.lt_trans h1 (ha x hx)
    · subst h2; exact (mrising_cons _ v _).2 ⟨ha, hm⟩
    · exact (mrising_cons a w _).2 ⟨mabove_mins m k a v ha (by omega), ih hm⟩

theorem mrising_filter (p : Nat × α → Bool) (m : Sparse α) (h : mrising m = true) : mrising (m.filter p) = true := by
  induction m with
  | nil => simp [mrising]
  | cons e m ih =>
    obtain ⟨a, w⟩ := e
    obtain ⟨ha, hm⟩ := (mrising_cons a w m).1 h
    simp only [List.filter_cons]
    split
    · exact (mrising_cons a w _).2 ⟨fun x hx => ha x (List.mem_filter.1 hx).1, ih hm⟩
    · exact ih hm

theorem mem_mins (m : Sparse α) (k : Nat) (v : α) (e : Nat × α) (h : e ∈ mins m k v) : e = (k, v) ∨ e ∈ m := by
  induction m with
  | nil => simp [mins] at h; exact .inl h
  | cons x m ih =>
    obtain ⟨a, w⟩ := x
    unfold mins at h
    split_ifs at h with h1 h2
    · rcases List.mem_cons.1 h with h | h
      · exact .inl h
      · exact .inr h
    · rcases List.mem_cons.1 h with h | h
      · exact .inl h
      · exact .inr (by simp [h])
    · rcases List.mem_cons.1 h with h | h
      · exact .inr (by simp [h])
      · rcases ih h with h | h
        · exact .inl h
        · exact .inr (by simp [h])

/-- The canonical form in words. -/
theorem mwf_iff [DecidableEq α] (d : Nat → α) (m : Sparse α) :
    mwf d m = true ↔ mrising m = true ∧ ∀ e ∈ m, e.2 ≠ d e.1 := by
  simp [mwf]

/-- Dropping entries keeps the canonical form. -/
theorem mwf_filter [DecidableEq α] (d : Nat → α) (m : Sparse α) (p : Nat × α → Bool) (h : mwf d m = true) :
    mwf d (m.filter p) = true := by
  rw [mwf_iff] at *
  exact ⟨mrising_filter p m h.1, fun e he => h.2 e (List.mem_filter.1 he).1⟩

/-- A write keeps the canonical form. -/
theorem mwf_mput [DecidableEq α] (d : Nat → α) (m : Sparse α) (k : Nat) (v : α) (h : mwf d m = true) :
    mwf d (mput d m k v) = true := by
  unfold mput
  split
  · exact mwf_filter d m _ h
  · rename_i hv
    rw [mwf_iff] at *
    refine ⟨mrising_mins m k v h.1, fun e he => ?_⟩
    rcases mem_mins m k v e he with rfl | he
    · exact hv
    · exact h.2 e he

/-- A removal keeps the canonical form. -/
theorem mwf_mdel [DecidableEq α] (d : Nat → α) (m : Sparse α) (k : Nat) (h : mwf d m = true) :
    mwf d (mdel m k) = true := mwf_filter d m _ h

/-- A clear keeps the canonical form. -/
theorem mwf_mclear [DecidableEq α] (d : Nat → α) (p : Nat → Bool) (m : Sparse α) (h : mwf d m = true) :
    mwf d (mclear p m) = true := mwf_filter d m _ h

/-- Two canonical tables that read the same are equal. -/
theorem mext [DecidableEq α] (d : Nat → α) (m n : Sparse α) (hm : mwf d m = true) (hn : mwf d n = true)
    (h : ∀ k, mget d m k = mget d n k) : m = n := by
  induction m generalizing n with
  | nil =>
    cases n with
    | nil => rfl
    | cons e n =>
      obtain ⟨k, v⟩ := e
      have hv := ((mwf_iff d _).1 hn).2 (k, v) (by simp)
      exact absurd (by simpa [mget] using (h k).symm) hv
  | cons e m ih =>
    obtain ⟨j, v⟩ := e
    obtain ⟨hr, hd⟩ := (mwf_iff d _).1 hm
    obtain ⟨ha, hr'⟩ := (mrising_cons j v m).1 hr
    have hv : v ≠ d j := hd (j, v) (by simp)
    cases n with
    | nil => exact absurd (by simpa [mget] using h j) hv
    | cons f n =>
      obtain ⟨k, w⟩ := f
      obtain ⟨gr, gd⟩ := (mwf_iff d _).1 hn
      obtain ⟨ga, gr'⟩ := (mrising_cons k w n).1 gr
      have hw : w ≠ d k := gd (k, w) (by simp)
      have hjk : j = k := by
        rcases Nat.lt_trichotomy j k with hlt | heq | hlt
        · have : mabove j ((k, w) :: n) := by
            intro x hx
            rcases List.mem_cons.1 hx with rfl | hx
            · exact hlt
            · exact Nat.lt_trans hlt (ga x hx)
          have h1 := h j
          rw [mget_above d _ j this] at h1
          exact absurd (by simpa [mget] using h1) hv
        · exact heq
        · have : mabove k ((j, v) :: m) := by
            intro x hx
            rcases List.mem_cons.1 hx with rfl | hx
            · exact hlt
            · exact Nat.lt_trans hlt (ha x hx)
          have h1 := h k
          rw [mget_above d _ k this] at h1
          exact absurd (by simpa [mget] using h1.symm) hw
      subst hjk
      have hvw : v = w := by simpa [mget] using h j
      subst hvw
      congr 1
      refine ih n ((mwf_iff d m).2 ⟨hr', fun e he => hd e (by simp [he])⟩)
        ((mwf_iff d n).2 ⟨gr', fun e he => gd e (by simp [he])⟩) (fun i => ?_)
      by_cases hi : i = j
      · subst hi; rw [mget_above d m _ ha, mget_above d n _ ga]
      · simpa [mget, hi] using h i

end Sys2Proof.Machine
end

