-- ==== Sys2Proof/Laws/State.lean ====
section
/-! SUPPORT. Laws of State: one lemma per field per update, the reads of a register after a write, and bit fields. -/
namespace Sys2Proof.Machine

/-! `State.wr` -/
@[simp] theorem State.wr_pending (s : State) (a v : Nat) : (s.wr a v).pending = s.pending := rfl
@[simp] theorem State.wr_act (s : State) (a v : Nat) : (s.wr a v).act = s.act := rfl
@[simp] theorem State.wr_cnts (s : State) (a v : Nat) : (s.wr a v).cnts = s.cnts := rfl
@[simp] theorem State.wr_latch (s : State) (a v : Nat) : (s.wr a v).latch = s.latch := rfl
@[simp] theorem State.wr_pregs (s : State) (a v : Nat) : (s.wr a v).pregs = s.pregs := rfl
@[simp] theorem State.wr_tb (s : State) (a v : Nat) : (s.wr a v).tb = s.tb := rfl
@[simp] theorem State.wr_mono (s : State) (a v : Nat) : (s.wr a v).mono = s.mono := rfl
@[simp] theorem State.wr_free (s : State) (a v : Nat) : (s.wr a v).free = s.free := rfl
@[simp] theorem State.wr_out (s : State) (a v : Nat) : (s.wr a v).out = s.out := rfl
@[simp] theorem State.wr_straps (s : State) (a v : Nat) : (s.wr a v).straps = s.straps := rfl
@[simp] theorem State.wr_tim (s : State) (a v : Nat) : (s.wr a v).tim = s.tim := rfl
@[simp] theorem State.wr_tsu (s : State) (a v : Nat) : (s.wr a v).tsu = s.tsu := rfl
@[simp] theorem State.wr_log (s : State) (a v : Nat) : (s.wr a v).log = s.log := rfl
@[simp] theorem State.wr_fn (s : State) (a v : Nat) : (s.wr a v).fn = s.fn := rfl
@[simp] theorem State.wr_tl (s : State) (a v : Nat) : (s.wr a v).tl = s.tl := rfl
@[simp] theorem State.wr_sl (s : State) (a v : Nat) : (s.wr a v).sl = s.sl := rfl
@[simp] theorem State.wr_dp (s : State) (a v : Nat) : (s.wr a v).dp = s.dp := rfl
@[simp] theorem State.wr_boot (s : State) (a v : Nat) : (s.wr a v).boot = s.boot := rfl
@[simp] theorem State.wr_tfn (s : State) (a v : Nat) : (s.wr a v).tfn = s.tfn := rfl
@[simp] theorem State.wr_cip (s : State) (a v : Nat) : (s.wr a v).cip = s.cip := rfl
@[simp] theorem State.wr_mem (s : State) (a v : Nat) : (s.wr a v).mem = s.mem := rfl
@[simp] theorem State.wr_en (s : State) (a v : Nat) : (s.wr a v).en = s.en := rfl
@[simp] theorem State.wr_rpl (s : State) (a v : Nat) : (s.wr a v).rpl = s.rpl := rfl
@[simp] theorem State.wr_hp (s : State) (a v : Nat) : (s.wr a v).hp = s.hp := rfl
@[simp] theorem State.wr_svc (s : State) (a v : Nat) : (s.wr a v).svc = s.svc := rfl
@[simp] theorem State.wr_pw (s : State) (a v : Nat) : (s.wr a v).pw = s.pw := rfl
@[simp] theorem State.wr_dbg (s : State) (a v : Nat) : (s.wr a v).dbg = s.dbg := rfl
@[simp] theorem State.wr_quies (s : State) (a v : Nat) : (s.wr a v).quies = s.quies := rfl
/-! `State.setFld` -/
@[simp] theorem State.setFld_pending (s : State) (a hi lo v : Nat) : (s.setFld a hi lo v).pending = s.pending := rfl
@[simp] theorem State.setFld_act (s : State) (a hi lo v : Nat) : (s.setFld a hi lo v).act = s.act := rfl
@[simp] theorem State.setFld_cnts (s : State) (a hi lo v : Nat) : (s.setFld a hi lo v).cnts = s.cnts := rfl
@[simp] theorem State.setFld_latch (s : State) (a hi lo v : Nat) : (s.setFld a hi lo v).latch = s.latch := rfl
@[simp] theorem State.setFld_pregs (s : State) (a hi lo v : Nat) : (s.setFld a hi lo v).pregs = s.pregs := rfl
@[simp] theorem State.setFld_tb (s : State) (a hi lo v : Nat) : (s.setFld a hi lo v).tb = s.tb := rfl
@[simp] theorem State.setFld_mono (s : State) (a hi lo v : Nat) : (s.setFld a hi lo v).mono = s.mono := rfl
@[simp] theorem State.setFld_free (s : State) (a hi lo v : Nat) : (s.setFld a hi lo v).free = s.free := rfl
@[simp] theorem State.setFld_out (s : State) (a hi lo v : Nat) : (s.setFld a hi lo v).out = s.out := rfl
@[simp] theorem State.setFld_straps (s : State) (a hi lo v : Nat) : (s.setFld a hi lo v).straps = s.straps := rfl
@[simp] theorem State.setFld_tim (s : State) (a hi lo v : Nat) : (s.setFld a hi lo v).tim = s.tim := rfl
@[simp] theorem State.setFld_tsu (s : State) (a hi lo v : Nat) : (s.setFld a hi lo v).tsu = s.tsu := rfl
@[simp] theorem State.setFld_log (s : State) (a hi lo v : Nat) : (s.setFld a hi lo v).log = s.log := rfl
@[simp] theorem State.setFld_fn (s : State) (a hi lo v : Nat) : (s.setFld a hi lo v).fn = s.fn := rfl
@[simp] theorem State.setFld_tl (s : State) (a hi lo v : Nat) : (s.setFld a hi lo v).tl = s.tl := rfl
@[simp] theorem State.setFld_sl (s : State) (a hi lo v : Nat) : (s.setFld a hi lo v).sl = s.sl := rfl
@[simp] theorem State.setFld_dp (s : State) (a hi lo v : Nat) : (s.setFld a hi lo v).dp = s.dp := rfl
@[simp] theorem State.setFld_boot (s : State) (a hi lo v : Nat) : (s.setFld a hi lo v).boot = s.boot := rfl
@[simp] theorem State.setFld_tfn (s : State) (a hi lo v : Nat) : (s.setFld a hi lo v).tfn = s.tfn := rfl
@[simp] theorem State.setFld_cip (s : State) (a hi lo v : Nat) : (s.setFld a hi lo v).cip = s.cip := rfl
@[simp] theorem State.setFld_mem (s : State) (a hi lo v : Nat) : (s.setFld a hi lo v).mem = s.mem := rfl
@[simp] theorem State.setFld_en (s : State) (a hi lo v : Nat) : (s.setFld a hi lo v).en = s.en := rfl
@[simp] theorem State.setFld_rpl (s : State) (a hi lo v : Nat) : (s.setFld a hi lo v).rpl = s.rpl := rfl
@[simp] theorem State.setFld_hp (s : State) (a hi lo v : Nat) : (s.setFld a hi lo v).hp = s.hp := rfl
@[simp] theorem State.setFld_svc (s : State) (a hi lo v : Nat) : (s.setFld a hi lo v).svc = s.svc := rfl
@[simp] theorem State.setFld_pw (s : State) (a hi lo v : Nat) : (s.setFld a hi lo v).pw = s.pw := rfl
@[simp] theorem State.setFld_dbg (s : State) (a hi lo v : Nat) : (s.setFld a hi lo v).dbg = s.dbg := rfl
@[simp] theorem State.setFld_quies (s : State) (a hi lo v : Nat) : (s.setFld a hi lo v).quies = s.quies := rfl
/-! `State.bump32` -/
@[simp] theorem State.bump32_pending (s : State) (a n : Nat) : (s.bump32 a n).pending = s.pending := rfl
@[simp] theorem State.bump32_act (s : State) (a n : Nat) : (s.bump32 a n).act = s.act := rfl
@[simp] theorem State.bump32_cnts (s : State) (a n : Nat) : (s.bump32 a n).cnts = s.cnts := rfl
@[simp] theorem State.bump32_latch (s : State) (a n : Nat) : (s.bump32 a n).latch = s.latch := rfl
@[simp] theorem State.bump32_pregs (s : State) (a n : Nat) : (s.bump32 a n).pregs = s.pregs := rfl
@[simp] theorem State.bump32_tb (s : State) (a n : Nat) : (s.bump32 a n).tb = s.tb := rfl
@[simp] theorem State.bump32_mono (s : State) (a n : Nat) : (s.bump32 a n).mono = s.mono := rfl
@[simp] theorem State.bump32_free (s : State) (a n : Nat) : (s.bump32 a n).free = s.free := rfl
@[simp] theorem State.bump32_out (s : State) (a n : Nat) : (s.bump32 a n).out = s.out := rfl
@[simp] theorem State.bump32_straps (s : State) (a n : Nat) : (s.bump32 a n).straps = s.straps := rfl
@[simp] theorem State.bump32_tim (s : State) (a n : Nat) : (s.bump32 a n).tim = s.tim := rfl
@[simp] theorem State.bump32_tsu (s : State) (a n : Nat) : (s.bump32 a n).tsu = s.tsu := rfl
@[simp] theorem State.bump32_log (s : State) (a n : Nat) : (s.bump32 a n).log = s.log := rfl
@[simp] theorem State.bump32_fn (s : State) (a n : Nat) : (s.bump32 a n).fn = s.fn := rfl
@[simp] theorem State.bump32_tl (s : State) (a n : Nat) : (s.bump32 a n).tl = s.tl := rfl
@[simp] theorem State.bump32_sl (s : State) (a n : Nat) : (s.bump32 a n).sl = s.sl := rfl
@[simp] theorem State.bump32_dp (s : State) (a n : Nat) : (s.bump32 a n).dp = s.dp := rfl
@[simp] theorem State.bump32_boot (s : State) (a n : Nat) : (s.bump32 a n).boot = s.boot := rfl
@[simp] theorem State.bump32_tfn (s : State) (a n : Nat) : (s.bump32 a n).tfn = s.tfn := rfl
@[simp] theorem State.bump32_cip (s : State) (a n : Nat) : (s.bump32 a n).cip = s.cip := rfl
@[simp] theorem State.bump32_mem (s : State) (a n : Nat) : (s.bump32 a n).mem = s.mem := rfl
@[simp] theorem State.bump32_en (s : State) (a n : Nat) : (s.bump32 a n).en = s.en := rfl
@[simp] theorem State.bump32_rpl (s : State) (a n : Nat) : (s.bump32 a n).rpl = s.rpl := rfl
@[simp] theorem State.bump32_hp (s : State) (a n : Nat) : (s.bump32 a n).hp = s.hp := rfl
@[simp] theorem State.bump32_svc (s : State) (a n : Nat) : (s.bump32 a n).svc = s.svc := rfl
@[simp] theorem State.bump32_pw (s : State) (a n : Nat) : (s.bump32 a n).pw = s.pw := rfl
@[simp] theorem State.bump32_dbg (s : State) (a n : Nat) : (s.bump32 a n).dbg = s.dbg := rfl
@[simp] theorem State.bump32_quies (s : State) (a n : Nat) : (s.bump32 a n).quies = s.quies := rfl
/-! `State.setCnt` -/
@[simp] theorem State.setCnt_pending (s : State) (a v : Nat) : (s.setCnt a v).pending = s.pending := rfl
@[simp] theorem State.setCnt_regs (s : State) (a v : Nat) : (s.setCnt a v).regs = s.regs := rfl
@[simp] theorem State.setCnt_act (s : State) (a v : Nat) : (s.setCnt a v).act = s.act := rfl
@[simp] theorem State.setCnt_latch (s : State) (a v : Nat) : (s.setCnt a v).latch = s.latch := rfl
@[simp] theorem State.setCnt_pregs (s : State) (a v : Nat) : (s.setCnt a v).pregs = s.pregs := rfl
@[simp] theorem State.setCnt_tb (s : State) (a v : Nat) : (s.setCnt a v).tb = s.tb := rfl
@[simp] theorem State.setCnt_mono (s : State) (a v : Nat) : (s.setCnt a v).mono = s.mono := rfl
@[simp] theorem State.setCnt_free (s : State) (a v : Nat) : (s.setCnt a v).free = s.free := rfl
@[simp] theorem State.setCnt_out (s : State) (a v : Nat) : (s.setCnt a v).out = s.out := rfl
@[simp] theorem State.setCnt_straps (s : State) (a v : Nat) : (s.setCnt a v).straps = s.straps := rfl
@[simp] theorem State.setCnt_tim (s : State) (a v : Nat) : (s.setCnt a v).tim = s.tim := rfl
@[simp] theorem State.setCnt_tsu (s : State) (a v : Nat) : (s.setCnt a v).tsu = s.tsu := rfl
@[simp] theorem State.setCnt_log (s : State) (a v : Nat) : (s.setCnt a v).log = s.log := rfl
@[simp] theorem State.setCnt_fn (s : State) (a v : Nat) : (s.setCnt a v).fn = s.fn := rfl
@[simp] theorem State.setCnt_tl (s : State) (a v : Nat) : (s.setCnt a v).tl = s.tl := rfl
@[simp] theorem State.setCnt_sl (s : State) (a v : Nat) : (s.setCnt a v).sl = s.sl := rfl
@[simp] theorem State.setCnt_dp (s : State) (a v : Nat) : (s.setCnt a v).dp = s.dp := rfl
@[simp] theorem State.setCnt_boot (s : State) (a v : Nat) : (s.setCnt a v).boot = s.boot := rfl
@[simp] theorem State.setCnt_tfn (s : State) (a v : Nat) : (s.setCnt a v).tfn = s.tfn := rfl
@[simp] theorem State.setCnt_cip (s : State) (a v : Nat) : (s.setCnt a v).cip = s.cip := rfl
@[simp] theorem State.setCnt_mem (s : State) (a v : Nat) : (s.setCnt a v).mem = s.mem := rfl
@[simp] theorem State.setCnt_en (s : State) (a v : Nat) : (s.setCnt a v).en = s.en := rfl
@[simp] theorem State.setCnt_rpl (s : State) (a v : Nat) : (s.setCnt a v).rpl = s.rpl := rfl
@[simp] theorem State.setCnt_hp (s : State) (a v : Nat) : (s.setCnt a v).hp = s.hp := rfl
@[simp] theorem State.setCnt_svc (s : State) (a v : Nat) : (s.setCnt a v).svc = s.svc := rfl
@[simp] theorem State.setCnt_pw (s : State) (a v : Nat) : (s.setCnt a v).pw = s.pw := rfl
@[simp] theorem State.setCnt_dbg (s : State) (a v : Nat) : (s.setCnt a v).dbg = s.dbg := rfl
@[simp] theorem State.setCnt_quies (s : State) (a v : Nat) : (s.setCnt a v).quies = s.quies := rfl
/-! `State.bump` -/
@[simp] theorem State.bump_pending (s : State) (a n : Nat) : (s.bump a n).pending = s.pending := rfl
@[simp] theorem State.bump_regs (s : State) (a n : Nat) : (s.bump a n).regs = s.regs := rfl
@[simp] theorem State.bump_act (s : State) (a n : Nat) : (s.bump a n).act = s.act := rfl
@[simp] theorem State.bump_latch (s : State) (a n : Nat) : (s.bump a n).latch = s.latch := rfl
@[simp] theorem State.bump_pregs (s : State) (a n : Nat) : (s.bump a n).pregs = s.pregs := rfl
@[simp] theorem State.bump_tb (s : State) (a n : Nat) : (s.bump a n).tb = s.tb := rfl
@[simp] theorem State.bump_mono (s : State) (a n : Nat) : (s.bump a n).mono = s.mono := rfl
@[simp] theorem State.bump_free (s : State) (a n : Nat) : (s.bump a n).free = s.free := rfl
@[simp] theorem State.bump_out (s : State) (a n : Nat) : (s.bump a n).out = s.out := rfl
@[simp] theorem State.bump_straps (s : State) (a n : Nat) : (s.bump a n).straps = s.straps := rfl
@[simp] theorem State.bump_tim (s : State) (a n : Nat) : (s.bump a n).tim = s.tim := rfl
@[simp] theorem State.bump_tsu (s : State) (a n : Nat) : (s.bump a n).tsu = s.tsu := rfl
@[simp] theorem State.bump_log (s : State) (a n : Nat) : (s.bump a n).log = s.log := rfl
@[simp] theorem State.bump_fn (s : State) (a n : Nat) : (s.bump a n).fn = s.fn := rfl
@[simp] theorem State.bump_tl (s : State) (a n : Nat) : (s.bump a n).tl = s.tl := rfl
@[simp] theorem State.bump_sl (s : State) (a n : Nat) : (s.bump a n).sl = s.sl := rfl
@[simp] theorem State.bump_dp (s : State) (a n : Nat) : (s.bump a n).dp = s.dp := rfl
@[simp] theorem State.bump_boot (s : State) (a n : Nat) : (s.bump a n).boot = s.boot := rfl
@[simp] theorem State.bump_tfn (s : State) (a n : Nat) : (s.bump a n).tfn = s.tfn := rfl
@[simp] theorem State.bump_cip (s : State) (a n : Nat) : (s.bump a n).cip = s.cip := rfl
@[simp] theorem State.bump_mem (s : State) (a n : Nat) : (s.bump a n).mem = s.mem := rfl
@[simp] theorem State.bump_en (s : State) (a n : Nat) : (s.bump a n).en = s.en := rfl
@[simp] theorem State.bump_rpl (s : State) (a n : Nat) : (s.bump a n).rpl = s.rpl := rfl
@[simp] theorem State.bump_hp (s : State) (a n : Nat) : (s.bump a n).hp = s.hp := rfl
@[simp] theorem State.bump_svc (s : State) (a n : Nat) : (s.bump a n).svc = s.svc := rfl
@[simp] theorem State.bump_pw (s : State) (a n : Nat) : (s.bump a n).pw = s.pw := rfl
@[simp] theorem State.bump_dbg (s : State) (a n : Nat) : (s.bump a n).dbg = s.dbg := rfl
@[simp] theorem State.bump_quies (s : State) (a n : Nat) : (s.bump a n).quies = s.quies := rfl
/-! `State.setLat` -/
@[simp] theorem State.setLat_pending (s : State) (q : Req) (a v : Nat) : (s.setLat q a v).pending = s.pending := rfl
@[simp] theorem State.setLat_regs (s : State) (q : Req) (a v : Nat) : (s.setLat q a v).regs = s.regs := rfl
@[simp] theorem State.setLat_act (s : State) (q : Req) (a v : Nat) : (s.setLat q a v).act = s.act := rfl
@[simp] theorem State.setLat_cnts (s : State) (q : Req) (a v : Nat) : (s.setLat q a v).cnts = s.cnts := rfl
@[simp] theorem State.setLat_pregs (s : State) (q : Req) (a v : Nat) : (s.setLat q a v).pregs = s.pregs := rfl
@[simp] theorem State.setLat_tb (s : State) (q : Req) (a v : Nat) : (s.setLat q a v).tb = s.tb := rfl
@[simp] theorem State.setLat_mono (s : State) (q : Req) (a v : Nat) : (s.setLat q a v).mono = s.mono := rfl
@[simp] theorem State.setLat_free (s : State) (q : Req) (a v : Nat) : (s.setLat q a v).free = s.free := rfl
@[simp] theorem State.setLat_out (s : State) (q : Req) (a v : Nat) : (s.setLat q a v).out = s.out := rfl
@[simp] theorem State.setLat_straps (s : State) (q : Req) (a v : Nat) : (s.setLat q a v).straps = s.straps := rfl
@[simp] theorem State.setLat_tim (s : State) (q : Req) (a v : Nat) : (s.setLat q a v).tim = s.tim := rfl
@[simp] theorem State.setLat_tsu (s : State) (q : Req) (a v : Nat) : (s.setLat q a v).tsu = s.tsu := rfl
@[simp] theorem State.setLat_log (s : State) (q : Req) (a v : Nat) : (s.setLat q a v).log = s.log := rfl
@[simp] theorem State.setLat_fn (s : State) (q : Req) (a v : Nat) : (s.setLat q a v).fn = s.fn := rfl
@[simp] theorem State.setLat_tl (s : State) (q : Req) (a v : Nat) : (s.setLat q a v).tl = s.tl := rfl
@[simp] theorem State.setLat_sl (s : State) (q : Req) (a v : Nat) : (s.setLat q a v).sl = s.sl := rfl
@[simp] theorem State.setLat_dp (s : State) (q : Req) (a v : Nat) : (s.setLat q a v).dp = s.dp := rfl
@[simp] theorem State.setLat_boot (s : State) (q : Req) (a v : Nat) : (s.setLat q a v).boot = s.boot := rfl
@[simp] theorem State.setLat_tfn (s : State) (q : Req) (a v : Nat) : (s.setLat q a v).tfn = s.tfn := rfl
@[simp] theorem State.setLat_cip (s : State) (q : Req) (a v : Nat) : (s.setLat q a v).cip = s.cip := rfl
@[simp] theorem State.setLat_mem (s : State) (q : Req) (a v : Nat) : (s.setLat q a v).mem = s.mem := rfl
@[simp] theorem State.setLat_en (s : State) (q : Req) (a v : Nat) : (s.setLat q a v).en = s.en := rfl
@[simp] theorem State.setLat_rpl (s : State) (q : Req) (a v : Nat) : (s.setLat q a v).rpl = s.rpl := rfl
@[simp] theorem State.setLat_hp (s : State) (q : Req) (a v : Nat) : (s.setLat q a v).hp = s.hp := rfl
@[simp] theorem State.setLat_svc (s : State) (q : Req) (a v : Nat) : (s.setLat q a v).svc = s.svc := rfl
@[simp] theorem State.setLat_pw (s : State) (q : Req) (a v : Nat) : (s.setLat q a v).pw = s.pw := rfl
@[simp] theorem State.setLat_dbg (s : State) (q : Req) (a v : Nat) : (s.setLat q a v).dbg = s.dbg := rfl
@[simp] theorem State.setLat_quies (s : State) (q : Req) (a v : Nat) : (s.setLat q a v).quies = s.quies := rfl
/-! `State.pwr` -/
@[simp] theorem State.pwr_pending (s : State) (f off v : Nat) : (s.pwr f off v).pending = s.pending := rfl
@[simp] theorem State.pwr_regs (s : State) (f off v : Nat) : (s.pwr f off v).regs = s.regs := rfl
@[simp] theorem State.pwr_act (s : State) (f off v : Nat) : (s.pwr f off v).act = s.act := rfl
@[simp] theorem State.pwr_cnts (s : State) (f off v : Nat) : (s.pwr f off v).cnts = s.cnts := rfl
@[simp] theorem State.pwr_latch (s : State) (f off v : Nat) : (s.pwr f off v).latch = s.latch := rfl
@[simp] theorem State.pwr_tb (s : State) (f off v : Nat) : (s.pwr f off v).tb = s.tb := rfl
@[simp] theorem State.pwr_mono (s : State) (f off v : Nat) : (s.pwr f off v).mono = s.mono := rfl
@[simp] theorem State.pwr_free (s : State) (f off v : Nat) : (s.pwr f off v).free = s.free := rfl
@[simp] theorem State.pwr_out (s : State) (f off v : Nat) : (s.pwr f off v).out = s.out := rfl
@[simp] theorem State.pwr_straps (s : State) (f off v : Nat) : (s.pwr f off v).straps = s.straps := rfl
@[simp] theorem State.pwr_tim (s : State) (f off v : Nat) : (s.pwr f off v).tim = s.tim := rfl
@[simp] theorem State.pwr_tsu (s : State) (f off v : Nat) : (s.pwr f off v).tsu = s.tsu := rfl
@[simp] theorem State.pwr_log (s : State) (f off v : Nat) : (s.pwr f off v).log = s.log := rfl
@[simp] theorem State.pwr_fn (s : State) (f off v : Nat) : (s.pwr f off v).fn = s.fn := rfl
@[simp] theorem State.pwr_tl (s : State) (f off v : Nat) : (s.pwr f off v).tl = s.tl := rfl
@[simp] theorem State.pwr_sl (s : State) (f off v : Nat) : (s.pwr f off v).sl = s.sl := rfl
@[simp] theorem State.pwr_dp (s : State) (f off v : Nat) : (s.pwr f off v).dp = s.dp := rfl
@[simp] theorem State.pwr_boot (s : State) (f off v : Nat) : (s.pwr f off v).boot = s.boot := rfl
@[simp] theorem State.pwr_tfn (s : State) (f off v : Nat) : (s.pwr f off v).tfn = s.tfn := rfl
@[simp] theorem State.pwr_cip (s : State) (f off v : Nat) : (s.pwr f off v).cip = s.cip := rfl
@[simp] theorem State.pwr_mem (s : State) (f off v : Nat) : (s.pwr f off v).mem = s.mem := rfl
@[simp] theorem State.pwr_en (s : State) (f off v : Nat) : (s.pwr f off v).en = s.en := rfl
@[simp] theorem State.pwr_rpl (s : State) (f off v : Nat) : (s.pwr f off v).rpl = s.rpl := rfl
@[simp] theorem State.pwr_hp (s : State) (f off v : Nat) : (s.pwr f off v).hp = s.hp := rfl
@[simp] theorem State.pwr_svc (s : State) (f off v : Nat) : (s.pwr f off v).svc = s.svc := rfl
@[simp] theorem State.pwr_pw (s : State) (f off v : Nat) : (s.pwr f off v).pw = s.pw := rfl
@[simp] theorem State.pwr_dbg (s : State) (f off v : Nat) : (s.pwr f off v).dbg = s.dbg := rfl
@[simp] theorem State.pwr_quies (s : State) (f off v : Nat) : (s.pwr f off v).quies = s.quies := rfl
/-! `State.emit` -/
@[simp] theorem State.emit_pending (s : State) (o : Out) : (s.emit o).pending = s.pending := rfl
@[simp] theorem State.emit_regs (s : State) (o : Out) : (s.emit o).regs = s.regs := rfl
@[simp] theorem State.emit_act (s : State) (o : Out) : (s.emit o).act = s.act := rfl
@[simp] theorem State.emit_cnts (s : State) (o : Out) : (s.emit o).cnts = s.cnts := rfl
@[simp] theorem State.emit_latch (s : State) (o : Out) : (s.emit o).latch = s.latch := rfl
@[simp] theorem State.emit_pregs (s : State) (o : Out) : (s.emit o).pregs = s.pregs := rfl
@[simp] theorem State.emit_tb (s : State) (o : Out) : (s.emit o).tb = s.tb := rfl
@[simp] theorem State.emit_mono (s : State) (o : Out) : (s.emit o).mono = s.mono := rfl
@[simp] theorem State.emit_free (s : State) (o : Out) : (s.emit o).free = s.free := rfl
@[simp] theorem State.emit_out (s : State) (o : Out) : (s.emit o).out = o :: s.out := rfl
@[simp] theorem State.emit_straps (s : State) (o : Out) : (s.emit o).straps = s.straps := rfl
@[simp] theorem State.emit_tim (s : State) (o : Out) : (s.emit o).tim = s.tim := rfl
@[simp] theorem State.emit_tsu (s : State) (o : Out) : (s.emit o).tsu = s.tsu := rfl
@[simp] theorem State.emit_log (s : State) (o : Out) : (s.emit o).log = s.log := rfl
@[simp] theorem State.emit_fn (s : State) (o : Out) : (s.emit o).fn = s.fn := rfl
@[simp] theorem State.emit_tl (s : State) (o : Out) : (s.emit o).tl = s.tl := rfl
@[simp] theorem State.emit_sl (s : State) (o : Out) : (s.emit o).sl = s.sl := rfl
@[simp] theorem State.emit_dp (s : State) (o : Out) : (s.emit o).dp = s.dp := rfl
@[simp] theorem State.emit_boot (s : State) (o : Out) : (s.emit o).boot = s.boot := rfl
@[simp] theorem State.emit_tfn (s : State) (o : Out) : (s.emit o).tfn = s.tfn := rfl
@[simp] theorem State.emit_cip (s : State) (o : Out) : (s.emit o).cip = s.cip := rfl
@[simp] theorem State.emit_mem (s : State) (o : Out) : (s.emit o).mem = s.mem := rfl
@[simp] theorem State.emit_en (s : State) (o : Out) : (s.emit o).en = s.en := rfl
@[simp] theorem State.emit_rpl (s : State) (o : Out) : (s.emit o).rpl = s.rpl := rfl
@[simp] theorem State.emit_hp (s : State) (o : Out) : (s.emit o).hp = s.hp := rfl
@[simp] theorem State.emit_svc (s : State) (o : Out) : (s.emit o).svc = s.svc := rfl
@[simp] theorem State.emit_pw (s : State) (o : Out) : (s.emit o).pw = s.pw := rfl
@[simp] theorem State.emit_dbg (s : State) (o : Out) : (s.emit o).dbg = s.dbg := rfl
@[simp] theorem State.emit_quies (s : State) (o : Out) : (s.emit o).quies = s.quies := rfl
/-! `State.setTim` -/
@[simp] theorem State.setTim_pending (s : State) (g : TimSt → TimSt) : (s.setTim g).pending = s.pending := rfl
@[simp] theorem State.setTim_regs (s : State) (g : TimSt → TimSt) : (s.setTim g).regs = s.regs := rfl
@[simp] theorem State.setTim_act (s : State) (g : TimSt → TimSt) : (s.setTim g).act = s.act := rfl
@[simp] theorem State.setTim_cnts (s : State) (g : TimSt → TimSt) : (s.setTim g).cnts = s.cnts := rfl
@[simp] theorem State.setTim_latch (s : State) (g : TimSt → TimSt) : (s.setTim g).latch = s.latch := rfl
@[simp] theorem State.setTim_pregs (s : State) (g : TimSt → TimSt) : (s.setTim g).pregs = s.pregs := rfl
@[simp] theorem State.setTim_tb (s : State) (g : TimSt → TimSt) : (s.setTim g).tb = s.tb := rfl
@[simp] theorem State.setTim_mono (s : State) (g : TimSt → TimSt) : (s.setTim g).mono = s.mono := rfl
@[simp] theorem State.setTim_free (s : State) (g : TimSt → TimSt) : (s.setTim g).free = s.free := rfl
@[simp] theorem State.setTim_out (s : State) (g : TimSt → TimSt) : (s.setTim g).out = s.out := rfl
@[simp] theorem State.setTim_straps (s : State) (g : TimSt → TimSt) : (s.setTim g).straps = s.straps := rfl
@[simp] theorem State.setTim_tim (s : State) (g : TimSt → TimSt) : (s.setTim g).tim = g s.tim := rfl
@[simp] theorem State.setTim_tsu (s : State) (g : TimSt → TimSt) : (s.setTim g).tsu = s.tsu := rfl
@[simp] theorem State.setTim_log (s : State) (g : TimSt → TimSt) : (s.setTim g).log = s.log := rfl
@[simp] theorem State.setTim_fn (s : State) (g : TimSt → TimSt) : (s.setTim g).fn = s.fn := rfl
@[simp] theorem State.setTim_tl (s : State) (g : TimSt → TimSt) : (s.setTim g).tl = s.tl := rfl
@[simp] theorem State.setTim_sl (s : State) (g : TimSt → TimSt) : (s.setTim g).sl = s.sl := rfl
@[simp] theorem State.setTim_dp (s : State) (g : TimSt → TimSt) : (s.setTim g).dp = s.dp := rfl
@[simp] theorem State.setTim_boot (s : State) (g : TimSt → TimSt) : (s.setTim g).boot = s.boot := rfl
@[simp] theorem State.setTim_tfn (s : State) (g : TimSt → TimSt) : (s.setTim g).tfn = s.tfn := rfl
@[simp] theorem State.setTim_cip (s : State) (g : TimSt → TimSt) : (s.setTim g).cip = s.cip := rfl
@[simp] theorem State.setTim_mem (s : State) (g : TimSt → TimSt) : (s.setTim g).mem = s.mem := rfl
@[simp] theorem State.setTim_en (s : State) (g : TimSt → TimSt) : (s.setTim g).en = s.en := rfl
@[simp] theorem State.setTim_rpl (s : State) (g : TimSt → TimSt) : (s.setTim g).rpl = s.rpl := rfl
@[simp] theorem State.setTim_hp (s : State) (g : TimSt → TimSt) : (s.setTim g).hp = s.hp := rfl
@[simp] theorem State.setTim_svc (s : State) (g : TimSt → TimSt) : (s.setTim g).svc = s.svc := rfl
@[simp] theorem State.setTim_pw (s : State) (g : TimSt → TimSt) : (s.setTim g).pw = s.pw := rfl
@[simp] theorem State.setTim_dbg (s : State) (g : TimSt → TimSt) : (s.setTim g).dbg = s.dbg := rfl
@[simp] theorem State.setTim_quies (s : State) (g : TimSt → TimSt) : (s.setTim g).quies = s.quies := rfl
/-! `State.setTl` -/
@[simp] theorem State.setTl_pending (s : State) (g : TailSt → TailSt) : (s.setTl g).pending = s.pending := rfl
@[simp] theorem State.setTl_regs (s : State) (g : TailSt → TailSt) : (s.setTl g).regs = s.regs := rfl
@[simp] theorem State.setTl_act (s : State) (g : TailSt → TailSt) : (s.setTl g).act = s.act := rfl
@[simp] theorem State.setTl_cnts (s : State) (g : TailSt → TailSt) : (s.setTl g).cnts = s.cnts := rfl
@[simp] theorem State.setTl_latch (s : State) (g : TailSt → TailSt) : (s.setTl g).latch = s.latch := rfl
@[simp] theorem State.setTl_pregs (s : State) (g : TailSt → TailSt) : (s.setTl g).pregs = s.pregs := rfl
@[simp] theorem State.setTl_tb (s : State) (g : TailSt → TailSt) : (s.setTl g).tb = s.tb := rfl
@[simp] theorem State.setTl_mono (s : State) (g : TailSt → TailSt) : (s.setTl g).mono = s.mono := rfl
@[simp] theorem State.setTl_free (s : State) (g : TailSt → TailSt) : (s.setTl g).free = s.free := rfl
@[simp] theorem State.setTl_out (s : State) (g : TailSt → TailSt) : (s.setTl g).out = s.out := rfl
@[simp] theorem State.setTl_straps (s : State) (g : TailSt → TailSt) : (s.setTl g).straps = s.straps := rfl
@[simp] theorem State.setTl_tim (s : State) (g : TailSt → TailSt) : (s.setTl g).tim = s.tim := rfl
@[simp] theorem State.setTl_tsu (s : State) (g : TailSt → TailSt) : (s.setTl g).tsu = s.tsu := rfl
@[simp] theorem State.setTl_log (s : State) (g : TailSt → TailSt) : (s.setTl g).log = s.log := rfl
@[simp] theorem State.setTl_fn (s : State) (g : TailSt → TailSt) : (s.setTl g).fn = s.fn := rfl
@[simp] theorem State.setTl_tl (s : State) (g : TailSt → TailSt) : (s.setTl g).tl = g s.tl := rfl
@[simp] theorem State.setTl_sl (s : State) (g : TailSt → TailSt) : (s.setTl g).sl = s.sl := rfl
@[simp] theorem State.setTl_dp (s : State) (g : TailSt → TailSt) : (s.setTl g).dp = s.dp := rfl
@[simp] theorem State.setTl_boot (s : State) (g : TailSt → TailSt) : (s.setTl g).boot = s.boot := rfl
@[simp] theorem State.setTl_tfn (s : State) (g : TailSt → TailSt) : (s.setTl g).tfn = s.tfn := rfl
@[simp] theorem State.setTl_cip (s : State) (g : TailSt → TailSt) : (s.setTl g).cip = s.cip := rfl
@[simp] theorem State.setTl_mem (s : State) (g : TailSt → TailSt) : (s.setTl g).mem = s.mem := rfl
@[simp] theorem State.setTl_en (s : State) (g : TailSt → TailSt) : (s.setTl g).en = s.en := rfl
@[simp] theorem State.setTl_rpl (s : State) (g : TailSt → TailSt) : (s.setTl g).rpl = s.rpl := rfl
@[simp] theorem State.setTl_hp (s : State) (g : TailSt → TailSt) : (s.setTl g).hp = s.hp := rfl
@[simp] theorem State.setTl_svc (s : State) (g : TailSt → TailSt) : (s.setTl g).svc = s.svc := rfl
@[simp] theorem State.setTl_pw (s : State) (g : TailSt → TailSt) : (s.setTl g).pw = s.pw := rfl
@[simp] theorem State.setTl_dbg (s : State) (g : TailSt → TailSt) : (s.setTl g).dbg = s.dbg := rfl
@[simp] theorem State.setTl_quies (s : State) (g : TailSt → TailSt) : (s.setTl g).quies = s.quies := rfl
/-! `State.setSl` -/
@[simp] theorem State.setSl_pending (s : State) (g : StrSt → StrSt) : (s.setSl g).pending = s.pending := rfl
@[simp] theorem State.setSl_regs (s : State) (g : StrSt → StrSt) : (s.setSl g).regs = s.regs := rfl
@[simp] theorem State.setSl_act (s : State) (g : StrSt → StrSt) : (s.setSl g).act = s.act := rfl
@[simp] theorem State.setSl_cnts (s : State) (g : StrSt → StrSt) : (s.setSl g).cnts = s.cnts := rfl
@[simp] theorem State.setSl_latch (s : State) (g : StrSt → StrSt) : (s.setSl g).latch = s.latch := rfl
@[simp] theorem State.setSl_pregs (s : State) (g : StrSt → StrSt) : (s.setSl g).pregs = s.pregs := rfl
@[simp] theorem State.setSl_tb (s : State) (g : StrSt → StrSt) : (s.setSl g).tb = s.tb := rfl
@[simp] theorem State.setSl_mono (s : State) (g : StrSt → StrSt) : (s.setSl g).mono = s.mono := rfl
@[simp] theorem State.setSl_free (s : State) (g : StrSt → StrSt) : (s.setSl g).free = s.free := rfl
@[simp] theorem State.setSl_out (s : State) (g : StrSt → StrSt) : (s.setSl g).out = s.out := rfl
@[simp] theorem State.setSl_straps (s : State) (g : StrSt → StrSt) : (s.setSl g).straps = s.straps := rfl
@[simp] theorem State.setSl_tim (s : State) (g : StrSt → StrSt) : (s.setSl g).tim = s.tim := rfl
@[simp] theorem State.setSl_tsu (s : State) (g : StrSt → StrSt) : (s.setSl g).tsu = s.tsu := rfl
@[simp] theorem State.setSl_log (s : State) (g : StrSt → StrSt) : (s.setSl g).log = s.log := rfl
@[simp] theorem State.setSl_fn (s : State) (g : StrSt → StrSt) : (s.setSl g).fn = s.fn := rfl
@[simp] theorem State.setSl_tl (s : State) (g : StrSt → StrSt) : (s.setSl g).tl = s.tl := rfl
@[simp] theorem State.setSl_sl (s : State) (g : StrSt → StrSt) : (s.setSl g).sl = g s.sl := rfl
@[simp] theorem State.setSl_dp (s : State) (g : StrSt → StrSt) : (s.setSl g).dp = s.dp := rfl
@[simp] theorem State.setSl_boot (s : State) (g : StrSt → StrSt) : (s.setSl g).boot = s.boot := rfl
@[simp] theorem State.setSl_tfn (s : State) (g : StrSt → StrSt) : (s.setSl g).tfn = s.tfn := rfl
@[simp] theorem State.setSl_cip (s : State) (g : StrSt → StrSt) : (s.setSl g).cip = s.cip := rfl
@[simp] theorem State.setSl_mem (s : State) (g : StrSt → StrSt) : (s.setSl g).mem = s.mem := rfl
@[simp] theorem State.setSl_en (s : State) (g : StrSt → StrSt) : (s.setSl g).en = s.en := rfl
@[simp] theorem State.setSl_rpl (s : State) (g : StrSt → StrSt) : (s.setSl g).rpl = s.rpl := rfl
@[simp] theorem State.setSl_hp (s : State) (g : StrSt → StrSt) : (s.setSl g).hp = s.hp := rfl
@[simp] theorem State.setSl_svc (s : State) (g : StrSt → StrSt) : (s.setSl g).svc = s.svc := rfl
@[simp] theorem State.setSl_pw (s : State) (g : StrSt → StrSt) : (s.setSl g).pw = s.pw := rfl
@[simp] theorem State.setSl_dbg (s : State) (g : StrSt → StrSt) : (s.setSl g).dbg = s.dbg := rfl
@[simp] theorem State.setSl_quies (s : State) (g : StrSt → StrSt) : (s.setSl g).quies = s.quies := rfl
/-! `State.setDp` -/
@[simp] theorem State.setDp_pending (s : State) (g : DataSt → DataSt) : (s.setDp g).pending = s.pending := rfl
@[simp] theorem State.setDp_regs (s : State) (g : DataSt → DataSt) : (s.setDp g).regs = s.regs := rfl
@[simp] theorem State.setDp_act (s : State) (g : DataSt → DataSt) : (s.setDp g).act = s.act := rfl
@[simp] theorem State.setDp_cnts (s : State) (g : DataSt → DataSt) : (s.setDp g).cnts = s.cnts := rfl
@[simp] theorem State.setDp_latch (s : State) (g : DataSt → DataSt) : (s.setDp g).latch = s.latch := rfl
@[simp] theorem State.setDp_pregs (s : State) (g : DataSt → DataSt) : (s.setDp g).pregs = s.pregs := rfl
@[simp] theorem State.setDp_tb (s : State) (g : DataSt → DataSt) : (s.setDp g).tb = s.tb := rfl
@[simp] theorem State.setDp_mono (s : State) (g : DataSt → DataSt) : (s.setDp g).mono = s.mono := rfl
@[simp] theorem State.setDp_free (s : State) (g : DataSt → DataSt) : (s.setDp g).free = s.free := rfl
@[simp] theorem State.setDp_out (s : State) (g : DataSt → DataSt) : (s.setDp g).out = s.out := rfl
@[simp] theorem State.setDp_straps (s : State) (g : DataSt → DataSt) : (s.setDp g).straps = s.straps := rfl
@[simp] theorem State.setDp_tim (s : State) (g : DataSt → DataSt) : (s.setDp g).tim = s.tim := rfl
@[simp] theorem State.setDp_tsu (s : State) (g : DataSt → DataSt) : (s.setDp g).tsu = s.tsu := rfl
@[simp] theorem State.setDp_log (s : State) (g : DataSt → DataSt) : (s.setDp g).log = s.log := rfl
@[simp] theorem State.setDp_fn (s : State) (g : DataSt → DataSt) : (s.setDp g).fn = s.fn := rfl
@[simp] theorem State.setDp_tl (s : State) (g : DataSt → DataSt) : (s.setDp g).tl = s.tl := rfl
@[simp] theorem State.setDp_sl (s : State) (g : DataSt → DataSt) : (s.setDp g).sl = s.sl := rfl
@[simp] theorem State.setDp_dp (s : State) (g : DataSt → DataSt) : (s.setDp g).dp = g s.dp := rfl
@[simp] theorem State.setDp_boot (s : State) (g : DataSt → DataSt) : (s.setDp g).boot = s.boot := rfl
@[simp] theorem State.setDp_tfn (s : State) (g : DataSt → DataSt) : (s.setDp g).tfn = s.tfn := rfl
@[simp] theorem State.setDp_cip (s : State) (g : DataSt → DataSt) : (s.setDp g).cip = s.cip := rfl
@[simp] theorem State.setDp_mem (s : State) (g : DataSt → DataSt) : (s.setDp g).mem = s.mem := rfl
@[simp] theorem State.setDp_en (s : State) (g : DataSt → DataSt) : (s.setDp g).en = s.en := rfl
@[simp] theorem State.setDp_rpl (s : State) (g : DataSt → DataSt) : (s.setDp g).rpl = s.rpl := rfl
@[simp] theorem State.setDp_hp (s : State) (g : DataSt → DataSt) : (s.setDp g).hp = s.hp := rfl
@[simp] theorem State.setDp_svc (s : State) (g : DataSt → DataSt) : (s.setDp g).svc = s.svc := rfl
@[simp] theorem State.setDp_pw (s : State) (g : DataSt → DataSt) : (s.setDp g).pw = s.pw := rfl
@[simp] theorem State.setDp_dbg (s : State) (g : DataSt → DataSt) : (s.setDp g).dbg = s.dbg := rfl
@[simp] theorem State.setDp_quies (s : State) (g : DataSt → DataSt) : (s.setDp g).quies = s.quies := rfl
/-! `State.setPw` -/
@[simp] theorem State.setPw_pending (s : State) (g : PwrSt → PwrSt) : (s.setPw g).pending = s.pending := rfl
@[simp] theorem State.setPw_regs (s : State) (g : PwrSt → PwrSt) : (s.setPw g).regs = s.regs := rfl
@[simp] theorem State.setPw_act (s : State) (g : PwrSt → PwrSt) : (s.setPw g).act = s.act := rfl
@[simp] theorem State.setPw_cnts (s : State) (g : PwrSt → PwrSt) : (s.setPw g).cnts = s.cnts := rfl
@[simp] theorem State.setPw_latch (s : State) (g : PwrSt → PwrSt) : (s.setPw g).latch = s.latch := rfl
@[simp] theorem State.setPw_pregs (s : State) (g : PwrSt → PwrSt) : (s.setPw g).pregs = s.pregs := rfl
@[simp] theorem State.setPw_tb (s : State) (g : PwrSt → PwrSt) : (s.setPw g).tb = s.tb := rfl
@[simp] theorem State.setPw_mono (s : State) (g : PwrSt → PwrSt) : (s.setPw g).mono = s.mono := rfl
@[simp] theorem State.setPw_free (s : State) (g : PwrSt → PwrSt) : (s.setPw g).free = s.free := rfl
@[simp] theorem State.setPw_out (s : State) (g : PwrSt → PwrSt) : (s.setPw g).out = s.out := rfl
@[simp] theorem State.setPw_straps (s : State) (g : PwrSt → PwrSt) : (s.setPw g).straps = s.straps := rfl
@[simp] theorem State.setPw_tim (s : State) (g : PwrSt → PwrSt) : (s.setPw g).tim = s.tim := rfl
@[simp] theorem State.setPw_tsu (s : State) (g : PwrSt → PwrSt) : (s.setPw g).tsu = s.tsu := rfl
@[simp] theorem State.setPw_log (s : State) (g : PwrSt → PwrSt) : (s.setPw g).log = s.log := rfl
@[simp] theorem State.setPw_fn (s : State) (g : PwrSt → PwrSt) : (s.setPw g).fn = s.fn := rfl
@[simp] theorem State.setPw_tl (s : State) (g : PwrSt → PwrSt) : (s.setPw g).tl = s.tl := rfl
@[simp] theorem State.setPw_sl (s : State) (g : PwrSt → PwrSt) : (s.setPw g).sl = s.sl := rfl
@[simp] theorem State.setPw_dp (s : State) (g : PwrSt → PwrSt) : (s.setPw g).dp = s.dp := rfl
@[simp] theorem State.setPw_boot (s : State) (g : PwrSt → PwrSt) : (s.setPw g).boot = s.boot := rfl
@[simp] theorem State.setPw_tfn (s : State) (g : PwrSt → PwrSt) : (s.setPw g).tfn = s.tfn := rfl
@[simp] theorem State.setPw_cip (s : State) (g : PwrSt → PwrSt) : (s.setPw g).cip = s.cip := rfl
@[simp] theorem State.setPw_mem (s : State) (g : PwrSt → PwrSt) : (s.setPw g).mem = s.mem := rfl
@[simp] theorem State.setPw_en (s : State) (g : PwrSt → PwrSt) : (s.setPw g).en = s.en := rfl
@[simp] theorem State.setPw_rpl (s : State) (g : PwrSt → PwrSt) : (s.setPw g).rpl = s.rpl := rfl
@[simp] theorem State.setPw_hp (s : State) (g : PwrSt → PwrSt) : (s.setPw g).hp = s.hp := rfl
@[simp] theorem State.setPw_svc (s : State) (g : PwrSt → PwrSt) : (s.setPw g).svc = s.svc := rfl
@[simp] theorem State.setPw_pw (s : State) (g : PwrSt → PwrSt) : (s.setPw g).pw = g s.pw := rfl
@[simp] theorem State.setPw_dbg (s : State) (g : PwrSt → PwrSt) : (s.setPw g).dbg = s.dbg := rfl
@[simp] theorem State.setPw_quies (s : State) (g : PwrSt → PwrSt) : (s.setPw g).quies = s.quies := rfl
/-! `State.setBoot` -/
@[simp] theorem State.setBoot_pending (s : State) (g : BootSt → BootSt) : (s.setBoot g).pending = s.pending := rfl
@[simp] theorem State.setBoot_regs (s : State) (g : BootSt → BootSt) : (s.setBoot g).regs = s.regs := rfl
@[simp] theorem State.setBoot_act (s : State) (g : BootSt → BootSt) : (s.setBoot g).act = s.act := rfl
@[simp] theorem State.setBoot_cnts (s : State) (g : BootSt → BootSt) : (s.setBoot g).cnts = s.cnts := rfl
@[simp] theorem State.setBoot_latch (s : State) (g : BootSt → BootSt) : (s.setBoot g).latch = s.latch := rfl
@[simp] theorem State.setBoot_pregs (s : State) (g : BootSt → BootSt) : (s.setBoot g).pregs = s.pregs := rfl
@[simp] theorem State.setBoot_tb (s : State) (g : BootSt → BootSt) : (s.setBoot g).tb = s.tb := rfl
@[simp] theorem State.setBoot_mono (s : State) (g : BootSt → BootSt) : (s.setBoot g).mono = s.mono := rfl
@[simp] theorem State.setBoot_free (s : State) (g : BootSt → BootSt) : (s.setBoot g).free = s.free := rfl
@[simp] theorem State.setBoot_out (s : State) (g : BootSt → BootSt) : (s.setBoot g).out = s.out := rfl
@[simp] theorem State.setBoot_straps (s : State) (g : BootSt → BootSt) : (s.setBoot g).straps = s.straps := rfl
@[simp] theorem State.setBoot_tim (s : State) (g : BootSt → BootSt) : (s.setBoot g).tim = s.tim := rfl
@[simp] theorem State.setBoot_tsu (s : State) (g : BootSt → BootSt) : (s.setBoot g).tsu = s.tsu := rfl
@[simp] theorem State.setBoot_log (s : State) (g : BootSt → BootSt) : (s.setBoot g).log = s.log := rfl
@[simp] theorem State.setBoot_fn (s : State) (g : BootSt → BootSt) : (s.setBoot g).fn = s.fn := rfl
@[simp] theorem State.setBoot_tl (s : State) (g : BootSt → BootSt) : (s.setBoot g).tl = s.tl := rfl
@[simp] theorem State.setBoot_sl (s : State) (g : BootSt → BootSt) : (s.setBoot g).sl = s.sl := rfl
@[simp] theorem State.setBoot_dp (s : State) (g : BootSt → BootSt) : (s.setBoot g).dp = s.dp := rfl
@[simp] theorem State.setBoot_boot (s : State) (g : BootSt → BootSt) : (s.setBoot g).boot = g s.boot := rfl
@[simp] theorem State.setBoot_tfn (s : State) (g : BootSt → BootSt) : (s.setBoot g).tfn = s.tfn := rfl
@[simp] theorem State.setBoot_cip (s : State) (g : BootSt → BootSt) : (s.setBoot g).cip = s.cip := rfl
@[simp] theorem State.setBoot_mem (s : State) (g : BootSt → BootSt) : (s.setBoot g).mem = s.mem := rfl
@[simp] theorem State.setBoot_en (s : State) (g : BootSt → BootSt) : (s.setBoot g).en = s.en := rfl
@[simp] theorem State.setBoot_rpl (s : State) (g : BootSt → BootSt) : (s.setBoot g).rpl = s.rpl := rfl
@[simp] theorem State.setBoot_hp (s : State) (g : BootSt → BootSt) : (s.setBoot g).hp = s.hp := rfl
@[simp] theorem State.setBoot_svc (s : State) (g : BootSt → BootSt) : (s.setBoot g).svc = s.svc := rfl
@[simp] theorem State.setBoot_pw (s : State) (g : BootSt → BootSt) : (s.setBoot g).pw = s.pw := rfl
@[simp] theorem State.setBoot_dbg (s : State) (g : BootSt → BootSt) : (s.setBoot g).dbg = s.dbg := rfl
@[simp] theorem State.setBoot_quies (s : State) (g : BootSt → BootSt) : (s.setBoot g).quies = s.quies := rfl
/-! `State.setCip` -/
@[simp] theorem State.setCip_pending (s : State) (g : CipSt → CipSt) : (s.setCip g).pending = s.pending := rfl
@[simp] theorem State.setCip_regs (s : State) (g : CipSt → CipSt) : (s.setCip g).regs = s.regs := rfl
@[simp] theorem State.setCip_act (s : State) (g : CipSt → CipSt) : (s.setCip g).act = s.act := rfl
@[simp] theorem State.setCip_cnts (s : State) (g : CipSt → CipSt) : (s.setCip g).cnts = s.cnts := rfl
@[simp] theorem State.setCip_latch (s : State) (g : CipSt → CipSt) : (s.setCip g).latch = s.latch := rfl
@[simp] theorem State.setCip_pregs (s : State) (g : CipSt → CipSt) : (s.setCip g).pregs = s.pregs := rfl
@[simp] theorem State.setCip_tb (s : State) (g : CipSt → CipSt) : (s.setCip g).tb = s.tb := rfl
@[simp] theorem State.setCip_mono (s : State) (g : CipSt → CipSt) : (s.setCip g).mono = s.mono := rfl
@[simp] theorem State.setCip_free (s : State) (g : CipSt → CipSt) : (s.setCip g).free = s.free := rfl
@[simp] theorem State.setCip_out (s : State) (g : CipSt → CipSt) : (s.setCip g).out = s.out := rfl
@[simp] theorem State.setCip_straps (s : State) (g : CipSt → CipSt) : (s.setCip g).straps = s.straps := rfl
@[simp] theorem State.setCip_tim (s : State) (g : CipSt → CipSt) : (s.setCip g).tim = s.tim := rfl
@[simp] theorem State.setCip_tsu (s : State) (g : CipSt → CipSt) : (s.setCip g).tsu = s.tsu := rfl
@[simp] theorem State.setCip_log (s : State) (g : CipSt → CipSt) : (s.setCip g).log = s.log := rfl
@[simp] theorem State.setCip_fn (s : State) (g : CipSt → CipSt) : (s.setCip g).fn = s.fn := rfl
@[simp] theorem State.setCip_tl (s : State) (g : CipSt → CipSt) : (s.setCip g).tl = s.tl := rfl
@[simp] theorem State.setCip_sl (s : State) (g : CipSt → CipSt) : (s.setCip g).sl = s.sl := rfl
@[simp] theorem State.setCip_dp (s : State) (g : CipSt → CipSt) : (s.setCip g).dp = s.dp := rfl
@[simp] theorem State.setCip_boot (s : State) (g : CipSt → CipSt) : (s.setCip g).boot = s.boot := rfl
@[simp] theorem State.setCip_tfn (s : State) (g : CipSt → CipSt) : (s.setCip g).tfn = s.tfn := rfl
@[simp] theorem State.setCip_cip (s : State) (g : CipSt → CipSt) : (s.setCip g).cip = g s.cip := rfl
@[simp] theorem State.setCip_mem (s : State) (g : CipSt → CipSt) : (s.setCip g).mem = s.mem := rfl
@[simp] theorem State.setCip_en (s : State) (g : CipSt → CipSt) : (s.setCip g).en = s.en := rfl
@[simp] theorem State.setCip_rpl (s : State) (g : CipSt → CipSt) : (s.setCip g).rpl = s.rpl := rfl
@[simp] theorem State.setCip_hp (s : State) (g : CipSt → CipSt) : (s.setCip g).hp = s.hp := rfl
@[simp] theorem State.setCip_svc (s : State) (g : CipSt → CipSt) : (s.setCip g).svc = s.svc := rfl
@[simp] theorem State.setCip_pw (s : State) (g : CipSt → CipSt) : (s.setCip g).pw = s.pw := rfl
@[simp] theorem State.setCip_dbg (s : State) (g : CipSt → CipSt) : (s.setCip g).dbg = s.dbg := rfl
@[simp] theorem State.setCip_quies (s : State) (g : CipSt → CipSt) : (s.setCip g).quies = s.quies := rfl
/-! `State.setTfn` -/
@[simp] theorem State.setTfn_pending (s : State) (g : TfnSt → TfnSt) : (s.setTfn g).pending = s.pending := rfl
@[simp] theorem State.setTfn_regs (s : State) (g : TfnSt → TfnSt) : (s.setTfn g).regs = s.regs := rfl
@[simp] theorem State.setTfn_act (s : State) (g : TfnSt → TfnSt) : (s.setTfn g).act = s.act := rfl
@[simp] theorem State.setTfn_cnts (s : State) (g : TfnSt → TfnSt) : (s.setTfn g).cnts = s.cnts := rfl
@[simp] theorem State.setTfn_latch (s : State) (g : TfnSt → TfnSt) : (s.setTfn g).latch = s.latch := rfl
@[simp] theorem State.setTfn_pregs (s : State) (g : TfnSt → TfnSt) : (s.setTfn g).pregs = s.pregs := rfl
@[simp] theorem State.setTfn_tb (s : State) (g : TfnSt → TfnSt) : (s.setTfn g).tb = s.tb := rfl
@[simp] theorem State.setTfn_mono (s : State) (g : TfnSt → TfnSt) : (s.setTfn g).mono = s.mono := rfl
@[simp] theorem State.setTfn_free (s : State) (g : TfnSt → TfnSt) : (s.setTfn g).free = s.free := rfl
@[simp] theorem State.setTfn_out (s : State) (g : TfnSt → TfnSt) : (s.setTfn g).out = s.out := rfl
@[simp] theorem State.setTfn_straps (s : State) (g : TfnSt → TfnSt) : (s.setTfn g).straps = s.straps := rfl
@[simp] theorem State.setTfn_tim (s : State) (g : TfnSt → TfnSt) : (s.setTfn g).tim = s.tim := rfl
@[simp] theorem State.setTfn_tsu (s : State) (g : TfnSt → TfnSt) : (s.setTfn g).tsu = s.tsu := rfl
@[simp] theorem State.setTfn_log (s : State) (g : TfnSt → TfnSt) : (s.setTfn g).log = s.log := rfl
@[simp] theorem State.setTfn_fn (s : State) (g : TfnSt → TfnSt) : (s.setTfn g).fn = s.fn := rfl
@[simp] theorem State.setTfn_tl (s : State) (g : TfnSt → TfnSt) : (s.setTfn g).tl = s.tl := rfl
@[simp] theorem State.setTfn_sl (s : State) (g : TfnSt → TfnSt) : (s.setTfn g).sl = s.sl := rfl
@[simp] theorem State.setTfn_dp (s : State) (g : TfnSt → TfnSt) : (s.setTfn g).dp = s.dp := rfl
@[simp] theorem State.setTfn_boot (s : State) (g : TfnSt → TfnSt) : (s.setTfn g).boot = s.boot := rfl
@[simp] theorem State.setTfn_tfn (s : State) (g : TfnSt → TfnSt) : (s.setTfn g).tfn = g s.tfn := rfl
@[simp] theorem State.setTfn_cip (s : State) (g : TfnSt → TfnSt) : (s.setTfn g).cip = s.cip := rfl
@[simp] theorem State.setTfn_mem (s : State) (g : TfnSt → TfnSt) : (s.setTfn g).mem = s.mem := rfl
@[simp] theorem State.setTfn_en (s : State) (g : TfnSt → TfnSt) : (s.setTfn g).en = s.en := rfl
@[simp] theorem State.setTfn_rpl (s : State) (g : TfnSt → TfnSt) : (s.setTfn g).rpl = s.rpl := rfl
@[simp] theorem State.setTfn_hp (s : State) (g : TfnSt → TfnSt) : (s.setTfn g).hp = s.hp := rfl
@[simp] theorem State.setTfn_svc (s : State) (g : TfnSt → TfnSt) : (s.setTfn g).svc = s.svc := rfl
@[simp] theorem State.setTfn_pw (s : State) (g : TfnSt → TfnSt) : (s.setTfn g).pw = s.pw := rfl
@[simp] theorem State.setTfn_dbg (s : State) (g : TfnSt → TfnSt) : (s.setTfn g).dbg = s.dbg := rfl
@[simp] theorem State.setTfn_quies (s : State) (g : TfnSt → TfnSt) : (s.setTfn g).quies = s.quies := rfl
/-! `State.setSvc` -/
@[simp] theorem State.setSvc_pending (s : State) (g : SvcSt → SvcSt) : (s.setSvc g).pending = s.pending := rfl
@[simp] theorem State.setSvc_regs (s : State) (g : SvcSt → SvcSt) : (s.setSvc g).regs = s.regs := rfl
@[simp] theorem State.setSvc_act (s : State) (g : SvcSt → SvcSt) : (s.setSvc g).act = s.act := rfl
@[simp] theorem State.setSvc_cnts (s : State) (g : SvcSt → SvcSt) : (s.setSvc g).cnts = s.cnts := rfl
@[simp] theorem State.setSvc_latch (s : State) (g : SvcSt → SvcSt) : (s.setSvc g).latch = s.latch := rfl
@[simp] theorem State.setSvc_pregs (s : State) (g : SvcSt → SvcSt) : (s.setSvc g).pregs = s.pregs := rfl
@[simp] theorem State.setSvc_tb (s : State) (g : SvcSt → SvcSt) : (s.setSvc g).tb = s.tb := rfl
@[simp] theorem State.setSvc_mono (s : State) (g : SvcSt → SvcSt) : (s.setSvc g).mono = s.mono := rfl
@[simp] theorem State.setSvc_free (s : State) (g : SvcSt → SvcSt) : (s.setSvc g).free = s.free := rfl
@[simp] theorem State.setSvc_out (s : State) (g : SvcSt → SvcSt) : (s.setSvc g).out = s.out := rfl
@[simp] theorem State.setSvc_straps (s : State) (g : SvcSt → SvcSt) : (s.setSvc g).straps = s.straps := rfl
@[simp] theorem State.setSvc_tim (s : State) (g : SvcSt → SvcSt) : (s.setSvc g).tim = s.tim := rfl
@[simp] theorem State.setSvc_tsu (s : State) (g : SvcSt → SvcSt) : (s.setSvc g).tsu = s.tsu := rfl
@[simp] theorem State.setSvc_log (s : State) (g : SvcSt → SvcSt) : (s.setSvc g).log = s.log := rfl
@[simp] theorem State.setSvc_fn (s : State) (g : SvcSt → SvcSt) : (s.setSvc g).fn = s.fn := rfl
@[simp] theorem State.setSvc_tl (s : State) (g : SvcSt → SvcSt) : (s.setSvc g).tl = s.tl := rfl
@[simp] theorem State.setSvc_sl (s : State) (g : SvcSt → SvcSt) : (s.setSvc g).sl = s.sl := rfl
@[simp] theorem State.setSvc_dp (s : State) (g : SvcSt → SvcSt) : (s.setSvc g).dp = s.dp := rfl
@[simp] theorem State.setSvc_boot (s : State) (g : SvcSt → SvcSt) : (s.setSvc g).boot = s.boot := rfl
@[simp] theorem State.setSvc_tfn (s : State) (g : SvcSt → SvcSt) : (s.setSvc g).tfn = s.tfn := rfl
@[simp] theorem State.setSvc_cip (s : State) (g : SvcSt → SvcSt) : (s.setSvc g).cip = s.cip := rfl
@[simp] theorem State.setSvc_mem (s : State) (g : SvcSt → SvcSt) : (s.setSvc g).mem = s.mem := rfl
@[simp] theorem State.setSvc_en (s : State) (g : SvcSt → SvcSt) : (s.setSvc g).en = s.en := rfl
@[simp] theorem State.setSvc_rpl (s : State) (g : SvcSt → SvcSt) : (s.setSvc g).rpl = s.rpl := rfl
@[simp] theorem State.setSvc_hp (s : State) (g : SvcSt → SvcSt) : (s.setSvc g).hp = s.hp := rfl
@[simp] theorem State.setSvc_svc (s : State) (g : SvcSt → SvcSt) : (s.setSvc g).svc = g s.svc := rfl
@[simp] theorem State.setSvc_pw (s : State) (g : SvcSt → SvcSt) : (s.setSvc g).pw = s.pw := rfl
@[simp] theorem State.setSvc_dbg (s : State) (g : SvcSt → SvcSt) : (s.setSvc g).dbg = s.dbg := rfl
@[simp] theorem State.setSvc_quies (s : State) (g : SvcSt → SvcSt) : (s.setSvc g).quies = s.quies := rfl
/-! `State.setDbg` -/
@[simp] theorem State.setDbg_pending (s : State) (g : DbgSt → DbgSt) : (s.setDbg g).pending = s.pending := rfl
@[simp] theorem State.setDbg_regs (s : State) (g : DbgSt → DbgSt) : (s.setDbg g).regs = s.regs := rfl
@[simp] theorem State.setDbg_act (s : State) (g : DbgSt → DbgSt) : (s.setDbg g).act = s.act := rfl
@[simp] theorem State.setDbg_cnts (s : State) (g : DbgSt → DbgSt) : (s.setDbg g).cnts = s.cnts := rfl
@[simp] theorem State.setDbg_latch (s : State) (g : DbgSt → DbgSt) : (s.setDbg g).latch = s.latch := rfl
@[simp] theorem State.setDbg_pregs (s : State) (g : DbgSt → DbgSt) : (s.setDbg g).pregs = s.pregs := rfl
@[simp] theorem State.setDbg_tb (s : State) (g : DbgSt → DbgSt) : (s.setDbg g).tb = s.tb := rfl
@[simp] theorem State.setDbg_mono (s : State) (g : DbgSt → DbgSt) : (s.setDbg g).mono = s.mono := rfl
@[simp] theorem State.setDbg_free (s : State) (g : DbgSt → DbgSt) : (s.setDbg g).free = s.free := rfl
@[simp] theorem State.setDbg_out (s : State) (g : DbgSt → DbgSt) : (s.setDbg g).out = s.out := rfl
@[simp] theorem State.setDbg_straps (s : State) (g : DbgSt → DbgSt) : (s.setDbg g).straps = s.straps := rfl
@[simp] theorem State.setDbg_tim (s : State) (g : DbgSt → DbgSt) : (s.setDbg g).tim = s.tim := rfl
@[simp] theorem State.setDbg_tsu (s : State) (g : DbgSt → DbgSt) : (s.setDbg g).tsu = s.tsu := rfl
@[simp] theorem State.setDbg_log (s : State) (g : DbgSt → DbgSt) : (s.setDbg g).log = s.log := rfl
@[simp] theorem State.setDbg_fn (s : State) (g : DbgSt → DbgSt) : (s.setDbg g).fn = s.fn := rfl
@[simp] theorem State.setDbg_tl (s : State) (g : DbgSt → DbgSt) : (s.setDbg g).tl = s.tl := rfl
@[simp] theorem State.setDbg_sl (s : State) (g : DbgSt → DbgSt) : (s.setDbg g).sl = s.sl := rfl
@[simp] theorem State.setDbg_dp (s : State) (g : DbgSt → DbgSt) : (s.setDbg g).dp = s.dp := rfl
@[simp] theorem State.setDbg_boot (s : State) (g : DbgSt → DbgSt) : (s.setDbg g).boot = s.boot := rfl
@[simp] theorem State.setDbg_tfn (s : State) (g : DbgSt → DbgSt) : (s.setDbg g).tfn = s.tfn := rfl
@[simp] theorem State.setDbg_cip (s : State) (g : DbgSt → DbgSt) : (s.setDbg g).cip = s.cip := rfl
@[simp] theorem State.setDbg_mem (s : State) (g : DbgSt → DbgSt) : (s.setDbg g).mem = s.mem := rfl
@[simp] theorem State.setDbg_en (s : State) (g : DbgSt → DbgSt) : (s.setDbg g).en = s.en := rfl
@[simp] theorem State.setDbg_rpl (s : State) (g : DbgSt → DbgSt) : (s.setDbg g).rpl = s.rpl := rfl
@[simp] theorem State.setDbg_hp (s : State) (g : DbgSt → DbgSt) : (s.setDbg g).hp = s.hp := rfl
@[simp] theorem State.setDbg_svc (s : State) (g : DbgSt → DbgSt) : (s.setDbg g).svc = s.svc := rfl
@[simp] theorem State.setDbg_pw (s : State) (g : DbgSt → DbgSt) : (s.setDbg g).pw = s.pw := rfl
@[simp] theorem State.setDbg_dbg (s : State) (g : DbgSt → DbgSt) : (s.setDbg g).dbg = g s.dbg := rfl
@[simp] theorem State.setDbg_quies (s : State) (g : DbgSt → DbgSt) : (s.setDbg g).quies = s.quies := rfl

/-! ### Bit fields -/

theorem bits_testBit (n hi lo i : Nat) : (bits n hi lo).testBit i = (decide (i < hi + 1 - lo) && n.testBit (lo + i)) := by
  unfold bits
  rw [Nat.testBit_mod_two_pow, Nat.testBit_shiftRight]

theorem bits_lt (n hi lo : Nat) : bits n hi lo < 2 ^ (hi + 1 - lo) := Nat.mod_lt _ (Nat.two_pow_pos _)

/-- A number as what lies above a bit range, in it, and below it. -/
theorem bits_split (n hi lo : Nat) (h : lo ≤ hi + 1) :
    n = 2 ^ (hi + 1) * (n / 2 ^ (hi + 1)) + 2 ^ lo * bits n hi lo + n % 2 ^ lo := by
  unfold bits
  rw [Nat.shiftRight_eq_div_pow]
  have e : 2 ^ (hi + 1) = 2 ^ lo * 2 ^ (hi + 1 - lo) := by rw [← Nat.pow_add]; congr 1; omega
  have h1 := Nat.div_add_mod n (2 ^ lo)
  have h2 := Nat.div_add_mod (n / 2 ^ lo) (2 ^ (hi + 1 - lo))
  rw [Nat.div_div_eq_div_mul, ← e] at h2
  calc n = 2 ^ lo * (n / 2 ^ lo) + n % 2 ^ lo := h1.symm
    _ = 2 ^ lo * (2 ^ (hi + 1 - lo) * (n / 2 ^ (hi + 1)) + n / 2 ^ lo % 2 ^ (hi + 1 - lo)) + n % 2 ^ lo := by rw [h2]
    _ = _ := by rw [Nat.mul_add, ← Nat.mul_assoc, ← e]

theorem putBits_split (n hi lo v : Nat) (h : lo ≤ hi + 1) :
    putBits n hi lo v = 2 ^ (hi + 1) * (n / 2 ^ (hi + 1)) + 2 ^ lo * (v % 2 ^ (hi + 1 - lo)) + n % 2 ^ lo := by
  have h1 := bits_split n hi lo h
  unfold putBits
  generalize bits n hi lo = b at *
  generalize n / 2 ^ (hi + 1) = q at *
  generalize n % 2 ^ lo = r at *
  rw [Nat.mul_comm b, Nat.mul_comm (v % _)]
  omega

/-- Each bit of a number with a range replaced. -/
theorem putBits_testBit (n hi lo v i : Nat) (h : lo ≤ hi + 1) :
    (putBits n hi lo v).testBit i = if lo ≤ i ∧ i ≤ hi then v.testBit (i - lo) else n.testBit i := by
  rw [putBits_split n hi lo v h]
  have hr : n % 2 ^ lo < 2 ^ lo := Nat.mod_lt _ (Nat.two_pow_pos _)
  have hv : 2 ^ lo * (v % 2 ^ (hi + 1 - lo)) + n % 2 ^ lo < 2 ^ (hi + 1) := by
    have e : 2 ^ (hi + 1) = 2 ^ lo * 2 ^ (hi + 1 - lo) := by rw [← Nat.pow_add]; congr 1; omega
    have hm : v % 2 ^ (hi + 1 - lo) < 2 ^ (hi + 1 - lo) := Nat.mod_lt _ (Nat.two_pow_pos _)
    calc 2 ^ lo * (v % 2 ^ (hi + 1 - lo)) + n % 2 ^ lo < 2 ^ lo * (v % 2 ^ (hi + 1 - lo)) + 2 ^ lo := by omega
      _ = 2 ^ lo * (v % 2 ^ (hi + 1 - lo) + 1) := by rw [Nat.mul_add, Nat.mul_one]
      _ ≤ 2 ^ lo * 2 ^ (hi + 1 - lo) := Nat.mul_le_mul_left _ hm
      _ = _ := e.symm
  rw [Nat.add_assoc, Nat.testBit_two_pow_mul_add _ hv]
  by_cases h1 : i < hi + 1
  · rw [if_pos h1, Nat.testBit_two_pow_mul_add _ hr]
    by_cases h2 : i < lo
    · have : ¬ (lo ≤ i ∧ i ≤ hi) := by omega
      rw [if_pos h2, if_neg this, Nat.testBit_mod_two_pow]
      simp [h2]
    · have : lo ≤ i ∧ i ≤ hi := by omega
      rw [if_neg h2, if_pos this, Nat.testBit_mod_two_pow]
      have : i - lo < hi + 1 - lo := by omega
      simp [this]
  · have : ¬ (lo ≤ i ∧ i ≤ hi) := by omega
    rw [if_neg h1, if_neg this, Nat.testBit_div_two_pow]
    congr 1; omega

/-- The range that was replaced. -/
theorem bits_putBits (n hi lo v : Nat) (h : lo ≤ hi + 1) : bits (putBits n hi lo v) hi lo = v % 2 ^ (hi + 1 - lo) := by
  apply Nat.eq_of_testBit_eq
  intro i
  rw [bits_testBit, putBits_testBit _ _ _ _ _ h, Nat.testBit_mod_two_pow]
  by_cases hi' : i < hi + 1 - lo
  · have : lo ≤ lo + i ∧ lo + i ≤ hi := by omega
    simp [hi', this]
  · simp [hi']

/-- A range that lies apart from the one replaced. -/
theorem bits_putBits_apart (n hi lo v a b : Nat) (h : lo ≤ hi + 1) (hd : a < lo ∨ hi < b) :
    bits (putBits n hi lo v) a b = bits n a b := by
  apply Nat.eq_of_testBit_eq
  intro i
  rw [bits_testBit, bits_testBit, putBits_testBit _ _ _ _ _ h]
  by_cases hi' : i < a + 1 - b
  · have : ¬ (lo ≤ b + i ∧ b + i ≤ hi) := by omega
    simp [hi', this]
  · simp [hi']

theorem bits_mod (n w hi lo : Nat) (h : hi < w) : bits (n % 2 ^ w) hi lo = bits n hi lo := by
  apply Nat.eq_of_testBit_eq
  intro i
  rw [bits_testBit, bits_testBit, Nat.testBit_mod_two_pow]
  by_cases hi' : i < hi + 1 - lo
  · have : lo + i < w := by omega
    simp [hi', this]
  · simp [hi']

/-! ### Registers -/

/-- A register after a write. -/
@[simp] theorem State.rd_wr (s : State) (a v : Nat) : (s.wr a v).rd a = v % 2 ^ 32 := by
  simp [State.rd, State.wr, mget_mput]

/-- Another register after a write. -/
theorem State.rd_wr_ne (s : State) (a v b : Nat) (h : b ≠ a) : (s.wr a v).rd b = s.rd b := by
  simp [State.rd, State.wr, mget_mput, h]

theorem State.rd_wr_if (s : State) (a v b : Nat) : (s.wr a v).rd b = if b = a then v % 2 ^ 32 else s.rd b := by
  split
  · rename_i h; rw [h, State.rd_wr]
  · rename_i h; rw [State.rd_wr_ne _ _ _ _ h]

theorem State.rd_lt (s : State) (a : Nat) : s.rd a < 2 ^ 32 := (mget rstAt s.regs a).isLt

/-- A field after it is set. -/
theorem State.fld_setFld (s : State) (a hi lo v : Nat) (h : lo ≤ hi) (h32 : hi < 32) :
    (s.setFld a hi lo v).fld a hi lo = v % 2 ^ (hi + 1 - lo) := by
  unfold State.fld State.setFld
  rw [State.rd_wr, bits_mod _ _ _ _ h32, bits_putBits _ _ _ _ (by omega)]

/-- A field of the same word that lies apart from the one set. -/
theorem State.fld_setFld_apart (s : State) (a hi lo v i j : Nat) (h : lo ≤ hi) (hi32 : i < 32) (hd : i < lo ∨ hi < j) :
    (s.setFld a hi lo v).fld a i j = s.fld a i j := by
  unfold State.fld State.setFld
  rw [State.rd_wr, bits_mod _ _ _ _ hi32, bits_putBits_apart _ _ _ _ _ _ (by omega) hd]

/-- Another register after a field is set. -/
theorem State.rd_setFld_ne (s : State) (a hi lo v b : Nat) (h : b ≠ a) : (s.setFld a hi lo v).rd b = s.rd b :=
  State.rd_wr_ne _ _ _ _ h

theorem State.fld_setFld_ne (s : State) (a hi lo v b i j : Nat) (h : b ≠ a) : (s.setFld a hi lo v).fld b i j = s.fld b i j := by
  unfold State.fld; rw [State.rd_setFld_ne _ _ _ _ _ _ h]

theorem State.flag_setFld_ne (s : State) (a hi lo v b i : Nat) (h : b ≠ a) : (s.setFld a hi lo v).flag b i = s.flag b i := by
  unfold State.flag; rw [State.rd_setFld_ne _ _ _ _ _ _ h]

/-- One bit of a word after a field of it is set. -/
theorem State.flag_setFld (s : State) (a hi lo v i : Nat) (h : lo ≤ hi) (h32 : i < 32) :
    (s.setFld a hi lo v).flag a i = if lo ≤ i ∧ i ≤ hi then v.testBit (i - lo) else s.flag a i := by
  unfold State.flag State.setFld
  rw [State.rd_wr, Nat.testBit_mod_two_pow, putBits_testBit _ _ _ _ _ (by omega)]
  simp [h32]

/-- A 64-bit counter after it is set. -/
theorem State.cnt_setCnt (s : State) (a v b : Nat) : (s.setCnt a v).cnt b = if b = a then v else s.cnt b := by
  simp [State.cnt, State.setCnt, mget_mput]

theorem State.cnt_bump (s : State) (a n b : Nat) :
    (s.bump a n).cnt b = if b = a then satAdd top64 (s.cnt a) n else s.cnt b := State.cnt_setCnt _ _ _ _

/-- Reads that look at the registers alone. -/
theorem State.rd_congr {s t : State} (h : t.regs = s.regs) (a : Nat) : t.rd a = s.rd a := by simp [State.rd, h]
theorem State.fld_congr {s t : State} (h : t.regs = s.regs) (a i j : Nat) : t.fld a i j = s.fld a i j := by
  simp [State.fld, State.rd, h]
theorem State.flag_congr {s t : State} (h : t.regs = s.regs) (a i : Nat) : t.flag a i = s.flag a i := by
  simp [State.flag, State.rd, h]
theorem State.cnt_congr {s t : State} (h : t.cnts = s.cnts) (a : Nat) : t.cnt a = s.cnt a := by simp [State.cnt, h]

@[simp] theorem State.wr_cnt (s : State) (a v : Nat) (b : Nat) : (s.wr a v).cnt b = s.cnt b := rfl
@[simp] theorem State.setFld_cnt (s : State) (a hi lo v : Nat) (b : Nat) : (s.setFld a hi lo v).cnt b = s.cnt b := rfl
@[simp] theorem State.bump32_cnt (s : State) (a n : Nat) (b : Nat) : (s.bump32 a n).cnt b = s.cnt b := rfl
@[simp] theorem State.setCnt_rd (s : State) (a v : Nat) (b : Nat) : (s.setCnt a v).rd b = s.rd b := rfl
@[simp] theorem State.setCnt_fld (s : State) (a v : Nat) (b i j : Nat) : (s.setCnt a v).fld b i j = s.fld b i j := rfl
@[simp] theorem State.setCnt_flag (s : State) (a v : Nat) (b i : Nat) : (s.setCnt a v).flag b i = s.flag b i := rfl
@[simp] theorem State.bump_rd (s : State) (a n : Nat) (b : Nat) : (s.bump a n).rd b = s.rd b := rfl
@[simp] theorem State.bump_fld (s : State) (a n : Nat) (b i j : Nat) : (s.bump a n).fld b i j = s.fld b i j := rfl
@[simp] theorem State.bump_flag (s : State) (a n : Nat) (b i : Nat) : (s.bump a n).flag b i = s.flag b i := rfl
@[simp] theorem State.setLat_rd (s : State) (q : Req) (a v : Nat) (b : Nat) : (s.setLat q a v).rd b = s.rd b := rfl
@[simp] theorem State.setLat_fld (s : State) (q : Req) (a v : Nat) (b i j : Nat) : (s.setLat q a v).fld b i j = s.fld b i j := rfl
@[simp] theorem State.setLat_flag (s : State) (q : Req) (a v : Nat) (b i : Nat) : (s.setLat q a v).flag b i = s.flag b i := rfl
@[simp] theorem State.setLat_cnt (s : State) (q : Req) (a v : Nat) (b : Nat) : (s.setLat q a v).cnt b = s.cnt b := rfl
@[simp] theorem State.pwr_rd (s : State) (f off v : Nat) (b : Nat) : (s.pwr f off v).rd b = s.rd b := rfl
@[simp] theorem State.pwr_fld (s : State) (f off v : Nat) (b i j : Nat) : (s.pwr f off v).fld b i j = s.fld b i j := rfl
@[simp] theorem State.pwr_flag (s : State) (f off v : Nat) (b i : Nat) : (s.pwr f off v).flag b i = s.flag b i := rfl
@[simp] theorem State.pwr_cnt (s : State) (f off v : Nat) (b : Nat) : (s.pwr f off v).cnt b = s.cnt b := rfl
@[simp] theorem State.emit_rd (s : State) (o : Out) (b : Nat) : (s.emit o).rd b = s.rd b := rfl
@[simp] theorem State.emit_fld (s : State) (o : Out) (b i j : Nat) : (s.emit o).fld b i j = s.fld b i j := rfl
@[simp] theorem State.emit_flag (s : State) (o : Out) (b i : Nat) : (s.emit o).flag b i = s.flag b i := rfl
@[simp] theorem State.emit_cnt (s : State) (o : Out) (b : Nat) : (s.emit o).cnt b = s.cnt b := rfl
@[simp] theorem State.setTim_rd (s : State) (g : TimSt → TimSt) (b : Nat) : (s.setTim g).rd b = s.rd b := rfl
@[simp] theorem State.setTim_fld (s : State) (g : TimSt → TimSt) (b i j : Nat) : (s.setTim g).fld b i j = s.fld b i j := rfl
@[simp] theorem State.setTim_flag (s : State) (g : TimSt → TimSt) (b i : Nat) : (s.setTim g).flag b i = s.flag b i := rfl
@[simp] theorem State.setTim_cnt (s : State) (g : TimSt → TimSt) (b : Nat) : (s.setTim g).cnt b = s.cnt b := rfl
@[simp] theorem State.setTl_rd (s : State) (g : TailSt → TailSt) (b : Nat) : (s.setTl g).rd b = s.rd b := rfl
@[simp] theorem State.setTl_fld (s : State) (g : TailSt → TailSt) (b i j : Nat) : (s.setTl g).fld b i j = s.fld b i j := rfl
@[simp] theorem State.setTl_flag (s : State) (g : TailSt → TailSt) (b i : Nat) : (s.setTl g).flag b i = s.flag b i := rfl
@[simp] theorem State.setTl_cnt (s : State) (g : TailSt → TailSt) (b : Nat) : (s.setTl g).cnt b = s.cnt b := rfl
@[simp] theorem State.setSl_rd (s : State) (g : StrSt → StrSt) (b : Nat) : (s.setSl g).rd b = s.rd b := rfl
@[simp] theorem State.setSl_fld (s : State) (g : StrSt → StrSt) (b i j : Nat) : (s.setSl g).fld b i j = s.fld b i j := rfl
@[simp] theorem State.setSl_flag (s : State) (g : StrSt → StrSt) (b i : Nat) : (s.setSl g).flag b i = s.flag b i := rfl
@[simp] theorem State.setSl_cnt (s : State) (g : StrSt → StrSt) (b : Nat) : (s.setSl g).cnt b = s.cnt b := rfl
@[simp] theorem State.setDp_rd (s : State) (g : DataSt → DataSt) (b : Nat) : (s.setDp g).rd b = s.rd b := rfl
@[simp] theorem State.setDp_fld (s : State) (g : DataSt → DataSt) (b i j : Nat) : (s.setDp g).fld b i j = s.fld b i j := rfl
@[simp] theorem State.setDp_flag (s : State) (g : DataSt → DataSt) (b i : Nat) : (s.setDp g).flag b i = s.flag b i := rfl
@[simp] theorem State.setDp_cnt (s : State) (g : DataSt → DataSt) (b : Nat) : (s.setDp g).cnt b = s.cnt b := rfl
@[simp] theorem State.setPw_rd (s : State) (g : PwrSt → PwrSt) (b : Nat) : (s.setPw g).rd b = s.rd b := rfl
@[simp] theorem State.setPw_fld (s : State) (g : PwrSt → PwrSt) (b i j : Nat) : (s.setPw g).fld b i j = s.fld b i j := rfl
@[simp] theorem State.setPw_flag (s : State) (g : PwrSt → PwrSt) (b i : Nat) : (s.setPw g).flag b i = s.flag b i := rfl
@[simp] theorem State.setPw_cnt (s : State) (g : PwrSt → PwrSt) (b : Nat) : (s.setPw g).cnt b = s.cnt b := rfl
@[simp] theorem State.setBoot_rd (s : State) (g : BootSt → BootSt) (b : Nat) : (s.setBoot g).rd b = s.rd b := rfl
@[simp] theorem State.setBoot_fld (s : State) (g : BootSt → BootSt) (b i j : Nat) : (s.setBoot g).fld b i j = s.fld b i j := rfl
@[simp] theorem State.setBoot_flag (s : State) (g : BootSt → BootSt) (b i : Nat) : (s.setBoot g).flag b i = s.flag b i := rfl
@[simp] theorem State.setBoot_cnt (s : State) (g : BootSt → BootSt) (b : Nat) : (s.setBoot g).cnt b = s.cnt b := rfl
@[simp] theorem State.setCip_rd (s : State) (g : CipSt → CipSt) (b : Nat) : (s.setCip g).rd b = s.rd b := rfl
@[simp] theorem State.setCip_fld (s : State) (g : CipSt → CipSt) (b i j : Nat) : (s.setCip g).fld b i j = s.fld b i j := rfl
@[simp] theorem State.setCip_flag (s : State) (g : CipSt → CipSt) (b i : Nat) : (s.setCip g).flag b i = s.flag b i := rfl
@[simp] theorem State.setCip_cnt (s : State) (g : CipSt → CipSt) (b : Nat) : (s.setCip g).cnt b = s.cnt b := rfl
@[simp] theorem State.setTfn_rd (s : State) (g : TfnSt → TfnSt) (b : Nat) : (s.setTfn g).rd b = s.rd b := rfl
@[simp] theorem State.setTfn_fld (s : State) (g : TfnSt → TfnSt) (b i j : Nat) : (s.setTfn g).fld b i j = s.fld b i j := rfl
@[simp] theorem State.setTfn_flag (s : State) (g : TfnSt → TfnSt) (b i : Nat) : (s.setTfn g).flag b i = s.flag b i := rfl
@[simp] theorem State.setTfn_cnt (s : State) (g : TfnSt → TfnSt) (b : Nat) : (s.setTfn g).cnt b = s.cnt b := rfl
@[simp] theorem State.setSvc_rd (s : State) (g : SvcSt → SvcSt) (b : Nat) : (s.setSvc g).rd b = s.rd b := rfl
@[simp] theorem State.setSvc_fld (s : State) (g : SvcSt → SvcSt) (b i j : Nat) : (s.setSvc g).fld b i j = s.fld b i j := rfl
@[simp] theorem State.setSvc_flag (s : State) (g : SvcSt → SvcSt) (b i : Nat) : (s.setSvc g).flag b i = s.flag b i := rfl
@[simp] theorem State.setSvc_cnt (s : State) (g : SvcSt → SvcSt) (b : Nat) : (s.setSvc g).cnt b = s.cnt b := rfl
@[simp] theorem State.setDbg_rd (s : State) (g : DbgSt → DbgSt) (b : Nat) : (s.setDbg g).rd b = s.rd b := rfl
@[simp] theorem State.setDbg_fld (s : State) (g : DbgSt → DbgSt) (b i j : Nat) : (s.setDbg g).fld b i j = s.fld b i j := rfl
@[simp] theorem State.setDbg_flag (s : State) (g : DbgSt → DbgSt) (b i : Nat) : (s.setDbg g).flag b i = s.flag b i := rfl
@[simp] theorem State.setDbg_cnt (s : State) (g : DbgSt → DbgSt) (b : Nat) : (s.setDbg g).cnt b = s.cnt b := rfl

end Sys2Proof.Machine
end

