-- ==== Sys2Proof/Laws/Events.lean ====
section
/-! SUPPORT. What an event occurrence can change (R433–R437): the EVT block, the capture registers of the raising instance, the error
log, counters of EVT, pending bits of the management functions, and what leaves the device; nothing else. -/
namespace Sys2Proof.Machine

/-- All of the state that an event leaves as it is. -/
def State.besides (s : State) :=
  (s.pending, s.act, s.latch, s.tb, s.mono, s.free, s.straps, s.tim, s.tsu, s.fn, s.tl, s.sl, s.dp, s.boot, s.tfn, s.cip, s.mem, s.en, s.rpl, s.hp, s.svc, s.pw, s.dbg, s.quies)

@[simp] theorem State.wr_besides (s : State) (a v : Nat) : (s.wr a v).besides = s.besides := rfl
@[simp] theorem State.setFld_besides (s : State) (a hi lo v : Nat) : (s.setFld a hi lo v).besides = s.besides := rfl
@[simp] theorem State.bump32_besides (s : State) (a n : Nat) : (s.bump32 a n).besides = s.besides := rfl
@[simp] theorem State.bump_besides (s : State) (a n : Nat) : (s.bump a n).besides = s.besides := rfl
@[simp] theorem State.setCnt_besides (s : State) (a n : Nat) : (s.setCnt a n).besides = s.besides := rfl
@[simp] theorem State.pwr_besides (s : State) (f off v : Nat) : (s.pwr f off v).besides = s.besides := rfl
@[simp] theorem State.emit_besides (s : State) (o : Out) : (s.emit o).besides = s.besides := rfl

/-- Outside what an event raised at `base` writes. -/
def offEvent (base a : Nat) : Prop := ¬ inEvt a ∧ ¬ inCapture base a

/-- `t` is `s` but for registers `p` names, counters of EVT, page words, the log and the outputs. -/
structure OnlyRegs (p : Nat → Prop) (s t : State) : Prop where
  rest : t.besides = s.besides
  regs : ∀ a, ¬ p a → t.rd a = s.rd a
  cnts : ∀ a, ¬ inEvt a → t.cnt a = s.cnt a

namespace OnlyRegs
variable {p : Nat → Prop} {s t u : State}

theorem same : OnlyRegs p s s := ⟨rfl, fun _ _ => rfl, fun _ _ => rfl⟩

theorem next (h : OnlyRegs p s t) (g : OnlyRegs p t u) : OnlyRegs p s u :=
  ⟨g.rest.trans h.rest, fun a ha => (g.regs a ha).trans (h.regs a ha), fun a ha => (g.cnts a ha).trans (h.cnts a ha)⟩

theorem weaken {q : Nat → Prop} (h : OnlyRegs p s t) (w : ∀ a, p a → q a) : OnlyRegs q s t :=
  ⟨h.rest, fun a ha => h.regs a (fun x => ha (w a x)), h.cnts⟩

theorem wr {a v : Nat} (h : OnlyRegs p s t) (hp : p a) : OnlyRegs p s (t.wr a v) :=
  h.next ⟨rfl, fun b hb => State.rd_wr_ne _ _ _ _ (fun e => hb (e ▸ hp)), fun _ _ => rfl⟩
theorem setFld {a hi lo v : Nat} (h : OnlyRegs p s t) (hp : p a) : OnlyRegs p s (t.setFld a hi lo v) := h.wr hp
theorem bump32 {a n : Nat} (h : OnlyRegs p s t) (hp : p a) : OnlyRegs p s (t.bump32 a n) := h.wr hp
theorem bump {a n : Nat} (h : OnlyRegs p s t) (ha : inEvt a) : OnlyRegs p s (t.bump a n) :=
  h.next ⟨rfl, fun _ _ => rfl, fun b hb => by
    rw [State.cnt_bump, if_neg (fun (e : b = a) => hb (by rw [e]; exact ha))]⟩
theorem pwr {f o v : Nat} (h : OnlyRegs p s t) : OnlyRegs p s (t.pwr f o v) := h.next ⟨rfl, fun _ _ => rfl, fun _ _ => rfl⟩
theorem emit {o : Out} (h : OnlyRegs p s t) : OnlyRegs p s (t.emit o) := h.next ⟨rfl, fun _ _ => rfl, fun _ _ => rfl⟩
theorem log {l : List LogEntry} (h : OnlyRegs p s t) : OnlyRegs p s { t with log := l } :=
  h.next ⟨rfl, fun _ _ => rfl, fun _ _ => rfl⟩

theorem ite {b : Prop} [Decidable b] (h : OnlyRegs p s t) (g : OnlyRegs p s u) : OnlyRegs p s (if b then t else u) := by
  split
  · exact h
  · exact g

end OnlyRegs

theorem sevOf_lt (c v : Nat) (h : sevOf c = some v) : c < 256 := by
  by_contra hc
  have : sevOf c = none := by
    unfold sevOf
    have : sevTable.find? (fun r => decide (r.1 ≤ c) && decide (c < r.1 + r.2.length)) = none := by
      rw [List.find?_eq_none]
      intro r hr
      have h1 : r.1 + r.2.length ≤ 256 := by
        have : ∀ r ∈ sevTable, r.1 + r.2.length ≤ 256 := by decide
        exact this r hr
      simp only [Bool.and_eq_true, decide_eq_true_eq, not_and]
      omega
    rw [this]
  rw [this] at h
  exact absurd h (by simp)


section
variable (s : State) (base : Nat)

theorem State.capture_only (c src sev : Nat) (y : Synd) : OnlyRegs (evArea base) s (s.capture base c src sev y).2 := by
  have k : ∀ i, 0x14 ≤ i → i ≤ 0x30 → evArea base (base + i) := fun i h1 h2 => .inr ⟨by omega, by omega⟩
  have k14 := k 0x14 (by omega) (by omega)
  have k18 := k 0x18 (by omega) (by omega)
  unfold State.capture
  dsimp only
  split
  · refine OnlyRegs.bump32 ?_ k18
    split
    · exact OnlyRegs.setFld (OnlyRegs.setFld OnlyRegs.same k14) k14
    · exact OnlyRegs.setFld OnlyRegs.same k14
  · refine OnlyRegs.wr ?_ (k 0x30 (by omega) (by omega))
    refine OnlyRegs.wr ?_ (k 0x2C (by omega) (by omega))
    refine OnlyRegs.wr ?_ (k 0x28 (by omega) (by omega))
    refine OnlyRegs.wr ?_ (k 0x24 (by omega) (by omega))
    refine OnlyRegs.wr ?_ (k 0x20 (by omega) (by omega))
    refine OnlyRegs.wr ?_ (k 0x1C (by omega) (by omega))
    exact OnlyRegs.wr (OnlyRegs.wr OnlyRegs.same k14) k18

theorem evt_in (i : Nat) (h : i < 0x100000) : inEvt (evtB + i) := ⟨by simp [evtB], by simp only [evtB]; omega⟩

theorem State.logEvent_only (c src sev : Nat) (first : Bool) (y : Synd) :
    OnlyRegs (evArea base) s (s.logEvent base c src sev first y).2 := by
  have k40 : evArea base (evtB + 0x40) := .inl (evt_in 0x40 (by omega))
  unfold State.logEvent
  dsimp only
  split
  · exact OnlyRegs.bump (OnlyRegs.setFld (OnlyRegs.log (OnlyRegs.setFld OnlyRegs.same k40)) k40) (evt_in 0x210 (by omega))
  · exact OnlyRegs.bump32 (OnlyRegs.setFld OnlyRegs.same k40) (.inl (evt_in 0x44 (by omega)))

theorem State.latchCause_only (c src : Nat) (hc : c < 256) : OnlyRegs (evArea base) s (s.latchCause c src) := by
  have k : ∀ i, i ≤ 8 → evArea base (causeA c + i) := fun i hi => .inl ⟨by simp only [causeA, evtB]; omega, by simp only [causeA, evtB]; omega⟩
  have k0 := k 0 (by omega)
  unfold State.latchCause
  dsimp only
  refine OnlyRegs.wr ?_ (k 8 (by omega))
  split
  · exact OnlyRegs.setFld (OnlyRegs.setFld OnlyRegs.same k0) k0
  · exact OnlyRegs.wr (OnlyRegs.setFld (OnlyRegs.setFld OnlyRegs.same k0) k0) (k 4 (by omega))

theorem State.evtVector_only (p : Nat → Prop) (f v : Nat) : OnlyRegs p s (s.evtVector f v) := by
  unfold State.evtVector State.msixTrigger State.msixBuild State.setPba
  exact OnlyRegs.ite (OnlyRegs.ite (OnlyRegs.emit OnlyRegs.same) (OnlyRegs.pwr OnlyRegs.same))
    (OnlyRegs.bump OnlyRegs.same (evt_in 0x208 (by omega)))

theorem State.occur_only (c src : Nat) (y : Synd) : OnlyRegs (evArea base) s (s.occur base c src y).2 := by
  unfold State.occur
  split
  · exact OnlyRegs.same
  · rename_i sev hs
    have hc := sevOf_lt c sev hs
    have k : ∀ i, i < 0x1000 → evArea base (evtB + i) := fun i h => .inl (evt_in i (by omega))
    have step1 := OnlyRegs.bump (n := 1) (OnlyRegs.same (p := evArea base) (s := s)) (evt_in 0x200 (by omega))
    refine OnlyRegs.next step1 ?_
    dsimp only
    generalize s.bump (evtB + 0x200) 1 = s1
    have h2 : OnlyRegs (evArea base) s1 (if 2 ≤ sev then s1.capture base c src sev y else (false, s1)).2 := by
      split
      · exact State.capture_only _ _ _ _ _ _
      · exact OnlyRegs.same
    refine OnlyRegs.next h2 ?_
    generalize (if 2 ≤ sev then s1.capture base c src sev y else (false, s1)) = r
    generalize bit (r.2.rd (causeA c + 12)) 28 = b28
    have h3 : OnlyRegs (evArea base) r.2 (if b28 = true then r.2.logEvent base c src sev r.1 y else (false, r.2)).2 := by
      split
      · exact State.logEvent_only _ _ _ _ _ _ _
      · exact OnlyRegs.same
    generalize r.2.rd (causeA c + 12) = route
    refine OnlyRegs.next h3 ?_
    generalize (if b28 = true then r.2.logEvent base c src sev r.1 y else (false, r.2)) = l
    refine OnlyRegs.next (State.latchCause_only l.2 base c src hc) ?_
    generalize l.2.latchCause c src = s4
    have h5 : OnlyRegs (evArea base) s4 (if bit route 31 = true then s4.setFld (evtB + 0x100 + 4 * (c / 32)) (c % 32) (c % 32) 1 else s4) :=
      OnlyRegs.ite (OnlyRegs.setFld OnlyRegs.same (by have := k (0x100 + 4 * (c / 32)) (by omega); rwa [← Nat.add_assoc] at this)) OnlyRegs.same
    refine OnlyRegs.next h5 ?_
    generalize (if bit route 31 = true then s4.setFld (evtB + 0x100 + 4 * (c / 32)) (c % 32) (c % 32) 1 else s4) = s5
    have h6 : OnlyRegs (evArea base) s5 (if bit route 30 = true then s5.setFld (evtB + 0x120 + 4 * (c / 32)) (c % 32) (c % 32) 1 else s5) :=
      OnlyRegs.ite (OnlyRegs.setFld OnlyRegs.same (by have := k (0x120 + 4 * (c / 32)) (by omega); rwa [← Nat.add_assoc] at this)) OnlyRegs.same
    refine OnlyRegs.next h6 ?_
    generalize (if bit route 30 = true then s5.setFld (evtB + 0x120 + 4 * (c / 32)) (c % 32) (c % 32) 1 else s5) = s6
    generalize (if bit route 29 = true then s6.mfOf c src else none) = mf
    cases mf with
    | none =>
      dsimp only
      exact OnlyRegs.ite (State.evtVector_only _ _ _ _) OnlyRegs.same
    | some h =>
      dsimp only
      refine OnlyRegs.next ?_ (State.evtVector_only _ _ _ _)
      have hp := OnlyRegs.pwr (f := 256 + h) (o := 0xC4) (v := src % 2 ^ 20) (OnlyRegs.pwr (f := 256 + h) (o := 0xC0)
        (v := putBits (s6.prd (256 + h) 0xC0) (c - 192) (c - 192) 1) (OnlyRegs.same (p := evArea base) (s := s6)))
      exact OnlyRegs.ite (hp.next (State.evtVector_only _ _ _ _)) hp

/-- What an event can change. -/
theorem State.raiseAt_only (c src : Nat) (y : Synd) : OnlyRegs (evArea base) s (s.raiseAt base c src y) := by
  unfold State.raiseAt
  refine OnlyRegs.next (State.occur_only s base c src y) ?_
  dsimp only
  split
  · refine OnlyRegs.weaken (State.occur_only _ evtB _ _ _) ?_
    rintro a (h | h)
    · exact .inl h
    · exact .inl ⟨by have := h.1; simp only [evtB] at this; omega, by have := h.2; simp only [evtB] at this; omega⟩
  · exact OnlyRegs.same

theorem State.raise_only (c src : Nat) : OnlyRegs (evArea base) s (s.raise base c src) := State.raiseAt_only _ _ _ _ _

/-- A discarded write (R472): it is counted, its offset is kept, CFG_REJECT is raised. -/
theorem State.reject_only (off : Nat) :
    OnlyRegs (fun a => evArea base a ∨ a = base + 0x10 ∨ a = base + 0xC) s (s.reject base off) := by
  unfold State.reject
  dsimp only
  refine OnlyRegs.next ?_ (OnlyRegs.weaken (State.raise_only _ _ _ _) (fun a h => .inl h))
  split
  · exact OnlyRegs.bump32 OnlyRegs.same (.inr (.inl rfl))
  · exact OnlyRegs.wr (OnlyRegs.bump32 OnlyRegs.same (.inr (.inl rfl))) (.inr (.inr rfl))

end

/-! ### The parts of State after an event -/

variable (s : State) (base c src : Nat)

@[simp] theorem State.raise_pending : (s.raise base c src).pending = s.pending := by
  have h := (State.raise_only s base c src).rest
  simp only [State.besides, Prod.mk.injEq] at h
  exact h.1
@[simp] theorem State.raise_act : (s.raise base c src).act = s.act := by
  have h := (State.raise_only s base c src).rest
  simp only [State.besides, Prod.mk.injEq] at h
  exact h.2.1
@[simp] theorem State.raise_latch : (s.raise base c src).latch = s.latch := by
  have h := (State.raise_only s base c src).rest
  simp only [State.besides, Prod.mk.injEq] at h
  exact h.2.2.1
@[simp] theorem State.raise_tb : (s.raise base c src).tb = s.tb := by
  have h := (State.raise_only s base c src).rest
  simp only [State.besides, Prod.mk.injEq] at h
  exact h.2.2.2.1
@[simp] theorem State.raise_mono : (s.raise base c src).mono = s.mono := by
  have h := (State.raise_only s base c src).rest
  simp only [State.besides, Prod.mk.injEq] at h
  exact h.2.2.2.2.1
@[simp] theorem State.raise_free : (s.raise base c src).free = s.free := by
  have h := (State.raise_only s base c src).rest
  simp only [State.besides, Prod.mk.injEq] at h
  exact h.2.2.2.2.2.1
@[simp] theorem State.raise_straps : (s.raise base c src).straps = s.straps := by
  have h := (State.raise_only s base c src).rest
  simp only [State.besides, Prod.mk.injEq] at h
  exact h.2.2.2.2.2.2.1
@[simp] theorem State.raise_tim : (s.raise base c src).tim = s.tim := by
  have h := (State.raise_only s base c src).rest
  simp only [State.besides, Prod.mk.injEq] at h
  exact h.2.2.2.2.2.2.2.1
@[simp] theorem State.raise_tsu : (s.raise base c src).tsu = s.tsu := by
  have h := (State.raise_only s base c src).rest
  simp only [State.besides, Prod.mk.injEq] at h
  exact h.2.2.2.2.2.2.2.2.1
@[simp] theorem State.raise_fn : (s.raise base c src).fn = s.fn := by
  have h := (State.raise_only s base c src).rest
  simp only [State.besides, Prod.mk.injEq] at h
  exact h.2.2.2.2.2.2.2.2.2.1
@[simp] theorem State.raise_tl : (s.raise base c src).tl = s.tl := by
  have h := (State.raise_only s base c src).rest
  simp only [State.besides, Prod.mk.injEq] at h
  exact h.2.2.2.2.2.2.2.2.2.2.1
@[simp] theorem State.raise_sl : (s.raise base c src).sl = s.sl := by
  have h := (State.raise_only s base c src).rest
  simp only [State.besides, Prod.mk.injEq] at h
  exact h.2.2.2.2.2.2.2.2.2.2.2.1
@[simp] theorem State.raise_dp : (s.raise base c src).dp = s.dp := by
  have h := (State.raise_only s base c src).rest
  simp only [State.besides, Prod.mk.injEq] at h
  exact h.2.2.2.2.2.2.2.2.2.2.2.2.1
@[simp] theorem State.raise_boot : (s.raise base c src).boot = s.boot := by
  have h := (State.raise_only s base c src).rest
  simp only [State.besides, Prod.mk.injEq] at h
  exact h.2.2.2.2.2.2.2.2.2.2.2.2.2.1
@[simp] theorem State.raise_tfn : (s.raise base c src).tfn = s.tfn := by
  have h := (State.raise_only s base c src).rest
  simp only [State.besides, Prod.mk.injEq] at h
  exact h.2.2.2.2.2.2.2.2.2.2.2.2.2.2.1
@[simp] theorem State.raise_cip : (s.raise base c src).cip = s.cip := by
  have h := (State.raise_only s base c src).rest
  simp only [State.besides, Prod.mk.injEq] at h
  exact h.2.2.2.2.2.2.2.2.2.2.2.2.2.2.2.1
@[simp] theorem State.raise_mem : (s.raise base c src).mem = s.mem := by
  have h := (State.raise_only s base c src).rest
  simp only [State.besides, Prod.mk.injEq] at h
  exact h.2.2.2.2.2.2.2.2.2.2.2.2.2.2.2.2.1
@[simp] theorem State.raise_en : (s.raise base c src).en = s.en := by
  have h := (State.raise_only s base c src).rest
  simp only [State.besides, Prod.mk.injEq] at h
  exact h.2.2.2.2.2.2.2.2.2.2.2.2.2.2.2.2.2.1
@[simp] theorem State.raise_rpl : (s.raise base c src).rpl = s.rpl := by
  have h := (State.raise_only s base c src).rest
  simp only [State.besides, Prod.mk.injEq] at h
  exact h.2.2.2.2.2.2.2.2.2.2.2.2.2.2.2.2.2.2.1
@[simp] theorem State.raise_hp : (s.raise base c src).hp = s.hp := by
  have h := (State.raise_only s base c src).rest
  simp only [State.besides, Prod.mk.injEq] at h
  exact h.2.2.2.2.2.2.2.2.2.2.2.2.2.2.2.2.2.2.2.1
@[simp] theorem State.raise_svc : (s.raise base c src).svc = s.svc := by
  have h := (State.raise_only s base c src).rest
  simp only [State.besides, Prod.mk.injEq] at h
  exact h.2.2.2.2.2.2.2.2.2.2.2.2.2.2.2.2.2.2.2.2.1
@[simp] theorem State.raise_pw : (s.raise base c src).pw = s.pw := by
  have h := (State.raise_only s base c src).rest
  simp only [State.besides, Prod.mk.injEq] at h
  exact h.2.2.2.2.2.2.2.2.2.2.2.2.2.2.2.2.2.2.2.2.2.1
@[simp] theorem State.raise_dbg : (s.raise base c src).dbg = s.dbg := by
  have h := (State.raise_only s base c src).rest
  simp only [State.besides, Prod.mk.injEq] at h
  exact h.2.2.2.2.2.2.2.2.2.2.2.2.2.2.2.2.2.2.2.2.2.2.1
@[simp] theorem State.raise_quies : (s.raise base c src).quies = s.quies := by
  have h := (State.raise_only s base c src).rest
  simp only [State.besides, Prod.mk.injEq] at h
  exact h.2.2.2.2.2.2.2.2.2.2.2.2.2.2.2.2.2.2.2.2.2.2.2

/-- A register that an event does not write. -/
theorem State.raise_rd (a : Nat) (h : offEvent base a) : (s.raise base c src).rd a = s.rd a :=
  (State.raise_only s base c src).regs a (fun x => x.elim h.1 h.2)
theorem State.raise_fld (a i j : Nat) (h : offEvent base a) : (s.raise base c src).fld a i j = s.fld a i j := by
  unfold State.fld; rw [State.raise_rd _ _ _ _ _ h]
theorem State.raise_flag (a i : Nat) (h : offEvent base a) : (s.raise base c src).flag a i = s.flag a i := by
  unfold State.flag; rw [State.raise_rd _ _ _ _ _ h]
theorem State.raise_cnt (a : Nat) (h : ¬ inEvt a) : (s.raise base c src).cnt a = s.cnt a :=
  (State.raise_only s base c src).cnts a h

end Sys2Proof.Machine
end

