-- ==== Sys2Proof/Laws/Mem.lean ====
section
/-! SUPPORT. Laws of the GDDR6 bytes: the addresses listed rise strictly, and every operation over the memory keeps that. -/
namespace Sys2Proof.Machine

variable {α : Type}

/-- Two rising tables, the second wholly above the first, make one. -/
theorem mrising_append (m n : Sparse α) (hm : mrising m = true) (hn : mrising n = true) (h : ∀ x ∈ m, ∀ y ∈ n, x.1 < y.1) :
    mrising (m ++ n) = true := by
  induction m with
  | nil => exact hn
  | cons e m ih =>
    obtain ⟨j, v⟩ := e
    obtain ⟨ha, hr⟩ := (mrising_cons j v m).1 hm
    refine (mrising_cons j v (m ++ n)).2 ⟨?_, ih hr (fun x hx => h x (by simp [hx]))⟩
    intro x hx
    rcases List.mem_append.1 hx with hx | hx
    · exact ha x hx
    · exact h (j, v) (by simp) x hx

/-- Consecutive addresses rise. -/
theorem mrising_run (a : Nat) (l : List α) : mrising (l.zipIdx.map (fun x => (a + x.2, x.1))) = true := by
  suffices h : ∀ k, mrising ((l.zipIdx k).map (fun x => (a + x.2, x.1))) = true from h 0
  induction l with
  | nil => intro k; rfl
  | cons v l ih =>
    intro k
    rw [List.zipIdx_cons, List.map_cons]
    refine (mrising_cons _ _ _).2 ⟨?_, ih (k + 1)⟩
    intro x hx
    obtain ⟨y, hy, rfl⟩ := List.mem_map.1 hx
    have := List.le_snd_of_mem_zipIdx hy
    show a + k < a + y.2
    omega

/-- A run of entries replaces what lies in `[lo, hi)`. -/
theorem mrising_splice (m r : Sparse α) (lo hi : Nat) (hm : mrising m = true) (hr : mrising r = true) (h : ∀ x ∈ r, lo ≤ x.1 ∧ x.1 < hi) :
    mrising (m.filter (fun e => e.1 < lo) ++ r ++ m.filter (fun e => lo ≤ e.1 && hi ≤ e.1)) = true := by
  refine mrising_append _ _ (mrising_append _ _ (mrising_filter _ m hm) hr ?_) (mrising_filter _ m hm) ?_
  · intro x hx y hy
    have := (h y hy).1
    have hx := (List.mem_filter.1 hx).2
    simp only [decide_eq_true_eq] at hx
    omega
  · intro x hx y hy
    have hy := (List.mem_filter.1 hy).2
    simp only [Bool.and_eq_true, decide_eq_true_eq] at hy
    rcases List.mem_append.1 hx with hx | hx
    · have hx := (List.mem_filter.1 hx).2
      simp only [decide_eq_true_eq] at hx
      omega
    · have := (h x hx).2
      omega

variable {s : State}

/-- A store keeps the form. -/
theorem State.putBytes_rising (a : Nat) (bs : List Byte) (h : mrising s.mem.bytes = true) : mrising (s.putBytes a bs).mem.bytes = true := by
  refine mrising_splice _ _ a (a + bs.length) h (mrising_run a bs) ?_
  intro x hx
  obtain ⟨y, hy, rfl⟩ := List.mem_map.1 hx
  have := List.snd_lt_add_of_mem_zipIdx hy
  constructor
  · exact Nat.le_add_right a y.2
  · show a + y.2 < a + bs.length
    omega

/-- Zeroing a range keeps the form. -/
theorem State.zeroRange_rising (lo hi : Nat) (h : mrising s.mem.bytes = true) : mrising (s.zeroRange lo hi).mem.bytes = true := by
  refine mrising_splice _ _ lo hi h ?_ ?_
  · have := mrising_run lo (List.replicate (hi - lo) (0 : Byte))
    rwa [show (List.replicate (hi - lo) (0 : Byte)).zipIdx.map (fun x => (lo + x.2, x.1)) = (List.range (hi - lo)).map (fun i => (lo + i, (0 : Byte))) from ?_] at this
    apply List.ext_getElem <;> simp
  · intro x hx
    obtain ⟨i, hi', rfl⟩ := List.mem_map.1 hx
    have := List.mem_range.1 hi'
    constructor
    · exact Nat.le_add_right lo i
    · show lo + i < hi
      omega

/-- The initialiser's advance keeps the form. -/
theorem State.initAdvance_rising (a : Nat) (h : mrising s.mem.bytes = true) : mrising (s.initAdvance a).mem.bytes = true := by
  unfold State.initAdvance
  split
  · exact h
  · split
    · exact State.zeroRange_rising _ _ h
    · exact h

/-- A failed check leaves the bytes. -/
@[simp] theorem State.eccBad_mem (a : Nat) (t : Bool) : (s.eccBad a t).mem = s.mem := by
  have h := (State.raiseAt_only (s := s.bump (mciB + (if t then 0x110 else 0x108)) 1) (base := mciB) Ev.mciUncorr Src.device
    { mem := 1, addr := a / 64 * 64, nbits := 0 }).rest
  simp only [State.besides, Prod.mk.injEq] at h
  exact h.2.2.2.2.2.2.2.2.2.2.2.2.2.2.2.2.1

/-- A corrected line leaves the bytes. -/
@[simp] theorem State.eccCorr_mem : s.eccCorr.mem = s.mem := by
  unfold State.eccCorr
  dsimp only
  split <;> simp

/-- A write through MCI keeps the form. -/
theorem State.mciWrite_rising (a : Nat) (bs : List Byte) (h : mrising s.mem.bytes = true) : mrising (s.mciWrite a bs).mem.bytes = true := by
  unfold State.mciWrite
  have h' := State.initAdvance_rising (s := s) a h
  generalize s.initAdvance a = t at h'
  dsimp only
  split
  · rename_i ecc
    clear ecc
    generalize linesOf a bs.length = l
    induction l generalizing t with
    | nil => exact h'
    | cons x l ih =>
      refine ih _ ?_
      dsimp only
      split
      · exact State.putBytes_rising _ _ h'
      · split
        · exact State.putBytes_rising _ _ (by simpa using h')
        · simpa using h'
  · exact State.putBytes_rising _ _ h'

/-- An admitted write of a block keeps the form. -/
theorem State.memWrite_rising (a : Nat) (bs : List Byte) (h : mrising s.mem.bytes = true) : mrising (s.memWrite a bs).mem.bytes = true := by
  unfold State.memWrite
  split
  · simpa using h
  · exact State.mciWrite_rising a bs h

/-- Reading bytes leaves the memory. -/
@[simp] theorem State.memBytes_mem (a n : Nat) : (s.memBytes a n).2.mem = s.mem := by
  unfold State.memBytes
  suffices h : ∀ (l : List Nat) (r : List Byte × State), (l.foldl (fun r i => match mfind r.2.mem.bytes (a + i) with
      | some b => (r.1 ++ [b], r.2)
      | none =>
        let d := r.2.draw
        (r.1 ++ [BitVec.ofNat 8 (Config.anyNat d.1)], d.2)) r).2.mem = r.2.mem from h _ _
  intro l
  induction l with
  | nil => intro r; rfl
  | cons x l ih =>
    intro r
    rw [List.foldl_cons, ih]
    split <;> rfl

/-- A read of a block leaves the memory. -/
theorem State.memRead_mem (a n : Nat) (e : Ecc) : (s.memRead a n e).2.mem = s.mem := by
  have lines : ∀ (l : List Nat) (t : State), (l.foldl (fun s k => s.eccBad (64 * k) true) t).mem = t.mem := by
    intro l
    induction l with
    | nil => intro t; rfl
    | cons x l ih => intro t; rw [List.foldl_cons, ih, State.eccBad_mem]
  unfold State.memRead
  split
  · simp
  · unfold State.mciRead
    dsimp only
    rw [State.memBytes_mem, lines]
    split
    · rfl
    · cases e <;> simp

end Sys2Proof.Machine
end

