-- ==== Sys2Proof/WellFormed.lean ====
section
/-! DEFINITION. When a command is one the device can be given: its operands fit each other and the block. The types of the operands
bound every number; what they leave is said here. A device is never given another command, and no meaning asks: exec gives each command
its effect whether or not it is well formed. -/
namespace Sys2Proof
open Sys2Proof.Machine

/-- A register is named by a 4-aligned offset (R30), and an access moves at least one byte. -/
def regOk (a be : Nat) : Bool := decide (a % 4 = 0) && decide (be ≠ 0)
/-- Data as long as the length that a request states. -/
def dataOk (len : Nat) : Option (List Byte) → Bool
  | none => decide (1 ≤ len)
  | some d => decide (1 ≤ len) && decide (d.length = len)
/-- The bits 62:58 of the access register are 0, and its OFFSET is 4-aligned (R445). -/
def scanOk (dr : Nat) : Bool := decide (dr / 2 ^ 58 % 32 = 0) && decide (dr / 2 ^ 32 % 4 = 0)

/-- A command is well formed; a command that is not named has nothing to check beyond its operands' types. -/
def Instr.wf (i : Instr) : Bool :=
  match i with
  | .registerWrite _ a be _ _ => regOk a.toNat be.toNat
  | .counterLowRead _ r => regOk r.a.toNat r.be.toNat
  | .readClear _ r => regOk r.a.toNat r.be.toNat
  | .rxFrame _ bytes _ _ _ => !bytes.isEmpty
  | .modXferEnd _ _ data => decide (data.length ≤ 128)
  | .memRequest _ _ n write data => dataOk (n.val + 1) (if write then some data else none)
  | .barAccess _ _ off _ wr _ _ => regOk off.toNat wr.be.toNat
  | .windowTlp _ _ wr len _ _ _ _ => dataOk len.val wr
  | .cplArrive _ _ _ _ _ _ data _ => decide (data.length ≤ 4096)
  | .bootLoad _ _ words _ _ => words.all (fun w => regOk w.1.toNat 15)
  | .sentinelMeasure l => decide (l.length = 25)
  | .aonCorrection a _ => regOk a.toNat 15
  | .dbgAccess dr _ => scanOk dr.toNat
  | _ => true

end Sys2Proof
end

