-- ==== Sys2Proof/Tests/Slice0.lean ====
section
/-! SUPPORT. Tests: for each statement a state and operands that meet the hypotheses of its clauses (`wit_…`), an ill-formed term for each
check of WellFormed, and what the spec and the standards it names give for their own examples (`test_…`). -/
namespace Sys2Proof.Tests
open Sys2Proof.Machine
set_option Elab.async false

/-- A state given by register fields over the state after reset: (address, high bit, low bit, value). -/
def st (l : List (Nat × Nat × Nat × Nat)) : State := l.foldl (fun s x => s.setFld x.1 x.2.1 x.2.2.1 x.2.2.2) State.reset
/-- With every block instance in RUN. -/
def runAll (s : State) : State := (List.range 58).foldl (fun s i => s.setBlk (blkBases.getD i 0) 0) s
/-- The answer is a next state. -/
def goes (r : Res) : Bool := match r with
  | .next _ => true
  | _ => false

/-! ### Steps, registers, blocks -/

theorem wit_step : State.reset.pending = [] ∧ State.reset.tb < uWrap ∧ State.reset.wf = true ∧
    goes (step { State.reset with pending := [.tapReset] }) = true ∧ (∀ x, Instr.tapReset ≠ .powerOn x) := by
  refine ⟨by decide, by decide +kernel, by decide +kernel, by decide +kernel, ?_⟩
  intro x h
  cases h
theorem wit_registerWrite : (instAt (tsuB 0 + 0x40)).map (fun i => (i.base, i.hdr, i.code)) = some (tsuB 0, true, 6) ∧
    (cardAt (tsuB 0 + 0x40)).map (fun c => (c.q, c.ok 5)) = some (0, true) ∧ State.reset.commitBusy (tsuB 0) = false ∧
    instAt 0x3FFFFFC = none ∧ State.reset.hpState State.reset.ownerHp ≠ 2 := by decide +kernel
theorem wit_counterRead : (cardAt (evtB + 0x200)).map (fun c => (c.cnt, c.isHigh 0x200)) = some (true, false) ∧
    (∀ i, instAt (evtB + 0x200) = some i → latched i 0x200 = false ∧ pairHigh i 0x200 = false ∧ pairLow i 0x200 = false ∧
      absent i 0x200 = false ∧ State.reset.readActs .mgc i 0x200 = none ∧ i.code ≠ 0x10) ∧
    (cardAt (evtB + 0x44)).map (fun c => (c.cnt, decide (c.rc ≠ 0))) = some (false, true) := by decide +kernel
theorem wit_commit : State.reset.commitBusy (macB 0) = false ∧ State.reset.blkState (macB 0) = 2 ∧
    (let s := st [(macB 0 + 8, 2, 0, 0), (macB 0 + 8, 3, 3, 1)]; s.commitBusy (macB 0) = true ∧ s.blkState (macB 0) ≠ 2) ∧
    blkBase 23 = macB 0 := by decide +kernel
/-- The staged words taken as active. -/
def inForce (s : State) : State := { s with act := s.regs }
/-- A copy of a frame of n zero bytes. -/
def aCopy (n : Nat) : Copy := { f := { id := 1, bytes := List.replicate n 0, src := .port 0 }, vport := 0, queue := 0, cells := 1 }
/-- Quad 0 in RUN in mode 1 (four lanes of port 0) with the FEC of that mode, its port in link state n. -/
def port (n : Nat) : State := st [(macB 0 + 8, 2, 0, 0), (macB 0 + 0x40, 3, 0, 1), (macPort 0 + 4, 9, 8, 2), (macPort 0 + 8, 2, 0, n)]

theorem wit_quiesce : quiesces (blkBase 27) = true ∧ codeOf (blkBase 27) = 0x0A ∧ codeOf (blkBase 35) = 0x0C ∧ codeOf (blkBase 39) = 0x10 ∧
    quiesces (blkBase 0) = false ∧ State.reset.rpl.rp = none ∧
    (let s := st [(blkBase 27 + 8, 2, 0, 0)]; s.running (blkBase 27) = true ∧ s.commitBusy (blkBase 27) = false) ∧
    (let s := st [(blkBase 27 + 8, 2, 0, 1)]; s.blkState (blkBase 27) = 1 ∧ s.quDone (blkBase 27) = true) ∧
    (let s := { st [(tailB + 8, 2, 0, 1)] with tl := { hold := [default] }, quies := [(tailB, some (0, false))], mono := uS }
     s.blkState tailB = 1 ∧ s.quDone tailB = false ∧ mget (fun _ => none) s.quies tailB = some (0, false) ∧ 0 + s.quLimit tailB ≤ s.mono) ∧
    (State.reset.blkState (blkBase 27) = 2 ∧ State.reset.safe (blkBase 27) = false) ∧
    (let s := st [(blkBase 39 + 0x44, 29, 29, 1)]; s.blkState (blkBase 39) = 2 ∧ s.flag (blkBase 39 + 0x44) 29 = true) ∧
    ((st [(blkBase 27 + 8, 4, 4, 1)]).safe (blkBase 27) = true) := by decide +kernel
theorem wit_reset : State.reset.pw.hold.any = false ∧ ({ State.reset with pw := { State.reset.pw with hold := { rail := true } } } : State).pw.hold.any = true := by
  decide +kernel
theorem wit_timeSet : State.reset.tim.pend = none ∧
    bits (State.reset.rd (timB + 0x64) * 2 ^ 64 + State.reset.rd (timB + 0x68) * 2 ^ 32 + State.reset.rd (timB + 0x6C)) 47 16 < 1000000000 ∧
    (∃ p, (match exec (.timeStep false true false) State.reset with
      | .next t => t.tim.pend
      | _ => none) = some p ∧ p.atPps = true) := ⟨by decide +kernel, by decide +kernel, _, rfl, rfl⟩
/-! ### Time -/

theorem wit_setStep : (let s := State.reset.setTim (fun t => { t with pend := some ⟨true, 5, false, 0, 7⟩ }); s.tick ≠ 7) ∧
    (let s := { State.reset.setTim (fun t => { t with pend := some ⟨false, -5, true, 0, 7⟩ }) with mono := 2 * uS }
     s.tim.edge = none ∧ 0 + uS + uS / 2 ≤ s.mono) := by decide +kernel
theorem wit_secondBoundary : (let s := { st [(timB + 0x50, 8, 8, 1)] with tb := uS }
     secOf s.tb ≠ s.tim.lastSec ∧ s.tim.pend = none ∧ s.tim.src = 0 ∧ s.secondsValid = true ∧ s.timBit (timB + 0x9C) 30 = false ∧
       s.timBit (timB + 0x9C) 29 = false ∧ s.tq = 0) ∧
    secOf State.reset.tb = State.reset.tim.lastSec ∧
    (let s := { State.reset.setTim (fun t => { t with src := 1 }) with tb := uS }
     s.fld (timB + 0x4C) 2 0 = 0 ∧ s.tim.src ≠ 0 ∧ s.tick ≠ s.tim.srcTick) ∧
    (let s := { (st [(timB + 0x4C, 7, 4, 3)]).setTim (fun t => { t with src := 5 }) with mono := 16 * uS }
     s.tim.src = 5 ∧ (s.trk 2).lost = false ∧ s.tim.servoAt + s.timF (timB + 0x4C) 7 4 * uS ≤ s.mono) := by decide +kernel
theorem wit_ppsIn : (let s := st [(timB + 0x80, 31, 31, 1)]
     s.timBit (timB + 0x80) 31 = true ∧ s.timBit (timB + 0x80) 30 = false ∧ (s.trk 0).last = none ∧ isPps s.tim.src = false) ∧
    (let s := { (st [(timB + 0x84, 31, 31, 1)]).setTrk 1 (fun k => { k with last := some 0 }) with mono := 3 * uS }
     (s.trk 1).last = some 0 ∧ s.timBit (timB + 0x84) 31 = true ∧
       (0 : Int) + (2 * uS + uUs : Nat) < (s.mono : Int) - (s.timF (timB + 0x84) 15 0 * uNs : Nat)) ∧
    (st [(timB + 0x50, 9, 9, 1)]).flag (timB + 0x50) 9 = true ∧ Nat.testBit 0x80000001 31 = true := by decide +kernel
theorem wit_leap : (let s := { st [(timB + 0x9C, 30, 30, 1), (timB + 0xA0, 31, 0, 4)] with tb := 5 * uS }
     s.timHeld = false ∧ s.flag (timB + 0x9C) 30 = true ∧ s.rd (timB + 0xA0) + s.fld (timB + 0xA4) 15 0 * 2 ^ 32 ≤ secOf s.tb ∧
       s.tim.leapFrom < secOf s.tb) ∧ State.reset.timBit (timB + 0x9C) 30 = false := by decide +kernel
theorem wit_ppsOut : (let s := { st [(timB + 0x88, 31, 31, 1)] with tb := 5 * uS }
     s.timBit (timB + 0x88) 31 = true ∧ s.timBit (timB + 0x88) 30 = false ∧ s.riseNow 0 = true ∧
       s.riseSec 0 + 1 ≠ mget (fun _ => 0) s.tim.lastRise 0) ∧
    (let s := State.reset.setTim (fun t => { t with pulses := [(1, some ⟨0⟩)] })
     mget (fun _ => none) s.tim.pulses 1 = some ⟨0⟩ ∧ 0 ≤ s.mono) := by decide +kernel
theorem wit_tsu : (let s := st [(macPort 3 + 8, 2, 0, 4)]; s.linkIsUp 3 = true ∧ s.flag (tsuB 3 + 0x50) 2 = false) ∧
    (let s := { st [(tsuB 3 + 0x50, 2, 2, 1)] with mono := 800 * uUs }
     s.flag (tsuB 3 + 0x50) 2 = true ∧ (s.tsuGet 3).calAt + 800 * uUs ≤ s.mono ∧ s.mono ≤ (s.tsuGet 3).calAt + 2000 * uUs) ∧
    (let s := State.reset.setTsu 15 (fun x => { x with txts := [⟨1, 2, 3, 4⟩] }); (s.tsuGet 15).txts = [⟨1, 2, 3, 4⟩]) := by decide +kernel
theorem wit_ptm : (let s := (st [(ptmB 2, 31, 31, 1)]).setFn 258 (fun x => { x with ptmEnable := true })
     s.flag (ptmB 2) 31 = true ∧ (s.fnGet 258).ptmEnable = true ∧ (s.ptmGet 2).opened = none ∧ (s.ptmGet 2).lastStart = none) ∧
    (let s := { State.reset.setTim (fun t => { t with ptm := [(2, { opened := some 0, fails := 2 })] }) with mono := 101 * uUs, tb := 9 * uNs }
     (s.ptmGet 2).opened = some 0 ∧ 0 + 100 * uUs < s.mono ∧ (s.ptmGet 2).fails = 2 ∧ 8 * uNs ≤ s.tb ∧ s.tb + 8 * uNs < uWrap) ∧
    (let s := { State.reset.setTim (fun t => { t with ptm := [(2, { opened := some 0 })] }) with mono := 100 * uUs }
     (s.ptmGet 2).opened = some 0 ∧ s.mono ≤ 0 + 100 * uUs) := by decide +kernel

/-! ### The Tail and the stream port -/

/-- A TAIL that records, with a chain. -/
def tailUp : State := (st [(tailB + 0x40, 31, 31, 1), (tailB + 8, 2, 0, 0)]).setTl (fun t => { t with hasChain := true, epochWritten := true })

theorem wit_checkpoints : (let s := { tailUp.setTl (fun t => { t with body := [default] }) with mono := uS }
     s.tl.body ≠ [] ∧ s.tl.opened + s.tailLinkNs * uNs ≤ s.mono) ∧
    (let s := { tailUp with mono := 1000000 * uS }
     s.tailOn = true ∧ s.cpRoom = true ∧ s.tl.gap = none ∧ s.tl.due = none ∧ s.tl.tqStore = none ∧ s.tl.slots = [] ∧
       s.tl.lastCp + s.fld (tailB + 0x48) 31 16 * uMs ≤ s.mono ∧ s.tl.lastCp + s.fld (tailB + 0x48) 15 0 * uMs ≤ s.mono ∧ s.cpNow = none) ∧
    State.reset.tailOn = false ∧
    (let s := tailUp.setTl (fun t => { t with slots := [0], cpAt := some (t.lastCp, .request) })
     s.tailOn = true ∧ s.tl.tqStore = none ∧ s.cpNow = some .request) ∧
    (let s := tailUp.setTl (fun t => { t with due := some .request })
     s.tl.due ≠ none ∧ s.tl.tqStore = none ∧ s.cpRoom = true ∧ s.tl.gap = none) ∧
    (let s := tailUp.setTl (fun t => { t with tqStore := some ⟨0, 0, 0, 0, false, 0, 0, none, 0⟩ }); s.tl.tqStore ≠ none ∧ s.tqRoom = true ∧ s.tl.gap = none) := by decide +kernel
theorem wit_sign : (let s := (st [(cipB + 0x200, 31, 30, 3)]).setTl (fun t => { t with slots := [default] })
     s.tl.slots ≠ [] ∧ s.tl.signing = false ∧ s.idPresent = true) ∧
    (let s := State.reset.setTl (fun t => { t with slots := [default], signing := true }); s.tl.slots = [default] ∧ s.tl.signing = true) := by
  decide +kernel
/-- STR is ACTIVE with credit, and a keyed GDDR6 has a Tail-ring region from address 0. -/
def linkUp : State :=
  (inForce (st [(strB + 8, 2, 0, 0), (strB + 0x44, 2, 0, 2), (mciB + 0x40, 31, 31, 1), (memReg 0 0, 31, 28, 12), (memReg 0 2, 31, 0, 1024),
    (tailB + 0x58, 15, 0, 1), (memCh 0 + 4, 7, 0, 0)])).setSl (fun l => { l with credit := true })

theorem wit_ring : (let s := (linkUp.setTl (fun t => { t with ring := [7] })).memWrite 0 (List.replicate 64 0)
     s.tl.ring[s.tl.rd]? = some 7 ∧ s.tailSink = 0 ∧ s.strTakes 1 = true ∧ s.memServes (s.ringPlace s.tl.rd) 64 = true ∧
       s.memAllowed .ringRd (s.ringPlace s.tl.rd) 64 false = true ∧ (s.ringLoad s.tl.rd).1 = some 0) ∧
    (let s := (linkUp.setTl (fun t => { t with ring := [7] })).setFld (mciB + 0x40) 31 31 0
     s.strTakes 1 = true ∧ s.memServes (s.ringPlace s.tl.rd) 64 = true ∧ s.memAllowed .ringRd (s.ringPlace s.tl.rd) 64 false = false) := by
  decide +kernel
theorem wit_drain : (let s := (st [(tailB + 0x308, 31, 0, 1), (hifB + 0x1008, 2, 0, 2), (hifB + 0x8000 + 16 * 256, 31, 31, 1)]).setTl (fun t => { t with drainQ := [⟨0, false, 0, 0⟩] })
     s.tl.drainQ ≠ [] ∧ s.drainUp = true ∧ (s.rd (tailB + 0x30C) + 2 ^ 32 - s.rd (tailB + 0x310)) % 2 ^ 32 < s.rd (tailB + 0x308) ∧
       (s.rd (tailB + 0x30C) + 2 ^ 32 - 0) % 2 ^ 32 ≤ s.rd (tailB + 0x308) ∧
       s.rd (tailB + 0x308) < (s.rd (tailB + 0x30C) + 2 ^ 32 - 1) % 2 ^ 32) := by decide +kernel
theorem wit_flits : (let s := linkUp.setSl (fun l => { l with waiting := [⟨0, false, 0, 0⟩] })
     s.sl.waiting ≠ [] ∧ s.strState = 2 ∧ s.flitRoom 0 = true) ∧ linkUp.sl.waiting = [] ∧
    (let s := { linkUp.setSl (fun l => { l with kept := [⟨5, [], [], 0⟩], timeouts := 3 }) with mono := uS }
     s.sl.kept ≠ [] ∧ s.strState = 2 ∧ s.sl.progress + s.fld (strB + 0x40) 15 0 * uUs ≤ s.mono ∧ 3 ≤ s.sl.timeouts) := by decide +kernel
theorem wit_return : fseqLe (linkUp.credFseq % 2 ^ 40) (2 ^ 39 - 1) = true ∧
    (let s := linkUp.setSl (fun l => { l with kept := [⟨5, [], [], 0⟩] })
     (∃ f ∈ s.sl.kept, fseqLe (f.fseq % 2 ^ 40) 5 = true) ∧ (∃ f ∈ s.sl.kept, fseqLe 5 (f.fseq % 2 ^ 40) = true)) ∧
    (let s := { st [(strB + 0x44, 2, 0, 1)] with mono := uMs }
     s.strState = 1 ∧ s.sl.failed = false ∧ s.sl.t0 + uMs ≤ s.mono ∧ s.sl.step + 1 ≤ 2) ∧
    retCrcOk 0 = true ∧ retCrcOk 1 = false ∧ readReturnWord 0x7000000000000000 = .retBadWord 0x7000000000000000 ∧
    (let s := { (st [(strB + 0x44, 2, 0, 1)]).setSl (fun l => { l with failed := true }) with mono := 150 * uMs }
     s.strState = 1 ∧ s.sl.failed = true ∧ s.sl.t0 + 150 * uMs ≤ s.mono) ∧
    (let s := st [(strB + 8, 2, 0, 0), (strB + 0x40, 31, 31, 1)]; s.strState = 0 ∧ s.running strB = true ∧ s.flag (strB + 0x40) 31 = true) := by
  decide +kernel

/-! ### Ports -/

theorem wit_linkUp : (let s := port 0; s.linkState 0 = 0 ∧ s.portUsed 0 = true ∧ s.fecOk 0 = true ∧ s.running (macB 0) = true) ∧
    (let s := (port 0).setFld (macPort 0 + 4) 9 8 0; s.linkState 0 = 0 ∧ s.portUsed 0 = true ∧ s.fecOk 0 = false ∧ s.flag (macPort 0 + 8) 7 = false) ∧
    (port 1).linkState 0 = 1 ∧
    (let s := (port 2).setMac 0 (fun m => { m with cfg := 0x220 })
     s.linkState 0 = 2 ∧ s.mono < (s.mac 0).at_ + 3 * uS ∧
       [((1 : BitVec 4), (2 : BitVec 2))].contains (BitVec.ofNat 4 (s.fld (macB 0 + 0x40) 3 0), BitVec.ofNat 2 (bits (s.mac 0).cfg 9 8)) = true) ∧
    (let s := { port 2 with mono := 3 * uS }; s.linkState 0 = 2 ∧ (s.mac 0).at_ + 3 * uS ≤ s.mono) ∧
    (let s := { port 3 with mono := 100 * uMs }
     s.linkState 0 = 3 ∧ (s.mac 0).at_ + 100 * uMs ≤ s.mono ∧ (s.mac 0).at_ + bits (s.mac 0).cfg 31 16 * uUs ≤ s.mono) ∧
    (port 5).linkState 0 = 5 := by decide +kernel
theorem wit_linkDown : (port 4).linkState 0 = 4 ∧ ((port 4).mac 0).cur = none ∧ ((port 4).mac 0).staged = [] ∧
    ((port 4).rxLane 0 3 ∈ (port 4).portLanes 0) ∧ ((port 1).rxLane 0 0 ∈ (port 1).portLanes 0 ∧ (port 1).linkState 0 ≠ 4) := by decide +kernel

/-- A frame of 64 bytes with its FCS. -/
def frame64 : List Byte :=
  let b : List Byte := [2, 0, 0, 0, 0, 1, 2, 0, 0, 0, 0, 2, 8, 0] ++ List.replicate 46 0
  b ++ bytesLE 4 (crc32 b).toNat

theorem wit_rxFrame : (let s := ((port 4).setFld (prsB 0 + 8) 2 0 0).setFld (matB 0 + 8) 2 0 0
     s.linkIsUp 0 = true ∧ s.blkState (macB 0) ≠ 1 ∧ s.rxCheck 0 frame64 false = none ∧ beAt (frame64.take 60) 12 2 ≠ 0x8808 ∧
       (s.secCfg 0).testBit 31 = false ∧ s.running (prsB 0) = true ∧ s.running (matB 0) = true) ∧
    State.reset.linkIsUp 0 = false ∧ (port 4).rxCheck 0 (List.replicate 10 0) false ≠ none ∧
    (let s := (port 4).setFld (macB 0 + 8) 2 0 1; s.linkIsUp 0 = true ∧ s.blkState (macB 0) = 1) := by decide +kernel
theorem wit_pause : (let s := State.reset.setMac 0 (fun m => { m with paused := [(8, 0)], ignore := [(3, 0)] })
     (s.mac 0).paused.any (fun e => e.1 = 8 && decide (e.2 ≤ s.mono)) = true ∧ (3, 0) ∈ (s.mac 0).ignore) ∧
    (let s := { (st [(macPort 0 + 0x18, 15, 0, 5)]).setMac 0 (fun m => { m with paused := [(8, 9 * uMs)] }) with mono := 5 * uMs }
     s.fld (macPort 0 + 0x18) 15 0 ≠ 0 ∧ (8, 9 * uMs) ∈ (s.mac 0).paused ∧ mget (fun _ => 0) (s.mac 0).pausedSince 8 = 0 ∧
       0 + s.fld (macPort 0 + 0x18) 15 0 * uMs ≤ s.mono ∧ 0 + s.fld (macPort 0 + 0x18) 15 0 * uMs ≤ 9 * uMs) ∧
    (let s := { ((port 4).setFld (macPort 0 + 0x10) 31 0 0xFFFFFFFF).setMac 0 (fun m => { m with xoff := [(8, 1)], fcb := [(8, 4000)] }) with mono := uS }
     mget (fun _ => 0) (s.mac 0).xoff 8 = 0 + 1 ∧ 0 + s.txTime 0 (32768 * 64) ≤ s.mono) := by decide +kernel
theorem wit_tx : (let s := (port 4).setMac 0 (fun m => { m with staged := [aCopy 60] })
     s.linkIsUp 0 = true ∧ (s.mac 0).cur = none ∧ (s.mac 0).busyTo ≤ s.mono ∧
       (s.mac 0).staged.find? (fun c => !s.isPaused 0 c.queue) = some (aCopy 60) ∧ s.secWants 0 (aCopy 60).f = false ∧ (aCopy 60).f.ptpOff = none ∧
       s.clearOfHeld 0 ((aCopy 60).f.bytes.length + 4) = true ∧ s.recClass (aCopy 60).f 1 = none) ∧
    (let s := (port 4).setMac 0 (fun m => { m with cur := some ⟨aCopy 60, 64, 0, ⟨0, false, 0⟩⟩ }); (s.mac 0).cur ≠ none ∧ 0 ≤ s.mono) := by
  decide +kernel
theorem wit_macsecModule : (¬ (Nat.testBit 0x83 7 = true ∧ bits 0x83 6 4 ≠ 0)) ∧ (State.reset.mac 0).saPend = none ∧ (State.reset.mac 0).cur = none ∧
    (Nat.testBit 0x90 7 = true ∧ bits 0x90 6 4 ≠ 0) ∧ (State.reset.modGet 0).busy = none ∧
    (1 ≤ bits 0x40080000 23 16 ∧ bits 0x40080000 23 16 ≤ (if Nat.testBit 0x40080000 30 then 8 else 128)) ∧
    (1 ≤ bits 0x00800000 23 16 ∧ bits 0x00800000 23 16 ≤ (if Nat.testBit 0x00800000 30 then 8 else 128)) ∧
    (if Nat.testBit 0x40090000 30 then 8 else 128) < bits 0x40090000 23 16 ∧
    (let s := (st [(macB 0 + 0x68, 31, 31, 1)]).setMod 0 (fun m => { m with busy := some (false, 128) })
     s.flag (macB 0 + 0x68) 31 = true ∧ (s.modGet 0).busy = some (false, 128)) ∧
    State.reset.flag (macB 0 + 0x68) 31 = false ∧ State.reset.flag (macB 0 + 0x68) 30 = false := by decide +kernel
/-! ### Pipelines and tables -/

/-- A frame of n zero bytes. -/
def aFrame (n : Nat) : Frame := { id := 1, bytes := List.replicate n 0, src := .port 0 }

theorem wit_pipes : State.reset.unitHot 13 = true ∧
    (let s := State.reset.setPipe 1 (fun x => { x with arr := [aFrame 60] }); (s.pipe 1).arr = [aFrame 60]) ∧
    (let s := State.reset.setPipe 1 (fun x => { x with recirc := [aFrame 60] }); (s.pipe 1).arr = [] ∧ mdF (aFrame 60).md 3 27 26 < 3) ∧
    (let s := (st [(prsB 1 + 8, 2, 0, 0), (matB 1 + 8, 2, 0, 0)]).setPipe 1 (fun x => { x with host := [aFrame 60], clus := [aFrame 61] })
     s.running (prsB 1) = true ∧ s.running (matB 1) = true ∧ (s.pipe 1).recirc = [] ∧ (s.pipe 1).clusTurn = false ∧ (s.pipe 1).host ≠ []) ∧
    (let s := State.reset.setPipe 1 (fun x => { x with egress := [aCopy 60] }); (s.pipe 1).egress = [aCopy 60]) ∧
    State.reset.running (prsB 1) = false := by decide +kernel
theorem wit_swap : State.reset.flag (matB 2 + 0x48) 9 = false ∧ State.reset.flag (matB 2 + 0x48) 31 = false ∧
    (let s := st [(matB 2 + 0x48, 9, 9, 1), (matB 2 + 0x48, 31, 31, 1)]
     s.flag (matB 2 + 0x48) 9 = true ∧ s.oldIn 2 = 0 ∧ s.flag (matB 2 + 0x48) 31 = true ∧ s.oldEg 2 = 0) := by decide +kernel
theorem wit_scrub : (let s := st [(prsB 1 + 0x4C, 31, 31, 1)]
     s.flag (prsB 1 + 0x4C) 31 = true ∧ s.blkState (prsB 1) ≠ 3 ∧ (s.scrub 1).done + 1 < 2 * prsWords ∧
       s.scrubDue 1 (2 * prsWords) (s.fld (prsB 1 + 0x4C) 15 0 * uMs) = true) ∧
    (let s := st [(matB 1 + 0x40, 31, 31, 1)]
     s.flag (matB 1 + 0x40) 31 = true ∧ (s.scrub 5).done + 1 < 2 * (matInWords + matEgWords) ∧
       s.scrubDue 5 (2 * (matInWords + matEgWords)) (s.fld (matB 1 + 0x40) 15 0 * uMs) = true) ∧
    (let s := st [(fwdB + 0x40, 31, 31, 1), (fwdB + 8, 2, 0, 0)]
     s.flag (fwdB + 0x40) 31 = true ∧ s.running fwdB = true ∧ (s.scrub 8).done < 4 * fwdSlots ∧
       s.scrubDue 8 s.scrubSlots (s.fld (fwdB + 0x40) 15 0 * uMs) = true) ∧
    (let s := { (st [(fwdB + 0x40, 31, 31, 1), (fwdB + 8, 2, 0, 0)]).setScrub 8 ⟨0, 4 * fwdSlots⟩ with mono := 100000 * uS }
     4 * fwdSlots ≤ (s.scrub 8).done ∧ (s.scrub 8).done + 1 < s.scrubSlots ∧ s.trieAt ((s.scrub 8).done - 4 * fwdSlots) = some (0, 0, 16, 0) ∧
       s.scrubDue 8 s.scrubSlots (s.fld (fwdB + 0x40) 15 0 * uMs) = true) := by decide +kernel

/-- Ingress table 3 of pipeline 1: hashed, single entries of a 32-bit key, 16 buckets; table 4: ternary; table 5: IPv4 prefixes. ENTRY of
interface 0 holds a valid entry of key 0, SLOT 0. -/
def tables : State := st [(tdirA 0 1 3, 31, 31, 1), (tdirA 0 1 3, 30, 28, 1), (tdirA 0 1 3, 23, 15, 32), (tdirA 0 1 3 + 4, 4, 0, 4),
  (tdirA 0 1 4, 31, 31, 1), (tdirA 0 1 4, 30, 28, 3), (tdirA 0 1 4, 23, 15, 32), (tdirA 0 1 4 + 4, 4, 0, 4),
  (tdirA 0 1 5, 31, 31, 1), (tdirA 0 1 5, 30, 28, 4), (fwdCmd 0 + 0x80, 31, 31, 1), (fwdB + 8, 2, 0, 0)]

theorem wit_tables : tables.flag (fwdCmd 0 + 4) 31 = false ∧
    (let v := 2 * 2 ^ 22 + 3 * 2 ^ 17; bits v 27 26 = 0 ∧ bits v 25 22 = 2 ^ 1 ∧ bits v 21 17 = 3) ∧
    (let tb := tables.tab 0 1 3
     tb.en = true ∧ tb.kind = 1 ∧ tb.entryOk (tb.arg (tables.fwdArgs 0)) = true ∧ tb.valid (tb.arg (tables.fwdArgs 0)) = true ∧
       (tables.find tb (tb.keyOf (tb.arg (tables.fwdArgs 0)))).1 = none ∧
       (tb.slots (tb.keyOf (tb.arg (tables.fwdArgs 0)))).find? (tables.slotFree tb) ≠ none ∧ tb.slotOk 63 = true ∧ tables.entryBad tb 63 = false) ∧
    (let tb := tables.tab 0 1 3
     let s := tables.setEntry tb ((tb.slots 0).getD 7 0) (tb.mark (tb.arg (tables.fwdArgs 0)) 1 5)
     (s.find tb (tb.keyOf (tb.arg (s.fwdArgs 0)))).1 = some ((tb.slots 0).getD 7 0)) ∧
    (let tb := tables.tab 0 1 4
     tb.en = true ∧ tb.kind = 3 ∧ tb.base ≤ (tables.fwdArgs 0).slot ∧ (tables.fwdArgs 0).slot < tb.base + 2 ^ tb.log2 ∧
       bits (tables.fwdArgs 0).aux 93 74 = 0) ∧
    (let tb := tables.tab 0 1 5
     let e := (tables.fwdArgs 0).entry >>> 256
     tb.en = true ∧ tb.kind = 4 ∧ e.testBit 255 = true ∧ bits e 254 248 = 0 ∧ bits e 225 128 = 0 ∧ bits e 247 240 ≤ 32 ∧
       bits e 127 0 % 2 ^ (128 - bits e 247 240) = 0 ∧ mget (fun _ => 0) tables.dp.fwd.lpm (lpmKey 1 (tb.base % 4) (bits e 247 240) (bits e 127 0)) = 0 ∧
       tables.fld (lpmUnits 1) 20 0 + 1 ≤ 1048576) := by decide +kernel
theorem wit_deepTable : (let s := inForce (st [(tdirA 2 0 7, 31, 31, 1), (tdirA 2 0 7, 30, 28, 1), (tdirA 2 0 7, 23, 15, 32), (tdirA 2 0 7 + 8, 4, 0, 10),
       (fwdCmd 1 + 0x80, 31, 31, 1), (mciB + 0x40, 31, 31, 1), (memReg 0 0, 31, 28, 10), (memReg 0 2, 31, 0, 1024)])
     let tb := s.tab 2 0 7
     tb.en = true ∧ tb.kind = 1 ∧ tb.entryOk (tb.arg (s.fwdArgs 1)) = true ∧ tb.valid (tb.arg (s.fwdArgs 1)) = true ∧
       (s.find tb (tb.keyOf (tb.arg (s.fwdArgs 1)))).1 = none ∧
       (match (tb.slots (tb.keyOf (tb.arg (s.fwdArgs 1)))).find? (s.slotFree tb) with
        | none => false
        | some i => s.memAllowed .fwd (64 * i) 64 true && (s.safeCh (64 * i) 64).isNone) = true ∧ s.mem.init = none) := by decide +kernel
theorem wit_fwdDone : (let s := State.reset.setFwd (fun f => { f with cmd := [(0, some ⟨0xFFF0, none, none, true⟩)] })
     mget (fun _ => none) s.dp.fwd.cmd 0 = some ⟨0xFFF0, none, none, true⟩) ∧ (0xFFF0 : Nat) < 65536 := by decide +kernel
theorem wit_learn : (let s := (st [(fwdB + 8, 2, 0, 0)]).setLearnQ 2 [(5, 17)]
     s.learnQ 2 = [(5, 17)] ∧ s.running fwdB = true ∧ (s.find (s.tab 3 2 31) 5).1 = none ∧
       ((s.tab 3 2 31).slots 5).find? (s.slotFree (s.tab 3 2 31)) ≠ none) ∧
    (let s := { (st [(fwdB + 8, 2, 0, 0), (fwdB + 0x2000, 25, 24, 2), (fwdB + 0x2100, 25, 24, 0), (fwdB + 0x2200, 25, 24, 0), (fwdB + 0x2300, 25, 24, 0), (fwdB + 0x40, 30, 16, 1)]).setEntry (State.reset.tab 3 0 31) 9 (2 ^ 127) with mono := uS }
     (s.sweepTabs.map (fun t => (t.space, t.pipe, t.per))) = [(3, 0, 1)] ∧ s.dp.fwd.sweptAt + s.fld (fwdB + 0x40) 30 16 * uS ≤ s.mono ∧
       9 ∈ s.occupied (s.tab 3 0 31) ∧ (s.tab 3 0 31).valid (s.entry (s.tab 3 0 31) 9) = true ∧
       (s.tab 3 0 31).static (s.entry (s.tab 3 0 31) 9) = false) ∧
    (let s := State.reset.setFwd (fun f => { f with notify := [1] }); s.dp.fwd.notify = [1]) := by decide +kernel
/-! ### Sequencer, proofing, queues -/

/-- A sequencer member of pipeline 1. -/
def aMember : Member := { f := { id := 1, bytes := List.replicate 60 0, src := .port 4, pipe := 1 }, dest := .one 4 0, pos := 0 }

theorem wit_sequencer : (let s := (st [(seqB + 8, 2, 0, 0), (seqB + 0x40, 31, 31, 1)]).setFifo 1 [aMember]
     s.dp.seq.admitAt ≠ some s.seqCycle ∧ s.dp.seq.emitAt ≠ some s.seqCycle ∧ s.seqHead = some aMember) ∧
    State.reset.seqHead = none ∧
    (let s := State.reset.setSeq (fun q => { q with hold := [aMember] })
     s.dp.seq.emitAt ≠ some s.seqCycle ∧ s.seqHead = none ∧
       firstMember (s.dp.seq.hold.filter (fun m => decide (m.settle ≤ s.seqCycle))) = some aMember) := by decide +kernel

/-- Port 0 up, its release delay calibrated, a held frame of port 0 with release time t. -/
def holding (fetched : Bool) (t : Nat) : State :=
  ((port 4).setFld (prfB + 0x104) 31 31 1).setHeld 0 [⟨aCopy 60, 0, 10 * uNs, some t, fetched, false⟩]

theorem wit_proofing : (let s := inForce (holding false (5 * uNs))
     (match s.nextHeld 0 (fun h => !h.fetched && !h.bad) with
      | none => false
      | some (h, i) => decide (i ≤ s.tb + h.lead) && decide (s.tb ≤ s.startInstant 0 i)) = true ∧
       s.linkIsUp 0 = true ∧ s.running (macB 0) = true ∧ s.deepServes (aCopy 60) = true ∧
       (aCopy 60).f.bytes.length + 4 ≤ s.frameLimit 0 (aCopy 60).f.bytes ∧ s.stagingUsed 0 + (aCopy 60).f.charged ≤ s.stagingShare 0) ∧
    (let s := holding true 0
     (match s.nextHeld 0 (fun _ => true) with
      | none => false
      | some (h, i) => decide (s.startInstant 0 i ≤ s.tb) && decide (h.cp.vport = 0) && h.cp.grp.isNone && h.fetched &&
          !s.heldSending 0 (s.startInstant 0 i) && !s.isPaused 0 h.cp.queue && !s.secWants 0 h.cp.f && h.cp.f.ptpOff.isNone &&
          (s.recClass h.cp.f 1).isNone) = true ∧ (s.mac 0).cur = none ∧ (s.mac 0).busyTo ≤ s.mono) ∧
    (let s := holding false 0; (s.nextHeld 0 (fun _ => true)).any (fun x => decide (s.startInstant 0 x.2 ≤ s.tb) && !x.1.fetched) = true) ∧
    (let s := (holding false 0).setFld (macPort 0 + 8) 2 0 0; s.linkIsUp 0 = false) ∧ State.reset.nextHeld 0 (fun _ => true) = none ∧
    (let s := { State.reset.setPrf (fun f => { f with groups := [{ id := 3, missing := 1, alive := 1, ports := [0], first := some 0, guard := 0 }] }) with mono := uS }
     (s.dp.prf.groups.find? (fun x => x.r.isNone && (match x.first with
        | none => false
        | some t => s.past (t + s.fldA (prfB + 0x40) 15 0 * uUs)))).map (·.id) = some 3) ∧
    (port 4).flag (prfB + 0x104) 30 = false ∧
    (let s := (st [(prfB + 0x104, 30, 30, 1)]).setPrf (fun f => { f with cal := [(0, (0, 5))] })
     s.flag (prfB + 0x104) 30 = true ∧ mget (fun _ => (16, 0)) s.dp.prf.cal 0 = (0, 5)) := by decide +kernel

/-- Port 0 up with everything in RUN and a copy in queue 31 of it. -/
def queued (c : Copy) : State := (((port 4).setFld (schB + 8) 2 0 0 |>.setFld (prsB 0 + 8) 2 0 0).setFld (matB 0 + 8) 2 0 0).setPq 0 31 (fun x => { x with copies := [c] })

theorem wit_queues : (let s := (queued (aCopy 60)).setFld (schB + 0x10000) 5 0 32
     s.running schB = true ∧ s.linkIsUp 0 = true ∧ s.quadServes 0 = true ∧ s.canTake 0 = true ∧
       ((List.range 32).filter (((s.settlePort 0).noteFit 0).eligible 0)).find? (fun q => decide (q < s.spCount 0)) = some 31 ∧
       (s.pq 0 31).copies = [aCopy 60]) ∧
    (let s := (queued (aCopy 60)).setFld (macPort 0 + 8) 2 0 1
     s.linkIsUp 0 = false ∧ (List.range 32).find? (fun q => !(s.pq 0 q).copies.isEmpty) = some 31) ∧
    State.reset.running schB = false ∧
    (let c := { aCopy 60 with deep := true }
     let s := queued c
     (s.pq 0 31).copies.findIdx? (fun c => c.deep && !c.win) = some 0 ∧ s.running schB = true ∧ s.deepServes c = true ∧
       ((List.range 32).map (fun k => (((s.pq 0 k).copies.filter (·.win)).map (·.cells)).sum)).sum + c.cells ≤ 512) ∧
    (let s := { (((queued (aCopy 60)).setFld (orbA 0) 31 30 3).setFld (orbA 0 + 0x20 + 12) 29 0 1000 |>.setFld (orbA 0 + 0x20 + 16) 10 0 1 |>.setFld (orbA 0 + 0x8004) 31 0 1000).setPq 0 31 (fun x => { x with fitAt := some 0 }) with mono := uS }
     let s := s.setOrb 0 (fun o => { o with running := true })
     (s.pq 0 31).fitAt = some 0 ∧ (s.orbRun 0).any (fun b => decide (max 0 (s.orb 0).since + b.cycle ≤ s.mono)) = true ∧
       s.flag (orbA 0) 30 = true ∧ (s.gatesAt 0 s.tb).testBit 31 = false) := by decide +kernel
theorem wit_orbit : (let s := st [(orbA 5, 31, 31, 1), (orbA 5, 1, 1, 1)]; s.orbEn 5 = true ∧ s.orbPending 5 = true ∧ (s.orb 5).start ≤ s.tb) ∧
    (let s := st [(orbA 5 + 0x20 + 0x20 + 16, 10, 0, 1), (orbA 5 + 0x20 + 0x20 + 12, 29, 0, 1000)]
     s.orbPending 5 = false ∧ s.orbEn 5 = false ∧ s.orbActive 5 = 0 ∧
       s.fld (orbA 5 + 0x20 + 0x20 * (1 - s.orbActive 5) + 16) 10 0 ≠ 0 ∧ s.fld (orbA 5 + 0x20 + 0x20 * (1 - s.orbActive 5) + 12) 29 0 ≠ 0) ∧
    (State.reset.dp.sch.polBusy ≤ State.reset.mono ∧ State.reset.fld (polW 0) 23 0 ≤ State.reset.fld (polW 1) 23 0) ∧
    (let s := st [(polW 0, 23, 0, 9)]; s.flag (polW 0) 31 = false ∧ s.fld (polW 1) 23 0 < s.fld (polW 0) 23 0) := by decide +kernel
/-! ### Threads and instructions -/

/-- Thread 144 (C1.E2.T0) runs on its engine in a cluster in RUN, at a CODE section whose first word is w. -/
def issuing (w : Nat) : State :=
  (((st [(engB 1 + 8, 2, 0, 0)]).setClu 1 (fun x => { x with code := [(0, BitVec.ofNat 32 w)], sect := [(0, 64)] })).setThr 144
    (fun x => { x with state := 2 })).setEng 18 (fun x => { x with run := some 144, last := 0 })
/-- The same thread STALLED with cause k. -/
def stalledAt (w k : Nat) : State := ((issuing w).setThr 144 (fun x => { x with state := 3, stall := k })).setEng 18 (fun x => { x with run := none })

/-- Words of R256's formats with OP and FN of Tables 12-2 and 12-4, written by hand: ADD g3,g1,g2; ANDN g31,g30,g29; ADDI g1,g0,−1;
SHI right logical by 63; INSH g5 at 3; LDWS g2,8(g1); STD g2,8(g1); BGEU g1,g2,−4; JAL g1,0x100; AMO CAS; CHN WR of 64 bytes; TSR g2. -/
theorem test_iluken_words : [0x00611000, 0x03FEE805, 0x0420FFFF, 0x1C41403F, 0x20A3ABCD, 0x58410008, 0x6C410008, 0x9422FFFC, 0x98200100,
      0xA0611004, 0xE061113F, 0xF0400000].map iDecode =
    [some .add, some .andn, some .addi, some .shi, some .insh, some .ldws, some .std, some .bgeu, some .jal, some .cas, some .wr, some .tsr] ∧
    (wRd 0x00611000, wRs1 0x00611000, wRs2 0x00611000) = (3, 1, 2) := by decide +kernel
/-- OP values and FN values without a meaning, and reserved fields that are not 0 (R257). -/
theorem test_illegal_words : [0x00000019, 0x2C000000, 0x5C000000, 0xA0000007, 0xF8000000, 0x1C000040, 0x98010000, 0xF0200000].map iDecode =
    List.replicate 8 none := by decide +kernel

theorem wit_issues : ∀ w ∈ (List.range 25) ++ (List.range 6).map (fun i => (i + 1) * 2 ^ 26) ++ [7 * 2 ^ 26, 8 * 2 ^ 26, 9 * 2 ^ 26, 10 * 2 ^ 26]
      ++ (List.range 7).map (fun i => (0x10 + i) * 2 ^ 26) ++ (List.range 4).map (fun i => (0x18 + i) * 2 ^ 26)
      ++ (List.range 8).map (fun i => (0x20 + i) * 2 ^ 26) ++ (List.range 7).map (fun i => 0x28 * 2 ^ 26 + i)
      ++ (List.range 6).map (fun i => (0x30 + i) * 2 ^ 26) ++ (List.range 4).map (fun i => 0x36 * 2 ^ 26 + i) ++ [0x37 * 2 ^ 26]
      ++ [0, 2, 4, 6].map (fun i => 0x38 * 2 ^ 26 + i * 2 ^ 7) ++ [0, 1, 2, 4].map (fun i => 0x39 * 2 ^ 26 + i) ++ [0x39 * 2 ^ 26 + 2 * 2 ^ 16 + 3]
      ++ [0x3A * 2 ^ 26, 0x3B * 2 ^ 26, 0x3C * 2 ^ 26 + 2 * 2 ^ 21] ++ (List.range 4).map (fun i => 0x3D * 2 ^ 26 + i),
    (iDecode w).isSome = true ∧ (issuing w).issuer 1 2 = some 144 ∧ cluOf 144 = 1 ∧ (issuing w).breaks 144 = false ∧ (issuing w).replayHolds 144 = false ∧
      (issuing w).inCode 1 ((issuing w).thr 144).pc = true ∧ (issuing w).wordAt 144 = w ∧ ((issuing w).thr 144).step = false := by decide +kernel
theorem wit_addresses : (let s := (issuing 0x4C410000).setGr 144 1 0xFFFF8; s.effAddr 144 0x4C410000 = 0xFFFF8 ∧ 0xFFFF8 % 8 = 0) ∧
    (let s := (issuing 0x4C41FFFF).setGr 144 1 0; s.effAddr 144 0x4C41FFFF = 2 ^ 64 - 1) ∧
    (let s := issuing 0x9C410002; s.effAddr 144 0x9C410002 % 4 ≠ 0) ∧ iDecode 0xFC000000 = none := by decide +kernel
theorem wit_turns : (let s := { (issuing 0).setFld (engB 1 + 0x40) 15 0 1 with mono := uS }
     (s.eng 18).run = some 144 ∧ s.cluRuns 1 = true ∧ s.replays 1 = false ∧ s.cluHeld 1 = false ∧ (s.thr 144).state = 2 ∧
       (s.eng 18).quant + (s.eng 18).qlen * 32768 ≤ s.mono ∧ (∀ i : Fin 8, 8 * 18 + i.val ≠ 144 → (s.thr (8 * 18 + i.val)).state ≠ 1)) ∧
    (let s := ({ issuing 0 with mono := uS }.setFld (engB 1 + 0x12000) 2 0 5).setThr 149 (fun x => { x with state := 1 })
     (s.thr 149).state = 1 ∧ (s.turnPick 18 (some 144)).isSome = true) := by decide +kernel
theorem wit_waits : (let s := (stalledAt 0xE4000000 0).setThr 144 (fun x => { x with state := 4, mask := 2 ^ 30 + 1, sig := [(30, 1)] })
     s.thrLive 144 = true ∧ (s.thr 144).state = 4 ∧ (s.thr 144).step = false ∧ s.evPick 144 (s.thr 144).mask = some 30 ∧ s.bindKind 144 30 = 0) ∧
    State.reset.evPick 144 1 = none ∧
    (let s := State.reset.setThr 144 (fun x => { x with timer := some 0 }); s.timerDue 144 = true) ∧ State.reset.timerDue 144 = false ∧
    (let s := State.reset.setThr 144 (fun x => { x with sig := [(0, 255)] }); 255 ≤ s.sigCount 144 0 ∧ s.bindKind 144 1 = 0 ∧ s.sigCount 144 1 < 255) := by
  decide +kernel
theorem wit_deadlock : (let s := { (st [(engB 1 + 8, 2, 0, 0), (engB 1 + 0x58, 31, 31, 1)]).setThr 144 (fun x => { x with state := 4, mask := 1 }) with mono := uS }
     s.dlStart 1 = some 0 ∧ (s.dlCfg 1).1 = true ∧ 0 + (s.dlCfg 1).2 ≤ s.mono ∧ s.dlAt 1 ≠ some 0 ∧
       (∀ c ∈ s.scopeClus 1, s.flag (engB c + 0x5C) 31 = false)) ∧ State.reset.dlStart 12 = none := by decide +kernel
theorem wit_channels : (let s := { State.reset.setChan 9 (fun x => { x with slots := [⟨3, 144, 0, 0, false⟩] }) with mono := 65536 * uUs }
     (s.chan 9).slots.find? (fun x => x.st = 0) = some ⟨3, 144, 0, 0, false⟩ ∧ 0 + s.fld (chnA 9 + 4) 15 0 * uUs < s.mono) ∧
    (let s := State.reset.setChan 9 (fun x => { x with slots := [⟨3, 144, 0, 0, true⟩] })
     (s.chan 9).slots.find? (fun x => x.st = 0) = some ⟨3, 144, 0, 0, true⟩ ∧ s.mono ≤ 0 + s.fld (chnA 9 + 4) 15 0 * uUs) ∧
    (let s := (issuing 0).setFld (chnA 0) 31 24 0x82
     s.chanEn 0 = true ∧ (s.thr 144).res.length < 4 ∧ s.chanRoom 0 = true ∧ (s.chan 0).resWait = []) ∧
    (let s := ((issuing 0).setChan 0 (fun x => { x with slots := [⟨3, 144, 0, 0, false⟩] })).setThr 144 (fun x => { x with res := [(0, 3)] })
     (s.heldSlot 144 (slotRef 0 3)).map (fun x => (x.1, x.2.1, x.2.2.isSome)) = some (0, 3, true)) ∧
    (let s := (issuing 0xE0000300).setChan 0 (fun x => { x with slots := [⟨3, 144, 0, 1, false⟩] })
     (s.chan 0).rdWait = [] ∧ inDmem (s.opB 144 0xE0000300) (s.slotBytes 0) = true) := by decide +kernel
theorem wit_loads : State.reset.blkState (engB 4) = 2 ∧
    (let s := inForce (st [(engB 4 + 8, 2, 0, 4), (mciB + 0x40, 31, 31, 1), (memReg 0 0, 31, 28, 9), (memReg 0 2, 31, 0, 1024), (memCh 0 + 4, 7, 0, 0)])
     let r := s.memRead 0 0 .clean
     s.blkState (engB 4) = 4 ∧ s.memAllowed (.loader 4) 0 (s.fld (engB 4 + 0x50) 20 0) false = true ∧
       s.memServes 0 (s.fld (engB 4 + 0x50) 20 0) = true ∧ r.1 = ([], false) ∧ imgCheck [] ≠ 0) ∧
    (let s := st [(engB 4 + 8, 2, 0, 4)]; s.memAllowed (.loader 4) 0 0 false = false) ∧ (st [(engB 4 + 8, 2, 0, 1)]).blkState (engB 4) ≤ 1 := by
  decide +kernel
/-! ### Services -/

/-- Function 3 is ENABLED; context 5 of it is the given one, cached, at home on C2, for flow 77. -/
def svc (x : Ctx) : State :=
  ((st [(tfnStat 3, 2, 0, 1), (engB 2 + 8, 2, 0, 0)]).setCtx 5 (fun _ => { x with owner := 19, home := 2, flowid := 77 })).setCache 5 [5]
/-- A copy of a frame on its way to C2's queue 4, for flow 77. -/
def toC2 (bs : List Byte) (reason : Nat) : Copy :=
  { f := { id := 1, bytes := bs, src := .port 0, md := mdPut 0 2 31 0 77, reason := reason }, vport := 274, queue := 4, cells := 1 }
/-- An Ethernet and an IPv4 header before n bytes of a protocol. -/
def ip4 (proto : Byte) (n : Nat) : List Byte :=
  List.replicate 12 2 ++ [8, 0, 0x45, 0] ++ bytesBE 2 (20 + n) ++ [0, 0, 0, 0, 64, proto, 0, 0, 10, 0, 0, 1, 10, 0, 0, 2]
/-- A TCP segment with RST at sequence number 0. -/
def rstFrame : List Byte := ip4 6 20 ++ [0, 1, 0, 2, 0, 0, 0, 0, 0, 0, 0, 0, 0x50, 0x14, 0, 0, 0, 0, 0, 0]

theorem wit_slowPath : (let s := (st [(engB 2 + 8, 2, 0, 0)]).setVq 274 4 [toC2 (ip4 1 8) 0x20]
     s.vq 274 4 = [toC2 (ip4 1 8) 0x20] ∧ s.running (engB 2) = true ∧ s.slowPolicy 0x20 = .icmp ∧ s.svc.icmpSec = secOf s.now) ∧
    State.reset.slowPolicy 0x0C = .mgc ∧ State.reset.slowPolicy 0x01 = .discard ∧
    (let s := State.reset.setSvc (fun x => { x with custom := [0x41] }); s.slowPolicy 0x41 = .custom) ∧
    State.reset.vq 274 4 = [] ∧ State.reset.policyAllowed 0x0E .reassemble = true ∧ State.reset.policyAllowed 0x0D .reassemble = false := by
  decide +kernel
theorem wit_tcpReset : (let s := (svc { kind := 1, state := 2, synRx := true }).setVq 274 4 [toC2 rstFrame 0]
     s.running (engB 2) = true ∧ (tcpOf rstFrame).map (fun g => (g.flags.testBit 2, g.seq)) = some (true, (s.ctx 5).rcvNxt) ∧
       s.ctxOf 2 (mdF (toC2 rstFrame 0).f.md 2 31 0) [1] = some 5 ∧ s.ctxLive (s.ctx 5) = true ∧ (s.ctx 5).owner = 16 + 3 ∧ s.cached 5 = true ∧
       (s.ctx 5).aborted = false) := by decide +kernel
theorem wit_tcpTimers : (let s := { svc { kind := 1, state := 2, sndNxt := 5, sent := [0, 0, 0, 0, 0], retries := 8, req := { kind := 1, rxq := 0, txq := 0, keepMs := 10, keepN := 3 } } with mono := 300 * uS }
     s.ctxLive (s.ctx 5) = true ∧ s.cached 5 = true ∧ (s.ctx 5).awaits = true ∧ (s.ctx 5).sndUna ≠ (s.ctx 5).sndNxt ∧
       (s.ctx 5).sentAt + (s.ctx 5).rto ≤ s.mono ∧ 8 ≤ (s.ctx 5).retries ∧ 0 < (s.ctx 5).req.keepMs ∧
       (s.ctx 5).heardAt + ((s.ctx 5).probes + 1) * (s.ctx 5).req.keepMs * uMs ≤ s.mono) := by decide +kernel
theorem wit_reassembly : (let s := { State.reset.setSvc (fun x => { x with reasm := [{ c := 2, key := [], since := 0 }] }) with mono := uS }
     (s.svc.reasm.find? (fun r => s.past (r.since + s.svc.reasmMs * uMs))).isSome = true) := by decide +kernel
theorem wit_tls : (let b : List Byte := [0x17, 3, 3, 0, 17] ++ List.replicate 17 0
     let s := (((svc { kind := 2, state := 2, link := some 6, keyRx := 9 }).setCtx 6 (fun x => { x with kind := 1, state := 2, stream := b })).setCache 6 [6]).setFld
       (keyAttr 9) 31 0 (State.reset.rd (keyAttr 9))
     (s.ctx 5).link = some 6 ∧ s.ctxLive (s.ctx 5) = true ∧ (s.ctx 5).hold = false ∧ beAt b 3 2 = 17 ∧ beAt b 0 1 = 0x17 ∧ beAt b 1 1 = 3 ∧
       5 + 17 ≤ b.length ∧ (s.ctx 5).recRx < top64 ∧ (s.ctx 5).keyRx ≠ 0 ∧ (s.ctx 5).rxStop = false ∧ s.cached 5 = true ∧ s.cached 6 = true ∧
       (s.ctx 5).recTx + 2 ≤ top64) := by decide +kernel
theorem wit_esp : (let fr := ip4 50 40 ++ bytesBE 4 0x1234 ++ bytesBE 4 9 ++ List.replicate 32 0
     let s := (svc { kind := 3, state := 2, req := { kind := 3, rxq := 0, txq := 0, spi := 0x1234 } }).setVq 274 4 [toC2 fr 0]
     s.ctxOf 2 (mdF (toC2 fr 0).f.md 2 31 0) [3] = some 5 ∧ espOf fr = some (0x1234, 9, List.replicate 8 0, List.replicate 24 0) ∧
       espFresh (s.ctx 5) (espSeq (s.ctx 5) 9) = true ∧ espFresh { s.ctx 5 with espTop := 5000 } 9 = false) := by decide +kernel
theorem wit_nvme : (let b : List Byte := [5, 0, 24, 0] ++ bytesLE 4 24 ++ List.replicate 24 0
     let s := ((svc { kind := 5, state := 2, link := some 6, req := { kind := 5, rxq := 0, txq := 0, hdgst := true } }).setCtx 6
       (fun x => { x with kind := 1, state := 2, stream := b })).setCache 6 [6]
     s.ctxLive (s.ctx 5) = true ∧ leAt b 0 1 ≠ 1 ∧ leAt b 2 1 + 4 ≤ b.length ∧ slice b (leAt b 2 1) 4 ≠ nvmeDigest (b.take (leAt b 2 1)) ∧
       8 ≤ b.length ∧ s.cached 5 = true ∧ s.cached 6 = true) := by decide +kernel
theorem wit_ctxFree : (let s := svc { kind := 1, state := 3 }
     (s.ctx 5).state = 3 ∧ s.steered (s.ctx 5) = false ∧ s.ctxServes 5 = true ∧ (s.ctx 5).aborted = false ∧ (s.ctx 5).unsent = [] ∧
       (s.ctx 5).sndUna = (s.ctx 5).sndNxt ∧ ((s.ctx 5).fin = true → (s.ctx 5).finSent = true)) := by
  refine ⟨by decide +kernel, by decide +kernel, ?_, by decide +kernel, by decide +kernel, by decide +kernel, by decide +kernel⟩
  unfold State.ctxServes State.memAllowed
  have h : (svc { kind := 1, state := 3 }).keyed = false := by decide +kernel
  simp [h]

/-! ### Replay, the cipher complex, memory -/

/-- The cluster C2 captures, in state n; a keyed GDDR6 has a Crumb region (type 5) from address 0. -/
def capturing (n : Nat) : State :=
  inForce (st [(engB 2 + 8, 2, 0, n), (rplB + 8, 2, 0, 0), (rplC 2, 31, 31, 1), (rplC 2 + 0xC, 15, 0, 1), (mciB + 0x40, 31, 31, 1),
    (memReg 0 0, 31, 28, 13), (memReg 0 2, 31, 0, 1024), (memCh 0 + 4, 7, 0, 0)])

theorem wit_capture : (let s := (capturing 0).setCap 2 (fun x => { x with fifo := [7], gap := some (3, 5) })
     (s.cap 2).fifo = [7] ∧ s.blkState rplB ≤ 1 ∧ s.flag (rplC 2 + 0x14) 29 = false ∧ s.memServes (s.crumbAddr 2 (s.cnt (rplHead 2))) 32 = true ∧
       s.memAllowed .crumb (s.crumbAddr 2 (s.cnt (rplHead 2))) 32 true = true ∧ s.safeCh (s.crumbAddr 2 (s.cnt (rplHead 2))) 32 = none ∧ s.mem.init = none ∧
       s.eccAt (s.crumbAddr 2 (s.cnt (rplHead 2))) = false ∧ (s.cap 2).gap = some (3, 5) ∧ s.running rplB = true ∧ (s.cap 2).fifo.length ≤ 1984 ∧
       s.detCfg 2 = true ∧ s.det 2 = true ∧ (s.cap 2).busy = none) ∧
    (let s := (capturing 0).setFld (mciB + 0x40) 31 31 0
     s.memServes (s.crumbAddr 2 0) 32 = true ∧ s.memAllowed .crumb (s.crumbAddr 2 0) 32 true = false) ∧
    (let s := (capturing 0).setFld (rplC 2 + 0x14) 29 29 1; s.flag (rplC 2 + 0x14) 29 = true) ∧
    (let s := { capturing 0 with mono := uS }; s.det 2 = true ∧ (s.cap 2).lastAt + s.fld (rplC 2) 15 0 * uMs ≤ s.mono) ∧
    (State.reset.det 2 = false) := by decide +kernel
theorem wit_replay : (let s := capturing 2; s.rpl.rp = none ∧ s.running rplB = true ∧ 12 ≤ bits (0xF0000 : Word).toNat 19 16) ∧
    (let x : RpSt := { target := 5, lastAt := 0, cluster := 2 }
     let s := { (capturing 2).setFld (rplB + 0x40) 29 29 1 |>.setFld (rplB + 0x58) 31 0 9 |>.setFld (hifB + 0x1008) 2 0 2 |>.setFld (hifFn 256) 31 31 1
       |>.setFld (rplB + 0x70) 31 0 4 with rpl := { rp := some x }, mono := uS }
     s.rpl.rp = some x ∧ x.target < 12 ∧ s.cnt rpPosA ≠ s.rpLast ∧ s.rpHost = true ∧
       ((s.feedOn [0x1 <<< 252]).crumbAt (s.cnt rpPosA)).map kKind = some 1 ∧ ((s.feedOn [0xB <<< 252]).crumbAt (s.cnt rpPosA)).map kKind = some 0xB ∧
       (s.feedOn []).crumbAt (s.cnt rpPosA) = none ∧ x.lastAt + s.rd (rplB + 0x88) * uUs ≤ s.mono ∧ s.cnt rpPosA < s.rpAvail) ∧
    (let s := { State.reset with rpl := { rp := some { target := 5, lastAt := 0, cluster := 2 } } }; s.cnt rpPosA = s.rpLast) := by decide +kernel

/-- SHA-256 of nothing to data memory at 0x40, with its completion at 0x80. -/
def shaSub (op : Byte) : List Byte := [op] ++ List.replicate 23 0 ++ [0x40] ++ List.replicate 14 0 ++ [0xF0] ++ List.replicate 24 0
/-- All cores in service but for those of `busy`, which run a BULK message; the queues of the classes as given. -/
def cipher (busy : List Nat) (q : Sparse (List Msg)) : State :=
  (inForce (st [(cipB + 8, 2, 0, 0), (bootB + 0x40214, 31, 0, 0xFFFFFFFF), (cipB + 0x40, 13, 8, 4)])).setCip (fun x => { x with
    core := busy.map (fun k => (k, some ⟨{ work := .eng 144 0 0x80 ([1, 3] ++ List.replicate 6 0 ++ [0, 0, 16] ++ List.replicate 53 0), cls := 3, started := true }, none⟩)), q := q })

theorem wit_cores : (let m : Msg := { work := .eng 256 0 0x80 (shaSub 5), cls := 2 }
     let s := cipher [] [(2, [m])]
     s.coreFree 7 = true ∧ s.cipOrder.find? s.mayStart = some 2 ∧ s.cipQ 2 = [m] ∧ m.started = false ∧ (s.clu 2).gen = 0 ∧
       s.subCheck 2 (shaSub 5) = 0 ∧ s.keyOk (shaSub 5) = true ∧ s.protOf (shaSub 5) = 0 ∧ subOp (shaSub 5) ≠ 1) ∧
    (let m : Msg := { work := .tap 64, cls := 1 }
     let s := cipher [] [(1, [m])]; s.coreFree 7 = true ∧ s.cipOrder.find? s.mayStart = some 1 ∧ s.cipQ 1 = [m]) ∧
    (let s := cipher [] []; s.cipOrder.find? s.mayStart = none ∧ s.cipQ 0 = []) ∧
    (let m : Msg := { work := .eng 256 0 0x80 (shaSub 6), cls := 0 }
     let s := cipher (List.range 32) [(0, [m])]
     s.cipQ 0 = [m] ∧ s.running cipB = true ∧ (∀ i ∈ cores, s.coreFree i = false) ∧ s.coresOf 0 < s.fldA (cipB + 0x40) 13 8 ∧ s.suspended < 64 ∧
       s.victimCore none ≠ none ∧ s.subCheck 2 (shaSub 6) = 0 ∧ s.keyOk (shaSub 6) = true) ∧
    (let s := { (State.reset.setFld (cipCore 3) 28 28 1).setFld (cipCore 3) 29 29 1 with mono := uS }
     mget (fun _ => none) s.cip.test 3 = none ∧ s.flag (cipCore 3) 28 = true ∧ s.flag (cipCore 3) 29 = true) ∧
    (let s := { State.reset.setCip (fun x => { x with test := [(3, some (5, true))] }) with mono := uS }
     mget (fun _ => none) s.cip.test 3 = some (5, true) ∧ 5 + 40 * uUs ≤ s.mono) := by decide +kernel
theorem wit_seal : (let s := (cipher [] [(2, [{ work := .eng 256 0 0x80 (shaSub 1), cls := 2 }])]).setFld (keyAttr 0) 31 28 10
     subOp (shaSub 1) = 1 ∧ s.cipOrder.find? s.mayStart = some 2 ∧ s.subCheck 2 (shaSub 1) = 0 ∧ s.keyOk (shaSub 1) = true ∧ s.protOf (shaSub 1) = 0 ∧
       s.flag (keyAttr 0) 20 = false ∧ (s.setFld (keyAttr 0) 20 20 1).flag (keyAttr 0) 20 = true ∧ s.cnt (keyCtr 0) + 1 < 2 ^ 64) := by decide +kernel
theorem wit_coreDone : (let r : Run := ⟨{ work := .eng 256 0 0x80 ([5] ++ List.replicate 63 0), cls := 2, started := true }, none⟩
     let s := { (cipher [] []).setCip (fun x => { x with core := [(4, some r)] }) with mono := uS }
     s.coreRun 4 = some r ∧ r.m.at_ + r.m.time (r.m.total - r.m.done) ≤ s.mono ∧ cluOf 256 = 2 ∧ (s.clu 2).gen = 0 ∧
       bufRef 0 = some (0, 0, 0)) := by decide +kernel

/-- Slot 9 VALID for wrapping (USE 2, ALG 2), slot 8 VALID and WRAPPABLE. -/
def wrapping (x : Bool) : State :=
  (st [(keyAttr 9, 31, 22, 0x282), (keyAttr 8, 31, 28, 10), (keyAttr 8, 21, 21, 1)]).setCip (fun y => { y with kw := some ⟨x, 9, 8, 0⟩ })
theorem wit_keys : State.reset.zeroizing = false ∧ attrReserved 0 = false ∧ attrReserved 0x70000000 = true ∧
    keyCheck (2 ^ 31 + 0x60000000 + 0x08000000) (State.reset.keyWord 3) = 0 ∧ keyCheck (2 ^ 31 + 0x40000000) 1 ≠ 0 ∧ State.reset.keyValid 3 = false ∧
    (let s := st [(keyAttr 3, 31, 28, 10)]; s.keyValid 3 = true) ∧
    (let s := st [(cipB + 0x200, 29, 29, 1)]; s.zeroizing = true) ∧
    (let s := { State.reset.setCip (fun x => { x with zeroAt := some 5 }) with mono := uS }; s.cip.zeroAt = some 5 ∧ 5 + 8 * uUs ≤ s.mono) ∧
    State.reset.flag (cipB + 0x244) 31 = false ∧
    (let s := wrapping false
     s.wrapSlot 9 = true ∧ s.keyValid 8 = true ∧ s.flag (keyAttr 8) 21 = true ∧ s.flag (keyAttr 9) 20 = false ∧ s.cnt (keyCtr 9) + 1 < 2 ^ 64 ∧
       ((s.setFld (keyAttr 8) 21 21 0).flag (keyAttr 8) 21 = false)) ∧
    (let s := (wrapping true).setFld (keyAttr 9) 31 31 0; s.wrapSlot 9 = false) ∧
    (let s := ((wrapping true).setFld (keyAttr 8) 31 31 0).wr (cipB + 0x280) 0x4B570100
     s.wrapSlot 9 = true ∧ s.keyValid 8 = false ∧ beAt s.kwBuf 0 2 = 0x4B57 ∧ beAt s.kwBuf 2 1 = 1) := by decide +kernel

/-- A channel 0 in RUN, awake; a region of type n from address 0. -/
def memory (n : Nat) : State :=
  inForce (st [(mciB + 8, 2, 0, 0), (mciB + 0x40, 31, 31, 1), (memReg 0 0, 31, 28, 8 + n), (memReg 0 2, 31, 0, 1024), (memCh 0 + 4, 7, 0, 0)])

theorem wit_memory : State.reset.memAllowed .mgc 0 16 true = false ∧
    (let s := memory 6
     s.memAllowed .mgc 0 16 true = true ∧ MReq.mgc.rtPort = none ∧ s.chSafe 0 = false ∧ s.chState 0 = 0 ∧ (s.ch 0).hold = [] ∧ (s.ch 0).queue.length < 256) ∧
    (let s := (memory 6).setFld (memCh 0 + 4) 2 0 2; s.memAllowed .mgc 0 16 true = true ∧ s.chState 0 ≠ 0 ∧ (s.ch 0).hold.length < 512) ∧
    (let r : MemReq := ⟨.mgc, 0, 2, some [1, 2], 0, 0⟩
     let s := (memory 5).setCh 0 (fun x => { x with queue := [r] })
     (s.ch 0).queue[0]? = some r ∧ r.q.rtPort = none ∧ (s.ch 0).hold = [] ∧ s.chIssues 0 = true ∧ (s.mayGo 0).contains 0 = true ∧ s.eccAt 0 = false ∧
       s.mem.init = none ∧ r.tries ≤ s.fld (memB + 0x54) 3 0 ∧ s.fld (memB + 0x54) 3 0 < 15 ∧
       (let t := s.setCh 0 (fun x => { x with queue := [{ r with tries := 15 }] }); (t.mayGo 0).contains 0 = true ∧ t.chIssues 0 = true)) ∧
    (let s := (memory 5).memWrite 0 [1, 2]; ∀ i, i < 2 → mfind s.mem.bytes (0 + i) ≠ none) ∧
    (let s := { (memory 5) with mem := { panic := [(1, some (0, false))] }, mono := uS }
     mget (fun _ => none) s.mem.panic 1 = some (0, false) ∧ 0 + 100 * uUs < s.mono) ∧
    (let s := { memory 5 with mono := uS }; s.chAsleep 0 = false ∧ (s.ch 0).refAt + s.refi 0 ≤ s.mono ∧ s.sliceReady 0 = true ∧ s.anyPanic = false ∧
      (s.ch 0).slices = 16 ∧ ((s.setCh 0 (fun x => { x with slices := 15 })).sliceReady 0 = true) ∧ ((s.setCh 0 (fun x => { x with slices := 3 })).sliceReady 0 = true)) ∧
    (let s := (memory 5).setDebt 0 3 2; s.chAsleep 0 = false ∧ s.anyPanic = false ∧ s.debt 0 3 ≠ 0 ∧ (∀ r ∈ (s.ch 0).queue, (s.bankRow r).1 ≠ 3)) ∧
    (let s := { (memory 5).setFld (memB + 0x48) 11 0 5 with mono := uS }
     s.chState 0 = 0 ∧ s.chAsleep 0 = false ∧ s.fld (memB + 0x48) 11 0 ≠ 0 ∧ (s.ch 0).queue = [] ∧ (s.ch 0).lastReq + s.fld (memB + 0x48) 11 0 * uUs ≤ s.mono) ∧
    (let s := { ((memory 5).setFld (memCh 0 + 4) 3 3 1).setCh 0 (fun x => { x with queue := [⟨.mgc, 0, 2, none, 0, 0⟩] }) with mono := uS }
     s.chState 0 = 0 ∧ s.chAsleep 0 = true ∧ 0 + uUs / 2 ≤ s.mono) ∧
    (memory 5).flag (memCh 0 + 4) 4 = false := by decide +kernel
theorem wit_channelStates : (let s := { (memory 5).setFld (memCh 0 + 4) 2 0 1 with mono := uS }
     s.chState 0 = 1 ∧ (s.ch 0).queue = [] ∧ (s.ch 0).qtRaised = false ∧ (s.ch 0).since + 10 * uUs ≤ s.mono) ∧
    (let s := (memory 5).setFld (memCh 0 + 4) 6 0 66
     s.chState 0 = 2 ∧ s.flag (memCh 0 + 4) 6 = true ∧ (s.ch 0).queue = [] ∧ (s.ch 0).hold.length ≤ 256) ∧
    (let s := { (memory 5).setFld (memCh 0 + 4) 2 0 4 with mono := uS }; s.chState 0 = 4 ∧ (s.ch 0).since + 150 * uUs ≤ s.mono) ∧
    (let s := { (memory 5).setCh 0 (fun x => { x with hold := [⟨.mgc, 0, 2, none, 0, 0⟩] }) with mono := 100 * uS }
     (s.ch 0).holdRaised = false ∧ 0 + s.fld (memB + 0x4C) 31 16 * uUs < s.mono) ∧
    (let s := { (memory 5).setFld (memB + 0x64) 31 0 0 with mem := { panic := [(1, some (0, false))], ch := [(0, { slices := 3 })] }, mono := uS }
     s.sliceReady 0 = true ∧ s.sliceDue 0 + s.fld (memB + 0x50) 15 8 * uMs ≤ s.mono) := by decide +kernel
theorem wit_init : (let s := memory 5; s.flag (mciB + 0x44) 30 = false ∧ s.keyed = true ∧ s.rd (mciB + 0x4C) * 2 ^ 20 = 0) ∧
    (let s := (memory 5).wr (mciB + 0x4C) 1; s.keyed = true ∧ s.rd (mciB + 0x4C) * 2 ^ 20 ≠ 0 ∧ s.regionAt 0 (s.rd (mciB + 0x4C) * 2 ^ 20) ≠ none) ∧
    State.reset.keyed = false ∧
    (let s := { memory 5 with mem := { init := some (0, 16384, 0) }, mono := uS }
     s.running mciB = true ∧ 0 + s.rd (mciB + 0x4C) * 9 * uMs / 10240 ≤ s.mono) := by decide +kernel

/-! ### Host ports, functions, the mailbox -/

/-- Host port 0 UP and READY with functions 0–7, windows of 2^20 bytes and VFs enabled for all of them; HIF and TFN in RUN; function 3 in state n,
bus master, with quota for 16 queues of each kind, 16 contexts, 16 keys and 4 vectors. -/
def host (n : Nat) : State :=
  (st [(hpA 0 8, 2, 0, 2), (hpA 0 0, 31, 31, 1), (hpA 0 4, 20, 12, 8), (hpA 0 4, 29, 24, 20), (hifB + 8, 2, 0, 0), (tfnB + 8, 2, 0, 0),
    (tfnStat 3, 2, 0, n), (hifFn 3, 31, 31, 1), (tfnB + 0x10008 + 0x40 * 3, 31, 0, 0x100010), (ctxMaxA 3, 31, 0, 0x100010),
    (hifB + 0xA000 + 4 * 3, 10, 0, 4), (tfnB + 0x10010 + 0x40 * 3, 7, 0, 15)]).setFn 256 (fun c => { c with vfEnable := true, numVfs := 8 })

theorem wit_ports : (let s := host 1; s.hpUsed 0 = true ∧ s.hpState 0 = 2 ∧ s.hpUsed 3 = false) ∧
    (let s := State.reset.setHport 0 (fun x => { x with refclk := true }); s.hpState 0 = 0 ∧ (s.hport 0).refclk = true) ∧
    (State.reset.hpState 0 = 0 ∧ (State.reset.hport 0).refclk = false ∧ (State.reset.setFld (hpA 0 8) 15 15 0).flag (hpA 0 8) 15 = false) ∧
    (let s := { st [(hpA 0 8, 2, 0, 1)] with mono := uS }; s.hpState 0 = 1 ∧ (s.hport 0).trainAt + 100 * uMs ≤ s.mono) ∧
    (∀ g : Fin 4, g ≠ 0 → (host 1).hpReady g.val = false) ∧
    (let s := st [(hpA 0 0, 31, 31, 1), (hpA 0 4, 20, 12, 8), (hpA 1 4, 20, 12, 8)]
     s.hpReady 0 = true ∧ s.fld (hpA 1 4) 7 0 < s.fld (hpA 0 4) 7 0 + s.fld (hpA 0 4) 20 12) ∧
    (let s := host 1
     s.cfgPort 256 = some 0 ∧ s.cfgPort 3 = some 0 ∧ s.cfgPort 9 = none ∧ s.hpReady 0 = true ∧ s.fnState 3 ≠ 4 ∧ s.vfOn 0 3 = true ∧
       s.barReq 0 256 false 0x40 = some .owner ∧ s.barReq 0 3 false 0x40 = some (.page 3)) ∧
    (let s := (host 1).setFn 256 (fun c => { c with vfEnable := false }); s.cfgPort 3 = some 0 ∧ s.vfOn 0 3 = false) ∧
    (let s := (host 1).setFld (hpA 0 0) 31 31 0; s.cfgPort 256 = some 0 ∧ s.hpReady 0 = false) := by decide +kernel
theorem wit_windows : (let s := host 1
     s.winLog 3 ≠ 0 ∧ 0x12345 < 2 ^ s.winLog 3 ∧ 0x12345 / s.winSize 3 = 1 ∧ s.flag (winA 3 1 0) 31 = false ∧ s.flag (winA 3 1 0x20) 30 = false ∧
       s.flag (winA 3 1 0x10) 31 = false ∧ s.flag (winA 3 1 0x20) 29 = false) ∧
    (let s := inForce ((host 1).setFld (winA 3 1 0) 31 30 3 |>.setFld (mciB + 0x40) 31 31 1 |>.setFld (memReg 0 0) 31 28 9 |>.setFld (memReg 0 2) 31 0 1024
       |>.setFld (memCh 0 + 4) 7 0 0 |>.setFld (memCh 3 + 4) 7 0 0)
     let a := s.winTarget 3 1 0 + 0x10300 % s.winSize 3
     s.flag (winA 3 1 0) 31 = true ∧ s.flag (winA 3 1 0) 30 = true ∧ (s.hport 0).wtlp = [] ∧ s.memAllowed .hif a 4 true = true ∧ s.memServes a 4 = true ∧
       s.safeCh a 4 = none ∧ s.mem.init = none ∧ s.eccAt a = false ∧ s.regionAt (s.winTarget 3 1 0) (s.winSize 3) = some 0 ∧ s.regType 0 = 1) ∧
    (let s := (host 1).setFld (winA 3 1 0x10) 31 31 1; s.flag (winA 3 1 0x10) 31 = true ∧ s.regionAt (s.winTarget 3 1 1) (s.winSize 3) = none) ∧
    (let s := (host 1).setFld (winA 3 1 0x20) 30 29 3
     s.flag (winA 3 1 0x20) 30 = true ∧ s.flag (winA 3 1 0x20) 29 = true ∧ (∀ h : Fin 4, (s.hport h.val).wtlp = [])) := by decide +kernel

/-- A fetch of TX descriptor 0 of queue 2 of function 3 whose request is in state r. -/
def fetching (r : RdSt) (got : List Byte) : Fetch := { f := 3, gen := 0, what := .txDesc 2 0, reqs := [{ addr := 0x1000, len := 32, got := got, st := r }] }
/-- Function 3 ACTIVE with that fetch. -/
def fetches (x : Fetch) : State := { (host 1).setHport 0 (fun y => { y with fetch := [x] }) with mono := uS }

theorem wit_dma : (let x := fetching .wait []
     let s := (fetches x).setFld (hpA 0 0x14) 11 0 256
     (s.hport 0).fetch.find? (fun x => x.reqs.any (s.mayIssue x)) = some x ∧ (x.reqs.find? (s.mayIssue x)).isSome = true ∧
       (s.hport 0).tags.contains 7 = false ∧ 7 < s.fld (hpA 0 0x14) 11 0 ∧ s.fld (hpA 0 0x14) 11 0 ≤ 2000) ∧
    (let s := host 1; s.hpState 0 = 2 ∧ (∀ x ∈ (s.hport 0).fetch, x.tagged 7 = none)) ∧
    (let x := fetching (.out 7 5) []
     let s := fetches x
     (s.hport 0).fetch.find? (fun x => (x.tagged 7).isSome) = some x ∧ (x.tagged 7).map (fun r => (r.addr, r.len, r.st)) = some (0x1000, 32, .out 7 5) ∧
       x.gen = s.fgen x.f ∧ x.failed = false ∧ 5 ≤ s.mono ∧ (0 : Nat) = (0x1000 + 0) % 128) ∧
    (host 1).bme 3 = true ∧ State.reset.bme 3 = false ∧
    (let x := fetching .done [1]
     let s := (fetches x).setFld (hifFn 3) 31 31 0
     s.bme 3 = false ∧ s.running hifB = true ∧ s.fnLost 3 = false ∧ (s.fnGet 3).bmeOffAt + s.cto 3 ≤ s.mono ∧ x ∈ (s.hport 0).fetch ∧ x.gen = s.fgen 3) ∧
    (let s := (host 4).setFn 3 (fun c => { c with flr := true })
     s.fnState 3 = 4 ∧ (s.fnGet 3).flr = true ∧ ({ s with mono := uS }).fnClear 3 (s.fgen 3) true = true) ∧
    (let s := host 1
     s.hpReady 0 = true ∧ s.hpState 0 = 2 ∧ s.fnState 256 ≠ 4 ∧ s.fnState 3 = 1 ∧ s.queues 3 = [] ∧ (∀ e ∈ s.tfn.keys, e.1 / 16384 ≠ 3) ∧
       ((s.setFn 256 (fun c => { c with vfEnable := false })).fnGet 256).vfEnable = false) ∧
    (let s := ((host 1).pwr 3 (0x8000 + 16 * 2 + 12) 0).setPba 3 2 true; s.pba 3 2 = true ∧ s.msixMay 3 2 = true) := by decide +kernel

/-- Function f asks with the given words: the header of OPCODE op for target t, then the payload. -/
def asking (f op t : Nat) (p : List Nat) : MbxReq := ⟨f, 0, ([op * 2 ^ 24, 0, t, 0] ++ p).map (BitVec.ofNat 32)⟩
/-- With that request at MGC firmware. -/
def asked (r : MbxReq) : State := (host 1).setTfn (fun t => { t with mbxQ := [r] })
/-- The request is the next that MGC firmware takes, with OPCODE op for function f. -/
def asks (s : State) (r : MbxReq) (op f : Nat) : Bool :=
  s.tfn.mbxQ.find? (fun r => s.fnState r.f ≠ 2) = some r && r.op = op && s.mbxTarget r = some f
theorem wit_mbxQueue : (host 1).running tfnB = true ∧ (host 1).tfn.mbxQ.length < 256 ∧ ((host 1).prd 3 0x104).testBit 31 = false ∧
    ((host 1).pwr 3 0x104 (2 ^ 31) |>.prd 3 0x104).testBit 31 = true ∧
    ((host 1).setTfn (fun t => { t with mbxQ := List.replicate 256 (asking 5 1 0 []) })).tfn.mbxQ.length = 256 ∧
    (let s := (host 1).setTfn (fun t => { t with rsp := [(3, 0, [])] }); s.tfn.rsp.find? (fun x => x.1 = 3) = some (3, 0, []) ∧ s.fgen 3 = 0) := by
  decide +kernel
theorem wit_mbxQueues : asks (asked (asking 3 1 0 [])) (asking 3 1 0 []) 1 3 = true ∧ asks (asked (asking 3 0x7F 0 [])) (asking 3 0x7F 0 []) 0x7F 3 = true ∧
    knownOps.contains 0x7F = false ∧
    (let r := asking 256 2 0 []; (asked r).tfn.mbxQ.find? (fun x => (asked r).fnState x.f ≠ 2) = some r ∧ r.op = 2) ∧
    (let r := asking 3 2 0 [2 * 2 ^ 16 + 8 * 2 ^ 11, 0x1000, 0, 0x2000, 0, 1]
     let s := (asked r).setFld (tfnB + 0x48) 30 0 0x00640064
     asks s r 2 3 = true ∧ bits (r.p 0) 15 11 = 8 ∧ (r.p 1 + r.p 2 * 2 ^ 32) % 64 = 0 ∧ s.tq_ 3 false 2 = none ∧ 2 < s.queMax 3 false ∧ 2 < s.queMax 3 true ∧
       bits (r.p 5) 10 0 < s.msixCount 3 ∧ s.queFree false ≠ 0 ∧ s.queFree true ≠ 0 ∧ bits (r.p 0) 7 0 ≠ 255 ∧ s.pipeMay 3 (bits (r.p 0) 7 0) = true ∧
       bits (r.p 0) 7 0 < s.msixCount 3 ∧ s.queMax 3 false ≤ 700) ∧
    (let r := asking 3 4 0 [2]
     let s := (asked r).setTq 3 false 2 (some { log2 := 8 })
     asks s r 4 3 = true ∧ s.tq_ 3 false 2 = some { log2 := 8 } ∧ s.vq 19 2 = []) := by decide +kernel
theorem wit_keySlotFree : State.reset.keySlotFree.1.isSome = true := by
  have h0 : State.reset.rd (keyAttr 1) = 0 := by decide +kernel
  have hm : ∀ x : Nat, 1 ∈ (List.range 16384).map (fun i => (x + i) % 16384) := by
    intro x
    refine List.mem_map.2 ⟨(1 + 16384 - x % 16384) % 16384, List.mem_range.2 (Nat.mod_lt _ (by omega)), by omega⟩
  simp only [State.keySlotFree, List.find?_isSome]
  exact ⟨1, hm _, by simp [h0]⟩
theorem wit_mbxKeys : (let r := asking 3 5 0 ((0x20 * 2 ^ 24) :: List.replicate 16 0)
     let s := asked r
     let a := putBits (putBits (bits (r.p 0) 30 24 * 2 ^ 24) 17 9 (16 + 3)) 21 21 (s.fld (tfnB + 0x10010 + 0x40 * 3) 31 31)
     asks s r 5 3 = true ∧ s.fld (ctxUseA 3) 14 0 < s.fld (ctxMaxA 3) 14 0 ∧ s.idxFree 3 (s.fld (ctxMaxA 3) 14 0) s.tfn.keys = some 0 ∧
       attrReserved a = false ∧ s.zeroizing = false ∧ keyCheck (putBits a 31 31 1) (BitVec.ofNat 512 (natBE (r.bytes 1 64))) = 0) ∧
    (let r := asking 3 5 0 []
     let s := (asked r).setFld (ctxUseA 3) 14 0 16; asks s r 5 3 = true ∧ s.fld (ctxMaxA 3) 14 0 ≤ s.fld (ctxUseA 3) 14 0) ∧
    (let r := asking 3 6 0 [1]
     let s := (asked r).setTfn (fun t => { t with keys := [(16384 * 3 + 1, some 77)] }); asks s r 6 3 = true ∧ s.keyOf 3 1 = some 77) := by decide +kernel
theorem wit_mbxSessions : (let o : OpenReq := { kind := 3, rxq := 1, txq := 2, keyRx := some 5 }
     let r := asking 3 7 0 []
     let s := ((asked r).setTq 3 true 1 (some { log2 := 8 })).setTq 3 false 2 (some { log2 := 8, typ := 1 })
     let s := (s.setTfn (fun x => { x with keys := [(16384 * 3 + 5, some 9)] })).setFld (keyAttr 9) 31 0 (0xA0000000 + 19 * 2 ^ 9)
     let z := inForce ((s.setSvc (fun x => { x with pool := some 0 })).setFld (mciB + 0x40) 31 31 1 |>.setFld (memReg 0 0) 31 28 10 |>.setFld (memReg 0 2) 31 0 1024)
     asks s r 7 3 = true ∧ o.refused = false ∧ o.inRange = true ∧ s.queuesFor 3 o = true ∧ s.reqKeySlot 3 o.keyRx = some 9 ∧ s.reqKeySlot 3 o.keyTx = some 0 ∧
       s.fld (ctxUseA 3) 30 16 < s.fld (ctxMaxA 3) 30 16 ∧ s.idxFree 3 (s.fld (ctxMaxA 3) 30 16) s.tfn.ctxs = some 0 ∧ s.svc.pool = none ∧ (∀ g, g < 32 → s.regType g ≠ 2) ∧
       z.memAllowed .ctx 0 poolBytes true = true ∧ (∀ n, n < 128 → z.cacheOut n = none)) ∧
    (let o : OpenReq := { kind := 1, rxq := 1, txq := 2, lport := 80 }
     let r := asking 3 8 0 []; asks (asked r) r 8 3 = true ∧ o.refused = false ∧ o.inRange = true) ∧
    (let r := asking 3 9 0 [0]
     let s := asked r
     let t := ((s.setCtx 6 (fun _ => { kind := 1, state := 2, owner := 19 })).setCache 6 [6]).setTfn (fun x => { x with ctxs := [(16384 * 3, some 6)] })
     asks s r 9 3 = true ∧ s.ctxOfHandle 3 (r.p 0) = none ∧ asks t r 9 3 = true ∧ t.ctxOfHandle 3 (r.p 0) = some 6 ∧ t.cached 6 = true ∧ t.reqKeySlot 3 (some 5) = none ∧
       (t.ctx 6).state ≠ 3 ∧ (r.p 1).testBit 0 = false ∧
       ((t.setTfn (fun x => { x with keys := [(16384 * 3 + 5, some 9)] })).setFld (keyAttr 9) 31 0 (0xA0000000 + 19 * 2 ^ 9)).reqKeySlot 3 (some 5) = some 9) ∧
    (let r := asking 3 0xA 0 [0, 1]; asks (asked r) r 0xA 3 = true ∧ (r.p 1).testBit 0 = true) ∧
    (let r := asking 3 0xB 0 [1, 0, 0x1000, 0]
     let s := asked r; asks s r 0xB 3 = true ∧ s.flag (winA 3 1 0x20) 30 = false ∧ (r.p 1).testBit 31 = false ∧ r.p 2 % 4096 = 0) := by decide +kernel
theorem wit_mbxMigration : (let r := asking 256 0x22 (2 ^ 31 + 3) [0x1000, 0, 64, 64]
     asks (asked r) r 0x22 3 = true ∧ (r.p 0 + r.p 1 * 2 ^ 32) % 4096 = 0 ∧ 1 ≤ r.p 2) ∧
    (let r := asking 256 0x23 (2 ^ 31 + 3) [0, 0, 0, 64]
     let s := (asked r).setTfn (fun t => { t with log := [(3, some ⟨0, 64, [2]⟩)], mig := [(3, some ⟨1, 40⟩)] })
     asks s r 0x23 3 = true ∧ mget (fun _ => none) s.tfn.log 3 = some ⟨0, 64, [2]⟩ ∧ r.p 3 % 64 = 0 ∧ mget (fun _ => none) s.tfn.mig 3 = some ⟨1, 40⟩) ∧
    ([0x20, 0x21, 0x24, 0x25, 0x26].all (fun op => asks (asked (asking 256 op (2 ^ 31 + 3) [])) (asking 256 op (2 ^ 31 + 3) []) op 3)) = true ∧
    (host 1).flag (cipB + 0x200) 30 = true ∧ ((host 1).setFld (cipB + 0x200) 30 30 0).flag (cipB + 0x200) 30 = false ∧ (host 1).flag (tfnB + 0x10010 + 0x40 * 3) 31 = false ∧
    (let r := asking 256 0x25 (2 ^ 31 + 3) []
     let s := ((asked r).setTfn (fun t => { t with mig := [(3, some ⟨1, 40⟩)] })).setFld (tfnStat 3) 2 0 2 |>.setFld (tfnStat 3) 31 31 1
       |>.setFld (tfnB + 0x10010 + 0x40 * 3) 31 31 1
     asks s r 0x25 3 = true ∧ s.fnState 3 = 2 ∧ s.flag (tfnStat 3) 31 = true ∧ handlesOf 3 s.tfn.keys = [] ∧ s.queues 3 = [] ∧ s.flag (keyAttr 40) 20 = false ∧
       s.cnt (keyCtr 40) + 1 < 2 ^ 64 ∧ s.fnClear 3 0 true = true) := by decide +kernel

/-- Function 3's TX and RX queues 2, ACTIVE or in state n. -/
def queues (n : Nat) (x : TQueue) : State := ((host n).setTq 3 false 2 (some x)).setTq 3 true 2 (some x)
theorem wit_functions : (host 1).fnState 3 = 1 ∧ (host 2).fnState 3 = 2 ∧ (host 4).fnState 3 = 4 ∧ ((host 4).fnGet 3).flr = false ∧
    (host 4).fnClear 3 ((host 4).fgen 3) true = true ∧ (host 2).flag (tfnStat 3) 31 = false ∧ (host 2).fnClear 3 0 false = true ∧
    ((host 3).fnState 3 = 3 ∧ (host 3).rangeHp 3 = some 0 ∧ (host 3).fnClear 3 0 true = true) ∧
    (let s := { host 2 with mono := 100 * uS }
     mget (fun _ => 0) s.tfn.frozenAt 3 + s.fld (tfnB + 0x40) 31 16 * uMs ≤ s.mono ∧ s.tfn.frozenOut.contains 3 = false) ∧
    ([0x10, 0x11, 0x12].all (fun op => asks (asked (asking 256 op (2 ^ 31 + 3) [])) (asking 256 op (2 ^ 31 + 3) []) op 3)) = true := by decide +kernel
theorem wit_queueRows : (let s := queues 1 { log2 := 8 }
     s.tq_ 3 false 2 = some { log2 := 8 } ∧ s.fnState 3 ≠ 2 ∧ (5 + 131072 - 0) % 131072 ≤ 2 ^ 8 ∧ 2 ^ 8 < (300 + 131072 - 0) % 131072) ∧
    (queues 2 { log2 := 8 }).fnState 3 = 2 ∧
    (let s := (queues 1 { log2 := 8, pi := 1, fetched := 1 }).setHport 0 (fun y => { y with fetch := [fetching .done (List.replicate 8 0 ++ bytesLE 8 (64 * 2 ^ 50) ++ List.replicate 16 0)] })
     s.fnHp 3 = some 0 ∧ (s.hport 0).fetch.any (fun x => x.isTx 3 2) = true ∧ s.fnSends 3 = true ∧ s.fnLost 3 = false ∧
       (s.hport 0).fetch.all (fun x => txDescOk x.data && !x.failed && x.gen = s.fgen 3) = true) ∧
    (let x : Fetch := { f := 3, gen := 0, what := .txFrame 2 0 (List.replicate 32 0), reqs := [{ addr := 0, len := 64, got := List.replicate 64 0, st := .done }] }
     let s := (queues 1 { log2 := 8, pi := 1, fetched := 1 }).setHport 0 (fun y => { y with fetch := [x] })
     (s.hport 0).fetch.find? (fun x => x.isTx 3 2) = some x ∧ x.failed = false) ∧
    (let d : TxFin := ⟨{ id := 1, bytes := [], src := .tenant 3 2 0 0 9 }, none, 0⟩
     let s := (queues 1 { log2 := 8 }).setDp (fun x => { x with fin := [d] }); s.dp.fin = [d] ∧ s.fgen 3 = 0) ∧
    (let c : Copy := { aCopy 60 with vport := 19, queue := 2 }
     let s := (queues 1 { log2 := 8, bufs := [(0, 0x1000, 64)] }).setVq 19 2 [c]
     s.vq 19 2 = [c] ∧ c.fc = none ∧ c.gen = s.fgen 3 ∧ s.fnSends 3 = true ∧ c.f.bytes.length ≤ 64 ∧ s.svc.ctx = []) ∧
    (let s := queues 1 { log2 := 8, draining := true }; s.tq_ 3 true 2 = some { log2 := 8, draining := true }) ∧
    bits (0x03000300 : Word).toNat 25 16 = 768 ∧ 768 < bits (0x03010000 : Word).toNat 25 16 ∧
    (let s := State.reset; ∀ g : Fin 260, s.fld (tfnB + 0x10008 + 0x40 * g.val) 25 16 = 0 ∧ s.fld (tfnB + 0x10008 + 0x40 * g.val) 9 0 = 0) := by decide +kernel

/-! ### Boot and management -/

/-- An image component of a KIND over its payload, and a bank header with one section of a type at 128. -/
def component (kind : Byte) (p : List Byte) : List Byte :=
  bytesBE 4 0x41424459 ++ [1, kind, 0, 0] ++ bytesBE 4 0 ++ bytesBE 4 (64 + p.length) ++ bytesBE 4 (crc32c p).toNat ++ List.replicate 44 0 ++ p
def bankHead (typ : Byte) (len : Nat) : List Byte :=
  List.replicate 8 0 ++ [1] ++ List.replicate 55 0 ++ [typ, 0, 0, 0] ++ bytesBE 4 128 ++ bytesBE 4 0 ++ bytesBE 4 len
/-- A configuration record. -/
def record (op off val us : Nat) : List Byte := bytesBE 4 (op * 2 ^ 28 + off) ++ bytesBE 4 val ++ bytesBE 4 0xFFFFFFFF ++ bytesBE 4 us
/-- As `st`, with a boot flash of 64 MiB. -/
def stF (l : List (Nat × Nat × Nat × Nat)) : State :=
  l.foldl (fun s x => s.setFld x.1 x.2.1 x.2.2.1 x.2.2.2) { State.reset with regs := [(bootB + 0x108, 0)] }
/-- BOOT_STATE n, and bank A with the configuration of the given records. -/
def booting (n : Nat) (recs : List (List Byte)) : State :=
  let c := component 5 recs.flatten
  ((stF [(bootB + 0x44, 3, 0, n)]).flashPut (2 ^ 24) (bankHead 5 c.length)).flashPut (2 ^ 24 + 128) c

theorem wit_bootStates : State.reset.bootState = 0 ∧ State.reset.pw.hold.any = false ∧ State.reset.straps.bootMode ≠ 2 ∧
    ({ State.reset with straps := { State.reset.straps with bootMode := 2 } }).straps.bootMode = 2 ∧
    (∀ n : Fin 16, (st [(bootB + 0x44, 3, 0, n.val)]).bootState = n.val) := by decide +kernel
theorem wit_bootVerify : (let s := ((stF [(bootB + 0x44, 3, 0, 3)]).flashPut 0 (Desc.bytes { gen := 7, a := 0x30000001, b := 0x30000002 })).flashPut 0x10000 (List.replicate 64 0xFF)
     s.bootState = 3 ∧ s.desc.2.gen = 7 ∧ s.desc.2.cands = [] ∧ (∀ m, m < 2 → bankSt (s.desc.2.bank m) ≠ 2)) ∧
    (let s := ((stF [(bootB + 0x44, 3, 0, 3)]).flashPut 0 (Desc.bytes { gen := 7, a := 0x10000001, b := 0x30000002 })).flashPut 0x10000 (List.replicate 64 0xFF)
     s.desc.2.cands = [0] ∧ s.bankCheck 0 true ≠ 0 ∧ (∀ m, m < 2 → bankSt (s.desc.2.bank m) ≠ 2)) := by decide +kernel
theorem wit_bootConfig : (let s := booting 5 [record 3 0 0 100, record 0 0 0 0]
     s.bootState = 5 ∧ s.boot.recAt = none ∧ compOk 5 s.cfgBytes = true ∧ (cfgRec s.cfgBytes 0 0).ok s.cfgBytes = true ∧ (cfgRec s.cfgBytes 0 0).op = 3 ∧
       (cfgRec s.cfgBytes 0 0).us = 100 ∧ (cfgRec s.cfgBytes 1 0).ok s.cfgBytes = true ∧ (cfgRec s.cfgBytes 1 0).op = 0 ∧
       (cfgRec s.cfgBytes 2 0).ok s.cfgBytes = false) ∧
    (let s := (booting 5 []).flashPut (2 ^ 24 + 128) [0]; compOk 5 s.cfgBytes = false ∧ s.flag (bootB + 0x4C) 30 = false) := by decide +kernel
theorem wit_bootRecords : (let s := booting 5 [record 1 (tsuB 0 + 0x40) 5 0, record 2 (tsuB 0 + 0x40) 0 10, record 4 1 0 0, record 4 2 1 0, record 0 0 0 0]
     let o := s.ownerRead .mgc (tsuB 0 + 0x40)
     (cfgRec s.cfgBytes 0 0).op = 1 ∧ (cfgRec s.cfgBytes 0 0).off = tsuB 0 + 0x40 ∧ (cfgRec s.cfgBytes 0 0).mask = top32 ∧
       (s.wroteBad .mgc (tsuB 0 + 0x40) 5 {}).1 = false ∧ (s.wroteBad .mgc (tsuB 0 + 0x40) 5 {}).2.bootState = 5 ∧ (s.wroteBad .mgc (genB + 0x80) 3 {}).1 = true ∧
       (cfgRec s.cfgBytes 1 0).op = 2 ∧ o.1 &&& (cfgRec s.cfgBytes 1 0).mask = (cfgRec s.cfgBytes 1 0).val ∧ (cfgRec s.cfgBytes 2 0).op = 4 ∧
       (cfgRec s.cfgBytes 2 0).off = 1 ∧ (cfgRec s.cfgBytes 3 0).off = 2 ∧ (cfgRec s.cfgBytes 3 0).ok s.cfgBytes = true ∧ (cfgRec s.cfgBytes 4 0).op = 0 ∧
       s.hpUsed s.straps.ownerHp.toNat = true ∧ s.boot.owner.filter s.hpUsed = none) := by decide +kernel
theorem wit_bootLoad : (let s := (stF [(bootB + 0x44, 3, 0, 6)]).flashPut (2 ^ 24 + 12) [0, 0, 0, 64]; s.bootState = 6 ∧ s.memAllowed .mgc 0 (s.bankLen 0) true = false) ∧
    (let s := (inForce (stF [(bootB + 0x44, 3, 0, 6), (mciB + 0x40, 31, 31, 1), (memReg 0 0, 31, 28, 9), (memReg 0 2, 31, 0, 1024)])).flashPut (2 ^ 24 + 12) [0, 0, 0, 64]
     s.running_ = 0 ∧ s.bankLen 0 = 64 ∧ s.regionAt 0 64 = some 0 ∧ s.regType 0 ≠ 6) ∧
    (let s := (inForce (stF [(bootB + 0x44, 3, 0, 6), (mciB + 0x40, 31, 31, 1), (memReg 0 0, 31, 28, 14), (memReg 0 2, 31, 0, 1024), (memCh 0 + 4, 7, 0, 0)])).flashPut (2 ^ 24 + 12) [0, 0, 0, 64]
     s.regionAt 0 64 = some 0 ∧ s.regType 0 = 6 ∧ s.memAllowed .mgc 0 64 true = true ∧ s.memServes 0 64 = true) := by decide +kernel
theorem wit_bootStart : (let s := st [(bootB + 0x44, 3, 0, 7)]; s.bootState = 7 ∧ s.boot.started = false ∧ s.blkState tailB = 2 ∧ s.safe tailB = false) ∧
    (let s := (st [(bootB + 0x44, 3, 0, 7)]).setBoot (fun b => { b with started := true })
     s.bootState = 7 ∧ s.boot.started = true ∧ (∀ h : Fin 4, s.fld (hpA h.val 4) 20 12 = 0) ∧ s.hpUsed 0 = true) ∧
    (let s := st [(bootB + 0x44, 3, 0, 6), (bootB + 0x4C, 30, 30, 1)]; 5 ≤ s.bootState ∧ s.bootState < 8 ∧ s.flag (bootB + 0x4C) 30 = true) := by decide +kernel

/-- MGC firmware runs from a boot copy of 64 bytes in the MGC region from address 0, its watchdog enabled and long not kicked. -/
def managed : State :=
  let s := { ((inForce (stF [(mciB + 0x40, 31, 31, 1), (memReg 0 0, 31, 28, 14), (memReg 0 2, 31, 0, 1024), (memCh 0 + 4, 7, 0, 0), (bootB + 0x40040, 31, 31, 1)])).flashPut
    (2 ^ 24 + 12) [0, 0, 0, 64]).setBoot (fun b => { b with copyAt := some 0 }) with mono := 1000 * uS }
  s.memWrite 0 (List.replicate 64 0)
theorem wit_watchdog : managed.flag (bootB + 0x40040) 31 = true ∧ managed.boot.kickAt + managed.fld (bootB + 0x40040) 15 0 * uMs ≤ managed.mono ∧
    managed.flag (bootB + 0x4004C) 31 = false ∧ managed.boot.copyAt = some 0 ∧ managed.bankLen managed.running_ = 64 ∧
    (managed.boot.restarts.filter (fun t => decide (managed.mono ≤ t + 600 * uS))).length + 1 < 3 ∧ managed.fld (bootB + 0x40040) 27 16 = 0 ∧
    (managed.memRead 0 64 .clean).1 = (List.replicate 64 0, false) ∧ managed.pw.hold.any = false ∧
    (let l := [999 * uS, 998 * uS]; 3 ≤ (l.filter (fun t => decide (managed.mono ≤ t + 600 * uS))).length + 1) := by decide +kernel
/-- The boot copy's digest is the one that BOOT_DIGEST holds. -/
theorem wit_rehash : (let g := sha256 (List.replicate 64 0)
    let s := (List.range 8).foldl (fun s k => s.wr (bootB + 0x60 + 4 * k) (bits g (255 - 32 * k) (224 - 32 * k))) managed
    s.bootDigest = g ∧ (s.memRead 0 64 .clean).1 = (List.replicate 64 0, false) ∧
      ((s.setFld (bootB + 0x4004C) 31 31 1).boot.trialAt + (s.fld (bootB + 0x40048) 15 0) * uMs ≤ s.mono)) := by decide +kernel
theorem wit_management : (let s := st [(genB + 0x80, 31, 31, 1)]; s.flag (genB + 0x80) 31 = true ∧ s.fld (genB + 0x80) 1 0 = 0) ∧
    State.reset.flag (genB + 0x80) 31 = false ∧
    (let s := ((stF []).flashPut 0 (Desc.bytes { a := 0x20000001 })).flashPut 0x10000 (List.replicate 64 0xFF); bankSt (s.desc.2.bank 0) = 2 ∧ s.running_ = 0) ∧
    (let s := (State.reset.setFld (cipCore 0) 29 28 3).wr (bootB + 0x40204) 1
     s.flag (bootB + 0x40200) 30 = false ∧ (∀ k, k < 32 → (1 : Nat).testBit k = true → s.flag (cipCore k) 28 = true ∧ s.flag (cipCore k) 29 = true)) ∧
    (let s := State.reset.wr (bootB + 0x40204) 2; (2 : Nat).testBit 1 = true ∧ (s.flag (cipCore 1) 28 = false ∨ s.flag (cipCore 1) 29 = false)) ∧
    (let s := managed.wr (bootB + 0x40200) (2 ^ 30)
     s.flag (bootB + 0x40200) 30 = true ∧ s.memAllowed .mgc 0 64 false = true ∧ s.memServes 0 64 = true ∧ compOk 4 (List.replicate 64 0) = false ∧
       compOk 4 (component 4 [1, 2, 3]) = true) ∧
    (State.reset.wr (bootB + 0x40200) (2 ^ 30)).memAllowed .mgc 0 64 false = false := by decide +kernel
theorem wit_flash : (stF []).flag (bootB + 0x108) 31 = false ∧ 0x20000 % 65536 = 0 ∧ 0x20000 + 65536 ≤ (stF []).flashCap ∧
    (let s := ({ State.reset with regs := [(bootB + 0x108, 0x80000000)] }).setBoot (fun b => { b with op := some ⟨true, 0x100, List.replicate 256 7⟩ })
     s.flag (bootB + 0x108) 31 = true ∧ s.boot.op = some ⟨true, 0x100, List.replicate 256 7⟩ ∧ (List.replicate 256 (7 : Byte)).length = 256) ∧
    (let s := State.reset.setBoot (fun b => { b with hashSet := 255 }); s.flag (bootB + 0x80) 31 = false ∧ s.boot.hashSet = 255 ∧ s.fld (bootB + 0x80) 15 0 ≤ 3) ∧
    State.reset.boot.hashSet ≠ 255 ∧ (let s := State.reset.setFld (bootB + 0x80) 15 0 9; 3 < s.fld (bootB + 0x80) 15 0) := by decide +kernel
/-- The ROM is in RECOVERY with a transfer to bank B. -/
def recovering (x : Option Xfer) : State :=
  (((stF [(bootB + 0x44, 3, 0, 14)]).flashPut 0 (Desc.bytes { a := 0x10000001, xid := 9, xbank := 1 })).flashPut 0x10000 (List.replicate 64 0xFF)).setBoot (fun b => { b with xfer := x })
theorem wit_recovery : (recovering none).bootState = 14 ∧ (recovering none).boot.helloAt ≤ (recovering none).mono ∧ recParse [1, 2, 3] = none := by decide +kernel
/-- A BEGIN message with XFER_ID 5 and that header. -/
def beginMsg : List Byte := bytesBE 84 0x52560200000000050000000000400000414244590110000001000000000002000000000000000000000001C0010000000000000000000000000000000000000000000000000000000000000000000000E763AFA8
theorem wit_recBeginMsg : recParse beginMsg = some ⟨2, 5, 0, (beginMsg.drop 16).take 64⟩ := by
  have hn : beAt beginMsg 12 2 = 64 := by decide +kernel
  have h0 : beginMsg.take 80 = beginMsg.take 40 ++ (beginMsg.drop 40).take 40 := by decide +kernel
  have h1 : crc32cReg 0xFFFFFFFF#32 (beginMsg.take 40) = 0xAC8F1AEA#32 := by decide +kernel
  have h2 : crc32cReg 0xAC8F1AEA#32 ((beginMsg.drop 40).take 40) = 0x189C5057#32 := by decide +kernel
  have hc : crc32c (beginMsg.take 80) = ~~~ 0x189C5057#32 := by
    rw [h0]
    show ~~~ (List.foldl _ _ (_ ++ _)) = _
    rw [List.foldl_append]
    show ~~~ (crc32cReg (crc32cReg _ _) _) = _
    rw [h1, h2]
  simp only [recParse, hn, hc]
  decide +kernel
theorem wit_recBegin : (let h := (beginMsg.drop 16).take 64; h.length = 64 ∧ headOk h (2 ^ 32) = true ∧ beAt h 12 4 = 0x200) := by decide +kernel
theorem wit_recBank : (let s := recovering none; 0x200 ≤ s.bankSize ∧ s.desc.2.xid = 9 ∧ s.desc.2.target = 1) := by decide +kernel
theorem wit_recData : recParse (recBytes 3 0 5 0x100 (List.replicate 16 1)) = some ⟨3, 5, 0x100, List.replicate 16 1⟩ := by decide +kernel
theorem wit_recEnd : recParse (recBytes 5 0 5 0 []) = some ⟨5, 5, 0, []⟩ := by decide +kernel
theorem wit_recXfer : (let x : Xfer := ⟨5, 1, 0x110, 0x100⟩
     let s := recovering (some x); s.boot.xfer = some x ∧ x.next < x.len ∧ 16 = min 1024 (x.len - x.next) ∧ s.bankCheck 1 true ≠ 0) := by decide +kernel
theorem wit_recReboot : recParse (recBytes 7 0 0 0 []) = some ⟨7, 0, 0, []⟩ ∧ State.reset.pw.hold.any = false ∧
    (let s := { (recovering none).setBoot (fun b => { b with okAt := some 5 }) with mono := 11 * uS }; s.boot.okAt = some 5 ∧ 5 + 10 * uS ≤ s.mono) := by decide +kernel

/-! ### Power, errors, events, debug access -/

theorem wit_power : (let s := st [(pwrB + 0x44, 1, 0, 3)]; s.devState = 3) ∧ (let s := st [(pwrB + 0x44, 2, 2, 1)]; s.devState ≠ 3 ∧ s.standbyEntry = true) ∧
    (let s := State.reset.setPw (fun p => { p with unit := [(3, 1)] })
     s.devState ≠ 3 ∧ s.standbyEntry = false ∧ s.unitHot 3 = false ∧ s.wakingAt 3 = none) ∧
    standbyBlocks.all State.reset.isQuiesced = true ∧ (∀ h : Fin 4, State.reset.hpState h.val ≠ 2) ∧
    standbyBlocks.all (st [(macB 0 + 8, 2, 0, 0)]).isQuiesced = false ∧
    (let s := (st [(pwrB + 0x44, 2, 2, 1)]).setPw (fun p => { p with wake := true }); s.standbyEntry = true ∧ s.pw.wake = true) := by decide +kernel
theorem wit_units : (let s := { st [(pwrB + 0x44, 1, 0, 2)] with mono := uS }
     s.devState = 2 ∧ s.calHolds 3 = false ∧ s.unitWork 3 = false ∧ s.wakingAt 3 = none ∧ s.unitState 3 < 2 ∧
       mget (fun _ => 0) s.pw.unitAt 3 + s.fld (pwrB + 0x48) 15 0 * uNs ≤ s.mono) ∧
    (let s := (st [(pwrB + 0x44, 1, 0, 1), (pwrB + 0x64, 19, 19, 1)]).setPw (fun p => { p with unit := [(3, 1)] })
     s.devState ≠ 3 ∧ s.calHolds 3 = true ∧ s.unitHot 3 = false ∧ s.wakingAt 3 = none) ∧
    (let s := { State.reset.setPw (fun p => { p with unit := [(3, 2)], waking := [(3, some 5)] }) with mono := uS }
     s.wakingAt 3 = some 5 ∧ s.unitState 3 = 2 ∧ 5 + (40 * uUs + 10 * uNs) ≤ s.mono) := by decide +kernel
theorem wit_holds : State.reset.pw.hold.sysref = false ∧ State.reset.pw.hold.any = false ∧
    (let s := State.reset.setPw (fun p => { p with hold := { sysref := true } }); s.pw.hold.sysref = true ∧ s.pw.hold.any = true) ∧
    (800 < signed 12 (1000 : BitVec 12).toNat ∧ 1000 ≤ signed 12 (1000 : BitVec 12).toNat) ∧
    (let s := { State.reset.setPw (fun p => { p with hold := { therm := true }, tripAt := 5 }) with mono := 2 * uS }
     s.pw.hold.therm = true ∧ (∀ x ∈ (Vector.replicate 8 (800 : BitVec 12)).toList, signed 12 x.toNat ≤ 800) ∧ s.pw.tripAt + uS ≤ s.mono) := by decide +kernel
theorem wit_lifetime : (let s := st [(pwrB + 0x60, 31, 31, 1), (timB + 0x50, 8, 8, 1), (calA 0, 31, 31, 1), (calA 0 + 4, 15, 0, 1000), (calA 0 + 4, 31, 16, 1)]
     s.flag (pwrB + 0x60) 31 = true ∧ s.secondsValid = true ∧ s.pw.calMs ≠ some (s.now / uMs) ∧ s.pw.cal.contains 0 = false) ∧
    State.reset.pw.sentAt = none ∧
    (let s := State.reset.setPw (fun p => { p with sentAt := some 0 }); s.pw.sentAt = some 0 ∧ s.mono < 0 + s.fld (pwrB + 0x80) 30 16 * 3600 * uS) ∧
    (let s := State.reset; (0 : BitVec 16).toNat < s.fld (pwrB + 0x1C4) 15 0 ∧ s.pw.eye.contains 5 = false) ∧
    (let s := { State.reset with mono := 3600 * uS }; s.pw.hourAt + 3600 * uS ≤ s.mono ∧ s.pw.hotHour = false) ∧
    (let s := { State.reset with mono := 3600 * uS - 1 }; s.mono < s.pw.hourAt + 3600 * uS) := by decide +kernel

theorem wit_errors : (∃ b : Fin 58, neverSafe (blkBase b) = false ∧ State.reset.safe (blkBase b) = false ∧ codeOf (blkBase b) ≠ 0x10) ∧
    (∃ b : Fin 58, codeOf (blkBase b) = 0x10 ∧ State.reset.safe (blkBase b) = false ∧ ({ State.reset with regs := [(blkBase b + 8, 0)] }).blkState (blkBase b) ≤ 1) ∧
    (∃ b : Fin 58, codeOf (blkBase b) = 0x10 ∧ 2 ≤ State.reset.blkState (blkBase b)) ∧
    (cardAt (genB + 0x80)).isSome = true ∧ triplicated (codeOf (genB + 0x80)) = true ∧ (cardAt (timB + 0x40)).isSome = true ∧ codeOf (timB + 0x40) = 5 ∧
    triplicated (codeOf (macB 0)) = false := by decide +kernel
theorem wit_aonWord : ¬ evArea genB (genB + 0x80) ∧ codeOf (genB + 0x80) ≠ 5 ∧ (cardAt (genB + 0x80)).map (·.cnt) = some false := by
  refine ⟨?_, by decide +kernel, by decide +kernel⟩
  simp only [evArea, inEvt, inCapture, genB]
  omega
theorem wit_events : sevOf 5 ≠ none ∧ sevOf 255 = none ∧ State.reset.log = [] ∧
    (let e : LogEntry := ⟨0, false, true, 5, 1, 0, 0, 0, 0, 0, 0⟩
     let s := { State.reset with log := [e] }; s.log = [e] ∧ ([] : List LogEntry).length < 128) := by decide +kernel
theorem wit_tap : (let s := State.reset.setDbg (fun x => { x with ir := 0x20 })
     s.dbg.ir = 0x20 ∧ s.unlocked = false ∧ dbgOpen (genB + 0x40) = false ∧ dbgOpen (dbgB + 0xA0) = true ∧ s.dbgBusy = false ∧ s.lockout = false) ∧
    (let s := (st [(dbgB + 0x40, 31, 31, 1)]).setDbg (fun x => { x with ir := 0x20 }); s.unlocked = true) ∧
    (let s := { (st [(dbgB + 0x40, 30, 30, 1)]).setDbg (fun x => { x with chal := some ([], 0) }) with mono := 60 * uS }
     s.dbgBusy = true ∧ s.dbgResult = 3 ∧ s.dbg.chal = some ([], 0) ∧ s.fld (dbgB + 0x44) 1 0 = 0) ∧
    (let s := { State.reset.setDbg (fun x => { x with chal := some ([], 0) }) with mono := 60 * uS }; s.dbgBusy = false ∧ 0 + 60 * uS ≤ s.mono) ∧
    (let s := st [(dbgB + 0x40, 29, 29, 1)]; s.lockout = true) ∧ State.reset.dbg.chal = none := by decide +kernel
/-- The debug port has unlocked the part and selected thread 144 in state n under state u. -/
def debugged (n u : Nat) : State :=
  ((st [(dbgB + 0x40, 31, 31, 1), (dbgB + 0x200, 11, 0, 0x120)]).setClu 1 (fun x => { x with sect := [(0, 64)] })).setThr 144 (fun x => { x with state := n, under := u })
theorem wit_debug : (let s := debugged 2 0; s.unlocked = true ∧ 1 ≤ (s.thr 144).state ∧ (s.thr 144).state ≤ 4 ∧ s.dbgThr = 144) ∧
    (debugged 6 0 |>.thr 144).state = 6 ∧ (let s := debugged 5 1; (s.thr s.dbgThr).state = 5 ∧ (s.thr 144).under = 1) ∧
    ((debugged 5 3).thr 144).under = 3 ∧ (((debugged 5 4).thr 144).under = 4 ∧ ((debugged 5 4).thr 144).step = false) ∧
    (debugged 5 1).inCode 1 8 = true ∧ (debugged 5 1).inCode 1 4096 = false ∧
    (let s := (debugged 5 1).setFld (dbgB + 0x300) 31 31 1; s.flag (dbgB + 0x300) 31 = true ∧ s.blkState (engB (s.fld (dbgB + 0x300) 27 24)) = 2) ∧
    (debugged 5 1).flag (dbgB + 0x300) 31 = false ∧ State.reset.unlocked = false := by decide +kernel
theorem wit_breakpoint : (let s := (issuing 0).setFld (dbgC 1 + 0x10) 31 31 1; s.issuer 1 2 = some 144 ∧ s.breaks 144 = true) ∧
    (issuing 0).breaks 144 = false ∧ State.reset.issuer 1 2 = none := by decide +kernel

/-! ### Well-formedness: an ill-formed term for each check, which it refuses -/

theorem test_wf_register : (Instr.registerWrite .mgc 0x102 15 0 {}).wf = false ∧ (Instr.registerWrite .mgc 0x100 0 0 {}).wf = false ∧
    (Instr.registerWrite .mgc 0x100 15 0 {}).wf = true := by decide
theorem test_wf_reads : (Instr.counterLowRead .mgc { a := 0x41, be := 15 }).wf = false ∧ (Instr.readClear .mgc { a := 0x40, be := 0 }).wf = false := by decide
theorem test_wf_frame : (Instr.rxFrame 0 [] 0 0 0).wf = false := by decide
theorem test_wf_module : (Instr.modXferEnd 0 0 (List.replicate 129 0)).wf = false := by decide +kernel
theorem test_wf_memory : (Instr.memRequest .mgc 0 3 true [1, 2, 3]).wf = false ∧ (Instr.memRequest .mgc 0 3 true [1, 2, 3, 4]).wf = true := by decide
theorem test_wf_access : (Instr.barAccess 3 false 2 false ⟨15, none⟩ false {}).wf = false ∧ (Instr.windowTlp 3 0 (some [1]) 2 false .clean 0 false).wf = false := by
  decide
theorem test_wf_completion : (Instr.cplArrive 0 0 0 false 0 0 (List.replicate 4097 0) false).wf = false := by decide +kernel
theorem test_wf_boot : (Instr.bootLoad 0 (Vector.replicate 12 0) [(2, 0)] 0 .clean).wf = false := by decide +kernel
theorem test_wf_sentinels : (Instr.sentinelMeasure []).wf = false := by decide
theorem test_wf_words : (Instr.aonCorrection 3 true).wf = false ∧ (Instr.dbgAccess (2 ^ 58) {}).wf = false ∧ (Instr.dbgAccess (2 ^ 33) {}).wf = false ∧
    (Instr.dbgAccess 0 {}).wf = true := by decide

/-! ### The spec's own examples -/

/-- The example of R5: 1,780,000,000 s + 250,000,000.0625 ns. -/
theorem test_ts96 : ts96 (1780000000 * uS + 250000000 * uNs + uNs / 16) = 0x00006A18A5000EE6B2801000 := by decide +kernel
/-- The example of R81: a FRAME unit of ingress port P3. -/
theorem test_frameUnit : bytesBE 64 (framePayload {
      dir := 0, cal := true, tq := 1, rclass := 2, port := 3, cls := 0x41, dmode := 0, len := 98, ts := 1780000010 * uS + 500000120 * uNs + uNs / 16
      flowid := 0x2C41, digest := 0x9E2B7C40D1153A0866F0B3C248E90A57, vport := 17 }) =
    [0x15234100, 0x00620000, 0x6A18A50A, 0x1DCD6578, 0x10000000, 0, 0, 0x2C419E2B, 0x7C40D115, 0x3A0866F0, 0xB3C248E9, 0x0A570880, 0, 0, 0, 0].flatMap
      (bytesBE 4) := by decide +kernel
/-- Its tag: INDEX 8,002, LINK 125, POS 2. -/
theorem test_unitTag : (((State.reset.setCnt (tailB + 0x240) 8002).setTl (fun t => { t with link := 125, body := [0, 0] })).chainUnit 0).1 =
    0x0000000000001F4200000000007D0800#512 := by decide +kernel
/-- The example of R281: a TLS context header. -/
theorem test_ctxHeader : ctxHeader 0x4D2 {
      kind := 2, state := 2, fgen := 7, owner := 0x11, home := 3, gen := 5, keyRx := 512, keyTx := 513, link := some 1233, flowid := 0x2C41
      openTs := 1780000010 * uS + 500000120 * uNs + uNs / 16, octRx := 123456, octTx := 40000, req := { kind := 2, rxq := 4, txq := 4 } } =
    [0x22070898, 0x00051348, 0x08002010, 0x13460200, 0x2C41, 0x6A18, 0xA50A1DCD, 0x65781000, 0x00100040, 0, 0x1E240, 0, 0x9C40, 0, 0, 0].flatMap (bytesBE 4) := by
  decide +kernel
/-- The example of R330: a 128 GiB clamshell memory under the four orders (bank, row, column). -/
theorem test_mapAddr : (List.range 4).map (fun m => mapAddr (2 ^ 16 + 2 + m * 2 ^ 26) 0x0B5A3CE6D4) =
      [(12, 0xB5A3, 62), (5, 0x15A3C, 62), (7, 0xB5A3, 54), (15, 0xB5A3, 62)] ∧ chOf 0x0B5A3CE6D4 = 6 := by decide +kernel

/-! ### Words, checksums and hashes: the check values of their standards, and words written by hand from Table 04-10 -/

theorem test_crc32c : crc32c [0x31, 0x32, 0x33, 0x34, 0x35, 0x36, 0x37, 0x38, 0x39] = 0xE3069283#32 := by decide +kernel
theorem test_crc32 : crc32 [0x31, 0x32, 0x33, 0x34, 0x35, 0x36, 0x37, 0x38, 0x39] = 0xCBF43926#32 := by decide +kernel
theorem test_crc8 : crc8 [0x31, 0x32, 0x33, 0x34, 0x35, 0x36, 0x37, 0x38, 0x39] = 0xF4#8 := by decide +kernel
theorem test_sha256 : sha256 [0x61, 0x62, 0x63] = 0xba7816bf8f01cfea414140de5dae2223b00361a396177a9cb410ff61f20015ad := by decide +kernel
theorem test_sha384 : natBE (sha384B [0x61, 0x62, 0x63]) =
    0xcb00753f45a35e8bb5a03d699ac65007272c32ab0eded1631a8b605a43ff5bed8086072ba1e7cc2358baeca134c825a7 := by decide +kernel
/-- ACK of 0x12345 and a reserved CMD with the CRC-8 of their upper 56 bits. -/
theorem test_returnWords : [(2 : Nat) * 2 ^ 60 + 0x12345 * 2 ^ 8, 7 * 2 ^ 60].map (fun w => match readReturnWord (BitVec.ofNat 64 (w + (crc8 (bytesBE 7 (w / 256))).toNat)) with
      | .retAck v => v.toNat
      | .retBadWord _ => 1
      | _ => 0) = [0x12345, 1] := by decide +kernel
theorem test_decodeTableWord : decodeTableWord 0 0 = none ∧ (State.reset.withFetchWord 0 0).pending = [] := by decide

end Sys2Proof.Tests
end

section
/-! SUPPORT. Frames of a command: how the frame of one write and the frame of an event become the frames that claims state. -/
namespace Sys2Proof.Machine

/-- One register word written by hardware: no other word, no counter and no other part changes. -/
theorem State.wr_keeps (s : State) (a v : Nat) : Keeps [] (oneOf [a]) noAddr s (s.wr a v) :=
  ⟨rfl, fun b hb => State.rd_wr_ne s a v b (fun e => hb (e ▸ List.mem_singleton_self _)), fun _ _ => rfl⟩

/-- States that agree in all that an event leaves agree outside what an event changes, whatever else is left out. -/
theorem State.blank_eq_of_besides (ks : List Part) (s t : State) (h : t.besides = s.besides) :
    t.blank (evParts ++ ks) = s.blank (evParts ++ ks) := by
  cases s
  cases t
  simp only [State.besides, Prod.mk.injEq] at h
  obtain ⟨rfl, rfl, rfl, rfl, rfl, rfl, rfl, rfl, rfl, rfl, rfl, rfl, rfl, rfl, rfl, rfl, rfl, rfl, rfl, rfl, rfl, rfl, rfl, rfl⟩ := h
  simp [State.blank, evParts]

/-- What only an event and writes of the registers in `r` changed meets the frame of an event. -/
theorem OnlyRegs.keepsEv {p r : Nat → Prop} {s t : State} {base : Nat} (h : OnlyRegs p s t) (hp : ∀ a, p a → evArea base a ∨ r a) :
    KeepsEv base [] r noAddr s t :=
  ⟨State.blank_eq_of_besides [] s t h.rest, fun a ha => h.regs a (fun x => ha (hp a x)), fun a ha => h.cnts a (fun x => ha (.inl x))⟩

/-- The frame of a discarded write (R472). -/
theorem State.reject_keepsEv (s : State) (base off : Nat) :
    KeepsEv base [] (oneOf [base + 0x10, base + 0xC]) noAddr s (s.reject base off) :=
  (State.reject_only s base off).keepsEv (fun a h => h.imp_right (fun e => by simpa [oneOf] using e))

end Sys2Proof.Machine
end

section
/-! SUPPORT. A register write through the owner view (R7, R29, R30, R39): who holds the view, what a write reaches, and the word after a
write that its card accepts. -/
namespace Sys2Proof.Machine

variable (s : State)

/-! ### Who holds the owner view (R29) -/

@[simp] theorem State.holdsView_mgc : s.holdsView .mgc = true := rfl

/-- The owner management function lacks the owner view while its host port is not there. -/
theorem State.holdsView_owner_of_absent (h : s.hpState s.ownerHp ≠ 2) : s.holdsView .owner = false := by
  simp [State.holdsView, h]

theorem execRegisterWrite_of_holdsView (q : Req) (a : BitVec 26) (be : BitVec 4) (v : Word) (x : WEnv) (h : s.holdsView q = true) :
    execRegisterWrite q a be v x s = .next (s.regWrite q a.toNat be.toNat v.toNat x) := by
  rw [execRegisterWrite, if_pos h]

theorem execRegisterWrite_of_not_holdsView (q : Req) (a : BitVec 26) (be : BitVec 4) (v : Word) (x : WEnv) (h : s.holdsView q = false) :
    execRegisterWrite q a be v x s = .next s := by
  rw [execRegisterWrite, if_neg (by simp [h])]

/-- Without the owner view a read answers nothing and has no effect. -/
theorem State.readFor_of_not_holdsView (q : Req) (a be : Nat) (h : s.holdsView q = false) : s.readFor q a be = s := by
  rw [State.readFor, if_neg (by simp [h])]

/-! ### What a write reaches (R7, R30) -/

theorem State.ownerWrite_of_no_inst (q : Req) (a be v : Nat) (x : WEnv) (h : instAt a = none) : s.ownerWrite q a be v x = s := by
  rw [State.ownerWrite, h]

/-- A write of a register that its instance has: refused with partial byte enables, else taken by the header or by the block. -/
theorem State.ownerWrite_of_card (q : Req) (a be v : Nat) (x : WEnv) {i : Inst} {c : Card} (hi : instAt a = some i)
    (hc : cardIn i (a - i.base) = some c) (ha : absent i (a - i.base) = false) :
    s.ownerWrite q a be v x =
      if be ≠ 15 then s.refuse ⟨q, i, a - i.base, c, v, x⟩
      else if i.hdr && decide (a - i.base < 0x34) then s.writeHdr ⟨q, i, a - i.base, c, v, x⟩
      else s.writeBlock ⟨q, i, a - i.base, c, v, x⟩ := by
  simp [State.ownerWrite, hi, hc, ha]

/-- A block with the common header counts its own discarded writes. -/
theorem State.refuse_of_hdr (w : Acc) (h : w.i.hdr = true) : s.refuse w = s.reject w.i.base w.off := by
  rw [State.refuse, if_pos h]

/-! ### A write that the card accepts (R38, R39) -/

theorem State.accept_of_takes (w : Acc) (h : s.takes w = true) : s.accept w = s.put w := by
  rw [State.accept, State.ifTakes, if_pos h]

/-- A word without Q fields takes every value in its stated ranges while its block has no commit under way. -/
theorem State.takes_of_idle_commit (w : Acc) (hq : w.c.q = 0) (hb : s.commitBusy w.i.base = false) (hok : w.c.ok w.v = true) :
    s.takes w = true := by
  simp [State.takes, hq, hb, hok]

/-- The word after a write is a 32-bit word. -/
theorem Acc.word_lt (w : Acc) (old : Nat) : w.word old < 2 ^ 32 :=
  Nat.and_lt_two_pow _ (Nat.lt_of_le_of_lt (Nat.sub_le _ _) (by decide))

theorem State.put_rd_addr (w : Acc) : (s.put w).rd w.addr = w.word (s.rd w.addr) := by
  rw [State.put, State.rd_wr, Nat.mod_eq_of_lt (w.word_lt _)]

theorem State.put_keeps (w : Acc) : Keeps [] (oneOf [w.addr]) noAddr s (s.put w) := State.wr_keeps _ _ _

/-! ### TSU (R49, R66) -/

theorem absent_of_tsu {i : Inst} (off : Nat) (h : i.code = 0x06) : absent i off = false := by
  simp [absent, h]

/-- A register of TSU but TSU_CAL has no effects of its own. -/
theorem State.writeBlock_of_tsu (w : Acc) (hc : w.i.code = 0x06) (ho : w.off ≠ 0x50) : s.writeBlock w = s.accept w := by
  simp [State.writeBlock, hc, State.writeTsu, ho]

/-! ### REGISTER_WRITE by MGC firmware -/

/-- A full write of an accepted word of TSU, but TSU_CAL, by MGC firmware puts the word and nothing else. -/
theorem tsuWrite_puts (a : BitVec 26) (v : Word) (x : WEnv) {c : Card} {i : Inst} (hi : instAt a.toNat = some i)
    (hcode : i.code = 0x06) (hlo : 0x34 ≤ a.toNat - i.base) (hcal : a.toNat - i.base ≠ 0x50)
    (hc : cardIn i (a.toNat - i.base) = some c) (hq : c.q = 0) (hb : s.commitBusy i.base = false) (hok : c.ok v.toNat = true) :
    exec (.registerWrite .mgc a 15 v x) s = .next (s.put ⟨.mgc, i, a.toNat - i.base, c, v.toNat, x⟩) := by
  have hblk := s.writeBlock_of_tsu ⟨.mgc, i, a.toNat - i.base, c, v.toNat, x⟩ hcode hcal
  have htakes : s.takes ⟨.mgc, i, a.toNat - i.base, c, v.toNat, x⟩ = true := s.takes_of_idle_commit _ hq hb hok
  calc exec (.registerWrite .mgc a 15 v x) s
      = .next (s.ownerWrite .mgc a.toNat 15 v.toNat x) := execRegisterWrite_of_holdsView s _ _ _ _ _ rfl
    _ = .next (s.writeBlock ⟨.mgc, i, a.toNat - i.base, c, v.toNat, x⟩) := by
        rw [s.ownerWrite_of_card _ _ _ _ _ hi hc (absent_of_tsu _ hcode)]
        simp [Nat.not_lt.2 hlo]
    _ = .next (s.put ⟨.mgc, i, a.toNat - i.base, c, v.toNat, x⟩) := by rw [hblk, s.accept_of_takes _ htakes]

/-- A write of a register with partial byte enables is discarded whole (R30). -/
theorem partialWrite_rejects (a : BitVec 26) (be : BitVec 4) (v : Word) (x : WEnv) {c : Card} {i : Inst} (hbe : be ≠ 15)
    (hi : instAt a.toNat = some i) (hh : i.hdr = true) (hc : cardIn i (a.toNat - i.base) = some c)
    (ha : absent i (a.toNat - i.base) = false) :
    exec (.registerWrite .mgc a be v x) s = .next (s.reject i.base (a.toNat - i.base)) := by
  have hbe' : be.toNat ≠ 15 := fun e => hbe (BitVec.eq_of_toNat_eq e)
  calc exec (.registerWrite .mgc a be v x) s
      = .next (s.ownerWrite .mgc a.toNat be.toNat v.toNat x) := execRegisterWrite_of_holdsView s _ _ _ _ _ rfl
    _ = .next (s.refuse ⟨.mgc, i, a.toNat - i.base, c, v.toNat, x⟩) := by rw [s.ownerWrite_of_card _ _ _ _ _ hi hc ha, if_pos hbe']
    _ = .next (s.reject i.base (a.toNat - i.base)) := by rw [s.refuse_of_hdr _ hh]

end Sys2Proof.Machine
end

section
/-! The statements on commands in general and on register writes through the owner view. -/
open Sys2Proof Sys2Proof.Machine

/-- Settles O4: the arm of every command is the next state that its meaning builds. -/
theorem everyCommandCompletes : Obligations.EveryCommandCompletes := by
  intro c s
  cases c <;> exact ⟨_, rfl⟩

/-- Settles O8: an accepted TSU write is one `put`, a partial write one `reject`; the rest reaches nothing. -/
theorem registerWritesAndReadsOfTheOwnerView : Obligations.RegisterWritesAndReadsOfTheOwnerView := by
  refine ⟨?accepted, ?discarded, ?noBlock, ?portAbsent⟩
  case accepted =>
    intro s p a v x c i hi _ _ hcode hlo hcal hc hq hb hok
    have haddr : i.base + (a.toNat - i.base) = a.toNat := by omega
    have hrd := s.put_rd_addr ⟨.mgc, i, a.toNat - i.base, c, v.toNat, x⟩
    have hkeeps := s.put_keeps ⟨.mgc, i, a.toNat - i.base, c, v.toNat, x⟩
    simp only [Acc.addr, Acc.word, Acc.puts, haddr, hq, Nat.or_zero] at hrd hkeeps
    exact ⟨_, tsuWrite_puts s a v x hi hcode hlo hcal hc hq hb hok, hrd, hkeeps⟩
  case discarded =>
    intro s a be v x c i hbe hi hh hc ha
    exact ⟨_, partialWrite_rejects s a be v x hbe hi hh hc ha, rfl, s.reject_keepsEv _ _⟩
  case noBlock =>
    intro s a be v x hi
    calc exec (.registerWrite .mgc a be v x) s
        = .next (s.ownerWrite .mgc a.toNat be.toNat v.toNat x) := execRegisterWrite_of_holdsView s _ _ _ _ _ rfl
      _ = .next s := by rw [s.ownerWrite_of_no_inst _ _ _ _ _ hi]
  case portAbsent =>
    intro s a be v x habsent
    have hview := s.holdsView_owner_of_absent habsent
    have hread := s.readFor_of_not_holdsView .owner a.toNat be.toNat hview
    exact ⟨execRegisterWrite_of_not_holdsView s _ _ _ _ _ hview, congrArg Host.Outcome.next hread, congrArg Host.Outcome.next hread⟩
end

section
/-! What O5 and O6 ask of an operation on the state: the queue stays, and tables in canonical form stay so. -/
namespace Sys2Proof.Machine

/-- `s` comes from `s₀` by steps that leave the queue and keep the tables of State.wf canonical. -/
structure Follows (s₀ s : State) : Prop where
  queue : s.pending = s₀.pending
  wf : s₀.wf = true → s.wf = true

theorem State.wf_iff (s : State) : s.wf = true ↔ mwf rstAt s.regs = true ∧ mwf rstAt s.act = true ∧ mwf (fun _ => 0) s.cnts = true ∧
    mwf (fun _ => 0) s.latch = true ∧ mwf pageRst s.pregs = true ∧ mrising s.mem.bytes = true := by
  simp only [State.wf, State.memWf, Bool.and_eq_true, and_assoc]

/-- Writes one after another keep the canonical form. -/
theorem mwf_foldl_mput {α β : Type} [DecidableEq α] (d : Nat → α) (k : β → Nat) (v : β → α) (l : List β) (m : Sparse α) (h : mwf d m = true) :
    mwf d (l.foldl (fun m x => mput d m (k x) (v x)) m) = true := by
  induction l generalizing m with
  | nil => exact h
  | cons x l ih => exact ih _ (mwf_mput d m _ _ h)

/-- The state in which a special instruction ends. -/
def Ex.state : Ex → State
  | .fault _ _ s => s
  | .stall _ _ s => s
  | .result _ _ _ s => s

namespace Follows
variable {s₀ s t : State}

theorem refl (s : State) : Follows s s := ⟨rfl, id⟩

theorem trans (h : Follows s₀ s) (k : Follows s t) : Follows s₀ t := ⟨k.queue.trans h.queue, fun w => k.wf (h.wf w)⟩

/-- Any part of the state beside the queue and the tables of State.wf may change. -/
theorem beside {tb mono free out straps tim tsu log fn tl sl dp boot tfn cip en rpl hp svc pw dbg quies} (hs : Follows s₀ s) :
    Follows s₀ { s with
      tb := tb, mono := mono, free := free, out := out, straps := straps, tim := tim, tsu := tsu, log := log, fn := fn, tl := tl, sl := sl
      dp := dp, boot := boot, tfn := tfn, cip := cip, en := en, rpl := rpl, hp := hp, svc := svc, pw := pw, dbg := dbg, quies := quies } :=
  ⟨hs.queue, hs.wf⟩

/-- Of the memory, all but its bytes may change. -/
theorem besideBytes {ch panic init} (hs : Follows s₀ s) :
    Follows s₀ { s with mem := { s.mem with ch := ch, panic := panic, init := init } } := ⟨hs.queue, hs.wf⟩

/-! ### Choices, folds, calls that also answer a value -/

theorem ite {c : Prop} {_ : Decidable c} (hs : Follows s₀ s) (ht : Follows s₀ t) : Follows s₀ (if c then s else t) := by
  split
  · exact hs
  · exact ht

theorem ite_snd {c : Prop} {_ : Decidable c} {α : Type} {x y : α × State} (hx : Follows s₀ x.2) (hy : Follows s₀ y.2) :
    Follows s₀ (if c then x else y).2 := by
  split
  · exact hx
  · exact hy

theorem ite_snd_snd {c : Prop} {_ : Decidable c} {α β : Type} {x y : α × β × State} (hx : Follows s₀ x.2.2) (hy : Follows s₀ y.2.2) :
    Follows s₀ (if c then x else y).2.2 := by
  split
  · exact hx
  · exact hy

/-- The state that a call answers beside a value. -/
theorem pair {α : Type} {x : α} (hs : Follows s₀ s) : Follows s₀ (x, s).2 := hs

theorem pair₂ {α β : Type} {x : α} {y : β} (hs : Follows s₀ s) : Follows s₀ (x, y, s).2.2 := hs

theorem ite_state {c : Prop} {_ : Decidable c} {x y : Ex} (hx : Follows s₀ x.state) (hy : Follows s₀ y.state) :
    Follows s₀ (if c then x else y).state := by
  split
  · exact hx
  · exact hy

theorem fault {code addr : Nat} (hs : Follows s₀ s) : Follows s₀ (Ex.fault code addr s).state := hs
theorem stall {cause ch : Nat} (hs : Follows s₀ s) : Follows s₀ (Ex.stall cause ch s).state := hs
theorem result {st v : Nat} {w : List (Nat × List Byte)} (hs : Follows s₀ s) : Follows s₀ (Ex.result st v w s).state := hs
theorem of_eq {x y : Ex} (hx : Follows s₀ x.state) (e : x = y) : Follows s₀ y.state := e ▸ hx

theorem foldl {α : Type} {f : State → α → State} {l : List α} (hs : Follows s₀ s) (step : ∀ t x, Follows s₀ t → Follows s₀ (f t x)) :
    Follows s₀ (l.foldl f s) := by
  induction l generalizing s with
  | nil => exact hs
  | cons x l ih => exact ih (step s x hs)

theorem foldl_snd {α β : Type} {f : β × State → α → β × State} {l : List α} {p : β × State} (hp : Follows s₀ p.2)
    (step : ∀ q x, Follows s₀ q.2 → Follows s₀ (f q x).2) : Follows s₀ (l.foldl f p).2 := by
  induction l generalizing p with
  | nil => exact hp
  | cons x l ih => exact ih (step p x hp)

/-! ### The five tables and the memory -/

/-- The tables may change to canonical ones. -/
theorem tables {mr ma ml mp : Sparse Word} {mc : Sparse Nat} (hs : Follows s₀ s) (hr : mwf rstAt s.regs = true → mwf rstAt mr = true)
    (ha : mwf rstAt s.act = true → mwf rstAt ma = true) (hc : mwf (fun _ => 0) s.cnts = true → mwf (fun _ => 0) mc = true)
    (hl : mwf (fun _ => 0) s.latch = true → mwf (fun _ => 0) ml = true) (hp : mwf pageRst s.pregs = true → mwf pageRst mp = true) :
    Follows s₀ { s with regs := mr, act := ma, cnts := mc, latch := ml, pregs := mp } :=
  ⟨hs.queue, fun w => by
    obtain ⟨hr', ha', hc', hl', hp', hm⟩ := (State.wf_iff s).1 (hs.wf w)
    exact (State.wf_iff _).2 ⟨hr hr', ha ha', hc hc', hl hl', hp hp', hm⟩⟩

theorem regs {m : Sparse Word} (hs : Follows s₀ s) (hm : mwf rstAt s.regs = true → mwf rstAt m = true) : Follows s₀ { s with regs := m } :=
  hs.tables hm id id id id

theorem act {m : Sparse Word} (hs : Follows s₀ s) (hm : mwf rstAt s.act = true → mwf rstAt m = true) : Follows s₀ { s with act := m } :=
  hs.tables id hm id id id

theorem cnts {m : Sparse Nat} (hs : Follows s₀ s) (hm : mwf (fun _ => 0) s.cnts = true → mwf (fun _ => 0) m = true) :
    Follows s₀ { s with cnts := m } :=
  hs.tables id id hm id id

theorem latch {m : Sparse Word} (hs : Follows s₀ s) (hm : mwf (fun _ => 0) s.latch = true → mwf (fun _ => 0) m = true) :
    Follows s₀ { s with latch := m } :=
  hs.tables id id id hm id

theorem pregs {m : Sparse Word} (hs : Follows s₀ s) (hm : mwf pageRst s.pregs = true → mwf pageRst m = true) : Follows s₀ { s with pregs := m } :=
  hs.tables id id id id hm

theorem wr {a v : Nat} (hs : Follows s₀ s) : Follows s₀ (s.wr a v) := hs.regs (mwf_mput _ _ _ _)

theorem setCnt {a v : Nat} (hs : Follows s₀ s) : Follows s₀ (s.setCnt a v) := hs.cnts (mwf_mput _ _ _ _)

theorem setLat {q : Req} {a v : Nat} (hs : Follows s₀ s) : Follows s₀ (s.setLat q a v) := hs.latch (mwf_mput _ _ _ _)

theorem pwr {f off v : Nat} (hs : Follows s₀ s) : Follows s₀ (s.pwr f off v) := hs.pregs (mwf_mput _ _ _ _)

/-- A change of the memory that leaves its addresses rising. -/
theorem rising {mem : MemSt} (hs : Follows s₀ s) (hm : mrising s.mem.bytes = true → mrising mem.bytes = true) :
    Follows s₀ { s with mem := mem } :=
  ⟨hs.queue, fun w => by
    obtain ⟨hr, ha, hc, hl, hp, hb⟩ := (State.wf_iff _).1 (hs.wf w)
    exact (State.wf_iff _).2 ⟨hr, ha, hc, hl, hp, hm hb⟩⟩

theorem putBytes {a : Nat} {bs : List Byte} (hs : Follows s₀ s) : Follows s₀ (s.putBytes a bs) :=
  hs.rising (State.putBytes_rising a bs)

theorem zeroRange {lo hi : Nat} (hs : Follows s₀ s) : Follows s₀ (s.zeroRange lo hi) :=
  hs.rising (State.zeroRange_rising lo hi)

end Follows
end Sys2Proof.Machine
end

section
/-! The operations of the registers, events and shared operations leave the queue and keep the tables canonical: a lemma for each. -/
namespace Sys2Proof.Machine.Follows
variable {s₀ s t : State}

/-! ### Ops -/

theorem setFld {a hi lo v : Nat} (hs : Follows s₀ s) : Follows s₀ (s.setFld a hi lo v) := hs.wr

theorem bump {a n : Nat} (hs : Follows s₀ s) : Follows s₀ (s.bump a n) := hs.setCnt

theorem bump32 {a n : Nat} (hs : Follows s₀ s) : Follows s₀ (s.bump32 a n) := hs.wr

theorem emit {o : Out} (hs : Follows s₀ s) : Follows s₀ (s.emit o) := hs.beside

theorem answer {q : Req} {a : Nat} {r : Nat × State} (hr : Follows s₀ r.2) : Follows s₀ (Machine.answer q a r) := hr.emit

theorem draw (hs : Follows s₀ s) : Follows s₀ (s.draw).2 := hs.beside

theorem setBlk {base v : Nat} (hs : Follows s₀ s) : Follows s₀ (s.setBlk base v) := hs.setFld

theorem msixBuild {f v : Nat} (hs : Follows s₀ s) : Follows s₀ (s.msixBuild f v) := hs.emit

theorem setPba {f v : Nat} {b : Bool} (hs : Follows s₀ s) : Follows s₀ (s.setPba f v b) := hs.pwr

theorem msixTrigger {f v : Nat} (hs : Follows s₀ s) : Follows s₀ (s.msixTrigger f v) := hs.msixBuild.ite hs.setPba

theorem evtVector {f v : Nat} (hs : Follows s₀ s) : Follows s₀ (s.evtVector f v) := hs.msixTrigger.ite hs.bump

theorem capture {base c src sev : Nat} {y : Synd} (hs : Follows s₀ s) : Follows s₀ (s.capture base c src sev y).2 :=
  (((hs.setFld.setFld.ite hs.setFld).bump32).pair).ite_snd hs.wr.wr.wr.wr.wr.wr.wr.wr.pair

theorem logEvent {base c src sev : Nat} {first : Bool} {y : Synd} (hs : Follows s₀ s) : Follows s₀ (s.logEvent base c src sev first y).2
  :=
  hs.setFld.beside.setFld.bump.pair.ite_snd hs.setFld.bump32.pair

theorem latchCause {c src : Nat} (hs : Follows s₀ s) : Follows s₀ (s.latchCause c src) := (hs.setFld.setFld.ite hs.setFld.setFld.wr).wr

theorem occur {base c src : Nat} {y : Synd} (hs : Follows s₀ s) : Follows s₀ (s.occur base c src y).2 := by
  unfold State.occur
  split
  · exact hs
  · extract_lets s₁ r route l s₂ s₃ s₄ mf s₅ s₆ s₇
    have h₁ : Follows s₀ s₁ := hs.bump
    have hr : Follows s₀ r.2 := h₁.capture.ite_snd h₁
    have hl : Follows s₀ l.2 := hr.logEvent.ite_snd hr
    clear_value r l
    have h₄ : Follows s₀ s₄ := (hl.latchCause.setFld.ite hl.latchCause).setFld.ite (hl.latchCause.setFld.ite hl.latchCause)
    clear_value s₄ mf
    cases mf with
    | none => exact h₄.evtVector.ite h₄
    | some x => exact (h₄.pwr.pwr.evtVector.ite h₄.pwr.pwr).evtVector

theorem raiseAt {base c src : Nat} {y : Synd} (hs : Follows s₀ s) : Follows s₀ (s.raiseAt base c src y) := hs.occur.occur.ite hs.occur

theorem raise {base c src : Nat} (hs : Follows s₀ s) : Follows s₀ (s.raise base c src) := hs.raiseAt

theorem reject {base off : Nat} (hs : Follows s₀ s) : Follows s₀ (s.reject base off) := (hs.bump32.ite hs.bump32.wr).raise

theorem rejectPage (hs : Follows s₀ s) : Follows s₀ s.rejectPage := hs.bump32

/-! ### CipQ -/

theorem setCip {f : CipSt → CipSt} (hs : Follows s₀ s) : Follows s₀ (s.setCip f) := hs.beside

theorem setCipQ {n : Nat} {l : List Msg} (hs : Follows s₀ s) : Follows s₀ (s.setCipQ n l) := hs.setCip.setFld.setFld

theorem cipRefill {n : Nat} (hs : Follows s₀ s) : Follows s₀ (s.cipRefill n) := hs.ite hs.setCipQ.setCip

theorem cipSubmit {n : Nat} {m : Msg} (hs : Follows s₀ s) : Follows s₀ (s.cipSubmit n m) := hs.setCip.cipRefill

theorem cipTap {len : Nat} (hs : Follows s₀ s) : Follows s₀ (s.cipTap len).2 := hs.setCipQ.pair.ite_snd hs.bump.pair

/-! ### MemOps -/

theorem setCh {c : Nat} {f : ChSt → ChSt} (hs : Follows s₀ s) : Follows s₀ (s.setCh c f) := hs.besideBytes

theorem toCh {c st : Nat} (hs : Follows s₀ s) : Follows s₀ (s.toCh c st) := hs.setFld.setCh

theorem memRefuse {q : MReq} {a : Nat} (hs : Follows s₀ s) : Follows s₀ (s.memRefuse q a) := hs.bump.raiseAt

theorem memBytes {a n : Nat} (hs : Follows s₀ s) : Follows s₀ (s.memBytes a n).2 := by
  unfold State.memBytes
  refine hs.foldl_snd ?_
  intro _ _ hs
  split
  · exact hs
  · exact hs.draw

theorem initAdvance {a : Nat} (hs : Follows s₀ s) : Follows s₀ (s.initAdvance a) := by
  unfold State.initAdvance
  split
  · exact hs
  · exact hs.draw.zeroRange.besideBytes.ite hs

theorem eccBad {a : Nat} {tag : Bool} (hs : Follows s₀ s) : Follows s₀ (s.eccBad a tag) := hs.bump.raiseAt

theorem eccCorr (hs : Follows s₀ s) : Follows s₀ s.eccCorr := hs.bump.raise.ite hs.bump

theorem mciRead {a n : Nat} {e : Ecc} (hs : Follows s₀ s) : Follows s₀ (s.mciRead a n e).2 := by
  unfold State.mciRead
  refine ((hs.ite ?_).foldl (fun _ _ hs => hs.eccBad)).memBytes
  split
  · exact hs
  · exact hs.eccCorr
  · exact hs.eccBad
  · exact hs.eccBad

theorem mciWrite {a : Nat} {bs : List Byte} (hs : Follows s₀ s) : Follows s₀ (s.mciWrite a bs) :=
  (hs.initAdvance.foldl (fun _ _ hs => hs.putBytes.ite (hs.bump.putBytes.ite hs.bump.eccBad))).ite hs.initAdvance.putBytes

theorem memRead {a n : Nat} {e : Ecc} (hs : Follows s₀ s) : Follows s₀ (s.memRead a n e).2 := by
  unfold State.memRead
  split
  · exact hs.bump.memBytes
  · exact hs.mciRead

theorem memWrite {a : Nat} {bs : List Byte} (hs : Follows s₀ s) : Follows s₀ (s.memWrite a bs) := by
  unfold State.memWrite
  split
  · exact hs.bump
  · exact hs.mciWrite

theorem backlog {p level : Nat} (hs : Follows s₀ s) : Follows s₀ (s.backlog p level) :=
  hs.setFld.setFld.setFld.bump.besideBytes.ite (hs.setFld.setFld.setFld.besideBytes.ite hs.setFld.setFld)

theorem rejudge {p : Nat} (hs : Follows s₀ s) : Follows s₀ (s.rejudge p) := hs.backlog

theorem backlogOf {r : MemReq} {add : Bool} (hs : Follows s₀ s) : Follows s₀ (s.backlogOf r add) := by
  unfold State.backlogOf
  split
  · exact hs
  · exact hs.backlog

end Sys2Proof.Machine.Follows
end

section
/-! The operations of the data path, the links, the time base and the engines leave the queue and keep the tables canonical: a lemma for each. -/
namespace Sys2Proof.Machine.Follows
variable {s₀ s t : State}

/-! ### PrsOps -/

theorem setDp {f : DataSt → DataSt} (hs : Follows s₀ s) : Follows s₀ (s.setDp f) := hs.beside

theorem parseCount {n : Nat} {p : Parsed} (hs : Follows s₀ s) : Follows s₀ (s.parseCount n p) :=
  (hs.bump.ite (hs.bump.bump.ite hs.bump.bump)).foldl fun _ _ hs => hs.raiseAt

/-! ### FwdOps -/

theorem setFwd {f : FwdSt → FwdSt} (hs : Follows s₀ s) : Follows s₀ (s.setFwd f) := hs.setDp

theorem deepPut {a : Nat} {bs : List Byte} (hs : Follows s₀ s) : Follows s₀ (s.deepPut a bs) := hs.memWrite.ite hs.memRefuse

theorem fput {mem i v : Nat} (hs : Follows s₀ s) : Follows s₀ (s.fput mem i v) := hs.deepPut.ite hs.setFwd

theorem setEntry {t : Tab} {i e : Nat} (hs : Follows s₀ s) : Follows s₀ (s.setEntry t i e) := hs.fput.fput.ite hs.fput

theorem notify {n : Nat} (hs : Follows s₀ s) : Follows s₀ (s.notify n) := hs.setFwd.setFld.ite hs.bump32.raise

theorem fwdParity {pipe m slot n : Nat} (hs : Follows s₀ s) : Follows s₀ (s.fwdParity pipe m slot n) := hs.bump.raiseAt.notify

theorem deepErr (hs : Follows s₀ s) : Follows s₀ s.deepErr := hs.bump.raise

theorem reportBad {t : Tab} {l : List Nat} (hs : Follows s₀ s) : Follows s₀ (s.reportBad t l) := by
  unfold State.reportBad
  refine hs.foldl ?_
  intro _ _ hs
  refine ((hs.memRefuse.ite ?_).deepErr).ite (hs.foldl (fun _ _ hs => hs.fwdParity))
  split
  · exact hs.bump
  · exact hs.eccBad

theorem lookupExact {t : Tab} {k : Nat} (hs : Follows s₀ s) : Follows s₀ (s.lookupExact t k).2 := by
  unfold State.lookupExact
  dsimp only
  split
  · exact hs.reportBad
  · exact hs.reportBad.setEntry

theorem lookupTernary {t : Tab} {k : Nat} (hs : Follows s₀ s) : Follows s₀ (s.lookupTernary t k).2 := by
  unfold State.lookupTernary
  dsimp only
  split
  · exact hs.reportBad
  · exact hs.reportBad.fput

theorem lookupLpm {t : Tab} {a : Nat} (hs : Follows s₀ s) : Follows s₀ (s.lookupLpm t a).2 := by
  unfold State.lookupLpm
  dsimp only
  split
  · exact hs.fwdParity
  · split
    · exact hs
    · exact hs.fwdParity.pair.ite_snd (hs.pair.ite_snd hs.pair)

theorem makeRoom {t : Tab} {n : Nat} {seen l : List Nat} {x : Nat × State} (hs : Follows s₀ s)
    (e : State.makeRoom t n s seen l = some x) : Follows s₀ x.2 := by
  induction n generalizing seen l x with
  | zero => cases e
  | succ n ih =>
    unfold State.makeRoom at e
    obtain ⟨i, -, e⟩ := List.exists_of_findSome?_eq_some e
    dsimp only at e
    split at e
    · cases e
      exact hs.setEntry.setEntry
    · split at e
      · cases e
      · next r hr =>
        cases e
        exact (ih hr).setEntry.setEntry

theorem relimit {pipe : Nat} (hs : Follows s₀ s) : Follows s₀ (s.relimit pipe) := by
  unfold State.relimit
  exact hs.setFwd

theorem recount {pipe : Nat} (hs : Follows s₀ s) : Follows s₀ (s.recount pipe) := ((hs.foldl (fun _ _ hs => hs.setFld)).setFld).relimit

theorem after {t : Tab} (hs : Follows s₀ s) : Follows s₀ (s.after t) := hs.recount.ite hs

theorem victim {t : Tab} {l : List Nat} (hs : Follows s₀ s) : Follows s₀ (s.victim t l).2 :=
  hs.draw.pair.ite_snd (hs.pair.ite_snd hs.pair)

theorem placeEntry {t : Tab} {k e : Nat} (hs : Follows s₀ s) : Follows s₀ (s.placeEntry t k e).2.2 := by
  unfold State.placeEntry
  dsimp only
  split
  · exact hs.setEntry.after
  · split
    · next r hr => exact (hs.makeRoom hr).setEntry.after
    · split
      · exact hs.victim.bump.raise
      · exact hs.victim.setEntry.after.bump.notify.raise

theorem sourceHit {pipe i vport : Nat} {learn : Bool} (hs : Follows s₀ s) : Follows s₀ (s.sourceHit pipe i vport learn) :=
  hs.setEntry.ite ((hs.bump.ite hs).ite (hs.setEntry.ite hs.setEntry.after.bump.notify))

theorem setLearnQ {pipe : Nat} {l : List (Nat × Nat)} (hs : Follows s₀ s) : Follows s₀ (s.setLearnQ pipe l) := hs.setFwd

theorem sourceMiss {pipe key vport : Nat} (hs : Follows s₀ s) : Follows s₀ (s.sourceMiss pipe key vport).2 :=
  hs.bump.pair.ite_snd (((((hs.ite hs.setFwd.raise).bump).pair).ite_snd (((hs.ite hs.setFwd.raise).bump).pair)).ite_snd
    (hs.setFwd.pair.ite_snd (hs.setFwd.bump.pair.ite_snd hs.setFwd.setLearnQ.pair)))

theorem l2Stage {pipe fid da sa vport : Nat} (hs : Follows s₀ s) : Follows s₀ (s.l2Stage pipe fid da sa vport).2.2 := by
  unfold State.l2Stage
  refine pair₂ ?_
  split
  · exact hs.reportBad.reportBad.sourceHit
  · split
    · exact hs.reportBad.reportBad.sourceMiss
    · exact hs.reportBad.reportBad

/-! ### TailOps -/

theorem setTl {f : TailSt → TailSt} (hs : Follows s₀ s) : Follows s₀ (s.setTl f) := hs.beside

theorem setSl {f : StrSt → StrSt} (hs : Follows s₀ s) : Follows s₀ (s.setSl f) := hs.beside

theorem ringLevel (hs : Follows s₀ s) : Follows s₀ s.ringLevel := hs.wr.setTl.raise.ite hs.wr.setTl

theorem ringStore {i : Nat} {u : TUnit} (hs : Follows s₀ s) : Follows s₀ (s.ringStore i u) := hs.memWrite.ite hs.memRefuse

theorem ringLoad {i : Nat} (hs : Follows s₀ s) : Follows s₀ (s.ringLoad i).2 := hs.memRead.pair.ite_snd hs.memRefuse.pair

theorem ringRelease {n : Nat} (hs : Follows s₀ s) : Follows s₀ (s.ringRelease n) := hs.setTl.ringLevel

theorem toSink {r : RUnit} (hs : Follows s₀ s) : Follows s₀ (s.toSink r) := hs.setSl.ite hs.setTl

theorem intoPath {u : TUnit} (hs : Follows s₀ s) : Follows s₀ (s.intoPath u) := hs.toSink.ite hs.ringStore.setTl.ringLevel

theorem drainHold {n : Nat} (hs : Follows s₀ s) : Follows s₀ (s.drainHold n) := by
  induction n generalizing s with
  | zero => exact hs
  | succ n ih =>
    unfold State.drainHold
    split
    · exact hs
    · exact ite (ih hs.setTl.intoPath) hs

theorem place {u : TUnit} (hs : Follows s₀ s) : Follows s₀ (s.place u) := hs.intoPath.ite hs.setTl

theorem closeLink (hs : Follows s₀ s) : Follows s₀ s.closeLink := hs.ite hs.setTl

theorem chainUnit {payload : Nat} (hs : Follows s₀ s) : Follows s₀ (s.chainUnit payload).2 :=
  hs.setTl.setCnt.bump.closeLink.ite hs.setTl.setCnt.bump

theorem chainGap (hs : Follows s₀ s) : Follows s₀ s.chainGap := by
  unfold State.chainGap
  split
  · exact hs
  · exact hs.setTl.chainUnit.place.bump.raise

theorem cpRegs (hs : Follows s₀ s) : Follows s₀ s.cpRegs := hs.setFld.foldl fun _ _ hs => hs.wr

theorem takeCp {c : CpCause} (hs : Follows s₀ s) : Follows s₀ (s.takeCp c) := hs.chainGap.closeLink.setTl.cpRegs.raise

theorem joinCp {c : CpCause} (hs : Follows s₀ s) : Follows s₀ (s.joinCp c) := by
  unfold State.joinCp
  exact hs.closeLink.setTl.cpRegs

theorem cpTake {c : CpCause} (hs : Follows s₀ s) : Follows s₀ (s.cpTake c) := by
  unfold State.cpTake
  split
  · exact hs.joinCp
  · exact hs.takeCp.ite hs.setTl.raise

theorem chainTqUnit {q : TqRec} (hs : Follows s₀ s) : Follows s₀ (s.chainTqUnit q) := hs.chainUnit.place

theorem chainTq {q : TqRec} (hs : Follows s₀ s) : Follows s₀ (s.chainTq q) :=
  (hs.chainGap.chainTqUnit.takeCp.ite hs.chainTqUnit.cpTake).ite hs.chainTqUnit

theorem tqEvent {q : TqRec} (hs : Follows s₀ s) : Follows s₀ (s.tqEvent q) := by
  unfold State.tqEvent
  refine hs.ite ?_
  split
  · exact hs.setTl
  · exact hs.chainTq.ite hs.setTl

theorem flushTq (hs : Follows s₀ s) : Follows s₀ s.flushTq := by
  unfold State.flushTq
  split
  · exact hs
  · exact hs.setTl.chainTq.ite hs

theorem cpDue {c : CpCause} (hs : Follows s₀ s) : Follows s₀ (s.cpDue c) := hs.flushTq.cpTake

theorem tailSettle (hs : Follows s₀ s) : Follows s₀ s.tailSettle := hs.drainHold

theorem addGap {cause rclass : Nat} {ts : Instant} (hs : Follows s₀ s) : Follows s₀ (s.addGap cause rclass ts) := hs.setTl.bump

theorem commitUnit {payload rclass : Nat} {ts : Instant} (hs : Follows s₀ s) : Follows s₀ (s.commitUnit payload rclass ts).2 :=
  hs.flushTq.addGap.pair.ite_snd hs.flushTq.chainGap.chainUnit.place.pair

theorem digest {rc : Nat} {bytes : List Byte} (hs : Follows s₀ s) : Follows s₀ (s.digest rc bytes).2.2 := by
  unfold State.digest
  refine hs.ite_snd_snd (hs.ite_snd_snd ((ite_snd_snd ?_ hs.setTl.cipTap.bump).ite_snd_snd hs.setTl.bump))
  unfold State.setTl
  exact hs.beside.cipTap.beside

theorem startEpoch (hs : Follows s₀ s) : Follows s₀ s.startEpoch := hs.setCnt.setTl.chainUnit.place.raise

theorem tailResume (hs : Follows s₀ s) : Follows s₀ s.tailResume := hs.ite ((hs.ite hs.startEpoch).chainGap)

theorem tailChainEnd (hs : Follows s₀ s) : Follows s₀ s.tailChainEnd := hs.cpDue.ite hs

theorem putFlit {fseq count : Nat} {bytes : List Byte} {resend : Bool} (hs : Follows s₀ s) : Follows s₀
  (s.putFlit fseq count bytes resend) :=
  hs.setSl.emit

theorem sendFlit {f : Flit} {resend : Bool} (hs : Follows s₀ s) : Follows s₀ (s.sendFlit f resend) := hs.putFlit.bump

theorem resendFrom {v : Nat} (hs : Follows s₀ s) : Follows s₀ (s.resendFrom v) := hs.setSl.foldl fun _ _ hs => hs.sendFlit

theorem setStr {v : Nat} (hs : Follows s₀ s) : Follows s₀ (s.setStr v) := hs.setFld

theorem strTrain (hs : Follows s₀ s) : Follows s₀ s.strTrain := hs.setStr.setSl.emit

theorem strRetrain (hs : Follows s₀ s) : Follows s₀ s.strRetrain := hs.bump.raise.setSl.strTrain

theorem ringFront {us : List RUnit} (hs : Follows s₀ s) : Follows s₀ (s.ringFront us) := hs.setTl.foldl fun _ _ hs => hs.ringStore

theorem returnUnits (hs : Follows s₀ s) : Follows s₀ s.returnUnits := (hs.setSl.setTl.ite hs.setSl.ringFront).ringLevel

theorem strDisable (hs : Follows s₀ s) : Follows s₀ s.strDisable := by
  unfold State.strDisable
  exact (hs.raise.ite hs).setStr.returnUnits

theorem ackTo {v : Nat} (hs : Follows s₀ s) : Follows s₀ (s.ackTo v) := hs.ite hs.setCnt.setSl.ringRelease.tailSettle

/-! ### TimOps -/

theorem setTim {f : TimSt → TimSt} (hs : Follows s₀ s) : Follows s₀ (s.setTim f) := hs.beside

theorem setTrk {n : Nat} {f : Track → Track} (hs : Follows s₀ s) : Follows s₀ (s.setTrk n f) := hs.setTim

theorem timKeep (hs : Follows s₀ s) : Follows s₀ s.timKeep := by
  have ha : Follows s₀ { s with act := timLiveA.foldl (fun m a => mput rstAt m a (mget rstAt s.regs a)) s.act } :=
    hs.act (mwf_foldl_mput _ _ _ _ _)
  exact hs.ite ha.beside

theorem showEst (hs : Follows s₀ s) : Follows s₀ s.showEst := hs.wr

theorem tqTransition {new est : Nat} (hs : Follows s₀ s) : Follows s₀ (s.tqTransition new est) := by
  unfold State.tqTransition
  refine ((((hs.setTim.ite (ite ?_ hs)).setFld).setFld).showEst).raise
  split
  · exact hs
  · exact hs.setTrk

theorem secondPassed (hs : Follows s₀ s) : Follows s₀ s.secondPassed :=
  (((hs.setTrk.setTrk.setTrk.ite hs.setTrk.setTrk).setFld).setTim).showEst

theorem evaluateTq {second forced : Bool} (hs : Follows s₀ s) : Follows s₀ (s.evaluateTq second forced).2 := by
  unfold State.evaluateTq
  dsimp only
  split
  · exact hs.secondPassed.ite hs
  · exact (hs.secondPassed.ite hs).tqTransition

theorem chainTqEvent {old cause : Nat} {step : Option Int} (hs : Follows s₀ s) : Follows s₀ (s.chainTqEvent old cause step) := hs.tqEvent

theorem leap (hs : Follows s₀ s) : Follows s₀ s.leap.2 := by
  have ha {a : Nat} {v : Word} : Follows s₀ { s with act := mput rstAt s.act a v } := hs.act (mwf_mput _ _ _ _)
  exact ite_snd (raise (beside ((ha.ite hs).wr.ite (ha.ite hs)))) hs

theorem jumpTo {t : Instant} {cause : Nat} {change : Int} (hs : Follows s₀ s) : Follows s₀ (s.jumpTo t cause change) :=
  hs.beside.raise.leap.evaluateTq.setTim.chainTqEvent

theorem applyAdj {p : PendAdj} {cable : Nat} (hs : Follows s₀ s) : Follows s₀ (s.applyAdj p cable) := hs.setTim.setFld.setFld.jumpTo

theorem srcLost {n : Nat} (hs : Follows s₀ s) : Follows s₀ (s.srcLost n) := hs.setTrk.raise

theorem passTime (hs : Follows s₀ s) : Follows s₀ s.passTime := hs.beside

theorem adjWrite {isSet both atPps clrFail : Bool} (hs : Follows s₀ s) : Follows s₀ (s.adjWrite isSet both atPps clrFail) :=
  hs.reject.ite ((((hs.setFld.ite hs).setFld).setFld).setTim)

theorem setPtm {h : Nat} {f : PtmReq → PtmReq} (hs : Follows s₀ s) : Follows s₀ (s.setPtm h f) := hs.setTim

theorem setTsu {p : Nat} {f : TsuSt → TsuSt} (hs : Follows s₀ s) : Follows s₀ (s.setTsu p f) := hs.beside

theorem calStart {p : Nat} (hs : Follows s₀ s) : Follows s₀ (s.calStart p) := hs.setFld.setTsu

theorem calLinkDown {p : Nat} (hs : Follows s₀ s) : Follows s₀ (s.calLinkDown p) := hs.setFld

theorem rxCapture {p : Nat} (hs : Follows s₀ s) : Follows s₀ (s.rxCapture p).2.2 := hs.draw

theorem txCapture {p : Nat} (hs : Follows s₀ s) : Follows s₀ (s.txCapture p).2.2 := hs.draw

theorem txtsPush {p : Nat} {e : TxtsEntry} (hs : Follows s₀ s) : Follows s₀ (s.txtsPush p e) := hs.setTsu.ite hs.bump32.raise

/-! ### SchOps -/

theorem setSch {g : SchSt → SchSt} (hs : Follows s₀ s) : Follows s₀ (s.setSch g) := hs.setDp

theorem setPrf {g : PrfSt → PrfSt} (hs : Follows s₀ s) : Follows s₀ (s.setPrf g) := hs.setDp

theorem setPipe {n : Nat} {g : PipeSt → PipeSt} (hs : Follows s₀ s) : Follows s₀ (s.setPipe n g) := hs.setDp

theorem setMac {p : Nat} {g : MacSt → MacSt} (hs : Follows s₀ s) : Follows s₀ (s.setMac p g) := hs.setDp

theorem setLive {id : Nat} {l : Option Live} (hs : Follows s₀ s) : Follows s₀ (s.setLive id l) := hs.setDp

theorem birth {f : Frame} (hs : Follows s₀ s) : Follows s₀ (s.birth f).2 := hs.setDp.setLive

theorem poolAdd {n : Nat} (hs : Follows s₀ s) : Follows s₀ (s.poolAdd n) := hs.setFld

theorem endCopy {id : Nat} {held : Bool} {fate : Fate} (hs : Follows s₀ s) : Follows s₀ (s.endCopy id held fate) := by
  unfold State.endCopy
  split
  · exact hs
  · refine ite ?_ ((hs.poolAdd.ite hs).setLive)
    dsimp only
    split
    · exact ((hs.poolAdd.ite hs).setLive).setDp
    · exact (hs.poolAdd.ite hs).setLive

theorem missRecord {p : Nat} {c : Copy} (hs : Follows s₀ s) : Follows s₀ (s.missRecord p c) := by
  unfold State.missRecord
  split
  · exact hs
  · exact hs.commitUnit

theorem setHeld {p : Nat} {l : List Held} (hs : Follows s₀ s) : Follows s₀ (s.setHeld p l) := hs.setPrf.setFld.setFld

theorem setGroup {x : Group} (hs : Follows s₀ s) : Follows s₀ (s.setGroup x) := hs.setPrf

theorem dropGroup {g : Nat} (hs : Follows s₀ s) : Follows s₀ (s.dropGroup g) := hs.setPrf.setFld

theorem horizonDrop {c : Copy} (hs : Follows s₀ s) : Follows s₀ (s.horizonDrop c) := by
  unfold State.horizonDrop
  exact hs.bump.raise.missRecord.endCopy

theorem fixGroup {x : Group} {r : Instant} (hs : Follows s₀ s) : Follows s₀ (s.fixGroup x r) :=
  ((hs.foldl (fun _ _ hs => hs.setHeld.ite hs)).setGroup).ite
    ((((hs.foldl (fun _ _ hs => hs.setHeld.ite hs)).foldl (fun _ _ hs => hs.horizonDrop)).dropGroup).ite
    (((hs.foldl (fun _ _ hs => hs.setHeld.ite hs)).foldl (fun _ _ hs => hs.horizonDrop)).setGroup))

theorem settleGroup {x : Group} (hs : Follows s₀ s) : Follows s₀ (s.settleGroup x) :=
  hs.dropGroup.ite (hs.setGroup.fixGroup.ite hs.setGroup)

theorem lostCopy {c : Copy} (hs : Follows s₀ s) : Follows s₀ (s.lostCopy c) := by
  unfold State.lostCopy
  split
  · exact hs
  · exact hs.settleGroup

theorem leaveGroup {c : Copy} (hs : Follows s₀ s) : Follows s₀ (s.leaveGroup c) := by
  unfold State.leaveGroup
  split
  · exact hs
  · exact hs.settleGroup

theorem loseCopy {c : Copy} (hs : Follows s₀ s) : Follows s₀ (s.loseCopy c) := hs.lostCopy.endCopy

theorem formGroup {f : Frame} {cs : List Copy} (hs : Follows s₀ s) : Follows s₀ (s.formGroup f cs).2 := by
  unfold State.formGroup
  dsimp only
  exact hs.pair.ite_snd (hs.pair.ite_snd (hs.bump.pair.ite_snd hs.setPrf.setFld.bump.pair))

theorem setPq {p q : Nat} {g : QSt → QSt} (hs : Follows s₀ s) : Follows s₀ (s.setPq p q g) := hs.setSch

theorem setVq {v q : Nat} {l : List Copy} (hs : Follows s₀ s) : Follows s₀ (s.setVq v q l) := hs.setSch

theorem setVcells {v n : Nat} (hs : Follows s₀ s) : Follows s₀ (s.setVcells v n) := hs.setSch

theorem deepWrite {c : Copy} (hs : Follows s₀ s) : Follows s₀ (s.deepWrite c) := hs.foldl fun _ _ hs => hs.memWrite.ite hs.memRefuse

theorem deepRead {q : MReq} {c : Copy} (hs : Follows s₀ s) : Follows s₀ (s.deepRead q c).2 :=
  hs.pair.ite_snd ((hs.foldl_snd (fun _ _ hs => hs.memRead.pair.ite_snd hs.memRefuse.pair)).pair)

theorem deepHigh {old : Nat} (hs : Follows s₀ s) : Follows s₀ (s.deepHigh old) := hs.raise.ite hs

theorem spillFlag {p q : Nat} (hs : Follows s₀ s) : Follows s₀ (s.spillFlag p q) := hs.ite hs.setFld

theorem calSample {p : Nat} {ts : Instant} (hs : Follows s₀ s) : Follows s₀ (s.calSample p ts) := hs.setPrf.ite hs

theorem pauseNow {p k quanta : Nat} (hs : Follows s₀ s) : Follows s₀ (s.pauseNow p k quanta) := by
  unfold State.pauseNow
  exact hs.emit.bump.txCapture.calSample.setMac

theorem sendPause {p k quanta : Nat} (hs : Follows s₀ s) : Follows s₀ (s.sendPause p k quanta) := hs.setMac.ite hs.pauseNow

theorem pauseFlush {p : Nat} (hs : Follows s₀ s) : Follows s₀ (s.pauseFlush p) := hs.setMac.foldl fun _ _ hs => hs.pauseNow

theorem fcCheck {p pri : Nat} (hs : Follows s₀ s) : Follows s₀ (s.fcCheck p pri) :=
  (hs.setMac.sendPause.ite hs.setMac).ite (hs.setMac.sendPause.ite hs)

theorem fcAdmit {c : Copy} (hs : Follows s₀ s) : Follows s₀ (s.fcAdmit c) := by
  unfold State.fcAdmit
  split
  · exact hs
  · exact hs.setMac.fcCheck

theorem fcRelease {c : Copy} (hs : Follows s₀ s) : Follows s₀ (s.fcRelease c) := by
  unfold State.fcRelease
  split
  · exact hs
  · exact hs.setMac.fcCheck

theorem dropFlag {p q : Nat} (hs : Follows s₀ s) : Follows s₀ (s.dropFlag p q) := hs.ite hs.setFld.raise

theorem dropPort {c : Copy} (hs : Follows s₀ s) : Follows s₀ (s.dropPort c) := hs.bump.dropFlag.loseCopy

theorem wakeQ {p q : Nat} (hs : Follows s₀ s) : Follows s₀ (s.wakeQ p q) := hs.ite hs.setSch.setPq

theorem settleCredit {p q : Nat} (hs : Follows s₀ s) : Follows s₀ (s.settleCredit p q) := hs.ite ((hs.ite hs.setPq).ite hs.setPq)

theorem pushPort {c : Copy} (hs : Follows s₀ s) : Follows s₀ (s.pushPort c) :=
  (((hs.settleCredit.wakeQ.setPq.ite hs.settleCredit).setPq).bump).fcAdmit

theorem spillCells {id : Nat} (hs : Follows s₀ s) : Follows s₀ (s.spillCells id) := by
  unfold State.spillCells
  split
  · exact hs
  · exact hs.poolAdd.setLive.ite hs.setLive

theorem admitPort {c : Copy} (hs : Follows s₀ s) : Follows s₀ (s.admitPort c) :=
  hs.setFld.pushPort.ite ((hs.setFld.deepWrite.pushPort.spillCells.bump.deepHigh.ite hs.dropPort).ite hs.dropPort)

theorem dropVport {c : Copy} (hs : Follows s₀ s) : Follows s₀ (s.dropVport c) := hs.bump.loseCopy

theorem pushVport {c : Copy} (hs : Follows s₀ s) : Follows s₀ (s.pushVport c) := hs.setVcells.setVq.fcAdmit

theorem iqLevel {a n peakHi lvlHi : Nat} (hs : Follows s₀ s) : Follows s₀ (s.iqLevel a n peakHi lvlHi) := hs.setFld.setFld

theorem setTq {f : Nat} {rx : Bool} {q : Nat} {x : Option TQueue} (hs : Follows s₀ s) : Follows s₀ (s.setTq f rx q x) := hs.beside

theorem admitTenant {c : Copy} (hs : Follows s₀ s) : Follows s₀ (s.admitTenant c) := by
  unfold State.admitTenant
  dsimp only
  split
  · exact hs.bump.loseCopy
  · exact hs.bump.loseCopy.ite (hs.pushVport.ite hs.bump.dropVport)

theorem admitCluster {c : Copy} (hs : Follows s₀ s) : Follows s₀ (s.admitCluster c) :=
  hs.bump.raise.loseCopy.ite (hs.pushVport.iqLevel.bump.ite hs.dropVport)

theorem admitMgc {c : Copy} (hs : Follows s₀ s) : Follows s₀ (s.admitMgc c) :=
  hs.bump.raise.loseCopy.ite (hs.pushVport.iqLevel.ite hs.dropVport)

theorem enqueue {c : Copy} {seq : Bool} (hs : Follows s₀ s) : Follows s₀ (s.enqueue c seq) :=
  ((hs.bump.ite hs).dropVport).ite (hs.admitPort.ite (hs.admitTenant.ite (hs.admitCluster.ite hs.admitMgc)))

theorem groupMiss {c : Copy} {seq : Bool} (hs : Follows s₀ s) : Follows s₀ (s.groupMiss c seq) :=
  hs.raise.missRecord.endCopy.ite hs.raise.enqueue

theorem enqueueAll {f : Frame} {d : Dest} {seq : Bool} (hs : Follows s₀ s) : Follows s₀ (s.enqueueAll f d seq) := by
  unfold State.enqueueAll
  dsimp only
  split
  · refine (foldl ?_ (fun _ _ hs => hs.bump.loseCopy.ite (hs.bump.loseCopy.ite (hs.groupMiss.ite hs.enqueue)))).endCopy
    split
    · exact hs.formGroup
    · exact hs.formGroup.setLive
  · refine hs.bump.endCopy.ite ((foldl ?_ (fun _ _ hs => hs.bump.loseCopy.ite
      (hs.bump.loseCopy.ite (hs.groupMiss.ite hs.enqueue)))).endCopy)
    split
    · exact (hs.bump.ite hs).formGroup
    · exact ((hs.bump.ite hs).formGroup).setLive

theorem setPol {n : Nat} {p : Pol} (hs : Follows s₀ s) : Follows s₀ (s.setPol n p) := hs.setSch

theorem police {f : Frame} (hs : Follows s₀ s) : Follows s₀ (s.police f).2 := hs.pair.ite_snd (hs.setPol.bump.pair.ite_snd hs.setPol.pair)

theorem poolWrite {f : Frame} (hs : Follows s₀ s) : Follows s₀ (s.poolWrite f).2 := by
  unfold State.poolWrite
  refine ite_snd ?_ ?_
  · unfold State.endCopy
    dsimp only
    split
    · exact hs.bump.raise
    · refine ite ?_ ((hs.bump.raise.poolAdd.ite hs.bump.raise).setLive)
      split
      · exact ((hs.bump.raise.poolAdd.ite hs.bump.raise).setLive).setDp
      · exact (hs.bump.raise.poolAdd.ite hs.bump.raise).setLive
  · dsimp only
    split
    · exact hs.setFld
    · exact hs.setFld.setLive

/-! ### EngOps -/

theorem setCap {c : Nat} {f : CapSt → CapSt} (hs : Follows s₀ s) : Follows s₀ (s.setCap c f) := hs.beside

theorem pushCrumb {c : Nat} {k : Crumb} (hs : Follows s₀ s) : Follows s₀ (s.pushCrumb c k) := hs.setCap.bump.ite hs.setCap.setFld

theorem crumbs {c : Nat} {l : List Crumb} (hs : Follows s₀ s) : Follows s₀ (s.crumbs c l) :=
  (hs.foldl (fun _ _ hs => hs.pushCrumb)).ite hs

theorem epochCrumb {cs : List Nat} {pair what engine epoch : Nat} (hs : Follows s₀ s) : Follows s₀
  (s.epochCrumb cs pair what engine epoch) :=
  hs.foldl fun _ _ hs => hs.crumbs

theorem setThr {t : Nat} {f : Thr → Thr} (hs : Follows s₀ s) : Follows s₀ (s.setThr t f) := hs.beside

theorem setEng {e : Nat} {f : EngSt → EngSt} (hs : Follows s₀ s) : Follows s₀ (s.setEng e f) := hs.beside

theorem setClu {c : Nat} {f : CluSt → CluSt} (hs : Follows s₀ s) : Follows s₀ (s.setClu c f) := hs.beside

theorem setGr {t n : Nat} {v : DWord} (hs : Follows s₀ s) : Follows s₀ (s.setGr t n v) := hs.ite hs.setThr

theorem thrTo {t st : Nat} (hs : Follows s₀ s) : Follows s₀ (s.thrTo t st) := hs.setThr

theorem turn {e cause : Nat} {prev : Option Nat} (hs : Follows s₀ s) : Follows s₀ (s.turn e cause prev) := by
  unfold State.turn
  refine hs.setEng.ite ?_
  dsimp only
  split
  · refine setEng ?_
    split
    · exact hs.thrTo.ite hs
    · exact hs
  · refine (ite ?_ (thrTo ?_)).setEng
    · split
      · exact hs.crumbs.thrTo.ite hs.crumbs
      · exact hs.crumbs
    · split
      · exact hs.crumbs.thrTo.ite hs.crumbs
      · exact hs.crumbs

theorem kick {e : Nat} (hs : Follows s₀ s) : Follows s₀ (s.kick e) := hs.turn.ite hs

theorem leave {t st cause : Nat} (hs : Follows s₀ s) : Follows s₀ (s.leave t st cause) := hs.thrTo.turn.ite hs.thrTo

theorem stepEnd {t : Nat} (hs : Follows s₀ s) : Follows s₀ (s.stepEnd t) := hs.ite hs.setThr.setFld.leave

theorem wakeThr {t : Nat} (hs : Follows s₀ s) : Follows s₀ (s.wakeThr t) :=
  hs.setThr.ite (hs.setThr.thrTo.stepEnd.ite hs.setThr.thrTo.kick)

theorem retire {t pc : Nat} (hs : Follows s₀ s) : Follows s₀ (s.retire t pc) := hs.setThr

theorem thrFault {t code addr op : Nat} (hs : Follows s₀ s) : Follows s₀ (s.thrFault t code addr op) :=
  hs.wr.setCnt.setThr.bump.raise.leave

theorem dPut {c a : Nat} {bs : List Byte} (hs : Follows s₀ s) : Follows s₀ (s.dPut c a bs) := hs.setClu

theorem setSig {t i n : Nat} (hs : Follows s₀ s) : Follows s₀ (s.setSig t i n) := hs.setThr

theorem setChan {n : Nat} {f : ChanSt → ChanSt} (hs : Follows s₀ s) : Follows s₀ (s.setChan n f) := hs.beside

theorem evTake {t i : Nat} (hs : Follows s₀ s) : Follows s₀ (s.evTake t i) := by
  unfold State.evTake
  dsimp only
  split
  · exact hs.setThr.setSig
  · exact hs.setThr.setThr
  · exact hs.setThr

theorem signalTo {t i : Nat} {src : Option Nat} (hs : Follows s₀ s) : Follows s₀ (s.signalTo t i src) :=
  (((((hs.ite hs.setClu).beside).ite (hs.ite hs.setClu)).bump).raise).ite ((((hs.ite hs.setClu).beside).ite (hs.ite hs.setClu)).setSig)

theorem chanLevel {n : Nat} (hs : Follows s₀ s) : Follows s₀ (s.chanLevel n) := hs.setFld.setFld

theorem chPut {a : Nat} {bs : List Byte} (hs : Follows s₀ s) : Follows s₀ (s.chPut a bs) := hs.beside

theorem chanGrant {n t : Nat} (hs : Follows s₀ s) : Follows s₀ (s.chanGrant n t).2 := hs.setFld.setChan.setThr.chanLevel

theorem chanVoid {n : Nat} {sel : Slot → Bool} (hs : Follows s₀ s) : Follows s₀ (s.chanVoid n sel) := hs.setChan.bump32.chanLevel

theorem unwait {c : Nat} (hs : Follows s₀ s) : Follows s₀ (s.unwait c) := hs.foldl fun _ _ hs => hs.setChan

theorem voidCluster {c : Nat} (hs : Follows s₀ s) : Follows s₀ (s.voidCluster c) :=
  hs.unwait.foldl (fun _ _ hs => ((hs.foldl (fun _ _ hs => hs.chanVoid)).bump).setThr)

theorem setHandle {c h : Nat} {x : Option Copy} (hs : Follows s₀ s) : Follows s₀ (s.setHandle c h x) := hs.setClu

theorem newHandle {c : Nat} {x : Copy} (hs : Follows s₀ s) : Follows s₀ (s.newHandle c x).2 := hs.draw.setHandle

theorem releaseCopy {c : Nat} {x : Copy} {fate : Fate} (hs : Follows s₀ s) : Follows s₀ (s.releaseCopy c x fate) :=
  hs.fcRelease.setVcells.endCopy

theorem freeHandles {c : Nat} (hs : Follows s₀ s) : Follows s₀ (s.freeHandles c) :=
  ((hs.foldl (fun _ _ hs => hs.releaseCopy)).setClu).bump

theorem flushIq {c : Nat} (hs : Follows s₀ s) : Follows s₀ (s.flushIq c) :=
  hs.foldl (fun _ _ hs => (((hs.foldl (fun _ _ hs => hs.releaseCopy)).setVq).setFld).bump)

/-! ### SecOps -/

theorem setSa {p k v : Nat} (hs : Follows s₀ s) : Follows s₀ (s.setSa p k v) := hs.setMac

theorem secRx {p : Nat} {bs : List Byte} (hs : Follows s₀ s) : Follows s₀ (s.secRx p bs).2 := by
  unfold State.secRx
  refine hs.ite_snd (hs.ite_snd ?_)
  split
  · exact hs
  · split
    · exact hs
    · split
      · exact hs
      · dsimp only
        split
        · exact hs
        · exact hs.pair.ite_snd hs.setSa.pair

theorem secTx {p : Nat} {bs : List Byte} (hs : Follows s₀ s) : Follows s₀ (s.secTx p bs).2 := by
  unfold State.secTx
  dsimp only
  split
  · exact (hs.ite hs.setMac.raise).bump
  · exact (((hs.setSa.setMac.ite hs.setSa).setMac).raise).ite (hs.setSa.setMac.ite hs.setSa)

/-! ### CipOps -/

theorem setMat {k : Nat} {v : BitVec 512} (hs : Follows s₀ s) : Follows s₀ (s.setMat k v) := hs.setCip

theorem keyOpen {k v : Nat} (hs : Follows s₀ s) : Follows s₀ (s.keyOpen k v) := hs.setMat.setCnt.wr

theorem keyValidate {q : Req} {k v : Nat} (hs : Follows s₀ s) : Follows s₀ (s.keyValidate q k v) :=
  hs.wr.setLat.setLat.ite hs.wr.setLat.setLat.raise

theorem attrWrite {q : Req} {k v : Nat} (hs : Follows s₀ s) : Follows s₀ (s.attrWrite q k v) :=
  hs.reject.ite (hs.keyValidate.ite hs.keyOpen)

theorem matWrite {k w v : Nat} (hs : Follows s₀ s) : Follows s₀ (s.matWrite k w v) := hs.reject.ite hs.setMat

theorem takeNonce {k n : Nat} (hs : Follows s₀ s) (e : s.takeNonce k = some (n, t)) : Follows s₀ t := by
  unfold State.takeNonce at e
  split at e
  · cases e
  · cases e
    exact (hs.setCnt.setFld.ite hs.setCnt).raise.ite (hs.setCnt.setFld.ite hs.setCnt)

theorem cipEnd {w : Work} {out : List (Nat × List Byte)} {r : CipRes} (hs : Follows s₀ s) : Follows s₀ (s.cipEnd w out r) := by
  unfold State.cipEnd
  split
  · exact hs
  · exact ((hs.bump.bump.bump.ite (hs.bump.bump.bump.ite (hs.bump.bump.bump.ite hs.bump.bump))).setThr).ite
      (hs.bump.bump.bump.ite (hs.bump.bump.bump.ite (hs.bump.bump.bump.ite hs.bump.bump)))

theorem bufGet {c r n : Nat} {e : Ecc} (hs : Follows s₀ s) : Follows s₀ (s.bufGet c r n e).2 := by
  unfold State.bufGet
  split
  · exact hs
  · split
    · exact hs
    · exact hs
  · exact hs.memRead
  · exact hs

theorem bufPut {c r : Nat} {bs : List Byte} (hs : Follows s₀ s) : Follows s₀ (s.bufPut c r bs) := by
  unfold State.bufPut
  split
  · split
    · exact hs
    · exact hs.setHandle
  · exact hs.memWrite
  · exact hs

theorem freeCore {k : Nat} (hs : Follows s₀ s) : Follows s₀ (s.freeCore k) := by
  unfold State.freeCore
  split
  · exact hs
  · dsimp only
    split
    · exact hs.setCip.setFld
    · exact hs.setCip.setFld.setCip.setFld

theorem putCore {k : Nat} {second : Option Nat} {m : Msg} (hs : Follows s₀ s) : Follows s₀ (s.putCore k second m) := by
  unfold State.putCore
  dsimp only
  split
  · exact hs.setCip.setFld
  · exact hs.setCip.setFld.setCip.setFld

theorem endMsgs {status : Nat} {sel : Msg → Bool} (hs : Follows s₀ s) : Follows s₀ (s.endMsgs status sel) := by
  unfold State.endMsgs
  refine (hs.foldl ?_).foldl (fun _ _ hs => (hs.setCipQ.setCip.foldl (fun _ _ hs => hs.cipEnd)).cipRefill)
  intro _ _ hs
  dsimp only
  split
  · exact hs
  · exact hs.freeCore.cipEnd.ite hs

theorem zeroize (hs : Follows s₀ s) : Follows s₀ s.zeroize := by
  unfold State.zeroize
  exact (hs.endMsgs.tables (mwf_mclear _ _ _) id (mwf_mclear _ _ _) id id).setCip.setFld

/-! ### Cip -/

theorem popCip {n : Nat} (hs : Follows s₀ s) : Follows s₀ (s.popCip n) := hs.setCipQ.cipRefill

theorem cipStart {m : Msg} {k : Nat} {j : Option Nat} (hs : Follows s₀ s) : Follows s₀ (s.cipStart m k j) := by
  unfold State.cipStart
  split
  · exact hs.putCore
  · refine hs.putCore.ite (hs.ite (hs.memRefuse.cipEnd.ite (hs.cipEnd.ite (hs.cipEnd.ite (ite ?_ hs.putCore)))))
    split
    · exact hs.cipEnd
    · next n t e => exact (hs.takeNonce e).putCore

theorem coreStart {k j : Nat} (hs : Follows s₀ s) : Follows s₀ (s.coreStart k j) := by
  unfold State.coreStart
  refine hs.ite ?_
  split
  · exact hs
  · split
    · exact hs
    · exact hs.ite hs.popCip.cipStart

theorem suspend {k : Nat} (hs : Follows s₀ s) : Follows s₀ (s.suspend k) := by
  unfold State.suspend
  split
  · exact hs
  · exact hs.freeCore.bump.setCipQ

theorem preempt (hs : Follows s₀ s) : Follows s₀ s.preempt := by
  unfold State.preempt
  split
  · exact hs
  · refine hs.ite ?_
    split
    · exact hs
    · refine hs.suspend.popCip.cipStart.ite ?_
      split
      · exact hs.suspend.popCip.cipStart
      · split
        · exact hs
        · exact hs.ite hs.suspend.suspend.popCip.cipStart

theorem startTest {k : Nat} {auto : Bool} (hs : Follows s₀ s) : Follows s₀ (s.startTest k auto) := hs.setCip

theorem cipFault {k : Nat} {second : Option Nat} {b : List Byte} (hs : Follows s₀ s) : Follows s₀ (s.cipFault k second b) :=
  (hs.foldl (fun _ _ hs => hs.setFld.startTest)).raiseAt

theorem engDone {k : Nat} {r : Run} {t gen : Nat} {b : List Byte} {mismatch : Bool} {n : Nat} {e : BufEcc} (hs : Follows s₀ s) : Follows
  s₀ (s.engDone k r t gen b mismatch n e) :=
  hs.freeCore.ite (hs.bufGet.bufGet.freeCore.bufPut.cipEnd.ite
    (hs.bufGet.bufGet.freeCore.bufPut.cipFault.cipEnd.ite hs.bufGet.bufGet.freeCore.bufPut.cipEnd))

theorem msgDone {k : Nat} {mismatch : Bool} {n : Nat} {e : BufEcc} (hs : Follows s₀ s) : Follows s₀ (s.msgDone k mismatch n e) := by
  unfold State.msgDone
  split
  · exact hs
  · refine hs.ite ?_
    split
    · exact hs.freeCore
    · exact hs.engDone.ite hs

theorem coreTest {k : Nat} (hs : Follows s₀ s) : Follows s₀ (s.coreTest k) := hs.startTest.ite hs

theorem coreTestDone {k : Nat} {pass : Bool} (hs : Follows s₀ s) : Follows s₀ (s.coreTestDone k pass) := by
  unfold State.coreTestDone
  split
  · exact hs
  · exact hs.ite ((hs.setCip.setFld.ite hs.setCip.setFld.setFld).ite hs.setCip.setFld.setFld.raise)

theorem keyZero (hs : Follows s₀ s) : Follows s₀ s.keyZero := by
  unfold State.keyZero
  exact hs.ite hs.zeroize

theorem zeroizeDone (hs : Follows s₀ s) : Follows s₀ s.zeroizeDone := by
  unfold State.zeroizeDone
  split
  · exact hs
  · exact hs.setCip.setFld.raise.ite hs

theorem kwStart {unwrap : Bool} {w k : Nat} (hs : Follows s₀ s) : Follows s₀ (s.kwStart unwrap w k) := hs.ite hs.wr.setFld.setCip

theorem setKwBuf {b : List Byte} (hs : Follows s₀ s) : Follows s₀ (s.setKwBuf b) := hs.foldl fun _ _ hs => hs.wr

theorem wrapRun {w k : Nat} (hs : Follows s₀ s) : Follows s₀ (s.wrapRun w k).2 := by
  unfold State.wrapRun
  refine hs.ite_snd (hs.ite_snd ?_)
  dsimp only
  split
  · exact hs
  · next n t e => exact (hs.takeNonce e).setKwBuf

theorem unwrapRun {w k owner : Nat} (hs : Follows s₀ s) : Follows s₀ (s.unwrapRun w k owner).2 :=
  hs.pair.ite_snd (hs.pair.ite_snd (hs.pair.ite_snd (hs.pair.ite_snd hs.setMat.setCnt.wr.setFld.pair)))

theorem kwDone (hs : Follows s₀ s) : Follows s₀ s.kwDone := by
  unfold State.kwDone
  split
  · exact hs
  · exact ((((hs.unwrapRun.ite_snd hs.wrapRun).setCip).setFld).setFld).raise

end Sys2Proof.Machine.Follows
end

section
/-! The operations of the engines, the tables, the host and the services leave the queue and keep the tables canonical: a lemma for each. -/
namespace Sys2Proof.Machine.Follows
variable {s₀ s t : State}

/-! ### CtxOps -/

theorem setSvc {g : SvcSt → SvcSt} (hs : Follows s₀ s) : Follows s₀ (s.setSvc g) := hs.beside

theorem setCtx {id : Nat} {g : Ctx → Ctx} (hs : Follows s₀ s) : Follows s₀ (s.setCtx id g) := hs.setSvc

theorem poolPlace (hs : Follows s₀ s) (e : s.poolPlace = some t) : Follows s₀ t := by
  unfold State.poolPlace at e
  split at e
  · cases e
  · cases e
    exact hs.draw.setSvc

theorem poolOpen (hs : Follows s₀ s) (e : s.poolOpen = some t) : Follows s₀ t := by
  unfold State.poolOpen at e
  split at e
  · exact hs.poolPlace e
  · split_ifs at e
    · cases e
      exact hs
    · exact hs.poolPlace e

theorem ctxStore {id : Nat} (hs : Follows s₀ s) : Follows s₀ (s.ctxStore id) := hs.memWrite.ite hs.memRefuse

theorem ctxLoad {id : Nat} {e : Ecc} (hs : Follows s₀ s) : Follows s₀ (s.ctxLoad id e).2 :=
  hs.memRefuse.setCtx.pair.ite_snd (hs.memRead.setCtx.pair.ite_snd hs.memRead.setCtx.pair)

theorem setCache {n : Nat} {l : List Nat} (hs : Follows s₀ s) : Follows s₀ (s.setCache n l) := hs.setSvc

theorem ctxSeat {id : Nat} (hs : Follows s₀ s) (e : s.ctxSeat id = some t) : Follows s₀ t := by
  unfold State.ctxSeat at e
  dsimp only at e
  split at e
  · cases e
    exact hs.setCache
  · split_ifs at e
    cases e
    exact hs.ctxStore.setCache

theorem ctxTouch {id : Nat} {x : Ecc} {b : Bool} (hs : Follows s₀ s) (e : s.ctxTouch id x = some (b, t)) : Follows s₀ t := by
  unfold State.ctxTouch at e
  split_ifs at e
  · cases e
    exact hs
  · cases e
    exact hs.setCache
  · split at e
    · cases e
    · next u hu =>
      have hl := (hs.ctxSeat hu).ctxLoad (id := id) (e := x)
      rw [Option.some.inj e] at hl
      exact hl

theorem ctxPair {id : Nat} {x : Ecc} {b : Bool} (hs : Follows s₀ s) (e : s.ctxPair id x = some (b, t)) : Follows s₀ t := by
  unfold State.ctxPair at e
  split at e
  · cases e
  · next h =>
    cases e
    exact hs.ctxTouch h
  · next h =>
    split at e
    · cases e
      exact hs.ctxTouch h
    · exact (hs.ctxTouch h).ctxTouch e

theorem ctxErase {id : Nat} (hs : Follows s₀ s) (e : s.ctxErase id = some t) : Follows s₀ t := by
  unfold State.ctxErase at e
  split_ifs at e
  cases e
  exact hs.setCtx.ctxStore.setCache

theorem pickHome {mask : Nat} (hs : Follows s₀ s) : Follows s₀ (s.pickHome mask).2 := hs.draw.pair

theorem rehome {c : Nat} (hs : Follows s₀ s) : Follows s₀ (s.rehome c) := hs.foldl fun _ _ hs => hs.ite hs.pickHome.setCtx

/-! ### MacOps -/

theorem stat {p n k : Nat} (hs : Follows s₀ s) : Follows s₀ (s.stat p n k) := hs.bump

theorem egressRecord {p : Nat} {c : Copy} {wire : List Byte} {ts : Instant} {cal : Bool} (hs : Follows s₀ s) : Follows s₀
  (s.egressRecord p c wire ts cal) := by
  unfold State.egressRecord
  split
  · exact hs
  · exact hs.digest.commitUnit

theorem stageCopy {c : Copy} (hs : Follows s₀ s) : Follows s₀ (s.stageCopy c) :=
  hs.stat.leaveGroup.endCopy.ite (hs.stat.leaveGroup.endCopy.ite hs.setMac)

theorem prfMiss {c : Copy} (hs : Follows s₀ s) : Follows s₀ (s.prfMiss c) :=
  hs.raise.bump.missRecord.leaveGroup.endCopy.ite (hs.raise.bump.leaveGroup.deepRead.bump.endCopy.ite
    hs.raise.bump.leaveGroup.deepRead.stageCopy)

theorem prfLinkDown {c : Copy} (hs : Follows s₀ s) : Follows s₀ (s.prfLinkDown c) := by
  unfold State.prfLinkDown
  exact hs.bump.raise.missRecord.leaveGroup.endCopy

theorem saLoad {p v : Nat} (hs : Follows s₀ s) : Follows s₀ (s.saLoad p v) := hs.foldl fun _ _ hs => hs.wr

theorem saStore {p v e : Nat} (hs : Follows s₀ s) : Follows s₀ (s.saStore p v e) := by
  unfold State.saStore
  exact hs.setSa.setMac

theorem fcStat {p : Nat} (hs : Follows s₀ s) : Follows s₀ (s.fcStat p) := hs.wr

theorem unpause {p k : Nat} (hs : Follows s₀ s) : Follows s₀ (s.unpause p k) := hs.setMac.fcStat

theorem pauseRx {p k quanta : Nat} (hs : Follows s₀ s) : Follows s₀ (s.pauseRx p k quanta) := hs.ite (hs.unpause.ite hs.setMac.fcStat)

theorem pauseFrame {p : Nat} {bs : List Byte} (hs : Follows s₀ s) : Follows s₀ (s.pauseFrame p bs) :=
  hs.ite (hs.pauseRx.ite ((hs.foldl (fun _ _ hs => hs.pauseRx.ite hs)).ite hs))

theorem setTx {p : Nat} {on : Bool} (hs : Follows s₀ s) : Follows s₀ (s.setTx p on) := hs.ite hs.setMac.emit

theorem lanePower (hs : Follows s₀ s) : Follows s₀ s.lanePower := hs.foldl fun _ _ hs => hs.setTx

theorem toLink {p st : Nat} (hs : Follows s₀ s) : Follows s₀ (s.toLink p st) := (hs.setFld.setMac.ite hs.setFld.setMac.setFld).setTx

theorem linkEval {p : Nat} (hs : Follows s₀ s) : Follows s₀ (s.linkEval p) :=
  hs.ite (hs.setFld.ite (hs.ite ((hs.ite hs.setFld.raise).ite (hs.setFld.setMac.toLink.ite hs.setFld))))

theorem prfCalStart {p : Nat} (hs : Follows s₀ s) : Follows s₀ (s.prfCalStart p) := hs.setFld.setPrf

theorem linkUpNow {p : Nat} (hs : Follows s₀ s) : Follows s₀ (s.linkUpNow p) :=
  hs.toLink.raise.calStart.prfCalStart.foldl fun _ _ hs => hs.fcCheck

theorem saBoundary {p : Nat} (hs : Follows s₀ s) : Follows s₀ (s.saBoundary p) := by
  unfold State.saBoundary
  split
  · exact hs
  · exact hs.setMac.setFld.saStore.saLoad.ite hs.setMac.setFld.saStore

theorem leaveUp {p st : Nat} (hs : Follows s₀ s) : Follows s₀ (s.leaveUp p st) := by
  unfold State.leaveUp
  refine ((((((((((foldl ?_ (fun _ _ hs => hs.stat.leaveGroup.endCopy)).setMac).saBoundary).fcStat).setFld).calLinkDown).setFld).setPrf).beside).raise).toLink
  split
  · exact hs
  · exact hs.stat.emit.leaveGroup.endCopy

theorem goLink {p st : Nat} {cut : Bool} (hs : Follows s₀ s) : Follows s₀ (s.goLink p st cut) := ((hs.stat.ite hs).leaveUp).ite hs.toLink

theorem tsuTx {p : Nat} {f : Frame} {ts : Instant} {protect : Bool} (hs : Follows s₀ s) : Follows s₀ (s.tsuTx p f ts protect).2 := by
  unfold State.tsuTx
  dsimp only
  split
  · exact hs
  · exact hs.ite_snd ((((hs.txtsPush.ite hs).bump32).pair).ite_snd ((hs.txtsPush.ite hs).pair))

theorem startTx {p : Nat} {c : Copy} (hs : Follows s₀ s) : Follows s₀ (s.startTx p c) := by
  unfold State.startTx
  dsimp only
  split
  · exact ((hs.secTx.ite_snd hs).leaveGroup).endCopy
  · exact ((((((hs.secTx.ite_snd hs).txCapture).tsuTx).egressRecord).emit).calSample).setMac

/-! ### OrbOps -/

theorem setOrb {p : Nat} {g : OrbSt → OrbSt} (hs : Follows s₀ s) : Follows s₀ (s.setOrb p g) := hs.setSch

theorem settlePort {p : Nat} (hs : Follows s₀ s) : Follows s₀ (s.settlePort p) := hs.foldl fun _ _ hs => hs.settleCredit

theorem orbResync (hs : Follows s₀ s) : Follows s₀ s.orbResync := hs.foldl fun _ _ hs => hs.settlePort.setOrb.raise.ite hs

theorem orbArm {p v : Nat} (hs : Follows s₀ s) : Follows s₀ (s.orbArm p v) := hs.reject.ite hs.setFld.setFld.setOrb

theorem orbOff {p v : Nat} (hs : Follows s₀ s) : Follows s₀ (s.orbOff p v) := hs.setFld.setFld.setOrb

theorem orbWrite {p v : Nat} (hs : Follows s₀ s) : Follows s₀ (s.orbWrite p v) := hs.orbOff.ite (hs.orbArm.ite hs.setFld)

/-! ### RelOps -/

theorem prfEnter {c : Copy} (hs : Follows s₀ s) : Follows s₀ (s.prfEnter c) := by
  unfold State.prfEnter
  refine hs.stageCopy.ite (hs.lostCopy.prfMiss.ite (hs.lostCopy.horizonDrop.ite
    (hs.bump.raise.lostCopy.prfMiss.ite (hs.lostCopy.prfMiss.ite ?_))))
  dsimp only
  split
  · exact hs.setHeld.bump
  · exact hs.setHeld.bump.settleGroup

theorem dropHeld {h : Held} (hs : Follows s₀ s) : Follows s₀ (s.dropHeld h) := hs.setHeld

theorem stepMiss (hs : Follows s₀ s) : Follows s₀ s.stepMiss := hs.foldl (fun _ _ hs => hs.foldl (fun _ _ hs => hs.dropHeld.prfMiss))

theorem setSeq {g : SeqSt → SeqSt} (hs : Follows s₀ s) : Follows s₀ (s.setSeq g) := hs.setDp

theorem setFifo {n : Nat} {l : List Member} (hs : Follows s₀ s) : Follows s₀ (s.setFifo n l) := hs.setSeq

theorem seqBypass {f : Frame} {d : Dest} (hs : Follows s₀ s) : Follows s₀ (s.seqBypass f d) :=
  (hs.bump.ite hs.bump.setSeq.raise).enqueueAll

theorem seqPeriod (hs : Follows s₀ s) : Follows s₀ s.seqPeriod := hs.setSeq

theorem seqPut {f : Frame} {d : Dest} (hs : Follows s₀ s) : Follows s₀ (s.seqPut f d) :=
  hs.seqBypass.ite (hs.bump.raise.endCopy.ite hs.setFifo.setSeq.setFld)

theorem seqLevel (hs : Follows s₀ s) : Follows s₀ s.seqLevel := hs.setFld

theorem seqAdmit {m : Member} (hs : Follows s₀ s) : Follows s₀ (s.seqAdmit m) := (hs.setFifo.setSeq.wr.ite hs.setFifo.setSeq).seqLevel

theorem seqNumber {m : Member} (hs : Follows s₀ s) : Follows s₀ (s.seqNumber m) := by
  unfold State.seqNumber
  refine enqueueAll ?_
  split
  · exact ((hs.setSeq.seqLevel.wr.wr.bump.bump.raise.ite hs.setSeq.seqLevel.wr.wr.bump).commitUnit).ite
      (hs.setSeq.seqLevel.wr.wr.bump.bump.raise.ite hs.setSeq.seqLevel.wr.wr.bump)
  · exact hs.setSeq.seqLevel.wr.wr.bump.bump.raise.ite hs.setSeq.seqLevel.wr.wr.bump

theorem seqStep (hs : Follows s₀ s) : Follows s₀ s.seqStep := by
  unfold State.seqStep
  exact (hs.foldl (fun _ _ hs => hs.setFifo)).setSeq

theorem afterStep (hs : Follows s₀ s) : Follows s₀ s.afterStep := hs.seqStep.stepMiss.orbResync

/-! ### MatOps -/

theorem matBad {n a : Nat} (hs : Follows s₀ s) : Follows s₀ (s.matBad n a) := hs.raiseAt

theorem matHit {n : Nat} {l : List Nat} (hs : Follows s₀ s) : Follows s₀ (s.matHit n l) := (hs.foldl (fun _ _ hs => hs.matBad)).bump

theorem runAction {n bank : Nat} {eg : Bool} {st a data : Nat} {v : View} {md : BitVec 512} (hs : Follows s₀ s) : Follows s₀
  (s.runAction n bank eg st a data v md).2 := by
  unfold State.runAction
  dsimp only
  exact hs.ite_snd (hs.matHit.pair.ite_snd (hs.ite_snd ((hs.bump.ite hs).pair)))

theorem slotLookup {n : Nat} {eg : Bool} {table k : Nat} {key : Nat × Nat} (hs : Follows s₀ s) : Follows s₀
  (s.slotLookup n eg table k key).2 :=
  hs.bump.pair.ite_snd (hs.bump.pair.ite_snd (hs.ite_snd
    (hs.lookupTernary.ite_snd (hs.lookupLpm.ite_snd (hs.lookupLpm.ite_snd hs.lookupExact)))))

theorem runSlot {n bank : Nat} {eg : Bool} {st k : Nat} {v av : View} {md : BitVec 512} (hs : Follows s₀ s) : Follows s₀
  (s.runSlot n bank eg st k v av md).2 := by
  unfold State.runSlot
  refine hs.matHit.pair.ite_snd (hs.ite_snd ?_)
  dsimp only
  split
  · exact hs.slotLookup.runAction
  · exact hs.slotLookup.runAction.ite_snd hs.slotLookup.pair

theorem l2Of {n : Nat} {f : Frame} {phv : Nat} {md : BitVec 512} (hs : Follows s₀ s) : Follows s₀ (s.l2Of n f phv md).2 := by
  unfold State.l2Of
  split
  · exact hs
  · exact hs.l2Stage.pair

theorem runStage {n bank : Nat} {eg : Bool} {f : Frame} {phv st : Nat} {md : BitVec 512} (hs : Follows s₀ s) : Follows s₀
  (s.runStage n bank eg f phv st md).2 :=
  (hs.l2Of.ite_snd hs).foldl_snd fun _ _ hs => hs.runSlot

theorem runStages {n bank : Nat} {eg : Bool} {f : Frame} {phv : Nat} {md : BitVec 512} (hs : Follows s₀ s) : Follows s₀
  (s.runStages n bank eg f phv md).2 :=
  hs.foldl_snd fun _ _ hs => hs.runStage

theorem rewrite {n bank : Nat} {eg : Bool} {f : Frame} (hs : Follows s₀ s) : Follows s₀ (s.rewrite n bank eg f).2.2 := by
  unfold State.rewrite
  split
  · exact hs
  · extract_lets phv r₀ r s₁ s₂
    have h₁ : Follows s₀ s₁ := hs.foldl fun _ _ hs => hs.matHit
    have h₂ : Follows s₀ s₂ := h₁.ite h₁.bump
    clear_value r s₂
    split
    · exact h₂.bump.raise
    · exact h₂

theorem ingressRecord {f : Frame} {vport : Nat} (hs : Follows s₀ s) : Follows s₀ (s.ingressRecord f vport).2 := by
  unfold State.ingressRecord
  split
  · exact hs.digest.commitUnit.pair
  · exact hs

theorem admitFrame {f : Frame} {d : Dest} (hs : Follows s₀ s) : Follows s₀ (s.admitFrame f d) := by
  unfold State.admitFrame
  dsimp only
  split
  · exact ((hs.bump.ite hs).police).endCopy
  · exact (((hs.bump.ite hs).police).poolWrite).ite (((((hs.bump.ite hs).police).poolWrite).seqPut).ite
      ((((hs.bump.ite hs).police).poolWrite).enqueueAll))

theorem classify {n bank : Nat} {f : Frame} {why : Nat} (hs : Follows s₀ s) : Follows s₀ (s.classify n bank f why) := by
  unfold State.classify
  refine hs.bump.matHit.endCopy.ite ?_
  dsimp only
  split
  · refine endCopy ?_
    split
    · exact hs.bump.ingressRecord
    · exact hs.bump.ingressRecord.bump
  · exact hs.bump.ingressRecord.admitFrame

theorem recircLevel {n : Nat} (hs : Follows s₀ s) : Follows s₀ (s.recircLevel n) := hs.setFld.setFld

theorem ingressPass {n : Nat} {f : Frame} (hs : Follows s₀ s) : Follows s₀ (s.ingressPass n f) :=
  (((((((hs.parseCount.bump.ite hs.parseCount.bump.bump).runStages).rewrite).bump).raise).endCopy).ite
    (((((hs.parseCount.bump.ite hs.parseCount.bump.bump).runStages).rewrite).setPipe).recircLevel)).ite
    (((((((hs.parseCount.bump.ite hs.parseCount.bump.bump).runStages).rewrite).bump).raise).ite
    (((hs.parseCount.bump.ite hs.parseCount.bump.bump).runStages).rewrite)).classify)

theorem egressPass {n : Nat} {c : Copy} (hs : Follows s₀ s) : Follows s₀ (s.egressPass n c) :=
  hs.runStages.bump.loseCopy.ite hs.runStages.rewrite.prfEnter

/-! ### EngRun -/

/-- An operand check hands on the state that it finds. -/
theorem dOperand {a n : Nat} {al : Bool} {k : State → Ex} (hs : Follows s₀ s) (hk : Follows s₀ (k s).state) :
    Follows s₀ (s.dOperand a n al k).state := hs.fault.ite_state (hs.fault.ite_state hk)

theorem runMrd {t w : Nat} {e : Ecc} (hs : Follows s₀ s) : Follows s₀ (s.runMrd t w e).state := by
  unfold State.runMrd
  exact hs.dOperand (hs.memRefuse.fault.ite_state (hs.stall.ite_state hs.memRead.result))

theorem runMwr {t w : Nat} (hs : Follows s₀ s) : Follows s₀ (s.runMwr t w).state := by
  unfold State.runMwr
  exact hs.dOperand (hs.memRefuse.fault.ite_state (hs.stall.ite_state hs.memWrite.result))

theorem deepLookup {x : Tab} {k : Nat} {e : Ecc} (hs : Follows s₀ s) : Follows s₀ (s.deepLookup x k e).2 := by
  unfold State.deepLookup
  dsimp only
  split
  · exact ((hs.eccBad.deepErr.ite (hs.eccCorr.ite hs)).reportBad).pair
  · exact (((hs.eccBad.deepErr.ite (hs.eccCorr.ite hs)).reportBad).setEntry).pair

theorem runDlk {t w : Nat} {e : Ecc} (hs : Follows s₀ s) : Follows s₀ (s.runDlk t w e).state := by
  unfold State.runDlk
  refine hs.dOperand (hs.dOperand (hs.result.ite_state (hs.stall.ite_state ?_)))
  dsimp only
  split
  · exact hs.deepLookup.result
  · exact hs.deepLookup.result

theorem runRcv {t w : Nat} (hs : Follows s₀ s) : Follows s₀ (s.runRcv t w).state := by
  unfold State.runRcv
  refine hs.dOperand ?_
  split
  · exact hs.result
  · exact hs.result.ite_state hs.setVq.setFld.newHandle.result

theorem withHandle {c h : Nat} {k : Copy → State → Ex} (hs : Follows s₀ s) (hk : ∀ x, Follows s₀ (k x s).state) :
    Follows s₀ (s.withHandle c h k).state := by
  unfold State.withHandle
  dsimp only
  split
  · exact hs
  · exact hk _

theorem runPbr {t w : Nat} (hs : Follows s₀ s) : Follows s₀ (s.runPbr t w).state := by
  unfold State.runPbr
  exact hs.withHandle (fun _ => hs.dOperand (hs.result.ite_state hs.result))

theorem runPbw {t w : Nat} (hs : Follows s₀ s) : Follows s₀ (s.runPbw t w).state := by
  unfold State.runPbw
  exact hs.withHandle (fun _ => hs.dOperand (hs.result.ite_state hs.setHandle.result))

theorem engCharge {c id n : Nat} (hs : Follows s₀ s) : Follows s₀ (s.engCharge c id n) := by
  unfold State.engCharge
  dsimp only
  split
  · exact hs.setFld.setVcells
  · exact hs.setFld.setVcells.setLive

theorem engFrame {c : Nat} {f : Frame} (hs : Follows s₀ s) : Follows s₀ (s.engFrame c f).state :=
  hs.result.ite_state (hs.result.ite_state hs.birth.engCharge.newHandle.result)

theorem runAlloc {t w : Nat} (hs : Follows s₀ s) : Follows s₀ (s.runAlloc t w).state := hs.result.ite_state hs.engFrame

theorem runFree {t w : Nat} (hs : Follows s₀ s) : Follows s₀ (s.runFree t w).state := by
  unfold State.runFree
  exact hs.withHandle fun _ => hs.releaseCopy.setHandle.result

theorem runSetlen {t w : Nat} (hs : Follows s₀ s) : Follows s₀ (s.runSetlen t w).state := by
  unfold State.runSetlen
  refine hs.withHandle ?_
  intro _
  refine hs.result.ite_state ((hs.engCharge.setHandle.result.ite_state hs.result).ite_state (setHandle ?_))
  dsimp only
  split
  · exact hs.setVcells
  · exact hs.setVcells.poolAdd.setLive.ite hs.setVcells

theorem runCopy {t w : Nat} (hs : Follows s₀ s) : Follows s₀ (s.runCopy t w).state := hs.withHandle fun _ => hs.engFrame

theorem emitPipe {c h n : Nat} {x : Copy} {d : List Byte} (hs : Follows s₀ s) : Follows s₀ (s.emitPipe c h n x d).state :=
  hs.stall.ite_state hs.releaseCopy.setHandle.birth.setPipe.result

theorem emitDirect {c h n : Nat} {x : Copy} {d : List Byte} (hs : Follows s₀ s) : Follows s₀ (s.emitDirect c h n x d).state := by
  unfold State.emitDirect
  extract_lets v q cls bank a bad ce md md' rel f out s₁ b s₂ w
  have h₁ : Follows s₀ b.2 := hs.releaseCopy.setHandle.birth
  have h₂ : Follows s₀ w.2 := (h₁.bump.ite h₁).poolWrite
  clear_value b w
  split
  · exact hs.matHit
  · split
    · exact hs
    · split
      · exact h₁.enqueueAll.result
      · split
        · exact hs
        · exact h₂.enqueueAll.result

theorem runEmit {t w : Nat} (hs : Follows s₀ s) : Follows s₀ (s.runEmit t w).state := by
  unfold State.runEmit
  exact hs.withHandle (fun _ => hs.dOperand (hs.result.ite_state (hs.emitPipe.ite_state hs.emitDirect)))

theorem runRes {t w : Nat} (hs : Follows s₀ s) : Follows s₀ (s.runRes t w).state :=
  hs.setChan.result.ite_state (hs.result.ite_state (hs.chanGrant.result.ite_state ((hs.ite hs.setChan).stall)))

theorem runWr {t w : Nat} (hs : Follows s₀ s) : Follows s₀ (s.runWr t w).state := by
  unfold State.runWr
  refine hs.dOperand ?_
  split
  · exact hs.result
  · refine hs.result.ite_state ?_
    split
    · exact hs.chPut.result.ite_state hs.result
    · exact hs.result

theorem runCmt {t w : Nat} (hs : Follows s₀ s) : Follows s₀ (s.runCmt t w).state := by
  unfold State.runCmt
  split
  · exact hs.result
  · rename_i e
    dsimp only
    split
    · exact hs.setThr.setChan.bump.chanLevel.result.ite_state hs.setThr.result
    · exact hs.setThr.result

theorem runRd {t w : Nat} (hs : Follows s₀ s) : Follows s₀ (s.runRd t w).state := by
  unfold State.runRd
  refine hs.dOperand (hs.setChan.result.ite_state ?_)
  dsimp only
  split
  · exact (hs.ite hs.setChan).stall
  · exact ((hs.ite hs.setChan).stall).ite_state (hs.setChan.setChan.setFld.chanLevel.result.ite_state
      hs.setChan.setChan.setFld.chanLevel.result)

theorem runCsub {t w : Nat} (hs : Follows s₀ s) : Follows s₀ (s.runCsub t w).state := by
  unfold State.runCsub
  refine hs.dOperand (hs.dOperand ?_)
  split
  · exact hs.stall
  · exact hs.setThr.result

theorem csubSubmit {t w : Nat} (hs : Follows s₀ s) : Follows s₀ (s.csubSubmit t w) := hs.setThr.cipSubmit

theorem runSignal {t w : Nat} (hs : Follows s₀ s) : Follows s₀ (s.runSignal t w).state := hs.result.ite_state hs.signalTo.result

theorem runTmr {t w : Nat} (hs : Follows s₀ s) : Follows s₀ (s.runTmr t w).state := hs.result.ite_state hs.setThr.result

theorem runTmrx {t : Nat} (hs : Follows s₀ s) : Follows s₀ (s.runTmrx t).state := hs.setThr.result

theorem runCrb {t w : Nat} (hs : Follows s₀ s) : Follows s₀ (s.runCrb t w).state := hs.pushCrumb.result.ite_state hs.result

theorem extendCrc {t w : Nat} {op : Iop} (hs : Follows s₀ s) : Follows s₀ (s.extendCrc t w op) := hs.setThr.ite hs

theorem putAll {c : Nat} {l : List (Nat × List Byte)} (hs : Follows s₀ s) : Follows s₀ (s.putAll c l) := hs.foldl fun _ _ hs => hs.dPut

theorem settle {t w : Nat} {op : Iop} {status value : Nat} {l : List (Nat × List Byte)} (hs : Follows s₀ s) : Follows s₀
  (s.settle t w op status value l) :=
  hs.extendCrc.putAll.setGr.setThr.retire

theorem finish {t w : Nat} {op : Iop} {status value : Nat} {l : List (Nat × List Byte)} {f : Option Instant} (hs : Follows s₀ s) :
  Follows s₀ (s.finish t w op status value l f) :=
  hs.crumbs.settle

theorem special {t w : Nat} {op : Iop} {e : Ecc} (hs : Follows s₀ s) : Follows s₀ (s.special t w op e).state := by
  unfold State.special
  split
  · exact hs.runMrd
  · exact hs.runMwr
  · exact hs.runDlk
  · exact hs.runRcv
  · exact hs.runPbr
  · exact hs.runPbw
  · exact hs.runAlloc
  · exact hs.runFree
  · exact hs.runSetlen
  · exact hs.runCopy
  · exact hs.runEmit
  · exact hs.runRes
  · exact hs.runWr
  · exact hs.runCmt
  · exact hs.runRd
  · exact hs.runSignal
  · exact hs.runTmr
  · exact hs.runTmrx
  · exact hs.runCsub
  · exact hs.runCrb
  · exact hs

theorem issueSpecial {t w : Nat} {op : Iop} (hs : Follows s₀ s) : Follows s₀ (s.issueSpecial t w op) := by
  have he := hs.special (t := t) (w := w) (op := op) (e := .clean)
  unfold State.issueSpecial
  dsimp only
  split
  · next e => exact thrFault (he.of_eq e)
  · exact ((hs.csubSubmit.ite hs).setThr).leave
  · next e _ => exact leave (setThr (he.of_eq e))
  · next e _ => exact stepEnd (finish (he.of_eq e))

theorem stallDone {t w : Nat} {op : Iop} {e : Ecc} (hs : Follows s₀ s) : Follows s₀ (s.stallDone t w op e) := by
  have he := hs.special (t := t) (w := w) (op := op) (e := e)
  unfold State.stallDone
  split
  · next h => exact thrFault (he.of_eq h)
  · exact hs
  · next h => exact wakeThr (finish (he.of_eq h))

/-! ### RplOps -/

theorem capView {c : Nat} (hs : Follows s₀ s) : Follows s₀ (s.capView c) := by
  unfold State.capView
  dsimp only
  split
  · rename_i e
    split
    · exact hs.setFld
    · exact hs.setFld.setFld
  · rename_i e
    refine (setFld ?_).setCnt
    split
    · exact hs.setFld
    · exact hs.setFld.setFld

theorem takeCkpt {c : Nat} (hs : Follows s₀ s) : Follows s₀ (s.takeCkpt c) := hs.ite hs.pushCrumb.setCap.setFld

theorem dueCkpt {c : Nat} (hs : Follows s₀ s) : Follows s₀ (s.dueCkpt c) := hs.setCap.ite hs.takeCkpt

theorem chainGapCrumb {c : Nat} (hs : Follows s₀ s) : Follows s₀ (s.chainGapCrumb c) := by
  unfold State.chainGapCrumb
  split
  · exact hs
  · exact hs.setCap.pushCrumb.bump.raise.capView.dueCkpt

theorem rplResume {c : Nat} (hs : Follows s₀ s) : Follows s₀ (s.rplResume c) := hs.ite hs.setCap.pushCrumb.capView

theorem feed {i : Nat} {host : List Crumb} (hs : Follows s₀ s) : Follows s₀ (s.feed i host) := hs.beside.ite hs

theorem rpEnd {result : Nat} (hs : Follows s₀ s) : Follows s₀ (s.rpEnd result) := by
  unfold State.rpEnd
  split
  · exact hs
  · exact hs.beside.setFld.setFld.setBlk.setFld.setClu.raise.raise.ite hs.beside.setFld.setFld.setBlk.setFld.setClu.raise

theorem diverge {reason kind thr op off : Nat} (hs : Follows s₀ s) : Follows s₀ (s.diverge reason kind thr op off) := hs.wr.wr.rpEnd

theorem advance {n : Nat} (hs : Follows s₀ s) : Follows s₀ (s.advance n) := by
  unfold State.advance
  dsimp only
  split
  · exact hs.setCnt.beside
  · exact hs.setCnt.beside

theorem replayFault {t : Nat} (hs : Follows s₀ s) : Follows s₀ (s.replayFault t) := by
  unfold State.replayFault
  refine ite ?_ hs
  split
  · exact hs
  · split
    · exact hs.thrFault
    · exact hs

theorem consumeTurn {c k : Nat} (hs : Follows s₀ s) : Follows s₀ (s.consumeTurn c k) := by
  unfold State.consumeTurn
  refine hs.ite (ite ?_ (((thrTo ?_).setEng).advance))
  · split
    · exact hs.replayFault.ite hs
    · exact hs
  · split
    · refine (thrTo ?_).ite ?_
      · split
        · exact hs.replayFault.ite hs
        · exact hs
      · split
        · exact hs.replayFault.ite hs
        · exact hs
    · exact hs

theorem replayBooks {t w : Nat} {op : Iop} {st v : Nat} (hs : Follows s₀ s) : Follows s₀ (s.replayBooks t w op st v) := by
  unfold State.replayBooks
  dsimp only
  split
  · exact hs.setClu.ite hs
  · exact hs.setClu.ite hs
  · exact hs.setClu.ite hs
  · exact hs.setClu.ite hs
  · exact hs.setClu.ite hs
  · exact hs.setThr.ite hs
  · exact hs.ite hs.setThr
  · exact hs

theorem replayResult {t w : Nat} {op : Iop} {r : Nat} {bs : List Byte} (hs : Follows s₀ s) : Follows s₀ (s.replayResult t w op r bs) :=
  hs.replayBooks.settle

theorem amoDo {t w : Nat} {op : Iop} (hs : Follows s₀ s) : Follows s₀ (s.amoDo t w op) := hs.dPut.setGr.retire

theorem tsrDo {t w ts : Nat} (hs : Follows s₀ s) : Follows s₀ (s.tsrDo t w ts) := hs.setGr.setGr.retire

theorem afterCrumb {t : Nat} (hs : Follows s₀ s) : Follows s₀ (s.afterCrumb t) := (hs.setThr.thrTo.ite hs).stepEnd

theorem consumeThr {t k : Nat} {op : Iop} (hs : Follows s₀ s) : Follows s₀ (s.consumeThr t k op) := by
  unfold State.consumeThr
  refine hs.diverge.ite (hs.diverge.ite ?_)
  split
  · exact hs.setThr.settle.advance.afterCrumb
  · dsimp only
    split
    · exact hs
    · exact hs.replayResult.advance.afterCrumb
  · exact hs.diverge.ite hs.settle.advance.afterCrumb
  · exact hs.replayResult.advance.afterCrumb
  · refine hs.tsrDo.advance.afterCrumb.ite (hs.amoDo.advance.afterCrumb.ite ?_)
    dsimp only
    split
    · exact hs
    · exact hs.replayResult.advance.afterCrumb

theorem consume (hs : Follows s₀ s) : Follows s₀ s.consume := by
  unfold State.consume
  split
  · exact hs
  · rename_i e
    refine hs.ite ?_
    split
    · exact hs
    · refine hs.rpEnd.ite (hs.advance.ite (hs.consumeTurn.ite (ite ?_ hs.diverge)))
      split
      · exact hs.consumeThr.ite hs
      · exact hs.consumeThr.ite hs
      · exact hs.consumeThr.ite hs
      · split
        · exact hs
        · exact hs.diverge.ite hs
      · exact hs

/-! ### IlkOps -/

theorem bpHalt {t pc : Nat} (hs : Follows s₀ s) : Follows s₀ (s.bpHalt t pc) := hs.setThr.setFld.setFld.leave

theorem fetchFault {t : Nat} (hs : Follows s₀ s) : Follows s₀ (s.fetchFault t) := hs.draw.thrFault

theorem issue {c : Fin 12} {e : Fin 16} {o : Option Iop} {k : Nat → Nat → State → State} (hs : Follows s₀ s)
    (hk : ∀ t w, Follows s₀ (k t w s)) : Follows s₀ (s.issue c e o k) := by
  unfold State.issue
  split
  · exact hs
  · exact hs.ite (hs.fetchFault.ite ((hk _ _).ite hs))

theorem next {t : Nat} (hs : Follows s₀ s) : Follows s₀ (s.next t) := hs.retire.stepEnd

theorem putRd {t w : Nat} {v : DWord} (hs : Follows s₀ s) : Follows s₀ (s.putRd t w v) := hs.setGr.next

theorem alu {f : DWord → DWord → DWord} {t w : Nat} (hs : Follows s₀ s) : Follows s₀ (s.alu f t w) := hs.putRd

theorem alui {f : Nat → DWord → DWord} {t w : Nat} (hs : Follows s₀ s) : Follows s₀ (s.alui f t w) := hs.putRd

theorem access {t w a n : Nat} {k : State → State} (hs : Follows s₀ s) (hk : Follows s₀ (k s)) : Follows s₀ (s.access t w a n k) :=
  hs.thrFault.ite (hs.thrFault.ite hk)

theorem load {n : Nat} {sx : Bool} {t w : Nat} (hs : Follows s₀ s) : Follows s₀ (s.load n sx t w) := by
  unfold State.load
  exact hs.access hs.putRd

theorem store {n : Nat} {t w : Nat} (hs : Follows s₀ s) : Follows s₀ (s.store n t w) := by
  unfold State.store
  exact hs.access hs.dPut.next

theorem amo {op : Iop} {t w : Nat} (hs : Follows s₀ s) : Follows s₀ (s.amo op t w) := by
  unfold State.amo
  exact hs.access hs.crumbs.amoDo.stepEnd

theorem branch {f : DWord → DWord → Bool} {t w : Nat} (hs : Follows s₀ s) : Follows s₀ (s.branch f t w) := hs.retire.stepEnd

theorem jal {t w : Nat} (hs : Follows s₀ s) : Follows s₀ (s.jal t w) := hs.setGr.retire.stepEnd

theorem jalr {t w : Nat} (hs : Follows s₀ s) : Follows s₀ (s.jalr t w) := hs.thrFault.ite hs.setGr.retire.stepEnd

theorem status {op : Iop} {t w st v : Nat} (hs : Follows s₀ s) : Follows s₀ (s.status op t w st v) := hs.settle.stepEnd

theorem waitTake {t w i : Nat} (hs : Follows s₀ s) : Follows s₀ (s.waitTake t w i) := hs.crumbs.settle.evTake

theorem ilkWait {t w : Nat} (hs : Follows s₀ s) : Follows s₀ (s.ilkWait t w) := by
  unfold State.ilkWait
  refine hs.setThr.status.ite ?_
  split
  · exact hs.setThr.waitTake.stepEnd
  · exact hs.setThr.leave

theorem ilkPark {t w : Nat} (hs : Follows s₀ s) : Follows s₀ (s.ilkPark t w) := ((hs.settle.setFld.ite hs.settle).setThr).leave

theorem ilkTsr {t w : Nat} (hs : Follows s₀ s) : Follows s₀ (s.ilkTsr t w) := hs.crumbs.tsrDo.stepEnd

theorem ilkRdsts {t w : Nat} (hs : Follows s₀ s) : Follows s₀ (s.ilkRdsts t w) := hs.setGr.setThr.next

theorem ilkBkpt {t w : Nat} (hs : Follows s₀ s) : Follows s₀ (s.ilkBkpt t w) :=
  (((hs.settle.setFld.ite hs.settle).setThr).leave).ite hs.thrFault

/-! ### EngLoad -/

theorem putSlot {c e w v : Nat} (hs : Follows s₀ s) : Follows s₀ (s.putSlot c e w v) := hs.wr.act (mwf_mput _ _ _ _)

theorem loadImage {c : Nat} {b : List Byte} (hs : Follows s₀ s) : Follows s₀ (s.loadImage c b) :=
  (((hs.freeHandles.setClu.foldl (fun _ _ hs => hs.setThr.wr.setCnt)).foldl (fun _ _ hs => hs.putSlot.putSlot.setEng)).setFld).setFld

theorem loadEnd {c r : Nat} (hs : Follows s₀ s) : Follows s₀ (s.loadEnd c r) := hs.setBlk.setFld.setFld.setFld.raise

/-! ### Eng -/

theorem quantumExpire {c e : Nat} (hs : Follows s₀ s) : Follows s₀ (s.quantumExpire c e) := by
  unfold State.quantumExpire
  dsimp only
  split
  · exact hs
  · exact hs.ite (hs.turn.ite hs.setEng)

theorem stallComplete {t : Nat} {e : Ecc} (hs : Follows s₀ s) : Follows s₀ (s.stallComplete t e) := by
  unfold State.stallComplete
  refine ite ?_ hs
  split
  · exact hs
  · exact hs.stallDone

theorem eventWake {t : Nat} (hs : Follows s₀ s) : Follows s₀ (s.eventWake t) := by
  unfold State.eventWake
  refine ite ?_ hs
  split
  · exact hs
  · exact hs.waitTake.wakeThr

theorem engSignal {c v : Nat} (hs : Follows s₀ s) : Follows s₀ (s.engSignal c v) := hs.signalTo

theorem dlRescue {c : Nat} (hs : Follows s₀ s) : Follows s₀ (s.dlRescue c) := by
  unfold State.dlRescue
  exact hs.signalTo

theorem setDlAt {d : Fin 13} {v : Option Nat} (hs : Follows s₀ s) : Follows s₀ (s.setDlAt d v) := hs.setClu.ite hs.beside

theorem snapThr {inSnap : Bool} {t : Nat} (hs : Follows s₀ s) : Follows s₀ (s.snapThr inSnap t) := hs.wr.wr

theorem deadlocked {d : Fin 13} (hs : Follows s₀ s) : Follows s₀ (s.deadlocked d) :=
  ((hs.foldl (fun _ _ hs => hs.setFld)).ite ((hs.foldl (fun _ _ hs => hs.snapThr)).foldl (fun _ _ hs => hs.setFld.setFld))).foldl
    fun _ _ hs => hs.bump.raise

theorem deadlockDetect {d : Fin 13} (hs : Follows s₀ s) : Follows s₀ (s.deadlockDetect d) := by
  unfold State.deadlockDetect
  split
  · exact hs
  · exact hs.setDlAt.deadlocked.ite hs

theorem chnHold {n : Nat} (hs : Follows s₀ s) : Follows s₀ (s.chnHold n) := by
  unfold State.chnHold
  split
  · exact hs
  · exact hs.ite hs.setChan.chanLevel.raise

theorem chnVoidWrite {v : Nat} (hs : Follows s₀ s) : Follows s₀ (s.chnVoidWrite v) := by
  unfold State.chnVoidWrite
  dsimp only
  split
  · exact hs.reject
  · exact hs.chanVoid.ite hs.reject

theorem chnReset {n : Nat} (hs : Follows s₀ s) : Follows s₀ (s.chnReset n) := hs.setChan.setFld.bump32.chanLevel

theorem loadStart {c : Nat} (hs : Follows s₀ s) : Follows s₀ (s.loadStart c) := hs.reject.ite hs.setBlk.setFld.flushIq.voidCluster.rehome

theorem loadFinish {c : Fin 12} {e : Ecc} (hs : Follows s₀ s) : Follows s₀ (s.loadFinish c e) :=
  hs.ite (hs.memRefuse.loadEnd.ite (hs.ite (hs.memRead.loadEnd.ite ((hs.memRead.loadImage.ite hs.memRead).loadEnd))))

theorem clusterSafe {c : Nat} (hs : Follows s₀ s) : Follows s₀ (s.clusterSafe c) :=
  hs.setBlk.setFld.flushIq.voidCluster.raise.dueCkpt.ite hs

/-! ### Fwd -/

theorem fclear {mem : Nat} {p : Nat → Bool} (hs : Follows s₀ s) : Follows s₀ (s.fclear mem p) := by
  unfold State.fclear
  exact hs.setFwd

theorem tabClear {t : Tab} (hs : Follows s₀ s) : Follows s₀ (s.tabClear t) := (hs.foldl (fun _ _ hs => hs.deepPut)).ite hs.fclear

theorem deepReads {t : Tab} {op k i : Nat} {ok : Bool} (hs : Follows s₀ s) : Follows s₀ (s.deepReads t op k i ok) :=
  hs.ite ((hs.reportBad.ite hs).ite (hs.reportBad.ite hs))

theorem hashOp {t : Tab} {op : Nat} {a : FwdArgs} (hs : Follows s₀ s) : Follows s₀ (s.hashOp t op a).2 := by
  unfold State.hashOp
  dsimp only
  split
  · exact hs.deepReads.pair.ite_snd (hs.deepReads.pair.ite_snd hs.deepReads.placeEntry.pair)
  · refine hs.deepReads.pair.ite_snd ?_
    split
    · exact hs.deepReads.pair
    · exact hs.deepReads.setEntry.after.pair
  · refine hs.deepReads.pair.ite_snd ?_
    split
    · exact hs.deepReads.pair
    · exact hs.deepReads.setEntry.after.pair
  · refine hs.deepReads.pair.ite_snd ?_
    split
    · exact hs.deepReads.pair
    · exact hs.deepReads.pair
  · exact hs.deepReads.pair.ite_snd hs.deepReads.pair
  · exact hs.deepReads.pair.ite_snd hs.deepReads.setEntry.after.pair
  · exact ((hs.deepReads.foldl (fun _ _ hs => hs.setEntry.ite hs)).after).pair
  · exact hs.deepReads.tabClear.after.pair

theorem ternOp {t : Tab} {op : Nat} {a : FwdArgs} (hs : Follows s₀ s) : Follows s₀ (s.ternOp t op a).2 := by
  unfold State.ternOp
  dsimp only
  split
  · exact hs.fclear.pair
  · exact hs.ite_snd hs.fput.pair
  · exact hs.ite_snd hs
  · exact hs.ite_snd hs.fput.pair

theorem trieWritten {t : Tab} {plen pre : Nat} (hs : Follows s₀ s) : Follows s₀ (s.trieWritten t plen pre) := by
  unfold State.trieWritten
  exact hs.setFwd

theorem setPrefix {t : Tab} {plen pre : Nat} {r : Option (Nat × Nat)} (hs : Follows s₀ s) : Follows s₀ (s.setPrefix t plen pre r) :=
  hs.setFwd.trieWritten

theorem lpmOp {t : Tab} {op : Nat} {a : FwdArgs} (hs : Follows s₀ s) : Follows s₀ (s.lpmOp t op a).2 := by
  unfold State.lpmOp
  dsimp only
  split
  · exact hs.ite_snd (hs.ite_snd (hs.bump.raise.pair.ite_snd hs.setPrefix.setFld.pair))
  · exact hs.ite_snd (hs.ite_snd hs.setPrefix.pair)
  · exact hs.ite_snd (hs.ite_snd hs.setPrefix.setFld.pair)
  · exact hs.ite_snd hs.fput.pair
  · exact hs.ite_snd hs
  · exact hs.setFwd.setFld.pair

theorem tableOp {space pipe table op : Nat} {a : FwdArgs} (hs : Follows s₀ s) : Follows s₀ (s.tableOp space pipe table op a).2 :=
  hs.ite_snd (hs.ternOp.ite_snd (hs.lpmOp.ite_snd hs.hashOp))

theorem fwdRun {v op : Nat} {a : FwdArgs} (hs : Follows s₀ s) : Follows s₀ (s.fwdRun v op a).2 :=
  hs.tableOp.pair.ite_snd (hs.foldl_snd (fun _ _ hs => hs.tableOp.pair))

theorem fwdCommand {c : Nat} {q : Req} {v op : Nat} (hs : Follows s₀ s) : Follows s₀ (s.fwdCommand c q v op) :=
  hs.reject.ite hs.fwdRun.setFld.setFwd

theorem fwdCmdDone {c : Nat} (hs : Follows s₀ s) : Follows s₀ (s.fwdCmdDone c) := by
  unfold State.fwdCmdDone
  split
  · exact hs
  · rename_i e
    refine (raise ?_).ite ?_
    · split
      · exact (hs.setFwd.foldl (fun _ _ hs => hs.wr)).wr
      · exact ((hs.setFwd.foldl (fun _ _ hs => hs.wr)).wr).wr
    · split
      · exact (hs.setFwd.foldl (fun _ _ hs => hs.wr)).wr
      · exact ((hs.setFwd.foldl (fun _ _ hs => hs.wr)).wr).wr

theorem learnedInsert {p : Nat} (hs : Follows s₀ s) : Follows s₀ (s.learnedInsert p) := by
  unfold State.learnedInsert
  split
  · exact hs
  · rename_i e
    refine hs.ite ?_
    dsimp only
    split
    · exact hs.setLearnQ.sourceHit
    · split
      · exact hs.setLearnQ.placeEntry
      · exact hs.setLearnQ.placeEntry.bump.notify

theorem sweepEntry {t : Tab} {i : Nat} (hs : Follows s₀ s) : Follows s₀ (s.sweepEntry t i) :=
  hs.ite (hs.setEntry.ite (hs.setEntry.after.bump.notify.ite hs.setEntry))

theorem ageSweep (hs : Follows s₀ s) : Follows s₀ s.ageSweep :=
  (hs.setFwd.foldl (fun _ _ hs => hs.foldl (fun _ _ hs => hs.sweepEntry))).ite hs

theorem notifyPop {q : Req} (hs : Follows s₀ s) : Follows s₀ (s.notifyPop q).2 := hs.setFwd.setFld.setLat.setLat.setLat.pair

/-! ### HifOps -/

theorem setHport {h : Nat} {g : HpSt → HpSt} (hs : Follows s₀ s) : Follows s₀ (s.setHport h g) := hs.beside

theorem setFn {f : Nat} {g : FnSt → FnSt} (hs : Follows s₀ s) : Follows s₀ (s.setFn f g) := hs.beside

theorem setTfn {g : TfnSt → TfnSt} (hs : Follows s₀ s) : Follows s₀ (s.setTfn g) := hs.beside

theorem fnTo {f st : Nat} (hs : Follows s₀ s) : Follows s₀ (s.fnTo f st) := hs.ite hs.setFld.raise

theorem fnWake {f : Nat} (hs : Follows s₀ s) : Follows s₀ (s.fnWake f) := hs.setFld.fnTo.ite hs

theorem dirty {f a n : Nat} (hs : Follows s₀ s) : Follows s₀ (s.dirty f a n) := by
  unfold State.dirty
  split
  · exact hs
  · exact hs.setTfn.ite hs.setTfn.setFld

theorem sendWrite {f a : Nat} {bs : List Byte} {ro : Bool} (hs : Follows s₀ s) : Follows s₀ (s.sendWrite f a bs ro) :=
  (hs.foldl (fun _ _ hs => hs.emit)).dirty

theorem dmaPut {f gen a : Nat} {bs : List Byte} {ro : Bool} (hs : Follows s₀ s) : Follows s₀ (s.dmaPut f gen a bs ro) :=
  hs.bump.ite (hs.sendWrite.ite hs.setFn)

theorem flushPosts {f : Nat} (hs : Follows s₀ s) : Follows s₀ (s.flushPosts f) := hs.setFn.foldl fun _ _ hs => hs.sendWrite

theorem fetchOf {f : Nat} {what : FetchFor} {a len : Nat} (hs : Follows s₀ s) : Follows s₀ (s.fetchOf f what a len) := by
  unfold State.fetchOf
  split
  · exact hs
  · exact hs.setHport

/-! ### QueOps -/

theorem codeCount {f code : Nat} (hs : Follows s₀ s) : Follows s₀ (s.codeCount f code) := hs.bump.ite hs

theorem armFire {f : Nat} {rx : Bool} {q : Nat} (hs : Follows s₀ s) : Follows s₀ (s.armFire f rx q) := by
  unfold State.armFire
  split
  · exact hs
  · exact hs.setTq.msixTrigger.ite hs

theorem putCpl {f gen : Nat} {rx : Bool} {q i : Nat} {x : Cpl} (hs : Follows s₀ s) : Follows s₀ (s.putCpl f gen rx q i x) := by
  unfold State.putCpl
  refine hs.bump.ite ?_
  split
  · exact hs
  · exact hs.dmaPut.setTq.armFire

theorem queFetch {f : Nat} {rx : Bool} {q : Nat} (hs : Follows s₀ s) : Follows s₀ (s.queFetch f rx q) := by
  unfold State.queFetch
  split
  · exact hs
  · exact hs.ite ((hs.foldl (fun _ _ hs => hs.fetchOf)).setTq)

theorem rxDesc {f gen q i : Nat} {x : Fetch} (hs : Follows s₀ s) : Follows s₀ (s.rxDesc f gen q i x) := by
  unfold State.rxDesc
  split
  · exact hs
  · exact hs.bump.ite (hs.putCpl.ite (hs.bump.putCpl.ite (hs.bump.putCpl.ite hs.setTq)))

theorem handRx {h : Nat} (hs : Follows s₀ s) : Follows s₀ (s.handRx h) := by
  unfold State.handRx
  refine hs.setHport.foldl ?_
  intro _ _ hs
  split
  · exact hs.rxDesc
  · exact hs

theorem takeWaiting {c : Copy} {fate : Fate} (hs : Follows s₀ s) : Follows s₀ (s.takeWaiting c fate) :=
  hs.setVq.fcRelease.setVcells.endCopy

theorem rxDeliver {f q : Nat} (hs : Follows s₀ s) : Follows s₀ (s.rxDeliver f q) := by
  unfold State.rxDeliver
  split
  · rename_i e
    refine hs.takeWaiting.bump.ite (hs.ite ?_)
    split
    · exact hs
    · exact hs.takeWaiting.bump.ite hs.setTq.dmaPut.putCpl.bump.bump.takeWaiting
  · exact hs

theorem queUse {f : Nat} {rx add : Bool} (hs : Follows s₀ s) : Follows s₀ (s.queUse f rx add) := hs.setFld.setFld

theorem dropWaiting {f q : Nat} (hs : Follows s₀ s) : Follows s₀ (s.dropWaiting f q) := hs.foldl fun _ _ hs => hs.takeWaiting

theorem drainStart {f : Nat} {rx : Bool} {q : Nat} (hs : Follows s₀ s) : Follows s₀ (s.drainStart f rx q) := by
  unfold State.drainStart
  split
  · exact hs
  · exact hs.ite (((((hs.foldl (fun _ _ hs => hs.setHport)).setTq).dropWaiting).ite ((hs.foldl (fun _ _ hs => hs.setHport)).setTq)).foldl
      (fun _ _ hs => hs.putCpl))

theorem drainDone {f : Nat} {rx : Bool} {q : Nat} (hs : Follows s₀ s) : Follows s₀ (s.drainDone f rx q) := by
  unfold State.drainDone
  split
  · exact hs
  · exact hs.setTq.queUse.raise.ite hs

theorem bellBad {f : Nat} (hs : Follows s₀ s) : Follows s₀ (s.bellBad f) := hs.bump

theorem piAct {f : Nat} {rx : Bool} {q v : Nat} (hs : Follows s₀ s) : Follows s₀ (s.piAct f rx q v) := by
  unfold State.piAct
  split
  · exact hs.bellBad
  · exact hs.bellBad.ite hs.setTq.queFetch

theorem ciAct {f : Nat} {rx : Bool} {q v : Nat} {arm : Bool} (hs : Follows s₀ s) : Follows s₀ (s.ciAct f rx q v arm) := by
  unfold State.ciAct
  split
  · exact hs.bellBad
  · exact hs.setTq.armFire.ite hs.setTq

theorem piWrite {f : Nat} {rx : Bool} {q v : Nat} (hs : Follows s₀ s) : Follows s₀ (s.piWrite f rx q v) := by
  unfold State.piWrite
  split
  · exact hs.bellBad
  · exact hs.bellBad.ite (hs.setTq.ite hs.piAct)

theorem ciWrite {f : Nat} {rx : Bool} {q v : Nat} (hs : Follows s₀ s) : Follows s₀ (s.ciWrite f rx q v) := by
  unfold State.ciWrite
  split
  · exact hs.bellBad
  · exact hs.bellBad.ite (hs.setTq.ite hs.ciAct)

theorem bellsAct {f : Nat} {rx : Bool} {q : Nat} (hs : Follows s₀ s) : Follows s₀ (s.bellsAct f rx q) := by
  unfold State.bellsAct
  split
  · exact hs
  · rename_i e
    refine (((hs.setTq.bellBad.ite hs.setTq).bellBad).ite (hs.setTq.bellBad.ite hs.setTq)).ite (queFetch ?_)
    split
    · split
      · exact hs.setTq
      · exact hs.setTq.ciAct
    · refine piAct ?_
      split
      · exact hs.setTq
      · exact hs.setTq.ciAct

theorem mbxAnswer {r : MbxReq} {target st : Nat} {payload : List Nat} (hs : Follows s₀ s) : Follows s₀ (s.mbxAnswer r target st payload)
  := by
  unfold State.mbxAnswer
  exact (hs.codeCount.ite hs).setTfn

/-! ### SvcOps -/

theorem svcPump {id : Nat} (hs : Follows s₀ s) : Follows s₀ (s.svcPump id) := by
  unfold State.svcPump
  refine hs.foldl ?_
  intro _ _ hs
  dsimp only
  split
  · split
    · exact hs
    · refine hs.ite ?_
      split
      · exact hs.setTq.setCtx.putCpl
      · exact hs.setTq.setCtx.dmaPut.putCpl
  · exact hs

theorem svcHand {id : Nat} {bs : List Byte} {e : Instant} {st : Nat} (hs : Follows s₀ s) : Follows s₀ (s.svcHand id bs e st) :=
  hs.ite hs.setCtx.svcPump

theorem svcGive {id : Nat} {bs : List Byte} {e : Instant} (hs : Follows s₀ s) : Follows s₀ (s.svcGive id bs e) := hs.svcHand

theorem svcNote {id code : Nat} (hs : Follows s₀ s) : Follows s₀ (s.svcNote id code) := hs.setCtx.codeCount

theorem svcErr {id code : Nat} (hs : Follows s₀ s) : Follows s₀ (s.svcErr id code) := hs.svcNote.setCtx.svcPump

theorem svcFail {id code : Nat} (hs : Follows s₀ s) : Follows s₀ (s.svcFail id code) := hs.setCtx.svcErr

theorem streamDrop {id n : Nat} (hs : Follows s₀ s) : Follows s₀ (s.streamDrop id n) := hs.setCtx

theorem svcEmit {c : Nat} {bs : List Byte} (hs : Follows s₀ s) : Follows s₀ (s.svcEmit c bs) := by
  unfold State.svcEmit
  exact hs.draw.birth.setPipe

theorem tcpOut {id seq flags : Nat} {body : List Byte} (hs : Follows s₀ s) : Follows s₀ (s.tcpOut id seq flags body) := hs.setCtx.svcEmit

theorem tcpAckOut {id : Nat} (hs : Follows s₀ s) : Follows s₀ (s.tcpAckOut id) := hs.tcpOut

theorem tcpData1 {id : Nat} {b : List Byte} (hs : Follows s₀ s) : Follows s₀ (s.tcpData1 id b) := by
  unfold State.tcpData1
  exact hs.tcpOut.setCtx

theorem tcpPush {id : Nat} (hs : Follows s₀ s) : Follows s₀ (s.tcpPush id) :=
  (((hs.foldl (fun _ _ hs => hs.ite hs.tcpData1)).tcpOut).setCtx).ite (hs.foldl (fun _ _ hs => hs.ite hs.tcpData1))

theorem tcpResend {id : Nat} (hs : Follows s₀ s) : Follows s₀ (s.tcpResend id) := by
  unfold State.tcpResend
  exact (hs.tcpOut.ite ((hs.tcpOut.ite hs).ite hs.tcpOut)).setCtx

theorem tcpNewAck {id a new w : Nat} (hs : Follows s₀ s) : Follows s₀ (s.tcpNewAck id a new w) :=
  (hs.setCtx.tcpResend.ite hs.setCtx).tcpPush

theorem tcpDupAck {id a : Nat} (hs : Follows s₀ s) : Follows s₀ (s.tcpDupAck id a) :=
  hs.setCtx.setCtx.tcpPush.ite (hs.setCtx.setCtx.tcpResend.ite hs.setCtx)

theorem tcpAck {id : Nat} {g : TcpSeg} (hs : Follows s₀ s) : Follows s₀ (s.tcpAck id g) :=
  hs.setCtx.ite (hs.setCtx.tcpAckOut.ite (hs.setCtx.tcpNewAck.ite (hs.setCtx.tcpDupAck.ite hs.setCtx.setCtx.tcpPush)))

theorem tcpTake {id : Nat} {bs : List Byte} {e : Instant} (hs : Follows s₀ s) : Follows s₀ (s.tcpTake id bs e) := by
  unfold State.tcpTake
  dsimp only
  split
  · exact hs.setCtx.ite hs.setCtx.setCtx
  · exact hs.setCtx.svcGive

theorem tcpMerge {id : Nat} (hs : Follows s₀ s) : Follows s₀ (s.tcpMerge id) := by
  unfold State.tcpMerge
  refine hs.foldl ?_
  intro _ _ hs
  dsimp only
  split
  · exact hs
  · exact hs.setCtx.tcpTake

theorem tcpData {id : Nat} {g : TcpSeg} {e : Instant} (hs : Follows s₀ s) : Follows s₀ (s.tcpData id g e) :=
  hs.ite (((hs.setCtx.ite hs).ite (((hs.tcpTake.tcpMerge.ite hs).setCtx).ite (hs.tcpTake.tcpMerge.ite hs))).tcpAckOut)

theorem tcpPeerReset {id : Nat} (hs : Follows s₀ s) : Follows s₀ (s.tcpPeerReset id) := hs.setCtx.svcErr.ite hs.setCtx.svcFail

theorem tcpRst {id : Nat} {g : TcpSeg} (hs : Follows s₀ s) : Follows s₀ (s.tcpRst id g) :=
  (hs.tcpPeerReset.ite hs).ite (hs.tcpPeerReset.ite (hs.tcpAckOut.ite hs))

theorem tcpMarks {id : Nat} {g : TcpSeg} (hs : Follows s₀ s) (e : s.tcpMarks id g = some t) : Follows s₀ t := by
  unfold State.tcpMarks at e
  dsimp only at e
  split_ifs at e
  cases e
  exact hs.setCtx

theorem tcpRx {id : Nat} {g : TcpSeg} {e : Instant} (hs : Follows s₀ s) : Follows s₀ (s.tcpRx id g e) := by
  unfold State.tcpRx
  refine hs.setCtx.ite (hs.setCtx.tcpRst.ite ((hs.setCtx.ite ((hs.setCtx.setCtx.tcpAckOut.tcpPush.ite hs.setCtx).ite
    (hs.setCtx.ite ?_))).ite (hs.setCtx.tcpAckOut.ite ?_)))
  · dsimp only
    split
    · exact hs.setCtx.setCtx.tcpPush
    · next hu => exact (hs.setCtx.setCtx.tcpMarks hu).tcpData.tcpPush
  · split
    · exact hs.setCtx.tcpAckOut
    · next hu => exact (hs.setCtx.tcpMarks hu).tcpAck.tcpData

theorem tcpReset {id : Nat} (hs : Follows s₀ s) : Follows s₀ (s.tcpReset id) := by
  unfold State.tcpReset
  exact hs.tcpOut.setCtx

theorem tcpQueue {id : Nat} {bs : List Byte} (hs : Follows s₀ s) : Follows s₀ (s.tcpQueue id bs) := hs.setCtx.tcpPush

theorem svcTxEnd {id : Nat} (hs : Follows s₀ s) : Follows s₀ (s.svcTxEnd id) := hs.ite hs.setCtx.svcErr

theorem svcRxEnd {id : Nat} (hs : Follows s₀ s) : Follows s₀ (s.svcRxEnd id) := hs.ite hs.setCtx.svcErr

theorem tlsSend {id typ : Nat} {bs : List Byte} (hs : Follows s₀ s) : Follows s₀ (s.tlsSend id typ bs) :=
  hs.foldl (fun _ _ hs => hs.ite (hs.setCtx.tcpQueue.svcTxEnd.ite hs.setCtx.tcpQueue))

theorem tlsPlain {id typ : Nat} {bs : List Byte} (hs : Follows s₀ s) : Follows s₀ (s.tlsPlain id typ bs) := hs.tcpQueue

theorem tlsOpen {id : Nat} {h body : List Byte} {e : Instant} (hs : Follows s₀ s) : Follows s₀ (s.tlsOpen id h body e) :=
  hs.svcFail.tlsSend.ite (hs.svcFail.ite (hs.setCtx.svcGive.svcRxEnd.ite hs.setCtx.svcGive))

theorem tlsRx {id : Nat} (hs : Follows s₀ s) : Follows s₀ (s.tlsRx id) := by
  unfold State.tlsRx
  dsimp only
  split
  · exact hs
  · exact hs.ite (hs.svcFail.ite (hs.ite (hs.streamDrop.ite
      ((hs.streamDrop.svcGive.ite hs.streamDrop.svcFail).ite (hs.streamDrop.svcFail.ite hs.streamDrop.tlsOpen)))))

theorem espUse {id n : Nat} (hs : Follows s₀ s) : Follows s₀ (s.espUse id n) :=
  ((hs.setCtx.setCtx.svcErr.ite hs.setCtx).svcFail).ite (hs.setCtx.setCtx.svcErr.ite hs.setCtx)

theorem espRx {id lo : Nat} {iv body : List Byte} {e : Instant} (hs : Follows s₀ s) : Follows s₀ (s.espRx id lo iv body e) :=
  hs.ite (hs.svcErr.ite (hs.svcErr.ite (hs.svcErr.ite hs.setCtx.svcGive.espUse)))

theorem espTx {id : Nat} {pt : List Byte} (hs : Follows s₀ s) : Follows s₀ (s.espTx id pt) :=
  hs.ite (hs.svcErr.ite (hs.setCtx.svcEmit.espUse.svcTxEnd.ite hs.setCtx.svcEmit.espUse))

theorem nvmeEnd {id code : Nat} (hs : Follows s₀ s) : Follows s₀ (s.nvmeEnd id code) := by
  unfold State.nvmeEnd
  dsimp only
  split
  · exact hs.svcFail
  · exact hs.svcFail.tcpReset.setCtx

theorem nvmeMark {id cid : Nat} {alone : Bool} (hs : Follows s₀ s) : Follows s₀ (s.nvmeMark id cid alone) :=
  hs.svcErr.ite hs.svcNote.setCtx

theorem nvmeC2h {id n : Nat} {b : List Byte} (hs : Follows s₀ s) : Follows s₀ (s.nvmeC2h id n b) := by
  unfold State.nvmeC2h
  dsimp only
  split
  · exact hs.nvmeEnd
  · exact hs.nvmeEnd.ite (hs.nvmeMark.ite hs.setCtx.dmaPut)

theorem nvmeR2t {id t n : Nat} {b host : List Byte} {e : Instant} (hs : Follows s₀ s) : Follows s₀ (s.nvmeR2t id t n b host e) := by
  unfold State.nvmeR2t
  dsimp only
  split
  · exact hs.nvmeEnd
  · exact hs.nvmeEnd.ite hs.setCtx.tcpQueue.svcGive

theorem nvmeRsp {id n : Nat} {b : List Byte} {e : Instant} (hs : Follows s₀ s) : Follows s₀ (s.nvmeRsp id n b e) := hs.setCtx.svcHand

theorem nvmeRx {id : Nat} {host : List Byte} (hs : Follows s₀ s) : Follows s₀ (s.nvmeRx id host) := by
  unfold State.nvmeRx
  dsimp only
  split
  · exact hs
  · rename_i e
    refine hs.ite (hs.nvmeEnd.ite (hs.nvmeEnd.ite (hs.ite ?_)))
    split
    · exact hs.streamDrop.svcGive
    · exact hs.streamDrop.nvmeRsp
    · exact hs.streamDrop.nvmeC2h
    · exact hs.streamDrop.nvmeR2t
    · exact hs.streamDrop.nvmeEnd

theorem tlsTx {id : Nat} {bs : List Byte} {keyNext : Bool} (hs : Follows s₀ s) : Follows s₀ (s.tlsTx id bs keyNext) :=
  hs.setCtx.draw.tlsPlain.ite (hs.setCtx.draw.tlsSend.ite hs.setCtx.svcErr)

theorem svcTx {id : Nat} {bs : List Byte} {keyNext : Bool} (hs : Follows s₀ s) : Follows s₀ (s.svcTx id bs keyNext) := by
  unfold State.svcTx
  dsimp only
  split
  · exact hs.setCtx.tcpQueue
  · exact hs.setCtx.tlsTx
  · exact hs.setCtx.espTx
  · exact hs.setCtx.setCtx.tcpQueue
  · exact hs.setCtx

theorem ctxFree (hs : Follows s₀ s) : Follows s₀ (s.ctxFree).2 := hs.draw.pair

theorem ctxAlloc {f home keyRx keyTx : Nat} {r : OpenReq} {link i : Option Nat} (hs : Follows s₀ s)
    (e : s.ctxAlloc f home r keyRx keyTx link = some (i, t)) : Follows s₀ t := by
  unfold State.ctxAlloc at e
  dsimp only at e
  split at e
  · next hp =>
    split at e
    · cases e
    · next hq =>
      cases e
      exact ((hs.ctxFree.poolOpen hp).ctxSeat hq).draw.setCtx.setTfn.setFld
  · cases e
    exact hs

theorem ctxActive {id : Nat} (hs : Follows s₀ s) : Follows s₀ (s.ctxActive id) := hs.setCtx

theorem ctxAbort {id : Nat} (hs : Follows s₀ s) : Follows s₀ (s.ctxAbort id) := hs.ite ((hs.tcpReset.ite hs).setCtx)

theorem ctxClose {id : Nat} (hs : Follows s₀ s) : Follows s₀ (s.ctxClose id) := hs.ite (hs.setCtx.tcpPush.ite hs.setCtx)

theorem ctxFreeNow {id : Nat} (hs : Follows s₀ s) : Follows s₀ (s.ctxFreeNow id) := by
  unfold State.ctxFreeNow
  refine hs.ite ?_
  split
  · exact hs
  · next u hu =>
    have hu := hs.ctxErase hu
    extract_lets f t₁ t₂
    have h₁ : Follows s₀ t₁ := by
      dsimp only [t₁]
      split
      · exact hu
      · exact hu.setTq.ite hu
    clear_value t₁
    exact h₁.setTfn.setFld.ite h₁.setTfn

end Sys2Proof.Machine.Follows
end

section
/-! The operations of functions, mailboxes, migration, MACs, memory, scheduling and resets leave the queue and keep the tables canonical: a lemma for each. -/
namespace Sys2Proof.Machine.Follows
variable {s₀ s t : State}

/-! ### FnOps -/

theorem fnAbort {f : Nat} (hs : Follows s₀ s) : Follows s₀ (s.fnAbort f) :=
  (((hs.foldl (fun _ _ hs => hs.ctxAbort)).setSvc).setTfn).setFld

theorem fnKeys {f : Nat} (hs : Follows s₀ s) : Follows s₀ (s.fnKeys f) := ((hs.foldl (fun _ _ hs => hs.keyOpen)).setTfn).setFld

theorem fnQueues {f : Nat} (hs : Follows s₀ s) : Follows s₀ (s.fnQueues f) :=
  hs.foldl (fun _ _ hs => (((hs.foldl (fun _ _ hs => hs.takeWaiting.bump)).ite hs).setTq).queUse)

theorem fnMbx {f : Nat} (hs : Follows s₀ s) : Follows s₀ (s.fnMbx f) := hs.ite ((hs.setTfn.setFld.pwr.foldl (fun _ _ hs => hs.pwr)).bump)

theorem fnMsix {f : Nat} (hs : Follows s₀ s) : Follows s₀ (s.fnMsix f) := (hs.pregs (mwf_filter _ _ _)).setFn

theorem fnReset {f : Nat} (hs : Follows s₀ s) : Follows s₀ (s.fnReset f) :=
  ((hs.fnAbort.setFld.fnKeys.fnQueues.fnMbx.fnMsix.setFn.foldl (fun _ _ hs => hs.setHport)).setTfn).setFld

theorem fnCfgReset {f mps : Nat} (hs : Follows s₀ s) : Follows s₀ (s.fnCfgReset f mps) := hs.setFn.wr

theorem toResetting {f : Nat} {flr : Bool} (hs : Follows s₀ s) : Follows s₀ (s.toResetting f flr) := hs.fnReset.setFn.fnTo

theorem flrOne {f : Nat} (hs : Follows s₀ s) : Follows s₀ (s.flrOne f) := hs.fnCfgReset.toResetting.ite hs

theorem flr {f : Nat} (hs : Follows s₀ s) : Follows s₀ (s.flr f) :=
  ((((hs.foldl (fun _ _ hs => hs.flrOne)).flrOne).raise).ite ((hs.foldl (fun _ _ hs => hs.flrOne)).flrOne)).ite hs.flrOne

theorem fnResetCmd {f : Nat} (hs : Follows s₀ s) (e : s.fnResetCmd f = some t) : Follows s₀ t := by
  unfold State.fnResetCmd at e
  split_ifs at e
  · cases e
    exact hs.toResetting
  · cases e
    exact hs

theorem leaveReset {f : Nat} (hs : Follows s₀ s) : Follows s₀ (s.leaveReset f) := hs.setFn.fnTo.raise.ite hs.setFn.fnTo

theorem orphan {f : Nat} (hs : Follows s₀ s) : Follows s₀ (s.orphan f) := (hs.ite hs.fnReset.fnTo).fnCfgReset

theorem semFree {holder : Nat} (hs : Follows s₀ s) : Follows s₀ (s.semFree holder) := hs.foldl fun _ _ hs => hs.wr.ite hs

theorem oldSettle {x : WTlp} (hs : Follows s₀ s) : Follows s₀ (s.oldSettle x) := hs.setFld.ite hs

theorem hpDown {h : Nat} (hs : Follows s₀ s) : Follows s₀ (s.hpDown h) :=
  ((((((hs.semFree.ite hs).foldl (fun _ _ hs => hs.orphan)).setHport).foldl (fun _ _ hs => hs.oldSettle)).setFld).setFld).setFld

theorem hpLeave {h : Nat} (hs : Follows s₀ s) : Follows s₀ (s.hpLeave h) := hs.hpDown.raise

theorem hpTo {h st : Nat} (hs : Follows s₀ s) : Follows s₀ (s.hpTo h st) := hs.setFld.setHport

theorem hpTakeDown {h : Nat} (hs : Follows s₀ s) : Follows s₀ (s.hpTakeDown h) := hs.emit.hpLeave.hpTo.ite hs

theorem hpWake {h : Nat} (hs : Follows s₀ s) : Follows s₀ (s.hpWake h) := hs.foldl fun _ _ hs => hs.fnWake

theorem hpSetReady {h : Nat} (hs : Follows s₀ s) : Follows s₀ (s.hpSetReady h) := hs.reject.ite hs.setFld.hpWake

theorem poolSize {h : Nat} (hs : Follows s₀ s) : Follows s₀ (s.poolSize h) := hs.setFld

theorem bmeClear {f : Nat} (hs : Follows s₀ s) : Follows s₀ (s.bmeClear f) := hs.setFld.setFn.ite hs

theorem fnFlow {f : Nat} (hs : Follows s₀ s) : Follows s₀ (s.fnFlow f) := by
  unfold State.fnFlow
  refine ite ?_ hs
  dsimp only
  split
  · exact hs.flushPosts
  · exact hs.flushPosts.handRx

theorem bmeSet {f : Nat} (hs : Follows s₀ s) : Follows s₀ (s.bmeSet f) := hs.ite hs.setFld.setFld.fnFlow

theorem bmeExpire {f : Nat} (hs : Follows s₀ s) : Follows s₀ (s.bmeExpire f) := by
  unfold State.bmeExpire
  refine hs.ite ((setFld ?_).raise)
  dsimp only
  split
  · exact hs
  · exact hs.setHport.bump

theorem vfWrite {h : Nat} {on : Bool} {n : Nat} (hs : Follows s₀ s) : Follows s₀ (s.vfWrite h on n) :=
  ((hs.setFn.foldl (fun _ _ hs => hs.flrOne.ite hs)).hpWake).ite (((hs.setFn.foldl (fun _ _ hs => hs.flrOne.ite hs)).hpWake).raise)

theorem slotWrite {f w sl n v : Nat} (hs : Follows s₀ s) : Follows s₀ (s.slotWrite f w sl n v) := by
  unfold State.slotWrite
  refine hs.reject.ite ?_
  split
  · exact hs.wr
  · exact hs
  · exact hs.wr

theorem winCommit {f w : Nat} (hs : Follows s₀ s) : Follows s₀ (s.winCommit f w) := hs.setFld.ite hs.reject

theorem winRefuse {h f w : Nat} {read : Bool} {st : Nat} (hs : Follows s₀ s) : Follows s₀ (s.winRefuse h f w read st) :=
  hs.bump32.bump.emit.emit.ite hs.bump32.bump.emit

theorem winRead {f mps bad n a len i : Nat} {e : Ecc} (hs : Follows s₀ s) : Follows s₀ (s.winRead f mps e bad n a len i) := by
  induction n generalizing s a len i with
  | zero => exact hs
  | succ n ih =>
    unfold State.winRead
    exact hs.ite (ih hs.memRead.emit)

theorem winRun {h : Nat} {x : WTlp} {e : Ecc} {bad : Nat} (hs : Follows s₀ s) : Follows s₀ (s.winRun h x e bad) := by
  unfold State.winRun
  split
  · exact hs.memWrite.ite hs.memRefuse.winRefuse
  · exact hs.winRead.ite hs.memRefuse.winRefuse

theorem winDrain {h bad n : Nat} {e : Ecc} (hs : Follows s₀ s) : Follows s₀ (s.winDrain h e bad n) := by
  induction n generalizing s with
  | zero => exact hs
  | succ n ih =>
    unfold State.winDrain
    split
    · exact hs
    · exact hs.ite (ih hs.setHport.winRun.oldSettle)

theorem poisoned {h f : Nat} (hs : Follows s₀ s) : Follows s₀ (s.poisoned h f) := hs.bump.emit.raise

theorem fnFreeze {f : Nat} (hs : Follows s₀ s) (e : s.fnFreeze f = some t) : Follows s₀ t := by
  unfold State.fnFreeze at e
  split at e
  · cases e
  rw [← Option.some.inj e]
  refine fnTo (setTfn (hs.foldl fun t h ht => ht.setHport.foldl fun u x hu => ?_))
  dsimp only
  split
  · split
    · exact hu
    · exact hu.setTq
  · split
    · exact hu
    · exact hu.setTq
  · exact hu

theorem fnThaw {f : Nat} (hs : Follows s₀ s) (e : s.fnThaw f = some t) : Follows s₀ t := by
  unfold State.fnThaw at e
  split_ifs at e
  cases e
  exact hs.setFld.fnTo.setSvc.foldl fun _ _ hs => hs.bellsAct

/-! ### PwrOps -/

theorem setPw {g : PwrSt → PwrSt} (hs : Follows s₀ s) : Follows s₀ (s.setPw g) := hs.beside

theorem setUnit {u st : Nat} (hs : Follows s₀ s) : Follows s₀ (s.setUnit u st) := hs.setPw

theorem wakeUnit {u : Nat} (hs : Follows s₀ s) : Follows s₀ (s.wakeUnit u) := hs.ite hs.setPw

theorem idleFrom {p : Nat → Bool} (hs : Follows s₀ s) : Follows s₀ (s.idleFrom p) := hs.foldl fun _ _ hs => hs.setPw

theorem unitsBusy (hs : Follows s₀ s) : Follows s₀ s.unitsBusy := hs.idleFrom.ite hs

theorem pwrGo {t : Nat} (hs : Follows s₀ s) : Follows s₀ (s.pwrGo t) :=
  ((((hs.setFld.ite hs.setFld.idleFrom.setFld.raise).setFld).lanePower).foldl (fun _ _ hs => hs.wakeUnit)).ite
    (((hs.setFld.ite hs.setFld.idleFrom.setFld.raise).setFld).lanePower)

theorem wakeSource {i : Nat} {h : Nat} (hs : Follows s₀ s) : Follows s₀ (s.wakeSource i h) :=
  (hs.setFld.setPw.setFld.ite hs.setFld.setPw).ite hs

theorem leaveStandby (hs : Follows s₀ s) : Follows s₀ s.leaveStandby := hs.setPw.pwrGo.raise.pwrGo.ite hs.setPw.pwrGo.raise

theorem targetWrite {q : Req} {t : Nat} (hs : Follows s₀ s) : Follows s₀ (s.targetWrite q t) :=
  ((hs.setFld.ite hs.setFld.setFld).ite hs.reject).ite ((hs.setFld.wakeSource.ite hs.setFld).ite hs.setFld.pwrGo)

theorem calUnits {l : List Nat} (hs : Follows s₀ s) : Follows s₀ (s.calUnits l) :=
  hs.setFld.setFld.ite (hs.setFld.setFld.foldl (fun _ _ hs => hs.wakeUnit.ite hs))

theorem calEvaluate (hs : Follows s₀ s) : Follows s₀ s.calEvaluate :=
  hs.setPw.calUnits.ite (hs.ite (hs.setPw.calUnits.foldl (fun _ _ hs => hs.raise.wakeSource)))

theorem tempSet {n : Nat} {v : Nat} (hs : Follows s₀ s) : Follows s₀ (s.tempSet n v) :=
  (((((((hs.setFld.setFld.ite hs.setFld).setPw).ite (hs.setFld.setFld.ite hs.setFld)).setPw).ite
    (((hs.setFld.setFld.ite hs.setFld).setPw).ite (hs.setFld.setFld.ite hs.setFld))).setPw).raise).ite
    ((((((hs.setFld.setFld.ite hs.setFld).setPw).ite (hs.setFld.setFld.ite hs.setFld)).setPw).ite
    (((hs.setFld.setFld.ite hs.setFld).setPw).ite (hs.setFld.setFld.ite hs.setFld))).setPw)

theorem sentinel {i v : Nat} (hs : Follows s₀ s) : Follows s₀ (s.sentinel i v) := by
  unfold State.sentinel
  dsimp only
  split
  · exact hs.setFld.setFld.raise.ite hs.setFld
  · exact (((hs.setFld.setFld.raise.ite hs.setFld).setFld).raise).ite (hs.setFld.setFld.raise.ite hs.setFld)

theorem sentinels {l : List Nat} (hs : Follows s₀ s) : Follows s₀ (s.sentinels l) := (hs.foldl (fun _ _ hs => hs.sentinel)).setPw

/-! ### Hif -/

theorem perstOn {h : Nat} (hs : Follows s₀ s) : Follows s₀ (s.perstOn h) := hs.ite (((hs.hpLeave.ite hs).hpTo).setFld)

theorem perstOff {h : Nat} (hs : Follows s₀ s) : Follows s₀ (s.perstOff h) := hs.ite (hs.setFld.wakeSource.hpTo.ite hs.setFld.wakeSource)

theorem refclkOn {h : Nat} (hs : Follows s₀ s) : Follows s₀ (s.refclkOn h) := hs.ite (hs.setHport.hpTo.ite hs.setHport)

theorem bmeOn {f : Nat} (hs : Follows s₀ s) : Follows s₀ (s.bmeOn f) := hs.ite hs.bmeSet.tailSettle

theorem dlUp {h rate w : Nat} {flit : Bool} (hs : Follows s₀ s) : Follows s₀ (s.dlUp h rate w flit) :=
  hs.ite hs.hpTo.setFld.setFld.setFld.poolSize.raise.hpWake.tailSettle

theorem trainAgain {h : Nat} (hs : Follows s₀ s) : Follows s₀ (s.trainAgain h) := hs.hpTo.ite hs

theorem linkLoss {h : Nat} (hs : Follows s₀ s) : Follows s₀ (s.linkLoss h) := hs.hpLeave.hpTo.ite hs

theorem cfgDo {h f : Nat} {op : CfgOp} (hs : Follows s₀ s) : Follows s₀ (s.cfgDo h f op).2 := by
  unfold State.cfgDo
  split
  · exact hs
  · exact hs
  · exact hs
  · exact hs
  · exact hs
  · exact hs
  · exact hs
  · exact hs
  · exact hs
  · exact hs
  · exact hs.bmeOn.ite hs.bmeClear
  · exact hs.setFn.pair
  · exact hs.setFn.pair
  · exact hs.setFld.setFn.poolSize
  · exact hs.setFn.ite hs
  · exact hs.setFn.vfWrite.ite hs
  · exact hs.setFn.ite hs
  · exact hs.setFn.ite hs
  · exact hs.flr

theorem cfgReq {f : Nat} {op : CfgOp} (hs : Follows s₀ s) : Follows s₀ (s.cfgReq f op) := by
  unfold State.cfgReq
  split
  · exact hs
  · exact hs.emit.ite (hs.emit.ite hs.cfgDo.emit)

theorem windowTlp {f off : Nat} {wr : Option (List Byte)} {len : Nat} {ep : Bool} {e : Ecc} {bad : Nat} {done : Bool} (hs : Follows s₀ s)
  : Follows s₀ (s.windowTlp f off wr len ep e bad done) := by
  unfold State.windowTlp
  split
  · exact hs
  · exact (hs.emit.emit.ite hs.emit).ite (hs.poisoned.ite (hs.winRefuse.ite (hs.setHport.winDrain.ite hs.setHport)))

theorem winFlip {f w : Nat} (hs : Follows s₀ s) : Follows s₀ (s.winFlip f w) := hs.setFld.setFld.setFld.ite hs

theorem oldBusy {f w : Nat} {e : Ecc} {bad : Nat} (hs : Follows s₀ s) : Follows s₀ (s.oldBusy f w e bad) :=
  hs.ite ((hs.foldl (fun _ _ hs => hs.winDrain)).ite ((hs.foldl (fun _ _ hs => hs.winDrain)).setFld))

theorem dmaRequest {h tag : Nat} (hs : Follows s₀ s) : Follows s₀ (s.dmaRequest h tag) := by
  unfold State.dmaRequest
  dsimp only
  split
  · exact hs
  · rename_i e
    split
    · exact hs
    · exact hs.ite (hs.setHport.setFld.emit.bump.fnFlow.ite hs.setHport.setFld.emit)

theorem fetchEnd {h : Nat} {x y : Fetch} (hs : Follows s₀ s) : Follows s₀ (s.fetchEnd h x y) := ((hs.bump.ite hs).setHport).handRx

theorem cplArrive {h tag st : Nat} {ep : Bool} {lower bc : Nat} {data : List Byte} {bad : Bool} (hs : Follows s₀ s) : Follows s₀
  (s.cplArrive h tag st ep lower bc data bad) := by
  unfold State.cplArrive
  refine hs.ite ?_
  split
  · exact hs.bump.emit.raise
  · split
    · exact hs
    · exact (hs.bump.fetchEnd.ite hs.bump).ite (hs.emit.ite (((hs.poisoned.ite hs).fetchEnd).ite ((hs.poisoned.ite hs).fetchEnd)))

theorem cplTimeout {h tag : Nat} (hs : Follows s₀ s) : Follows s₀ (s.cplTimeout h tag) := by
  unfold State.cplTimeout
  split
  · exact hs
  · exact hs.ite hs.fetchEnd.setHport.bump.emit.raise

theorem quarEnd {h tag : Nat} (hs : Follows s₀ s) : Follows s₀ (s.quarEnd h tag) := hs.setHport

theorem flrDone {f : Nat} (hs : Follows s₀ s) : Follows s₀ (s.flrDone f) := hs.leaveReset.ite hs

theorem vfChange {h : Nat} {on : Bool} {n : Nat} (hs : Follows s₀ s) : Follows s₀ (s.vfChange h on n) := hs.vfWrite.ite hs

theorem msixPend {f v : Nat} (hs : Follows s₀ s) : Follows s₀ (s.msixPend f v) := hs.setPba.msixBuild.ite hs

/-! ### Mac -/

theorem portCtrl {p v : Nat} {cut : Bool} (hs : Follows s₀ s) : Follows s₀ (s.portCtrl p v cut) :=
  (((hs.setFld.ite hs.setFld.goLink).ite hs.setFld.linkEval).goLink).ite ((hs.setFld.ite hs.setFld.goLink).ite hs.setFld.linkEval)

theorem portRestart {p : Nat} {cut : Bool} (hs : Follows s₀ s) : Follows s₀ (s.portRestart p cut) := hs.ite hs.goLink

theorem signalLock {p eye : Nat} (hs : Follows s₀ s) : Follows s₀ (s.signalLock p eye) :=
  ((((hs.foldl (fun _ _ hs => hs.wr)).toLink).emit).ite ((hs.foldl (fun _ _ hs => hs.wr)).toLink)).ite hs

theorem anLtDone {p : Nat} {partner : List (BitVec 4 × BitVec 2)} (hs : Follows s₀ s) : Follows s₀ (s.anLtDone p partner) :=
  hs.toLink.ite hs

theorem trainTimeout {p : Nat} (hs : Follows s₀ s) : Follows s₀ (s.trainTimeout p) := hs.raise.toLink.ite hs

theorem alignQualified {p : Nat} (hs : Follows s₀ s) : Follows s₀ (s.alignQualified p) := hs.linkUpNow.ite hs

theorem alignTimeout {p : Nat} (hs : Follows s₀ s) : Follows s₀ (s.alignTimeout p) := hs.toLink.ite hs

theorem faultDetect {p : Nat} {remote cut : Bool} (hs : Follows s₀ s) : Follows s₀ (s.faultDetect p remote cut) :=
  hs.goLink.setFld.raise.ite (hs.setFld.setMac.ite hs)

theorem faultCleared {p : Nat} (hs : Follows s₀ s) : Follows s₀ (s.faultCleared p) := hs.linkUpNow.ite hs

theorem signalLoss {p m : Nat} {sig cut : Bool} (hs : Follows s₀ s) : Follows s₀ (s.signalLoss p m sig cut) :=
  (hs.setFld.goLink.ite hs.setFld).ite hs

theorem toPipe {p : Nat} {f : Frame} (hs : Follows s₀ s) : Follows s₀ (s.toPipe p f) := hs.birth.setPipe.ite hs.bump

theorem rxFrame {p : Nat} {bs : List Byte} {corr unc inv : Nat} (hs : Follows s₀ s) : Follows s₀ (s.rxFrame p bs corr unc inv) := by
  unfold State.rxFrame
  refine hs.ite (hs.stat.ite ?_)
  dsimp only
  split
  · exact hs.bump.bump.bump.rxCapture.stat
  · refine hs.bump.bump.bump.rxCapture.stat.pauseFrame.ite ?_
    split
    · split
      · exact hs.bump.bump.bump.rxCapture.secRx
      · exact hs.bump.bump.bump.rxCapture.secRx.stat
    · refine ((stat ?_).stat).toPipe
      split
      · exact hs.bump.bump.bump.rxCapture.secRx
      · exact hs.bump.bump.bump.rxCapture.secRx.stat

theorem pauseExpire {p k : Nat} (hs : Follows s₀ s) : Follows s₀ (s.pauseExpire p k) := hs.unpause.ite hs

theorem pauseWdFire {p k : Nat} (hs : Follows s₀ s) : Follows s₀ (s.pauseWdFire p k) := hs.setMac.unpause.stat.raise.ite hs

theorem pauseIgnoreEnd {p k : Nat} (hs : Follows s₀ s) : Follows s₀ (s.pauseIgnoreEnd p k) := hs.setMac.fcStat.ite hs

theorem xoffRepeat {p k : Nat} (hs : Follows s₀ s) : Follows s₀ (s.xoffRepeat p k) := hs.setMac.sendPause.ite hs

theorem txStart {p : Nat} (hs : Follows s₀ s) : Follows s₀ (s.txStart p) := by
  unfold State.txStart
  dsimp only
  split
  · exact hs.setMac.startTx.ite hs
  · exact hs

theorem txEnd {p : Nat} (hs : Follows s₀ s) : Follows s₀ (s.txEnd p) := by
  unfold State.txEnd
  split
  · exact hs
  · exact hs.setMac.stat.stat.endCopy.saBoundary.pauseFlush.ite hs

theorem saSel {p v : Nat} (hs : Follows s₀ s) : Follows s₀ (s.saSel p v) :=
  hs.reject.ite (hs.setFld.ite (hs.wr.setMac.setFld.ite (((hs.wr.saStore.ite hs.wr).saLoad).ite (hs.wr.saStore.ite hs.wr))))

theorem setMod {q : Nat} {g : ModSt → ModSt} (hs : Follows s₀ s) : Follows s₀ (s.setMod q g) := hs.setDp

theorem modXferStart {q v : Nat} (hs : Follows s₀ s) : Follows s₀ (s.modXferStart q v) :=
  hs.reject.ite ((hs.wr.setMod.setFld.emit.emit.ite hs.wr.setMod.setFld).emit)

theorem modXferEnd {q result : Nat} {data : List Byte} (hs : Follows s₀ s) : Follows s₀ (s.modXferEnd q result data) := by
  unfold State.modXferEnd
  split
  · exact hs
  · exact (hs.setMod.setFld.ite (hs.setMod.setFld.foldl (fun _ _ hs => hs.wr))).raise

theorem modReset {q : Nat} (hs : Follows s₀ s) : Follows s₀ (s.modReset q) := hs.setMod.emit

theorem modPulses (hs : Follows s₀ s) : Follows s₀ s.modPulses := by
  unfold State.modPulses
  refine hs.foldl ?_
  intro _ _ hs
  split
  · exact hs
  · exact hs.setMod.emit.ite hs

theorem modInsert {q : Nat} (hs : Follows s₀ s) : Follows s₀ (s.modInsert q) := hs.ite hs.setFld.raise

theorem modRemove {q : Nat} (hs : Follows s₀ s) : Follows s₀ (s.modRemove q) := hs.setFld.raise.modXferEnd.ite hs

theorem modInt {q : Nat} {low : Bool} (hs : Follows s₀ s) : Follows s₀ (s.modInt q low) := hs.setFld.raise.ite hs.setFld

/-! ### Mem -/

theorem memDone {r : MemReq} {data : List Byte} {bad : Bool} (hs : Follows s₀ s) : Follows s₀ (s.memDone r data bad) := hs.backlogOf.emit

theorem memFail {r : MemReq} (hs : Follows s₀ s) : Follows s₀ (s.memFail r) := by
  unfold State.memFail
  split
  · exact hs.memDone
  · exact hs.memBytes.memDone

theorem enqueueReq {c : Nat} {r : MemReq} (hs : Follows s₀ s) : Follows s₀ (s.enqueueReq c r) := hs.setCh

theorem memRequest {r : MemReq} (hs : Follows s₀ s) : Follows s₀ (s.memRequest r) := by
  unfold State.memRequest
  refine ite ?_ (hs.ite (hs.backlogOf.bump.memFail.ite ((hs.backlogOf.enqueueReq.ite hs).ite (hs.backlogOf.setCh.setFld.bump.ite hs))))
  dsimp only
  split
  · exact hs.memRefuse.emit
  · exact hs.memRefuse.memBytes.emit

theorem refillQueue {c : Nat} (hs : Follows s₀ s) : Follows s₀ (s.refillQueue c) := hs.ite hs.setCh.setFld

theorem dropReq {c i : Nat} {r : MemReq} (hs : Follows s₀ s) : Follows s₀ (s.dropReq c i r) := hs.setCh.refillQueue

theorem memComplete {c i : Nat} {e : Ecc} (hs : Follows s₀ s) : Follows s₀ (s.memComplete c i e) := by
  unfold State.memComplete
  split
  · exact hs
  · rename_i e
    refine hs.ite ?_
    split
    · exact hs.dropReq.mciWrite.memDone
    · exact hs.dropReq.mciRead.memDone

theorem passEnd {c rd wr : Nat} (hs : Follows s₀ s) : Follows s₀ (s.passEnd c rd wr) := hs.wr.bump.raise.ite hs.wr.bump

theorem edcMismatch {c i rd wr : Nat} (hs : Follows s₀ s) : Follows s₀ (s.edcMismatch c i rd wr) := by
  unfold State.edcMismatch
  split
  · exact hs
  · exact hs.ite (hs.setCh.bump.ite (hs.bump.passEnd.setCh.bump.ite
      (hs.setFld.raise.setCh.memFail.setCh.setFld.foldl (fun _ _ hs => hs.bump.memFail))))

theorem panicLong {p : Nat} (hs : Follows s₀ s) : Follows s₀ (s.panicLong p) := by
  unfold State.panicLong
  split
  · exact hs.besideBytes.raise.ite hs
  · exact hs

theorem setDebt {c b v : Nat} (hs : Follows s₀ s) : Follows s₀ (s.setDebt c b v) := hs.setCh

theorem closeRow {c b : Nat} (hs : Follows s₀ s) : Follows s₀ (s.closeRow c b) := hs.setCh

theorem refiTick {c : Nat} (hs : Follows s₀ s) : Follows s₀ (s.refiTick c) :=
  hs.ite (hs.setCh.foldl (fun _ _ hs => hs.setDebt.closeRow.bump.ite hs.setDebt))

theorem refreshIssue {c b : Nat} (hs : Follows s₀ s) : Follows s₀ (s.refreshIssue c b) := hs.ite hs.setDebt.closeRow

theorem sleepCh {c : Nat} (hs : Follows s₀ s) : Follows s₀ (s.sleepCh c) := hs.setFld.setCh

theorem wakeCh {c : Nat} (hs : Follows s₀ s) : Follows s₀ (s.wakeCh c) := hs.setFld.setCh

theorem selfRefreshEnter {c : Nat} (hs : Follows s₀ s) : Follows s₀ (s.selfRefreshEnter c) := hs.sleepCh.ite hs

theorem selfRefreshExit {c : Nat} (hs : Follows s₀ s) : Follows s₀ (s.selfRefreshExit c) := by
  unfold State.selfRefreshExit
  split
  · exact hs
  · exact hs.wakeCh.ite hs

theorem tempReport {c : Nat} {hot : Bool} (hs : Follows s₀ s) : Follows s₀ (s.tempReport c hot) := hs.setFld.raise.ite hs.setFld

theorem runSlice {c rd wr : Nat} (hs : Follows s₀ s) : Follows s₀ (s.runSlice c rd wr) := hs.setCh.passEnd.ite hs.setCh

theorem retrainSlice {c rd wr : Nat} (hs : Follows s₀ s) : Follows s₀ (s.retrainSlice c rd wr) := hs.runSlice.ite hs

theorem retrainForced {c rd wr : Nat} (hs : Follows s₀ s) : Follows s₀ (s.retrainForced c rd wr) := hs.bump.runSlice.ite hs

theorem chQuiesce {c : Nat} (hs : Follows s₀ s) : Follows s₀ (s.chQuiesce c) := hs.toCh.setCh.ite hs

theorem chQuiesced {c : Nat} (hs : Follows s₀ s) : Follows s₀ (s.chQuiesced c) := hs.toCh.sleepCh.ite hs

theorem chQuiesceTimeout {c : Nat} (hs : Follows s₀ s) : Follows s₀ (s.chQuiesceTimeout c) := hs.setCh.raise.ite hs

theorem chTrain {c : Nat} (hs : Follows s₀ s) : Follows s₀ (s.chTrain c) := hs.toCh.wakeCh.ite hs.reject

theorem chTrainEnd {c : Nat} {pass : Bool} {rd wr : Nat} (hs : Follows s₀ s) : Follows s₀ (s.chTrainEnd c pass rd wr) :=
  (hs.toCh.sleepCh.wr.setFld.setFld.ite hs.toCh.sleepCh.wr.setFld.raise).ite hs

theorem chResume {c : Nat} (hs : Follows s₀ s) : Follows s₀ (s.chResume c) := hs.reject.ite (hs.toCh.wakeCh.setCh.refillQueue.ite hs)

theorem chToReset {c : Nat} (hs : Follows s₀ s) : Follows s₀ (s.chToReset c) := hs.toCh.sleepCh.setFld

theorem chReset {c : Nat} (hs : Follows s₀ s) : Follows s₀ (s.chReset c) := hs.chToReset.ite hs.reject

theorem chCtrl {c w : Nat} (hs : Follows s₀ s) : Follows s₀ (s.chCtrl c w) :=
  hs.chReset.ite (hs.chResume.ite (hs.chQuiesce.ite (hs.chTrain.ite hs)))

theorem holdExpire {c : Nat} (hs : Follows s₀ s) : Follows s₀ (s.holdExpire c) := by
  unfold State.holdExpire
  split
  · exact hs
  · exact hs.setCh.raise.ite hs

theorem initStart (hs : Follows s₀ s) : Follows s₀ s.initStart := hs.ite (hs.setFld.ite (hs.setFld.ite hs.setFld.setFld.besideBytes))

theorem initEnd (hs : Follows s₀ s) : Follows s₀ s.initEnd := by
  unfold State.initEnd
  split
  · exact hs
  · exact hs.zeroRange.besideBytes.setFld.raise.ite hs

/-! ### Rpl -/

theorem crumbDrain {c : Nat} (hs : Follows s₀ s) : Follows s₀ (s.crumbDrain c) := by
  unfold State.crumbDrain
  dsimp only
  split
  · exact hs
  · exact hs.ite (((((((hs.memWrite.ite hs.memRefuse).setCap).setFld).setCnt).setCnt).bump).capView)

theorem crumbGap {c : Nat} (hs : Follows s₀ s) : Follows s₀ (s.crumbGap c) := hs.chainGapCrumb.ite hs

theorem lossEnd {c : Nat} (hs : Follows s₀ s) : Follows s₀ (s.lossEnd c) := ((hs.setCap.ite hs).crumbGap).ite hs

theorem rplFreeze {c : Nat} (hs : Follows s₀ s) : Follows s₀ (s.rplFreeze c) := by
  unfold State.rplFreeze
  exact hs.setFld.setFld.setCap

theorem rplUnfreeze {c : Nat} (hs : Follows s₀ s) : Follows s₀ (s.rplUnfreeze c) := hs.setFld.setFld.lossEnd.ite hs

theorem ckptTimer {c : Nat} (hs : Follows s₀ s) : Follows s₀ (s.ckptTimer c) := hs.takeCkpt.ite hs

theorem ckptReq {c : Nat} (hs : Follows s₀ s) : Follows s₀ (s.ckptReq c) := hs.bump.ite hs.takeCkpt

theorem ckptDone {c : Nat} (hs : Follows s₀ s) : Follows s₀ (s.ckptDone c) := by
  unfold State.ckptDone
  split
  · exact hs
  · exact hs.ite (((((((hs.memWrite.ite hs.memRefuse).setCap).setFld).bump).capView).takeCkpt).ite
      (((((hs.memWrite.ite hs.memRefuse).setCap).setFld).bump).capView))

theorem rpRestore {c a : Nat} (hs : Follows s₀ s) : Follows s₀ (s.rpRestore c a) := by
  unfold State.rpRestore
  exact ((hs.foldl (fun _ _ hs => hs.setThr)).foldl (fun _ _ hs => hs.putSlot.putSlot.setEng)).setClu

theorem rplStart {v : Nat} {host : List Crumb} (hs : Follows s₀ s) : Follows s₀ (s.rplStart v host) :=
  hs.ite (hs.setFld.setFld.wr.ite hs.setFld.setFld.wr.wr.wr.setBlk.flushIq.voidCluster.rpRestore.setCnt.feed.beside)

theorem feedOn {host : List Crumb} (hs : Follows s₀ s) : Follows s₀ (s.feedOn host) := hs.feed

theorem replayEnd (hs : Follows s₀ s) : Follows s₀ s.replayEnd := by
  unfold State.replayEnd
  split
  · exact hs
  · rename_i e
    refine hs.ite ?_
    split
    · exact hs.rpEnd
    · refine ite ?_ ?_
      · split
        · exact hs.diverge
        · exact hs.diverge
        · exact hs.rpEnd
      · split
        · exact hs
        · exact hs.diverge

theorem replayStuck (hs : Follows s₀ s) : Follows s₀ s.replayStuck := by
  unfold State.replayStuck
  split
  · exact hs
  · exact hs.diverge.ite hs

/-! ### Mat -/

theorem oldLevel {n : Nat} (hs : Follows s₀ s) : Follows s₀ (s.oldLevel n) := hs.setFld

theorem passZero {n : Nat} {f : Frame} (hs : Follows s₀ s) : Follows s₀ (s.passZero n f) := hs.ingressPass.oldLevel

theorem ingressSlot {n : Nat} (hs : Follows s₀ s) : Follows s₀ (s.ingressSlot n) := by
  unfold State.ingressSlot
  refine hs.ite ?_
  split
  · exact hs
  · exact hs.setPipe.passZero

theorem recircSlot {n : Nat} (hs : Follows s₀ s) : Follows s₀ (s.recircSlot n) := by
  unfold State.recircSlot
  refine hs.ite ?_
  split
  · exact hs.setPipe.recircLevel.ingressPass.oldLevel
  · exact hs

theorem injectSlot {n : Nat} (hs : Follows s₀ s) : Follows s₀ (s.injectSlot n) := by
  unfold State.injectSlot
  refine hs.ite ?_
  split
  · exact hs
  · exact hs.setPipe.passZero
  · exact hs.setPipe.passZero
  · exact hs.setPipe.passZero

theorem egressSlot {n : Nat} (hs : Follows s₀ s) : Follows s₀ (s.egressSlot n) := by
  unfold State.egressSlot
  refine hs.ite ?_
  split
  · exact hs
  · exact hs.setPipe.egressPass

theorem swapDone {n : Nat} (hs : Follows s₀ s) : Follows s₀ (s.swapDone n) := hs.raise

theorem swapIn {n : Nat} (hs : Follows s₀ s) : Follows s₀ (s.swapIn n) :=
  hs.setFld.setFld.setFld.setFld.setFld.setFld.oldLevel.epochCrumb.swapDone.ite
    hs.setFld.setFld.setFld.setFld.setFld.setFld.oldLevel.epochCrumb

theorem swapEg {n : Nat} (hs : Follows s₀ s) : Follows s₀ (s.swapEg n) :=
  hs.setFld.setFld.setFld.epochCrumb.swapDone.ite hs.setFld.setFld.setFld.epochCrumb

theorem matSwap {n v : Nat} (hs : Follows s₀ s) : Follows s₀ (s.matSwap n v) :=
  hs.reject.ite (((hs.swapIn.ite hs).swapEg).ite (hs.swapIn.ite hs))

theorem swapRetire {n : Nat} {eg : Bool} (hs : Follows s₀ s) : Follows s₀ (s.swapRetire n eg) :=
  (hs.setFld.swapDone.ite hs).ite (hs.setFld.setFld.setFld.swapDone.ite hs)

theorem setScrub {k : Nat} {x : ScrubSt} (hs : Follows s₀ s) : Follows s₀ (s.setScrub k x) := hs.setDp

theorem scrubStep {k n period : Nat} (hs : Follows s₀ s) : Follows s₀ (s.scrubStep k n period) := hs.setScrub

theorem spoil {a : Nat} (hs : Follows s₀ s) : Follows s₀ (s.spoil a) := hs.ite hs.setDp

theorem prsScrub {n : Nat} {upset : Option Nat} (hs : Follows s₀ s) : Follows s₀ (s.prsScrub n upset) := by
  unfold State.prsScrub
  refine (((scrubStep ?_).raiseAt).ite (scrubStep ?_)).ite ?_
  · split
    · exact hs.spoil.ite hs
    · exact hs
  · split
    · exact hs.spoil.ite hs
    · exact hs
  · split
    · exact hs.spoil.ite hs
    · exact hs

theorem matScrub {n : Nat} {upset : Option Nat} (hs : Follows s₀ s) : Follows s₀ (s.matScrub n upset) := by
  unfold State.matScrub
  refine (((scrubStep ?_).matBad).ite (scrubStep ?_)).ite ?_
  · split
    · exact hs.spoil.ite hs
    · exact hs
  · split
    · exact hs.spoil.ite hs
    · exact hs
  · split
    · exact hs.spoil.ite hs
    · exact hs

theorem scrubHit {m i : Nat} (hs : Follows s₀ s) : Follows s₀ (s.scrubHit m i) := hs.fwdParity

theorem fwdUpset {upset : Option Upset} (hs : Follows s₀ s) : Follows s₀ (s.fwdUpset upset) := by
  unfold State.fwdUpset
  split
  · exact hs.setFwd
  · exact hs.setFwd
  · exact hs

theorem trieScrub {k : Nat × Nat × Nat × Nat} (hs : Follows s₀ s) : Follows s₀ (s.trieScrub k) := hs.fwdParity.ite hs

theorem fwdScrub {one two : Option Upset} (hs : Follows s₀ s) : Follows s₀ (s.fwdScrub one two) := by
  unfold State.fwdScrub
  refine hs.fwdUpset.fwdUpset.ite ((((hs.fwdUpset.fwdUpset.scrubStep.scrubHit.ite hs.fwdUpset.fwdUpset.scrubStep).ite ?_).foldl
    (fun _ _ hs => hs.recount)).ite ((hs.fwdUpset.fwdUpset.scrubStep.scrubHit.ite hs.fwdUpset.fwdUpset.scrubStep).ite ?_))
  · split
    · exact hs.fwdUpset.fwdUpset.scrubStep
    · exact hs.fwdUpset.fwdUpset.scrubStep.trieScrub
  · split
    · exact hs.fwdUpset.fwdUpset.scrubStep
    · exact hs.fwdUpset.fwdUpset.scrubStep.trieScrub

/-! ### Sch -/

theorem leaveList {p q : Nat} {tail : Bool} (hs : Follows s₀ s) : Follows s₀ (s.leaveList p q tail) := hs.setSch

theorem takeCopy {p q i : Nat} {c : Copy} (hs : Follows s₀ s) : Follows s₀ (s.takeCopy p q i c) :=
  ((((hs.settleCredit.setPq.spillFlag.ite hs.settleCredit.setPq.setFld).leaveList).setPq).ite
    (hs.settleCredit.setPq.spillFlag.ite hs.settleCredit.setPq.setFld)).fcRelease

theorem noteFit {p : Nat} (hs : Follows s₀ s) : Follows s₀ (s.noteFit p) := by
  unfold State.noteFit
  refine hs.foldl ?_
  intro _ _ hs
  split
  · exact hs
  · exact hs.ite (hs.setPq.ite hs.setPq)

theorem drr {p n : Nat} {el : List Nat} (hs : Follows s₀ s) : Follows s₀ (State.drr p el n s).2 := by
  induction n generalizing s with
  | zero => exact hs
  | succ n ih =>
    unfold State.drr
    split
    · exact hs
    · refine ite_snd (ih hs.leaveList) ?_
      extract_lets s₁ need
      have h₁ : Follows s₀ s₁ := hs.ite hs.setPq.setSch
      clear_value s₁
      exact h₁.setPq.pair.ite_snd (ih h₁.leaveList)

theorem chargeShaper {p q n : Nat} (hs : Follows s₀ s) : Follows s₀ (s.chargeShaper p q n) := hs.ite hs.setPq

theorem dequeue {p q : Nat} (hs : Follows s₀ s) : Follows s₀ (s.dequeue p q) := by
  unfold State.dequeue
  split
  · exact hs
  · exact hs.settleCredit.chargeShaper.takeCopy.bump.bump.setPipe

theorem flushHead {p q : Nat} (hs : Follows s₀ s) : Follows s₀ (s.flushHead p q) := by
  unfold State.flushHead
  split
  · exact hs
  · exact hs.takeCopy.bump.dropFlag.stat.loseCopy

theorem schDequeue {p : Nat} (hs : Follows s₀ s) : Follows s₀ (s.schDequeue p) := by
  unfold State.schDequeue
  refine hs.ite (ite ?_ (hs.ite ?_))
  · split
    · exact hs
    · exact hs.flushHead
  · dsimp only
    split
    · exact ((hs.foldl (fun _ _ hs => hs.settleCredit)).noteFit).dequeue
    · refine ((hs.foldl (fun _ _ hs => hs.settleCredit)).noteFit).ite ?_
      split
      · exact ((hs.foldl (fun _ _ hs => hs.settleCredit)).noteFit).drr
      · exact (((hs.foldl (fun _ _ hs => hs.settleCredit)).noteFit).drr).dequeue

theorem deepRefill {p q : Nat} {bad : Bool} (hs : Follows s₀ s) : Follows s₀ (s.deepRefill p q bad) := by
  unfold State.deepRefill
  dsimp only
  split
  · exact hs
  · rename_i e
    split
    · exact hs
    · exact hs.ite (hs.deepRead.takeCopy.bump.dropFlag.loseCopy.ite hs.deepRead.setPq.spillFlag)

theorem fitDiscard {p q : Nat} (hs : Follows s₀ s) : Follows s₀ (s.fitDiscard p q) := by
  unfold State.fitDiscard
  split
  · exact hs.takeCopy.bump.dropFlag.loseCopy.ite hs
  · exact hs

theorem gateEdge {p : Nat} (hs : Follows s₀ s) : Follows s₀ (s.gateEdge p) := hs.settlePort.setOrb

theorem orbTakeover {p : Nat} (hs : Follows s₀ s) : Follows s₀ (s.orbTakeover p) := hs.settlePort.setFld.setOrb.setOrb.raise.ite hs

theorem polStore {k : Nat} (hs : Follows s₀ s) : Follows s₀ (s.polStore k) := hs.setPol

theorem polLoad {k : Nat} (hs : Follows s₀ s) : Follows s₀ (s.polLoad k) := ((((hs.setPol.foldl (fun _ _ hs => hs.wr)).wr).wr).wr).wr

theorem polSel {v : Nat} (hs : Follows s₀ s) : Follows s₀ (s.polSel v) :=
  hs.reject.ite (hs.reject.ite ((((((hs.wr.polStore.ite hs.wr).polLoad).ite (hs.wr.polStore.ite hs.wr)).draw).setSch).ite
    (((hs.wr.polStore.ite hs.wr).polLoad).ite (hs.wr.polStore.ite hs.wr))))

/-! ### SeqPrf -/

theorem seqAdmitNow (hs : Follows s₀ s) : Follows s₀ s.seqAdmitNow := by
  unfold State.seqAdmitNow
  refine hs.ite ?_
  split
  · exact hs
  · exact hs.seqAdmit

theorem seqEmitNow (hs : Follows s₀ s) : Follows s₀ s.seqEmitNow := by
  unfold State.seqEmitNow
  refine hs.ite ?_
  split
  · exact hs
  · exact hs.seqNumber

theorem prfFetch {p : Nat} (hs : Follows s₀ s) : Follows s₀ (s.prfFetch p) := by
  unfold State.prfFetch
  split
  · exact hs
  · exact hs.ite (hs.dropHeld.stat.leaveGroup.endCopy.ite (hs.ite hs.deepRead.setHeld))

theorem prfError {p : Nat} {i : Instant} (hs : Follows s₀ s) : Follows s₀ (s.prfError p i) := by
  unfold State.prfError
  split
  · exact hs
  · exact hs.wr

theorem prfRelease {p : Nat} (hs : Follows s₀ s) : Follows s₀ (s.prfRelease p) := by
  unfold State.prfRelease
  split
  · exact hs
  · exact hs.ite (hs.dropHeld.prfLinkDown.ite (hs.dropHeld.prfMiss.ite (hs.ite hs.dropHeld.bump.leaveGroup.startTx.prfError.setMac)))

theorem prfGroupTimeout (hs : Follows s₀ s) : Follows s₀ s.prfGroupTimeout := by
  unfold State.prfGroupTimeout
  dsimp only
  split
  · exact hs
  · exact hs.fixGroup.raise

theorem prfCalWrite {p : Nat} (hs : Follows s₀ s) : Follows s₀ (s.prfCalWrite p) := hs.ite hs.prfCalStart

theorem prfCalDone {p : Nat} (hs : Follows s₀ s) : Follows s₀ (s.prfCalDone p) := hs.setPrf.setFld.wr.raise.ite hs

/-! ### Svc -/

theorem svcTake {x : Copy} {fate : Fate} (hs : Follows s₀ s) : Follows s₀ (s.svcTake x fate) := hs.takeWaiting.setFld

theorem svcDiscard {x : Copy} (hs : Follows s₀ s) : Follows s₀ (s.svcDiscard x) := hs.svcTake.setSvc

theorem svcSet {x : SpSet} (hs : Follows s₀ s) : Follows s₀ (s.svcSet x).2 := by
  unfold State.svcSet
  split
  · exact hs.setSvc.pair.ite_snd hs
  · exact hs.ite_snd hs.setSvc.pair
  · exact hs.setSvc.pair
  · exact hs.ite_snd hs.setSvc.pair
  · exact hs.ite_snd hs.setSvc.pair

theorem svcSets {l : List SpSet} (hs : Follows s₀ s) : Follows s₀ (s.svcSets l) :=
  hs.ite ((hs.foldl_snd (fun _ _ hs => hs.svcSet.pair)).setSvc)

theorem timeExceeded {c : Nat} {bs : List Byte} (hs : Follows s₀ s) : Follows s₀ (s.timeExceeded c bs) := by
  unfold State.timeExceeded
  split
  · exact hs
  · exact hs.draw.svcEmit.ite hs.draw.svcEmit

theorem slowIcmp {c : Nat} {x : Copy} (hs : Follows s₀ s) : Follows s₀ (s.slowIcmp c x) := hs.svcTake.setSvc.timeExceeded.ite hs.svcTake

theorem reasmDrop {r : Reasm} (hs : Follows s₀ s) : Follows s₀ (s.reasmDrop r) := hs.setSvc

theorem reasmEmit {r : Reasm} {ip total : Nat} (hs : Follows s₀ s) : Follows s₀ (s.reasmEmit r ip total) := by
  unfold State.reasmEmit
  exact hs.setSvc.birth.setPipe

theorem slowFrag {c : Nat} {x : Copy} (hs : Follows s₀ s) : Follows s₀ (s.slowFrag c x) := by
  unfold State.slowFrag
  split
  · exact hs.svcDiscard
  · rename_i e
    split
    · exact hs.svcDiscard.setSvc
    · refine hs.svcDiscard.reasmDrop.ite ?_
      dsimp only
      split
      · exact hs.svcTake.setSvc.reasmEmit.ite hs.svcTake.setSvc
      · exact hs.svcTake.setSvc

theorem slowHandle {c q : Nat} (hs : Follows s₀ s) : Follows s₀ (s.slowHandle c q) := by
  unfold State.slowHandle
  split
  · exact hs
  · rename_i e
    refine hs.ite ?_
    split
    · exact hs.svcTake.birth.poolWrite.enqueueAll.ite hs.svcTake.birth.poolWrite
    · exact hs.slowFrag
    · exact hs.slowIcmp
    · exact hs
    · exact hs.svcDiscard

theorem reasmLate (hs : Follows s₀ s) : Follows s₀ s.reasmLate := by
  unfold State.reasmLate
  split
  · exact hs
  · exact hs.reasmDrop

theorem tcpAccept {c : Nat} {x : Copy} {g : TcpSeg} (hs : Follows s₀ s) : Follows s₀ (s.tcpAccept c x g) := by
  unfold State.tcpAccept
  split
  · rename_i e
    refine hs.svcDiscard.ite ?_
    dsimp only
    split
    · exact hs
    · exact hs.svcDiscard
    · rename_i e3
      refine tcpOut ?_
      split
      · exact ((((((hs.ite_snd hs.pickHome).ctxAlloc e3).draw).svcTake).setCtx).setTq).ite
          (((((hs.ite_snd hs.pickHome).ctxAlloc e3).draw).svcTake).setCtx)
      · exact ((((hs.ite_snd hs.pickHome).ctxAlloc e3).draw).svcTake).setCtx
  · exact hs.svcDiscard

theorem tcpFrame {c q : Nat} {e : Ecc} (hs : Follows s₀ s) : Follows s₀ (s.tcpFrame c q e) := by
  unfold State.tcpFrame
  split
  · exact hs
  · rename_i e
    refine hs.ite ?_
    split
    · exact hs
    · split
      · exact hs.tcpAccept
      · split
        · exact hs
        · rename_i e5
          exact ((hs.ctxTouch e5).svcDiscard).ite (((hs.ctxTouch e5).svcTake).tcpRx)

theorem tcpGiveUp {id : Nat} (hs : Follows s₀ s) : Follows s₀ (s.tcpGiveUp id) := hs.setCtx.svcErr.ite hs.setCtx.svcFail

theorem tcpAgain {id : Nat} (hs : Follows s₀ s) : Follows s₀ (s.tcpAgain id) := hs.tcpData1.ite hs.setCtx.tcpResend

theorem tcpRetry {id : Nat} (hs : Follows s₀ s) : Follows s₀ (s.tcpRetry id) := by
  unfold State.tcpRetry
  refine hs.ite ?_
  split
  · exact hs
  · rename_i e2
    exact (hs.ctxTouch e2).ite (((hs.ctxTouch e2).tcpGiveUp).ite ((hs.ctxTouch e2).tcpAgain))

theorem tcpKeep {id : Nat} (hs : Follows s₀ s) : Follows s₀ (s.tcpKeep id) := by
  unfold State.tcpKeep
  refine hs.ite ?_
  split
  · exact hs
  · rename_i e2
    exact (hs.ctxTouch e2).ite (((hs.ctxTouch e2).tcpGiveUp).ite (((hs.ctxTouch e2).setCtx).tcpOut))

theorem tlsGo {id : Nat} {e : Ecc} (hs : Follows s₀ s) : Follows s₀ (s.tlsGo id e) := by
  unfold State.tlsGo
  refine hs.ite ?_
  split
  · exact hs
  · rename_i e2
    exact ((hs.ctxPair e2).tlsRx).ite (hs.ctxPair e2)

theorem espFrame {c q : Nat} {e : Ecc} (hs : Follows s₀ s) : Follows s₀ (s.espFrame c q e) := by
  unfold State.espFrame
  split
  · exact hs
  · rename_i e
    refine hs.ite ?_
    split
    · split
      · exact hs
      · rename_i e4
        exact ((hs.ctxTouch e4).svcDiscard).ite (((hs.ctxTouch e4).svcTake).espRx)
    · exact hs

theorem nvmeGo {id : Nat} {host : List Byte} {e : Ecc} (hs : Follows s₀ s) : Follows s₀ (s.nvmeGo id host e) := by
  unfold State.nvmeGo
  refine hs.ite ?_
  split
  · exact hs
  · rename_i e2
    exact ((hs.ctxPair e2).nvmeRx).ite (hs.ctxPair e2)

/-! ### Tail -/

theorem linkNsExpire (hs : Follows s₀ s) : Follows s₀ s.linkNsExpire := hs.closeLink.ite hs

theorem cpIntervalExpire (hs : Follows s₀ s) : Follows s₀ s.cpIntervalExpire := hs.cpDue.ite hs

theorem cpMaxExpire (hs : Follows s₀ s) : Follows s₀ s.cpMaxExpire := (hs.cpDue.bump.raise.ite hs.cpDue).ite hs

theorem cpReq (hs : Follows s₀ s) : Follows s₀ s.cpReq := hs.cpDue.ite hs

theorem cpDeferredTake (hs : Follows s₀ s) : Follows s₀ s.cpDeferredTake := by
  unfold State.cpDeferredTake
  split
  · exact hs
  · exact hs.takeCp.ite hs

theorem cpSign (hs : Follows s₀ s) : Follows s₀ s.cpSign := hs.setTl.ite hs

theorem cpSignDone (hs : Follows s₀ s) : Follows s₀ s.cpSignDone := by
  unfold State.cpSignDone
  split
  · exact hs
  · exact hs.draw.setTl.place.place.bump.cpRegs.ite hs

theorem ringReadback (hs : Follows s₀ s) : Follows s₀ s.ringReadback := by
  unfold State.ringReadback
  split
  · exact hs
  · rename_i e
    refine ite ?_ hs
    dsimp only
    split
    · exact hs.ringLoad.setTl.setTl.toSink
    · exact hs.ringLoad.setTl.setTl.ringRelease

theorem drainWrite (hs : Follows s₀ s) : Follows s₀ s.drainWrite := by
  unfold State.drainWrite
  dsimp only
  split
  · exact hs
  · exact hs.emit.wr.setTl.ringRelease.tailSettle.ite hs

theorem drainConsWrite {v : Nat} (hs : Follows s₀ s) : Follows s₀ (s.drainConsWrite v) := hs.wr.tailSettle.ite hs.reject

theorem flitSend (hs : Follows s₀ s) : Follows s₀ s.flitSend := by
  unfold State.flitSend
  split
  · exact hs
  · exact hs.setSl.setCnt.sendFlit.tailSettle.ite hs

theorem idleFlitSend (hs : Follows s₀ s) : Follows s₀ s.idleFlitSend := hs.putFlit.ite hs

theorem retLock (hs : Follows s₀ s) : Follows s₀ s.retLock := hs.setFld

theorem strTryActive (hs : Follows s₀ s) : Follows s₀ s.strTryActive := by
  unfold State.strTryActive
  refine ite ?_ hs
  dsimp only
  split
  · exact hs.setStr.setSl.raise
  · exact hs.setStr.setSl.raise.resendFrom

theorem retCredit {v : Nat} (hs : Follows s₀ s) : Follows s₀ (s.retCredit v) :=
  ((((hs.retLock.setCnt.ite hs.retLock).setSl).strTryActive).tailSettle).ite hs.retLock

theorem retNak {v : Nat} (hs : Follows s₀ s) : Follows s₀ (s.retNak v) := hs.retLock.resendFrom.bump.raise.ite hs.retLock

theorem retTrain {n : Nat} (hs : Follows s₀ s) : Follows s₀ (s.retTrain n) :=
  (hs.retLock.setSl.strTryActive.tailSettle.ite (hs.retLock.ite hs.retLock.strTrain)).ite hs.retLock

theorem retRetrain (hs : Follows s₀ s) : Follows s₀ s.retRetrain := hs.retLock.strRetrain.ite hs.retLock

theorem retHealth {st v : Nat} (hs : Follows s₀ s) : Follows s₀ (s.retHealth st v) := hs.retLock.wr

theorem retBad {w : BitVec 64} (hs : Follows s₀ s) : Follows s₀ (s.retBad w) := hs.retLock.bump.ite (hs.retLock.bump.ite hs.retLock)

theorem strAckTimeout (hs : Follows s₀ s) : Follows s₀ s.strAckTimeout := by
  unfold State.strAckTimeout
  split
  · exact hs
  · exact (hs.bump.setSl.strRetrain.ite hs.bump.setSl.resendFrom.setSl.raise).ite hs

theorem strTrainTimeout (hs : Follows s₀ s) : Follows s₀ s.strTrainTimeout := hs.setSl.raise.ite hs

theorem strTrainRestart (hs : Follows s₀ s) : Follows s₀ s.strTrainRestart := hs.strTrain.ite hs

theorem strRetrainWrite (hs : Follows s₀ s) : Follows s₀ s.strRetrainWrite := hs.strRetrain.ite hs

theorem strRefclkLoss (hs : Follows s₀ s) : Follows s₀ s.strRefclkLoss := hs.setFld.strDisable.raise

theorem strTryTrain (hs : Follows s₀ s) : Follows s₀ s.strTryTrain := hs.strTrain.ite hs

theorem retLockLoss (hs : Follows s₀ s) : Follows s₀ s.retLockLoss := hs.setFld.strRetrain.ite hs.setFld

/-! ### MbxOps -/

theorem mbxDeliver {f : Nat} {words : List Word} (hs : Follows s₀ s) : Follows s₀ (s.mbxDeliver f words) :=
  (((hs.foldl (fun _ _ hs => hs.pwr)).pwr).msixTrigger).ite ((hs.foldl (fun _ _ hs => hs.pwr)).pwr)

theorem mbxRefuse {f : Nat} {words : List Word} {st : Nat} (hs : Follows s₀ s) : Follows s₀ (s.mbxRefuse f words st) := hs.mbxDeliver

theorem mbxSend {f : Nat} (hs : Follows s₀ s) : Follows s₀ (s.mbxSend f) :=
  hs.bump.ite (((((hs.foldl (fun _ _ hs => hs.pwr)).mbxRefuse).bump).raise).ite
    (((((hs.foldl (fun _ _ hs => hs.pwr)).setTfn).setFld).setFld).pwr))

/-- The state of an answer to a mailbox request. -/
theorem ans {x : Nat × List Nat} (hs : Follows s₀ s) : Follows s₀ ((s, x) : MbxAns).1 := hs

theorem ite_ans {c : Prop} {_ : Decidable c} {x y : MbxAns} (hx : Follows s₀ x.1) (hy : Follows s₀ y.1) : Follows s₀ (if c then x else y).1 := by
  split
  · exact hx
  · exact hy

/-- Where there is an answer, its state follows: `none` waits. -/
def Served (s₀ : State) (o : Option MbxAns) : Prop := ∀ x, o = some x → Follows s₀ x.1

theorem waits : Served s₀ none := fun _ e => nomatch e

theorem serves {x : MbxAns} (hx : Follows s₀ x.1) : Served s₀ (some x) := fun _ e => Option.some.inj e ▸ hx

theorem ite_served {c : Prop} {_ : Decidable c} {x y : Option MbxAns} (hx : Served s₀ x) (hy : Served s₀ y) : Served s₀ (if c then x else y) := by
  split
  · exact hx
  · exact hy

/-- A mailbox row serves the request that it takes, or waits. -/
theorem mbxServe {who : Sender} {mine : MbxReq → Bool} {k : State → MbxReq → Nat → Option MbxAns} (hs : Follows s₀ s)
    (hk : ∀ q r f, Follows s₀ q → Served s₀ (k q r f)) : Follows s₀ (s.mbxServe who mine k) := by
  unfold State.mbxServe
  split
  · exact hs
  · refine hs.ite ?_
    extract_lets q₁ q₂ allowed
    have h₂ : Follows s₀ q₂ := hs.setTfn.setFld
    clear_value q₂
    split
    · exact h₂.mbxAnswer
    · split
      · exact hs
      · next e => exact (hk _ _ _ h₂ _ e).mbxAnswer

theorem queCreate {r : MbxReq} {f : Nat} {rx : Bool} (hs : Follows s₀ s) : Follows s₀ (s.queCreate r f rx).1 := by
  unfold State.queCreate
  dsimp only
  split
  · exact hs
  · exact hs.ans.ite_ans (hs.ans.ite_ans (hs.ans.ite_ans (hs.draw.ite hs).setTq.queUse.ans))

theorem queDestroy {r : MbxReq} {f : Nat} (hs : Follows s₀ s) : Follows s₀ (s.queDestroy r f).1 := by
  unfold State.queDestroy
  dsimp only
  split
  · exact hs
  · exact hs.ans.ite_ans hs.drainStart.ans

theorem keySlotFree (hs : Follows s₀ s) : Follows s₀ (s.keySlotFree).2 := hs.draw.pair

theorem slotLoad {k attr : Nat} {mat : List Byte} (hs : Follows s₀ s) : Follows s₀ (s.slotLoad k attr mat) := hs.keyOpen.setMat.attrWrite

theorem keyLoad {r : MbxReq} {f : Nat} (hs : Follows s₀ s) : Follows s₀ (s.keyLoad r f).1 := by
  unfold State.keyLoad
  dsimp only
  split
  · exact hs.ans.ite_ans (hs.ans.ite_ans (hs.keySlotFree.slotLoad.keyOpen.ans.ite_ans hs.keySlotFree.slotLoad.setTfn.setFld.ans))
  · exact hs

theorem keyFree {r : MbxReq} {f : Nat} (hs : Follows s₀ s) : Follows s₀ (s.keyFree r f).1 := by
  unfold State.keyFree
  dsimp only
  split
  · exact hs
  · exact hs.keyOpen.setTfn.setFld.ans

theorem sessOpen {f : Nat} {r : OpenReq} (hs : Follows s₀ s) : Served s₀ (s.sessOpen f r) := by
  unfold State.sessOpen
  refine ite_served (serves hs.ans) (ite_served (serves hs.ans) (ite_served (serves hs.ans) ?_))
  dsimp only
  split
  · split
    · exact waits
    · exact serves hs.ans
    · next id u ha =>
      have hu : Follows s₀ u := by
        refine ctxAlloc ?_ ha
        split
        · exact hs
        · exact hs.pickHome
      refine serves (ans (ite (setCtx (draw ?_)).tcpOut (ctxActive ?_)))
      all_goals
        split
        · exact hu
        · exact hu.setTq
  · exact serves hs.ans

theorem sessListen {f port n : Nat} {r : OpenReq} (hs : Follows s₀ s) : Follows s₀ (s.sessListen f port n r).1 := by
  unfold State.sessListen
  exact hs.ans.ite_ans (hs.ans.ite_ans hs.setSvc.ans)

theorem onHandle {f w : Nat} {k : State → Nat → MbxAns} (hs : Follows s₀ s) (hk : ∀ u id, Follows s₀ u → Follows s₀ (k u id).1) :
    Served s₀ (s.onHandle f w k) := by
  unfold State.onHandle
  split
  · exact serves hs.ans
  · split
    · exact waits
    · next ht => exact serves (hs.ctxTouch ht).ans
    · next ht => exact serves (hk _ _ (hs.ctxTouch ht))

theorem sessModify {r : MbxReq} {f : Nat} {m : ModReq} (hs : Follows s₀ s) : Served s₀ (s.sessModify r f m) := by
  refine hs.onHandle fun u id hu => ?_
  dsimp only
  split
  · exact hu.setCtx.setCtx.setCtx.setCtx.ans
  · exact hu.setCtx.ans

theorem sessEnd {r : MbxReq} {f : Nat} {b : Bool} (hs : Follows s₀ s) : Served s₀ (s.sessEnd r f b) :=
  hs.onHandle fun _ _ hu => (hu.ctxAbort.ite hu.ctxClose).ans

/-! ### MigOps -/

theorem migLoad {f id : Nat} {k : List Byte} (hs : Follows s₀ s) (e : s.migLoad f id k = some t) : Follows s₀ t := by
  unfold State.migLoad at e
  dsimp only at e
  split at e
  · cases e
    exact hs.slotLoad.setTfn
  · split at e
    · cases e
    · split_ifs at e
      cases e
      exact hs.keySlotFree.slotLoad.setTfn

theorem migKeyx {r : MbxReq} {f : Nat} (hs : Follows s₀ s) : Follows s₀ (s.migKeyx r f).1 := by
  unfold State.migKeyx
  dsimp only
  split
  · exact hs
  · split
    · exact hs
    · split
      · exact hs
      · next h => exact hs.draw.draw.migLoad h

theorem migAccept {r : MbxReq} {f : Nat} (hs : Follows s₀ s) : Follows s₀ (s.migAccept r f).1 := by
  unfold State.migAccept
  dsimp only
  split
  · exact hs
  · split
    · exact hs
    · split
      · exact hs
      · split
        · exact hs
        · next h => exact hs.migLoad h

theorem logStart {r : MbxReq} {f : Nat} (hs : Follows s₀ s) : Follows s₀ (s.logStart r f).1 := by
  unfold State.logStart
  exact hs.ans.ite_ans hs.setTfn.setFld.ans

theorem logSync {r : MbxReq} {f : Nat} (hs : Follows s₀ s) : Follows s₀ (s.logSync r f).1 := by
  unfold State.logSync
  dsimp only
  split
  · exact hs
  · exact hs.ans.ite_ans hs.setTfn.dmaPut.ans

theorem logStop {f : Nat} (hs : Follows s₀ s) : Follows s₀ (s.logStop f).1 := by
  unfold State.logStop
  split
  · exact hs
  · exact hs.setTfn.setFld.ans

theorem wrapBytes {w k : Nat} {b : List Byte} (hs : Follows s₀ s) (e : s.wrapBytes w k = some (b, t)) : Follows s₀ t := by
  unfold State.wrapBytes at e
  split at e
  · cases e
  · next hn =>
    cases e
    exact hs.takeNonce hn

theorem keyRecords {w : Nat} {l : List (Nat × Nat)} {b : List Byte} (hs : Follows s₀ s) (e : s.keyRecords w l = some (b, t)) :
    Follows s₀ t := by
  induction l generalizing s b with
  | nil =>
    cases e
    exact hs
  | cons x l ih =>
    unfold State.keyRecords at e
    split at e
    · cases e
    · next hw =>
      split at e
      · cases e
      · next hr =>
        cases e
        exact ih (hs.wrapBytes hw) hr

theorem migSave {r : MbxReq} {f : Nat} (hs : Follows s₀ s) : Follows s₀ (s.migSave r f).1 := by
  unfold State.migSave
  dsimp only
  refine hs.ans.ite_ans ?_
  split
  · exact hs
  · refine hs.ans.ite_ans (hs.ans.ite_ans ?_)
    split
    · exact hs
    · next hk =>
      split
      · exact hs
      · next hn => exact (((hs.keyRecords hk).takeNonce hn).foldl fun _ _ h => (h.foldl fun _ _ h => h.takeWaiting.bump)).dmaPut.ans

theorem keyRestore {f h attr ctr : Nat} {mat : List Byte} (hs : Follows s₀ s) : Follows s₀ (s.keyRestore f h attr ctr mat) := by
  unfold State.keyRestore
  dsimp only
  split
  · exact hs
  · exact hs.keySlotFree.setMat.setCnt.wr.setTfn.setFld

theorem ctxRestore {f : Nat} {c : Ctx} (hs : Follows s₀ s) (e : s.ctxRestore f c = some t) : Follows s₀ t := by
  unfold State.ctxRestore at e
  dsimp only at e
  split at e
  · cases e
    exact hs
  · cases e
  · next hc =>
    cases e
    exact (hs.ctxFree.pickHome.ctxSeat hc).setCtx.setTfn.setFld

/-- The recursion's equation, with one restore left opaque: evaluated, it searches all 16,384 contexts. -/
theorem ctxsRestore_cons (s : State) (f : Nat) (c : Ctx) (l : List Ctx) : s.ctxsRestore f (c :: l) = (match s.ctxRestore f c with
    | none => none
    | some u => u.ctxsRestore f l) := by
  delta State.ctxsRestore State.ctxsRestore._f
  generalize State.ctxRestore = g
  rfl

theorem ctxsRestore {f : Nat} {l : List Ctx} (hs : Follows s₀ s) (e : s.ctxsRestore f l = some t) : Follows s₀ t := by
  induction l generalizing s with
  | nil =>
    cases e
    exact hs
  | cons c l ih =>
    rw [ctxsRestore_cons] at e
    split at e
    · cases e
    · next hc => exact ih (hs.ctxRestore hc) e

theorem linkRestore {f : Nat} {c : Ctx} (hs : Follows s₀ s) : Follows s₀ (s.linkRestore f c) := by
  unfold State.linkRestore
  split
  · exact hs.setCtx.ite hs.setCtx.ctxStore
  · exact hs

theorem queRestore {f : Nat} {x : Bool × Nat × TQueue × Option Nat} (hs : Follows s₀ s) : Follows s₀ (s.queRestore f x) := hs.setTq.queUse

theorem migRestore {f : Nat} {b : List Byte} (hs : Follows s₀ s) : Served s₀ (s.migRestore f b) := by
  have hp : Follows s₀ (s.poolOpen.getD s) := by
    cases h : s.poolOpen with
    | none => exact hs
    | some t => exact hs.poolOpen h
  unfold State.migRestore
  refine ite_served (serves hs.ans) ?_
  split
  · exact serves hs.ans
  refine ite_served (serves hs.ans) (ite_served (serves hs.ans) (ite_served (serves hs.ans) (ite_served (serves hs.ans)
    (ite_served (serves hs.ans) (ite_served waits ?_)))))
  dsimp only
  split
  · exact waits
  · next hr =>
    have hu := ctxsRestore (foldl (setFld (hs.ite hp)) fun _ _ h => by
      split
      · exact h
      · exact h.keyRestore) hr
    refine serves (ans (ite ?_ (raise ?_)))
    all_goals exact ((foldl (foldl hu fun _ _ h => h.linkRestore) fun _ _ h => h.queRestore).setTfn).fnTo.setFld

/-! ### Tfn -/

theorem mbxRespond {f : Nat} (hs : Follows s₀ s) : Follows s₀ (s.mbxRespond f) := by
  unfold State.mbxRespond
  split
  · exact hs
  · exact hs.setTfn.mbxDeliver.ite hs.setTfn.bump

theorem windowSet {r : MbxReq} {f : Nat} {b : Bool} (hs : Follows s₀ s) : Served s₀ (s.windowSet r f b) := by
  unfold State.windowSet
  exact ite_served (serves hs.ans) (ite_served (serves hs.ans) (ite_served waits (serves hs.slotWrite.slotWrite.slotWrite.winCommit.ans)))

theorem fnCtrl {f : Nat} {g : State → Option State} (hs : Follows s₀ s) (hg : ∀ t, g s = some t → Follows s₀ t) :
    Follows s₀ (s.fnCtrl f g) := by
  unfold State.fnCtrl
  split
  · next e => exact hg _ e
  · exact hs.reject

theorem fnMail {op : Nat} {g : State → Nat → Option State} (hs : Follows s₀ s)
    (hg : ∀ u f t, Follows s₀ u → g u f = some t → Follows s₀ t) : Follows s₀ (s.fnMail op g) := by
  refine hs.mbxServe fun u r f hu => ?_
  split
  · next h => exact serves (hg _ _ _ hu h).ans
  · exact serves hu.ans

theorem cleanupDone {f : Nat} (hs : Follows s₀ s) : Follows s₀ (s.cleanupDone f) := hs.ite (hs.leaveReset.ite (hs.fnTo.fnWake.ite hs))

theorem freezeQuiet {f : Nat} (hs : Follows s₀ s) : Follows s₀ (s.freezeQuiet f) := hs.setFld.raise.ite hs

theorem freezeLate {f : Nat} (hs : Follows s₀ s) : Follows s₀ (s.freezeLate f) := hs.setTfn.raise.ite hs

theorem fetchTake {h : Nat} {x : Fetch} (hs : Follows s₀ s) : Follows s₀ (s.fetchTake h x) := hs.setHport

theorem txDesc {f q i : Nat} {x : Fetch} (hs : Follows s₀ s) : Follows s₀ (s.txDesc f q i x) :=
  hs.bump.putCpl.ite (hs.bump.putCpl.ite hs.fetchOf)

theorem txRaw {f q i pipe : Nat} {d : List Byte} {x : Fetch} (hs : Follows s₀ s) : Follows s₀ (s.txRaw f q i pipe d x) := by
  unfold State.txRaw
  exact hs.birth.setPipe

theorem txService {f q i id : Nat} {d : List Byte} {x : Fetch} (hs : Follows s₀ s) : Follows s₀ (s.txService f q i id d x) := by
  unfold State.txService
  refine hs.putCpl.ite ?_
  split
  · exact hs.svcErr.putCpl
  · exact hs.svcTx.putCpl.bump.bump

theorem txFetched {f q : Nat} (hs : Follows s₀ s) : Follows s₀ (s.txFetched f q) := by
  unfold State.txFetched
  dsimp only
  split
  · exact hs.queFetch
  · rename_i e
    split
    · exact hs.queFetch
    · refine hs.queFetch.ite (hs.queFetch.fetchTake.bump.ite ?_)
      split
      · exact hs.queFetch.fetchTake.txDesc
      · refine hs.queFetch.fetchTake.bump.putCpl.ite (hs.queFetch.fetchTake.txRaw.ite ?_)
        split
        · exact hs.queFetch.fetchTake.putCpl
        · refine hs.queFetch.ite ?_
          split
          · exact hs.queFetch
          · rename_i e10
            exact ((hs.queFetch.ctxPair e10).fetchTake).txService
      · exact hs.queFetch

theorem txComplete (hs : Follows s₀ s) : Follows s₀ s.txComplete := by
  unfold State.txComplete
  split
  · exact hs
  · rename_i e
    dsimp only
    split
    · exact (hs.setDp.bump.bump.ite hs.setDp).putCpl
    · exact hs.setDp

theorem rxGo {f q : Nat} (hs : Follows s₀ s) : Follows s₀ (s.rxGo f q) := (hs.queFetch.foldl (fun _ _ hs => hs.svcPump)).rxDeliver

theorem quotaQ {f v : Nat} (hs : Follows s₀ s) : Follows s₀ (s.quotaQ f v) := hs.reject.ite (hs.wr.foldl (fun _ _ hs => hs.drainStart))

theorem quotaS {f v : Nat} (hs : Follows s₀ s) : Follows s₀ (s.quotaS f v) := hs.reject.ite hs.wr

/-! ### Tim -/

theorem setStepApply (hs : Follows s₀ s) : Follows s₀ s.setStepApply := by
  unfold State.setStepApply
  split
  · exact hs
  · rename_i e
    refine ite ?_ (hs.ite hs.applyAdj.afterStep)
    split
    · exact hs
    · exact hs.setTim.applyAdj.afterStep.ite hs

theorem adjPpsTimeout (hs : Follows s₀ s) : Follows s₀ s.adjPpsTimeout := by
  unfold State.adjPpsTimeout
  split
  · exact hs
  · exact hs.setTim.setFld.raise.ite hs

theorem boundary (hs : Follows s₀ s) : Follows s₀ s.boundary :=
  (((hs.leap.chainTqEvent.ite hs.leap).evaluateTq).chainTqEvent).ite ((hs.leap.chainTqEvent.ite hs.leap).evaluateTq)

theorem secondBoundaryEval (hs : Follows s₀ s) : Follows s₀ s.secondBoundaryEval := by
  unfold State.secondBoundaryEval
  refine hs.ite ?_
  split
  · exact hs.boundary.ite hs.applyAdj.afterStep
  · exact hs.boundary

theorem srcChange (hs : Follows s₀ s) : Follows s₀ s.srcChange := by
  unfold State.srcChange
  refine hs.ite (((tqTransition ?_).chainTqEvent).ite ?_)
  · split
    · exact ((((hs.wr.setTim.ite hs).setTim).setFld).ite ((hs.wr.setTim.ite hs).setTim)).setFld
    · exact (((((hs.wr.setTim.ite hs).setTim).setFld).ite ((hs.wr.setTim.ite hs).setTim)).setFld).ite
        ((((((hs.wr.setTim.ite hs).setTim).setFld).ite ((hs.wr.setTim.ite hs).setTim)).setFld).setTrk)
  · split
    · exact ((((hs.wr.setTim.ite hs).setTim).setFld).ite ((hs.wr.setTim.ite hs).setTim)).setFld
    · exact (((((hs.wr.setTim.ite hs).setTim).setFld).ite ((hs.wr.setTim.ite hs).setTim)).setFld).ite
        ((((((hs.wr.setTim.ite hs).setTim).setFld).ite ((hs.wr.setTim.ite hs).setTim)).setFld).setTrk)

theorem ppsInEdge {n : Nat} {falling : Bool} (hs : Follows s₀ s) : Follows s₀ (s.ppsInEdge n falling) :=
  hs.ite (hs.ite ((hs.setTrk.setTim.showEst.jumpTo.afterStep.ite hs.setTrk.setTim.showEst.draw.draw.setTim).ite hs.setTrk))

theorem ppsInputLost {n : Nat} (hs : Follows s₀ s) : Follows s₀ (s.ppsInputLost n) := by
  unfold State.ppsInputLost
  dsimp only
  split
  · exact hs
  · exact (hs.srcLost.setFld.ite hs.srcLost).ite hs

theorem tenMhzLost (hs : Follows s₀ s) : Follows s₀ s.tenMhzLost := hs.setTim.setFld.raise.ite hs.setTim

theorem tenMhzReturn (hs : Follows s₀ s) : Follows s₀ s.tenMhzReturn := hs.setTim.setFld

theorem servoWrite {v : Nat} (hs : Follows s₀ s) : Follows s₀ (s.servoWrite v) :=
  (hs.wr.setTim.setTrk.ite (hs.wr.setTim.srcLost.ite hs.wr.setTim.setTrk)).showEst

theorem servoTimeout (hs : Follows s₀ s) : Follows s₀ s.servoTimeout := hs.srcLost.ite hs

theorem leapApply (hs : Follows s₀ s) : Follows s₀ s.leapApply := hs.leap.chainTqEvent.ite hs

theorem ppsOutRise {n : Nat} (hs : Follows s₀ s) : Follows s₀ (s.ppsOutRise n) := hs.ite (hs.setTim.ite hs.setTim.setTim.emit)

theorem ppsOutFall {n : Nat} (hs : Follows s₀ s) : Follows s₀ (s.ppsOutFall n) := by
  unfold State.ppsOutFall
  split
  · exact hs
  · exact hs.setTim.emit.ite hs

theorem timReset (hs : Follows s₀ s) : Follows s₀ s.timReset := by
  unfold State.timReset
  exact (hs.tables (mwf_mclear _ _ _) id id (mwf_mclear _ _ _) id).setTim

theorem timeNowRead {q : Req} (hs : Follows s₀ s) : Follows s₀ (s.timeNowRead q).2 := hs.setLat.setLat.pair

theorem tsuCalStart {p : Nat} (hs : Follows s₀ s) : Follows s₀ (s.tsuCalStart p) := hs.ite hs.calStart

theorem tsuCalDone {p : Nat} {good : Bool} {deskew : Nat} (hs : Follows s₀ s) : Follows s₀ (s.tsuCalDone p good deskew) :=
  ((hs.setFld.wr.setFld.ite hs.setFld.wr).ite hs.setFld.raise).ite hs

theorem txtsPop {q : Req} {p : Nat} (hs : Follows s₀ s) : Follows s₀ (s.txtsPop q p).2 := by
  unfold State.txtsPop
  dsimp only
  split
  · exact hs
  · exact hs.setTsu.setLat.setLat.setLat.pair

theorem ptmDialogueStart {h : Nat} (hs : Follows s₀ s) : Follows s₀ (s.ptmDialogueStart h) := hs.setPtm.ite hs

theorem ptmResponse {h host link : Nat} (hs : Follows s₀ s) : Follows s₀ (s.ptmResponse h host link) := by
  unfold State.ptmResponse
  split
  · exact hs
  · exact hs.draw.setPtm.setFld.setFld.ite hs

theorem ptmTimeout {h : Nat} (hs : Follows s₀ s) : Follows s₀ (s.ptmTimeout h) := by
  unfold State.ptmTimeout
  split
  · exact hs
  · exact (hs.setPtm.setFld.raise.ite hs.setPtm).ite hs

theorem ptmStatRead {q : Req} {h : Nat} (hs : Follows s₀ s) : Follows s₀ (s.ptmStatRead q h).2 :=
  hs.setLat.setLat.setLat.setLat.setLat.setLat.pair

/-! ### BlkOps -/

theorem slotEpochs {c : Nat} (hs : Follows s₀ s) : Follows s₀ (s.slotEpochs c) := hs.foldl fun _ _ hs => hs.epochCrumb

theorem commitNow {base : Nat} (hs : Follows s₀ s) : Follows s₀ (s.commitNow base) := by
  unfold State.commitNow
  extract_lets ks t t'
  have h₁ : Follows s₀ t := hs.act (mwf_foldl_mput rstAt (fun a => a) (fun a => mget rstAt s.regs a) ks s.act)
  have h₂ : Follows s₀ t' := h₁.setFld
  clear_value t'
  exact h₂.slotEpochs.ite h₂

theorem commit {base : Nat} (hs : Follows s₀ s) : Follows s₀ (s.commit base) := hs.ite (hs.commitNow.ite hs.setFld)

theorem commitApply {base : Nat} (hs : Follows s₀ s) : Follows s₀ (s.commitApply base) := hs.commitNow.ite hs

theorem onQuiescing {base : Nat} (hs : Follows s₀ s) : Follows s₀ (s.onQuiescing base) := by
  unfold State.onQuiescing
  dsimp only
  split
  · exact hs.tailChainEnd
  · exact ((hs.foldl (fun _ _ hs => hs.setFifo)).seqPeriod).foldl fun _ _ hs => hs.seqBypass
  · exact hs.foldl fun _ _ hs => hs.ite hs.signalTo
  · exact hs.rpEnd
  · exact hs.foldl fun _ _ hs => hs.chQuiesce
  · exact hs

theorem quiesce {base : Nat} (hs : Follows s₀ s) : Follows s₀ (s.quiesce base) := hs.commitApply.setBlk.onQuiescing.beside.ite hs

theorem onQuiesced {base : Nat} (hs : Follows s₀ s) : Follows s₀ (s.onQuiesced base) := by
  unfold State.onQuiesced
  dsimp only
  split
  · exact hs.ite hs.returnUnits
  · exact hs.foldl fun _ _ hs => hs.goLink
  · exact hs.dueCkpt
  · exact hs

theorem quiesced {base : Nat} (hs : Follows s₀ s) : Follows s₀ (s.quiesced base) := hs.setBlk.beside.onQuiesced.ite hs

theorem quiesceLate {base : Nat} (hs : Follows s₀ s) : Follows s₀ (s.quiesceLate base) := by
  unfold State.quiesceLate
  split
  · exact hs.beside.raise.ite hs
  · exact hs

theorem cluResume {c : Nat} (hs : Follows s₀ s) : Follows s₀ (s.cluResume c) := by
  unfold State.cluResume
  refine ((hs.rplResume.foldl ?_).dueCkpt).foldl fun _ _ hs => hs.kick
  intro _ _ hs
  refine hs.ite (hs.thrTo.ite ?_)
  split
  · exact hs
  · exact hs.setThr.thrTo

theorem onResume {base : Nat} (hs : Follows s₀ s) : Follows s₀ (s.onResume base) := by
  unfold State.onResume
  dsimp only
  split
  · exact hs.tailResume
  · exact hs.strTryTrain.ite (hs.ite hs.strDisable)
  · exact hs.foldl fun _ _ hs => hs.linkEval
  · exact hs.cluResume
  · exact hs.foldl fun _ _ hs => hs.lossEnd.ite hs
  · exact hs.foldl fun _ _ hs => hs.chResume.ite hs
  · exact hs.foldl fun _ _ hs => hs.fnFlow.ite hs
  · exact hs

theorem resume {base : Nat} (hs : Follows s₀ s) : Follows s₀ (s.resume base) :=
  hs.ite (hs.reject.ite (hs.ite (hs.reject.ite hs.setBlk.onResume)))

theorem regsReset {base : Nat} (hs : Follows s₀ s) : Follows s₀ (s.regsReset base) := by
  refine hs.tables (fun h => ?_) (mwf_mclear _ _ _) id (mwf_mclear _ _ _) id
  refine List.foldrRecOn (motive := fun m => mwf rstAt m = true) _ _ h fun m hm e _ => ?_
  split
  · exact mwf_mput _ _ _ _ hm
  · exact hm

theorem dropPipe {n : Nat} (hs : Follows s₀ s) : Follows s₀ (s.dropPipe n) := (hs.setPipe.foldl (fun _ _ hs => hs.endCopy)).bump

theorem cluReset {c : Nat} (hs : Follows s₀ s) : Follows s₀ (s.cluReset c) := by
  unfold State.cluReset
  refine (((((flushIq ?_).voidCluster).freeHandles).setClu).foldl (fun _ _ hs => hs.setThr)).foldl fun _ _ hs => hs.setEng
  split
  · exact hs
  · exact hs.rpEnd.ite hs

theorem dataReset {base : Nat} (hs : Follows s₀ s) : Follows s₀ (s.dataReset base) := by
  unfold State.dataReset
  dsimp only
  split
  · exact hs.beside
  · exact hs.foldl (fun _ _ hs => (hs.foldl (fun _ _ hs => hs.takeWaiting)).bump)
  · exact hs.setTsu
  · exact hs.setTl.setSl
  · exact hs.strDisable.setSl
  · exact ((hs.foldl (fun _ _ hs => hs.goLink.setMac.setHeld.ite hs.goLink.setMac)).ite
      ((hs.foldl (fun _ _ hs => hs.goLink.setMac.setHeld.ite hs.goLink.setMac)).emit)).setMod
  · exact hs.dropPipe.setFld.oldLevel.recircLevel.setDp
  · exact ((((((((hs.ite hs.epochCrumb).ite ((hs.ite hs.epochCrumb).epochCrumb)).dropPipe).setPipe).foldl
      (fun _ _ hs => hs.loseCopy)).setFld).setFld).bump).setDp
  · exact hs.setFwd
  · exact hs.setSeq.foldl fun _ _ hs => hs.seqBypass
  · exact (hs.foldl (fun _ _ hs => hs.setHeld.foldl (fun _ _ hs => hs.bump.missRecord.leaveGroup.endCopy))).setPrf
  · exact (hs.foldl (fun _ _ hs => hs.foldl (fun _ _ hs => hs.foldl (fun _ _ hs => hs.takeCopy.bump.dropFlag.loseCopy)))).setSch
  · exact hs.cluReset
  · exact hs.rpEnd.beside
  · exact hs.endMsgs.setCip
  · exact hs.besideBytes.foldl fun _ _ hs => hs.setCh
  · exact hs.besideBytes
  · exact hs.foldl (fun _ _ hs => hs.hpLeave.hpTo.ite (hs.hpDown.ite hs))
  · exact hs.foldl fun _ _ hs => hs.ite hs.fnReset
  · exact hs.beside
  · exact hs

theorem afterReset {base was : Nat} (hs : Follows s₀ s) : Follows s₀ (s.afterReset base was) := by
  unfold State.afterReset
  split
  · exact hs.setScrub
  · exact hs.setScrub
  · exact hs.setScrub
  · exact hs.pwrGo
  · exact hs.setFld
  · exact hs.ite hs.dueCkpt
  · exact (hs.foldl (fun _ _ hs => hs.chToReset.setFld)).foldl fun _ _ hs => hs.backlog
  · exact hs.foldl fun _ _ hs => hs.fnWake
  · exact hs

theorem blockReset {base : Nat} (hs : Follows s₀ s) : Follows s₀ (s.blockReset base) := by
  unfold State.blockReset
  refine hs.ite (raise (hs.timReset.ite ?_))
  exact ((hs.cnts (mwf_mclear _ _ _)).dataReset.regsReset.beside).afterReset

theorem ctrlWrite {base v : Nat} (hs : Follows s₀ s) : Follows s₀ (s.ctrlWrite base v) :=
  hs.blockReset.ite (hs.resume.ite (hs.quiesce.ite (hs.commit.ite hs)))

theorem hifDrop {h : Nat} (hs : Follows s₀ s) : Follows s₀ (s.hifDrop h) := hs.setHport.bump.foldl fun _ _ hs => hs.oldSettle

theorem dropUnits {base : Nat} (hs : Follows s₀ s) : Follows s₀ (s.dropUnits base) := by
  unfold State.dropUnits
  dsimp only
  split
  · exact hs.setTsu
  · exact hs.setTl
  · exact hs.strDisable
  · exact hs.foldl fun _ _ hs => hs.goLink
  · exact (((hs.foldl (fun _ _ hs => hs.endCopy)).setPipe).oldLevel).recircLevel
  · exact ((((hs.foldl (fun _ _ hs => hs.endCopy)).foldl (fun _ _ hs => hs.loseCopy)).setPipe).oldLevel).recircLevel
  · exact hs.setSeq.foldl fun _ _ hs => hs.endCopy
  · exact hs.foldl (fun _ _ hs => hs.setHeld.foldl (fun _ _ hs => hs.missRecord.leaveGroup.endCopy))
  · exact hs.foldl (fun _ _ hs => hs.foldl (fun _ _ hs => hs.foldl (fun _ _ hs => hs.takeCopy.loseCopy)))
  · exact hs.rpEnd.foldl fun _ _ hs => hs.setCap
  · exact hs.endMsgs
  · exact hs.foldl fun _ _ hs => hs.setCh
  · exact (hs.foldl (fun _ _ hs => hs.hifDrop)).foldl fun _ _ hs => hs.setFn
  · exact hs.foldl fun _ _ hs => hs.fnMbx
  · exact hs

theorem toSafe {base : Nat} {y : Synd} (hs : Follows s₀ s) : Follows s₀ (s.toSafe base y) :=
  hs.ite (hs.clusterSafe.ite hs.dropUnits.setBlk.setFld.beside.bump.raiseAt)

/-! ### RstOps -/

theorem portsStart (hs : Follows s₀ s) : Follows s₀ s.portsStart := hs.foldl fun _ _ hs => hs.hpTo.ite hs

theorem ballsOff (hs : Follows s₀ s) : Follows s₀ s.ballsOff := (hs.foldl (fun _ _ hs => hs.setTx)).foldl fun _ _ hs => hs.ite hs.emit

theorem mwf_keepRegs (k : Nat → Nat) (m : Sparse Word) : mwf rstAt (keepRegs k m) = true :=
  List.foldrRecOn (motive := fun m => mwf rstAt m = true) _ _ rfl fun _ hm _ _ => mwf_mput _ _ _ _ hm

/-- A reset that keeps registers by a mask and some counters, and begins the rest anew. -/
theorem renewed {k : Nat → Nat} {p : Nat × Nat → Bool} {tb mono free out straps tim tsu log fn tl sl dp boot tfn cip en rpl hp svc pw dbg quies}
    (hs : Follows s₀ s) : Follows s₀ { State.reset with
      pending := s.pending, regs := keepRegs k s.regs, cnts := s.cnts.filter p
      tb := tb, mono := mono, free := free, out := out, straps := straps, tim := tim, tsu := tsu, log := log, fn := fn, tl := tl, sl := sl
      dp := dp, boot := boot, tfn := tfn, cip := cip, en := en, rpl := rpl, hp := hp, svc := svc, pw := pw, dbg := dbg, quies := quies } :=
  ⟨hs.queue, fun w => by
    obtain ⟨-, -, hc, -, -, -⟩ := (State.wf_iff s).1 (hs.wf w)
    exact (State.wf_iff _).2 ⟨mwf_keepRegs _ _, rfl, mwf_filter _ _ _ hc, rfl, rfl, rfl⟩⟩

theorem restart (hs : Follows s₀ s) : Follows s₀ s.restart := by
  unfold State.restart
  exact (ballsOff (hs.foldl fun _ _ hs => hs.hpLeave.ite hs)).renewed.timReset.portsStart.zeroize

theorem deviceReset (hs : Follows s₀ s) : Follows s₀ s.deviceReset := hs.ite hs.restart

theorem powerOn {straps : Straps} (hs : Follows s₀ s) : Follows s₀ (s.powerOn straps) := by
  unfold State.powerOn
  exact (hs.ballsOff.foldl fun _ _ hs => hs.emit.ite hs).renewed.portsStart.zeroize

end Sys2Proof.Machine.Follows
end

section
/-! The operations of boot, debug and the register views leave the queue and keep the tables canonical: a lemma for each. -/
namespace Sys2Proof.Machine.Follows
variable {s₀ s t : State}

/-! ### BootOps -/

theorem setBoot {g : BootSt → BootSt} (hs : Follows s₀ s) : Follows s₀ (s.setBoot g) := hs.beside

theorem toBoot {v : Nat} (hs : Follows s₀ s) : Follows s₀ (s.toBoot v) := hs.setFld

theorem flashPut {o : Nat} {bs : List Byte} (hs : Follows s₀ s) : Follows s₀ (s.flashPut o bs) := hs.setBoot

theorem flashErase {o n : Nat} (hs : Follows s₀ s) : Follows s₀ (s.flashErase o n) := hs.flashPut

theorem flashProgram {o : Nat} {bs : List Byte} (hs : Follows s₀ s) : Follows s₀ (s.flashProgram o bs) := hs.flashPut

theorem flashSpoil {o n : Nat} (hs : Follows s₀ s) : Follows s₀ (s.flashSpoil o n) := hs.draw.flashPut

theorem sramPut {o : Nat} {bs : List Byte} (hs : Follows s₀ s) : Follows s₀ (s.sramPut o bs) := hs.setBoot

theorem flashCmd {v : Nat} (hs : Follows s₀ s) : Follows s₀ (s.flashCmd v) :=
  hs.reject.ite (hs.reject.ite (hs.wr.setFld.setBoot.ite hs.wr))

theorem flashDone {good : Bool} (hs : Follows s₀ s) : Follows s₀ (s.flashDone good) := by
  unfold State.flashDone
  split
  · exact hs
  · exact (hs.setBoot.setFld.setFld.flashProgram.ite hs.setBoot.setFld.setFld.flashErase).ite hs.setBoot.setFld.setFld.flashSpoil

theorem putDesc {d : Desc} (hs : Follows s₀ s) : Follows s₀ (s.putDesc d) := hs.flashPut

theorem bootFail {code info : Nat} (hs : Follows s₀ s) : Follows s₀ (s.bootFail code info) := hs.wr.deviceReset.ite hs.wr.toBoot

theorem toRecovery (hs : Follows s₀ s) : Follows s₀ s.toRecovery := hs.toBoot.setFld.setFld.setBoot.raise

theorem semWrite {q : Req} {i v : Nat} (hs : Follows s₀ s) : Follows s₀ (s.semWrite q i v) := by
  unfold State.semWrite
  dsimp only
  split
  · exact hs.reject
  · exact (hs.ite hs.wr).ite (hs.wr.ite hs.reject)

theorem wdtKick {v : Nat} (hs : Follows s₀ s) : Follows s₀ (s.wdtKick v) := hs.setBoot.ite hs.reject

theorem mgcStop (hs : Follows s₀ s) : Follows s₀ s.mgcStop := hs.semFree.setBoot.beside.foldl fun _ _ hs => hs.mbxAnswer

theorem escalate (hs : Follows s₀ s) : Follows s₀ s.escalate := hs.raise.deviceReset

theorem rehash {e : Ecc} (hs : Follows s₀ s) : Follows s₀ (s.rehash e).2 := by
  unfold State.rehash
  split
  · exact hs
  · exact hs.memRead.pair

theorem restartBoot {e : Ecc} (hs : Follows s₀ s) : Follows s₀ (s.restartBoot e) := hs.mgcStop.rehash.ite hs.mgcStop.rehash.escalate

theorem trialFail (hs : Follows s₀ s) : Follows s₀ s.trialFail := hs.setFld.setFld.bump.raise

theorem wdtExpire {e : Ecc} (hs : Follows s₀ s) : Follows s₀ (s.wdtExpire e) :=
  hs.ite (((((((hs.trialFail.ite hs).raise).setFld).bump).setBoot).escalate).ite
    ((((((hs.trialFail.ite hs).raise).setFld).bump).setBoot).restartBoot))

theorem mgcRestart {src : Bool} {e : Ecc} (hs : Follows s₀ s) : Follows s₀ (s.mgcRestart src e) :=
  hs.mgcStop.setFld.setBoot.ite hs.restartBoot

theorem mgcConfirm (hs : Follows s₀ s) : Follows s₀ s.mgcConfirm := hs.setFld.setBoot

theorem mgcCtrl {v : Nat} {e : Ecc} (hs : Follows s₀ s) : Follows s₀ (s.mgcCtrl v e) :=
  hs.reject.ite (((hs.wr.mgcConfirm.ite hs.wr).mgcRestart).ite (hs.wr.mgcConfirm.ite hs.wr))

theorem trialTimeout {e : Ecc} (hs : Follows s₀ s) : Follows s₀ (s.trialTimeout e) := hs.trialFail.restartBoot.ite hs

theorem wdtCfg {v : Nat} (hs : Follows s₀ s) : Follows s₀ (s.wdtCfg v) := hs.reject.ite (hs.wr.setBoot.ite hs.wr)

theorem otpWrite {v : Nat} (hs : Follows s₀ s) : Follows s₀ (s.otpWrite v) := hs.reject.ite hs.wr

theorem custHash {n v : Nat} (hs : Follows s₀ s) : Follows s₀ (s.custHash n v) := hs.reject.ite hs.wr.setBoot

theorem ucodeStart (hs : Follows s₀ s) : Follows s₀ s.ucodeStart := hs.ite (hs.wr.wr.ite hs.wr)

theorem ucodeCore {fail : Nat} {k : Nat} (hs : Follows s₀ s) : Follows s₀ (s.ucodeCore fail k) :=
  hs.setFld.raise.ite hs.setFld.setFld.setFld

theorem ucodeDone {e : Ecc} {fail : Nat} (hs : Follows s₀ s) : Follows s₀ (s.ucodeDone e fail) :=
  hs.ite (hs.memRefuse.wr.ite (hs.ite (hs.memRead.wr.ite (hs.memRead.wr.ite (hs.memRead.wr.foldl (fun _ _ hs => hs.ucodeCore))))))

theorem recSend {host : Option Nat} {b : List Byte} (hs : Follows s₀ s) : Follows s₀ (s.recSend host b) := by
  unfold State.recSend
  split
  · exact hs.emit
  · exact hs.emit

theorem recAnswer {op st xid off : Nat} (hs : Follows s₀ s) : Follows s₀ (s.recAnswer op st xid off) := hs.recSend

theorem recIn {host : Option (BitVec 48)} {b : List Byte} {op : Nat} {g : RecMsg → State → State} (hs : Follows s₀ s)
    (hg : ∀ m u, Follows s₀ u → Follows s₀ (g m u)) : Follows s₀ (s.recIn host b op g) := by
  unfold State.recIn
  refine hs.ite ?_
  split
  · exact hs.bump
  · exact (hg _ _ hs.setBoot).ite hs

/-! ### DbgOps -/

theorem setDbg {g : DbgSt → DbgSt} (hs : Follows s₀ s) : Follows s₀ (s.setDbg g) := hs.beside

theorem chalDrop (hs : Follows s₀ s) : Follows s₀ s.chalDrop := by
  unfold State.chalDrop
  exact ((hs.foldl (fun _ _ hs => hs.wr)).setFld).setDbg

theorem dbgChal (hs : Follows s₀ s) : Follows s₀ s.dbgChal := by
  unfold State.dbgChal
  exact ((hs.draw.foldl (fun _ _ hs => hs.wr)).setFld).setDbg

theorem chalExpire (hs : Follows s₀ s) : Follows s₀ s.chalExpire := by
  unfold State.chalExpire
  split
  · exact hs
  · exact hs.chalDrop.ite hs

theorem dbgVerify (hs : Follows s₀ s) : Follows s₀ s.dbgVerify := hs.chalExpire.setFld

theorem verifyDone (hs : Follows s₀ s) : Follows s₀ s.verifyDone :=
  hs.ite (hs.setFld.setFld.zeroize.setCip.setFld.raise.setFld.setFld.chalDrop.raise.deviceReset.ite
    hs.setFld.setFld.setFld.setFld.chalDrop.raise)

theorem dbgCtrl {v : Nat} (hs : Follows s₀ s) : Follows s₀ (s.dbgCtrl v) :=
  ((hs.wr.dbgChal.ite hs.wr).dbgVerify).ite (hs.wr.dbgChal.ite hs.wr)

theorem dbgOtp {v : Nat} (hs : Follows s₀ s) : Follows s₀ (s.dbgOtp v) := hs.setFld.ite hs

theorem dbgHash {n v : Nat} (hs : Follows s₀ s) : Follows s₀ (s.dbgHash n v) := hs.reject.ite (hs.wr.setDbg.setFld.ite hs.wr.setDbg)

theorem thrHalt {t : Nat} (hs : Follows s₀ s) : Follows s₀ (s.thrHalt t) := hs.reject.ite hs.setThr.leave

theorem thrGo {t : Nat} (hs : Follows s₀ s) : Follows s₀ (s.thrGo t) := hs.setThr.thrTo.eventWake.ite hs.setThr.thrTo.kick

theorem thrResume {t : Nat} (hs : Follows s₀ s) : Follows s₀ (s.thrResume t) := hs.thrGo.ite hs

theorem thrStep {t : Nat} (hs : Follows s₀ s) : Follows s₀ (s.thrStep t) := hs.setThr.thrGo.ite hs

theorem thrCtrl {v : Nat} (hs : Follows s₀ s) : Follows s₀ (s.thrCtrl v) :=
  hs.reject.ite (hs.wr.thrHalt.ite (hs.wr.thrResume.ite (hs.wr.thrStep.ite hs.wr)))

theorem dbgMiss (hs : Follows s₀ s) : Follows s₀ s.dbgMiss := hs.bump32

theorem thrDataRead (hs : Follows s₀ s) : Follows s₀ (s.thrDataRead).2 := hs.dbgMiss.pair.ite_snd hs.setLat.pair

theorem thrDataWrite {hi : Nat} (hs : Follows s₀ s) : Follows s₀ (s.thrDataWrite hi) :=
  hs.reject.ite ((hs.setThr.ite hs.reject).ite hs.setGr)

theorem dbgMemStep (hs : Follows s₀ s) : Follows s₀ s.dbgMemStep := hs.setFld.ite hs

theorem dbgMemRead (hs : Follows s₀ s) : Follows s₀ (s.dbgMemRead).2 := hs.setLat.pair

theorem dbgMemWrite {hi : Nat} (hs : Follows s₀ s) : Follows s₀ (s.dbgMemWrite hi) :=
  (hs.reject.ite hs.setClu.setFld.dbgMemStep).ite hs.dPut.dbgMemStep

/-! ### RegRead -/

theorem logPop {q : Req} (hs : Follows s₀ s) : Follows s₀ (s.logPop q).2 := (hs.beside.setFld.foldl (fun _ _ hs => hs.setLat)).pair

/-- Where a read acts, the state that it answers follows. -/
def Acts (s₀ : State) (o : Option (Nat × State)) : Prop := ∀ r, o = some r → Follows s₀ r.2

theorem idles : Acts s₀ none := fun _ e => nomatch e

theorem acts {r : Nat × State} (hr : Follows s₀ r.2) : Acts s₀ (some r) := fun _ e => Option.some.inj e ▸ hr

theorem ite_acts {c : Prop} {_ : Decidable c} {x y : Option (Nat × State)} (hx : Acts s₀ x) (hy : Acts s₀ y) : Acts s₀ (if c then x else y) := by
  split
  · exact hx
  · exact hy

theorem readActs {q : Req} {i : Inst} {off : Nat} (hs : Follows s₀ s) : Acts s₀ (s.readActs q i off) := by
  have h : Acts s₀ (some (0, s)) := acts hs.pair
  unfold State.readActs
  split
  · exact ite_acts (acts hs.logPop) idles
  · exact ite_acts (acts hs.timeNowRead) (ite_acts (acts hs.ptmStatRead) idles)
  · exact ite_acts (acts hs.txtsPop) idles
  · exact ite_acts (acts hs.notifyPop) idles
  · exact ite_acts (ite_acts (acts hs.thrDataRead) h) (ite_acts (ite_acts (acts hs.dbgMemRead) h)
      (ite_acts (ite_acts (acts hs.pair) h) (ite_acts (ite_acts (acts hs.dbgMemStep.pair) h) idles)))
  · exact idles

theorem ownerRead {q : Req} {a : Nat} (hs : Follows s₀ s) : Follows s₀ (s.ownerRead q a).2 := by
  unfold State.ownerRead
  split
  · exact hs
  dsimp only
  split
  · exact hs
  refine hs.ite_snd ?_
  split
  · next e => exact hs.readActs _ e
  · exact hs.ite_snd (hs.setLat.pair.ite_snd ((hs.ite_snd ((hs.setLat.setCnt.ite hs.setLat).pair)).ite_snd ((hs.ite hs.wr).pair)))

theorem pageRead {f : Fin 260} {off : Nat} (hs : Follows s₀ s) : Follows s₀ (s.pageRead f off).2 := by
  unfold State.pageRead
  refine hs.ite_snd (hs.ite_snd (hs.ite_snd (hs.ite_snd (hs.ite_snd
    (hs.ite_snd (ite_snd ?_ (ite_snd ?_ (hs.ite_snd (hs.ite_snd
    (hs.ite_snd (hs.ite_snd ((hs.setLat.pair.ite_snd hs).ite_snd ((hs.ite_snd hs).ite_snd hs)))))))))))))
  · split
    · exact hs
    · exact hs.ptmStatRead
  · split
    · exact hs
    · exact hs

theorem regRead {q : Req} {a : Nat} (hs : Follows s₀ s) : Follows s₀ (s.regRead q a).2 := by
  unfold State.regRead
  split
  · exact hs.pageRead
  · exact hs.ownerRead

/-! ### WrOps -/

theorem refuse {w : Acc} (hs : Follows s₀ s) : Follows s₀ (s.refuse w) := hs.reject.ite hs.reject

theorem put {w : Acc} (hs : Follows s₀ s) : Follows s₀ (s.put w) := hs.wr

theorem ifTakes {w : Acc} {g : State → State} (hs : Follows s₀ s) (hg : ∀ u, Follows s₀ u → Follows s₀ (g u)) : Follows s₀ (s.ifTakes w g) :=
  (hg _ hs).ite hs.refuse

theorem accept {w : Acc} (hs : Follows s₀ s) : Follows s₀ (s.accept w) := hs.ifTakes fun _ hs => hs.put

theorem acceptIf {w : Acc} {may : Bool} (hs : Follows s₀ s) : Follows s₀ (s.acceptIf w may) := hs.accept.ite hs.refuse

theorem errClear {base : Nat} (hs : Follows s₀ s) : Follows s₀ (s.errClear base) := hs.setFld.wr

theorem causeClear {c : Nat} (hs : Follows s₀ s) : Follows s₀ (s.causeClear c) := hs.setFld.setFld.setFld

theorem pendClear {a v : Nat} (hs : Follows s₀ s) : Follows s₀ (s.pendClear a v) := hs.wr

theorem writeHdr {w : Acc} (hs : Follows s₀ s) : Follows s₀ (s.writeHdr w) := by
  unfold State.writeHdr
  split
  · exact hs.ctrlWrite
  · exact hs.accept
  · exact hs.errClear.ite hs
  · exact hs

theorem writeGen {w : Acc} (hs : Follows s₀ s) : Follows s₀ (s.writeGen w) :=
  (hs.deviceReset.ite hs.refuse).ite (hs.semWrite.ite hs.accept)

theorem writeEvt {w : Acc} (hs : Follows s₀ s) : Follows s₀ (s.writeEvt w) := by
  unfold State.writeEvt
  refine (hs.refuse.ite ?_).ite (hs.pendClear.ite hs.accept)
  split
  · exact hs.causeClear.ite hs
  · exact hs.accept
  · exact hs

theorem writePwr {w : Acc} (hs : Follows s₀ s) : Follows s₀ (s.writePwr w) := hs.targetWrite.ite (hs.acceptIf.ite hs.accept)

theorem writeBoot {w : Acc} (hs : Follows s₀ s) : Follows s₀ (s.writeBoot w) := by
  unfold State.writeBoot
  refine hs.refuse.ite ?_
  split
  · exact hs.accept.ite hs
  · exact hs.accept.ite hs
  · exact hs.otpWrite
  · exact hs.flashCmd
  · exact hs.wdtCfg
  · exact hs.wdtKick
  · exact hs.mgcCtrl
  · exact hs.acceptIf
  · exact hs.ucodeStart.ite hs
  · exact hs.custHash.ite hs.accept

theorem timPut {w : Acc} {g : State → State} (hs : Follows s₀ s) (hg : ∀ u, Follows s₀ u → Follows s₀ (g u)) : Follows s₀ (s.timPut w g) :=
  hs.ifTakes fun _ h => hg _ h.timKeep.put

theorem ppsInCfg {w : Acc} {n : Nat} (hs : Follows s₀ s) : Follows s₀ (s.ppsInCfg w n) := hs.timPut fun _ hs => hs.setTrk.ite hs

theorem leapCfg {w : Acc} (hs : Follows s₀ s) : Follows s₀ (s.leapCfg w) := hs.timPut fun _ hs => hs.setTim

theorem writeTim {w : Acc} (hs : Follows s₀ s) : Follows s₀ (s.writeTim w) := by
  unfold State.writeTim
  split
  · exact hs.timPut fun _ hs => hs.setTim
  · exact hs.refuse.ite (hs.timPut fun _ hs => hs)
  · exact hs.adjWrite.ite hs.accept
  · exact hs.ppsInCfg
  · exact hs.ppsInCfg
  · exact hs.servoWrite
  · exact hs.leapCfg.ite hs.leapCfg.setPw
  · exact hs.leapCfg
  · exact hs.leapCfg
  · exact (hs.timPut fun _ hs => hs).ite hs.accept

/-! ### WrData -/

theorem writeTsu {w : Acc} (hs : Follows s₀ s) : Follows s₀ (s.writeTsu w) := (hs.tsuCalStart.ite hs).ite hs.accept

theorem writeTail {w : Acc} (hs : Follows s₀ s) : Follows s₀ (s.writeTail w) := by
  unfold State.writeTail
  split
  · exact hs.acceptIf
  · exact hs.ifTakes fun _ hs => hs.put.setTl
  · exact ((hs.cpReq.ite hs).cpSign).ite (hs.cpReq.ite hs)
  · exact hs.drainConsWrite
  · exact hs.accept

theorem writeStr {w : Acc} (hs : Follows s₀ s) : Follows s₀ (s.writeStr w) := (hs.strRetrainWrite.ite hs).ite hs.accept

theorem quadEval {q : Nat} (hs : Follows s₀ s) : Follows s₀ (s.quadEval q) := hs.foldl fun _ _ hs => hs.linkEval

theorem writeMac {w : Acc} (hs : Follows s₀ s) : Follows s₀ (s.writeMac w) := by
  unfold State.writeMac
  refine (hs.refuse.ite (hs.ifTakes (fun _ hs => hs.put.quadEval))).ite
    (hs.acceptIf.ite ((hs.ifTakes (fun _ hs => ((hs.put.ite hs.put.emit).modReset).ite (hs.put.ite hs.put.emit))).ite
    ((hs.modXferStart.ite hs.accept).ite (ite ?_ hs.accept))))
  dsimp only
  split
  · exact hs.portCtrl
  · exact hs.ifTakes fun _ hs => hs.put.linkEval
  · exact hs.saSel
  · exact hs.accept

theorem scrubCfg {w : Acc} {k : Nat} (hs : Follows s₀ s) : Follows s₀ (s.scrubCfg w k) :=
  hs.ifTakes fun _ hs => hs.put.setScrub.ite hs.put

theorem bankWord {w : Acc} {mask : Nat} (hs : Follows s₀ s) : Follows s₀ (s.bankWord w mask) := hs.wr.setDp

theorem writePrs {w : Acc} (hs : Follows s₀ s) : Follows s₀ (s.writePrs w) := hs.scrubCfg.ite (hs.accept.ite (hs.refuse.ite hs.bankWord))

theorem writeMat {w : Acc} (hs : Follows s₀ s) : Follows s₀ (s.writeMat w) :=
  hs.scrubCfg.ite (hs.matSwap.ite (hs.accept.ite (hs.bankWord.ite hs.refuse)))

theorem dirWrite {w : Acc} {space pipe t n : Nat} (hs : Follows s₀ s) : Follows s₀ (s.dirWrite w space pipe t n) :=
  hs.ifTakes fun _ hs => hs.refuse.ite hs.put

theorem writeFwd {w : Acc} (hs : Follows s₀ s) : Follows s₀ (s.writeFwd w) :=
  hs.scrubCfg.ite (((hs.refuse.ite hs.fwdCommand).ite (hs.ite (hs.refuse.ite hs.accept))).ite
    (hs.dirWrite.ite (hs.dirWrite.ite (hs.dirWrite.ite (hs.acceptIf.ite (hs.accept.relimit.ite hs.accept))))))

theorem writeSeq {w : Acc} (hs : Follows s₀ s) : Follows s₀ (s.writeSeq w) :=
  (hs.ifTakes (fun _ hs => hs.put.seqPeriod.ite hs.put)).ite hs.accept

theorem writePrf {w : Acc} (hs : Follows s₀ s) : Follows s₀ (s.writePrf w) :=
  (hs.prfCalWrite.ite hs).ite ((hs.acceptIf.ite hs.acceptIf).ite hs.accept)

theorem guarWrite {w : Acc} (hs : Follows s₀ s) : Follows s₀ (s.guarWrite w) := hs.acceptIf

theorem cbsWrite {w : Acc} {p q : Nat} (hs : Follows s₀ s) : Follows s₀ (s.cbsWrite w p q) :=
  hs.ifTakes (fun _ hs => hs.settleCredit.put.setPq.ite ((((hs.settleCredit.put.ite hs.settleCredit.put.setPq).setPq).settleCredit).ite
    (hs.settleCredit.put.ite hs.settleCredit.put.setPq)))

theorem orbWord {w : Acc} {p b : Nat} {may : Bool} (hs : Follows s₀ s) : Follows s₀ (s.orbWord w p b may) := hs.acceptIf

theorem writeSch {w : Acc} (hs : Follows s₀ s) : Follows s₀ (s.writeSch w) := by
  unfold State.writeSch
  refine hs.acceptIf.ite (ite ?_ (hs.guarWrite.ite ((hs.orbWrite.ite (hs.orbWord.ite (hs.orbWord.ite hs.accept))).ite
    (hs.polSel.ite hs.accept))))
  dsimp only
  split
  · exact hs.guarWrite
  · exact hs.acceptIf
  · exact hs.cbsWrite
  · exact hs.cbsWrite
  · exact hs.accept

/-! ### WrSys -/

theorem chnCfg {w : Acc} {n : Nat} (hs : Follows s₀ s) : Follows s₀ (s.chnCfg w n) :=
  hs.ifTakes (fun _ hs => hs.refuse.ite (hs.put.chnReset.ite hs.put))

theorem writeEng {w : Acc} (hs : Follows s₀ s) : Follows s₀ (s.writeEng w) :=
  (hs.loadStart.ite hs).ite (hs.engSignal.ite ((hs.ifTakes (fun _ hs => hs.put.dlRescue.ite hs.put)).ite
    (hs.acceptIf.ite (hs.chnVoidWrite.ite (hs.chnCfg.ite hs.accept)))))

theorem rplQ {w : Acc} {c : Nat} {may : Bool} (hs : Follows s₀ s) : Follows s₀ (s.rplQ w c may) := hs.put.ite hs.refuse

theorem rpAvailWrite {w : Acc} (hs : Follows s₀ s) : Follows s₀ (s.rpAvailWrite w) := hs.acceptIf.beside.ite hs.acceptIf

theorem writeRpl {w : Acc} (hs : Follows s₀ s) : Follows s₀ (s.writeRpl w) := by
  unfold State.writeRpl
  refine (((hs.rplStart.ite hs.accept).rpEnd).ite (hs.rplStart.ite hs.accept)).ite
    (hs.rpAvailWrite.ite (hs.acceptIf.ite (ite ?_ hs.accept)))
  dsimp only
  split
  · exact hs.rplQ
  · exact ((hs.rplFreeze.ite (hs.rplUnfreeze.ite hs)).ckptReq).ite (hs.rplFreeze.ite (hs.rplUnfreeze.ite hs))
  · exact hs.rplQ
  · exact hs.rplQ
  · exact hs.rplQ
  · exact hs

theorem ctrWrite {w : Acc} {k : Nat} (hs : Follows s₀ s) : Follows s₀ (s.ctrWrite w k) := hs.refuse.ite hs.setCnt

theorem writeCip {w : Acc} (hs : Follows s₀ s) : Follows s₀ (s.writeCip w) :=
  (hs.ifTakes (fun _ hs => hs.put.coreTest.ite hs.put)).ite
    ((hs.keyZero.ite hs).ite ((hs.kwStart.ite hs.accept).ite (hs.acceptIf.ite (hs.attrWrite.ite (hs.ctrWrite.ite hs.accept)))))

theorem writeKey {w : Acc} (hs : Follows s₀ s) : Follows s₀ (s.writeKey w) := hs.matWrite

theorem regionWrite {w : Acc} {r n : Nat} (hs : Follows s₀ s) : Follows s₀ (s.regionWrite w r n) :=
  hs.ifTakes (fun _ hs => (hs.put.ite hs.refuse).ite (hs.put.ite hs.refuse))

theorem writeMem {w : Acc} (hs : Follows s₀ s) : Follows s₀ (s.writeMem w) :=
  hs.chCtrl.ite (hs.regionWrite.ite ((hs.ifTakes (fun _ hs => hs.put.rejudge)).ite hs.accept))

theorem writeMci {w : Acc} (hs : Follows s₀ s) : Follows s₀ (s.writeMci w) := (hs.initStart.ite hs).ite (hs.acceptIf.ite hs.accept)

theorem msixAlloc {w : Acc} {f : Nat} (hs : Follows s₀ s) : Follows s₀ (s.msixAlloc w f) := hs.acceptIf

theorem writeHif {w : Acc} (hs : Follows s₀ s) : Follows s₀ (s.writeHif w) := by
  unfold State.writeHif
  refine ite ?_ (hs.acceptIf.ite (hs.msixAlloc.ite hs.accept))
  dsimp only
  split
  · exact hs.refuse.ite (((hs.hpSetReady.ite hs).hpTakeDown).ite (hs.hpSetReady.ite hs))
  · exact hs.acceptIf
  · exact hs.accept

theorem writeTfn {w : Acc} (hs : Follows s₀ s) : Follows s₀ (s.writeTfn w) := by
  unfold State.writeTfn
  refine ite ?_ ((hs.slotWrite.ite ((hs.winCommit.ite hs).ite hs)).ite hs.accept)
  dsimp only
  split
  · exact (hs.fnCtrl fun _ => hs.fnFreeze).ite ((hs.fnCtrl fun _ => hs.fnThaw).ite ((hs.fnCtrl fun _ => hs.fnResetCmd).ite hs))
  · exact hs.quotaQ
  · exact hs.quotaS
  · exact hs.accept

theorem writeDbg {w : Acc} (hs : Follows s₀ s) : Follows s₀ (s.writeDbg w) := by
  unfold State.writeDbg
  refine hs.refuse.ite ?_
  split
  · exact hs.dbgCtrl
  · exact hs.dbgOtp
  · exact hs.accept
  · exact hs.thrCtrl
  · exact hs.thrDataWrite
  · exact hs.acceptIf
  · exact hs.dbgMemWrite
  · exact hs.dbgHash.ite hs.accept

/-! ### RegWrite -/

theorem writeBlock {w : Acc} (hs : Follows s₀ s) : Follows s₀ (s.writeBlock w) := by
  unfold State.writeBlock
  split
  · exact hs.writeGen
  · exact hs.writeEvt
  · exact hs.writePwr
  · exact hs.writeBoot
  · exact hs.writeTim
  · exact hs.writeTsu
  · exact hs.writeTail
  · exact hs.writeStr
  · exact hs.writeMac
  · exact hs.writePrs
  · exact hs.writeMat
  · exact hs.writeFwd
  · exact hs.writeSeq
  · exact hs.writePrf
  · exact hs.writeSch
  · exact hs.writeEng
  · exact hs.writeRpl
  · exact hs.writeCip
  · exact hs.writeKey
  · exact hs.writeMem
  · exact hs.writeMci
  · exact hs.writeHif
  · exact hs.writeTfn
  · exact hs.writeDbg
  · exact hs

theorem ownerWrite {q : Req} {a be v : Nat} {x : WEnv} (hs : Follows s₀ s) : Follows s₀ (s.ownerWrite q a be v x) := by
  unfold State.ownerWrite
  split
  · exact hs
  · rename_i e
    dsimp only
    split
    · exact hs
    · exact hs.ite (hs.refuse.ite (hs.writeHdr.ite hs.writeBlock))

theorem msixWord {n off v : Nat} (hs : Follows s₀ s) : Follows s₀ (s.msixWord n off v) := hs.ite (hs.pwr.msixPend.ite hs.pwr)

theorem bellWrite {n off v : Nat} (hs : Follows s₀ s) : Follows s₀ (s.bellWrite n off v) := hs.ite (hs.piWrite.ite hs.ciWrite)

theorem pageWrite {f : Fin 260} {off be v : Nat} (hs : Follows s₀ s) : Follows s₀ (s.pageWrite f off be v) :=
  hs.ite (hs.rejectPage.ite (hs.pwr.ite ((hs.mbxSend.ite (hs.pwr.mbxSend.ite hs.pwr)).ite
    ((hs.pwr.ite hs).ite ((hs.rejectPage.ite hs.pwr).ite (hs.bellWrite.ite (hs.msixWord.ite hs)))))))

theorem regWrite {q : Req} {a be v : Nat} {x : WEnv} (hs : Follows s₀ s) : Follows s₀ (s.regWrite q a be v x) := by
  unfold State.regWrite
  split
  · exact hs.pageWrite
  · exact hs.ownerWrite

/-! ### Boot -/

theorem romStart (hs : Follows s₀ s) : Follows s₀ s.romStart := hs.ite (hs.setFld.toRecovery.ite hs.setFld.toBoot)

theorem selfTest {trngOk : Bool} {array : Option (BitVec 24)} {repaired : BitVec 16} {spare : BitVec 8} (hs : Follows s₀ s) : Follows s₀
  (s.selfTest trngOk array repaired spare) := by
  unfold State.selfTest
  refine hs.ite ?_
  dsimp only
  split
  · exact (hs.wr.raise.ite hs.wr).bootFail
  · exact (((hs.wr.raise.ite hs.wr).setFld).toBoot).ite (((hs.wr.raise.ite hs.wr).setFld).bootFail)

theorem markTried {n : Nat} (hs : Follows s₀ s) : Follows s₀ (s.markTried n) := hs.putDesc.raise.ite hs

theorem tryBank {n : Nat} {readErr : Bool} (hs : Follows s₀ s) : Follows s₀ (s.tryBank n readErr).2 :=
  hs.setFld.pair.ite_snd hs.setFld.putDesc.pair

theorem tryBanks {err : BitVec 2} {l : List Nat} {n : Nat} (hs : Follows s₀ s) : Follows s₀ (State.tryBanks err l n s).2 := by
  induction l generalizing s n with
  | nil =>
    unfold State.tryBanks
    exact (hs.ite hs.putDesc).pair
  | cons k l ih =>
    unfold State.tryBanks
    exact (hs.ite hs.putDesc).tryBank.pair.ite_snd (ih (hs.ite hs.putDesc).tryBank)

theorem runBank {n : Nat} (hs : Follows s₀ s) : Follows s₀ (s.runBank n) := by
  unfold State.runBank
  refine toBoot ?_
  split
  · exact hs.setFld.setFld.setFld.setFld.foldl fun _ _ hs => hs.wr
  · exact (hs.setFld.setFld.setFld.setFld.foldl (fun _ _ hs => hs.wr)).sramPut

theorem bootVerify {e : BitVec 2} (hs : Follows s₀ s) : Follows s₀ (s.bootVerify e) := by
  unfold State.bootVerify
  refine hs.ite ?_
  dsimp only
  split
  · exact hs.markTried.markTried.tryBanks.wr.runBank
  · exact hs.markTried.markTried.tryBanks.wr.bootFail.ite hs.markTried.markTried.tryBanks.wr.wr.toRecovery

theorem bootMgcStart (hs : Follows s₀ s) : Follows s₀ s.bootMgcStart := hs.ite hs.setFld.setBoot.toBoot

theorem cfgNext {i : Nat} (hs : Follows s₀ s) : Follows s₀ (s.cfgNext i) := hs.setBoot.ite hs.setBoot.bootFail

theorem bootConfig (hs : Follows s₀ s) : Follows s₀ s.bootConfig := hs.ite (hs.cfgNext.ite hs.bootFail)

theorem recDo {op : Nat} {g : CfgRec → State → State} (hs : Follows s₀ s) (hg : ∀ r u, Follows s₀ u → Follows s₀ (g r u)) :
    Follows s₀ (s.recDo op g) := by
  unfold State.recDo
  split
  · exact hs
  · exact (hg _ _ hs).ite hs

theorem wroteBad {q : Req} {a v : Nat} {x : WEnv} (hs : Follows s₀ s) : Follows s₀ (s.wroteBad q a v x).2 :=
  hs.setFld.ownerWrite.pair.ite_snd ((hs.setFld.ownerWrite.setFld.ite hs.setFld.ownerWrite).pair)

theorem cfgWrite {x : WEnv} (hs : Follows s₀ s) : Follows s₀ (s.cfgWrite x) :=
  hs.recDo (fun _ _ hs => (((hs.ite_snd hs.ownerRead).wroteBad).bootFail).ite
    ((((hs.ite_snd hs.ownerRead).wroteBad).cfgNext).ite ((hs.ite_snd hs.ownerRead).wroteBad)))

theorem cfgWait (hs : Follows s₀ s) : Follows s₀ s.cfgWait :=
  hs.recDo (fun _ _ hs => hs.ownerRead.cfgNext.ite (hs.ownerRead.bootFail.ite hs.ownerRead))

theorem cfgDelay (hs : Follows s₀ s) : Follows s₀ s.cfgDelay := hs.recDo fun _ _ hs => hs.cfgNext.ite hs

theorem cfgParam (hs : Follows s₀ s) : Follows s₀ s.cfgParam := hs.recDo fun _ _ hs => hs.setBoot.cfgNext

theorem cfgEnd (hs : Follows s₀ s) : Follows s₀ s.cfgEnd := hs.recDo (fun _ _ hs => (hs.setBoot.wr.raise.ite hs.setBoot.wr).toBoot)

theorem bootCluster {c : Fin 12} {at_ : Nat} {img : List Byte} (hs : Follows s₀ s) : Follows s₀ (s.bootCluster c at_ img).2 :=
  ((((((hs.memWrite.ite hs.memRefuse).wr).wr).wr).loadStart).loadFinish).pair

theorem bootClusters {b : Nat} {at_ : Fin 12 → Nat} {l : List (Fin 12)} (hs : Follows s₀ s) :
    Follows s₀ (State.bootClusters b at_ l s).2 := by
  induction l generalizing s with
  | nil => exact hs
  | cons c l ih =>
    unfold State.bootClusters
    exact (ih hs.bootCluster).ite_snd hs.bootCluster.pair

theorem bootPipes {b : Nat} {words : List (BitVec 26 × Word)} (hs : Follows s₀ s) : Follows s₀ (s.bootPipes b words) :=
  (hs.foldl (fun _ _ hs => hs.ownerWrite)).foldl fun _ _ hs => hs.matSwap.ite hs

theorem bootUcode {b : Nat} {fail : BitVec 32} (hs : Follows s₀ s) : Follows s₀ (s.bootUcode b fail).2 :=
  ((hs.foldl (fun _ _ hs => hs.ucodeCore)).pair).ite_snd hs

theorem bootLoad {copy : BitVec 40} {imgs : Vector (BitVec 40) 12} {words : List (BitVec 26 × Word)} {fail : BitVec 32} {e : Ecc}
    (hs : Follows s₀ s) : Follows s₀ (s.bootLoad copy imgs words fail e) := by
  unfold State.bootLoad
  refine hs.ite (hs.memRefuse.bootFail.ite (hs.ite (hs.memWrite.setBoot.rehash.bootFail.ite ?_)))
  dsimp only
  split
  · exact hs.memWrite.setBoot.rehash.bootClusters.bootFail
  · split
    · exact hs.memWrite.setBoot.rehash.bootClusters.bootPipes.bootUcode.bootFail
    · exact hs.memWrite.setBoot.rehash.bootClusters.bootPipes.bootUcode.toBoot

theorem bootStart (hs : Follows s₀ s) : Follows s₀ s.bootStart :=
  hs.ite ((((hs.wr.setTl.resume.ite hs).foldl (fun _ _ hs => hs.resume.ite hs)).foldl (fun _ _ hs => hs.resume.ite hs)).setBoot)

theorem bootForward (hs : Follows s₀ s) : Follows s₀ s.bootForward :=
  hs.ite ((hs.toBoot.foldl (fun _ _ hs => hs.hpSetReady.ite hs)).raise)

theorem bankConfirm {n : Nat} (hs : Follows s₀ s) : Follows s₀ (s.bankConfirm n) :=
  hs.ite (((hs.putDesc.setFld.ite hs.putDesc).setFld).ite (hs.putDesc.setFld.ite hs.putDesc))

theorem recHello (hs : Follows s₀ s) : Follows s₀ s.recHello := hs.ite hs.recSend.recSend.setBoot

theorem recBegin {m : RecMsg} (hs : Follows s₀ s) : Follows s₀ (s.recBegin m) :=
  hs.recAnswer.ite (hs.recAnswer.ite (hs.recAnswer.ite (hs.setBoot.recAnswer.ite hs.putDesc.flashErase.setBoot.recAnswer)))

theorem recData {m : RecMsg} {err : Bool} (hs : Follows s₀ s) : Follows s₀ (s.recData m err) := by
  unfold State.recData
  split
  · exact hs.recAnswer
  · exact hs.recAnswer.ite (hs.bump.recAnswer.ite (hs.flashSpoil.recAnswer.ite
      ((hs.flashProgram.setBoot.putDesc.ite hs.flashProgram.setBoot).recAnswer)))

theorem recEnd {m : RecMsg} {err : Bool} (hs : Follows s₀ s) : Follows s₀ (s.recEnd m err) := by
  unfold State.recEnd
  split
  · exact hs.recAnswer
  · exact hs.recAnswer.ite ((hs.setBoot.putDesc.setBoot.ite hs.setBoot.putDesc).recAnswer)

theorem recAuto (hs : Follows s₀ s) : Follows s₀ s.recAuto := by
  unfold State.recAuto
  split
  · exact hs
  · exact hs.deviceReset.ite hs

/-! ### Dbg -/

theorem wordReset {a : Nat} {c : Card} (hs : Follows s₀ s) : Follows s₀ (s.wordReset a c) := hs.setCnt.ite hs.wr

theorem aonLost {a : Nat} {y : Synd} (hs : Follows s₀ s) : Follows s₀ (s.aonLost a y) := hs.raiseAt.setFld.beside

theorem aonFix {a : Nat} {majority : Bool} (hs : Follows s₀ s) : Follows s₀ (s.aonFix a majority) := by
  unfold State.aonFix
  split
  · exact hs
  · exact hs.ite (hs.raiseAt.ite (hs.wordReset.aonLost.tqTransition.chainTqEvent.ite hs.wordReset.aonLost))

theorem capture_ (hs : Follows s₀ s) : Follows s₀ s.capture_ := by
  unfold State.capture_
  split
  · exact hs.emit
  · exact hs.draw.emit
  · exact hs.draw.emit
  · exact hs.emit
  · exact hs.emit

theorem tapAccess {write : Bool} {a v : Nat} {x : WEnv} (hs : Follows s₀ s) : Follows s₀ (s.tapAccess write a v x).2.2 :=
  hs.ite_snd_snd ((hs.reject.pair₂.ite_snd_snd hs).ite_snd_snd (hs.wroteBad.pair₂.ite_snd_snd hs.ownerRead.pair₂))

theorem tapScan {dr : Nat} {x : WEnv} (hs : Follows s₀ s) : Follows s₀ (s.tapScan dr x) := hs.ite hs.capture_.tapAccess.setDbg

theorem jtagCtrl {v : Nat} (hs : Follows s₀ s) : Follows s₀ (s.jtagCtrl v) := hs.dbgCtrl.ite hs.reject

theorem jtagThr {act : Nat} {t : Fin 1536} (hs : Follows s₀ s) : Follows s₀ (s.jtagThr act t) := hs.thrCtrl.ite hs.reject

theorem bkptHit {c e : Nat} (hs : Follows s₀ s) : Follows s₀ (s.bkptHit c e) := by
  unfold State.bkptHit
  split
  · exact hs
  · exact hs.bpHalt.ite hs

/-! ### Pwr -/

theorem standbyReached (hs : Follows s₀ s) : Follows s₀ s.standbyReached :=
  hs.ite (((((hs.setFld.setFld.raise.foldl (fun _ _ hs => hs.setUnit)).lanePower).foldl (fun _ _ hs => hs.sleepCh)).leaveStandby).ite
    (((hs.setFld.setFld.raise.foldl (fun _ _ hs => hs.setUnit)).lanePower).foldl (fun _ _ hs => hs.sleepCh)))

theorem unitGate {u : Nat} (hs : Follows s₀ s) : Follows s₀ (s.unitGate u) := hs.setUnit.ite hs

theorem unitWakeDone {u : Nat} (hs : Follows s₀ s) : Follows s₀ (s.unitWakeDone u) := by
  unfold State.unitWakeDone
  split
  · exact hs
  · exact ((hs.setUnit.foldl (fun _ _ hs => hs.kick)).ite hs.setUnit).ite hs

theorem heldReset {g : Hold → Hold} (hs : Follows s₀ s) : Follows s₀ (s.heldReset g) := hs.setPw.ite hs.setPw.restart

theorem sysrefLoss (hs : Follows s₀ s) : Follows s₀ s.sysrefLoss := by
  unfold State.sysrefLoss
  refine hs.ite ((heldReset ?_).showEst)
  split
  · exact hs.setFld.setFld.raise
  · exact hs.setFld.setFld.raise.ite hs.setFld.setFld.raise.srcLost

theorem sysrefReturn (hs : Follows s₀ s) : Follows s₀ s.sysrefReturn := hs.setFld.setFld.setPw.showEst.ite hs

theorem thermTrip {n v : Nat} (hs : Follows s₀ s) : Follows s₀ (s.thermTrip n v) := hs.tempSet.ite hs.tempSet.raise.setPw.heldReset.emit

theorem thermClear {v : Vector (BitVec 12) 8} (hs : Follows s₀ s) : Follows s₀ (s.thermClear v) :=
  (((hs.foldl (fun _ _ hs => hs.tempSet)).setPw).emit).ite (hs.foldl (fun _ _ hs => hs.tempSet))

theorem sentinelsDue {l : List (BitVec 24)} (hs : Follows s₀ s) : Follows s₀ (s.sentinelsDue l) := hs.sentinels.ite hs

theorem laneAdapt {q l eye : Nat} (hs : Follows s₀ s) : Follows s₀ (s.laneAdapt q l eye) := hs.setFld.setPw.raise.ite hs.setFld

theorem hourTick (hs : Follows s₀ s) : Follows s₀ s.hourTick := hs.ite ((hs.bump.bump.ite hs.bump).setPw)

/-! ### Regs -/

theorem readFor {q : Req} {a be : Nat} (hs : Follows s₀ s) : Follows s₀ (s.readFor q a be) := hs.regRead.pair.answer.ite hs

theorem twice {wide : Bool} {go : Nat → State → Nat × State} (hs : Follows s₀ s) (hg : ∀ k u, Follows s₀ u → Follows s₀ (go k u).2) :
    Follows s₀ (Machine.twice wide go s).2 := by
  unfold Machine.twice
  exact ((hg 1 _ (hg 0 _ hs)).pair).ite_snd (hg 0 _ hs).pair

theorem barAccess {f : Fin 260} {second : Bool} {off : Nat} {wide : Bool} {be : Nat} {wr : Option Nat} {ep : Bool} {x : WEnv}
  (hs : Follows s₀ s) : Follows s₀ (s.barAccess f second off wide be wr ep x) := by
  unfold State.barAccess
  split
  · exact hs
  · rename_i e
    refine hs.ite ?_
    dsimp only
    split
    · exact hs.emit.emit
    · exact hs.emit
    · exact (hs.twice (fun _ _ hs => hs.regRead.pair)).emit
    · exact hs.poisoned.ite (hs.twice (fun _ _ hs => hs.regWrite.pair))

end Sys2Proof.Machine.Follows
end

section
/-! Every command, and the passing of time, leave the queue and keep the tables canonical. -/
namespace Sys2Proof.Machine

/-- A command answers a next state, and that state follows. -/
def Leads (s₀ : State) (r : Res) : Prop := ∃ t, r = .next t ∧ Follows s₀ t

namespace Follows
variable {s₀ s t : State}

theorem leads (ht : Follows s₀ t) : Leads s₀ (.next t) := ⟨t, rfl, ht⟩

theorem idle (hs : Follows s₀ s) : Follows s₀ (Machine.idle s) := hs.passTime.modPulses.unitsBusy

end Follows

open Follows in
theorem exec_leads (c : Instr) (s : State) : Leads s (exec c s) := by
  have hs := Follows.refl s
  cases c with
  | registerWrite => exact leads (hs.regWrite.ite hs)
  | counterLowRead => exact hs.readFor.leads
  | readClear => exact hs.readFor.leads
  | commit => exact hs.commit.leads
  | commitApply => exact hs.commitApply.leads
  | quiesce => exact hs.quiesce.leads
  | quiesceDone => exact hs.quiesced.leads
  | quiesceTimeout => exact hs.quiesceLate.leads
  | resume => exact hs.resume.leads
  | blockReset => exact hs.blockReset.leads
  | powerOn => exact hs.powerOn.leads
  | deviceReset => exact hs.deviceReset.leads
  | timeSet => exact hs.adjWrite.leads
  | timeStep => exact hs.adjWrite.leads
  | setStepApply => exact hs.setStepApply.leads
  | adjPpsTimeout => exact hs.adjPpsTimeout.leads
  | secondBoundaryEval => exact hs.secondBoundaryEval.leads
  | srcChange => exact hs.srcChange.leads
  | ppsInEdge => exact hs.ppsInEdge.leads
  | ppsInputLost => exact hs.ppsInputLost.leads
  | tenMhzLost => exact hs.tenMhzLost.leads
  | servoWrite => exact hs.servoWrite.leads
  | servoTimeout => exact hs.servoTimeout.leads
  | leapApply => exact hs.leapApply.leads
  | ppsOutRise => exact hs.ppsOutRise.leads
  | ppsOutFall => exact hs.ppsOutFall.leads
  | timBlockReset => exact leads (hs.ite hs.timReset.raise)
  | timeNowRead => exact leads (Follows.answer hs.timeNowRead)
  | tsuCalStart => exact hs.tsuCalStart.leads
  | tsuCalDone => exact hs.tsuCalDone.leads
  | txtsPop => exact leads (Follows.answer hs.txtsPop)
  | ptmDialogueStart => exact hs.ptmDialogueStart.leads
  | ptmResponse => exact hs.ptmResponse.leads
  | ptmTimeout => exact hs.ptmTimeout.leads
  | ptmStatRead => exact leads (Follows.answer hs.ptmStatRead)
  | linkNsExpire => exact hs.linkNsExpire.leads
  | cpIntervalExpire => exact hs.cpIntervalExpire.leads
  | cpMaxExpire => exact hs.cpMaxExpire.leads
  | cpReq => exact hs.cpReq.leads
  | cpDeferredTake => exact hs.cpDeferredTake.leads
  | tqStoreFlush => exact hs.flushTq.leads
  | cpSign => exact hs.cpSign.leads
  | cpSignDone => exact hs.cpSignDone.leads
  | ringReadback => exact hs.ringReadback.leads
  | drainWrite => exact hs.drainWrite.leads
  | drainConsWrite => exact hs.drainConsWrite.leads
  | flitSend => exact hs.flitSend.leads
  | idleFlitSend => exact hs.idleFlitSend.leads
  | retCredit => exact hs.retCredit.leads
  | retAck => exact hs.retLock.ackTo.leads
  | retNak => exact hs.retNak.leads
  | retTrain => exact hs.retTrain.leads
  | retRetrain => exact hs.retRetrain.leads
  | retHealth => exact hs.retHealth.leads
  | retIdle => exact hs.retLock.leads
  | retBadWord => exact hs.retBad.leads
  | strAckTimeout => exact hs.strAckTimeout.leads
  | strTrainTimeout => exact hs.strTrainTimeout.leads
  | strTrainRestart => exact hs.strTrainRestart.leads
  | strRetrainWrite => exact hs.strRetrainWrite.leads
  | strRefclkLoss => exact hs.strRefclkLoss.leads
  | strRefclkReturn => exact hs.setFld.strTryTrain.leads
  | retLockLoss => exact hs.retLockLoss.leads
  | portEnWrite => exact hs.portCtrl.leads
  | portRestart => exact hs.portRestart.leads
  | signalLock => exact hs.signalLock.leads
  | anLtDone => exact hs.anLtDone.leads
  | linkTrainTimeout => exact hs.trainTimeout.leads
  | alignQualified => exact hs.alignQualified.leads
  | alignTimeout => exact hs.alignTimeout.leads
  | faultDetect => exact hs.faultDetect.leads
  | faultCleared => exact hs.faultCleared.leads
  | signalLoss => exact hs.signalLoss.leads
  | rxFrame => exact hs.rxFrame.leads
  | pauseExpire => exact hs.pauseExpire.leads
  | pauseWdFire => exact hs.pauseWdFire.leads
  | pauseIgnoreEnd => exact hs.pauseIgnoreEnd.leads
  | xoffRepeat => exact hs.xoffRepeat.leads
  | txStart => exact hs.txStart.leads
  | txEnd => exact hs.txEnd.leads
  | saWrite => exact hs.saSel.leads
  | saRead => exact hs.saSel.leads
  | modXferStart => exact hs.modXferStart.leads
  | modXferEnd => exact hs.modXferEnd.leads
  | modReset => exact hs.modReset.leads
  | modInsert => exact hs.modInsert.leads
  | modRemove => exact hs.modRemove.leads
  | modInt => exact hs.modInt.leads
  | ingressPass => exact hs.ingressSlot.leads
  | recircPass => exact hs.recircSlot.leads
  | injectSlot => exact hs.injectSlot.leads
  | prsScrubRead => exact hs.prsScrub.leads
  | matScrubRead => exact hs.matScrub.leads
  | fwdScrubRead => exact hs.fwdScrub.leads
  | swapIn => exact hs.matSwap.leads
  | swapEg => exact hs.matSwap.leads
  | swapRetire => exact hs.swapRetire.leads
  | egressPass => exact hs.egressSlot.leads
  | fwdInsert => exact hs.fwdCommand.leads
  | fwdUpdate => exact hs.fwdCommand.leads
  | fwdDelete => exact hs.fwdCommand.leads
  | fwdRead => exact hs.fwdCommand.leads
  | fwdWriteSlot => exact hs.fwdCommand.leads
  | fwdReadSlot => exact hs.fwdCommand.leads
  | fwdClearSlot => exact hs.fwdCommand.leads
  | fwdFlush => exact hs.fwdCommand.leads
  | fwdClear => exact hs.fwdCommand.leads
  | fwdCmdDone => exact hs.fwdCmdDone.leads
  | learnedInsert => exact hs.learnedInsert.leads
  | ageSweep => exact hs.ageSweep.leads
  | fwdNotifyPop => exact leads (Follows.answer hs.notifyPop)
  | seqAdmit => exact hs.seqAdmitNow.leads
  | seqEmit => exact hs.seqEmitNow.leads
  | prfFetch => exact hs.prfFetch.leads
  | prfRelease => exact hs.prfRelease.leads
  | prfGroupTimeout => exact hs.prfGroupTimeout.leads
  | prfCalStart => exact hs.prfCalWrite.leads
  | prfCalDone => exact hs.prfCalDone.leads
  | schDequeue => exact hs.schDequeue.leads
  | deepRefillDone => exact hs.deepRefill.leads
  | orbGateEdge => exact hs.gateEdge.leads
  | orbBankTakeover => exact hs.orbTakeover.leads
  | orbSwitchWrite => exact hs.settlePort.orbWrite.leads
  | orbEnWrite => exact hs.settlePort.orbWrite.leads
  | fitDiscard => exact hs.fitDiscard.leads
  | polWrite => exact hs.polSel.leads
  | polRead => exact hs.polSel.leads
  | quantumExpire => exact hs.quantumExpire.leads
  | stallComplete => exact hs.stallComplete.leads
  | eventWake => exact hs.eventWake.leads
  | timerFire => exact leads (hs.setThr.ite hs)
  | engSignalWrite => exact hs.engSignal.leads
  | dlRescue => exact hs.dlRescue.leads
  | deadlockDetect => exact hs.deadlockDetect.leads
  | chnHoldDetect => exact hs.chnHold.leads
  | chnVoidWrite => exact hs.chnVoidWrite.leads
  | chnCfgReset => exact hs.chnReset.leads
  | engLoadStart => exact hs.loadStart.leads
  | engLoadEnd => exact hs.loadFinish.leads
  | clusterSafe => exact hs.clusterSafe.leads
  | illegalInstruction => exact leads (hs.issue (fun _ _ => hs.thrFault))
  | iAdd => exact leads (hs.issue (fun _ _ => hs.alu))
  | iSub => exact leads (hs.issue (fun _ _ => hs.alu))
  | iAnd => exact leads (hs.issue (fun _ _ => hs.alu))
  | iOr => exact leads (hs.issue (fun _ _ => hs.alu))
  | iXor => exact leads (hs.issue (fun _ _ => hs.alu))
  | iAndn => exact leads (hs.issue (fun _ _ => hs.alu))
  | iSll => exact leads (hs.issue (fun _ _ => hs.alu))
  | iSrl => exact leads (hs.issue (fun _ _ => hs.alu))
  | iSra => exact leads (hs.issue (fun _ _ => hs.alu))
  | iRor => exact leads (hs.issue (fun _ _ => hs.alu))
  | iSlt => exact leads (hs.issue (fun _ _ => hs.alu))
  | iSltu => exact leads (hs.issue (fun _ _ => hs.alu))
  | iMin => exact leads (hs.issue (fun _ _ => hs.alu))
  | iMax => exact leads (hs.issue (fun _ _ => hs.alu))
  | iMinu => exact leads (hs.issue (fun _ _ => hs.alu))
  | iMaxu => exact leads (hs.issue (fun _ _ => hs.alu))
  | iMul => exact leads (hs.issue (fun _ _ => hs.alu))
  | iMulh => exact leads (hs.issue (fun _ _ => hs.alu))
  | iMulhu => exact leads (hs.issue (fun _ _ => hs.alu))
  | iClz => exact leads (hs.issue (fun _ _ => hs.alu))
  | iCtz => exact leads (hs.issue (fun _ _ => hs.alu))
  | iPopc => exact leads (hs.issue (fun _ _ => hs.alu))
  | iBswap => exact leads (hs.issue (fun _ _ => hs.alu))
  | iBswap32 => exact leads (hs.issue (fun _ _ => hs.alu))
  | iBswap16 => exact leads (hs.issue (fun _ _ => hs.alu))
  | iAddi => exact leads (hs.issue (fun _ _ => hs.alui))
  | iAndi => exact leads (hs.issue (fun _ _ => hs.alui))
  | iOri => exact leads (hs.issue (fun _ _ => hs.alui))
  | iXori => exact leads (hs.issue (fun _ _ => hs.alui))
  | iSlti => exact leads (hs.issue (fun _ _ => hs.alui))
  | iSltiu => exact leads (hs.issue (fun _ _ => hs.alui))
  | iShi => exact leads (hs.issue (fun _ _ => hs.alui))
  | iInsh => exact leads (hs.issue (fun _ _ => hs.putRd))
  | iBfx => exact leads (hs.issue (fun _ _ => hs.alui))
  | iBfi => exact leads (hs.issue (fun _ _ => hs.putRd))
  | iLdb => exact leads (hs.issue (fun _ _ => hs.load))
  | iLdh => exact leads (hs.issue (fun _ _ => hs.load))
  | iLdw => exact leads (hs.issue (fun _ _ => hs.load))
  | iLdd => exact leads (hs.issue (fun _ _ => hs.load))
  | iLdbs => exact leads (hs.issue (fun _ _ => hs.load))
  | iLdhs => exact leads (hs.issue (fun _ _ => hs.load))
  | iLdws => exact leads (hs.issue (fun _ _ => hs.load))
  | iStb => exact leads (hs.issue (fun _ _ => hs.store))
  | iSth => exact leads (hs.issue (fun _ _ => hs.store))
  | iStw => exact leads (hs.issue (fun _ _ => hs.store))
  | iStd => exact leads (hs.issue (fun _ _ => hs.store))
  | iBeq => exact leads (hs.issue (fun _ _ => hs.branch))
  | iBne => exact leads (hs.issue (fun _ _ => hs.branch))
  | iBlt => exact leads (hs.issue (fun _ _ => hs.branch))
  | iBge => exact leads (hs.issue (fun _ _ => hs.branch))
  | iBltu => exact leads (hs.issue (fun _ _ => hs.branch))
  | iBgeu => exact leads (hs.issue (fun _ _ => hs.branch))
  | iJal => exact leads (hs.issue (fun _ _ => hs.jal))
  | iJalr => exact leads (hs.issue (fun _ _ => hs.jalr))
  | iAmoSwap => exact leads (hs.issue (fun _ _ => hs.amo))
  | iAmoAdd => exact leads (hs.issue (fun _ _ => hs.amo))
  | iAmoAnd => exact leads (hs.issue (fun _ _ => hs.amo))
  | iAmoOr => exact leads (hs.issue (fun _ _ => hs.amo))
  | iAmoCas => exact leads (hs.issue (fun _ _ => hs.amo))
  | iAmoMax => exact leads (hs.issue (fun _ _ => hs.amo))
  | iAmoMin => exact leads (hs.issue (fun _ _ => hs.amo))
  | iMrd => exact leads (hs.issue (fun _ _ => hs.issueSpecial))
  | iMwr => exact leads (hs.issue (fun _ _ => hs.issueSpecial))
  | iDlk => exact leads (hs.issue (fun _ _ => hs.issueSpecial))
  | iRcv => exact leads (hs.issue (fun _ _ => hs.issueSpecial))
  | iPbr => exact leads (hs.issue (fun _ _ => hs.issueSpecial))
  | iPbw => exact leads (hs.issue (fun _ _ => hs.issueSpecial))
  | iFrmAlloc => exact leads (hs.issue (fun _ _ => hs.issueSpecial))
  | iFrmFree => exact leads (hs.issue (fun _ _ => hs.issueSpecial))
  | iFrmSetlen => exact leads (hs.issue (fun _ _ => hs.issueSpecial))
  | iFrmCopy => exact leads (hs.issue (fun _ _ => hs.issueSpecial))
  | iEmit => exact leads (hs.issue (fun _ _ => hs.issueSpecial))
  | iChnRes => exact leads (hs.issue (fun _ _ => hs.issueSpecial))
  | iChnWr => exact leads (hs.issue (fun _ _ => hs.issueSpecial))
  | iChnCmt => exact leads (hs.issue (fun _ _ => hs.issueSpecial))
  | iChnRd => exact leads (hs.issue (fun _ _ => hs.issueSpecial))
  | iEvtWait => exact leads (hs.issue (fun _ _ => hs.ilkWait))
  | iEvtSignal => exact leads (hs.issue (fun _ _ => hs.issueSpecial))
  | iEvtPark => exact leads (hs.issue (fun _ _ => hs.ilkPark))
  | iEvtTmr => exact leads (hs.issue (fun _ _ => hs.issueSpecial))
  | iEvtTmrx => exact leads (hs.issue (fun _ _ => hs.issueSpecial))
  | iCsub => exact leads (hs.issue (fun _ _ => hs.issueSpecial))
  | iCrb => exact leads (hs.issue (fun _ _ => hs.issueSpecial))
  | iTsr => exact leads (hs.issue (fun _ _ => hs.ilkTsr))
  | iSysNop => exact leads (hs.issue (fun _ _ => hs.status))
  | iSysRdsts => exact leads (hs.issue (fun _ _ => hs.ilkRdsts))
  | iSysBkpt => exact leads (hs.issue (fun _ _ => hs.ilkBkpt))
  | iSysTrap => exact leads (hs.issue (fun _ _ => hs.thrFault))
  | slowPathHandle => exact hs.svcSets.slowHandle.leads
  | reasmTimeout => exact hs.reasmLate.leads
  | tcpSegmentRx => exact hs.tcpFrame.leads
  | tcpRetransmitTimeout => exact hs.tcpRetry.leads
  | tlsRecordRx => exact hs.tlsGo.leads
  | espPacketRx => exact hs.espFrame.leads
  | nvmePduRx => exact hs.nvmeGo.leads
  | contextFree => exact hs.ctxFreeNow.leads
  | crumbDrain => exact hs.crumbDrain.leads
  | crumbGap => exact hs.crumbGap.leads
  | ckptTimer => exact hs.ckptTimer.leads
  | ckptReq => exact hs.ckptReq.leads
  | ckptDone => exact hs.ckptDone.leads
  | rplFreeze => exact hs.rplFreeze.leads
  | rplUnfreeze => exact hs.rplUnfreeze.leads
  | rplStart => exact hs.rplStart.leads
  | replayConsume => exact hs.feedOn.consume.leads
  | replayEnd => exact hs.feedOn.replayEnd.leads
  | rplAbort => exact hs.rpEnd.leads
  | replayStuck => exact hs.feedOn.replayStuck.leads
  | cipCoreStart => exact hs.coreStart.leads
  | urgentPreempt => exact hs.preempt.leads
  | cipMsgDone => exact hs.msgDone.leads
  | coreTest => exact hs.coreTest.leads
  | coreTestDone => exact hs.coreTestDone.leads
  | keyOpen => exact hs.attrWrite.leads
  | keyValidate => exact hs.attrWrite.leads
  | keyMatWrite => exact hs.matWrite.leads
  | keyZero => exact hs.keyZero.leads
  | keyZeroizeDone => exact hs.zeroizeDone.leads
  | kwWrap => exact hs.kwStart.leads
  | kwUnwrap => exact hs.kwStart.leads
  | kwDone => exact hs.kwDone.leads
  | memRequest => exact hs.memRequest.leads
  | memReqComplete => exact hs.memComplete.leads
  | panicLong => exact hs.panicLong.leads
  | refiTick => exact hs.refiTick.leads
  | refreshIssue => exact hs.refreshIssue.leads
  | selfRefreshEnter => exact hs.selfRefreshEnter.leads
  | selfRefreshExit => exact hs.selfRefreshExit.leads
  | tempReport => exact hs.tempReport.leads
  | retrainSlice => exact hs.retrainSlice.leads
  | retrainDeferExpire => exact hs.retrainForced.leads
  | edcMismatch => exact hs.edcMismatch.leads
  | memChQuiesce => exact hs.chQuiesce.leads
  | memChQuiesced => exact hs.chQuiesced.leads
  | memChQuiesceTimeout => exact hs.chQuiesceTimeout.leads
  | memChTrain => exact hs.chTrain.leads
  | memChTrainEnd => exact hs.chTrainEnd.leads
  | memChResume => exact hs.chResume.leads
  | memChReset => exact hs.chReset.leads
  | memChHoldExpire => exact hs.holdExpire.leads
  | mciInitStart => exact hs.initStart.leads
  | mciInitEnd => exact hs.initEnd.leads
  | perstAssert => exact hs.perstOn.leads
  | perstDeassert => exact hs.perstOff.leads
  | dlUp => exact hs.dlUp.leads
  | hifTrainTimeout => exact hs.trainAgain.leads
  | hifLinkLoss => exact hs.linkLoss.leads
  | hpReady => exact hs.hpSetReady.leads
  | hpDown => exact hs.hpTakeDown.leads
  | configRequest => exact hs.cfgReq.leads
  | barAccess => exact hs.barAccess.leads
  | windowTlp => exact hs.windowTlp.leads
  | dmaReadRequest => exact hs.dmaRequest.leads
  | cplArrive => exact hs.cplArrive.leads
  | cplTimeout => exact hs.cplTimeout.leads
  | tagQuarantineEnd => exact hs.quarEnd.leads
  | bmeClear => exact hs.bmeClear.leads
  | bmeSet => exact hs.bmeOn.leads
  | bmeExpire => exact hs.bmeExpire.leads
  | flr => exact hs.flr.leads
  | flrDone => exact hs.flrDone.leads
  | vfEnableChange => exact hs.vfChange.leads
  | msixSend => exact hs.msixPend.leads
  | winCommit => exact hs.winCommit.leads
  | winFlip => exact hs.winFlip.leads
  | oldBusyClear => exact hs.oldBusy.leads
  | mbxSend => exact hs.mbxSend.leads
  | mbxResponse => exact hs.mbxRespond.leads
  | mbxQuery => exact leads (hs.mbxServe fun _ _ _ h => serves h.ans)
  | txqCreate => exact leads (hs.mbxServe fun _ _ _ h => serves h.queCreate)
  | rxqCreate => exact leads (hs.mbxServe fun _ _ _ h => serves h.queCreate)
  | qDestroy => exact leads (hs.mbxServe fun _ _ _ h => serves h.queDestroy)
  | keyLoad => exact leads (hs.mbxServe fun _ _ _ h => serves h.keyLoad)
  | keyFree => exact leads (hs.mbxServe fun _ _ _ h => serves h.keyFree)
  | mbxOpen => exact leads (hs.mbxServe fun _ _ _ h => h.sessOpen)
  | mbxListen => exact leads (hs.mbxServe fun _ _ _ h => serves h.sessListen)
  | mbxModify => exact leads (hs.mbxServe fun _ _ _ h => h.sessModify)
  | mbxClose => exact leads (hs.mbxServe fun _ _ _ h => h.sessEnd)
  | mbxAbort => exact leads (hs.mbxServe fun _ _ _ h => h.sessEnd)
  | windowSet => exact leads (hs.mbxServe fun _ _ _ h => h.windowSet)
  | fnFreeze f =>
    cases f with
    | some f => exact leads (hs.fnCtrl fun _ e => hs.fnFreeze e)
    | none => exact leads (hs.fnMail fun _ _ _ h e => h.fnFreeze e)
  | fnThaw f =>
    cases f with
    | some f => exact leads (hs.fnCtrl fun _ e => hs.fnThaw e)
    | none => exact leads (hs.fnMail fun _ _ _ h e => h.fnThaw e)
  | fnReset f =>
    cases f with
    | some f => exact leads (hs.fnCtrl fun _ e => hs.fnResetCmd e)
    | none => exact leads (hs.fnMail fun _ _ _ h e => h.fnResetCmd e)
  | fnCleanupDone => exact hs.cleanupDone.leads
  | freezeQuiet => exact hs.freezeQuiet.leads
  | freezeTimeout => exact hs.freezeLate.leads
  | migKeyx => exact leads (hs.mbxServe fun _ _ _ h => serves h.migKeyx)
  | migAccept => exact leads (hs.mbxServe fun _ _ _ h => serves h.migAccept)
  | logStart => exact leads (hs.mbxServe fun _ _ _ h => serves h.logStart)
  | logSync => exact leads (hs.mbxServe fun _ _ _ h => serves h.logSync)
  | logStop => exact leads (hs.mbxServe fun _ _ _ h => serves h.logStop)
  | mbxSave => exact leads (hs.mbxServe fun _ _ _ h => serves h.migSave)
  | mbxRestore => exact leads (hs.mbxServe fun _ _ _ h => ite_served (serves h.ans) h.migRestore)
  | badOpcode => exact leads (hs.mbxServe fun _ _ _ h => serves h.ans)
  | txqPiWrite => exact hs.piWrite.leads
  | txqCiWrite => exact hs.ciWrite.leads
  | rxqPiWrite => exact hs.piWrite.leads
  | rxqCiWrite => exact hs.ciWrite.leads
  | txDescFetched => exact hs.txFetched.leads
  | txCompletion => exact hs.txComplete.leads
  | rxDeliver => exact hs.rxGo.leads
  | queueDrainDone => exact hs.drainDone.leads
  | quotaWrite => exact leads (hs.quotaQ.ite hs.quotaS)
  | bootRomStart => exact hs.romStart.leads
  | bootSelfTest => exact hs.selfTest.leads
  | bootFlash => exact leads (hs.ite (hs.toBoot.ite hs.bootFail))
  | bootVerify => exact hs.bootVerify.leads
  | bootMgcStart => exact hs.bootMgcStart.leads
  | bootConfig => exact hs.bootConfig.leads
  | cfgRecWrite => exact hs.cfgWrite.leads
  | cfgRecWait => exact hs.cfgWait.leads
  | cfgRecDelay => exact hs.cfgDelay.leads
  | cfgRecParam => exact hs.cfgParam.leads
  | cfgRecEnd => exact hs.cfgEnd.leads
  | bootLoad => exact hs.bootLoad.leads
  | bootStartBlocks => exact hs.bootStart.leads
  | bootForwarding => exact hs.bootForward.leads
  | bootFailed => exact leads (hs.bootFail.ite hs)
  | genSemAcquire => exact hs.semWrite.leads
  | genSemRelease => exact hs.semWrite.leads
  | wdtKick => exact hs.wdtKick.leads
  | wdtExpire => exact hs.wdtExpire.leads
  | mgcRestart => exact hs.setFld.mgcRestart.leads
  | mgcConfirm bank =>
    cases bank with
    | none => exact leads hs.mgcConfirm
    | some b => exact leads hs.mgcConfirm.bankConfirm
  | trialTimeout => exact hs.trialTimeout.leads
  | ucodeLoad => exact hs.ucodeStart.leads
  | ucodeDone => exact hs.ucodeDone.leads
  | flashErase => exact hs.wr.flashCmd.leads
  | flashProgram => exact hs.sramPut.wr.flashCmd.leads
  | flashOpDone => exact hs.flashDone.leads
  | custLock => exact hs.otpWrite.leads
  | svnMinRaise => exact hs.otpWrite.leads
  | recHello => exact hs.recHello.leads
  | recBegin => exact leads (hs.recIn fun _ _ hs => hs.recBegin)
  | recData => exact leads (hs.recIn fun _ _ hs => hs.recData)
  | recEnd => exact leads (hs.recIn fun _ _ hs => hs.recEnd)
  | recReboot => exact leads (hs.recIn fun _ _ hs => hs.deviceReset)
  | recAutoReboot => exact hs.recAuto.leads
  | recBadMessage => exact leads (hs.recIn fun _ _ hs => hs)
  | targetHot => exact hs.targetWrite.leads
  | targetWarm => exact hs.targetWrite.leads
  | targetCold => exact hs.targetWrite.leads
  | targetStandby => exact hs.targetWrite.leads
  | standbyWake => exact leads (hs.leaveStandby.ite hs)
  | unitGate => exact hs.unitGate.leads
  | unitWake => exact leads (hs.wakeUnit.ite hs)
  | unitWakeDone => exact hs.unitWakeDone.leads
  | sysrefLoss => exact hs.sysrefLoss.leads
  | sysrefReturn => exact hs.sysrefReturn.leads
  | calEvaluate => exact hs.calEvaluate.leads
  | tjHighCross => exact hs.tempSet.leads
  | thermTrip => exact hs.thermTrip.leads
  | thermClear => exact hs.thermClear.leads
  | sentinelMeasure => exact hs.sentinelsDue.leads
  | laneAdapt => exact hs.laneAdapt.leads
  | hourTick => exact hs.hourTick.leads
  | railDrop => exact hs.heldReset.leads
  | railRecover => exact hs.setPw.leads
  | aonRailDrop => exact hs.powerOn.setPw.leads
  | testEnHigh => exact hs.powerOn.setPw.leads
  | uncorrError => exact hs.toSafe.leads
  | aonCorrection => exact hs.aonFix.leads
  | errStatClear => exact hs.errClear.leads
  | errlogPop => exact leads (Follows.answer hs.logPop)
  | causeStatClear => exact leads (hs.reject.ite hs.causeClear)
  | pendClear => exact leads (hs.pendClear.ite hs.pwr)
  | tapReset => exact hs.setDbg.capture_.leads
  | irLoad => exact hs.setDbg.capture_.leads
  | dbgAccess => exact hs.tapScan.leads
  | dbgChal => exact hs.jtagCtrl.leads
  | dbgVerify => exact hs.jtagCtrl.leads
  | dbgVerifyDone => exact hs.verifyDone.leads
  | dbgChalExpire => exact hs.chalExpire.leads
  | thrHalt => exact hs.jtagThr.leads
  | thrResume => exact hs.jtagThr.leads
  | thrStep => exact hs.jtagThr.leads
  | bkptHit => exact hs.bkptHit.leads
  | thrDataRead => exact leads (Follows.answer (hs.thrDataRead.ite_snd hs.pair))
  | thrDataWrite => exact leads (hs.thrDataWrite.ite hs.reject)
  | dbgMemRead => exact leads (Follows.answer (hs.dbgMemRead.ite_snd hs.pair))
  | dbgMemWrite => exact leads (hs.dbgMemWrite.ite hs.reject)
  | peRefclkPresent => exact hs.refclkOn.leads
  | tenMhzReturn => exact hs.tenMhzReturn.leads
  | tcpKeepaliveTimeout => exact hs.tcpKeep.leads
  | standbyReached => exact hs.standbyReached.leads

end Sys2Proof.Machine
end

section
/-! O5 and O6: a step, of a command or of an empty queue, leaves the tables canonical and the queue to its sender. -/
namespace Sys2Proof.Machine

theorem step_follows (s t : State) (h : step s = .next t) : Follows { s with pending := s.pending.tail } t := by
  unfold step at h
  split at h
  · next e =>
    cases h
    rw [e]
    have : s = { s with pending := [].tail } := by rw [List.tail_nil, ← e]
    exact this ▸ (Follows.refl s).idle
  · next c rest e =>
    rw [e]
    obtain ⟨u, hu, hf⟩ := exec_leads c { s with pending := rest }
    rw [hu] at h
    cases h
    exact hf

end Sys2Proof.Machine

open Sys2Proof Sys2Proof.Machine

/-- Settles O5: every command and every idle step leaves the state by operations that keep the tables canonical (`exec_leads`). -/
theorem everyStepKeepsTheTablesCanonical : Obligations.EveryStepKeepsTheTablesCanonical := by
  intro s t hw h
  exact (step_follows s t h).wf hw

/-- Settles O6: the command at the front is gone before it acts, and no operation of a command touches the queue (`exec_leads`). -/
theorem everyStepLeavesTheQueueToItsSender : Obligations.EveryStepLeavesTheQueueToItsSender := by
  intro s t h
  exact (step_follows s t h).queue
end

section
/-! The state after a power-on reset. -/
open Sys2Proof Sys2Proof.Machine

/-- The card of STATUS, and the blocks that leave reset in RUN (R48). -/
theorem State.blkState_reset (b : Fin 58) : State.reset.blkState (blkBase b) = if runsAtReset (codeOf (blkBase b)) then 0 else 2 := by
  decide +kernel +revert

theorem State.linkState_reset (p : Fin 16) : State.reset.linkState p.val = 0 := by decide +kernel +revert

/-- Settles O3: no register is written in State.reset, so each reads its card's reset value. -/
theorem resetLeavesThePowerOnValues : Obligations.ResetLeavesThePowerOnValues :=
  ⟨rfl, by decide +kernel, by decide +kernel, rfl, State.blkState_reset, fun _ => rfl, by decide +kernel, State.linkState_reset, rfl⟩
end

section
/-! A commit (R37, R38): which staged words become active, and that the crumbs of a cluster's commit touch neither the active copies nor
a STATUS word. -/
namespace Sys2Proof.Machine

theorem mget_of_not_mem_keys {α : Type} (d : Nat → α) (m : Sparse α) (k : Nat) (h : k ∉ m.map (·.1)) : mget d m k = d k := by
  induction m with
  | nil => rfl
  | cons e m ih =>
    rw [List.map_cons, List.mem_cons, not_or] at h
    rw [mget, if_neg h.1]
    exact ih h.2

/-- Writes of `f` at each key of a list. -/
theorem mget_foldl_mput {α : Type} [DecidableEq α] (d f : Nat → α) (l : List Nat) (m : Sparse α) (k : Nat) :
    mget d (l.foldl (fun m a => mput d m a (f a)) m) k = if k ∈ l then f k else mget d m k := by
  induction l generalizing m with
  | nil => rfl
  | cons a l ih =>
    rw [List.foldl_cons, ih, mget_mput]
    by_cases hk : k = a <;> simp [hk]

/-- Every block begins at a multiple of 4 KiB. -/
theorem blkBase_mod (b : Fin 58) : blkBase b % 0x1000 = 0 := by decide +kernel +revert

variable (s : State)

/-! ### Crumbs -/

theorem State.pushCrumb_act (c : Nat) (k : Crumb) : (s.pushCrumb c k).act = s.act := by
  unfold State.pushCrumb
  dsimp only
  split <;> rfl

/-- A crumb writes the fill level of its cluster's capture alone. -/
theorem State.pushCrumb_rd (c : Nat) (k : Crumb) {a : Nat} (ha : a ≠ rplC c + 0x14) : (s.pushCrumb c k).rd a = s.rd a := by
  unfold State.pushCrumb
  dsimp only
  split
  · rfl
  · exact State.rd_setFld_ne _ _ _ _ _ _ ha

/-- The active copies and the STATUS words are those of `s`. -/
def SameActive (s t : State) : Prop := t.act = s.act ∧ ∀ a, a % 0x1000 = 8 → t.rd a = s.rd a

theorem State.crumbs_sameActive {s t : State} (h : SameActive s t) (c : Nat) (l : List Crumb) : SameActive s (t.crumbs c l) := by
  unfold State.crumbs
  split
  · refine List.foldlRecOn (motive := SameActive s) _ _ h fun u hu k _ => ?_
    refine ⟨(u.pushCrumb_act c k).trans hu.1, fun a ha => (u.pushCrumb_rd c k ?_).trans (hu.2 a ha)⟩
    simp only [rplC, rplB]
    omega
  · exact h

theorem State.slotEpochs_sameActive (c : Nat) : SameActive s (s.slotEpochs c) :=
  List.foldlRecOn (motive := SameActive s) _ _ ⟨rfl, fun _ _ => rfl⟩ fun _ hu _ _ => State.crumbs_sameActive hu _ _

/-! ### COMMIT -/

/-- A word with staged fields of the block at `base`. -/
def stagedIn (base a : Nat) : Bool := inBlk base a && (match cardAt a with
  | none => false
  | some c => c.s ≠ 0)

theorem stagedIn_of_card {base a : Nat} {c : Card} (hb : inBlk base a = true) (hc : cardAt a = some c) (hs : c.s ≠ 0) :
    stagedIn base a = true := by
  simp [stagedIn, hb, hc, hs]

/-- The active copies once every staged word of the block is active. -/
def State.actAfter (base : Nat) : Sparse Word :=
  (((s.regs.map (·.1)) ++ (s.act.map (·.1))).filter (stagedIn base)).foldl (fun m a => mput rstAt m a (mget rstAt s.regs a)) s.act

/-- A commit before a cluster's crumbs. -/
def State.activated (base : Nat) : State := { s with act := s.actAfter base }.setFld (base + 8) 3 3 0

theorem State.commitNow_eq (base : Nat) :
    s.commitNow base = if codeOf base = 0x10 then (s.activated base).slotEpochs (instOf base) else s.activated base := rfl

/-- A staged word that neither table lists reads its reset value in both. -/
theorem State.activated_rdA {base a : Nat} (h : stagedIn base a = true) : (s.activated base).rdA a = s.rd a := by
  refine congrArg BitVec.toNat ((mget_foldl_mput rstAt (mget rstAt s.regs) _ s.act a).trans ?_)
  split
  · rfl
  · next hn =>
    have hn : a ∉ s.regs.map (·.1) ∧ a ∉ s.act.map (·.1) := by simpa [List.mem_filter, h, not_or] using hn
    rw [mget_of_not_mem_keys _ _ _ hn.1, mget_of_not_mem_keys _ _ _ hn.2]

theorem State.commitNow_sameActive (b : Fin 58) : SameActive (s.activated (blkBase b)) (s.commitNow (blkBase b)) := by
  rw [State.commitNow_eq]
  split
  · exact State.slotEpochs_sameActive _ _
  · exact ⟨rfl, fun _ _ => rfl⟩

theorem State.commitNow_rdA (b : Fin 58) {a : Nat} (h : stagedIn (blkBase b) a = true) : (s.commitNow (blkBase b)).rdA a = s.rd a := by
  rw [State.rdA, (s.commitNow_sameActive b).1]
  exact s.activated_rdA h

theorem State.commitBusy_commitNow (b : Fin 58) : (s.commitNow (blkBase b)).commitBusy (blkBase b) = false := by
  have hb := blkBase_mod b
  rw [State.commitBusy, State.flag, (s.commitNow_sameActive b).2 _ (by omega)]
  exact State.flag_setFld _ _ _ _ _ _ (by decide) (by decide)

end Sys2Proof.Machine
end

section
open Sys2Proof Sys2Proof.Machine

/-- Settles O10: COMMIT of an idle or QUIESCED block and COMMIT_APPLY of a pending commit are both `State.commitNow`. -/
theorem commitMovesTheStagedSet : Obligations.CommitMovesTheStagedSet := by
  refine ⟨?atOnce, ?later, ?again, ?boundary⟩
  case atOnce =>
    intro s b hb hidle
    refine ⟨s.commitNow (blkBase b), ?_, s.commitBusy_commitNow b, fun a c ha hc hs => s.commitNow_rdA b (stagedIn_of_card ha hc hs)⟩
    refine congrArg Host.Outcome.next ?_
    simp [State.commit, hb, hidle]
  case later =>
    intro s b hb hstate hidle
    refine ⟨s.setFld (blkBase b + 8) 3 3 1, ?_, ?_, State.wr_keeps _ _ _⟩
    · refine congrArg Host.Outcome.next ?_
      simp [State.commit, hb, hstate, hidle]
    · exact State.flag_setFld _ _ _ _ _ _ (by decide) (by decide)
  case again =>
    intro s b hb
    refine congrArg Host.Outcome.next ?_
    simp [State.commit, hb]
  case boundary =>
    intro s b hb
    refine ⟨s.commitNow (blkBase b), ?_, s.commitBusy_commitNow b, fun a c ha hc hs => s.commitNow_rdA b (stagedIn_of_card ha hc hs)⟩
    refine congrArg Host.Outcome.next ?_
    simp [State.commitApply, hb]
end

section
/-! A read of the owner view (R30, R42, R43): the counter's low word with its latch, and the word with RC fields. -/
namespace Sys2Proof.Machine

variable (s : State)

/-- A read of MGC firmware that reaches a register without an effect of its own, latch or pair. -/
structure PlainRead (a : Nat) (i : Inst) (c : Card) : Prop where
  inst : instAt a = some i
  card : cardIn i (a - i.base) = some c
  present : absent i (a - i.base) = false
  acts : s.readActs .mgc i (a - i.base) = none
  latched : latched i (a - i.base) = false
  high : pairHigh i (a - i.base) = false
  low : pairLow i (a - i.base) = false

variable {s} {a : Nat} {i : Inst} {c : Card}

/-- A counter that is no engine's is read from the counter table. -/
theorem State.counter_eq_cnt (h : i.code ≠ 0x10) : s.counter i a = s.cnt a := by
  simp [State.counter, h]

theorem PlainRead.ownerRead_low (h : PlainRead s a i c) (hcnt : c.cnt = true) (hlow : c.isHigh (a - i.base) = false) (hcode : i.code ≠ 0x10) :
    s.ownerRead .mgc a = (bits (s.cnt a) 31 0,
      if c.clr then (s.setLat .mgc i.base (bits (s.cnt a) 63 32)).setCnt a 0 else s.setLat .mgc i.base (bits (s.cnt a) 63 32)) := by
  simp [State.ownerRead, h.inst, h.card, h.present, h.acts, h.latched, h.high, h.low, hcnt, hlow, State.counter_eq_cnt hcode]

theorem PlainRead.ownerRead_rc (h : PlainRead s a i c) (hcnt : c.cnt = false) (hrc : c.rc ≠ 0) :
    s.ownerRead .mgc a = (s.shown i (a - i.base) &&& (top32 - c.wo), s.wr a (s.rd a &&& (top32 - c.rc))) := by
  simp [State.ownerRead, h.inst, h.card, h.present, h.acts, h.latched, h.high, h.low, hcnt, hrc]

/-- What a read latches is read back whole: the key holds a 32-bit word. -/
theorem State.lat_setLat (q : Req) (b v : Nat) : (s.setLat q b (bits v 63 32)).lat q b = bits v 63 32 := by
  simpa [State.lat, State.setLat, mget_mput] using bits_lt v 63 32

end Sys2Proof.Machine
end

section
open Sys2Proof Sys2Proof.Machine

/-- Settles O9: a read of the owner view is `State.ownerRead`, and its answer is one more output. -/
theorem counterReadsLatchTheHighWord : Obligations.CounterReadsLatchTheHighWord := by
  refine ⟨?low, ?rc⟩
  case low =>
    intro s a be c i hi hc ha hcnt hlow hlat hhigh hpair hacts hcode
    have hread := PlainRead.ownerRead_low ⟨hi, hc, ha, hacts, hlat, hhigh, hpair⟩ hcnt hlow hcode
    refine ⟨_, rfl, ?_⟩
    simp only [State.readFor, State.holdsView_mgc, State.regRead, hread, answer, if_true]
    cases c.clr with
    | false => exact ⟨rfl, State.lat_setLat _ _ _, rfl, rfl, fun _ _ => rfl, fun _ _ => rfl⟩
    | true =>
      simp only [if_true]
      refine ⟨rfl, State.lat_setLat _ _ _, ?_, rfl, fun _ _ => rfl, fun b (hb : ¬ b ∈ [a.toNat]) => ?_⟩
      · rw [State.emit_cnt, State.cnt_setCnt, if_pos rfl]
      · rw [State.emit_cnt, State.cnt_setCnt, if_neg (by simpa using hb), State.setLat_cnt]
  case rc =>
    intro s a be c i hi hc ha hcnt hrc hlat hhigh hpair hacts
    have hread := PlainRead.ownerRead_rc ⟨hi, hc, ha, hacts, hlat, hhigh, hpair⟩ hcnt hrc
    have hlt : s.rd a.toNat &&& (top32 - c.rc) < 2 ^ 32 := Nat.and_lt_two_pow _ (Nat.lt_of_le_of_lt (Nat.sub_le _ _) (by decide))
    refine ⟨_, rfl, ?_⟩
    simp only [State.readFor, State.holdsView_mgc, State.regRead, hread, answer, if_true]
    refine ⟨rfl, ?_, rfl, fun b hb => State.rd_wr_ne _ _ _ _ fun e => hb (e ▸ List.mem_singleton_self _), fun _ _ => rfl⟩
    exact (State.rd_wr _ _ _).trans (Nat.mod_eq_of_lt hlt)
end

section
/-! SUPPORT. Words that the datapath leaves alone: STATUS of every block, the time base's registers, and what boot reads back.
A side condition on an address has a tactic as its default proof. Lean runs such a default only once all that stands before it is checked, so
the lemmas that use one are elaborated one after another (`Elab.async`). -/
namespace Sys2Proof.Machine

set_option Elab.async false

/-- STATUS of a block, a word of TIM, TAIL_EPOCH and BOOT_STATE. -/
def Kept (a : Nat) : Prop :=
  a % 0x100000 = 8 ∨ (0x500000 ≤ a ∧ a < 0x600000 ∧ a % 0x1000 = 8) ∨ (0x400000 ≤ a ∧ a < 0x500000) ∨ a = 0x600044 ∨ a = 0x300044

/-- From `s₀` to `s` the words in `p` stay, and with them the clocks, the straps and what is known of the modules. -/
structure Spares (p : Nat → Prop) (s₀ s : State) : Prop where
  rd : ∀ a, p a → s.rd a = s₀.rd a
  tb : s.tb = s₀.tb
  mono : s.mono = s₀.mono
  straps : s.straps = s₀.straps
  mod : s.dp.mod = s₀.dp.mod

namespace Spares
variable {p : Nat → Prop} {s₀ s t : State}

theorem refl (s : State) : Spares p s s := ⟨fun _ _ => rfl, rfl, rfl, rfl, rfl⟩

theorem trans (h : Spares p s₀ s) (k : Spares p s t) : Spares p s₀ t :=
  ⟨fun a ha => (k.rd a ha).trans (h.rd a ha), k.tb.trans h.tb, k.mono.trans h.mono, k.straps.trans h.straps, k.mod.trans h.mod⟩

theorem weaken {q : Nat → Prop} (h : Spares q s₀ s) (w : ∀ a, p a → q a) : Spares p s₀ s :=
  ⟨fun a ha => h.rd a (w a ha), h.tb, h.mono, h.straps, h.mod⟩

theorem fld (h : Spares p s₀ s) {a hi lo : Nat} (ha : p a) : s.fld a hi lo = s₀.fld a hi lo := by
  rw [State.fld, State.fld, h.rd a ha]

theorem flag (h : Spares p s₀ s) {a i : Nat} (ha : p a) : s.flag a i = s₀.flag a i := by
  rw [State.flag, State.flag, h.rd a ha]

/-- Parts beside the registers, the clocks and the straps. -/
theorem beside {pending act cnts latch pregs free out tim tsu log fn tl sl dp boot tfn cip mem en rpl hp svc pw dbg quies}
    (hs : Spares p s₀ s) (hm : dp.mod = s.dp.mod := by rfl) : Spares p s₀ { s with
      pending := pending, act := act, cnts := cnts, latch := latch, pregs := pregs, free := free, out := out, tim := tim, tsu := tsu
      log := log, fn := fn, tl := tl, sl := sl, dp := dp, boot := boot, tfn := tfn, cip := cip, mem := mem, en := en, rpl := rpl, hp := hp
      svc := svc, pw := pw, dbg := dbg, quies := quies } :=
  ⟨hs.rd, hs.tb, hs.mono, hs.straps, hm.trans hs.mod⟩

theorem wrOff {a v : Nat} (hs : Spares p s₀ s) (ha : ¬ p a) : Spares p s₀ (s.wr a v) :=
  ⟨fun b hb => (State.rd_wr_ne s a v b fun e => ha (e ▸ hb)).trans (hs.rd b hb), hs.tb, hs.mono, hs.straps, hs.mod⟩

theorem ite {c : Prop} {_ : Decidable c} (hs : Spares p s₀ s) (ht : Spares p s₀ t) : Spares p s₀ (if c then s else t) := by
  split
  · exact hs
  · exact ht

theorem ite_snd {c : Prop} {_ : Decidable c} {α : Type} {x y : α × State} (hx : Spares p s₀ x.2) (hy : Spares p s₀ y.2) :
    Spares p s₀ (if c then x else y).2 := by
  split
  · exact hx
  · exact hy

theorem pair {α : Type} {x : α} (hs : Spares p s₀ s) : Spares p s₀ (x, s).2 := hs

theorem foldl_mem {α : Type} {f : State → α → State} {l : List α} (hs : Spares p s₀ s)
    (step : ∀ t, ∀ x ∈ l, Spares p s₀ t → Spares p s₀ (f t x)) : Spares p s₀ (l.foldl f s) :=
  List.foldlRecOn (motive := Spares p s₀) l f hs fun t ht x hx => step t x hx ht

theorem foldl {α : Type} {f : State → α → State} {l : List α} (hs : Spares p s₀ s) (step : ∀ t x, Spares p s₀ t → Spares p s₀ (f t x)) :
    Spares p s₀ (l.foldl f s) := hs.foldl_mem fun t x _ => step t x

theorem foldl_snd {α β : Type} {f : β × State → α → β × State} {l : List α} {q : β × State} (hq : Spares p s₀ q.2)
    (step : ∀ r x, Spares p s₀ r.2 → Spares p s₀ (f r x).2) : Spares p s₀ (l.foldl f q).2 :=
  List.foldlRecOn (motive := fun r => Spares p s₀ r.2) l f hq fun r hr x _ => step r x hr

theorem setDp {g : DataSt → DataSt} (hs : Spares p s₀ s) (hg : (g s.dp).mod = s.dp.mod := by rfl) : Spares p s₀ (s.setDp g) := hs.beside hg

section
variable {s₀ s : State}

/-! ### Registers: a word is told by its block and its offset -/

theorem wr {a v : Nat} (hs : Spares Kept s₀ s) (ha : ¬ Kept a := by
    intro h
    simp only [Kept, genB, evtB, pwrB, bootB, tsuB, tailB, strB, macB, prsB, matB, fwdB, seqB, prfB, schB, engB, rplB, cipB, memB, mciB, hifB,
      tfnB, tfnStat, causeA, macPort, schQ, rplC, hpA, hifFn, ctxUseA, winA, rtStat, memCh, saW] at h <;> omega) :
    Spares Kept s₀ (s.wr a v) := hs.wrOff ha

theorem setFld {a hi lo v : Nat} (hs : Spares Kept s₀ s) (ha : ¬ Kept a := by
    intro h
    simp only [Kept, genB, evtB, pwrB, bootB, tsuB, tailB, strB, macB, prsB, matB, fwdB, seqB, prfB, schB, engB, rplB, cipB, memB, mciB, hifB,
      tfnB, tfnStat, causeA, macPort, schQ, rplC, hpA, hifFn, ctxUseA, winA, rtStat, memCh, saW] at h <;> omega) :
    Spares Kept s₀ (s.setFld a hi lo v) := hs.wrOff ha

theorem bump32 {a n : Nat} (hs : Spares Kept s₀ s) (ha : ¬ Kept a := by
    intro h
    simp only [Kept, genB, evtB, pwrB, bootB, tsuB, tailB, strB, macB, prsB, matB, fwdB, seqB, prfB, schB, engB, rplB, cipB, memB, mciB, hifB,
      tfnB, tfnStat, causeA, macPort, schQ, rplC, hpA, hifFn, ctxUseA, winA, rtStat, memCh, saW] at h <;> omega) :
    Spares Kept s₀ (s.bump32 a n) := hs.wrOff ha

theorem bump {a n : Nat} (hs : Spares Kept s₀ s) : Spares Kept s₀ (s.bump a n) := hs.beside

/-! ### Events -/

/-- No capture register of the block at `base` is a kept word. -/
def Captures (base : Nat) : Prop := ∀ k, 0x14 ≤ k → k ≤ 0x30 → ¬ Kept (base + k)

theorem capture {base c src sev : Nat} {y : Synd} (hs : Spares Kept s₀ s) (hb : Captures base) :
    Spares Kept s₀ (s.capture base c src sev y).2 := by
  have h14 := hb 0x14 (by omega) (by omega)
  have h18 := hb 0x18 (by omega) (by omega)
  have h1C := hb 0x1C (by omega) (by omega)
  have h20 := hb 0x20 (by omega) (by omega)
  have h24 := hb 0x24 (by omega) (by omega)
  have h28 := hb 0x28 (by omega) (by omega)
  have h2C := hb 0x2C (by omega) (by omega)
  have h30 := hb 0x30 (by omega) (by omega)
  have hflag : Spares Kept s₀ (s.setFld (base + 0x14) 30 30 1) := hs.setFld h14
  exact (((hflag.setFld h14).ite hflag).bump32 h18).pair.ite_snd
    ((((((((hs.wr h14).wr h18).wr h1C).wr h20).wr h24).wr h28).wr h2C).wr h30).pair

theorem logEvent {base c src sev : Nat} {first : Bool} {y : Synd} (hs : Spares Kept s₀ s) :
    Spares Kept s₀ (s.logEvent base c src sev first y).2 := by
  have hlog {log} : Spares Kept s₀ { s.setFld (evtB + 0x40) 31 20 (s.fld (evtB + 0x40) 31 20 + 1) with log := log } := hs.setFld.beside
  exact hlog.setFld.bump.pair.ite_snd hs.setFld.bump32.pair

theorem latchCause {c src : Nat} (hs : Spares Kept s₀ s) (hc : c < 256) : Spares Kept s₀ (s.latchCause c src) :=
  (hs.setFld.setFld.ite hs.setFld.setFld.wr).wr

theorem msixBuild {f v : Nat} (hs : Spares Kept s₀ s) : Spares Kept s₀ (s.msixBuild f v) := hs.beside

theorem msixTrigger {f v : Nat} (hs : Spares Kept s₀ s) : Spares Kept s₀ (s.msixTrigger f v) := hs.msixBuild.ite hs.beside

theorem evtVector {f v : Nat} (hs : Spares Kept s₀ s) : Spares Kept s₀ (s.evtVector f v) := hs.msixTrigger.ite hs.bump

theorem occur {base c src : Nat} {y : Synd} (hs : Spares Kept s₀ s) (hb : Captures base) : Spares Kept s₀ (s.occur base c src y).2 := by
  unfold State.occur
  split
  · exact hs
  · next e =>
    have hc := sevOf_lt _ _ e
    extract_lets s₁ r route l s₂ s₃ s₄ mf s₅ s₆ s₇
    have h₁ : Spares Kept s₀ s₁ := hs.bump
    have hr : Spares Kept s₀ r.2 := (h₁.capture hb).ite_snd h₁
    have hl : Spares Kept s₀ l.2 := hr.logEvent.ite_snd hr
    clear_value r l
    have h₂ : Spares Kept s₀ s₂ := hl.latchCause hc
    clear_value s₂
    have h₃ : Spares Kept s₀ s₃ := h₂.setFld.ite h₂
    clear_value s₃
    have h₄ : Spares Kept s₀ s₄ := h₃.setFld.ite h₃
    clear_value s₄ mf
    cases mf with
    | none => exact h₄.evtVector.ite h₄
    | some x =>
      have h₅ : Spares Kept s₀ s₅ := h₄.beside.beside
      exact (h₅.evtVector.ite h₅).evtVector

theorem captures_evt : Captures evtB := by
  intro k h1 h2 h
  simp only [Kept, evtB] at h
  omega

theorem raiseAt {base c src : Nat} {y : Synd} (hs : Spares Kept s₀ s) (hb : Captures base := by
    intro k h1 h2 h
    simp only [Kept, genB, evtB, pwrB, bootB, tailB, strB, macB, prsB, matB, fwdB, seqB, prfB, schB, engB, rplB, cipB, memB, mciB, hifB,
      tfnB] at h <;> omega) : Spares Kept s₀ (s.raiseAt base c src y) :=
  ((hs.occur hb).occur captures_evt).ite (hs.occur hb)

theorem raise {base c src : Nat} (hs : Spares Kept s₀ s) (hb : Captures base := by
    intro k h1 h2 h
    simp only [Kept, genB, evtB, pwrB, bootB, tailB, strB, macB, prsB, matB, fwdB, seqB, prfB, schB, engB, rplB, cipB, memB, mciB, hifB,
      tfnB] at h <;> omega) : Spares Kept s₀ (s.raise base c src) := hs.raiseAt hb

end
end Spares
end Sys2Proof.Machine
end

section
/-! The operations of the datapath, the links, the engines, the host and the services spare the kept words: a lemma for each. -/
namespace Sys2Proof.Machine.Spares

set_option Elab.async false

variable {s₀ s t : State}

/-! ### Ops -/

theorem setCnt {a v : Nat} (hs : Spares Kept s₀ s) : Spares Kept s₀ (s.setCnt a v) := hs.beside

theorem emit {o : Out} (hs : Spares Kept s₀ s) : Spares Kept s₀ (s.emit o) := hs.beside

theorem pwr {f off v : Nat} (hs : Spares Kept s₀ s) : Spares Kept s₀ (s.pwr f off v) := hs.beside

theorem draw (hs : Spares Kept s₀ s) : Spares Kept s₀ (s.draw).2 := hs.beside.pair

theorem setPba {f v : Nat} {b : Bool} (hs : Spares Kept s₀ s) : Spares Kept s₀ (s.setPba f v b) := hs.pwr

theorem reject {base off : Nat} (hs : Spares Kept s₀ s) (h10 : ¬ Kept (base + 0x10)) (hC : ¬ Kept (base + 0xC)) (hb : Captures base) :
    Spares Kept s₀ (s.reject base off) :=
  ((hs.bump32 h10).ite ((hs.bump32 h10).wr hC)).raise hb

/-! ### CipQ -/

theorem setCip {f : CipSt → CipSt} (hs : Spares Kept s₀ s) : Spares Kept s₀ (s.setCip f) := hs.beside

/-! ### MemOps -/

theorem setCh {c : Nat} {f : ChSt → ChSt} (hs : Spares Kept s₀ s) : Spares Kept s₀ (s.setCh c f) := hs.beside

theorem toCh {c st : Nat} (hs : Spares Kept s₀ s) : Spares Kept s₀ (s.toCh c st) := hs.setFld.setCh

theorem memRefuse {q : MReq} {a : Nat} (hs : Spares Kept s₀ s) : Spares Kept s₀ (s.memRefuse q a) := hs.bump.raiseAt

theorem zeroRange {lo hi : Nat} (hs : Spares Kept s₀ s) : Spares Kept s₀ (s.zeroRange lo hi) := hs.beside

theorem initAdvance {a : Nat} (hs : Spares Kept s₀ s) : Spares Kept s₀ (s.initAdvance a) := by
  unfold State.initAdvance
  split
  · exact hs
  · exact hs.draw.zeroRange.beside.ite hs

theorem putBytes {a : Nat} {bs : List Byte} (hs : Spares Kept s₀ s) : Spares Kept s₀ (s.putBytes a bs) := hs.beside

theorem eccBad {a : Nat} {tag : Bool} (hs : Spares Kept s₀ s) : Spares Kept s₀ (s.eccBad a tag) := hs.bump.raiseAt

theorem mciWrite {a : Nat} {bs : List Byte} (hs : Spares Kept s₀ s) : Spares Kept s₀ (s.mciWrite a bs) :=
  (hs.initAdvance.foldl (fun _ _ hs => hs.putBytes.ite (hs.bump.putBytes.ite hs.bump.eccBad))).ite hs.initAdvance.putBytes

theorem memWrite {a : Nat} {bs : List Byte} (hs : Spares Kept s₀ s) : Spares Kept s₀ (s.memWrite a bs) := by
  unfold State.memWrite
  split
  · exact hs.bump
  · exact hs.mciWrite

theorem backlog {p level : Nat} (hs : Spares Kept s₀ s) : Spares Kept s₀ (s.backlog p level) :=
  hs.setFld.setFld.setFld.bump.beside.ite (hs.setFld.setFld.setFld.beside.ite hs.setFld.setFld)

/-! ### TailOps -/

theorem setTl {f : TailSt → TailSt} (hs : Spares Kept s₀ s) : Spares Kept s₀ (s.setTl f) := hs.beside

theorem setSl {f : StrSt → StrSt} (hs : Spares Kept s₀ s) : Spares Kept s₀ (s.setSl f) := hs.beside

theorem ringLevel (hs : Spares Kept s₀ s) : Spares Kept s₀ s.ringLevel := hs.wr.setTl.raise.ite hs.wr.setTl

theorem ringStore {i : Nat} {u : TUnit} (hs : Spares Kept s₀ s) : Spares Kept s₀ (s.ringStore i u) := hs.memWrite.ite hs.memRefuse

theorem toSink {r : RUnit} (hs : Spares Kept s₀ s) : Spares Kept s₀ (s.toSink r) := hs.setSl.ite hs.setTl

theorem intoPath {u : TUnit} (hs : Spares Kept s₀ s) : Spares Kept s₀ (s.intoPath u) := hs.toSink.ite hs.ringStore.setTl.ringLevel

theorem place {u : TUnit} (hs : Spares Kept s₀ s) : Spares Kept s₀ (s.place u) := hs.intoPath.ite hs.setTl

theorem closeLink (hs : Spares Kept s₀ s) : Spares Kept s₀ s.closeLink := hs.ite hs.setTl

theorem chainUnit {payload : Nat} (hs : Spares Kept s₀ s) : Spares Kept s₀ (s.chainUnit payload).2 :=
  (hs.setTl.setCnt.bump.closeLink.ite hs.setTl.setCnt.bump).pair

theorem chainGap (hs : Spares Kept s₀ s) : Spares Kept s₀ s.chainGap := by
  unfold State.chainGap
  split
  · exact hs
  · exact hs.setTl.chainUnit.place.bump.raise

theorem cpRegs (hs : Spares Kept s₀ s) : Spares Kept s₀ s.cpRegs := by
  unfold State.cpRegs
  refine hs.setFld.foldl_mem fun t n hn h => ?_
  have hn := List.mem_range.1 hn
  exact h.wr

theorem takeCp {c : CpCause} (hs : Spares Kept s₀ s) : Spares Kept s₀ (s.takeCp c) := hs.chainGap.closeLink.setTl.cpRegs.raise

theorem joinCp {c : CpCause} (hs : Spares Kept s₀ s) : Spares Kept s₀ (s.joinCp c) := by
  unfold State.joinCp
  exact hs.closeLink.setTl.cpRegs

theorem cpTake {c : CpCause} (hs : Spares Kept s₀ s) : Spares Kept s₀ (s.cpTake c) := by
  unfold State.cpTake
  split
  · exact hs.joinCp
  · exact hs.takeCp.ite hs.setTl.raise

theorem chainTqUnit {q : TqRec} (hs : Spares Kept s₀ s) : Spares Kept s₀ (s.chainTqUnit q) := hs.chainUnit.place

theorem chainTq {q : TqRec} (hs : Spares Kept s₀ s) : Spares Kept s₀ (s.chainTq q) :=
  (hs.chainGap.chainTqUnit.takeCp.ite hs.chainTqUnit.cpTake).ite hs.chainTqUnit

theorem flushTq (hs : Spares Kept s₀ s) : Spares Kept s₀ s.flushTq := by
  unfold State.flushTq
  split
  · exact hs
  · exact hs.setTl.chainTq.ite hs

theorem cpDue {c : CpCause} (hs : Spares Kept s₀ s) : Spares Kept s₀ (s.cpDue c) := hs.flushTq.cpTake

theorem addGap {cause rclass : Nat} {ts : Instant} (hs : Spares Kept s₀ s) : Spares Kept s₀ (s.addGap cause rclass ts) := hs.setTl.bump

theorem commitUnit {payload rclass : Nat} {ts : Instant} (hs : Spares Kept s₀ s) : Spares Kept s₀ (s.commitUnit payload rclass ts).2 :=
  hs.flushTq.addGap.pair.ite_snd hs.flushTq.chainGap.chainUnit.place.pair

theorem startEpoch (hs : Spares Kept s₀ s) : Spares Kept s₀ s.startEpoch := hs.setCnt.setTl.chainUnit.place.raise

theorem tailResume (hs : Spares Kept s₀ s) : Spares Kept s₀ s.tailResume := hs.ite ((hs.ite hs.startEpoch).chainGap)

theorem tailChainEnd (hs : Spares Kept s₀ s) : Spares Kept s₀ s.tailChainEnd := hs.cpDue.ite hs

theorem setStr {v : Nat} (hs : Spares Kept s₀ s) : Spares Kept s₀ (s.setStr v) := hs.setFld

theorem strTrain (hs : Spares Kept s₀ s) : Spares Kept s₀ s.strTrain := hs.setStr.setSl.emit

theorem ringFront {us : List RUnit} (hs : Spares Kept s₀ s) : Spares Kept s₀ (s.ringFront us) :=
  hs.setTl.foldl fun _ _ hs => hs.ringStore

theorem returnUnits (hs : Spares Kept s₀ s) : Spares Kept s₀ s.returnUnits := (hs.setSl.setTl.ite hs.setSl.ringFront).ringLevel

theorem strDisable (hs : Spares Kept s₀ s) : Spares Kept s₀ s.strDisable := by
  unfold State.strDisable
  exact ((hs.raise.ite hs).setStr).returnUnits

/-! ### TimOps -/

theorem calLinkDown {p : Nat} (hs : Spares Kept s₀ s) : Spares Kept s₀ (s.calLinkDown p) := hs.setFld

theorem txCapture {p : Nat} (hs : Spares Kept s₀ s) : Spares Kept s₀ (s.txCapture p).2.2 := by
  unfold State.txCapture
  exact hs.draw

/-! ### SchOps -/

theorem setSch {g : SchSt → SchSt} (hs : Spares Kept s₀ s) : Spares Kept s₀ (s.setSch g) := hs.setDp

theorem setPrf {g : PrfSt → PrfSt} (hs : Spares Kept s₀ s) : Spares Kept s₀ (s.setPrf g) := hs.setDp

theorem setPipe {n : Nat} {g : PipeSt → PipeSt} (hs : Spares Kept s₀ s) : Spares Kept s₀ (s.setPipe n g) := hs.setDp

theorem setMac {p : Nat} {g : MacSt → MacSt} (hs : Spares Kept s₀ s) : Spares Kept s₀ (s.setMac p g) := hs.setDp

theorem setLive {id : Nat} {l : Option Live} (hs : Spares Kept s₀ s) : Spares Kept s₀ (s.setLive id l) := hs.setDp

theorem birth {f : Frame} (hs : Spares Kept s₀ s) : Spares Kept s₀ (s.birth f).2 := hs.setDp.setLive.pair

theorem poolAdd {n : Nat} (hs : Spares Kept s₀ s) : Spares Kept s₀ (s.poolAdd n) := hs.setFld

theorem endCopy {id : Nat} {held : Bool} {fate : Fate} (hs : Spares Kept s₀ s) : Spares Kept s₀ (s.endCopy id held fate) := by
  unfold State.endCopy
  split
  · exact hs
  · rename_i e
    refine ite ?_ ((hs.poolAdd.ite hs).setLive)
    dsimp only
    split
    · exact ((hs.poolAdd.ite hs).setLive).setDp
    · exact (hs.poolAdd.ite hs).setLive

theorem missRecord {p : Nat} {c : Copy} (hs : Spares Kept s₀ s) : Spares Kept s₀ (s.missRecord p c) := by
  unfold State.missRecord
  split
  · exact hs
  · exact hs.commitUnit

theorem setHeld {p : Nat} {l : List Held} (hs : Spares Kept s₀ s) (hp : p < 16) : Spares Kept s₀ (s.setHeld p l) := by
  have h : Spares Kept s₀ (s.setPrf fun f => { f with held := mput (fun _ => []) f.held p l }) := hs.beside
  unfold State.setHeld
  exact h.setFld.setFld

theorem setGroup {x : Group} (hs : Spares Kept s₀ s) : Spares Kept s₀ (s.setGroup x) := hs.setPrf

theorem dropGroup {g : Nat} (hs : Spares Kept s₀ s) : Spares Kept s₀ (s.dropGroup g) := hs.setPrf.setFld

theorem horizonDrop {c : Copy} (hs : Spares Kept s₀ s) : Spares Kept s₀ (s.horizonDrop c) := by
  unfold State.horizonDrop
  exact hs.bump.raise.missRecord.endCopy

theorem fixGroup {x : Group} {r : Instant} (hs : Spares Kept s₀ s) : Spares Kept s₀ (s.fixGroup x r) := by
  unfold State.fixGroup
  extract_lets mine l far each s₁ s₂
  have h₁ : Spares Kept s₀ s₁ := hs.foldl_mem fun t p hp h => (h.setHeld (List.mem_range.1 hp)).ite h
  have h₂ : Spares Kept s₀ s₂ := h₁.foldl fun _ _ h => h.horizonDrop
  clear_value s₁ s₂
  exact h₁.setGroup.ite (h₂.dropGroup.ite h₂.setGroup)

theorem settleGroup {x : Group} (hs : Spares Kept s₀ s) : Spares Kept s₀ (s.settleGroup x) :=
  hs.dropGroup.ite (hs.setGroup.fixGroup.ite hs.setGroup)

theorem lostCopy {c : Copy} (hs : Spares Kept s₀ s) : Spares Kept s₀ (s.lostCopy c) := by
  unfold State.lostCopy
  split
  · exact hs
  · exact hs.settleGroup

theorem leaveGroup {c : Copy} (hs : Spares Kept s₀ s) : Spares Kept s₀ (s.leaveGroup c) := by
  unfold State.leaveGroup
  split
  · exact hs
  · exact hs.settleGroup

theorem loseCopy {c : Copy} (hs : Spares Kept s₀ s) : Spares Kept s₀ (s.loseCopy c) := hs.lostCopy.endCopy

theorem formGroup {f : Frame} {cs : List Copy} (hs : Spares Kept s₀ s) : Spares Kept s₀ (s.formGroup f cs).2 := by
  unfold State.formGroup
  dsimp only
  exact hs.ite_snd (hs.ite_snd (hs.bump.pair.ite_snd hs.setPrf.setFld.bump.pair))

theorem setPq {p q : Nat} {g : QSt → QSt} (hs : Spares Kept s₀ s) : Spares Kept s₀ (s.setPq p q g) := hs.setSch

theorem setVq {v q : Nat} {l : List Copy} (hs : Spares Kept s₀ s) : Spares Kept s₀ (s.setVq v q l) := hs.setSch

theorem setVcells {v n : Nat} (hs : Spares Kept s₀ s) : Spares Kept s₀ (s.setVcells v n) := hs.setSch

theorem deepWrite {c : Copy} (hs : Spares Kept s₀ s) : Spares Kept s₀ (s.deepWrite c) :=
  hs.foldl fun _ _ hs => hs.memWrite.ite hs.memRefuse

theorem deepHigh {old : Nat} (hs : Spares Kept s₀ s) : Spares Kept s₀ (s.deepHigh old) := hs.raise.ite hs

theorem calSample {p : Nat} {ts : Instant} (hs : Spares Kept s₀ s) : Spares Kept s₀ (s.calSample p ts) := hs.setPrf.ite hs

theorem pauseNow {p k quanta : Nat} (hs : Spares Kept s₀ s) : Spares Kept s₀ (s.pauseNow p k quanta) := by
  unfold State.pauseNow
  exact hs.emit.bump.txCapture.calSample.setMac

theorem sendPause {p k quanta : Nat} (hs : Spares Kept s₀ s) : Spares Kept s₀ (s.sendPause p k quanta) := hs.setMac.ite hs.pauseNow

theorem fcCheck {p pri : Nat} (hs : Spares Kept s₀ s) : Spares Kept s₀ (s.fcCheck p pri) :=
  (hs.setMac.sendPause.ite hs.setMac).ite (hs.setMac.sendPause.ite hs)

theorem fcAdmit {c : Copy} (hs : Spares Kept s₀ s) : Spares Kept s₀ (s.fcAdmit c) := by
  unfold State.fcAdmit
  split
  · exact hs
  · exact hs.setMac.fcCheck

theorem fcRelease {c : Copy} (hs : Spares Kept s₀ s) : Spares Kept s₀ (s.fcRelease c) := by
  unfold State.fcRelease
  split
  · exact hs
  · exact hs.setMac.fcCheck

theorem dropFlag {p q : Nat} (hs : Spares Kept s₀ s) (hp : p < 16) : Spares Kept s₀ (s.dropFlag p q) := by
  unfold State.dropFlag
  exact hs.ite hs.setFld.raise

theorem dropPort {c : Copy} (hs : Spares Kept s₀ s) (hp : c.vport < 16) : Spares Kept s₀ (s.dropPort c) :=
  (hs.bump.dropFlag hp).loseCopy

theorem wakeQ {p q : Nat} (hs : Spares Kept s₀ s) : Spares Kept s₀ (s.wakeQ p q) := hs.ite hs.setSch.setPq

theorem settleCredit {p q : Nat} (hs : Spares Kept s₀ s) : Spares Kept s₀ (s.settleCredit p q) := hs.ite ((hs.ite hs.setPq).ite hs.setPq)

theorem pushPort {c : Copy} (hs : Spares Kept s₀ s) : Spares Kept s₀ (s.pushPort c) :=
  (((hs.settleCredit.wakeQ.setPq.ite hs.settleCredit).setPq).bump).fcAdmit

theorem spillCells {id : Nat} (hs : Spares Kept s₀ s) : Spares Kept s₀ (s.spillCells id) := by
  unfold State.spillCells
  split
  · exact hs
  · exact hs.poolAdd.setLive.ite hs.setLive

theorem admitPort {c : Copy} (hs : Spares Kept s₀ s) (hp : c.vport < 16) : Spares Kept s₀ (s.admitPort c) := by
  unfold State.admitPort
  exact hs.setFld.pushPort.ite ((hs.setFld.deepWrite.pushPort.spillCells.bump.deepHigh.ite (hs.dropPort hp)).ite (hs.dropPort hp))

theorem dropVport {c : Copy} (hs : Spares Kept s₀ s) : Spares Kept s₀ (s.dropVport c) := hs.bump.loseCopy

theorem pushVport {c : Copy} (hs : Spares Kept s₀ s) : Spares Kept s₀ (s.pushVport c) := hs.setVcells.setVq.fcAdmit

theorem iqLevel {a n peakHi lvlHi : Nat} (hs : Spares Kept s₀ s) (ha : ¬ Kept a) : Spares Kept s₀ (s.iqLevel a n peakHi lvlHi) :=
  (hs.setFld ha).setFld ha

theorem setTq {f : Nat} {rx : Bool} {q : Nat} {x : Option TQueue} (hs : Spares Kept s₀ s) : Spares Kept s₀ (s.setTq f rx q x) := hs.beside

theorem admitTenant {c : Copy} (hs : Spares Kept s₀ s) : Spares Kept s₀ (s.admitTenant c) := by
  unfold State.admitTenant
  dsimp only
  split
  · exact hs.bump.loseCopy
  · exact hs.bump.loseCopy.ite (hs.pushVport.ite hs.bump.dropVport)

theorem admitCluster {c : Copy} (hs : Spares Kept s₀ s) (hq : c.queue < 64) : Spares Kept s₀ (s.admitCluster c) := by
  unfold State.admitCluster
  refine hs.bump.raise.loseCopy.ite ((hs.pushVport.iqLevel ?_).bump.ite hs.dropVport)
  simp only [Kept, engB]
  omega

theorem admitMgc {c : Copy} (hs : Spares Kept s₀ s) (hq : c.queue < 64) : Spares Kept s₀ (s.admitMgc c) := by
  unfold State.admitMgc
  refine hs.bump.raise.loseCopy.ite ((hs.pushVport.iqLevel ?_).ite hs.dropVport)
  simp only [Kept, bootB]
  omega

theorem enqueue {c : Copy} {seq : Bool} (hs : Spares Kept s₀ s) (hq : queueOk c.vport c.queue = true) :
    Spares Kept s₀ (s.enqueue c seq) := by
  unfold State.enqueue
  refine (hs.bump.ite hs).dropVport.ite ?_
  unfold queueOk at hq
  split_ifs at hq with hport htf hcl
  · rw [if_pos hport]
    exact hs.admitPort hport
  · rw [if_neg hport, if_pos htf]
    exact hs.admitTenant
  · rw [if_neg hport, if_neg htf, if_pos hcl]
    exact hs.admitCluster (Nat.lt_trans (of_decide_eq_true hq) (by decide))
  · rw [if_neg hport, if_neg htf, if_neg hcl]
    exact hs.admitMgc (Nat.lt_trans (of_decide_eq_true hq) (by decide))

theorem groupMiss {c : Copy} {seq : Bool} (hs : Spares Kept s₀ s) (hq : queueOk c.vport c.queue = true) :
    Spares Kept s₀ (s.groupMiss c seq) :=
  hs.raise.missRecord.endCopy.ite (hs.raise.enqueue hq)

/-- A copy goes to a queue only where that queue is one of its virtual port's. -/
theorem enqueueAll {f : Frame} {d : Dest} {seq : Bool} (hs : Spares Kept s₀ s) : Spares Kept s₀ (s.enqueueAll f d seq) := by
  unfold State.enqueueAll
  extract_lets mk one put
  have hput {t : State} {l : List (Nat × Nat)} (ht : Spares Kept s₀ t) : Spares Kept s₀ (put t l) := by
    dsimp only [put]
    refine endCopy (foldl ?_ fun u c hu => hu.bump.loseCopy.ite ?_)
    · split
      · exact ht.formGroup
      · exact ht.formGroup.setLive
    · split
      · exact hu.bump.loseCopy
      · next hq =>
        have hq : queueOk c.vport c.queue = true := by simpa using hq
        exact (hu.groupMiss hq).ite (hu.enqueue hq)
  clear_value put
  split
  · exact hput hs
  · exact hs.bump.endCopy.ite (hput (hs.bump.ite hs))

/-! ### EngOps -/

theorem setCap {c : Nat} {f : CapSt → CapSt} (hs : Spares Kept s₀ s) : Spares Kept s₀ (s.setCap c f) := hs.beside

theorem pushCrumb {c : Nat} {k : Crumb} (hs : Spares Kept s₀ s) : Spares Kept s₀ (s.pushCrumb c k) := hs.setCap.bump.ite hs.setCap.setFld

theorem crumbs {c : Nat} {l : List Crumb} (hs : Spares Kept s₀ s) : Spares Kept s₀ (s.crumbs c l) :=
  (hs.foldl (fun _ _ hs => hs.pushCrumb)).ite hs

theorem setThr {t : Nat} {f : Thr → Thr} (hs : Spares Kept s₀ s) : Spares Kept s₀ (s.setThr t f) := hs.beside

theorem setEng {e : Nat} {f : EngSt → EngSt} (hs : Spares Kept s₀ s) : Spares Kept s₀ (s.setEng e f) := hs.beside

theorem setClu {c : Nat} {f : CluSt → CluSt} (hs : Spares Kept s₀ s) : Spares Kept s₀ (s.setClu c f) := hs.beside

theorem thrTo {t st : Nat} (hs : Spares Kept s₀ s) : Spares Kept s₀ (s.thrTo t st) := hs.setThr

theorem turn {e cause : Nat} {prev : Option Nat} (hs : Spares Kept s₀ s) : Spares Kept s₀ (s.turn e cause prev) := by
  unfold State.turn
  refine hs.setEng.ite ?_
  dsimp only
  split
  · refine setEng ?_
    split
    · exact hs.thrTo.ite hs
    · exact hs
  · refine (ite ?_ (thrTo ?_)).setEng
    · split
      · exact hs.crumbs.thrTo.ite hs.crumbs
      · exact hs.crumbs
    · split
      · exact hs.crumbs.thrTo.ite hs.crumbs
      · exact hs.crumbs

theorem kick {e : Nat} (hs : Spares Kept s₀ s) : Spares Kept s₀ (s.kick e) := hs.turn.ite hs

theorem setSig {t i n : Nat} (hs : Spares Kept s₀ s) : Spares Kept s₀ (s.setSig t i n) := hs.setThr

theorem signalTo {t i : Nat} {src : Option Nat} (hs : Spares Kept s₀ s) : Spares Kept s₀ (s.signalTo t i src) :=
  (((((hs.ite hs.setClu).beside).ite (hs.ite hs.setClu)).bump).raise).ite ((((hs.ite hs.setClu).beside).ite (hs.ite hs.setClu)).setSig)

/-! ### SecOps -/

theorem setSa {p k v : Nat} (hs : Spares Kept s₀ s) : Spares Kept s₀ (s.setSa p k v) := hs.setMac

/-! ### CipOps -/

theorem setMat {k : Nat} {v : BitVec 512} (hs : Spares Kept s₀ s) : Spares Kept s₀ (s.setMat k v) := hs.setCip

/-! ### CtxOps -/

theorem setSvc {g : SvcSt → SvcSt} (hs : Spares Kept s₀ s) : Spares Kept s₀ (s.setSvc g) := hs.beside

theorem setCtx {id : Nat} {g : Ctx → Ctx} (hs : Spares Kept s₀ s) : Spares Kept s₀ (s.setCtx id g) := hs.setSvc

/-! ### MacOps -/

theorem stat {p n k : Nat} (hs : Spares Kept s₀ s) : Spares Kept s₀ (s.stat p n k) := hs.bump

theorem saLoad {p v : Nat} (hs : Spares Kept s₀ s) : Spares Kept s₀ (s.saLoad p v) := by
  unfold State.saLoad
  refine hs.foldl_mem fun t n hn h => ?_
  have hn := List.mem_range.1 hn
  exact h.wr

theorem saStore {p v e : Nat} (hs : Spares Kept s₀ s) : Spares Kept s₀ (s.saStore p v e) := by
  unfold State.saStore
  exact hs.setSa.setMac

theorem fcStat {p : Nat} (hs : Spares Kept s₀ s) : Spares Kept s₀ (s.fcStat p) := hs.wr

theorem setTx {p : Nat} {on : Bool} (hs : Spares Kept s₀ s) : Spares Kept s₀ (s.setTx p on) := hs.ite hs.setMac.emit

theorem lanePower (hs : Spares Kept s₀ s) : Spares Kept s₀ s.lanePower := hs.foldl fun _ _ hs => hs.setTx

theorem toLink {p st : Nat} (hs : Spares Kept s₀ s) : Spares Kept s₀ (s.toLink p st) :=
  (hs.setFld.setMac.ite hs.setFld.setMac.setFld).setTx

theorem linkEval {p : Nat} (hs : Spares Kept s₀ s) : Spares Kept s₀ (s.linkEval p) :=
  hs.ite (hs.setFld.ite (hs.ite ((hs.ite hs.setFld.raise).ite (hs.setFld.setMac.toLink.ite hs.setFld))))

theorem saBoundary {p : Nat} (hs : Spares Kept s₀ s) : Spares Kept s₀ (s.saBoundary p) := by
  unfold State.saBoundary
  split
  · exact hs
  · exact hs.setMac.setFld.saStore.saLoad.ite hs.setMac.setFld.saStore

theorem leaveUp {p st : Nat} (hs : Spares Kept s₀ s) : Spares Kept s₀ (s.leaveUp p st) := by
  unfold State.leaveUp
  refine ((((((((((foldl ?_ (fun _ _ hs => hs.stat.leaveGroup.endCopy)).setMac).saBoundary).fcStat).setFld).calLinkDown).setFld).setPrf).beside).raise).toLink
  split
  · exact hs
  · exact hs.stat.emit.leaveGroup.endCopy

theorem goLink {p st : Nat} {cut : Bool} (hs : Spares Kept s₀ s) : Spares Kept s₀ (s.goLink p st cut) :=
  ((hs.stat.ite hs).leaveUp).ite hs.toLink

/-! ### RelOps -/

theorem setSeq {g : SeqSt → SeqSt} (hs : Spares Kept s₀ s) : Spares Kept s₀ (s.setSeq g) := hs.setDp

theorem setFifo {n : Nat} {l : List Member} (hs : Spares Kept s₀ s) : Spares Kept s₀ (s.setFifo n l) := hs.setSeq

theorem seqBypass {f : Frame} {d : Dest} (hs : Spares Kept s₀ s) : Spares Kept s₀ (s.seqBypass f d) :=
  (hs.bump.ite hs.bump.setSeq.raise).enqueueAll

theorem seqPeriod (hs : Spares Kept s₀ s) : Spares Kept s₀ s.seqPeriod := hs.setSeq

/-! ### RplOps -/

theorem capView {c : Nat} (hs : Spares Kept s₀ s) : Spares Kept s₀ (s.capView c) := by
  unfold State.capView
  dsimp only
  split
  · rename_i e
    split
    · exact hs.setFld
    · exact hs.setFld.setFld
  · rename_i e
    refine (setFld ?_).setCnt
    split
    · exact hs.setFld
    · exact hs.setFld.setFld

theorem takeCkpt {c : Nat} (hs : Spares Kept s₀ s) : Spares Kept s₀ (s.takeCkpt c) := hs.ite hs.pushCrumb.setCap.setFld

theorem dueCkpt {c : Nat} (hs : Spares Kept s₀ s) : Spares Kept s₀ (s.dueCkpt c) := hs.setCap.ite hs.takeCkpt

theorem chainGapCrumb {c : Nat} (hs : Spares Kept s₀ s) : Spares Kept s₀ (s.chainGapCrumb c) := by
  unfold State.chainGapCrumb
  split
  · exact hs
  · exact hs.setCap.pushCrumb.bump.raise.capView.dueCkpt

theorem rplResume {c : Nat} (hs : Spares Kept s₀ s) : Spares Kept s₀ (s.rplResume c) := hs.ite hs.setCap.pushCrumb.capView

/-! ### HifOps -/

theorem setHport {h : Nat} {g : HpSt → HpSt} (hs : Spares Kept s₀ s) : Spares Kept s₀ (s.setHport h g) := hs.beside

theorem setFn {f : Nat} {g : FnSt → FnSt} (hs : Spares Kept s₀ s) : Spares Kept s₀ (s.setFn f g) := hs.beside

theorem setTfn {g : TfnSt → TfnSt} (hs : Spares Kept s₀ s) : Spares Kept s₀ (s.setTfn g) := hs.beside

theorem fnTo {f st : Nat} (hs : Spares Kept s₀ s) : Spares Kept s₀ (s.fnTo f st) := hs.ite hs.setFld.raise

theorem fnWake {f : Nat} (hs : Spares Kept s₀ s) : Spares Kept s₀ (s.fnWake f) := hs.setFld.fnTo.ite hs

theorem dirty {f a n : Nat} (hs : Spares Kept s₀ s) : Spares Kept s₀ (s.dirty f a n) := by
  unfold State.dirty
  split
  · exact hs
  · exact hs.setTfn.ite hs.setTfn.setFld

theorem sendWrite {f a : Nat} {bs : List Byte} {ro : Bool} (hs : Spares Kept s₀ s) : Spares Kept s₀ (s.sendWrite f a bs ro) :=
  (hs.foldl (fun _ _ hs => hs.emit)).dirty

theorem dmaPut {f gen a : Nat} {bs : List Byte} {ro : Bool} (hs : Spares Kept s₀ s) : Spares Kept s₀ (s.dmaPut f gen a bs ro) :=
  hs.bump.ite (hs.sendWrite.ite hs.setFn)

theorem flushPosts {f : Nat} (hs : Spares Kept s₀ s) : Spares Kept s₀ (s.flushPosts f) := hs.setFn.foldl fun _ _ hs => hs.sendWrite

/-! ### QueOps -/

theorem armFire {f : Nat} {rx : Bool} {q : Nat} (hs : Spares Kept s₀ s) : Spares Kept s₀ (s.armFire f rx q) := by
  unfold State.armFire
  split
  · exact hs
  · exact hs.setTq.msixTrigger.ite hs

theorem putCpl {f gen : Nat} {rx : Bool} {q i : Nat} {x : Cpl} (hs : Spares Kept s₀ s) : Spares Kept s₀ (s.putCpl f gen rx q i x) := by
  unfold State.putCpl
  refine hs.bump.ite ?_
  split
  · exact hs
  · exact hs.dmaPut.setTq.armFire

theorem rxDesc {f gen q i : Nat} {x : Fetch} (hs : Spares Kept s₀ s) : Spares Kept s₀ (s.rxDesc f gen q i x) := by
  unfold State.rxDesc
  split
  · exact hs
  · exact hs.bump.ite (hs.putCpl.ite (hs.bump.putCpl.ite (hs.bump.putCpl.ite hs.setTq)))

theorem handRx {h : Nat} (hs : Spares Kept s₀ s) : Spares Kept s₀ (s.handRx h) := by
  unfold State.handRx
  refine hs.setHport.foldl ?_
  intro _ _ hs
  split
  · exact hs.rxDesc
  · exact hs

theorem takeWaiting {c : Copy} {fate : Fate} (hs : Spares Kept s₀ s) : Spares Kept s₀ (s.takeWaiting c fate) :=
  hs.setVq.fcRelease.setVcells.endCopy

theorem queUse {f : Nat} {rx add : Bool} (hs : Spares Kept s₀ s) : Spares Kept s₀ (s.queUse f rx add) := hs.setFld.setFld

/-! ### SvcOps -/

theorem svcEmit {c : Nat} {bs : List Byte} (hs : Spares Kept s₀ s) : Spares Kept s₀ (s.svcEmit c bs) := by
  unfold State.svcEmit
  exact hs.draw.birth.setPipe

theorem tcpOut {id seq flags : Nat} {body : List Byte} (hs : Spares Kept s₀ s) : Spares Kept s₀ (s.tcpOut id seq flags body) :=
  hs.setCtx.svcEmit

theorem tcpReset {id : Nat} (hs : Spares Kept s₀ s) : Spares Kept s₀ (s.tcpReset id) := by
  unfold State.tcpReset
  exact hs.tcpOut.setCtx

theorem ctxAbort {id : Nat} (hs : Spares Kept s₀ s) : Spares Kept s₀ (s.ctxAbort id) := hs.ite ((hs.tcpReset.ite hs).setCtx)

/-! ### FnOps -/

theorem fnAbort {f : Nat} (hs : Spares Kept s₀ s) : Spares Kept s₀ (s.fnAbort f) :=
  (((hs.foldl (fun _ _ hs => hs.ctxAbort)).setSvc).setTfn).setFld

theorem fnQueues {f : Nat} (hs : Spares Kept s₀ s) : Spares Kept s₀ (s.fnQueues f) :=
  hs.foldl (fun _ _ hs => (((hs.foldl (fun _ _ hs => hs.takeWaiting.bump)).ite hs).setTq).queUse)

theorem fnMbx {f : Nat} (hs : Spares Kept s₀ s) : Spares Kept s₀ (s.fnMbx f) :=
  hs.ite ((hs.setTfn.setFld.pwr.foldl (fun _ _ hs => hs.pwr)).bump)

theorem fnMsix {f : Nat} (hs : Spares Kept s₀ s) : Spares Kept s₀ (s.fnMsix f) := hs.beside.setFn

theorem semFree {holder : Nat} (hs : Spares Kept s₀ s) : Spares Kept s₀ (s.semFree holder) := by
  unfold State.semFree
  refine hs.foldl_mem fun t n hn h => ?_
  have hn := List.mem_range.1 hn
  exact h.wr.ite h

theorem oldSettle {x : WTlp} (hs : Spares Kept s₀ s) : Spares Kept s₀ (s.oldSettle x) := hs.setFld.ite hs

theorem hpWake {h : Nat} (hs : Spares Kept s₀ s) : Spares Kept s₀ (s.hpWake h) := hs.foldl fun _ _ hs => hs.fnWake

theorem fnFlow {f : Nat} (hs : Spares Kept s₀ s) : Spares Kept s₀ (s.fnFlow f) := by
  unfold State.fnFlow
  refine ite ?_ hs
  dsimp only
  split
  · exact hs.flushPosts
  · exact hs.flushPosts.handRx

/-! ### PwrOps -/

theorem setPw {g : PwrSt → PwrSt} (hs : Spares Kept s₀ s) : Spares Kept s₀ (s.setPw g) := hs.beside

theorem setUnit {u st : Nat} (hs : Spares Kept s₀ s) : Spares Kept s₀ (s.setUnit u st) := hs.setPw

theorem wakeUnit {u : Nat} (hs : Spares Kept s₀ s) : Spares Kept s₀ (s.wakeUnit u) := hs.ite hs.setPw

theorem idleFrom {p : Nat → Bool} (hs : Spares Kept s₀ s) : Spares Kept s₀ (s.idleFrom p) := hs.foldl fun _ _ hs => hs.setPw

theorem pwrGo {t : Nat} (hs : Spares Kept s₀ s) : Spares Kept s₀ (s.pwrGo t) :=
  ((((hs.setFld.ite hs.setFld.idleFrom.setFld.raise).setFld).lanePower).foldl (fun _ _ hs => hs.wakeUnit)).ite
    (((hs.setFld.ite hs.setFld.idleFrom.setFld.raise).setFld).lanePower)

/-! ### Mem -/

theorem refillQueue {c : Nat} (hs : Spares Kept s₀ s) : Spares Kept s₀ (s.refillQueue c) := hs.ite hs.setCh.setFld

theorem sleepCh {c : Nat} (hs : Spares Kept s₀ s) : Spares Kept s₀ (s.sleepCh c) := hs.setFld.setCh

theorem wakeCh {c : Nat} (hs : Spares Kept s₀ s) : Spares Kept s₀ (s.wakeCh c) := hs.setFld.setCh

theorem chQuiesce {c : Nat} (hs : Spares Kept s₀ s) : Spares Kept s₀ (s.chQuiesce c) := hs.toCh.setCh.ite hs

theorem chResume {c : Nat} (hs : Spares Kept s₀ s) : Spares Kept s₀ (s.chResume c) := by
  have hm {k : Nat} (h : k < 0x100) (h8 : k ≠ 8) : ¬ Kept (memB + k) := by
    simp only [Kept, memB]
    omega
  refine (hs.reject ?_ ?_ ?_).ite (hs.toCh.wakeCh.setCh.refillQueue.ite hs)
  · exact hm (by decide) (by decide)
  · exact hm (by decide) (by decide)
  · exact fun k h1 h2 => hm (by omega) (by omega)

theorem chToReset {c : Nat} (hs : Spares Kept s₀ s) : Spares Kept s₀ (s.chToReset c) := hs.toCh.sleepCh.setFld

/-! ### Rpl -/

theorem crumbGap {c : Nat} (hs : Spares Kept s₀ s) : Spares Kept s₀ (s.crumbGap c) := hs.chainGapCrumb.ite hs

theorem lossEnd {c : Nat} (hs : Spares Kept s₀ s) : Spares Kept s₀ (s.lossEnd c) := ((hs.setCap.ite hs).crumbGap).ite hs

/-! ### Mat -/

theorem setScrub {k : Nat} {x : ScrubSt} (hs : Spares Kept s₀ s) : Spares Kept s₀ (s.setScrub k x) := hs.setDp

/-! ### Tail -/

theorem strTryTrain (hs : Spares Kept s₀ s) : Spares Kept s₀ s.strTryTrain := hs.strTrain.ite hs

/-! ### BlkOps -/

theorem cluResume {c : Nat} (hs : Spares Kept s₀ s) : Spares Kept s₀ (s.cluResume c) := by
  unfold State.cluResume
  refine ((hs.rplResume.foldl ?_).dueCkpt).foldl fun _ _ hs => hs.kick
  intro _ _ hs
  refine hs.ite (hs.thrTo.ite ?_)
  split
  · exact hs
  · exact hs.setThr.thrTo

end Sys2Proof.Machine.Spares
end

section
/-! QUIESCE, RESUME and BLOCK_RESET (R40, R41, R44): what a block does on a change of STATUS.STATE leaves STATUS itself. -/
namespace Sys2Proof.Machine

set_option Elab.async false

/-! ### The instances and their STATUS words -/

theorem blkBase_cases (b : Fin 58) :
    blkBase b % 0x100000 = 0 ∨ (0x500000 ≤ blkBase b ∧ blkBase b < 0x510000 ∧ blkBase b % 0x1000 = 0) := by decide +kernel +revert

theorem kept_status (b : Fin 58) : Kept (blkBase b + 8) := by
  have h := blkBase_cases b
  simp only [Kept]
  omega

theorem blkBase_eq_of_code (b : Fin 58) : (codeOf (blkBase b) = 0x05 ↔ blkBase b = timB) ∧ (codeOf (blkBase b) = 0x11 ↔ blkBase b = rplB) ∧
    (codeOf (blkBase b) = 0x0C ↔ blkBase b = fwdB) := by decide +kernel +revert

theorem captures_blkBase (b : Fin 58) (h : codeOf (blkBase b) ≠ 0x05) : Spares.Captures (blkBase b) := by
  have hb := blkBase_cases b
  have ht : blkBase b ≠ 0x400000 := fun e => h ((blkBase_eq_of_code b).1.2 e)
  intro k h1 h2 hk
  simp only [Kept] at hk
  omega

variable (s : State)

theorem State.blkState_setBlk (base v : Nat) : (s.setBlk base v).blkState base = v % 8 := State.fld_setFld _ _ _ _ _ (by decide) (by decide)

theorem State.setBlk_keeps (base v : Nat) : Keeps [] (oneOf [base + 8]) noAddr s (s.setBlk base v) := State.wr_keeps _ _ _

theorem Spares.blkState {s t : State} (b : Fin 58) (h : Spares Kept s t) : t.blkState (blkBase b) = s.blkState (blkBase b) :=
  h.fld (kept_status b)

/-! ### QUIESCE -/

/-- The STATUS word of one block. -/
def IsStatus (base a : Nat) : Prop := a = base + 8

theorem IsStatus.kept (b : Fin 58) (a : Nat) (h : IsStatus (blkBase b) a) : Kept a := h ▸ kept_status b

/-- A replay that ends returns its target to QUIESCED and no other block. -/
theorem State.rpEnd_spares (r : Nat) (ht : ∀ x, s.rpl.rp = some x → x.target < 12) : Spares (IsStatus rplB) s (s.rpEnd r) := by
  have hk (a : Nat) (h : IsStatus rplB a) : Kept a := h ▸ .inl (by decide)
  unfold State.rpEnd
  split
  · exact .refl s
  · next x hx =>
    extract_lets c rpl s₁ s₂ s₃ s₄
    have h₁ : Spares Kept s s₁ := (Spares.refl s).beside
    clear_value s₁
    have h₂ : Spares Kept s s₂ := h₁.setFld.setFld
    clear_value s₂
    have h₃ : Spares (IsStatus rplB) s s₃ := by
      have hc : x.target < 12 := ht x hx
      refine Spares.beside (Spares.wrOff (Spares.wrOff (h₂.weaken hk) ?_) ?_)
      all_goals
        simp only [IsStatus, rplB, engB, c]
        omega
    clear_value s₃
    have h₄ : Spares Kept s₃ s₄ := (Spares.refl s₃).raise
    exact h₃.trans ((h₄.raise.ite h₄).weaken hk)

/-- Entering QUIESCING leaves the state that the block has. -/
theorem State.onQuiescing_spares (b : Fin 58) (ht : codeOf (blkBase b) = 0x11 → ∀ x, s.rpl.rp = some x → x.target < 12) :
    Spares (IsStatus (blkBase b)) s (s.onQuiescing (blkBase b)) := by
  have hs := Spares.refl (p := Kept) s
  unfold State.onQuiescing
  split
  · exact hs.tailChainEnd.weaken (IsStatus.kept b)
  · exact ((hs.foldl fun _ _ h => h.setFifo).seqPeriod.foldl fun _ _ h => h.seqBypass).weaken (IsStatus.kept b)
  · exact (hs.foldl fun _ _ h => h.ite h.signalTo).weaken (IsStatus.kept b)
  · next e =>
    rw [(blkBase_eq_of_code b).2.1.1 e]
    exact s.rpEnd_spares 7 (ht e)
  · exact (hs.foldl fun _ _ h => h.chQuiesce).weaken (IsStatus.kept b)
  · exact .refl s

/-- The running replay is RPL's own: a pending commit of RPL does not touch it. -/
theorem State.commitApply_rp (base : Nat) (h : codeOf base = 0x11) : (s.commitApply base).rpl.rp = s.rpl.rp := by
  unfold State.commitApply
  split
  · rw [State.commitNow_eq, if_neg (by simp [h])]
    rfl
  · rfl

theorem State.commitNow_mono (b : Fin 58) : (s.commitNow (blkBase b)).mono = s.mono := by
  rw [State.commitNow_eq]
  split
  · exact ((Spares.refl _).foldl fun _ _ h => h.foldl fun _ _ h => h.crumbs).mono
  · rfl

theorem State.commitApply_mono (b : Fin 58) : (s.commitApply (blkBase b)).mono = s.mono := by
  unfold State.commitApply
  split
  · exact s.commitNow_mono b
  · rfl

/-- A block that quiesces from RUN: a pending commit first, then QUIESCING, with the start of the limit. -/
theorem State.quiesce_of_running (base : Nat) (hq : quiesces base = true) (hr : s.running base = true) :
    s.quiesce base = { ((s.commitApply base).setBlk base 1).onQuiescing base with
      quies := mput (fun _ => none) (((s.commitApply base).setBlk base 1).onQuiescing base).quies base
        (some ((((s.commitApply base).setBlk base 1).onQuiescing base).mono, false)) } := by
  rw [State.quiesce, if_pos (by simp [hq, hr])]

/-- The state of a block as it begins to quiesce, and when it began. -/
theorem State.quiesce_status (b : Fin 58) (ht : ∀ x, s.rpl.rp = some x → x.target < 12) (hq : quiesces (blkBase b) = true)
    (hr : s.running (blkBase b) = true) : (s.quiesce (blkBase b)).blkState (blkBase b) = 1 ∧
      mget (fun _ => none) (s.quiesce (blkBase b)).quies (blkBase b) = some (s.mono, false) := by
  have h := State.onQuiescing_spares ((s.commitApply (blkBase b)).setBlk (blkBase b) 1) b fun e x hx =>
    ht x ((s.commitApply_rp _ e).symm.trans hx)
  rw [s.quiesce_of_running _ hq hr]
  refine ⟨(h.fld rfl).trans (State.blkState_setBlk _ _ _), ?_⟩
  rw [mget_mput, if_pos rfl, h.mono]
  exact congrArg (fun m => some (m, false)) (s.commitApply_mono b)

/-! ### QUIESCE_DONE -/

theorem State.blkState_onQuiesced (b : Fin 58) : (s.onQuiesced (blkBase b)).blkState (blkBase b) = s.blkState (blkBase b) := by
  have hs := Spares.refl (p := Kept) s
  refine Spares.blkState b ?_
  unfold State.onQuiesced
  split
  · exact hs.ite hs.returnUnits
  · exact hs.foldl fun _ _ h => h.goLink
  · exact hs.dueCkpt
  · exact hs

theorem State.quiesced_of_done (base : Nat) (h1 : s.blkState base = 1) (hd : s.quDone base = true) :
    s.quiesced base = { s.setBlk base 2 with quies := mput (fun _ => none) s.quies base none }.onQuiesced base := by
  rw [State.quiesced, if_pos (by simp [h1, hd])]

/-! ### RESUME -/

theorem State.onResume_spares (base : Nat) : Spares Kept s (s.onResume base) := by
  have hs := Spares.refl (p := Kept) s
  unfold State.onResume
  split
  · exact hs.tailResume
  · exact hs.strTryTrain.ite (hs.ite hs.strDisable)
  · exact hs.foldl fun _ _ h => h.linkEval
  · exact hs.cluResume
  · exact hs.foldl fun _ _ h => h.lossEnd.ite h
  · exact hs.foldl fun _ _ h => h.chResume.ite h
  · exact hs.foldl fun _ _ h => h.fnFlow.ite h
  · exact hs

theorem State.blkState_onResume (b : Fin 58) : (s.onResume (blkBase b)).blkState (blkBase b) = s.blkState (blkBase b) :=
  Spares.blkState b (s.onResume_spares _)

theorem State.resume_of_quiesced (base : Nat) (hq : quiesces base = true) (h2 : s.blkState base = 2) (hs : s.safe base = false)
    (hi : codeOf base = 0x10 → s.flag (base + 0x44) 29 = true) : s.resume base = (s.setBlk base 0).onResume base := by
  have hi' : (decide (codeOf base = 0x10) && !s.flag (base + 0x44) 29) = false := by simpa using hi
  simp [State.resume, hq, h2, hs, hi']

/-! ### BLOCK_RESET -/

/-- Registers rewritten one after another, where `sel` says so: what a key reads then. -/
theorem mget_foldr_mput {α : Type} [DecidableEq α] (d : Nat → α) (sel : Nat → Bool) (g : Nat → α → α) (l m : Sparse α) (k : Nat) :
    mget d (l.foldr (fun e m => if sel e.1 then mput d m e.1 (g e.1 e.2) else m) m) k =
      if sel k ∧ k ∈ l.map (·.1) then g k (mget d l k) else mget d m k := by
  induction l with
  | nil => simp
  | cons e l ih =>
    rw [List.foldr_cons, List.map_cons]
    by_cases hk : k = e.1
    · subst hk
      cases hsel : sel e.1 <;> simp [hsel, ih, mget_mput, mget]
    · have hmem : k ∈ e.1 :: l.map (·.1) ↔ k ∈ l.map (·.1) := List.mem_cons.trans (or_iff_right hk)
      simp only [hmem, mget, if_neg hk]
      split
      · rw [mget_mput, if_neg hk, ih]
      · rw [ih]

/-- The bits of a register that a block reset keeps. -/
def keptBits (base a : Nat) : Nat := resetKeeps (codeOf base) (a - base) ||| (match cardAt a with
  | none => 0
  | some c => c.rws)

/-- A word of which `k` names the bits that stay. -/
def masked (k : Nat) (rst v : Word) : Word := (v &&& BitVec.ofNat 32 k) ||| (rst &&& ~~~ BitVec.ofNat 32 k)

theorem masked_getLsbD (k : Nat) (rst v : Word) (i : Nat) (hi : i < 32) :
    (masked k rst v).getLsbD i = if k.testBit i then v.getLsbD i else rst.getLsbD i := by
  simp only [masked, BitVec.getLsbD_or, BitVec.getLsbD_and, BitVec.getLsbD_not, BitVec.getLsbD_ofNat, hi, decide_true, Bool.true_and]
  cases k.testBit i <;> simp

theorem masked_self (k : Nat) (v : Word) : masked k v v = v :=
  BitVec.eq_of_getLsbD_eq fun i hi => by rw [masked_getLsbD _ _ _ _ hi, ite_self]

/-- The low three bits come from the reset value where none of them is kept. -/
theorem bits_masked (k : Nat) (rst v : Word) (hk : k % 8 = 0) : bits (masked k rst v).toNat 2 0 = bits rst.toNat 2 0 := by
  have h8 : k = 8 * (k / 8) := by omega
  apply Nat.eq_of_testBit_eq
  intro i
  rw [bits_testBit, bits_testBit]
  by_cases hi : i < 3
  · have hb : k.testBit i = false := by
      rw [h8, show 8 * (k / 8) = 2 ^ 3 * (k / 8) from rfl, Nat.testBit_two_pow_mul]
      simp [hi]
    simp [BitVec.testBit_toNat, masked_getLsbD _ _ _ _ (Nat.lt_trans hi (by decide)), hb]
  · simp [hi]

/-- A register of the block takes its reset value but for the bits kept. -/
theorem State.regsReset_word (base a : Nat) (h : inBlk base a = true) :
    mget rstAt (s.regsReset base).regs a = masked (keptBits base a) (rstAt a) (mget rstAt s.regs a) := by
  refine (mget_foldr_mput rstAt (inBlk base) (fun a v => masked (keptBits base a) (rstAt a) v) s.regs s.regs a).trans ?_
  split
  · rfl
  · next hn =>
    have hn : a ∉ s.regs.map (·.1) := fun hm => hn ⟨h, hm⟩
    rw [mget_of_not_mem_keys _ _ _ hn, masked_self]

theorem State.regsReset_rd_out (base a : Nat) (h : inBlk base a = false) : (s.regsReset base).rd a = s.rd a := by
  refine congrArg BitVec.toNat ((mget_foldr_mput rstAt (inBlk base) (fun a v => masked (keptBits base a) (rstAt a) v) s.regs s.regs a).trans ?_)
  rw [if_neg (by simp [h])]

/-- STATUS lies in its block and keeps no bit of STATE through a block reset. -/
theorem status_reset (b : Fin 58) : inBlk (blkBase b) (blkBase b + 8) = true ∧ keptBits (blkBase b) (blkBase b + 8) % 8 = 0 := by
  decide +kernel +revert

theorem State.blkState_regsReset (b : Fin 58) :
    (s.regsReset (blkBase b)).blkState (blkBase b) = if runsAtReset (codeOf (blkBase b)) then 0 else 2 := by
  obtain ⟨hin, hk⟩ := status_reset b
  rw [State.blkState, State.fld, State.rd, s.regsReset_word _ _ hin, bits_masked _ _ _ hk]
  exact State.blkState_reset b

theorem State.afterReset_spares (base was : Nat) : Spares Kept s (s.afterReset base was) := by
  have hs := Spares.refl (p := Kept) s
  unfold State.afterReset
  split
  · exact hs.setScrub
  · exact hs.setScrub
  · exact hs.setScrub
  · exact hs.pwrGo
  · exact hs.setFld
  · exact hs.ite hs.dueCkpt
  · exact (hs.foldl fun _ _ h => h.chToReset.setFld).foldl fun _ _ h => h.backlog
  · exact hs.foldl fun _ _ h => h.fnWake
  · exact hs

/-- A block reset before its event. -/
def State.blockCleared (base : Nat) : State :=
  let t := ({ s with cnts := mclear (fun a => inBlk base a && !keepsCnt (codeOf base) (a - base)) s.cnts }.dataReset base).regsReset base
  { t with quies := mput (fun _ => none) t.quies base none }.afterReset base (s.blkState base)

theorem State.blockReset_eq (base : Nat) (hc : codeOf base ≠ 0x05) (hh : s.pw.hold.any = false) :
    s.blockReset base = (s.blockCleared base).raise base Ev.blockResetDone (blkSrc base) := by
  rw [State.blockReset, if_neg (by simp [hh])]
  simp only [hc, if_false]
  rfl

theorem State.blkState_blockReset (b : Fin 58) (hc : codeOf (blkBase b) ≠ 0x05) (hh : s.pw.hold.any = false) :
    (s.blockReset (blkBase b)).blkState (blkBase b) = if runsAtReset (codeOf (blkBase b)) then 0 else 2 := by
  rw [s.blockReset_eq _ hc hh]
  refine (Spares.blkState b ((Spares.refl _).raise (captures_blkBase b hc))).trans ?_
  exact (Spares.blkState b (State.afterReset_spares _ _ _)).trans (State.blkState_regsReset _ b)

end Sys2Proof.Machine
end

section
namespace Sys2Proof.Machine

variable (s : State)

/-! ### The blocks whose QUIESCE, QUIESCE_DONE or RESUME changes nothing else -/

theorem State.quiesce_of_plain (base : Nat) (hc : codeOf base ∈ [0x0A, 0x0B, 0x0C]) (hr : s.running base = true) (hb : s.commitBusy base = false) :
    s.quiesce base = { s.setBlk base 1 with quies := mput (fun _ => none) s.quies base (some (s.mono, false)) } := by
  have hq : quiesces base = true := by
    simp only [List.mem_cons, List.not_mem_nil, or_false] at hc
    obtain hc | hc | hc := hc <;> simp [quiesces, runsAtReset, hc]
  have hca : s.commitApply base = s := by simp [State.commitApply, hb]
  have hoq (t : State) : t.onQuiescing base = t := by
    simp only [List.mem_cons, List.not_mem_nil, or_false] at hc
    obtain hc | hc | hc := hc <;> simp [State.onQuiescing, hc]
  rw [s.quiesce_of_running _ hq hr, hca, hoq]
  rfl

theorem State.onQuiesced_of_pipe (base : Nat) (hc : codeOf base ∈ [0x0A, 0x0B]) : s.onQuiesced base = s := by
  simp only [List.mem_cons, List.not_mem_nil, or_false] at hc
  obtain hc | hc := hc <;> simp [State.onQuiesced, hc]

theorem State.onResume_of_fwd (base : Nat) (hc : codeOf base = 0x0C) : s.onResume base = s := by
  simp [State.onResume, hc]

/-- STATUS of a block set with the mark of its quiescing. -/
theorem State.blkState_setBlk_quies (base v : Nat) (q : Sparse (Option (Nat × Bool))) :
    { s.setBlk base v with quies := q }.blkState base = v % 8 := s.blkState_setBlk base v

/-! ### The timeout (R41) -/

theorem State.quiesceLate_of_due (base u : Nat) (h1 : s.blkState base = 1) (hd : s.quDone base = false)
    (hq : mget (fun _ => none) s.quies base = some (u, false)) (hp : u + s.quLimit base ≤ s.mono) :
    s.quiesceLate base =
      { s with quies := mput (fun _ => none) s.quies base (some (u, true)) }.raise base Ev.quiesceTimeout (blkSrc base) := by
  rw [State.quiesceLate, hq]
  simp [h1, hd, State.past, hp]

/-- The frame of an event after which another mark stands among the quiescing blocks. -/
theorem State.quies_raise_keepsEv (base c src : Nat) (q : Sparse (Option (Nat × Bool))) :
    KeepsEv base [.quies] noAddr noAddr s ({ s with quies := q }.raise base c src) := by
  have h := State.raise_only { s with quies := q } base c src
  exact ⟨(State.blank_eq_of_besides [.quies] _ _ h.rest).trans rfl, fun a ha => h.regs a fun x => ha (.inl x),
    fun a ha => h.cnts a fun x => ha (.inl x)⟩

/-! ### BLOCK_RESET of FWD -/

theorem fwd_range {a : Nat} (h : inBlk fwdB a = true) : 0x1400000 ≤ a ∧ a < 0x1600000 := by
  have hi : instAt fwdB = some ⟨0x1400000, 0x200000, 0x0C, 0, true⟩ := by decide
  rw [inBlk, hi] at h
  have h : (decide (0x1400000 ≤ a) && decide (a < 0x1600000)) = true := h
  rwa [Bool.and_eq_true, decide_eq_true_eq, decide_eq_true_eq] at h

/-- FWD with its counters, tables and registers reset. -/
def State.fwdCleared : State :=
  let t := ({ s with cnts := mclear (fun a => inBlk fwdB a && !keepsCnt 0x0C (a - fwdB)) s.cnts }.setFwd fun _ => { sweptAt := s.mono }).regsReset fwdB
  { t with quies := mput (fun _ => none) t.quies fwdB none }.setScrub 8 ⟨s.mono, 0⟩

theorem State.blockReset_of_fwd (hh : s.pw.hold.any = false) :
    s.blockReset fwdB = s.fwdCleared.raise fwdB Ev.blockResetDone (blkSrc fwdB) := by
  have hc : codeOf fwdB = 0x0C := by decide
  rw [s.blockReset_eq _ (by rw [hc]; decide) hh, State.blockCleared]
  simp only [State.dataReset, State.afterReset, hc]
  rfl

theorem State.fwdCleared_cnt {a : Nat} (h : inBlk fwdB a = true) : s.fwdCleared.cnt a = 0 := by
  refine mget_of_not_mem_keys _ _ _ fun hm => ?_
  obtain ⟨e, he, rfl⟩ := List.mem_map.1 hm
  have he := (List.mem_filter.1 he).2
  simp [h, keepsCnt] at he

theorem State.fwdCleared_rd {a : Nat} (h : a < 0x100000) : s.fwdCleared.rd a = s.rd a := by
  have hout : inBlk fwdB a = false := Bool.eq_false_iff.2 fun hin => by
    have := fwd_range hin
    omega
  exact State.regsReset_rd_out _ _ _ hout

end Sys2Proof.Machine
end

section
open Sys2Proof Sys2Proof.Machine

/-- Settles O11: what a block does on a change of state spares STATUS (`Spares`), and a block reset takes it from its card. -/
theorem quiesceHandshake : Obligations.QuiesceHandshake := by
  refine ⟨?quiesce, ?quiescePlain, ?noQuiesce, ?done, ?donePipe, ?noDone, ?late, ?resume, ?resumeFwd, ?refused, ?reset, ?resetFwd, ?held⟩
  case quiesce =>
    intro s b ht hq hr
    exact ⟨s.quiesce (blkBase b), rfl, s.quiesce_status b ht hq hr⟩
  case quiescePlain =>
    intro s b hc hr hb
    obtain ⟨-, hrd, hcnt⟩ := s.setBlk_keeps (blkBase b) 1
    exact ⟨_, congrArg Host.Outcome.next (s.quiesce_of_plain _ hc hr hb), s.blkState_setBlk_quies (blkBase b) 1 _, rfl, hrd, hcnt⟩
  case noQuiesce =>
    intro s b h
    refine congrArg Host.Outcome.next ?_
    rw [State.quiesce, if_neg (by obtain h | h := h <;> simp [h])]
  case done =>
    intro s b h1 hd
    refine ⟨_, congrArg Host.Outcome.next (s.quiesced_of_done _ h1 hd), ?_⟩
    exact (State.blkState_onQuiesced _ b).trans (s.blkState_setBlk_quies (blkBase b) 2 _)
  case donePipe =>
    intro s b hc h1 hd
    obtain ⟨-, hrd, hcnt⟩ := s.setBlk_keeps (blkBase b) 2
    exact ⟨_, congrArg Host.Outcome.next ((s.quiesced_of_done _ h1 hd).trans (State.onQuiesced_of_pipe _ _ hc)),
      s.blkState_setBlk_quies (blkBase b) 2 _, rfl, hrd, hcnt⟩
  case noDone =>
    intro s b h
    refine congrArg Host.Outcome.next ?_
    rw [State.quiesced, if_neg (by obtain h | h := h <;> simp [h])]
  case late =>
    intro s b u h1 hd hq hp
    refine ⟨_, congrArg Host.Outcome.next (s.quiesceLate_of_due _ u h1 hd hq hp), ?_, s.quies_raise_keepsEv _ _ _ _⟩
    rw [State.raise_quies, mget_mput, if_pos rfl]
  case resume =>
    intro s b hq h2 hs hi
    refine ⟨_, congrArg Host.Outcome.next (s.resume_of_quiesced _ hq h2 hs hi), ?_⟩
    exact (State.blkState_onResume _ b).trans (State.blkState_setBlk _ _ _)
  case resumeFwd =>
    intro s b hc h2 hs
    have hq : quiesces (blkBase b) = true := by simp [quiesces, runsAtReset, hc]
    have ht := (s.resume_of_quiesced _ hq h2 hs (by simp [hc])).trans (State.onResume_of_fwd _ _ hc)
    exact ⟨_, congrArg Host.Outcome.next ht, State.blkState_setBlk _ _ _, s.setBlk_keeps _ _⟩
  case refused =>
    intro s b hq h
    refine congrArg Host.Outcome.next ?_
    rw [State.resume, if_neg (by simp [hq])]
    obtain ⟨h2, hs⟩ | ⟨hc, hf⟩ := h
    · simp [h2, hs]
    · simp [hc, hf]
  case reset =>
    intro s b hc hh
    exact ⟨_, rfl, s.blkState_blockReset b hc hh⟩
  case resetFwd =>
    intro s b hc hh
    have hstate := s.blkState_blockReset b (by rw [hc]; decide) hh
    rw [hc] at hstate
    have hb := (blkBase_eq_of_code b).2.2.1 hc
    rw [hb] at hstate ⊢
    have ht := s.blockReset_of_fwd hh
    rw [ht] at hstate
    refine ⟨s.fwdCleared.raise fwdB Ev.blockResetDone (blkSrc fwdB), ?_, hstate, ?_, ?_, ?_⟩
    · exact congrArg Host.Outcome.next ((congrArg s.blockReset hb).trans ht)
    · rw [State.raise_dp]
      rfl
    · intro a ha
      have hr := fwd_range ha
      rw [State.raise_cnt _ _ _ _ _ (by simp only [inEvt]; omega), s.fwdCleared_cnt ha]
    · intro a ha
      rw [State.raise_rd _ _ _ _ _ ⟨by simp only [inEvt]; omega, by simp only [inCapture, fwdB]; omega⟩, s.fwdCleared_rd ha]
  case held =>
    intro s b hh
    refine congrArg Host.Outcome.next ?_
    rw [State.blockReset, if_pos hh]
end

section
/-! POWER_ON and DEVICE_RESET (R44, R45, R52): what a reset does before and after it writes its own record leaves the registers of TIM. -/
namespace Sys2Proof.Machine

set_option Elab.async false

/-- A register of TIM. -/
abbrev InTim (a : Nat) : Prop := 0x400000 ≤ a ∧ a < 0x500000

theorem InTim.kept (a : Nat) (h : InTim a) : Kept a := .inr (.inr (.inl h))

/-! ### What runs before the record is written: host ports leave, transmitters stop -/

namespace Spares
variable {s₀ s : State}

theorem tim (hs : Spares InTim s₀ s) {t : State} (h : Spares Kept s t) : Spares InTim s₀ t := hs.trans (h.weaken InTim.kept)

theorem wrTim {a v : Nat} (hs : Spares InTim s₀ s) (ha : ¬ InTim a := by
    intro h
    simp only [InTim, cipB, hifB, tfnB, keyAttr, tfnStat, hpA, hifFn, ctxUseA] at h <;> omega) : Spares InTim s₀ (s.wr a v) := hs.wrOff ha

theorem keyOpen {k v : Nat} (hs : Spares InTim s₀ s) : Spares InTim s₀ (s.keyOpen k v) :=
  (hs.tim (.setCnt (.setMat (.refl s)))).wrTim

theorem fnKeys {f : Nat} (hs : Spares InTim s₀ s) : Spares InTim s₀ (s.fnKeys f) := by
  unfold State.fnKeys
  extract_lets ks ms s₁ s₂
  have h₁ : Spares InTim s₀ s₁ := hs.foldl fun _ _ h => h.keyOpen
  clear_value s₁
  have h₂ : Spares InTim s₀ s₂ := h₁.beside
  exact h₂.wrTim

theorem fnReset {f : Nat} (hs : Spares InTim s₀ s) : Spares InTim s₀ (s.fnReset f) := by
  unfold State.fnReset
  extract_lets s₁ s₂ s₃ s₄ s₅ s₆
  have h₁ : Spares InTim s₀ s₁ := hs.tim (.fnAbort (.refl s))
  clear_value s₁
  have h₂ : Spares InTim s₀ s₂ := h₁.wrTim
  clear_value s₂
  have h₃ : Spares InTim s₀ s₃ := h₂.fnKeys.tim (.fnMbx (.fnQueues (.refl _)))
  clear_value s₃
  have h₄ : Spares InTim s₀ s₄ := h₃.tim (.setFn (.fnMsix (.refl _)))
  clear_value s₄
  have h₅ : Spares InTim s₀ s₅ := h₄.foldl fun _ _ h => h.beside
  clear_value s₅
  have h₆ : Spares InTim s₀ s₆ := h₅.beside
  exact h₆.wrTim

theorem orphan {f : Nat} (hs : Spares InTim s₀ s) : Spares InTim s₀ (s.orphan f) := by
  unfold State.orphan State.fnCfgReset
  extract_lets s₁
  have h₁ : Spares InTim s₀ s₁ := hs.ite (hs.fnReset.tim (.fnTo (.refl _)))
  clear_value s₁
  exact wrTim (s := s₁.setFn f _) h₁.beside

theorem hpLeave {h : Nat} (hs : Spares InTim s₀ s) : Spares InTim s₀ (s.hpLeave h) := by
  unfold State.hpLeave State.hpDown
  extract_lets s₁ s₂ l s₃ s₄ a
  have h₁ : Spares InTim s₀ s₁ := (hs.tim (.semFree (.refl s))).ite hs
  clear_value s₁
  have h₂ : Spares InTim s₀ s₂ := h₁.foldl fun _ _ h => h.orphan
  clear_value s₂ l
  have h₃ : Spares InTim s₀ s₃ := h₂.beside
  clear_value s₃
  have h₄ : Spares InTim s₀ s₄ := h₃.foldl fun _ _ h => h.tim (.oldSettle (.refl _))
  clear_value s₄
  have ha : ¬ InTim a := by
    simp only [InTim, hpA, hifB, a]
    omega
  clear_value a
  exact ((h₄.wrTim ha).wrTim ha).wrTim ha |>.tim (.raise (.refl _))

theorem ballsOff (hs : Spares InTim s₀ s) : Spares InTim s₀ s.ballsOff := by
  unfold State.ballsOff
  extract_lets s₁
  have h₁ : Spares InTim s₀ s₁ := hs.foldl fun _ _ h => h.tim (.setTx (.refl _))
  clear_value s₁
  exact h₁.foldl fun _ _ h => h.ite (h.tim (.emit (.refl _)))

end Spares

/-! ### What runs after: used host ports begin to train, the key store is zeroized -/

/-- Outside CIP's and the host ports' own parts and outside every register of another block than TIM, nothing changes. -/
abbrev KeepsTim (s t : State) : Prop := Keeps [.cip, .hp] (fun a => ¬ InTim a) (fun _ => True) s t

namespace KeepsTim
variable {s t u : State}

theorem refl (s : State) : KeepsTim s s := ⟨rfl, fun _ _ => rfl, fun _ _ => rfl⟩

theorem trans (h : KeepsTim s t) (k : KeepsTim t u) : KeepsTim s u :=
  ⟨k.1.trans h.1, fun a ha => (k.2.1 a ha).trans (h.2.1 a ha), fun _ ha => absurd trivial ha⟩

theorem wr (h : KeepsTim s t) {a v : Nat} (ha : ¬ InTim a) : KeepsTim s (t.wr a v) :=
  ⟨h.1, fun b hb => (State.rd_wr_ne t a v b fun e => hb (e ▸ ha)).trans (h.2.1 b hb), fun _ ha => absurd trivial ha⟩

theorem parts (h : KeepsTim s t) {cip hp} : KeepsTim s { t with cip := cip, hp := hp } := ⟨h.1, h.2.1, fun _ ha => absurd trivial ha⟩

theorem foldl {α : Type} {f : State → α → State} {l : List α} (h : KeepsTim s t) (step : ∀ t x, KeepsTim s t → KeepsTim s (f t x)) :
    KeepsTim s (l.foldl f t) := List.foldlRecOn (motive := KeepsTim s) l f h fun t ht x _ => step t x ht

/-- The parts that a reset's own record decides. -/
theorem besides (h : KeepsTim s t) : t.tb = s.tb ∧ t.mono = s.mono ∧ t.straps = s.straps ∧ t.tim = s.tim ∧ t.dp = s.dp ∧ t.en = s.en ∧
    t.svc = s.svc ∧ t.mem = s.mem ∧ t.tl = s.tl := by
  have part {α : Type} (f : State → α) := congrArg f h.1
  exact ⟨part State.tb, part State.mono, part State.straps, part State.tim, part State.dp, part State.en, part State.svc, part State.mem,
    part State.tl⟩

end KeepsTim

theorem State.portsStart_keeps (s : State) : KeepsTim s s.portsStart := by
  refine (KeepsTim.refl s).foldl fun t h ht => ?_
  split
  · refine KeepsTim.parts (ht.wr ?_)
    simp only [InTim, hpA, hifB]
    omega
  · exact ht

theorem State.portsStart_cip (s : State) : s.portsStart.cip = s.cip := by
  refine List.foldlRecOn (motive := fun t : State => t.cip = s.cip) [0, 1, 2, 3] _ rfl fun t ht h _ => ?_
  split
  · exact ht
  · exact ht

theorem mget_mclear_of_not {α : Type} (d : Nat → α) (p : Nat → Bool) (m : Sparse α) (k : Nat) (h : p k = false) :
    mget d (mclear p m) k = mget d m k := by
  induction m with
  | nil => rfl
  | cons e m ih =>
    unfold mclear at ih ⊢
    rw [List.filter_cons]
    by_cases hk : k = e.1
    · subst hk
      simp [h, mget]
    · split <;> simp [mget, hk, ih]

/-- A queue left empty in a CIP that has no message. -/
theorem State.setCipQ_of_idle (s : State) (h : s.cip = {}) (n : Nat) (hn : n < 4) :
    KeepsTim s (s.setCipQ n []) ∧ (s.setCipQ n []).cip = {} := by
  have ha : ¬ InTim (cipB + 0x60 + 4 * n) := by
    simp only [InTim, cipB]
    omega
  refine ⟨KeepsTim.wr (KeepsTim.wr (KeepsTim.refl s).parts ha) ha, ?_⟩
  have hc : (s.setCipQ n []).cip = { s.cip with
      q := mput (fun _ => []) s.cip.q n []
      headAt := if (s.cipQ n).head? = none then s.cip.headAt else mput (fun _ => 0) s.cip.headAt n s.mono } := rfl
  rw [hc, State.cipQ, h]
  rfl

theorem State.setWait_of_idle (s : State) (h : s.cip = {}) (n : Nat) :
    s.setCip (fun x => { x with wait := mput (fun _ => []) x.wait n [] }) = s := by
  cases s
  cases h
  rfl

theorem State.cipRefill_of_idle (s : State) (h : s.cip = {}) (n : Nat) : s.cipRefill n = s := by
  simp [State.cipRefill, h, mget]

/-- CIP without a message: queues and cores empty. -/
theorem State.endMsgs_of_idle (s : State) (h : s.cip = {}) (c : Nat) (sel : Msg → Bool) :
    KeepsTim s (s.endMsgs c sel) ∧ (s.endMsgs c sel).cip = {} := by
  unfold State.endMsgs
  extract_lets fin s₁
  have h₁ : s₁ = s := by
    refine List.foldlRecOn (motive := fun t => t = s) cores _ rfl fun t ht k _ => ?_
    subst ht
    rw [State.coreRun, h]
    rfl
  clear_value s₁ fin
  subst h₁
  refine List.foldlRecOn (motive := fun t => KeepsTim s₁ t ∧ t.cip = {}) [0, 1, 2, 3] _ ⟨.refl s₁, h⟩ fun t ⟨hk, hc⟩ n hn => ?_
  have hn : n < 4 := by
    simp only [List.mem_cons, List.not_mem_nil, or_false] at hn
    omega
  obtain ⟨hq, hw⟩ : t.cipQ n = [] ∧ mget (fun _ => []) t.cip.wait n = [] := by simp [State.cipQ, hc, mget]
  simp only [hq, hw, List.filter_nil, List.append_nil, List.foldl_nil]
  obtain ⟨hk', hc'⟩ := t.setCipQ_of_idle hc n hn
  rw [State.setWait_of_idle _ hc', State.cipRefill_of_idle _ hc']
  exact ⟨hk.trans hk', hc'⟩

theorem State.zeroize_of_idle (s : State) (h : s.cip = {}) :
    KeepsTim s s.zeroize ∧ s.zeroize.cip.mat = [] ∧ s.zeroize.flag (cipB + 0x200) 29 = true := by
  unfold State.zeroize
  extract_lets s₁ inKeys inCtrs s₂
  have h₁ : KeepsTim s s₁ := (s.endMsgs_of_idle h 8 fun m => m.started).1
  clear_value s₁
  have h₂ : KeepsTim s₁ s₂ := by
    refine ⟨rfl, fun a ha => ?_, fun _ ha => absurd trivial ha⟩
    have hout : inKeys a = false := by
      simp only [InTim, Classical.not_not] at ha
      have hlow : ¬ keyAttr 0 ≤ a := by
        simp only [keyAttr, cipB]
        omega
      simp [inKeys, hlow]
    exact congrArg BitVec.toNat (mget_mclear_of_not rstAt inKeys s₁.regs a hout)
  clear_value s₂
  refine ⟨KeepsTim.wr (h₁.trans h₂).parts (by simp [InTim, cipB]), rfl, ?_⟩
  rw [State.flag_setFld _ _ _ _ _ _ (by decide) (by decide)]
  rfl

/-- From a reset's record to the state that it answers. -/
theorem State.reset_ends (s : State) (h : s.cip = {}) :
    KeepsTim s s.portsStart.zeroize ∧ s.portsStart.zeroize.cip.mat = [] ∧ s.portsStart.zeroize.flag (cipB + 0x200) 29 = true := by
  obtain ⟨hk, hm, hf⟩ := s.portsStart.zeroize_of_idle (s.portsStart_cip.trans h)
  exact ⟨s.portsStart_keeps.trans hk, hm, hf⟩

/-! ### The registers that a reset keeps -/

theorem mget_keepRegs (keep : Nat → Nat) (regs : Sparse Word) (a : Nat) :
    mget rstAt (keepRegs keep regs) a = masked (keep a) (rstAt a) (mget rstAt regs a) := by
  refine (mget_foldr_mput rstAt (fun _ => true) (fun a v => masked (keep a) (rstAt a) v) regs [] a).trans ?_
  by_cases ha : a ∈ regs.map (·.1)
  · simp [ha]
  · simp only [ha, and_false, if_false, mget_of_not_mem_keys _ _ _ ha, masked_self]
    rfl

theorem masked_all (k : Nat) (rst v : Word) (h : BitVec.ofNat 32 k = BitVec.allOnes 32) : masked k rst v = v := by
  rw [masked, h, BitVec.not_allOnes, BitVec.and_zero, BitVec.or_zero, BitVec.and_allOnes]

theorem masked_zero (rst v : Word) : masked 0 rst v = rst := by
  rw [masked, BitVec.not_zero, BitVec.and_zero, BitVec.zero_or, BitVec.and_allOnes]

/-- The time base is UNCALIBRATED after power-on: no fuse keeps TQ. -/
theorem State.tq_of_fuses (s : State) (regs : Sparse Word) (h : s.regs = keepRegs fuseKeeps regs) : s.tq = 0 := by
  have hf : fuseKeeps (timB + 0x50) = 0 := by decide +kernel
  rw [State.tq, State.fld, State.rd, h, mget_keepRegs, hf, masked_zero]
  decide +kernel

/-- TIM's discipline registers (Table 02-4: RWS). -/
def disciplineRegs : List Nat := [timB + 0x4C, timB + 0x58, timB + 0x5C, timB + 0x60, timB + 0x9C, timB + 0xA0, timB + 0xA4]

/-- The bits of a register that a device reset keeps: those of the island and those that only power-on resets. -/
def restartKeeps (a : Nat) : Nat := islandKeeps a ||| (match cardAt a with
  | none => 0
  | some c => c.rws)

theorem disciplineRegs_kept : ∀ a ∈ disciplineRegs, InTim a ∧ BitVec.ofNat 32 (restartKeeps a) = BitVec.allOnes 32 := by decide +kernel

/-- The registers that TIM's own reset clears (R52). -/
def timCleared (a : Nat) : Bool :=
  [0x0C, 0x10, 0x14, 0x18, 0x1C, 0x20, 0x24, 0x28, 0x2C, 0x30, 0x64, 0x68, 0x6C, 0x70, 0x74, 0x78, 0x98,
    0x100, 0x120, 0x140, 0x160].contains (a - timB) && decide (timB ≤ a)

theorem State.timReset_regs (s : State) : s.timReset.regs = mclear timCleared s.regs := by
  unfold State.timReset timCleared State.setTim
  rfl

theorem disciplineRegs_spared : ∀ a ∈ disciplineRegs, timCleared a = false := by decide +kernel

theorem mget_keepRegs_all (keep : Nat → Nat) (regs : Sparse Word) (a : Nat) (h : BitVec.ofNat 32 (keep a) = BitVec.allOnes 32) :
    mget rstAt (keepRegs keep regs) a = mget rstAt regs a := by
  rw [mget_keepRegs, masked_all _ _ _ h]

/-- What a device reset does before its own record. -/
theorem State.restart_spares (s : State) :
    Spares InTim s ([0, 1, 2, 3].foldl (fun s h => if s.hpState h = 2 then s.hpLeave h else s) s).ballsOff :=
  Spares.ballsOff ((Spares.refl s).foldl fun _ _ h => h.hpLeave.ite h)

theorem freshDp_congr (d e : DataSt) (m : Nat) (h : d.mod = e.mod) : freshDp d m = freshDp e m := by
  rw [freshDp, freshDp, h]

/-- The record of a power-on reset, and what follows it. -/
theorem State.powerOn_record (s : State) (x : Straps) : ∃ r : State, s.powerOn x = r.portsStart.zeroize ∧ r.cip = {} ∧ r.tb = 0 ∧ r.mono = 0 ∧
    r.straps = x ∧ r.tq = 0 ∧ r.dp = {} ∧ r.en = {} ∧ r.svc = {} ∧ r.mem = {} ∧ r.tl = {} ∧ r.tim.pend = none := by
  unfold State.powerOn
  extract_lets s₁ s₂ z r
  clear_value s₁ s₂
  exact ⟨r, rfl, rfl, rfl, rfl, rfl, r.tq_of_fuses s₂.regs rfl, rfl, rfl, rfl, rfl, rfl, rfl⟩

/-- The record of a device reset, with what comes before and after it. -/
theorem State.restart_record (s : State) : ∃ r : State, s.restart = r.portsStart.zeroize ∧ r.cip = {} ∧ r.tb = s.tb ∧ r.mono = s.mono ∧
    r.straps = s.straps ∧ r.dp = freshDp s.dp s.mono ∧ r.en = {} ∧ r.svc = {} ∧ r.mem = {} ∧ r.tl = { bucketAt := s.mono } ∧
    r.tim.pend = none ∧ ∀ a ∈ disciplineRegs, r.rd a = s.rd a := by
  have hs := s.restart_spares
  unfold State.restart
  extract_lets s₁ s₂ z pw dbg r
  change Spares InTim s s₂ at hs
  clear_value s₁ s₂
  refine ⟨r.timReset, rfl, rfl, hs.tb, hs.mono, hs.straps, ?_, rfl, rfl, rfl, ?_, rfl, fun a ha => ?_⟩
  · change freshDp s₂.dp s₂.mono = _
    rw [hs.mono, freshDp_congr _ _ _ hs.mod]
  · change ({ bucketAt := s₂.mono } : TailSt) = _
    rw [hs.mono]
  · obtain ⟨hin, hall⟩ := disciplineRegs_kept a ha
    have hr : r.regs = keepRegs restartKeeps s₂.regs := rfl
    rw [← hs.rd a hin, State.rd, State.timReset_regs, mget_mclear_of_not _ _ _ _ (disciplineRegs_spared a ha), hr,
      mget_keepRegs_all _ _ _ hall]
    rfl

end Sys2Proof.Machine
end

section
open Sys2Proof Sys2Proof.Machine

/-- Settles O12: the record that the reset writes decides each part, and what runs before and after it leaves them. -/
theorem powerOnAndDeviceReset : Obligations.PowerOnAndDeviceReset := by
  refine ⟨?powerOn, ?restart, ?held⟩
  case powerOn =>
    intro s x
    obtain ⟨r, hr, hcip, htb, hmono, hstr, htq, hdp, hen, hsvc, hmem, htl, hpend⟩ := s.powerOn_record x
    obtain ⟨hk, hm, hf⟩ := r.reset_ends hcip
    rw [← hr] at hk hm hf
    obtain ⟨ktb, kmono, kstr, ktim, kdp, ken, ksvc, kmem, ktl⟩ := hk.besides
    have hq := ((Follows.refl s).powerOn (straps := x)).queue
    have ktq : (s.powerOn x).tq = r.tq := congrArg (bits · 1 0) (hk.2.1 _ (by simp [timB]))
    exact ⟨s.powerOn x, rfl, ktb.trans htb, kmono.trans hmono, kstr.trans hstr, ktq.trans htq, hq, kdp.trans hdp, ken.trans hen,
      ksvc.trans hsvc, kmem.trans hmem, ktl.trans htl, (congrArg TimSt.pend ktim).trans hpend, hf, hm⟩
  case restart =>
    intro s hh
    obtain ⟨r, hr, hcip, htb, hmono, hstr, hdp, hen, hsvc, hmem, htl, hpend, hregs⟩ := s.restart_record
    obtain ⟨hk, hm, hf⟩ := r.reset_ends hcip
    rw [← hr] at hk hm hf
    obtain ⟨ktb, kmono, kstr, ktim, kdp, ken, ksvc, kmem, ktl⟩ := hk.besides
    have hq := (Follows.refl s).restart.queue
    have he : exec .deviceReset s = .next s.restart := congrArg Host.Outcome.next (by rw [State.deviceReset, if_neg (by simp [hh])])
    exact ⟨s.restart, he, ktb.trans htb, kmono.trans hmono, kstr.trans hstr, hq, (congrArg TimSt.pend ktim).trans hpend, kdp.trans hdp,
      ken.trans hen, ksvc.trans hsvc, kmem.trans hmem, ktl.trans htl, hf, hm,
      fun a ha => (hk.2.1 a fun h => h (disciplineRegs_kept a ha).1).trans (hregs a ha)⟩
  case held =>
    intro s hh
    refine congrArg Host.Outcome.next ?_
    rw [State.deviceReset, if_pos hh]
end

section
/-! SUPPORT. An event that is raised latches its cause (R433): bit 31 of its cause register reads 1 after it, and an event of another cause
leaves it. -/
namespace Sys2Proof.Machine

variable {s t : State} {c d : Nat}

namespace Raised

theorem wr (h : Raised d s) {a v : Nat} (ha : causeA d ≠ a) : Raised d (s.wr a v) := by
  rw [Raised, State.flag, State.rd_wr_ne _ _ _ _ ha]
  exact h

theorem setFld (h : Raised d s) {a hi lo v : Nat} (ha : causeA d ≠ a) : Raised d (s.setFld a hi lo v) := h.wr ha

theorem ite {b : Prop} {_ : Decidable b} (h : Raised d s) (k : Raised d t) : Raised d (if b then s else t) := by
  split
  · exact h
  · exact k

theorem pair {α : Type} {x : α} (h : Raised d s) : Raised d (x, s).2 := h

theorem ite_snd {b : Prop} {_ : Decidable b} {α : Type} {x y : α × State} (hx : Raised d x.2) (hy : Raised d y.2) :
    Raised d (if b then x else y).2 := by
  split
  · exact hx
  · exact hy

theorem pwr (h : Raised d s) {f o v : Nat} : Raised d (s.pwr f o v) := h

theorem log (h : Raised d s) {l : List LogEntry} : Raised d { s with log := l } := h

theorem bump (h : Raised d s) {a n : Nat} : Raised d (s.bump a n) := h

/-- No word beside a cause register is one. -/
theorem causeA_ne_off (d c k : Nat) (h : k = 4 ∨ k = 8) : causeA d ≠ causeA c + k := by
  simp only [causeA]
  omega

theorem of_only {p : Nat → Prop} (h : Raised d s) (k : OnlyRegs p s t) (hp : ¬ p (causeA d)) : Raised d t := by
  rw [Raised, State.flag, k.regs _ hp]
  exact h

/-- The latch of the cause itself. -/
theorem latchCause_self (s : State) (c src : Nat) : Raised c (s.latchCause c src) := by
  unfold State.latchCause
  extract_lets a n s₁ s₂ s₃
  have h₂ : Raised c s₂ := (State.flag_setFld _ _ _ _ _ _ (by decide) (by decide)).trans rfl
  clear_value s₂
  have h₃ : Raised c s₃ := h₂.ite (h₂.wr (causeA_ne_off _ _ _ (.inl rfl)))
  exact h₃.wr (causeA_ne_off _ _ _ (.inr rfl))

theorem latchCause (h : Raised d s) {src : Nat} : Raised d (s.latchCause c src) := by
  by_cases hc : d = c
  · subst hc
    exact latchCause_self _ _ _
  · have ha : causeA d ≠ causeA c := by
      simp only [causeA]
      omega
    unfold State.latchCause
    extract_lets a n s₁ s₂ s₃
    have h₂ : Raised d s₂ := (h.setFld ha).setFld ha
    clear_value s₂
    have h₃ : Raised d s₃ := h₂.ite (h₂.wr (causeA_ne_off _ _ _ (.inl rfl)))
    exact h₃.wr (causeA_ne_off _ _ _ (.inr rfl))

theorem capture (h : Raised d s) {base src sev : Nat} {y : Synd} (hb : ¬ inCapture base (causeA d)) :
    Raised d (s.capture base c src sev y).2 := by
  have off (k : Nat) (h1 : 0x14 ≤ k) (h2 : k ≤ 0x30) : causeA d ≠ base + k := fun e => hb ⟨by omega, by omega⟩
  have h14 := off 0x14 (by omega) (by omega)
  have h18 := off 0x18 (by omega) (by omega)
  have hflag : Raised d (s.setFld (base + 0x14) 30 30 1) := h.setFld h14
  exact (((hflag.setFld h14).ite hflag).wr h18).pair.ite_snd
    ((((((((h.wr h14).wr h18).wr (off 0x1C (by omega) (by omega))).wr (off 0x20 (by omega) (by omega))).wr
      (off 0x24 (by omega) (by omega))).wr (off 0x28 (by omega) (by omega))).wr (off 0x2C (by omega) (by omega))).wr
      (off 0x30 (by omega) (by omega))).pair

theorem logEvent (h : Raised d s) {base src sev : Nat} {first : Bool} {y : Synd} :
    Raised d (s.logEvent base c src sev first y).2 := by
  have off (k : Nat) (hk : k < 0x1000) : causeA d ≠ evtB + k := by
    simp only [causeA, evtB]
    omega
  have h40 := off 0x40 (by omega)
  exact (((h.setFld h40).log.setFld h40).bump.pair).ite_snd ((h.setFld h40).wr (off 0x44 (by omega))).pair

/-- What follows the latch of an occurrence. -/
theorem evtVector (h : Raised d s) {f v : Nat} : Raised d (s.evtVector f v) := h.of_only (State.evtVector_only s noAddr f v) id

theorem occur (s : State) (base : Nat) (src : Nat) (y : Synd) (h : sevOf c ≠ none) (hd : d = c ∨ Raised d s ∧ ¬ inCapture base (causeA d)) :
    Raised d (s.occur base c src y).2 := by
  unfold State.occur
  split
  · next e => exact absurd e h
  · next sev e =>
    have hc := sevOf_lt _ _ e
    have hpend (k : Nat) (hk : k < 0xF00) : causeA d ≠ evtB + k + 4 * (c / 32) := by
      simp only [causeA, evtB]
      omega
    extract_lets s₁ r route l s₂ s₃ s₄ mf s₅ s₆ s₇
    have h₂ : Raised d s₂ := by
      obtain rfl | ⟨hl, hcap⟩ := hd
      · exact latchCause_self _ _ _
      · have h₁ : Raised d s₁ := hl
        have hr : Raised d r.2 := by
          dsimp only [r]
          split
          · exact h₁.capture hcap
          · exact h₁
        have hl : Raised d l.2 := by
          dsimp only [l]
          split
          · exact hr.logEvent
          · exact hr
        exact hl.latchCause
    clear_value s₂
    have h₃ : Raised d s₃ := (h₂.setFld (hpend _ (by decide))).ite h₂
    clear_value s₃
    have h₄ : Raised d s₄ := (h₃.setFld (hpend _ (by decide))).ite h₃
    clear_value s₄ mf
    cases mf with
    | none => exact h₄.evtVector.ite h₄
    | some x =>
      have h₅ : Raised d s₅ := h₄.pwr.pwr
      clear_value s₅
      exact (h₅.evtVector.ite h₅).evtVector

end Raised

/-- An event that has a severity is raised. -/
theorem State.raise_raised (s : State) (base src : Nat) (h : sevOf c ≠ none) : Raised c (s.raise base c src) := by
  have ho : Raised c (s.occur base c src {}).2 := Raised.occur s base src {} h (.inl rfl)
  unfold State.raise State.raiseAt
  extract_lets r
  change Raised c r.2 at ho
  clear_value r
  have hcap : ¬ inCapture evtB (causeA c) := by
    simp only [inCapture, causeA, evtB]
    omega
  exact (Raised.occur r.2 evtB 0 {} (by decide) (.inr ⟨ho, hcap⟩)).ite ho

end Sys2Proof.Machine
end

section
/-! SUPPORT. The flash and the bank images that boot reads (R400–R403): a descriptor written leaves both banks as they are. -/
namespace Sys2Proof.Machine

/-! ### SHA-256 is a number of 256 bits -/

theorem foldl_words_lt (l : List (BitVec 32)) (a : Nat) : l.foldl (fun a x => a * 2 ^ 32 + x.toNat) a < (a + 1) * 2 ^ (32 * l.length) := by
  induction l generalizing a with
  | nil => simp
  | cons x l ih =>
    have hx := x.isLt
    calc (x :: l).foldl (fun a x => a * 2 ^ 32 + x.toNat) a < (a * 2 ^ 32 + x.toNat + 1) * 2 ^ (32 * l.length) := ih _
      _ ≤ ((a + 1) * 2 ^ 32) * 2 ^ (32 * l.length) := Nat.mul_le_mul_right _ (by omega)
      _ = (a + 1) * 2 ^ (32 * (x :: l).length) := by rw [Nat.mul_assoc, ← Nat.pow_add, List.length_cons, Nat.mul_add, Nat.add_comm 32]

theorem hashBlock_length_le (v : List (BitVec 32)) (b : List Byte) : (hashBlock v b).length ≤ v.length := by
  unfold hashBlock
  dsimp only
  rw [List.length_zipWith]
  exact Nat.min_le_left _ _

theorem sha256_lt (m : List Byte) : sha256 m < 2 ^ 256 := by
  unfold sha256
  extract_lets len p v
  have hv : v.length ≤ 8 := by
    refine List.foldlRecOn (motive := fun v : List (BitVec 32) => v.length ≤ 8) (List.range len) _ (by simp [wordsBE]) fun v hv i _ => ?_
    exact (hashBlock_length_le v _).trans hv
  calc _ < (0 + 1) * 2 ^ (32 * v.length) := foldl_words_lt v 0
    _ ≤ 2 ^ 256 := by
      rw [Nat.zero_add, Nat.one_mul]
      exact Nat.pow_le_pow_right (by decide) (by omega)

/-! ### The words that the bank check reads, and the banks -/

/-- The fuses and the size of the flash. -/
def bankReg (a : Nat) : Prop := a = bootB + 0x108 ∨ (bootB + 0x80 ≤ a ∧ a < bootB + 0xB0)

/-- Both banks and what their check reads beside them are the same. -/
structure SameBanks (s t : State) : Prop where
  flash : ∀ o, 2 ^ 24 ≤ o → t.flashAt o = s.flashAt o
  regs : ∀ a, bankReg a → t.rd a = s.rd a

namespace SameBanks
variable {s t u : State}

theorem refl (s : State) : SameBanks s s := ⟨fun _ _ => rfl, fun _ _ => rfl⟩

theorem trans (h : SameBanks s t) (k : SameBanks t u) : SameBanks s u :=
  ⟨fun o ho => (k.flash o ho).trans (h.flash o ho), fun a ha => (k.regs a ha).trans (h.regs a ha)⟩

theorem ite {c : Prop} {_ : Decidable c} (h : SameBanks s t) (k : SameBanks s u) : SameBanks s (if c then t else u) := by
  split
  · exact h
  · exact k

theorem wr (h : SameBanks s t) {a v : Nat} (ha : ¬ bankReg a) : SameBanks s (t.wr a v) :=
  h.trans ⟨fun _ _ => rfl, fun _ hb => State.rd_wr_ne _ _ _ _ fun e => ha (e ▸ hb)⟩

theorem setFld (h : SameBanks s t) {a hi lo v : Nat} (ha : ¬ bankReg a) : SameBanks s (t.setFld a hi lo v) := h.wr ha

theorem bankSize (h : SameBanks s t) : t.bankSize = s.bankSize := by
  simp only [State.bankSize, State.flashCap, State.fld, h.regs _ (.inl rfl)]

theorem bankBase (h : SameBanks s t) (b : Nat) : t.bankBase b = s.bankBase b := by
  rw [State.bankBase, State.bankBase, h.bankSize]

theorem bankBytes (h : SameBanks s t) (b o n : Nat) : t.bankBytes b o n = s.bankBytes b o n := by
  rw [State.bankBytes, State.bankBytes, h.bankBase]
  refine List.map_congr_left fun i _ => h.flash _ ?_
  rw [State.bankBase]
  omega

theorem bankLen (h : SameBanks s t) (b : Nat) : t.bankLen b = s.bankLen b := by rw [State.bankLen, State.bankLen, h.bankBytes]
theorem bankSvn (h : SameBanks s t) (b : Nat) : t.bankSvn b = s.bankSvn b := by rw [State.bankSvn, State.bankSvn, h.bankBytes]

theorem bankSects (h : SameBanks s t) (b : Nat) : t.bankSects b = s.bankSects b := by simp only [State.bankSects, h.bankBytes]

theorem sectBytes (h : SameBanks s t) (b : Nat) (x : ImgSect) : t.sectBytes b x = s.sectBytes b x := h.bankBytes _ _ _

theorem bankDigest (h : SameBanks s t) (b : Nat) : t.bankDigest b = s.bankDigest b := by
  rw [State.bankDigest, State.bankDigest, h.bankBytes, h.bankLen]

theorem sectsOk (h : SameBanks s t) (b : Nat) : t.sectsOk b = s.sectsOk b := by simp only [State.sectsOk, h.bankSects, h.bankLen]

theorem signKey (h : SameBanks s t) (b : Nat) : t.signKey b = s.signKey b := by
  have hash : (List.range 8).map (fun n => (32, t.rd (bootB + 0x90 + 4 * n))) = (List.range 8).map fun n => (32, s.rd (bootB + 0x90 + 4 * n)) := by
    refine List.map_congr_left fun n hn => congrArg (Prod.mk 32) (h.regs _ (.inr ?_))
    have := List.mem_range.1 hn
    omega
  simp only [State.signKey, State.flag, h.regs _ (.inr ⟨Nat.le_refl _, by decide⟩), h.bankBytes, h.bankSects, h.sectBytes, hash]
  rfl

/-- The check of a bank finds the same. -/
theorem bankCheck (h : SameBanks s t) (b : Nat) (e : Bool) : t.bankCheck b e = s.bankCheck b e := by
  simp only [State.bankCheck, h.bankBytes, h.bankLen, h.bankSize, h.sectsOk, h.signKey, h.bankSvn, State.fld,
    h.regs _ (.inr ⟨Nat.le_refl _, by decide⟩)]
  rfl

end SameBanks

theorem mget_foldl_mput_of_not {α β : Type} [DecidableEq α] (d : Nat → α) (key : β → Nat) (val : β → α) (l : List β) (m : Sparse α) (k : Nat)
    (h : ∀ x ∈ l, key x ≠ k) : mget d (l.foldl (fun m x => mput d m (key x) (val x)) m) k = mget d m k :=
  List.foldlRecOn (motive := fun n => mget d n k = mget d m k) l _ rfl fun n hn x hx => by
    rw [mget_mput, if_neg (h x hx).symm, hn]

/-- Bytes put into the flash leave those outside. -/
theorem State.flashPut_flashAt (s : State) (o : Nat) (bs : List Byte) (i : Nat) (h : o + bs.length ≤ i) :
    (s.flashPut o bs).flashAt i = s.flashAt i := by
  refine congrArg (fun x : Option Byte => x.getD (Config.flashByte i)) (mget_foldl_mput_of_not _ (fun x : Byte × Nat => o + x.2) _ _ _ _ ?_)
  intro x hx
  have := List.snd_lt_of_mem_zipIdx hx
  omega

theorem Desc.bytes_length (d : Desc) : d.bytes.length = 64 := by
  simp only [Desc.bytes, bytesBE, List.length_append, List.length_map, List.length_range, List.length_replicate, List.length_cons, List.length_nil]

/-- Bytes put below the banks. -/
theorem SameBanks.flashPut {s t : State} (h : SameBanks s t) (o : Nat) (bs : List Byte) (hb : o + bs.length ≤ 2 ^ 24) :
    SameBanks s (t.flashPut o bs) :=
  h.trans ⟨fun i hi => t.flashPut_flashAt o bs i (hb.trans hi), fun _ _ => rfl⟩

/-- A descriptor lies below the banks. -/
theorem SameBanks.putDesc {s t : State} (h : SameBanks s t) (d : Desc) : SameBanks s (t.putDesc d) := by
  refine h.flashPut _ _ ?_
  rw [Desc.bytes_length]
  omega

theorem State.bankCheck_le (s : State) (b : Nat) (e : Bool) : s.bankCheck b e ≤ 6 := by
  unfold State.bankCheck
  dsimp only
  repeat' split
  all_goals decide

end Sys2Proof.Machine
end

section
/-! The boot from ROM to MGC_START (R398, R399, R401, R403): what each state's command leaves. -/
namespace Sys2Proof.Machine

theorem Keeps.wr {ks : List Part} {p q : Nat → Prop} {s t : State} (h : Keeps ks p q s t) {a : Nat} (ha : p a) (v : Nat) : Keeps ks p q s (t.wr a v) :=
  ⟨h.1, fun b hb => (State.rd_wr_ne t a v b fun e => hb (e ▸ ha)).trans (h.2.1 b hb), h.2.2⟩

theorem Keeps.refl (ks : List Part) (p q : Nat → Prop) (s : State) : Keeps ks p q s s := ⟨rfl, fun _ _ => rfl, fun _ _ => rfl⟩

variable (s : State)

/-! ### Boot states -/

theorem State.bootState_toBoot (v : Nat) : (s.toBoot v).bootState = v % 16 := State.fld_setFld _ _ _ _ _ (by decide) (by decide)

theorem State.rd_toBoot (v a : Nat) (h : a ≠ bootB + 0x44) : (s.toBoot v).rd a = s.rd a := State.rd_setFld_ne _ _ _ _ _ _ h

theorem State.toBoot_keeps (v : Nat) : Keeps [] (oneOf [bootB + 0x44]) noAddr s (s.toBoot v) := s.wr_keeps _ _

theorem State.bootState_of_rd {s t : State} (h : t.rd (bootB + 0x44) = s.rd (bootB + 0x44)) : t.bootState = s.bootState := by
  rw [State.bootState, State.bootState, State.fld, State.fld, h]

/-- BOOT's own registers apart from its captures are not an event's. -/
theorem offEvent_boot (base k : Nat) (hb : base = bootB ∨ base = pwrB ∨ base = genB) (h : 0x40 ≤ k ∧ k < 0x100000) : offEvent base (bootB + k) := by
  constructor
  · simp only [inEvt, bootB]
    omega
  · simp only [inCapture, bootB, pwrB, genB] at *
    omega

/-! ### A failure (R399) -/

theorem State.bootFail_of_untried (c i : Nat) (h : s.bootState < 5 ∨ s.flag (bootB + 0x4C) 30 = false) :
    s.bootFail c i = (s.wr (bootB + 0x48) (c * 2 ^ 24 + i % 2 ^ 24)).toBoot 0xF := by
  have hf : (s.wr (bootB + 0x48) (c * 2 ^ 24 + i % 2 ^ 24)).flag (bootB + 0x4C) 30 = s.flag (bootB + 0x4C) 30 := by
    rw [State.flag, State.flag, State.rd_wr_ne _ _ _ _ (by decide)]
  rw [State.bootFail, hf, if_neg]
  obtain h | h := h
  · simp [Nat.not_le.2 h]
  · simp [h]

theorem State.bootFail_of_trial (c i : Nat) (h : 5 ≤ s.bootState) (ht : s.flag (bootB + 0x4C) 30 = true) :
    s.bootFail c i = (s.wr (bootB + 0x48) (c * 2 ^ 24 + i % 2 ^ 24)).deviceReset := by
  have hf : (s.wr (bootB + 0x48) (c * 2 ^ 24 + i % 2 ^ 24)).flag (bootB + 0x4C) 30 = s.flag (bootB + 0x4C) 30 := by
    rw [State.flag, State.flag, State.rd_wr_ne _ _ _ _ (by decide)]
  rw [State.bootFail, hf, if_pos (by simp [h, ht])]

/-- Where no TRIAL bank runs, the boot ends in FAILED with its code. -/
theorem State.bootFail_ends (c i : Nat) (hc : c < 256) (h : s.bootState < 5 ∨ s.flag (bootB + 0x4C) 30 = false) :
    (s.bootFail c i).bootState = 0xF ∧ (s.bootFail c i).rd (bootB + 0x48) = c * 2 ^ 24 + i % 2 ^ 24 ∧
      (∀ a, a ≠ bootB + 0x44 → a ≠ bootB + 0x48 → (s.bootFail c i).rd a = s.rd a) ∧
      Keeps [] (oneOf [bootB + 0x44, bootB + 0x48]) noAddr s (s.bootFail c i) := by
  have hv : (c * 2 ^ 24 + i % 2 ^ 24) % 2 ^ 32 = c * 2 ^ 24 + i % 2 ^ 24 := Nat.mod_eq_of_lt (by omega)
  rw [s.bootFail_of_untried c i h]
  refine ⟨State.bootState_toBoot _ _, ?_, fun a h1 h2 => ?_, ?_⟩
  · rw [State.rd_toBoot _ _ _ (by decide), State.rd_wr, hv]
  · rw [State.rd_toBoot _ _ _ h1, State.rd_wr_ne _ _ _ _ h2]
  · exact ((Keeps.refl _ _ _ s).wr (by simp [oneOf]) _).wr (by simp [oneOf]) _

/-! ### RECOVERY -/

theorem State.toRecovery_ends : s.toRecovery.bootState = 0xE ∧ Raised Ev.bootRecovery s.toRecovery ∧ s.toRecovery.flag (bootB + 0x80040) 31 = true ∧
    s.toRecovery.rd (bootB + 0x48) = s.rd (bootB + 0x48) := by
  unfold State.toRecovery
  extract_lets s₁
  have hr (a : Nat) : s₁.rd a = (((s.toBoot 0xE).setFld (bootB + 0x80040) 31 31 1).setFld (bootB + 0x80040) 30 30 1).rd a :=
    State.setBoot_rd _ _ _
  have hst : s₁.bootState = 0xE := by
    rw [State.bootState, State.fld, hr, State.rd_setFld_ne _ _ _ _ _ _ (by decide), State.rd_setFld_ne _ _ _ _ _ _ (by decide)]
    exact s.bootState_toBoot 0xE
  have hfl : s₁.flag (bootB + 0x80040) 31 = true := by
    rw [State.flag, hr]
    exact (State.flag_setFld _ _ _ _ _ _ (by decide) (by decide)).trans (State.flag_setFld _ _ _ _ _ _ (by decide) (by decide))
  have hrd : s₁.rd (bootB + 0x48) = s.rd (bootB + 0x48) := by
    rw [hr, State.rd_setFld_ne _ _ _ _ _ _ (by decide), State.rd_setFld_ne _ _ _ _ _ _ (by decide), State.rd_toBoot _ _ _ (by decide)]
  clear_value s₁
  have off (k : Nat) (h : 0x40 ≤ k ∧ k < 0x100000) := offEvent_boot bootB k (.inl rfl) h
  refine ⟨?_, s₁.raise_raised _ _ (by decide), ?_, ?_⟩
  · rw [State.bootState, State.raise_fld _ _ _ _ _ _ _ (off 0x44 (by decide))]
    exact hst
  · rw [State.raise_flag _ _ _ _ _ _ (off 0x80040 (by decide)), hfl]
  · rw [State.raise_rd _ _ _ _ _ (off 0x48 (by decide)), hrd]

/-! ### ROM, SELF_TEST, FLASH -/

theorem State.romStart_of_free (h0 : s.bootState = 0) (hh : s.pw.hold.any = false) :
    s.romStart = if s.straps.bootMode = 2 then (s.setFld (pwrB + 0x54) 31 31 1).toRecovery else (s.setFld (pwrB + 0x54) 31 31 1).toBoot 1 := by
  rw [State.romStart, if_neg (by simp [h0, hh])]
  extract_lets t
  have ht : t.straps = s.straps := State.setFld_straps _ _ _ _ _
  rw [ht]

/-- The self-test's report of rows repaired and spares left, before its outcome. -/
def State.selfTested (s : State) (r : BitVec 16) (n : BitVec 8) : State :=
  let t := s.wr (pwrB + 0x1D0) (r.toNat * 2 ^ 16 + n.toNat)
  if n.toNat < t.fld (pwrB + 0x1C4) 23 16 then t.raise pwrB Ev.sramSpareLow Src.device else t

theorem State.selfTest_of_testing (t : Bool) (a : Option (BitVec 24)) (r : BitVec 16) (n : BitVec 8) (h : s.bootState = 1) :
    s.selfTest t a r n = match a with
      | some a => (s.selfTested r n).bootFail 2 a.toNat
      | none => if t then ((s.selfTested r n).setFld (mciB + 0x40) 31 31 1).toBoot 2
        else ((s.selfTested r n).setFld (mciB + 0x40) 30 30 1).bootFail 1 0 := by
  rw [State.selfTest, if_neg (by simp [h])]
  rfl

theorem State.selfTested_ends (r : BitVec 16) (n : BitVec 8) : (s.selfTested r n).bootState = s.bootState ∧
    (s.selfTested r n).rd (pwrB + 0x1D0) = r.toNat * 2 ^ 16 + n.toNat ∧
    (n.toNat < s.fld (pwrB + 0x1C4) 23 16 → Raised Ev.sramSpareLow (s.selfTested r n)) := by
  unfold State.selfTested
  extract_lets t
  have hst : t.bootState = s.bootState := State.bootState_of_rd (State.rd_wr_ne _ _ _ _ (by decide))
  have hf : t.fld (pwrB + 0x1C4) 23 16 = s.fld (pwrB + 0x1C4) 23 16 := by
    rw [State.fld, State.fld, State.rd_wr_ne _ _ _ _ (by decide)]
  have hrd : t.rd (pwrB + 0x1D0) = r.toNat * 2 ^ 16 + n.toNat := by
    rw [State.rd_wr, Nat.mod_eq_of_lt (by omega)]
  clear_value t
  rw [hf]
  split
  · refine ⟨?_, ?_, fun _ => t.raise_raised _ _ (by decide)⟩
    · rw [← hst]
      exact State.bootState_of_rd (State.raise_rd _ _ _ _ _ (offEvent_boot _ _ (.inr (.inl rfl)) (by decide)))
    · rw [State.raise_rd _ _ _ _ _ (by simp [offEvent, inEvt, inCapture, pwrB]), hrd]
  · next h => exact ⟨hst, hrd, fun x => absurd x h⟩

theorem State.keyed_setFld_toBoot (t : State) (v : Nat) : ((t.setFld (mciB + 0x40) 31 31 1).toBoot v).keyed = true := by
  rw [State.keyed, State.toBoot, State.flag_setFld_ne _ _ _ _ _ _ _ (by decide), State.flag_setFld _ _ _ _ _ _ (by decide) (by decide)]
  rfl

end Sys2Proof.Machine
end

section
/-! VERIFY (R401, R403): the candidates in turn, and what runs of the bank that passes. -/
namespace Sys2Proof.Machine

/-! ### BOOT_DIGEST -/

/-- Eight words of a hash, the first most significant, spell it. -/
theorem pk_words (g : Nat) (h : g < 2 ^ 256) : pk ((List.range 8).map fun n => (32, bits g (255 - 32 * n) (224 - 32 * n))) = g := by
  have hr : List.range 8 = [0, 1, 2, 3, 4, 5, 6, 7] := by decide
  simp only [hr, pk, List.map_cons, List.map_nil, List.foldl_cons, List.foldl_nil, bits]
  norm_num
  omega

variable (s : State)

theorem State.markTried_of_untried (n : Nat) (h : bankSt (s.desc.2.bank n) ≠ 2) : s.markTried n = s := by
  simp [State.markTried, h]

/-! ### What trying banks changes -/

theorem State.putDesc_rd (d : Desc) (a : Nat) : (s.putDesc d).rd a = s.rd a := State.setBoot_rd _ _ _

theorem State.putDesc_straps (d : Desc) : (s.putDesc d).straps = s.straps := State.setBoot_straps _ _

/-- Banks, registers but BOOT_BANK, and straps are the same. -/
structure Tried (s t : State) : Prop where
  banks : SameBanks s t
  regs : ∀ a, a ≠ bootB + 0x4C → t.rd a = s.rd a
  straps : t.straps = s.straps

namespace Tried
variable {s t : State}

theorem refl (s : State) : Tried s s := ⟨.refl s, fun _ _ => rfl, rfl⟩

theorem trans {u : State} (h : Tried s t) (k : Tried t u) : Tried s u :=
  ⟨h.banks.trans k.banks, fun a ha => (k.regs a ha).trans (h.regs a ha), k.straps.trans h.straps⟩

theorem putDesc (h : Tried s t) (d : Desc) : Tried s (t.putDesc d) := 
  ⟨h.banks.putDesc d, fun a ha => (t.putDesc_rd d a).trans (h.regs a ha), (t.putDesc_straps d).trans h.straps⟩

theorem ite {c : Prop} {_ : Decidable c} {u : State} (h : Tried s t) (k : Tried s u) : Tried s (if c then t else u) := by
  split
  · exact h
  · exact k

theorem setFld (h : Tried s t) (hi lo v : Nat) : Tried s (t.setFld (bootB + 0x4C) hi lo v) :=
  ⟨h.banks.setFld (by simp [bankReg, bootB]), fun a ha => (State.rd_setFld_ne _ _ _ _ _ _ ha).trans (h.regs a ha),
    (State.setFld_straps _ _ _ _ _).trans h.straps⟩

end Tried

theorem State.tryBanks_nil (e : BitVec 2) : ∃ t, State.tryBanks e [] 1 s = (none, t) ∧ Tried s t :=
  ⟨_, rfl, (Tried.refl s).ite ((Tried.refl s).putDesc _)⟩

/-- A candidate in its turn: the descriptor counts the boot or the attempt, then the bank is checked. -/
theorem State.tryBanks_cons (e : BitVec 2) (n : Nat) (l : List Nat) (k : Nat) : ∃ t, Tried s t ∧
    State.tryBanks e (n :: l) k s = (if (t.tryBank n (e.getLsbD n)).1 then (some n, (t.tryBank n (e.getLsbD n)).2)
      else State.tryBanks e l 0 (t.tryBank n (e.getLsbD n)).2) :=
  ⟨_, (Tried.refl s).ite ((Tried.refl s).putDesc _), rfl⟩

/-- The check of a bank: BOOT_BANK shows its code, and 0 passes. -/
theorem State.tryBank_ends (n : Nat) (e : Bool) (hn : n < 2) : ∃ t,
    s.tryBank n e = (decide (s.bankCheck n e = 0), t) ∧ Tried s t ∧ t.fld (bootB + 0x4C) (23 - 4 * n) (20 - 4 * n) = s.bankCheck n e := by
  have hle := s.bankCheck_le n e
  have ht := (Tried.refl s).setFld (23 - 4 * n) (20 - 4 * n) (s.bankCheck n e)
  have hf : (s.setFld (bootB + 0x4C) (23 - 4 * n) (20 - 4 * n) (s.bankCheck n e)).fld (bootB + 0x4C) (23 - 4 * n) (20 - 4 * n) = s.bankCheck n e := by
    rw [State.fld_setFld _ _ _ _ _ (by omega) (by omega), show 23 - 4 * n + 1 - (20 - 4 * n) = 4 by omega]
    exact Nat.mod_eq_of_lt (by omega)
  unfold State.tryBank
  extract_lets code t d w
  change Tried s t at ht
  change t.fld _ _ _ = _ at hf
  clear_value t
  by_cases hc : code = 0
  · exact ⟨t, by rw [if_pos hc, decide_eq_true hc], ht, hf⟩
  · refine ⟨t.putDesc _, by rw [if_neg hc, decide_eq_false hc], ht.putDesc _, ?_⟩
    rw [State.fld, State.putDesc_rd]
    exact hf

/-- One bank tried. -/
theorem State.tryBanks_one (e : BitVec 2) (n : Nat) (hn : n < 2) : ∃ t,
    State.tryBanks e [n] 1 s = (if s.bankCheck n (e.getLsbD n) = 0 then some n else none, t) ∧ Tried s t ∧
      t.fld (bootB + 0x4C) (23 - 4 * n) (20 - 4 * n) = s.bankCheck n (e.getLsbD n) := by
  obtain ⟨s₁, h₁, he⟩ := s.tryBanks_cons e n [] 1
  obtain ⟨t, ht, h₂, hf⟩ := s₁.tryBank_ends n (e.getLsbD n) hn
  rw [h₁.banks.bankCheck] at ht hf
  refine ⟨t, ?_, h₁.trans h₂, hf⟩
  rw [he, ht]
  by_cases hc : s.bankCheck n (e.getLsbD n) = 0
  · simp [hc]
  · simp [hc, State.tryBanks]

/-! ### The bank that passed -/

/-- Words written one after another. -/
theorem State.rd_foldl_wr (b : Nat) (f : Nat → Nat) (n k : Nat) (hk : k < n) (hf : f k < 2 ^ 32) :
    ((List.range n).foldl (fun s k => s.wr (b + 4 * k) (f k)) s).rd (b + 4 * k) = f k := by
  induction n with
  | zero => omega
  | succ n ih =>
    rw [List.range_succ, List.foldl_append, List.foldl_cons, List.foldl_nil]
    by_cases h : k = n
    · rw [h, State.rd_wr, ← h, Nat.mod_eq_of_lt hf]
    · rw [State.rd_wr_ne _ _ _ _ (by omega), ih (by omega)]

theorem State.rd_foldl_wr_off (b : Nat) (f : Nat → Nat) (n a : Nat) (h : a < b ∨ b + 4 * n ≤ a) :
    ((List.range n).foldl (fun s k => s.wr (b + 4 * k) (f k)) s).rd a = s.rd a :=
  List.foldlRecOn (motive := fun t : State => t.rd a = s.rd a) (List.range n) _ rfl fun t ht k hk => by
    have := List.mem_range.1 hk
    rw [State.rd_wr_ne _ _ _ _ (by omega), ht]

theorem natBE_lt (l : List Byte) : natBE l < 256 ^ l.length := by
  have h (l : List Byte) (a : Nat) : l.foldl (fun acc b => acc * 256 + b.toNat) a < (a + 1) * 256 ^ l.length := by
    induction l generalizing a with
    | nil => simp
    | cons x l ih =>
      have hx := x.isLt
      calc (x :: l).foldl (fun acc b => acc * 256 + b.toNat) a < (a * 256 + x.toNat + 1) * 256 ^ l.length := ih _
        _ ≤ ((a + 1) * 256) * 256 ^ l.length := Nat.mul_le_mul_right _ (by omega)
        _ = (a + 1) * 256 ^ (x :: l).length := by rw [List.length_cons, Nat.pow_succ, Nat.mul_assoc, Nat.mul_comm 256]
  simpa [natBE] using h l 0

theorem State.bankSvn_lt (b : Nat) : s.bankSvn b < 2 ^ 16 := by
  have h := natBE_lt (s.bankBytes b 6 2)
  have hl : (s.bankBytes b 6 2).length = 2 := by simp [State.bankBytes, State.flashBytes]
  rwa [hl] at h

theorem State.runBank_ends (n : Nat) (hn : n < 2) : (s.runBank n).bootState = 4 ∧ (s.runBank n).running_ = n ∧
    (s.runBank n).bootDigest = s.bankDigest n ∧ (s.runBank n).fld (bootB + 0x4C) 15 0 = s.bankSvn n ∧
    (s.runBank n).fld (bootB + 0x4C) (23 - 4 * n) (20 - 4 * n) = s.fld (bootB + 0x4C) (23 - 4 * n) (20 - 4 * n) := by
  have hsvn := s.bankSvn_lt n
  unfold State.runBank
  extract_lets w a s₁ g s₂ s₃
  have hb : SameBanks s s₁ := by
    have ha : ¬ bankReg a := by simp [bankReg, bootB, a]
    exact ((((SameBanks.refl s).setFld ha).setFld ha).setFld ha).setFld ha
  have hg : g = s.bankDigest n := hb.bankDigest n
  have hrun : s₁.fld a 31 31 = n := by
    rw [State.fld_setFld_apart _ _ _ _ _ _ _ (by decide) (by decide) (by decide),
      State.fld_setFld_apart _ _ _ _ _ _ _ (by decide) (by decide) (by decide),
      State.fld_setFld_apart _ _ _ _ _ _ _ (by decide) (by decide) (by decide), State.fld_setFld _ _ _ _ _ (by decide) (by decide)]
    exact Nat.mod_eq_of_lt (by omega)
  have hmin : s₁.fld a 15 0 = s.bankSvn n := by
    rw [State.fld_setFld _ _ _ _ _ (by decide) (by decide)]
    exact Nat.mod_eq_of_lt hsvn
  have hcode : s₁.fld a (23 - 4 * n) (20 - 4 * n) = s.fld a (23 - 4 * n) (20 - 4 * n) := by
    have off (t : State) (hi lo v : Nat) (h : lo ≤ hi) (hd : 23 - 4 * n < lo ∨ hi < 20 - 4 * n) :=
      State.fld_setFld_apart t a hi lo v (23 - 4 * n) (20 - 4 * n) h (by omega) hd
    rw [off _ _ _ _ (by decide) (by omega), off _ _ _ _ (by decide) (by omega), off _ _ _ _ (by decide) (by omega), off _ _ _ _ (by decide) (by omega)]
  have h₃ (x : Nat) : s₃.rd x = s₂.rd x := by
    dsimp only [s₃]
    split
    · rfl
    · exact State.setBoot_rd _ _ _
  have hword (k : Nat) (hk : k < 8) : s₂.rd (bootB + 0x60 + 4 * k) = bits g (255 - 32 * k) (224 - 32 * k) := by
    refine s₁.rd_foldl_wr (bootB + 0x60) (fun k => bits g (255 - 32 * k) (224 - 32 * k)) 8 k hk ?_
    exact (bits_lt g _ _).trans_le (Nat.pow_le_pow_right (by decide) (by omega))
  have h₂ : s₂.rd a = s₁.rd a := s₁.rd_foldl_wr_off _ _ _ _ (.inl (by decide))
  clear_value s₁ s₂ s₃ g
  have hu (x : Nat) (h : x ≠ bootB + 0x44) : (s₃.toBoot 4).rd x = s₂.rd x := (State.rd_toBoot _ _ _ h).trans (h₃ x)
  have hbank (i j : Nat) : (s₃.toBoot 4).fld a i j = s₁.fld a i j := by
    rw [State.fld, State.fld, hu _ (by simp [a]), h₂]
  refine ⟨State.bootState_toBoot _ _, (hbank _ _).trans hrun, ?_, (hbank _ _).trans hmin, (hbank _ _).trans hcode⟩
  refine Eq.trans (congrArg pk (List.map_congr_left fun k hk => congrArg (Prod.mk 32) ?_)) ((pk_words g ?_).trans hg)
  · have hk := List.mem_range.1 hk
    rw [hu _ (by omega), hword k hk]
  · rw [hg]
    exact sha256_lt _

/-! ### BOOT_VERIFY -/

/-- What follows the candidates: BOOT_COUNT shown, then the bank that passed or a failure. -/
def State.verified (s : State) (r : Option Nat) : State :=
  let t := s.wr (bootB + 0x50) s.desc.2.count
  match r with
  | some n => t.runBank n
  | none => if t.straps.bootMode = 0 then t.bootFail 4 0 else (t.wr (bootB + 0x48) (4 * 2 ^ 24)).toRecovery

theorem State.bootVerify_of_untried (e : BitVec 2) (h : s.bootState = 3) (hu : ∀ m, m < 2 → bankSt (s.desc.2.bank m) ≠ 2) :
    s.bootVerify e = (State.tryBanks e s.desc.2.cands 1 s).2.verified (State.tryBanks e s.desc.2.cands 1 s).1 := by
  have hm : (s.markTried 0).markTried 1 = s := by
    rw [s.markTried_of_untried 0 (hu 0 (by decide)), s.markTried_of_untried 1 (hu 1 (by decide))]
  rw [State.bootVerify, if_neg (by simp [h]), hm]
  rfl

theorem Desc.cands_lt (d : Desc) (n : Nat) (h : d.cands = [n]) : n < 2 := by
  have hm : n ∈ d.cands := by simp [h]
  have := (List.mem_filter.1 hm).1
  split at this <;> simp at this <;> omega

variable {s} {t : State}

/-- No bank passed. -/
theorem State.verified_none (h : Tried s t) (hb : s.bootState = 3) :
    (s.straps.bootMode = 0 → (t.verified none).bootState = 0xF ∧ (t.verified none).rd (bootB + 0x48) = 4 * 2 ^ 24 ∧
      (t.verified none).rd (bootB + 0x4C) = t.rd (bootB + 0x4C)) ∧
    (s.straps.bootMode ≠ 0 → (t.verified none).bootState = 0xE ∧ (t.verified none).rd (bootB + 0x48) = 4 * 2 ^ 24 ∧
      Raised Ev.bootRecovery (t.verified none)) := by
  unfold State.verified
  extract_lets u
  have hs : u.straps = s.straps := (State.wr_straps _ _ _).trans h.straps
  have hst : u.bootState = 3 := by
    rw [State.bootState_of_rd ((State.rd_wr_ne _ _ _ _ (by decide)).trans (h.regs _ (by decide))), hb]
  have hbk : u.rd (bootB + 0x4C) = t.rd (bootB + 0x4C) := State.rd_wr_ne _ _ _ _ (by decide)
  clear_value u
  rw [← hs]
  refine ⟨fun hm => ?_, fun hm => ?_⟩
  · obtain ⟨h1, h2, h3, -⟩ := u.bootFail_ends 4 0 (by decide) (.inl (by omega))
    rw [if_pos hm]
    exact ⟨h1, h2, (h3 _ (by decide) (by decide)).trans hbk⟩
  · obtain ⟨h1, h2, -, h3⟩ := (u.wr (bootB + 0x48) (4 * 2 ^ 24)).toRecovery_ends
    rw [if_neg hm]
    exact ⟨h1, h3.trans (State.rd_wr _ _ _), h2⟩

/-- The bank that passed runs. -/
theorem State.verified_some (h : Tried s t) (n : Nat) (hn : n < 2) :
    (t.verified (some n)).bootState = 4 ∧ (t.verified (some n)).running_ = n ∧ (t.verified (some n)).bootDigest = s.bankDigest n ∧
      (t.verified (some n)).fld (bootB + 0x4C) 15 0 = s.bankSvn n ∧
      (t.verified (some n)).fld (bootB + 0x4C) (23 - 4 * n) (20 - 4 * n) = t.fld (bootB + 0x4C) (23 - 4 * n) (20 - 4 * n) := by
  unfold State.verified
  extract_lets u
  have hb : SameBanks s u := h.banks.wr (by simp [bankReg, bootB])
  have hf (i j : Nat) : u.fld (bootB + 0x4C) i j = t.fld (bootB + 0x4C) i j := by
    rw [State.fld, State.fld, State.rd_wr_ne _ _ _ _ (by decide)]
  clear_value u
  obtain ⟨h1, h2, h3, h4, h5⟩ := u.runBank_ends n hn
  exact ⟨h1, h2, h3.trans (hb.bankDigest n), h4.trans (hb.bankSvn n), h5.trans (hf _ _)⟩

/-! ### MGC_START -/

theorem State.bootMgcStart_of_verified (h : s.bootState = 4) :
    s.bootMgcStart = ((s.setFld (bootB + 0x40040) 31 31 1).setBoot fun b => { b with kickAt := s.mono }).toBoot 5 := by
  rw [State.bootMgcStart, if_neg (by simp [h])]

end Sys2Proof.Machine
end

section
/-! CONFIG (R404, R28): a record that is due acts, and the next one falls due. -/
namespace Sys2Proof.Machine

variable (s : State) {i t : Nat}

theorem State.recDo_of_due (op : Nat) (g : CfgRec → State → State) (h5 : s.bootState = 5) (hr : s.boot.recAt = some (i, t)) :
    s.recDo op g = if (cfgRec s.cfgBytes i t).op = op then g (cfgRec s.cfgBytes i t) s else s := by
  rw [State.recDo, hr]
  simp [h5]

theorem State.recDo_of_op (op : Nat) (g : CfgRec → State → State) (h5 : s.bootState = 5) (hr : s.boot.recAt = some (i, t))
    (ho : (cfgRec s.cfgBytes i t).op = op) : s.recDo op g = g (cfgRec s.cfgBytes i t) s := by
  rw [s.recDo_of_due op g h5 hr, if_pos ho]

theorem State.recDo_of_other (op : Nat) (g : CfgRec → State → State) (h5 : s.bootState = 5) (hr : s.boot.recAt = some (i, t))
    (ho : (cfgRec s.cfgBytes i t).op ≠ op) : s.recDo op g = s := by
  rw [s.recDo_of_due op g h5 hr, if_neg ho]

theorem State.cfgNext_of_ok (j : Nat) (h : (cfgRec s.cfgBytes j 0).ok s.cfgBytes = true) :
    s.cfgNext j = s.setBoot fun x => { x with recAt := some (j, s.mono) } := by
  rw [State.cfgNext, if_pos h]

theorem State.setBoot_keeps (g : BootSt → BootSt) : Keeps [.boot] noAddr noAddr s (s.setBoot g) := ⟨rfl, fun _ _ => rfl, fun _ _ => rfl⟩

theorem State.cfgNext_ends_of_bad (j : Nat) (h : (cfgRec s.cfgBytes j 0).ok s.cfgBytes = false) (hf : s.flag (bootB + 0x4C) 30 = false) :
    (s.cfgNext j).bootState = 0xF ∧ (s.cfgNext j).rd (bootB + 0x48) = 5 * 2 ^ 24 + j % 2 ^ 24 := by
  rw [State.cfgNext, if_neg (by simp [h])]
  obtain ⟨h1, h2, -, -⟩ := (s.setBoot fun x => { x with recAt := none }).bootFail_ends 5 j (by decide) (.inr hf)
  exact ⟨h1, h2⟩

/-! ### BOOT_CONFIG -/

theorem State.bootConfig_of_first (h5 : s.bootState = 5) (hr : s.boot.recAt = none) :
    s.bootConfig = if compOk 5 s.cfgBytes then s.cfgNext 0 else s.bootFail 5 0 := by
  rw [State.bootConfig, if_neg (by simp [h5, hr])]

theorem State.bootConfig_of_other (h : s.bootState ≠ 5 ∨ s.boot.recAt.isSome = true) : s.bootConfig = s := by
  rw [State.bootConfig, if_pos (by simpa using h)]

/-! ### PARAM and END -/

/-- Boot's own state after a PARAM record. -/
def paramSet (r : CfgRec) (b : BootSt) : BootSt := if r.off = 1 then { b with owner := some r.val } else { b with raise := r.val = 1 }

theorem paramSet_flash (r : CfgRec) (b : BootSt) : (paramSet r b).flash = b.flash := by
  unfold paramSet
  split <;> rfl

theorem State.flashAt_setBoot (g : BootSt → BootSt) (h : (g s.boot).flash = s.boot.flash) (o : Nat) : (s.setBoot g).flashAt o = s.flashAt o := by
  have hf : (s.setBoot g).boot.flash = s.boot.flash := h
  rw [State.flashAt, State.flashAt, hf]

theorem State.cfgBytes_setBoot (g : BootSt → BootSt) (h : (g s.boot).flash = s.boot.flash) : (s.setBoot g).cfgBytes = s.cfgBytes := by
  have hb : SameBanks s (s.setBoot g) := ⟨fun o _ => s.flashAt_setBoot g h o, fun _ _ => State.setBoot_rd _ _ _⟩
  have hr : (s.setBoot g).running_ = s.running_ := State.setBoot_fld _ _ _ _ _
  simp only [State.cfgBytes, hr, hb.bankSects, hb.sectBytes]

theorem State.cfgParam_of_due (h5 : s.bootState = 5) (hr : s.boot.recAt = some (i, t)) (ho : (cfgRec s.cfgBytes i t).op = 4)
    (h : (cfgRec s.cfgBytes (i + 1) 0).ok s.cfgBytes = true) :
    s.cfgParam = s.setBoot fun b => { paramSet (cfgRec s.cfgBytes i t) b with recAt := some (i + 1, s.mono) } := by
  have hc := s.cfgBytes_setBoot (paramSet (cfgRec s.cfgBytes i t)) (paramSet_flash _ _)
  have hn := (s.setBoot (paramSet (cfgRec s.cfgBytes i t))).cfgNext_of_ok (i + 1) (by rw [hc, h])
  exact (s.recDo_of_op 4 _ h5 hr ho).trans hn

end Sys2Proof.Machine
end

section
/-! END, LOAD, START and FORWARDING (R28, R398, R405). -/
namespace Sys2Proof.Machine

variable (s : State) {i t : Nat}

/-! ### END (R28) -/

/-- The owner host port shown with its source, its fallback raised. -/
def State.ownerShown (s : State) (p : Nat × Nat) : State :=
  let u := (s.setBoot fun b => { b with recAt := none }).wr (genB + 0x44) (p.2 * 4 + p.1)
  let u := if p.2 = 2 then u.raise genB Ev.ownerFallback (Src.hostPort s.straps.ownerHp.toNat) else u
  u.toBoot 6

theorem State.cfgEnd_of_due (h5 : s.bootState = 5) (hr : s.boot.recAt = some (i, t)) (ho : (cfgRec s.cfgBytes i t).op = 0) :
    s.cfgEnd = s.ownerShown s.ownerPick :=
  s.recDo_of_op 0 _ h5 hr ho

theorem State.ownerShown_ends (p : Nat × Nat) (hp : p.2 * 4 + p.1 < 2 ^ 32) :
    (s.ownerShown p).bootState = 6 ∧ (s.ownerShown p).boot.recAt = none ∧ (s.ownerShown p).rd (genB + 0x44) = p.2 * 4 + p.1 ∧
      (p.2 = 2 → Raised Ev.ownerFallback (s.ownerShown p)) := by
  unfold State.ownerShown
  extract_lets u v
  have hu : u.rd (genB + 0x44) = p.2 * 4 + p.1 := (State.rd_wr _ _ _).trans (Nat.mod_eq_of_lt hp)
  have hub : u.boot.recAt = none := rfl
  clear_value u
  have hv : v.rd (genB + 0x44) = p.2 * 4 + p.1 ∧ v.boot.recAt = none ∧ (p.2 = 2 → Raised Ev.ownerFallback v) := by
    dsimp only [v]
    split
    · refine ⟨?_, ?_, fun _ => u.raise_raised _ _ (by decide)⟩
      · rw [State.raise_rd _ _ _ _ _ (by simp [offEvent, inEvt, inCapture, genB]), hu]
      · rw [State.raise_boot, hub]
    · next h => exact ⟨hu, hub, fun x => absurd x h⟩
  clear_value v
  obtain ⟨h1, h2, h3⟩ := hv
  exact ⟨v.bootState_toBoot 6, h2, (State.rd_toBoot _ _ _ (by decide)).trans h1, fun h => (h3 h).setFld (by decide)⟩

/-! ### LOAD (R405) -/

/-- The range lies in one region, and that is MGC's. -/
theorem State.bootLoad_of_refused (c : BitVec 40) (im : Vector (BitVec 40) 12) (ws : List (BitVec 26 × Word)) (f : BitVec 32) (e : Ecc)
    (h6 : s.bootState = 6) (h : s.memAllowed .mgc c.toNat (s.bankLen s.running_) true = false ∨
      ∃ g, s.regionAt c.toNat (s.bankLen s.running_) = some g ∧ s.regType g ≠ 6) :
    s.bootLoad c im ws f e = (s.memRefuse .mgc c.toNat).bootFail 8 0 := by
  unfold State.bootLoad
  dsimp only
  rw [if_neg (by simp [h6]), if_pos]
  obtain h | ⟨g, hg, ht⟩ := h
  · simp [h]
  · simp [hg, ht]

/-- How a LOAD ends, by the copy's digest, the first cluster that fails and the first core that fails. -/
def loadEnds (r : Bool × State) (p k : Option Nat × State) : State :=
  if !r.1 then r.2.bootFail 8 0
  else match p.1 with
    | some c => p.2.bootFail 9 c
    | none => match k.1 with
      | some z => k.2.bootFail 9 z
      | none => k.2.toBoot 7

theorem State.bootLoad_of_region (c : BitVec 40) (im : Vector (BitVec 40) 12) (ws : List (BitVec 26 × Word)) (f : BitVec 32) (e : Ecc)
    (h6 : s.bootState = 6) {g : Nat} (hg : s.regionAt c.toNat (s.bankLen s.running_) = some g) (ht : s.regType g = 6)
    (ha : s.memAllowed .mgc c.toNat (s.bankLen s.running_) true = true) (hs : s.memServes c.toNat (s.bankLen s.running_) = true)
    {r : Bool × State} {p k : Option Nat × State}
    (hr : r = ((s.memWrite c.toNat (s.bankBytes s.running_ 0 (s.bankLen s.running_))).setBoot fun x => { x with copyAt := some c.toNat }).rehash e)
    (hp : p = State.bootClusters s.running_ (fun c => (im[c.val]).toNat) (List.finRange 12) r.2)
    (hk : k = (p.2.bootPipes s.running_ ws).bootUcode s.running_ f) : s.bootLoad c im ws f e = loadEnds r p k := by
  unfold State.bootLoad
  extract_lets b a n reg s₁ r' p' k'
  rw [if_neg (by simp [h6]), if_neg (by simp [reg, a, n, b, hg, ht, ha]), if_neg (by simp [a, n, b, hs])]
  have er : r = r' := hr
  have ep : p = p' := by rw [hp, er]
  have ek : k = k' := by rw [hk, ep]
  rw [er, ep, ek]
  clear_value k' p' r'
  rfl

theorem State.bootLoad_of_held (c : BitVec 40) (im : Vector (BitVec 40) 12) (ws : List (BitVec 26 × Word)) (f : BitVec 32) (e : Ecc)
    (h6 : s.bootState = 6) {g : Nat} (hg : s.regionAt c.toNat (s.bankLen s.running_) = some g) (ht : s.regType g = 6) (hk : s.keyed = true)
    (hs : s.memServes c.toNat (s.bankLen s.running_) = false) : s.bootLoad c im ws f e = s := by
  unfold State.bootLoad
  extract_lets b a n reg s₁ r p k
  have ha : s.memAllowed .mgc c.toNat (s.bankLen s.running_) true = true := by
    simp [State.memAllowed, hk, hg, State.admits]
  rw [if_neg (by simp [h6]), if_neg (by simp [reg, a, n, b, hg, ht, ha]), if_pos (by simp [a, n, b, hs])]

end Sys2Proof.Machine
end

section
/-! START and FORWARDING (R398): no other block's RESUME touches TAIL, and a port made READY stays so. -/
namespace Sys2Proof.Machine

variable (s : State)

/-! ### START -/

/-- TAIL's STATUS and TAIL_EPOCH. -/
def IsTail (a : Nat) : Prop := a = tailB + 8 ∨ a = tailB + 0x44

theorem IsTail.kept (a : Nat) (h : IsTail a) : Kept a := by
  simp only [IsTail, tailB] at h
  simp only [Kept]
  omega

/-- RESUME of another block leaves TAIL. -/
theorem State.resume_spares (b : Fin 58) (hb : blkBase b ≠ tailB) : Spares IsTail s (s.resume (blkBase b)) := by
  have hc := blkBase_cases b
  unfold State.resume
  split
  · exact .refl s
  · next hq =>
    have h5 : codeOf (blkBase b) ≠ 0x05 := fun e => hq (by simp [quiesces, runsAtReset, e])
    have ht : blkBase b ≠ 0x400000 := fun e => h5 ((blkBase_eq_of_code b).1.2 e)
    have hrej : Spares IsTail s (s.reject (blkBase b) 4) := by
      refine Spares.weaken (Spares.reject (.refl s) ?_ ?_ (captures_blkBase b h5)) IsTail.kept
      all_goals
        simp only [Kept]
        omega
    have hset : Spares IsTail s (s.setBlk (blkBase b) 0) := by
      refine (Spares.refl s).wrOff fun h => ?_
      simp only [IsTail, tailB] at h hb
      omega
    exact hrej.ite ((Spares.refl s).ite (hrej.ite (hset.trans ((State.onResume_spares _ _).weaken IsTail.kept))))

theorem mem_blkBases (x : Nat) (h : x ∈ blkBases) : ∃ b : Fin 58, blkBase b = x := by
  obtain ⟨i, hi, rfl⟩ := List.getElem_of_mem h
  exact ⟨⟨i, hi⟩, List.getD_eq_getElem _ _ hi⟩

theorem engB_mem (c : Nat) (h : c < 12) : engB c ∈ blkBases := by
  have : ∀ c : Fin 12, engB c.val ∈ blkBases := by decide
  exact this ⟨c, h⟩

/-- The blocks resumed after TAIL. -/
theorem State.resumeAll_spares (l : List Nat) (hl : ∀ x ∈ l, x ∈ blkBases) (h : s.blkState tailB = 0) :
    Spares IsTail s (l.foldl (fun s b => if s.blkState b = 2 then s.resume b else s) s) := by
  refine (Spares.refl s).foldl_mem fun t x hx ht => ?_
  split
  · next h2 =>
    obtain ⟨b, rfl⟩ := mem_blkBases x (hl x hx)
    refine ht.trans (t.resume_spares b fun e => ?_)
    rw [e, State.blkState, ht.fld (.inl rfl)] at h2
    rw [State.blkState] at h
    omega
  · exact ht

/-- TAIL takes BOOT_COUNT and resumes. -/
theorem State.startTail_ends (h2 : s.blkState tailB = 2) (hs : s.safe tailB = false) :
    (((s.wr (tailB + 0x44) (s.rd (bootB + 0x50))).setTl fun t => { t with epochWritten := true }).resume tailB).blkState tailB = 0 ∧
      (((s.wr (tailB + 0x44) (s.rd (bootB + 0x50))).setTl fun t => { t with epochWritten := true }).resume tailB).rd (tailB + 0x44) =
        s.rd (bootB + 0x50) := by
  have hoff : (s.wr (tailB + 0x44) (s.rd (bootB + 0x50))).rd (tailB + 8) = s.rd (tailB + 8) := State.rd_wr_ne _ _ _ _ (by decide)
  have hset : (s.wr (tailB + 0x44) (s.rd (bootB + 0x50))).rd (tailB + 0x44) = s.rd (bootB + 0x50) :=
    (State.rd_wr _ _ _).trans (Nat.mod_eq_of_lt (BitVec.isLt _))
  generalize ht : (s.wr (tailB + 0x44) (s.rd (bootB + 0x50))).setTl _ = t
  have hr (a : Nat) : t.rd a = (s.wr (tailB + 0x44) (s.rd (bootB + 0x50))).rd a := by rw [← ht, State.setTl_rd]
  have h2' : t.blkState tailB = 2 := by rw [← h2, State.blkState, State.blkState, State.fld, State.fld, hr, hoff]
  have hs' : t.safe tailB = false := by rw [← hs, State.safe, State.safe, State.flag, State.flag, hr, hoff]
  rw [t.resume_of_quiesced tailB (by decide) h2' hs' fun e => absurd e (by decide)]
  have hk := (t.setBlk tailB 0).onResume_spares tailB
  refine ⟨(hk.fld (IsTail.kept _ (.inl rfl))).trans (State.blkState_setBlk _ _ _), ?_⟩
  rw [hk.rd _ (IsTail.kept _ (.inr rfl)), State.setBlk, State.rd_setFld_ne _ _ _ _ _ _ (by decide), hr, hset]

theorem State.bootStart_ends (h7 : s.bootState = 7) (hn : s.boot.started = false) : s.bootStart.boot.started = true ∧
    (s.blkState tailB = 2 → s.safe tailB = false → s.bootStart.blkState tailB = 0 ∧ s.bootStart.rd (tailB + 0x44) = s.rd (bootB + 0x50)) := by
  rw [State.bootStart, if_neg (by simp [h7, hn])]
  extract_lets s₁ go s₂
  refine ⟨rfl, fun h2 hs => ?_⟩
  obtain ⟨h0, he⟩ := s.startTail_ends h2 hs
  have h₁ : s₁ = ((s.wr (tailB + 0x44) (s.rd (bootB + 0x50))).setTl fun t => { t with epochWritten := true }).resume tailB := if_pos h2
  rw [← h₁] at h0 he
  have h₂ : Spares IsTail s₁ s₂ := s₁.resumeAll_spares _ (fun x hx => List.mem_of_mem_filter hx) h0
  have h0' : s₂.blkState tailB = 0 := (h₂.fld (.inl rfl)).trans h0
  have h₃ : Spares IsTail s₂ (((List.range 12).map engB).foldl go s₂) := s₂.resumeAll_spares _ (fun x hx => by
    obtain ⟨c, hc, rfl⟩ := List.mem_map.1 hx
    exact engB_mem c (List.mem_range.1 hc)) h0'
  rw [List.foldl_map] at h₃
  have h := h₂.trans h₃
  rw [State.blkState, State.setBoot_fld, State.setBoot_rd]
  exact ⟨(h.fld (.inl rfl)).trans h0, (h.rd _ (.inr rfl)).trans he⟩

/-! ### FORWARDING -/

/-- The words that tell a port READY and its tenants. -/
def IsPort (a : Nat) : Prop := ∃ h < 4, a = hpA h 0 ∨ a = hpA h 4

theorem State.fnWake_spares (f : Nat) : Spares IsPort s (s.fnWake f) := by
  have hoff : ¬ IsPort (tfnStat f) := by
    rintro ⟨h, hh, e⟩
    simp only [tfnStat, tfnB, hpA, hifB] at e
    omega
  have hraise (t : State) (c src : Nat) : Spares IsPort t (t.raise tfnB c src) := by
    refine ⟨fun a ⟨h, hh, e⟩ => State.raise_rd _ _ _ _ _ ?_, State.raise_tb _ _ _ _, State.raise_mono _ _ _ _, State.raise_straps _ _ _ _,
      congrArg DataSt.mod (State.raise_dp _ _ _ _)⟩
    simp only [hpA, hifB] at e
    simp only [offEvent, inEvt, inCapture, tfnB]
    omega
  have h₁ := (Spares.refl (p := IsPort) s).wrOff (v := putBits (s.rd (tfnStat f)) 9 8 ((s.fnHp f).getD 0)) hoff
  exact (h₁.ite ((h₁.wrOff hoff).trans (hraise _ _ _))).ite (.refl s)

theorem State.hpSetReady_spares (h : Nat) : Spares Kept s (s.hpSetReady h) := by
  have hs := Spares.refl (p := Kept) s
  refine (hs.reject ?_ ?_ ?_).ite hs.setFld.hpWake
  · simp only [Kept, hifB]
    omega
  · simp only [Kept, hifB]
    omega
  · intro k h1 h2 h
    simp only [Kept, hifB] at h
    omega

/-- Ports without tenants clash with no port. -/
theorem State.tfClash_of_empty (hz : ∀ h < 4, s.fld (hpA h 4) 20 12 = 0) (h : Nat) (hh : h < 4) : s.tfClash h = false := by
  unfold State.tfClash
  extract_lets lo hi
  rw [List.any_eq_false]
  intro g hg
  have hg : g < 4 := by
    simp only [List.mem_cons, List.not_mem_nil, or_false] at hg
    omega
  have hhi : hi = lo := by simp only [hi, hz h hh, Nat.add_zero]
  simp only [hhi, hz g hg, Nat.add_zero, Bool.and_eq_true, decide_eq_true_eq]
  omega

/-- A port that is made READY, and the ports that were. -/
theorem State.hpSetReady_ends (hz : ∀ h < 4, s.fld (hpA h 4) 20 12 = 0) (h : Nat) (hh : h < 4) :
    (∀ g < 4, (s.hpSetReady h).fld (hpA g 4) 20 12 = 0) ∧ (s.hpSetReady h).hpReady h = true ∧
      ∀ g < 4, s.hpReady g = true → (s.hpSetReady h).hpReady g = true := by
  rw [State.hpSetReady, if_neg (by simp [s.tfClash_of_empty hz h hh])]
  generalize ht : s.setFld (hpA h 0) 31 31 1 = t
  have hk : Spares IsPort t (t.hpWake h) := (Spares.refl t).foldl fun _ _ k => k.trans (State.fnWake_spares _ _)
  refine ⟨fun g hg => ?_, ?_, fun g hg hr => ?_⟩
  · rw [hk.fld ⟨g, hg, .inr rfl⟩, ← ht, State.fld_setFld_ne _ _ _ _ _ _ _ _ (by simp only [hpA]; omega), hz g hg]
  · refine (hk.flag ⟨h, hh, .inl rfl⟩).trans ?_
    rw [← ht]
    exact State.flag_setFld _ _ _ _ _ _ (by decide) (by decide)
  · refine (hk.flag ⟨g, hg, .inl rfl⟩).trans ?_
    rw [← ht]
    by_cases e : g = h
    · rw [e]
      exact State.flag_setFld _ _ _ _ _ _ (by decide) (by decide)
    · exact (State.flag_setFld_ne _ _ _ _ _ _ _ (by simp only [hpA]; omega)).trans hr

/-- Ports made READY in turn. -/
theorem State.readyPorts_ends (l : List Nat) (hl : ∀ h ∈ l, h < 4) (hz : ∀ h < 4, s.fld (hpA h 4) 20 12 = 0) :
    (∀ g < 4, s.hpReady g = true → (l.foldl (fun s h => if s.hpUsed h then s.hpSetReady h else s) s).hpReady g = true) ∧
      ∀ h ∈ l, s.hpUsed h = true → (l.foldl (fun s h => if s.hpUsed h then s.hpSetReady h else s) s).hpReady h = true := by
  induction l generalizing s with
  | nil => exact ⟨fun _ _ h => h, fun _ h => absurd h List.not_mem_nil⟩
  | cons h l ih =>
    have hh := hl h List.mem_cons_self
    have hl' : ∀ g ∈ l, g < 4 := fun g hg => hl g (List.mem_cons_of_mem _ hg)
    rw [List.foldl_cons]
    split
    · next hu =>
      obtain ⟨hz', hr, hkeep⟩ := s.hpSetReady_ends hz h hh
      obtain ⟨ih1, ih2⟩ := ih (s.hpSetReady h) hl' hz'
      have hstr (g : Nat) : (s.hpSetReady h).hpUsed g = s.hpUsed g := by rw [State.hpUsed, State.hpUsed, (s.hpSetReady_spares h).straps]
      refine ⟨fun g hg hgr => ih1 g hg (hkeep g hg hgr), fun g hg hgu => ?_⟩
      obtain rfl | hg := List.mem_cons.1 hg
      · exact ih1 g hh hr
      · exact ih2 g hg ((hstr g).trans hgu)
    · next hu =>
      obtain ⟨ih1, ih2⟩ := ih s hl' hz
      refine ⟨ih1, fun g hg hgu => ?_⟩
      obtain rfl | hg := List.mem_cons.1 hg
      · exact absurd hgu hu
      · exact ih2 g hg hgu

theorem State.bootForward_ends (h7 : s.bootState = 7) (hs : s.boot.started = true) :
    s.bootForward.bootState = 9 ∧ Raised Ev.bootForwarding s.bootForward ∧
      ((∀ h < 4, s.fld (hpA h 4) 20 12 = 0) → ∀ h < 4, s.hpUsed h = true → s.bootForward.hpReady h = true) := by
  rw [State.bootForward, if_neg (by simp [h7, hs])]
  extract_lets u
  have hk : Spares Kept (s.toBoot 9) u := (Spares.refl _).foldl fun _ _ k => (k.trans (State.hpSetReady_spares _ _)).ite k
  have h9 : u.bootState = 9 := (hk.fld (by simp [Kept, bootB])).trans (s.bootState_toBoot 9)
  have hready := (s.toBoot 9).readyPorts_ends [0, 1, 2, 3] (by decide)
  change _ → _ ∧ ∀ h ∈ [0, 1, 2, 3], (s.toBoot 9).hpUsed h = true → u.hpReady h = true at hready
  clear_value u
  refine ⟨?_, u.raise_raised _ _ (by decide), fun hz h hh hu => ?_⟩
  · rw [State.bootState, State.raise_fld _ _ _ _ _ _ _ (offEvent_boot _ _ (.inl rfl) (by decide))]
    exact h9
  · have hz' : ∀ h < 4, (s.toBoot 9).fld (hpA h 4) 20 12 = 0 := fun h hh =>
      (State.fld_setFld_ne _ _ _ _ _ _ _ _ (by simp only [hpA, hifB, bootB]; omega)).trans (hz h hh)
    have hmem : h ∈ [0, 1, 2, 3] := by
      simp only [List.mem_cons, List.not_mem_nil, or_false]
      omega
    have hused : (s.toBoot 9).hpUsed h = true := by
      rw [← hu, State.hpUsed, State.hpUsed, State.toBoot, State.setFld_straps]
    rw [State.hpReady, State.raise_flag _ _ _ _ _ _ (by simp only [offEvent, inEvt, inCapture, hifB, bootB]; omega)]
    exact (hready hz').2 h hmem hused

end Sys2Proof.Machine
end

section
/-! The boot's claims, one group for each of its states. -/
namespace Sys2Proof.Machine

variable (s : State)

theorem State.next_congr {t u : State} (h : t = u) : (.next t : Res) = .next u := congrArg Host.Outcome.next h

theorem Keeps.setBoot {p q : Nat → Prop} {s t : State} (h : Keeps [.boot] p q s t) (g : BootSt → BootSt) : Keeps [.boot] p q s (t.setBoot g) :=
  ⟨h.1, h.2.1, h.2.2⟩

theorem State.past_iff (t : Nat) : s.past t = true ↔ t ≤ s.mono := decide_eq_true_iff

theorem execBootRomStart_ends (h0 : s.bootState = 0) (hh : s.pw.hold.any = false) :
    (s.straps.bootMode = 2 → ∃ u, exec .bootRomStart s = .next u ∧ u.bootState = 0xE ∧ Raised Ev.bootRecovery u ∧ u.flag (bootB + 0x80040) 31 = true) ∧
    (s.straps.bootMode ≠ 2 → ∃ u, exec .bootRomStart s = .next u ∧ u.bootState = 1 ∧ u.flag (pwrB + 0x54) 31 = true ∧
      Keeps [] (oneOf [bootB + 0x44, pwrB + 0x54]) noAddr s u) := by
  have he := s.romStart_of_free h0 hh
  refine ⟨fun hm => ?_, fun hm => ?_⟩
  · obtain ⟨h1, h2, h3, -⟩ := (s.setFld (pwrB + 0x54) 31 31 1).toRecovery_ends
    exact ⟨_, State.next_congr (he.trans (if_pos hm)), h1, h2, h3⟩
  · refine ⟨_, State.next_congr (he.trans (if_neg hm)), State.bootState_toBoot _ _, ?_, ?_⟩
    · exact (State.flag_setFld_ne _ _ _ _ _ _ _ (by decide)).trans (State.flag_setFld _ _ _ _ _ _ (by decide) (by decide))
    · exact ((Keeps.refl _ _ _ s).wr (by simp [oneOf]) _).wr (by simp [oneOf]) _

theorem execBootSelfTest_ends (t : Bool) (a : BitVec 24) (r : BitVec 16) (n : BitVec 8) (h1 : s.bootState = 1) :
    (∃ u, exec (.bootSelfTest true none r n) s = .next u ∧ u.bootState = 2 ∧ u.keyed = true ∧ u.rd (pwrB + 0x1D0) = r.toNat * 2 ^ 16 + n.toNat ∧
      (n.toNat < s.fld (pwrB + 0x1C4) 23 16 → Raised Ev.sramSpareLow u)) ∧
    (∃ u, exec (.bootSelfTest false none r n) s = .next u ∧ u.bootState = 0xF ∧ u.rd (bootB + 0x48) = 1 * 2 ^ 24 ∧ u.flag (mciB + 0x40) 30 = true) ∧
    (∃ u, exec (.bootSelfTest t (some a) r n) s = .next u ∧ u.bootState = 0xF ∧ u.rd (bootB + 0x48) = 2 * 2 ^ 24 + a.toNat) := by
  have he (t : Bool) (a : Option (BitVec 24)) := State.next_congr (s.selfTest_of_testing t a r n h1)
  obtain ⟨hst, hrd, hlat⟩ := s.selfTested_ends r n
  rw [h1] at hst
  have hbad : exec (.bootSelfTest false none r n) s = .next (((s.selfTested r n).setFld (mciB + 0x40) 30 30 1).bootFail 1 0) :=
    (he false none).trans (State.next_congr (if_neg Bool.false_ne_true))
  refine ⟨⟨_, he true none, State.bootState_toBoot _ _, State.keyed_setFld_toBoot _ _, ?_, fun hn => ?_⟩, ⟨_, hbad, ?_⟩, ⟨_, he t (some a), ?_⟩⟩
  · exact (State.rd_toBoot _ _ _ (by decide)).trans ((State.rd_setFld_ne _ _ _ _ _ _ (by decide)).trans hrd)
  · exact ((hlat hn).setFld (by decide)).setFld (by decide)
  · have hst' : ((s.selfTested r n).setFld (mciB + 0x40) 30 30 1).bootState = 1 :=
      (State.bootState_of_rd (State.rd_setFld_ne _ _ _ _ _ _ (by decide))).trans hst
    obtain ⟨f1, f2, f3, -⟩ := ((s.selfTested r n).setFld (mciB + 0x40) 30 30 1).bootFail_ends 1 0 (by decide) (.inl (by omega))
    refine ⟨f1, f2, ?_⟩
    rw [State.flag, f3 _ (by decide) (by decide), ← State.flag, State.flag_setFld _ _ _ _ _ _ (by decide) (by decide)]
    rfl
  · obtain ⟨f1, f2, -, -⟩ := (s.selfTested r n).bootFail_ends 2 a.toNat (by decide) (.inl (by omega))
    exact ⟨f1, f2.trans (by rw [Nat.mod_eq_of_lt a.isLt])⟩

theorem execBootFlash_ends (h2 : s.bootState = 2) :
    (∃ u, exec (.bootFlash true) s = .next u ∧ u.bootState = 3 ∧ Keeps [] (oneOf [bootB + 0x44]) noAddr s u) ∧
    (∃ u, exec (.bootFlash false) s = .next u ∧ u.bootState = 0xF ∧ u.rd (bootB + 0x48) = 3 * 2 ^ 24 ∧
      Keeps [] (oneOf [bootB + 0x44, bootB + 0x48]) noAddr s u) := by
  obtain ⟨f1, f2, -, f3⟩ := s.bootFail_ends 3 0 (by decide) (.inl (by omega))
  have he (x : Bool) : exec (.bootFlash x) s = .next (if x then s.toBoot 3 else s.bootFail 3 0) :=
    State.next_congr (if_neg (by simp [h2]))
  exact ⟨⟨_, he true, State.bootState_toBoot _ _, s.toBoot_keeps _⟩, ⟨_, he false, f1, f2, f3⟩⟩

theorem execBootVerify_ends (e : BitVec 2) (h3 : s.bootState = 3) (hu : ∀ m, m < 2 → bankSt (s.desc.2.bank m) ≠ 2) :
    (s.desc.2.cands = [] → s.straps.bootMode = 0 → ∃ u, exec (.bootVerify e) s = .next u ∧ u.bootState = 0xF ∧ u.rd (bootB + 0x48) = 4 * 2 ^ 24) ∧
    (s.desc.2.cands = [] → s.straps.bootMode ≠ 0 → ∃ u, exec (.bootVerify e) s = .next u ∧ u.bootState = 0xE ∧ u.rd (bootB + 0x48) = 4 * 2 ^ 24 ∧
      Raised Ev.bootRecovery u) ∧
    (∀ n, s.desc.2.cands = [n] → s.bankCheck n (e.getLsbD n) = 0 → ∃ u, exec (.bootVerify e) s = .next u ∧ u.bootState = 4 ∧ u.running_ = n ∧
      u.bootDigest = s.bankDigest n ∧ u.fld (bootB + 0x4C) 15 0 = s.bankSvn n ∧ u.fld (bootB + 0x4C) (23 - 4 * n) (20 - 4 * n) = 0) ∧
    (∀ n, s.desc.2.cands = [n] → s.bankCheck n (e.getLsbD n) ≠ 0 → s.straps.bootMode = 0 → ∃ u, exec (.bootVerify e) s = .next u ∧
      u.bootState = 0xF ∧ u.rd (bootB + 0x48) = 4 * 2 ^ 24 ∧ u.fld (bootB + 0x4C) (23 - 4 * n) (20 - 4 * n) = s.bankCheck n (e.getLsbD n)) := by
  have he : ∀ {r t}, State.tryBanks e s.desc.2.cands 1 s = (r, t) → exec (.bootVerify e) s = .next (t.verified r) := fun h =>
    State.next_congr ((s.bootVerify_of_untried e h3 hu).trans (by rw [h]))
  obtain ⟨t₀, ht₀, hk₀⟩ := s.tryBanks_nil e
  obtain ⟨hf, hr⟩ := State.verified_none hk₀ h3
  refine ⟨fun hc hm => ?_, fun hc hm => ?_, fun n hc hp => ?_, fun n hc hp hm => ?_⟩
  · obtain ⟨f1, f2, -⟩ := hf hm
    exact ⟨_, he (hc ▸ ht₀), f1, f2⟩
  · exact ⟨_, he (hc ▸ ht₀), hr hm⟩
  · have hn := Desc.cands_lt _ n hc
    obtain ⟨t, ht, hk, hcode⟩ := s.tryBanks_one e n hn
    rw [if_pos hp, ← hc] at ht
    obtain ⟨v1, v2, v3, v4, v5⟩ := State.verified_some hk n hn
    exact ⟨_, he ht, v1, v2, v3, v4, v5.trans (hcode.trans hp)⟩
  · obtain ⟨t, ht, hk, hcode⟩ := s.tryBanks_one e n (Desc.cands_lt _ n hc)
    rw [if_neg hp, ← hc] at ht
    obtain ⟨f1, f2, f3⟩ := (State.verified_none hk h3).1 hm
    refine ⟨_, he ht, f1, f2, ?_⟩
    rw [State.fld, f3]
    exact hcode

theorem execBootMgcStart_ends (h4 : s.bootState = 4) : ∃ u, exec .bootMgcStart s = .next u ∧ u.bootState = 5 ∧ u.flag (bootB + 0x40040) 31 = true ∧
    u.boot.kickAt = s.mono ∧ Keeps [.boot] (oneOf [bootB + 0x44, bootB + 0x40040]) noAddr s u := by
  refine ⟨_, State.next_congr (s.bootMgcStart_of_verified h4), State.bootState_toBoot _ _, ?_, rfl, ?_⟩
  · rw [State.toBoot, State.flag_setFld_ne _ _ _ _ _ _ _ (by decide), State.setBoot_flag, State.flag_setFld _ _ _ _ _ _ (by decide) (by decide)]
    rfl
  · exact (((Keeps.refl _ _ _ s).wr (by simp [oneOf]) _).setBoot _).wr (by simp [oneOf]) _

theorem execBootConfig_ends (h5 : s.bootState = 5) (hr : s.boot.recAt = none) :
    (compOk 5 s.cfgBytes = true → (cfgRec s.cfgBytes 0 0).ok s.cfgBytes = true → ∃ u, exec .bootConfig s = .next u ∧
      u.boot.recAt = some (0, s.mono) ∧ Keeps [.boot] noAddr noAddr s u) ∧
    (compOk 5 s.cfgBytes = false → s.flag (bootB + 0x4C) 30 = false → ∃ u, exec .bootConfig s = .next u ∧ u.bootState = 0xF ∧
      u.rd (bootB + 0x48) = 5 * 2 ^ 24) ∧
    (compOk 5 s.cfgBytes = false → s.flag (bootB + 0x4C) 30 = true → exec .bootConfig s = .next ((s.wr (bootB + 0x48) (5 * 2 ^ 24)).deviceReset)) := by
  have he := State.next_congr (s.bootConfig_of_first h5 hr)
  refine ⟨fun hc hok => ?_, fun hc hf => ?_, fun hc hf => ?_⟩
  · rw [if_pos hc, s.cfgNext_of_ok 0 hok] at he
    exact ⟨_, he, rfl, s.setBoot_keeps _⟩
  · obtain ⟨f1, f2, -⟩ := s.bootFail_ends 5 0 (by decide) (.inr hf)
    rw [if_neg (by simp [hc])] at he
    exact ⟨_, he, f1, f2⟩
  · rw [if_neg (by simp [hc]), s.bootFail_of_trial 5 0 (Nat.le_of_eq h5.symm) hf] at he
    exact he

variable {i t : Nat}

theorem execCfgRecWrite_ends (x : WEnv) (h5 : s.bootState = 5) (hr : s.boot.recAt = some (i, t)) {r : CfgRec} (h : r = cfgRec s.cfgBytes i t)
    (ho : r.op = 1) {o : Nat × State} {w : Bool × State} (hold : o = if r.mask = top32 then (0, s) else s.ownerRead .mgc r.off)
    (hw : w = o.2.wroteBad .mgc r.off ((o.1 &&& (top32 - r.mask)) ||| (r.val &&& r.mask)) x) :
    (w.1 = true → exec (.cfgRecWrite x) s = .next (w.2.bootFail 6 i)) ∧
    (w.1 = false → w.2.bootState = 5 → (cfgRec w.2.cfgBytes (i + 1) 0).ok w.2.cfgBytes = true →
      ∃ u, exec (.cfgRecWrite x) s = .next u ∧ u.boot.recAt = some (i + 1, w.2.mono) ∧ Keeps [.boot] noAddr noAddr w.2 u) := by
  subst h
  have he := State.next_congr (s.recDo_of_op 1 (fun r s =>
    let old := if r.mask = top32 then (0, s) else s.ownerRead .mgc r.off
    let w := old.2.wroteBad .mgc r.off ((old.1 &&& (top32 - r.mask)) ||| (r.val &&& r.mask)) x
    if w.1 then w.2.bootFail 6 r.idx else if w.2.bootState = 5 then w.2.cfgNext (r.idx + 1) else w.2) h5 hr ho)
  dsimp only at he
  rw [← hold, ← hw] at he
  refine ⟨fun h1 => ?_, fun h1 h5' hok => ?_⟩
  · rw [if_pos h1] at he
    exact he
  · have hn := w.2.cfgNext_of_ok (i + 1) hok
    rw [if_neg (by simp [h1]), if_pos h5'] at he
    exact ⟨_, he.trans (State.next_congr hn), rfl, w.2.setBoot_keeps _⟩

theorem execCfgRecWait_ends (h5 : s.bootState = 5) (hr : s.boot.recAt = some (i, t)) {r : CfgRec} (h : r = cfgRec s.cfgBytes i t)
    (ho : r.op = 2) {v : Nat × State} (hv : v = s.ownerRead .mgc r.off) :
    (v.1 &&& r.mask = r.val → (cfgRec v.2.cfgBytes (i + 1) 0).ok v.2.cfgBytes = true → ∃ u, exec .cfgRecWait s = .next u ∧
      u.boot.recAt = some (i + 1, v.2.mono)) ∧
    (v.1 &&& r.mask ≠ r.val → t + r.us * uUs ≤ s.mono → exec .cfgRecWait s = .next (v.2.bootFail 7 i)) ∧
    (v.1 &&& r.mask ≠ r.val → s.mono < t + r.us * uUs → exec .cfgRecWait s = .next v.2) := by
  subst h
  have he : exec .cfgRecWait s = .next (if v.1 &&& (cfgRec s.cfgBytes i t).mask = (cfgRec s.cfgBytes i t).val then v.2.cfgNext (i + 1)
      else if s.past (t + (cfgRec s.cfgBytes i t).us * uUs) then v.2.bootFail 7 i else v.2) := by
    rw [hv]
    exact State.next_congr (s.recDo_of_op 2 _ h5 hr ho)
  refine ⟨fun hm hok => ?_, fun hm ht => ?_, fun hm ht => ?_⟩
  · have hn := v.2.cfgNext_of_ok (i + 1) hok
    rw [if_pos hm] at he
    exact ⟨_, he.trans (State.next_congr hn), rfl⟩
  · rwa [if_neg hm, if_pos ((s.past_iff _).2 ht)] at he
  · rwa [if_neg hm, if_neg (by rw [s.past_iff]; omega)] at he

theorem execCfgRecDelay_ends (h5 : s.bootState = 5) (hr : s.boot.recAt = some (i, t)) {r : CfgRec} (h : r = cfgRec s.cfgBytes i t) (ho : r.op = 3) :
    (s.mono < t + r.us * uUs → exec .cfgRecDelay s = .next s) ∧
    (t + r.us * uUs ≤ s.mono → (cfgRec s.cfgBytes (i + 1) 0).ok s.cfgBytes = true → ∃ u, exec .cfgRecDelay s = .next u ∧
      u.boot.recAt = some (i + 1, s.mono) ∧ Keeps [.boot] noAddr noAddr s u) ∧
    (t + r.us * uUs ≤ s.mono → (cfgRec s.cfgBytes (i + 1) 0).ok s.cfgBytes = false → s.flag (bootB + 0x4C) 30 = false → ∃ u,
      exec .cfgRecDelay s = .next u ∧ u.bootState = 0xF ∧ u.rd (bootB + 0x48) = 5 * 2 ^ 24 + (i + 1) % 2 ^ 24) := by
  subst h
  have he : exec .cfgRecDelay s = .next (if s.past (t + (cfgRec s.cfgBytes i t).us * uUs) then s.cfgNext (i + 1) else s) :=
    State.next_congr (s.recDo_of_op 3 _ h5 hr ho)
  refine ⟨fun ht => ?_, fun ht hok => ?_, fun ht hok hf => ?_⟩
  · rwa [if_neg (by rw [s.past_iff]; omega)] at he
  · rw [if_pos ((s.past_iff _).2 ht), s.cfgNext_of_ok _ hok] at he
    exact ⟨_, he, rfl, s.setBoot_keeps _⟩
  · rw [if_pos ((s.past_iff _).2 ht)] at he
    exact ⟨_, he, s.cfgNext_ends_of_bad _ hok hf⟩

theorem paramSet_of_owner (r : CfgRec) (b : BootSt) (h : r.off = 1) :
    (paramSet r b).owner = some r.val ∧ (paramSet r b).raise = b.raise := by
  rw [paramSet, if_pos h]
  exact ⟨rfl, rfl⟩

theorem paramSet_of_other (r : CfgRec) (b : BootSt) (h : r.off ≠ 1) :
    (paramSet r b).raise = decide (r.val = 1) ∧ (paramSet r b).owner = b.owner := by
  rw [paramSet, if_neg h]
  exact ⟨rfl, rfl⟩

theorem execCfgRecParam_ends (h5 : s.bootState = 5) (hr : s.boot.recAt = some (i, t)) {r : CfgRec} (h : r = cfgRec s.cfgBytes i t) (ho : r.op = 4)
    (hok : (cfgRec s.cfgBytes (i + 1) 0).ok s.cfgBytes = true) : ∃ u, exec .cfgRecParam s = .next u ∧ u.boot.recAt = some (i + 1, s.mono) ∧
      (r.off = 1 → u.boot.owner = some r.val ∧ u.boot.raise = s.boot.raise) ∧
      (r.off ≠ 1 → u.boot.raise = decide (r.val = 1) ∧ u.boot.owner = s.boot.owner) ∧ Keeps [.boot] noAddr noAddr s u := by
  subst h
  refine ⟨_, State.next_congr (s.cfgParam_of_due h5 hr ho hok), rfl, fun h1 => ?_, fun h1 => ?_, s.setBoot_keeps _⟩
  · exact paramSet_of_owner _ s.boot h1
  · exact paramSet_of_other _ s.boot h1

theorem State.ownerPick_of_fallback (hn : s.boot.owner.filter s.hpUsed = none) :
    s.ownerPick = if s.hpUsed s.straps.ownerHp.toNat then (s.straps.ownerHp.toNat, 0) else (0, 2) := by
  simp only [State.ownerPick, hn]

theorem State.ownerPick_of_named {h : Nat} (ho : s.boot.owner = some h) (hu : s.hpUsed h = true) : s.ownerPick = (h, 1) := by
  simp only [State.ownerPick, ho, Option.filter, hu, if_true]

theorem State.lt_of_hpUsed {h : Nat} (hu : s.hpUsed h = true) : h < 4 := by
  unfold State.hpUsed at hu
  split at hu
  · exact (of_decide_eq_true hu).trans (by decide)
  · exact of_decide_eq_true hu
  · rw [of_decide_eq_true hu]
    decide

theorem State.ownerPick_lt : s.ownerPick.2 * 4 + s.ownerPick.1 < 2 ^ 32 := by
  have hs : s.straps.ownerHp.toNat < 4 := BitVec.isLt _
  cases hn : s.boot.owner.filter s.hpUsed with
  | none =>
    rw [s.ownerPick_of_fallback hn]
    split
    · dsimp only
      omega
    · decide
  | some h =>
    obtain ⟨ho, hu⟩ := Option.filter_eq_some_iff.1 hn
    have := s.lt_of_hpUsed hu
    rw [s.ownerPick_of_named ho hu]
    dsimp only
    omega

theorem execCfgRecEnd_ends (h5 : s.bootState = 5) (hr : s.boot.recAt = some (i, t)) (ho : (cfgRec s.cfgBytes i t).op = 0) :
    ∃ u, exec .cfgRecEnd s = .next u ∧ u.bootState = 6 ∧ u.boot.recAt = none ∧
      (∀ h, s.boot.owner = some h → h < 4 → s.hpUsed h = true → u.rd (genB + 0x44) = 4 + h) ∧
      (s.boot.owner.filter s.hpUsed = none → s.hpUsed s.straps.ownerHp.toNat = true → u.rd (genB + 0x44) = s.straps.ownerHp.toNat) ∧
      (s.boot.owner.filter s.hpUsed = none → s.hpUsed s.straps.ownerHp.toNat = false → u.rd (genB + 0x44) = 8 ∧ Raised Ev.ownerFallback u) := by
  obtain ⟨e1, e2, e3, e4⟩ := s.ownerShown_ends s.ownerPick s.ownerPick_lt
  refine ⟨_, State.next_congr (s.cfgEnd_of_due h5 hr ho), e1, e2, fun h hh _ hu => ?_, fun hn hu => ?_, fun hn hu => ?_⟩
  · rw [e3, s.ownerPick_of_named hh hu, Nat.one_mul]
  · rw [e3, s.ownerPick_of_fallback hn, if_pos hu, Nat.zero_mul, Nat.zero_add]
  · have hp : s.ownerPick = (0, 2) := by rw [s.ownerPick_of_fallback hn, if_neg (by simp [hu])]
    exact ⟨e3.trans (congrArg (fun p : Nat × Nat => p.2 * 4 + p.1) hp), e4 (by rw [hp])⟩

theorem execBootFailed_ends (c : BitVec 8) (i : BitVec 24) :
    (8 ≤ s.bootState → exec (.bootFailed c i) s = .next s) ∧
    (s.bootState < 8 → (s.bootState < 5 ∨ s.flag (bootB + 0x4C) 30 = false) → ∃ u, exec (.bootFailed c i) s = .next u ∧ u.bootState = 0xF ∧
      u.rd (bootB + 0x48) = c.toNat * 2 ^ 24 + i.toNat ∧ Keeps [] (oneOf [bootB + 0x44, bootB + 0x48]) noAddr s u) ∧
    (5 ≤ s.bootState → s.bootState < 8 → s.flag (bootB + 0x4C) 30 = true →
      exec (.bootFailed c i) s = .next ((s.wr (bootB + 0x48) (c.toNat * 2 ^ 24 + i.toNat)).deviceReset)) := by
  have hi := Nat.mod_eq_of_lt i.isLt
  refine ⟨fun h => State.next_congr (if_neg (Nat.not_lt.2 h)), fun h ht => ?_, fun h5 h ht => ?_⟩
  · obtain ⟨f1, f2, -, f3⟩ := s.bootFail_ends c.toNat i.toNat c.isLt ht
    rw [hi] at f2
    exact ⟨_, State.next_congr (if_pos h), f1, f2, f3⟩
  · have hf := s.bootFail_of_trial c.toNat i.toNat h5 ht
    rw [hi] at hf
    exact State.next_congr ((if_pos h).trans hf)

theorem execBootLoad_ends (c : BitVec 40) (im : Vector (BitVec 40) 12) (ws : List (BitVec 26 × Word)) (f : BitVec 32) (e : Ecc)
    (h6 : s.bootState = 6) {g : Nat} (hg : s.regionAt c.toNat (s.bankLen s.running_) = some g) (ht : s.regType g = 6)
    (ha : s.memAllowed .mgc c.toNat (s.bankLen s.running_) true = true) (hs : s.memServes c.toNat (s.bankLen s.running_) = true)
    {r : Bool × State} {p k : Option Nat × State}
    (hr : r = ((s.memWrite c.toNat (s.bankBytes s.running_ 0 (s.bankLen s.running_))).setBoot fun x => { x with copyAt := some c.toNat }).rehash e)
    (hp : p = State.bootClusters s.running_ (fun c => (im[c.val]).toNat) (List.finRange 12) r.2)
    (hk : k = (p.2.bootPipes s.running_ ws).bootUcode s.running_ f) :
    (r.1 = false → exec (.bootLoad c im ws f e) s = .next (r.2.bootFail 8 0)) ∧
    (∀ z, r.1 = true → p.1 = some z → exec (.bootLoad c im ws f e) s = .next (p.2.bootFail 9 z)) ∧
    (∀ z, r.1 = true → p.1 = none → k.1 = some z → exec (.bootLoad c im ws f e) s = .next (k.2.bootFail 9 z)) ∧
    (r.1 = true → p.1 = none → k.1 = none → ∃ u, exec (.bootLoad c im ws f e) s = .next u ∧ u.bootState = 7 ∧
      Keeps [] (oneOf [bootB + 0x44]) noAddr k.2 u) := by
  have he := State.next_congr (s.bootLoad_of_region c im ws f e h6 hg ht ha hs hr hp hk)
  clear hr hp hk
  refine ⟨fun h1 => he.trans ?_, fun z h1 h2 => he.trans ?_, fun z h1 h2 h3 => he.trans ?_, fun h1 h2 h3 => ⟨k.2.toBoot 7, he.trans ?_, ?_⟩⟩
  · simp [loadEnds, h1]
  · simp [loadEnds, h1, h2]
  · simp [loadEnds, h1, h2, h3]
  · simp [loadEnds, h1, h2, h3]
  · exact ⟨k.2.bootState_toBoot 7, k.2.toBoot_keeps 7⟩

end Sys2Proof.Machine
end

section
open Sys2Proof Sys2Proof.Machine

/-- Settles O57: each command of the boot by the lemma about its state; in another state it answers the state that it found. -/
theorem theDeviceBootsThroughItsStates : Obligations.TheDeviceBootsThroughItsStates := by
  refine ⟨execBootRomStart_ends, ?romHeld, ?selfTest, ?flash, ?verify, ?mgcStart, ?config, ?records, ?load, ?start, fun s c i => execBootFailed_ends s c i⟩
  case romHeld =>
    intro s h
    refine State.next_congr ?_
    rw [State.romStart, if_pos (by simpa using h)]
  case selfTest =>
    intro s t a r n
    have hother (x : Option (BitVec 24)) (h : s.bootState ≠ 1) : exec (.bootSelfTest t x r n) s = .next s := State.next_congr (if_pos h)
    exact ⟨execBootSelfTest_ends s t a r n, fun h => ⟨hother (some a) h, hother none h⟩⟩
  case flash => exact fun s x => ⟨fun h => State.next_congr (if_pos h), execBootFlash_ends s⟩
  case verify => exact fun s e => ⟨fun h => State.next_congr (if_pos h), execBootVerify_ends s e⟩
  case mgcStart => exact fun s => ⟨fun h => State.next_congr (if_pos h), execBootMgcStart_ends s⟩
  case config => exact fun s => ⟨fun h => State.next_congr (s.bootConfig_of_other h), execBootConfig_ends s⟩
  case records =>
    intro s i t r x h5 hr h
    have hother {op : Nat} (g : CfgRec → State → State) (ho : r.op ≠ op) : s.recDo op g = s := s.recDo_of_other op g h5 hr (h ▸ ho)
    exact ⟨fun o w ho => execCfgRecWrite_ends s x h5 hr h ho, fun v ho => execCfgRecWait_ends s h5 hr h ho,
      fun ho => execCfgRecDelay_ends s h5 hr h ho, fun ho => execCfgRecParam_ends s h5 hr h ho,
      fun ho => execCfgRecEnd_ends s h5 hr (h ▸ ho),
      fun ho => State.next_congr (hother _ ho), fun ho => State.next_congr (hother _ ho), fun ho => State.next_congr (hother _ ho),
      fun ho => State.next_congr (hother _ ho), fun ho => State.next_congr (hother _ ho)⟩
  case load =>
    rintro s c im ws f e b n rfl rfl
    refine ⟨fun h => State.next_congr (if_pos h), fun h6 ha => State.next_congr (s.bootLoad_of_refused c im ws f e h6 (.inl ha)),
      fun g h6 hg => ⟨fun ht => State.next_congr (s.bootLoad_of_refused c im ws f e h6 (.inr ⟨g, hg, ht⟩)),
        fun ht hk hs => State.next_congr (s.bootLoad_of_held c im ws f e h6 hg ht hk hs)⟩,
      fun g r p k h6 hg ht ha hs hr hp hk => execBootLoad_ends s c im ws f e h6 hg ht ha hs hr hp hk⟩
  case start =>
    intro s
    refine ⟨fun h => State.next_congr ?_, fun h7 hn => ⟨_, rfl, s.bootStart_ends h7 hn⟩, fun h => State.next_congr ?_, fun h7 hs => ?_⟩
    · rw [State.bootStart, if_pos (by simpa using h)]
    · rw [State.bootForward, if_pos (by simpa using h)]
    · obtain ⟨h9, hr, hp⟩ := s.bootForward_ends h7 hs
      exact ⟨_, rfl, h9, hr, fun hz h hu => hp (fun g hg => hz ⟨g, hg⟩) h.val h.isLt hu⟩
end

section
open Sys2Proof Sys2Proof.Machine

/-- Refutes O2: the statement takes every state, and `TimSt.rem` is a signed number that nothing bounds. With a remainder so far below zero
that 62.5 ps amount to less than no unit, the model lets the time base stand, where the statement's own amount, taken modulo the wrap of SEC,
would set it one unit back. A remainder that `State.passTime` leaves is never negative. -/
theorem not_idleStepPassesTime : ¬ Obligations.IdleStepPassesTime := by
  intro h
  obtain ⟨t, hstep, -, htb, -⟩ := h (State.reset.setTim fun u => { u with rem := -4096 * 1000000000000 - 1 }) rfl (by decide)
  have hstands : t.tb = 0 := by
    cases hstep
    decide +kernel
  rw [hstands] at htb
  exact absurd htb (by decide +kernel)
end

section
/-! SUPPORT. TIM's own state: the Tail, the tables of the scheduler and proofing, and the memory leave it as it is. -/
namespace Sys2Proof.Machine

/-- From `s₀` to `s` TIM's own state stays. -/
def SameTim (s₀ s : State) : Prop := s.tim = s₀.tim

namespace SameTim
variable {s₀ s t : State}

theorem refl (s : State) : SameTim s s := rfl

/-- Every other part of the state may change. -/
theorem beside {pending regs act cnts latch pregs tb mono free out straps tsu log fn tl sl dp boot tfn cip mem en rpl hp svc pw dbg quies}
    (hs : SameTim s₀ s) : SameTim s₀ { s with
      pending := pending, regs := regs, act := act, cnts := cnts, latch := latch, pregs := pregs, tb := tb, mono := mono, free := free
      out := out, straps := straps, tsu := tsu, log := log, fn := fn, tl := tl, sl := sl, dp := dp, boot := boot, tfn := tfn, cip := cip
      mem := mem, en := en, rpl := rpl, hp := hp, svc := svc, pw := pw, dbg := dbg, quies := quies } := hs

theorem ite {c : Prop} {_ : Decidable c} (hs : SameTim s₀ s) (ht : SameTim s₀ t) : SameTim s₀ (if c then s else t) := by
  split
  · exact hs
  · exact ht

theorem ite_snd {c : Prop} {_ : Decidable c} {α : Type} {x y : α × State} (hx : SameTim s₀ x.2) (hy : SameTim s₀ y.2) :
    SameTim s₀ (if c then x else y).2 := by
  split
  · exact hx
  · exact hy

theorem pair {α : Type} {x : α} (hs : SameTim s₀ s) : SameTim s₀ (x, s).2 := hs

theorem foldl {α : Type} {f : State → α → State} {l : List α} (hs : SameTim s₀ s) (step : ∀ t x, SameTim s₀ t → SameTim s₀ (f t x)) :
    SameTim s₀ (l.foldl f s) :=
  List.foldlRecOn (motive := SameTim s₀) l f hs fun t ht x _ => step t x ht

theorem foldl_snd {α β : Type} {f : β × State → α → β × State} {l : List α} {q : β × State} (hq : SameTim s₀ q.2)
    (step : ∀ r x, SameTim s₀ r.2 → SameTim s₀ (f r x).2) : SameTim s₀ (l.foldl f q).2 :=
  List.foldlRecOn (motive := fun r => SameTim s₀ r.2) l f hq fun r hr x _ => step r x hr

/-! ### Registers, counters, outputs, events -/

theorem wr {a v : Nat} (hs : SameTim s₀ s) : SameTim s₀ (s.wr a v) := hs.beside

theorem setFld {a hi lo v : Nat} (hs : SameTim s₀ s) : SameTim s₀ (s.setFld a hi lo v) := hs.wr

theorem setCnt {a v : Nat} (hs : SameTim s₀ s) : SameTim s₀ (s.setCnt a v) := hs.beside

theorem bump {a n : Nat} (hs : SameTim s₀ s) : SameTim s₀ (s.bump a n) := hs.setCnt

theorem draw (hs : SameTim s₀ s) : SameTim s₀ s.draw.2 := hs.beside

theorem raiseAt {base c src : Nat} {y : Synd} (hs : SameTim s₀ s) : SameTim s₀ (s.raiseAt base c src y) := by
  have h := (State.raiseAt_only s base c src y).rest
  simp only [State.besides, Prod.mk.injEq] at h
  exact h.2.2.2.2.2.2.2.1.trans hs

theorem raise {base c src : Nat} (hs : SameTim s₀ s) : SameTim s₀ (s.raise base c src) := hs.raiseAt

/-! ### The memory -/

theorem memRefuse {q : MReq} {a : Nat} (hs : SameTim s₀ s) : SameTim s₀ (s.memRefuse q a) := hs.bump.raiseAt

theorem eccBad {a : Nat} {tag : Bool} (hs : SameTim s₀ s) : SameTim s₀ (s.eccBad a tag) := hs.bump.raiseAt

theorem eccCorr (hs : SameTim s₀ s) : SameTim s₀ s.eccCorr := hs.bump.raise.ite hs.bump

theorem zeroRange {lo hi : Nat} (hs : SameTim s₀ s) : SameTim s₀ (s.zeroRange lo hi) := hs.beside

theorem putBytes {a : Nat} {bs : List Byte} (hs : SameTim s₀ s) : SameTim s₀ (s.putBytes a bs) := hs.beside

theorem initAdvance {a : Nat} (hs : SameTim s₀ s) : SameTim s₀ (s.initAdvance a) := by
  unfold State.initAdvance
  split
  · exact hs
  · exact hs.draw.zeroRange.beside.ite hs

theorem mciWrite {a : Nat} {bs : List Byte} (hs : SameTim s₀ s) : SameTim s₀ (s.mciWrite a bs) :=
  (hs.initAdvance.foldl (fun _ _ hs => hs.putBytes.ite (hs.bump.putBytes.ite hs.bump.eccBad))).ite hs.initAdvance.putBytes

theorem memWrite {a : Nat} {bs : List Byte} (hs : SameTim s₀ s) : SameTim s₀ (s.memWrite a bs) := by
  unfold State.memWrite
  split
  · exact hs.bump
  · exact hs.mciWrite

theorem memBytes {a n : Nat} (hs : SameTim s₀ s) : SameTim s₀ (s.memBytes a n).2 := by
  refine hs.pair.foldl_snd fun r i hr => ?_
  split
  · exact hr
  · exact hr.draw

theorem mciRead {a n : Nat} {e : Ecc} (hs : SameTim s₀ s) : SameTim s₀ (s.mciRead a n e).2 := by
  unfold State.mciRead
  refine memBytes (foldl (hs.ite ?_) fun _ _ hs => hs.eccBad)
  cases e with
  | clean => exact hs
  | corrected => exact hs.eccCorr
  | uncorrectable => exact hs.eccBad
  | tagFail => exact hs.eccBad

theorem memRead {a n : Nat} {e : Ecc} (hs : SameTim s₀ s) : SameTim s₀ (s.memRead a n e).2 := by
  unfold State.memRead
  split
  · exact hs.bump.memBytes
  · exact hs.mciRead

/-! ### The Tail -/

theorem setTl {f : TailSt → TailSt} (hs : SameTim s₀ s) : SameTim s₀ (s.setTl f) := hs.beside

theorem setSl {f : StrSt → StrSt} (hs : SameTim s₀ s) : SameTim s₀ (s.setSl f) := hs.beside

theorem ringLevel (hs : SameTim s₀ s) : SameTim s₀ s.ringLevel := hs.wr.setTl.raise.ite hs.wr.setTl

theorem ringStore {i : Nat} {u : TUnit} (hs : SameTim s₀ s) : SameTim s₀ (s.ringStore i u) := hs.memWrite.ite hs.memRefuse

theorem toSink {r : RUnit} (hs : SameTim s₀ s) : SameTim s₀ (s.toSink r) := hs.setSl.ite hs.setTl

theorem intoPath {u : TUnit} (hs : SameTim s₀ s) : SameTim s₀ (s.intoPath u) := hs.toSink.ite hs.ringStore.setTl.ringLevel

theorem place {u : TUnit} (hs : SameTim s₀ s) : SameTim s₀ (s.place u) := hs.intoPath.ite hs.setTl

theorem closeLink (hs : SameTim s₀ s) : SameTim s₀ s.closeLink := hs.ite hs.setTl

theorem chainUnit {payload : Nat} (hs : SameTim s₀ s) : SameTim s₀ (s.chainUnit payload).2 :=
  (hs.setTl.setCnt.bump.closeLink.ite hs.setTl.setCnt.bump).pair

theorem chainGap (hs : SameTim s₀ s) : SameTim s₀ s.chainGap := by
  unfold State.chainGap
  split
  · exact hs
  · exact hs.setTl.chainUnit.place.bump.raise

theorem cpRegs (hs : SameTim s₀ s) : SameTim s₀ s.cpRegs := hs.setFld.foldl fun _ _ hs => hs.wr

theorem takeCp {c : CpCause} (hs : SameTim s₀ s) : SameTim s₀ (s.takeCp c) := hs.chainGap.closeLink.setTl.cpRegs.raise

theorem joinCp {c : CpCause} (hs : SameTim s₀ s) : SameTim s₀ (s.joinCp c) := by
  unfold State.joinCp
  exact hs.closeLink.setTl.cpRegs

theorem cpTake {c : CpCause} (hs : SameTim s₀ s) : SameTim s₀ (s.cpTake c) := by
  unfold State.cpTake
  split
  · exact hs.joinCp
  · exact hs.takeCp.ite hs.setTl.raise

theorem chainTqUnit {q : TqRec} (hs : SameTim s₀ s) : SameTim s₀ (s.chainTqUnit q) := hs.chainUnit.place

theorem chainTq {q : TqRec} (hs : SameTim s₀ s) : SameTim s₀ (s.chainTq q) :=
  (hs.chainGap.chainTqUnit.takeCp.ite hs.chainTqUnit.cpTake).ite hs.chainTqUnit

theorem tqEvent {q : TqRec} (hs : SameTim s₀ s) : SameTim s₀ (s.tqEvent q) := by
  unfold State.tqEvent
  refine hs.ite ?_
  split
  · exact hs.setTl
  · exact hs.chainTq.ite hs.setTl

theorem flushTq (hs : SameTim s₀ s) : SameTim s₀ s.flushTq := by
  unfold State.flushTq
  split
  · exact hs
  · exact hs.setTl.chainTq.ite hs

theorem addGap {cause rclass : Nat} {ts : Instant} (hs : SameTim s₀ s) : SameTim s₀ (s.addGap cause rclass ts) := hs.setTl.bump

theorem commitUnit {payload rclass : Nat} {ts : Instant} (hs : SameTim s₀ s) : SameTim s₀ (s.commitUnit payload rclass ts).2 :=
  hs.flushTq.addGap.pair.ite_snd hs.flushTq.chainGap.chainUnit.place.pair

/-! ### Copies, groups and what is held -/

theorem setDp {g : DataSt → DataSt} (hs : SameTim s₀ s) : SameTim s₀ (s.setDp g) := hs.beside

theorem endCopy {id : Nat} {held : Bool} {fate : Fate} (hs : SameTim s₀ s) : SameTim s₀ (s.endCopy id held fate) := by
  unfold State.endCopy
  split
  · exact hs
  · refine ite ?_ ((hs.setFld.ite hs).setDp)
    dsimp only
    split
    · exact ((hs.setFld.ite hs).setDp).setDp
    · exact (hs.setFld.ite hs).setDp

theorem missRecord {p : Nat} {c : Copy} (hs : SameTim s₀ s) : SameTim s₀ (s.missRecord p c) := by
  unfold State.missRecord
  split
  · exact hs
  · exact hs.commitUnit

theorem setHeld {p : Nat} {l : List Held} (hs : SameTim s₀ s) : SameTim s₀ (s.setHeld p l) := hs.beside

theorem horizonDrop {c : Copy} (hs : SameTim s₀ s) : SameTim s₀ (s.horizonDrop c) := by
  unfold State.horizonDrop
  exact hs.bump.raise.missRecord.endCopy

theorem setGroup {x : Group} (hs : SameTim s₀ s) : SameTim s₀ (s.setGroup x) := hs.setDp

theorem dropGroup {g : Nat} (hs : SameTim s₀ s) : SameTim s₀ (s.dropGroup g) := hs.beside

theorem fixGroup {x : Group} {r : Instant} (hs : SameTim s₀ s) : SameTim s₀ (s.fixGroup x r) := by
  unfold State.fixGroup
  extract_lets mine l far each s₁ s₂
  have h₁ : SameTim s₀ s₁ := hs.foldl fun _ _ h => h.setHeld.ite h
  have h₂ : SameTim s₀ s₂ := h₁.foldl fun _ _ h => h.horizonDrop
  clear_value s₁ s₂
  exact h₁.setGroup.ite (h₂.dropGroup.ite h₂.setGroup)

theorem settleGroup {x : Group} (hs : SameTim s₀ s) : SameTim s₀ (s.settleGroup x) :=
  hs.dropGroup.ite (hs.setGroup.fixGroup.ite hs.setGroup)

theorem leaveGroup {c : Copy} (hs : SameTim s₀ s) : SameTim s₀ (s.leaveGroup c) := by
  unfold State.leaveGroup
  split
  · exact hs
  · exact hs.settleGroup

theorem deepRead {q : MReq} {c : Copy} (hs : SameTim s₀ s) : SameTim s₀ (s.deepRead q c).2 :=
  hs.pair.ite_snd ((hs.foldl_snd (fun _ _ hs => hs.memRead.pair.ite_snd hs.memRefuse.pair)).pair)

theorem stageCopy {c : Copy} (hs : SameTim s₀ s) : SameTim s₀ (s.stageCopy c) :=
  hs.bump.leaveGroup.endCopy.ite (hs.bump.leaveGroup.endCopy.ite hs.setDp)

theorem prfMiss {c : Copy} (hs : SameTim s₀ s) : SameTim s₀ (s.prfMiss c) :=
  hs.raise.bump.missRecord.leaveGroup.endCopy.ite (hs.raise.bump.leaveGroup.deepRead.bump.endCopy.ite
    hs.raise.bump.leaveGroup.deepRead.stageCopy)

/-! ### What follows a set or step -/

theorem stepMiss (hs : SameTim s₀ s) : SameTim s₀ s.stepMiss := hs.foldl fun _ _ hs => hs.foldl fun _ _ hs => hs.setHeld.prfMiss

theorem setSeq {g : SeqSt → SeqSt} (hs : SameTim s₀ s) : SameTim s₀ (s.setSeq g) := hs.setDp

theorem setFifo {n : Nat} {l : List Member} (hs : SameTim s₀ s) : SameTim s₀ (s.setFifo n l) := hs.setSeq

theorem seqStep (hs : SameTim s₀ s) : SameTim s₀ s.seqStep := by
  unfold State.seqStep
  exact (hs.foldl fun _ _ hs => hs.setFifo).setSeq

theorem setPq {p q : Nat} {g : QSt → QSt} (hs : SameTim s₀ s) : SameTim s₀ (s.setPq p q g) := hs.setDp

theorem settleCredit {p q : Nat} (hs : SameTim s₀ s) : SameTim s₀ (s.settleCredit p q) := hs.ite ((hs.ite hs.setPq).ite hs.setPq)

theorem settlePort {p : Nat} (hs : SameTim s₀ s) : SameTim s₀ (s.settlePort p) := hs.foldl fun _ _ hs => hs.settleCredit

theorem setOrb {p : Nat} {g : OrbSt → OrbSt} (hs : SameTim s₀ s) : SameTim s₀ (s.setOrb p g) := hs.setDp

theorem orbResync (hs : SameTim s₀ s) : SameTim s₀ s.orbResync := hs.foldl fun _ _ hs => hs.settlePort.setOrb.raise.ite hs

theorem afterStep (hs : SameTim s₀ s) : SameTim s₀ s.afterStep := hs.seqStep.stepMiss.orbResync

end SameTim
end Sys2Proof.Machine
end

section
/-! SUPPORT. What follows a set or step of the time base (R203, R211, R230) leaves the registers of TIM and the clocks as they are. -/
namespace Sys2Proof.Machine.Spares

variable {s₀ s : State}

/-! ### A read of the memory -/

theorem eccCorr (hs : Spares Kept s₀ s) : Spares Kept s₀ s.eccCorr := hs.bump.raise.ite hs.bump

theorem memBytes {a n : Nat} (hs : Spares Kept s₀ s) : Spares Kept s₀ (s.memBytes a n).2 := by
  refine hs.pair.foldl_snd fun r i hr => ?_
  split
  · exact hr
  · exact hr.draw

theorem mciRead {a n : Nat} {e : Ecc} (hs : Spares Kept s₀ s) : Spares Kept s₀ (s.mciRead a n e).2 := by
  unfold State.mciRead
  refine memBytes (foldl (hs.ite ?_) fun _ _ hs => hs.eccBad)
  cases e with
  | clean => exact hs
  | corrected => exact hs.eccCorr
  | uncorrectable => exact hs.eccBad
  | tagFail => exact hs.eccBad

theorem memRead {a n : Nat} {e : Ecc} (hs : Spares Kept s₀ s) : Spares Kept s₀ (s.memRead a n e).2 := by
  unfold State.memRead
  split
  · exact hs.bump.memBytes
  · exact hs.mciRead

theorem deepRead {q : MReq} {c : Copy} (hs : Spares Kept s₀ s) : Spares Kept s₀ (s.deepRead q c).2 :=
  hs.pair.ite_snd ((hs.foldl_snd (fun _ _ hs => hs.memRead.pair.ite_snd hs.memRefuse.pair)).pair)

/-! ### Missed releases (R211) -/

theorem stageCopy {c : Copy} (hs : Spares Kept s₀ s) : Spares Kept s₀ (s.stageCopy c) :=
  hs.stat.leaveGroup.endCopy.ite (hs.stat.leaveGroup.endCopy.ite hs.setMac)

theorem prfMiss {c : Copy} (hs : Spares Kept s₀ s) : Spares Kept s₀ (s.prfMiss c) :=
  hs.raise.bump.missRecord.leaveGroup.endCopy.ite (hs.raise.bump.leaveGroup.deepRead.bump.endCopy.ite
    hs.raise.bump.leaveGroup.deepRead.stageCopy)

/-- A held copy of whatever port lies above the registers of TIM. -/
theorem dropHeld {h : Held} (hs : Spares InTim s₀ s) : Spares InTim s₀ (s.dropHeld h) := by
  have hprf {k : Nat} : ¬ InTim (prfB + k) := by
    simp only [InTim, prfB]
    omega
  have h₁ : Spares InTim s₀ (s.setPrf fun f => { f with held := mput (fun _ => []) f.held h.cp.vport ((s.heldOf h.cp.vport).erase h) }) :=
    hs.beside
  unfold State.dropHeld State.setHeld
  exact (h₁.wrTim (by simpa only [Nat.add_assoc] using hprf)).wrTim (by simpa only [Nat.add_assoc] using hprf)

theorem stepMiss (hs : Spares InTim s₀ s) : Spares InTim s₀ s.stepMiss :=
  hs.foldl fun _ _ hs => hs.foldl fun _ _ hs => hs.dropHeld.tim (.prfMiss (.refl _))

/-! ### The sequencer, Orbit and the Tail (R203, R230, R83) -/

theorem seqStep (hs : Spares Kept s₀ s) : Spares Kept s₀ s.seqStep := by
  unfold State.seqStep
  exact (hs.foldl fun _ _ hs => hs.setFifo).setSeq

theorem settlePort {p : Nat} (hs : Spares Kept s₀ s) : Spares Kept s₀ (s.settlePort p) := hs.foldl fun _ _ hs => hs.settleCredit

theorem setOrb {p : Nat} {g : OrbSt → OrbSt} (hs : Spares Kept s₀ s) : Spares Kept s₀ (s.setOrb p g) := hs.setSch

theorem orbResync (hs : Spares Kept s₀ s) : Spares Kept s₀ s.orbResync := hs.foldl fun _ _ hs => hs.settlePort.setOrb.raise.ite hs

theorem afterStep (hs : Spares InTim s₀ s) : Spares InTim s₀ s.afterStep :=
  (hs.tim (.seqStep (.refl s))).stepMiss.tim (.orbResync (.refl _))

theorem tqEvent {q : TqRec} (hs : Spares Kept s₀ s) : Spares Kept s₀ (s.tqEvent q) := by
  unfold State.tqEvent
  refine hs.ite ?_
  split
  · exact hs.setTl
  · exact hs.chainTq.ite hs.setTl

end Sys2Proof.Machine.Spares
end

section
/-! SUPPORT. What a command of TIM leaves: its frame where it raises an event, latches that are read back, and the parts of the time base
that an evaluation of the time quality does not touch. -/
namespace Sys2Proof.Machine

/-! ### Frames -/

/-- States that agree with the parts in `ks` left out agree with more left out. -/
theorem State.blank_append (ks : List Part) {s t : State} (h : t.blank ks = s.blank ks) : t.blank (evParts ++ ks) = s.blank (evParts ++ ks) := by
  have twice (u : State) : (u.blank ks).blank (evParts ++ ks) = u.blank (evParts ++ ks) := by
    simp only [State.blank, List.contains_append, Bool.or_eq_true]
    congr 1 <;> (split <;> simp_all)
  rw [← twice t, ← twice s, h]

/-- An event raised at the end of a command adds what an event writes to the command's frame. -/
theorem Keeps.raise {ks : List Part} {p q : Nat → Prop} {s t : State} (h : Keeps ks p q s t) (base c src : Nat) :
    KeepsEv base ks p q s (t.raise base c src) := by
  obtain ⟨hblank, hrd, hcnt⟩ := h
  have hr := State.raise_only t base c src
  refine ⟨(State.blank_eq_of_besides ks _ _ hr.rest).trans (State.blank_append ks hblank), fun a ha => ?_, fun a ha => ?_⟩
  · exact (hr.regs a fun x => ha (.inl x)).trans (hrd a fun x => ha (.inr x))
  · exact (hr.cnts a fun x => ha (.inl x)).trans (hcnt a fun x => ha (.inr x))

section
variable {ks : List Part} {p q : Nat → Prop} {s t : State}

theorem Keeps.setTim (h : Keeps ks p q s t) (hk : Part.tim ∈ ks) (g : TimSt → TimSt) : Keeps ks p q s (t.setTim g) :=
  ⟨Eq.trans (by simp [State.blank, State.setTim, hk]) h.1, h.2.1, h.2.2⟩

theorem Keeps.setTsu (h : Keeps ks p q s t) (hk : Part.tsu ∈ ks) (n : Nat) (g : TsuSt → TsuSt) : Keeps ks p q s (t.setTsu n g) :=
  ⟨Eq.trans (by simp [State.blank, State.setTsu, hk]) h.1, h.2.1, h.2.2⟩

theorem Keeps.setLat (h : Keeps ks p q s t) (hk : Part.latch ∈ ks) (r : Req) (a v : Nat) : Keeps ks p q s (t.setLat r a v) :=
  ⟨Eq.trans (by simp [State.blank, State.setLat, hk]) h.1, h.2.1, h.2.2⟩

theorem Keeps.emit (h : Keeps ks p q s t) (hk : Part.out ∈ ks) (o : Out) : Keeps ks p q s (t.emit o) :=
  ⟨Eq.trans (by simp [State.blank, State.emit, hk]) h.1, h.2.1, h.2.2⟩

theorem Keeps.draw (h : Keeps ks p q s t) (hk : Part.free ∈ ks) : Keeps ks p q s t.draw.2 :=
  ⟨Eq.trans (by simp [State.blank, State.draw, hk]) h.1, h.2.1, h.2.2⟩

end

/-- A register of TIM beside its captures is not an event's. -/
theorem offEvent_tim (k : Nat) (h : k < 0x14 ∨ 0x30 < k) (hk : k < 0x100000) : offEvent timB (timB + k) := by
  simp only [offEvent, inEvt, inCapture, timB]
  omega

/-! ### Latches -/

theorem State.lat_setLat_if (s : State) (q : Req) (a v b : Nat) : (s.setLat q a v).lat q b = if b = a then v % 2 ^ 32 else s.lat q b := by
  have hkey : latchKey q b = latchKey q a ↔ b = a := by simp [latchKey]
  simp only [State.lat, State.setLat, mget_mput, hkey]
  split
  · exact BitVec.toNat_ofNat _ _
  · rfl

theorem tsWord_mod (t : Instant) (n : Nat) (h : n ≤ 2) : tsWord t n % 2 ^ 32 = tsWord t n := by
  refine Nat.mod_eq_of_lt (Nat.lt_of_lt_of_le (bits_lt _ _ _) (Nat.pow_le_pow_right (by decide) ?_))
  omega

/-! ### What an evaluation of the time quality does not touch -/

/-- From `s₀` to `s` the clocks, the pending change, the source in effect, TIM_ADJ_CTRL and SECONDS_VALID stay. -/
structure TimeKept (s₀ s : State) : Prop where
  tb : s.tb = s₀.tb
  mono : s.mono = s₀.mono
  pend : s.tim.pend = s₀.tim.pend
  src : s.tim.src = s₀.tim.src
  adj : s.rd (timB + 0x78) = s₀.rd (timB + 0x78)
  valid : s.secondsValid = s₀.secondsValid

namespace TimeKept
variable {s₀ s t : State}

theorem refl (s : State) : TimeKept s s := ⟨rfl, rfl, rfl, rfl, rfl, rfl⟩

theorem trans (h : TimeKept s₀ s) (k : TimeKept s t) : TimeKept s₀ t :=
  ⟨k.tb.trans h.tb, k.mono.trans h.mono, k.pend.trans h.pend, k.src.trans h.src, k.adj.trans h.adj, k.valid.trans h.valid⟩

theorem ite {c : Prop} {_ : Decidable c} (hs : TimeKept s₀ s) (ht : TimeKept s₀ t) : TimeKept s₀ (if c then s else t) := by
  split
  · exact hs
  · exact ht

/-- What leaves TIM's registers and TIM's own state. -/
theorem of_spares (h : TimeKept s₀ s) (hr : Spares InTim s t) (ht : SameTim s t) : TimeKept s₀ t := by
  have hin {k : Nat} (hk : k < 0x100000) : InTim (timB + k) := by
    simp only [InTim, timB]
    omega
  exact h.trans ⟨hr.tb, hr.mono, congrArg TimSt.pend ht, congrArg TimSt.src ht, hr.rd _ (hin (by decide)), hr.flag (hin (by decide))⟩

theorem act {m : Sparse Word} (h : TimeKept s₀ s) : TimeKept s₀ { s with act := m } := h.trans ⟨rfl, rfl, rfl, rfl, rfl, rfl⟩

theorem pw {x : PwrSt} (h : TimeKept s₀ s) : TimeKept s₀ { s with pw := x } := h.trans ⟨rfl, rfl, rfl, rfl, rfl, rfl⟩

theorem setTim {g : TimSt → TimSt} (h : TimeKept s₀ s) (hp : (g s.tim).pend = s.tim.pend) (hs : (g s.tim).src = s.tim.src) :
    TimeKept s₀ (s.setTim g) := h.trans ⟨rfl, rfl, hp, hs, rfl, rfl⟩

theorem setTrk {n : Nat} {f : Track → Track} (h : TimeKept s₀ s) : TimeKept s₀ (s.setTrk n f) := h.setTim rfl rfl

theorem wr {a v : Nat} (h : TimeKept s₀ s) (ha : timB + 0x78 ≠ a) (hq : timB + 0x50 ≠ a) : TimeKept s₀ (s.wr a v) :=
  h.trans ⟨rfl, rfl, rfl, rfl, State.rd_wr_ne _ _ _ _ ha, congrArg (Nat.testBit · 8) (State.rd_wr_ne _ _ _ _ hq)⟩

/-- A field of TIM_QUALITY beside SECONDS_VALID. -/
theorem setQuality {hi lo v : Nat} (h : TimeKept s₀ s) (hl : lo ≤ hi) (h8 : 8 < lo ∨ hi < 8) :
    TimeKept s₀ (s.setFld (timB + 0x50) hi lo v) := by
  refine h.trans ⟨rfl, rfl, rfl, rfl, State.rd_setFld_ne _ _ _ _ _ _ (by decide), ?_⟩
  rw [State.secondsValid, State.flag_setFld _ _ _ _ _ _ hl (by decide), if_neg (by omega)]
  rfl

theorem raise {c src : Nat} (h : TimeKept s₀ s) : TimeKept s₀ (s.raise timB c src) := by
  refine h.trans ⟨State.raise_tb .., State.raise_mono .., ?_, ?_, ?_, ?_⟩
  · rw [State.raise_tim]
  · rw [State.raise_tim]
  · exact State.raise_rd _ _ _ _ _ (offEvent_tim _ (by decide) (by decide))
  · exact State.raise_flag _ _ _ _ _ _ (offEvent_tim _ (by decide) (by decide))

theorem showEst (h : TimeKept s₀ s) : TimeKept s₀ s.showEst := h.wr (by decide) (by decide)

theorem tqTransition {new est : Nat} (h : TimeKept s₀ s) : TimeKept s₀ (s.tqTransition new est) := by
  unfold State.tqTransition
  extract_lets s₁ s₂
  have h₁ : TimeKept s₀ s₁ := by
    refine (h.setTim rfl rfl).ite (ite ?_ h)
    split
    · exact h
    · exact h.setTrk
  clear_value s₁
  exact ((h₁.setQuality (by decide) (.inr (by decide))).setQuality (by decide) (.inl (by decide))).showEst.raise

theorem secondPassed (h : TimeKept s₀ s) : TimeKept s₀ s.secondPassed := by
  unfold State.secondPassed
  extract_lets l u s₁ s₂ s₃ s₄ s₅
  have h₂ : TimeKept s₀ s₂ := h.setTrk.setTrk
  clear_value s₂
  have h₃ : TimeKept s₀ s₃ := h₂.setTrk.ite h₂
  clear_value s₃
  exact ((h₃.setQuality (by decide) (.inl (by decide))).setTim rfl rfl).showEst

theorem evaluateTq {second forced : Bool} (h : TimeKept s₀ s) : TimeKept s₀ (s.evaluateTq second forced).2 := by
  unfold State.evaluateTq
  dsimp only
  split
  · exact h.secondPassed.ite h
  · exact (h.secondPassed.ite h).tqTransition

theorem chainTqEvent {old cause : Nat} {step : Option Int} (h : TimeKept s₀ s) : TimeKept s₀ (s.chainTqEvent old cause step) :=
  h.of_spares ((Spares.tqEvent (.refl s)).weaken InTim.kept) (SameTim.tqEvent (.refl s))

theorem leap (h : TimeKept s₀ s) : TimeKept s₀ s.leap.2 := by
  unfold State.leap
  extract_lets a at_ old new t₁ t₂ x
  have h₁ : TimeKept s₀ t₁ := h.act.ite h
  clear_value t₁
  have h₂ : TimeKept s₀ t₂ := (h₁.wr (a := timB + 0x9C) (by decide) (by decide)).ite h₁
  clear_value t₂
  split
  · exact h₂.pw.raise
  · exact h

theorem afterStep (h : TimeKept s₀ s) : TimeKept s₀ s.afterStep := h.of_spares (.afterStep (.refl s)) (.afterStep (.refl s))

end TimeKept

/-- The time base stands where it was put; a set or step changes nothing else that an evaluation keeps. -/
theorem State.jumpTo_kept (s : State) (t : Instant) (cause : Nat) (change : Int) : TimeKept { s with tb := t } (s.jumpTo t cause change) := by
  unfold State.jumpTo
  exact (((TimeKept.refl { s with tb := t }).pw.raise.leap.evaluateTq).setTim rfl rfl).chainTqEvent

end Sys2Proof.Machine
end

section
/-! TIME_SET, TIME_STEP and what becomes of the request (R58, R59). -/
namespace Sys2Proof.Machine

variable (s : State)

/-! ### The request -/

/-- TIM_ADJ_CTRL after a write that requests a change: FAIL cleared where asked, AT_PPS as written, BUSY 1. -/
def State.adjCtrl (atPps clr : Bool) : State :=
  ((if clr then s.setFld (timB + 0x78) 4 4 0 else s).setFld (timB + 0x78) 2 2 (b2n atPps)).setFld (timB + 0x78) 3 3 1

/-- TIM_SETV and TIM_STEPV as numbers. -/
def State.setV : Nat := s.rd (timB + 0x64) * 2 ^ 64 + s.rd (timB + 0x68) * 2 ^ 32 + s.rd (timB + 0x6C)
def State.stepV : Nat := s.rd (timB + 0x70) + s.rd (timB + 0x74) * 2 ^ 32

/-- The value that a request holds. -/
def State.adjValue (isSet : Bool) : Int := if isSet then (ofTs96 s.setV : Nat) else signed 64 s.stepV

theorem State.adjValue_set : s.adjValue true = (ofTs96 s.setV : Nat) := if_pos rfl
theorem State.adjValue_step : s.adjValue false = signed 64 s.stepV := if_neg Bool.false_ne_true

theorem State.adjWrite_of_free (isSet atPps clr : Bool) (hp : s.tim.pend = none) (hv : isSet = true → bits s.setV 47 16 < 1000000000) :
    s.adjWrite isSet false atPps clr =
      (s.adjCtrl atPps clr).setTim fun t => { t with pend := some ⟨isSet, s.adjValue isSet, atPps, s.mono, s.tick⟩, edge := none } := by
  have hcond : (false || s.tim.pend.isSome || (isSet && decide (1000000000 ≤ bits s.setV 47 16))) = false := by
    cases isSet with
    | false => simp [hp]
    | true => simpa [hp] using hv rfl
  refine (if_neg (Bool.eq_false_iff.1 hcond)).trans ?_
  cases clr <;> rfl

theorem State.adjWrite_of_refused (isSet both atPps clr : Bool) (h : s.tim.pend.isSome = true ∨ both = true) :
    s.adjWrite isSet both atPps clr = s.reject timB 0x78 := by
  unfold State.adjWrite
  exact if_pos (by obtain h | h := h <;> simp [h])

theorem State.adjCtrl_keeps (atPps clr : Bool) : Keeps [.tim] (oneOf [timB + 0x78]) noAddr s (s.adjCtrl atPps clr) := by
  have hin : oneOf [timB + 0x78] (timB + 0x78) := List.mem_singleton_self _
  unfold State.adjCtrl
  cases clr with
  | false => exact ((Keeps.refl _ _ _ s).wr hin _).wr hin _
  | true => exact (((Keeps.refl _ _ _ s).wr hin _).wr hin _).wr hin _

/-- One bit of a word after one bit of it is set. -/
theorem State.flag_setBit (a i v j : Nat) (hj : j < 32) : (s.setFld a i i v).flag a j = if j = i then v.testBit 0 else s.flag a j := by
  rw [State.flag_setFld _ _ _ _ _ _ (Nat.le_refl i) hj]
  by_cases h : j = i
  · rw [if_pos (by omega), if_pos h, h, Nat.sub_self]
  · rw [if_neg (by omega), if_neg h]

theorem State.adjCtrl_flags (atPps clr : Bool) : (s.adjCtrl atPps clr).flag (timB + 0x78) 3 = true ∧
    (s.adjCtrl atPps clr).flag (timB + 0x78) 2 = atPps ∧ (s.adjCtrl atPps clr).flag (timB + 0x78) 4 = (s.flag (timB + 0x78) 4 && !clr) := by
  unfold State.adjCtrl
  refine ⟨?_, ?_, ?_⟩
  · rw [State.flag_setBit _ _ _ _ _ (by decide), if_pos rfl]
    rfl
  · rw [State.flag_setBit _ _ _ _ _ (by decide), if_neg (by decide), State.flag_setBit _ _ _ _ _ (by decide), if_pos rfl]
    cases atPps <;> rfl
  · rw [State.flag_setBit _ _ _ _ _ (by decide), if_neg (by decide), State.flag_setBit _ _ _ _ _ (by decide), if_neg (by decide)]
    cases clr with
    | false => exact (Bool.and_true _).symm
    | true => exact ((s.flag_setBit _ _ _ _ (by decide)).trans (if_pos rfl)).trans (Bool.and_false _).symm

/-! ### SET_STEP_APPLY and ADJ_PPS_TIMEOUT -/

theorem uWrap_pos : 0 < uWrap := by decide

theorem moveBy_cast (t : Instant) (d : Int) : (moveBy t d : Int) = ((t : Int) + d) % (uWrap : Int) := by
  have hpos := uWrap_pos
  unfold moveBy
  generalize uWrap = w at *
  exact Int.toNat_of_nonneg (Int.emod_nonneg _ (by omega))

/-- A change that is applied without an edge: the request is gone, BUSY is 0, SECONDS_VALID is 1, the time base is where it was put. -/
theorem State.applyAdj_ends (p : PendAdj) : (s.applyAdj p 0).tim.pend = none ∧ (s.applyAdj p 0).flag (timB + 0x78) 3 = false ∧
    (s.applyAdj p 0).secondsValid = true ∧ ((s.applyAdj p 0).tb : Int) = (if p.isSet then p.value else (s.tb : Int) + p.value) % (uWrap : Int) ∧
    (s.applyAdj p 0).mono = s.mono := by
  unfold State.applyAdj
  extract_lets s₁ s₂ t
  have hbusy : s₂.flag (timB + 0x78) 3 = false :=
    (State.flag_setFld_ne _ _ _ _ _ _ _ (by decide)).trans ((State.flag_setFld _ _ _ _ _ _ (by decide) (by decide)).trans rfl)
  have hvalid : s₂.secondsValid = true := (State.flag_setFld _ _ _ _ _ _ (by decide) (by decide)).trans rfl
  have hpend : s₂.tim.pend = none := rfl
  have hmono : s₂.mono = s.mono := rfl
  have ht : (t : Int) = (if p.isSet then p.value else (s.tb : Int) + p.value) % (uWrap : Int) := by
    dsimp only [t]
    split
    · rw [moveBy_cast]
      simp
    · exact moveBy_cast _ _
  clear_value s₂ t
  have hk := s₂.jumpTo_kept t (if p.isSet then 2 else 3) ((t : Int) - s₂.tb)
  refine ⟨hk.pend.trans hpend, ?_, hk.valid.trans hvalid, ?_, hk.mono.trans hmono⟩
  · rw [State.flag, hk.adj]
    exact hbusy
  · rw [hk.tb]
    exact ht

theorem State.setStepApply_of_due {p : PendAdj} (hp : s.tim.pend = some p) (ha : p.atPps = false) (ht : s.tick ≠ p.tick) :
    s.setStepApply = (s.applyAdj p 0).afterStep := by
  simp [State.setStepApply, hp, ha, ht]

theorem State.setStepApply_of_no_edge {p : PendAdj} (hp : s.tim.pend = some p) (ha : p.atPps = true) (he : s.tim.edge = none) :
    s.setStepApply = s := by
  simp [State.setStepApply, hp, ha, he]

/-- The request is cancelled: BUSY 0, FAIL 1, TIME_ADJ_FAIL raised. -/
def State.adjFailed : State :=
  ((s.setTim fun t => { t with pend := none }).setFld (timB + 0x78) 4 3 2).raise timB Ev.timeAdjFail Src.device

theorem State.adjPpsTimeout_of_late {p : PendAdj} (hp : s.tim.pend = some p) (ha : p.atPps = true) (hd : p.since + uS + uS / 2 ≤ s.mono) :
    s.adjPpsTimeout = s.adjFailed := by
  simp [State.adjPpsTimeout, State.adjFailed, hp, ha, State.past, hd]

theorem State.adjFailed_ends : s.adjFailed.tim.pend = none ∧ s.adjFailed.flag (timB + 0x78) 3 = false ∧ s.adjFailed.flag (timB + 0x78) 4 = true ∧
    s.adjFailed.tb = s.tb ∧ KeepsEv timB [.tim] (oneOf [timB + 0x78]) noAddr s s.adjFailed := by
  have hflag (i : Nat) (hi : i = 3 ∨ i = 4) : s.adjFailed.flag (timB + 0x78) i = (2 : Nat).testBit (i - 3) :=
    (State.raise_flag _ _ _ _ _ _ (offEvent_tim _ (by decide) (by decide))).trans
      ((State.flag_setFld _ _ _ _ _ _ (by decide) (by omega)).trans (if_pos (by omega)))
  refine ⟨?_, hflag 3 (.inl rfl), hflag 4 (.inr rfl), ?_,
    (((Keeps.refl _ _ _ s).setTim (by decide) _).wr (List.mem_singleton_self _) _).raise _ _ _⟩
  · rw [State.adjFailed, State.raise_tim, State.setFld_tim, State.setTim_tim]
  · rw [State.adjFailed, State.raise_tb, State.setFld_tb, State.setTim_tb]

end Sys2Proof.Machine
end

section
open Sys2Proof Sys2Proof.Machine

/-- Settles O13: TIM_ADJ_CTRL takes three fields one after another, and the request holds the value read before them. -/
theorem timeSetAndStepAreRequested : Obligations.TimeSetAndStepAreRequested := by
  refine ⟨?set, ?step, ?refused⟩
  case set =>
    intro s atPps clr hp hv
    obtain ⟨h3, h2, h4⟩ := s.adjCtrl_flags atPps clr
    exact ⟨_, _, State.next_congr (s.adjWrite_of_free true atPps clr hp fun _ => hv), rfl, rfl, rfl, rfl, s.adjValue_set, h3, h2, h4,
      (s.adjCtrl_keeps atPps clr).setTim (by decide) _⟩
  case step =>
    intro s atPps clr hp
    exact ⟨_, _, State.next_congr (s.adjWrite_of_free false atPps clr hp Bool.noConfusion), rfl, rfl, rfl, s.adjValue_step,
      (s.adjCtrl_flags atPps clr).1, (s.adjCtrl_keeps atPps clr).setTim (by decide) _⟩
  case refused =>
    intro s both atPps clr h
    exact ⟨State.next_congr (s.adjWrite_of_refused true both atPps clr h), State.next_congr (s.adjWrite_of_refused false both atPps clr h)⟩

/-- Settles O14: an evaluation of the time quality and what follows a step keep the clocks, TIM_ADJ_CTRL and SECONDS_VALID (`TimeKept`). -/
theorem setAndStepMoveTheTimeBase : Obligations.SetAndStepMoveTheTimeBase := by
  refine ⟨?apply, ?wait, ?timeout⟩
  case apply =>
    intro s p hp ha ht
    obtain ⟨hpend, hbusy, hvalid, htb, hmono⟩ := s.applyAdj_ends p
    have hk := (TimeKept.refl (s.applyAdj p 0)).afterStep
    refine ⟨_, State.next_congr (s.setStepApply_of_due hp ha ht), hk.pend.trans hpend, ?_, hk.valid.trans hvalid, ?_, hk.mono.trans hmono⟩
    · rw [State.flag, hk.adj]
      exact hbusy
    · rw [hk.tb]
      exact htb
  case wait =>
    intro s p hp ha he
    exact State.next_congr (s.setStepApply_of_no_edge hp ha he)
  case timeout =>
    intro s p hp ha hd
    obtain ⟨hpend, hbusy, hfail, htb, hkeeps⟩ := s.adjFailed_ends
    exact ⟨_, State.next_congr (s.adjPpsTimeout_of_late hp ha hd), hpend, hbusy, hfail, htb, hkeeps⟩
end

section
/-! The time quality (R61, Table 03-4) and the sources that TIM follows (R54, R65, R474). -/
namespace Sys2Proof.Machine

variable (s : State)

/-! ### Transitions of Table 03-4 -/

theorem State.tq_of_quality {s t : State} (h : t.rd (timB + 0x50) = s.rd (timB + 0x50)) : t.tq = s.tq := congrArg (bits · 1 0) h

/-- A field of TIM_QUALITY above STATE leaves STATE. -/
theorem State.tq_setQuality (hi lo v : Nat) (hl : lo ≤ hi) (h1 : 1 < lo) : (s.setFld (timB + 0x50) hi lo v).tq = s.tq :=
  State.fld_setFld_apart _ _ _ _ _ _ _ hl (by decide) (.inl h1)

theorem State.tq_raise (c src : Nat) : (s.raise timB c src).tq = s.tq :=
  State.tq_of_quality (State.raise_rd _ _ _ _ _ (offEvent_tim _ (by decide) (by decide)))

theorem State.tq_showEst : s.showEst.tq = s.tq := State.tq_of_quality (State.rd_wr_ne _ _ _ _ (by decide))

theorem State.tq_tqTransition (new est : Nat) (h : new < 4) : (s.tqTransition new est).tq = new := by
  unfold State.tqTransition
  extract_lets s₁ s₂
  clear_value s₁
  rw [State.tq_raise, State.tq_showEst, State.tq_setQuality _ _ _ _ (by decide) (by decide)]
  exact (State.fld_setFld _ _ _ _ _ (by decide) (by decide)).trans (Nat.mod_eq_of_lt h)

theorem State.tim_showEst : s.showEst.tim = s.tim := State.wr_tim ..

theorem State.tim_tqTransition_freerun (est : Nat) : (s.tqTransition 3 est).tim = s.tim := by
  generalize hu : s.tqTransition 3 est = u
  unfold State.tqTransition at hu
  extract_lets s₁ s₂ at hu
  have h₁ : s₁ = s := rfl
  clear_value s₁
  have h₂ : s₂.tim = s₁.tim := (State.setFld_tim ..).trans (State.setFld_tim ..)
  rw [← hu, State.raise_tim, State.tim_showEst, h₂, h₁]

theorem State.tq_chainTqEvent (old cause : Nat) (step : Option Int) : (s.chainTqEvent old cause step).tq = s.tq :=
  (Spares.tqEvent (.refl s)).fld (InTim.kept _ (by simp only [InTim, timB]; omega))

theorem State.tim_chainTqEvent (old cause : Nat) (step : Option Int) : (s.chainTqEvent old cause step).tim = s.tim := SameTim.tqEvent (.refl s)

/-! ### The evaluation of a boundary without a source -/

theorem State.tracked_of_free (h : s.tim.src = 0) : s.tracked = none := by simp [State.tracked, h, isPps]

theorem State.tqNext_of_free (h : s.tim.src = 0) (hv : s.secondsValid = true) (hq : s.tq = 0 ∨ s.tq = 3) :
    s.tqNext false = if s.tq = 0 then some 3 else none := by
  unfold State.tqNext
  rw [s.tracked_of_free h]
  obtain hq | hq := hq <;> simp [hq, hv, h]

theorem State.tq_setTim (g : TimSt → TimSt) : (s.setTim g).tq = s.tq := State.setTim_fld ..

theorem State.tq_secondPassed : s.secondPassed.tq = s.tq := by
  unfold State.secondPassed
  extract_lets l u s₁ s₂ s₃ s₄ s₅
  have h₂ : s₂.tq = s.tq := (State.tq_setTim _ _).trans (State.tq_setTim _ _)
  clear_value s₂
  have h₃ : s₃.tq = s₂.tq := by
    dsimp only [s₃]
    split
    · exact State.tq_setTim _ _
    · rfl
  clear_value s₃
  calc s₅.showEst.tq = s₅.tq := State.tq_showEst _
    _ = s₄.tq := State.tq_setTim _ _
    _ = s₃.tq := s₃.tq_setQuality _ _ _ (by decide) (by decide)
    _ = s.tq := h₃.trans h₂

theorem State.lastSec_secondPassed : s.secondPassed.tim.lastSec = secOf s.tb := by
  generalize hu : s.secondPassed = u
  unfold State.secondPassed at hu
  extract_lets l k s₁ s₂ s₃ s₄ s₅ at hu
  have h₂ : s₂.tb = s.tb := (State.setTim_tb _ _).trans (State.setTim_tb _ _)
  clear_value s₂
  have h₃ : s₃.tb = s₂.tb := by
    dsimp only [s₃]
    split
    · exact State.setTim_tb _ _
    · rfl
  clear_value s₃
  have h₄ : s₄.tb = s₃.tb := State.setFld_tb ..
  clear_value s₄
  rw [← hu, State.tim_showEst, ← h₂, ← h₃, ← h₄]
  rfl

/-- A boundary of a time base without a source, valid seconds and a due leap: FREERUN is entered or kept, and the second counts. -/
theorem State.boundary_of_free (hs : s.tim.src = 0) (hv : s.secondsValid = true) (hq : s.tq = 0 ∨ s.tq = 3) (hl : s.leap = (false, s)) :
    s.boundary.tq = 3 ∧ s.boundary.tim.lastSec = secOf s.tb ∧ s.boundary.tb = s.tb := by
  have hk := (TimeKept.refl s).secondPassed
  have hnext := s.secondPassed.tqNext_of_free (hk.src.trans hs) (hk.valid.trans hv) (by rwa [s.tq_secondPassed])
  rw [s.tq_secondPassed] at hnext
  obtain hq | hq := hq
  · have hev : s.evaluateTq true false = (true, s.secondPassed.tqTransition 3 s.secondPassed.offsetEst) := by
      simp [State.evaluateTq, hnext, hq]
    have hb : s.boundary = (s.secondPassed.tqTransition 3 s.secondPassed.offsetEst).chainTqEvent s.tq 1 (some 0) := by
      simp [State.boundary, hl, hev]
    rw [hb]
    refine ⟨(State.tq_chainTqEvent ..).trans (State.tq_tqTransition _ _ _ (by decide)), ?_, hk.tqTransition.chainTqEvent.tb⟩
    rw [State.tim_chainTqEvent, State.tim_tqTransition_freerun, State.lastSec_secondPassed]
  · have hev : s.evaluateTq true false = (false, s.secondPassed) := by simp [State.evaluateTq, hnext, hq]
    have hb : s.boundary = s.secondPassed := by simp [State.boundary, hl, hev]
    rw [hb]
    exact ⟨s.tq_secondPassed.trans hq, s.lastSec_secondPassed, hk.tb⟩

theorem State.leap_of_none (h30 : s.timBit (timB + 0x9C) 30 = false) (h29 : s.timBit (timB + 0x9C) 29 = false) : s.leap = (false, s) := by
  have h30 : bit (s.timW (timB + 0x9C)) 30 = false := h30
  have h29 : bit (s.timW (timB + 0x9C)) 29 = false := h29
  simp [State.leap, h30, h29]

/-! ### A change to no source (R54) -/

/-- What SRC_CHANGE to no source does before Table 03-4 is asked. -/
def State.srcFreed (s : State) : State :=
  ((if isPps s.tim.src then (s.wr (timB + 0x60) s.tim.pll.toNat).setTim (fun t => { t with slew := 0, liveTick := none }) else s).setTim
    fun t => { t with src := 0 }).setFld (timB + 0x50) 9 9 0

theorem State.srcChange_to_free (h0 : s.fld (timB + 0x4C) 2 0 = 0) (hs : s.tim.src ≠ 0) (ht : s.tick ≠ s.tim.srcTick) :
    s.srcChange = if s.tq = 1 then (s.srcFreed.tqTransition 2 s.offsetEst).chainTqEvent 1 1 (some 0) else s.srcFreed := by
  unfold State.srcChange
  extract_lets new old est s₁ s₂ s₃ s₄ qualified s₅
  have hnew : new = 0 := h0
  have hpps : isPps new = false := congrArg isPps hnew
  have h₄ : s₄ = s.srcFreed := by simp [s₄, s₃, s₂, s₁, hnew, show isPps 0 = false from rfl, State.srcFreed, b2n]
  have hqual : qualified = false := by simp [qualified, hpps]
  have h₅ : s₅ = s.srcFreed := by
    rw [← h₄]
    dsimp only [s₅]
    rw [h₄, State.tracked_of_free _ rfl]
  clear_value s₅ qualified
  subst h₅ hqual
  rw [if_neg (by simp [hnew, Ne.symm hs, ht])]
  simp [old, est]

theorem State.srcFreed_ends : s.srcFreed.tim.src = 0 ∧ s.srcFreed.tq = s.tq ∧ s.srcFreed.tb = s.tb := by
  unfold State.srcFreed
  split
  · exact ⟨rfl, (State.tq_setQuality _ _ _ _ (by decide) (by decide)).trans (State.tq_of_quality (State.rd_wr_ne _ _ _ _ (by decide))), rfl⟩
  · exact ⟨rfl, State.tq_setQuality _ _ _ _ (by decide) (by decide), rfl⟩

end Sys2Proof.Machine
end

section
/-! The sources that TIM follows: 1PPS inputs, 10 MHz and the servo (R54, R61, R65, R474). -/
namespace Sys2Proof.Machine

variable (s : State)

theorem State.trk_setTrk (n : Nat) (f : Track → Track) : (s.setTrk n f).trk n = f (s.trk n) := (mget_mput _ _ _ _ _).trans (if_pos rfl)

theorem State.setTrk_keeps (n : Nat) (f : Track → Track) : Keeps [.tim] noAddr noAddr s (s.setTrk n f) := (Keeps.refl _ _ _ s).setTim (by decide) _

theorem State.trk_of_tim {s t : State} (h : t.tim = s.tim) (n : Nat) : t.trk n = s.trk n := by
  rw [State.trk, State.trk, h]

/-- The track of a source once it is lost. -/
def Track.gone (t : Track) : Track := { t with last := none, lost := true, run := 0, bad := 0 }

theorem State.trk_srcLost (n : Nat) : (s.srcLost n).trk n = (s.trk n).gone := by
  rw [State.srcLost, State.trk_of_tim (State.raise_tim ..)]
  exact s.trk_setTrk n Track.gone

theorem State.srcLost_keepsEv (n : Nat) : KeepsEv timB [.tim] noAddr noAddr s (s.srcLost n) := (s.setTrk_keeps n Track.gone).raise _ _ _

/-- A PTP source is gone once SERVO_TIMEOUT seconds have passed since its last report. -/
theorem State.servoTimeout_of_late (hs : s.tim.src = 5) (hl : (s.trk 2).lost = false)
    (hd : s.tim.servoAt + s.timF (timB + 0x4C) 7 4 * uS ≤ s.mono) : s.servoTimeout = s.srcLost 2 := by
  have hgone : s.ptpGone = true := by simp [State.ptpGone, State.past, hd]
  simp [State.servoTimeout, hs, hl, hgone]

/-! ### PPS inputs (R65, R474) -/

/-- An edge on PPS_IN n now, less its cable delay. -/
def State.ppsAt (n : Nat) : Int := (s.mono : Int) - (s.timF (timB + 0x80 + 4 * n) 15 0 * uNs : Nat)

/-- The time base at such an edge less the nearest second boundary. -/
def State.ppsOffset (n : Nat) : Int :=
  let t : Int := (s.now : Int) - (s.timF (timB + 0x80 + 4 * n) 15 0 * uNs : Nat)
  t - (t + (uS / 2 : Nat)).ediv (uS : Nat) * (uS : Nat)

theorem State.ppsInEdge_of_first (n : Nat) (h31 : s.timBit (timB + 0x80 + 4 * n) 31 = true) (h30 : s.timBit (timB + 0x80 + 4 * n) 30 = false)
    (hl : (s.trk n).last = none) (hs : isPps s.tim.src = false) : s.ppsInEdge n false =
      s.setTrk n fun t => { t with last := some (s.ppsAt n), lost := false, edges := ((s.ppsAt n, s.ppsOffset n) :: t.edges).take 3 } := by
  have hacc (m : Int) : (s.trk n).accepts m = true := by rw [Track.accepts, hl]
  unfold State.ppsInEdge
  extract_lets a cable m t e u
  have hu : isPps u.tim.src = false := hs
  rw [if_neg (by simp [a, h31, h30]), if_neg (by simp [hacc]), if_neg (by simp [hu])]
  rfl

theorem State.ppsInEdge_of_disabled (n : Nat) (f : Bool) (h31 : s.timBit (timB + 0x80 + 4 * n) 31 = false) : s.ppsInEdge n f = s := by
  simp [State.ppsInEdge, h31]

theorem State.ppsInputLost_of_late (n : Nat) {p : Int} (hl : (s.trk n).last = some p) (h31 : s.timBit (timB + 0x80 + 4 * n) 31 = true)
    (hs : isPps s.tim.src = false) (hd : p + (2 * uS + uUs : Nat) < s.ppsAt n) : s.ppsInputLost n = s.srcLost n := by
  unfold State.ppsAt at hd
  unfold State.ppsInputLost
  rw [hl]
  simp only [h31, hs, hd, Bool.true_or, Bool.false_and, decide_true, Bool.true_and, if_true, Bool.false_eq_true, if_false]

/-! ### 10 MHz (R54) and the servo (R61) -/

theorem State.tenMhzLost_of_used (h : s.flag (timB + 0x50) 9 = true) :
    s.tenMhzLost = ((s.setTim fun t => { t with tenMhz := false }).setFld (timB + 0x50) 9 9 0).raise timB Ev.timeSrcLost Src.device := by
  unfold State.tenMhzLost
  exact if_pos h

/-- A report of the servo with SOURCE_OK. -/
def State.servoReported (v : Nat) : State :=
  (((s.wr (timB + 0x98) v).setTim fun t => { t with servo := some (bits v 30 0), servoAt := s.mono }).setTrk 2
    fun t => { t with lost := false }).showEst

theorem State.servoWrite_of_ok (v : Nat) (h : v.testBit 31 = true) : s.servoWrite v = s.servoReported v := by
  unfold State.servoWrite State.servoReported
  extract_lets s₁ s₂ s₃
  have h₃ : s₃ = s₂.setTrk 2 fun t => { t with lost := false } := if_pos h
  rw [h₃]
  rfl

end Sys2Proof.Machine
end

section
open Sys2Proof Sys2Proof.Machine

/-- Settles O15: without a source Table 03-4 asks only whether the seconds are valid, and what chains the TQ unit leaves TIM (`SameTim`, `Spares`). -/
theorem timeQualityIsEvaluatedEachSecond : Obligations.TimeQualityIsEvaluatedEachSecond := by
  refine ⟨?boundary, ?again, ?source, ?servo⟩
  case boundary =>
    intro s hsec hp hs hv h30 h29 hq
    have heval : s.secondBoundaryEval = s.boundary := by simp [State.secondBoundaryEval, hsec, hp]
    exact ⟨_, State.next_congr heval, s.boundary_of_free hs hv hq (s.leap_of_none h30 h29)⟩
  case again =>
    intro s hsec
    exact State.next_congr (if_pos hsec)
  case source =>
    intro s h0 hs ht
    obtain ⟨hsrc, htq, htb⟩ := s.srcFreed_ends
    refine ⟨_, State.next_congr (s.srcChange_to_free h0 hs ht), ?_⟩
    by_cases h1 : s.tq = 1
    · have hk := (TimeKept.refl s.srcFreed).tqTransition (new := 2) (est := s.offsetEst) |>.chainTqEvent (old := 1) (cause := 1) (step := some 0)
      rw [if_pos h1, if_pos h1]
      exact ⟨hk.src.trans hsrc, (State.tq_chainTqEvent ..).trans (State.tq_tqTransition _ _ _ (by decide)), hk.tb.trans htb⟩
    · rw [if_neg h1, if_neg h1]
      exact ⟨hsrc, htq, htb⟩
  case servo =>
    intro s hs hl hd
    refine ⟨_, State.next_congr (s.servoTimeout_of_late hs hl hd), ?_, ?_, s.srcLost_keepsEv 2⟩
    · rw [State.trk_srcLost]
      rfl
    · rw [State.trk_srcLost]
      rfl

/-- Settles O16: a source that is not followed has a track of its own, and 10 MHz a bit of TIM_QUALITY. -/
theorem timeSourcesAreFollowed : Obligations.TimeSourcesAreFollowed := by
  refine ⟨?edge, ?disabled, ?lost, ?tenLost, ?tenReturn, ?servo⟩
  case edge =>
    intro s n h31 h30 hl hs
    refine ⟨_, State.next_congr (s.ppsInEdge_of_first n.val h31 h30 hl hs), ?_, ?_, s.setTrk_keeps _ _⟩
    · rw [State.trk_setTrk]
      rfl
    · rw [State.trk_setTrk]
  case disabled =>
    intro s n f h31
    exact State.next_congr (s.ppsInEdge_of_disabled n.val f h31)
  case lost =>
    intro s n p hl h31 hs hd
    refine ⟨_, State.next_congr (s.ppsInputLost_of_late n.val hl h31 hs hd), ?_, ?_, s.srcLost_keepsEv _⟩
    · rw [State.trk_srcLost]
      rfl
    · rw [State.trk_srcLost]
      rfl
  case tenLost =>
    intro s h9
    refine ⟨_, State.next_congr (s.tenMhzLost_of_used h9), ?_, ?_, ?_,
      (((Keeps.refl _ _ _ s).setTim (by decide) _).wr (List.mem_singleton_self _) _).raise _ _ _⟩
    · rw [State.raise_tim, State.setFld_tim, State.setTim_tim]
    · rw [State.raise_flag _ _ _ _ _ _ (offEvent_tim _ (by decide) (by decide)), State.flag_setFld _ _ _ _ _ _ (by decide) (by decide)]
      rfl
    · rw [State.tq_raise, State.tq_setQuality _ _ _ _ (by decide) (by decide), State.tq_setTim]
  case tenReturn =>
    intro s
    refine ⟨_, rfl, rfl, ?_, ((Keeps.refl _ _ _ s).setTim (by decide) fun t => { t with tenMhz := true }).wr (List.mem_singleton_self _) _⟩
    rw [State.tenMhzReturn, State.flag_setFld _ _ _ _ _ _ (by decide) (by decide), if_pos (by decide)]
    cases hb : decide (s.tim.src = 3) || decide (s.tim.src = 4) <;> rfl
  case servo =>
    intro s v h31
    have hkeeps := (((Keeps.refl [.tim] (oneOf [timB + 0x98, timB + 0x54]) noAddr s).wr (a := timB + 0x98) (by simp [oneOf]) v.toNat).setTim (by decide)
      fun t => { t with servo := some (bits v.toNat 30 0), servoAt := s.mono })
    refine ⟨_, State.next_congr (s.servoWrite_of_ok v.toNat h31), ?_, rfl, rfl, ?_, ?_⟩
    · exact (State.rd_wr_ne _ _ _ _ (by decide)).trans ((State.rd_wr s _ _).trans (Nat.mod_eq_of_lt v.isLt))
    · rw [State.servoReported, State.trk_of_tim (State.tim_showEst _), State.trk_setTrk]
    · exact (hkeeps.setTim (by decide) _).wr (by simp [oneOf]) _
end

section
/-! Leap seconds, PPS_OUT, the TIM block reset and TIM_NOW (R53, R64, R65, R473). -/
namespace Sys2Proof.Machine

variable (s : State)

/-! ### Leap seconds (R64) -/

/-- TIM_UTC after LEAP61: OFFSET one more, both flags 0. -/
def leap61 (old : Nat) : Nat := putBits (putBits old 15 0 (bits old 15 0 + 1)) 30 29 0

theorem leap61_offset (old : Nat) : bits (leap61 old) 15 0 = (bits old 15 0 + 1) % 65536 := by
  rw [leap61, bits_putBits_apart _ _ _ _ _ _ (by decide) (.inl (by decide)), bits_putBits _ _ _ _ (by decide)]
  rfl

theorem leap61_flags (old i : Nat) (h : i = 29 ∨ i = 30) : (leap61 old).testBit i = false := by
  rw [leap61, putBits_testBit _ _ _ _ _ (by decide), if_pos (by omega), Nat.zero_testBit]

/-- The state after LEAP61 has been applied, before its TQ unit. -/
def State.leapt : State :=
  ((s.wr (timB + 0x9C) (leap61 (s.rd (timB + 0x9C)))).setPw fun x => { x with calNew := true }).raise timB Ev.leapApplied Src.device

theorem State.leap_of_due (hh : s.timHeld = false) (h30 : s.flag (timB + 0x9C) 30 = true)
    (hd : s.rd (timB + 0xA0) + s.fld (timB + 0xA4) 15 0 * 2 ^ 32 ≤ secOf s.tb) : s.leap = (true, s.leapt) := by
  have hw (a : Nat) : s.timW a = s.rd a := if_neg (by simp [hh])
  have hbit : bit (s.rd (timB + 0x9C)) 30 = true := h30
  unfold State.leap
  extract_lets a at_ old new t u x
  have hold : old = s.rd (timB + 0x9C) := hw _
  have hat : at_ ≤ secOf s.tb := by
    dsimp only [at_]
    rwa [State.timF, hw, hw]
  have hnew : new = leap61 (s.rd (timB + 0x9C)) := by
    dsimp only [new]
    rw [hold, if_pos hbit, leap61]
  have ht : t = s := if_neg (by simp [hh])
  have hu : u = s.wr (timB + 0x9C) (leap61 (s.rd (timB + 0x9C))) := (if_pos hold.symm).trans (by rw [ht, hnew])
  rw [if_pos (by simp [hold, hbit, hat]), State.leapt, ← hu]
  rfl

theorem State.rd_leapt : s.leapt.rd (timB + 0x9C) = leap61 (s.rd (timB + 0x9C)) % 2 ^ 32 :=
  (State.raise_rd _ _ _ _ _ (offEvent_tim _ (by decide) (by decide))).trans
    ((State.setPw_rd _ _ _).trans (State.rd_wr _ _ _))

theorem State.tb_leapt : s.leapt.tb = s.tb := (State.raise_tb ..).trans ((State.setPw_tb ..).trans (State.wr_tb ..))

theorem State.rd_chainTqEvent (old cause : Nat) (step : Option Int) (k : Nat) (h : k < 0x100000) :
    (s.chainTqEvent old cause step).rd (timB + k) = s.rd (timB + k) :=
  (Spares.tqEvent (.refl s)).rd _ (InTim.kept _ (by simp only [InTim, timB]; omega))

/-- A leap that is due in a second after its flags were written. -/
theorem State.leapApply_of_due (hh : s.timHeld = false) (h30 : s.flag (timB + 0x9C) 30 = true)
    (hd : s.rd (timB + 0xA0) + s.fld (timB + 0xA4) 15 0 * 2 ^ 32 ≤ secOf s.tb) (hf : s.tim.leapFrom < secOf s.tb) :
    s.leapApply = s.leapt.chainTqEvent s.leapt.tq 4 (some 0) := by
  simp [State.leapApply, s.leap_of_due hh h30 hd, hf]

/-! ### PPS_OUT (R65) -/

theorem State.ppsOutRise_of_due (n : Nat) (h31 : s.timBit (timB + 0x88 + 4 * n) 31 = true) (h30 : s.timBit (timB + 0x88 + 4 * n) 30 = false)
    (hr : s.riseNow n = true) (hl : s.riseSec n + 1 ≠ mget (fun _ => 0) s.tim.lastRise n) : s.ppsOutRise n =
      ((s.setTim fun t => { t with lastRise := mput (fun _ => 0) t.lastRise n (s.riseSec n + 1) }).setTim fun t => { t with
        pulses := mput (fun _ => none) t.pulses n (some ⟨s.mono + s.timF (timB + 0x88 + 4 * n) 18 0 * uUs⟩) }).emit (.ppsOut n true) := by
  unfold State.ppsOutRise
  extract_lets a k u
  have hu : u.timBit a 30 = false := h30
  rw [if_neg (by simp [a, k, h31, hr, hl]), if_neg (by simp [hu])]
  rfl

theorem State.ppsOutFall_of_due (n : Nat) {p : PpsPulse} (hp : mget (fun _ => none) s.tim.pulses n = some p) (hf : p.falls ≤ s.mono) :
    s.ppsOutFall n = (s.setTim fun t => { t with pulses := mput (fun _ => none) t.pulses n none }).emit (.ppsOut n false) := by
  simp [State.ppsOutFall, hp, State.past, hf]

/-! ### TIM_NOW (R42, R53) -/

/-- The time base is sampled: W0 and W1 latched for the requester, W2 answered. -/
def State.nowSampled (q : Req) : State :=
  ((s.setLat q (timB + 0x40) (tsWord s.now 0)).setLat q (timB + 0x44) (tsWord s.now 1)).emit
    (.readData q (timB + 0x48) (BitVec.ofNat 32 (tsWord s.now 2)))

theorem answer_pair (q : Req) (a v : Nat) (t : State) : answer q a (v, t) = t.emit (.readData q a (BitVec.ofNat 32 v)) := rfl

theorem execTimeNowRead_samples (q : Req) : exec (.timeNowRead q) s = .next (s.nowSampled q) := by
  have h : s.timeNowRead q = (tsWord s.now 2, (s.setLat q (timB + 0x40) (tsWord s.now 0)).setLat q (timB + 0x44) (tsWord s.now 1)) := rfl
  exact State.next_congr ((congrArg (answer q (timB + 0x48)) h).trans (answer_pair _ _ _ _))

theorem State.nowSampled_keeps (q : Req) : Keeps [.latch, .out] noAddr noAddr s (s.nowSampled q) :=
  (((Keeps.refl _ _ _ s).setLat (by decide) _ _ _).setLat (by decide) _ _ _).emit (by decide) _

theorem State.lat_emit (o : Out) (q : Req) (b : Nat) : (s.emit o).lat q b = s.lat q b := rfl

theorem State.nowSampled_lat (q : Req) :
    (s.nowSampled q).lat q (timB + 0x40) = tsWord s.now 0 ∧ (s.nowSampled q).lat q (timB + 0x44) = tsWord s.now 1 := by
  rw [State.nowSampled, State.lat_emit, State.lat_emit]
  refine ⟨?_, ?_⟩
  · rw [State.lat_setLat_if, if_neg (by decide), State.lat_setLat_if, if_pos rfl, tsWord_mod _ _ (by decide)]
  · rw [State.lat_setLat_if, if_pos rfl, tsWord_mod _ _ (by decide)]

/-! ### The TIM block reset (R473) -/

theorem State.rd_timReset (a : Nat) : s.timReset.rd a = if timCleared a then rstNat a % 2 ^ 32 else s.rd a := by
  rw [State.rd, State.timReset_regs]
  split
  · next h =>
    have hk : a ∉ (mclear timCleared s.regs).map (·.1) := fun hm => by
      obtain ⟨e, he, rfl⟩ := List.mem_map.1 hm
      have he := (List.mem_filter.1 he).2
      simp [h] at he
    rw [mget_of_not_mem_keys _ _ _ hk]
    exact BitVec.toNat_ofNat _ _
  · next h => rw [mget_mclear_of_not _ _ _ _ (Bool.eq_false_iff.2 h), State.rd]

theorem State.timBlockReset_rd (k : Nat) (h : k < 0x14 ∨ 0x30 < k) (hk : k < 0x100000) (c src : Nat) :
    (s.timReset.raise timB c src).rd (timB + k) = if timCleared (timB + k) then rstNat (timB + k) % 2 ^ 32 else s.rd (timB + k) :=
  (State.raise_rd _ _ _ _ _ (offEvent_tim k h hk)).trans (s.rd_timReset _)

theorem execTimBlockReset_of_free (hh : s.pw.hold.any = false) :
    exec .timBlockReset s = .next (s.timReset.raise timB Ev.blockResetDone (blkSrc timB)) :=
  State.next_congr (if_neg (by simp [hh]))

end Sys2Proof.Machine
end

section
open Sys2Proof Sys2Proof.Machine

/-- Settles O17: a leap writes TIM_UTC and nothing that chains its TQ unit touches TIM; the reset clears listed registers alone. -/
theorem leapAndPulsesFollowTheSeconds : Obligations.LeapAndPulsesFollowTheSeconds := by
  refine ⟨?leap, ?noLeap, ?rise, ?fall, ?reset, ?now⟩
  case leap =>
    intro s hh h30 hd hf
    have hrd : (s.leapt.chainTqEvent s.leapt.tq 4 (some 0)).rd (timB + 0x9C) = leap61 (s.rd (timB + 0x9C)) % 2 ^ 32 :=
      (State.rd_chainTqEvent _ _ _ _ _ (by decide)).trans s.rd_leapt
    have hflag (i : Nat) (hi : i = 29 ∨ i = 30) : (s.leapt.chainTqEvent s.leapt.tq 4 (some 0)).flag (timB + 0x9C) i = false := by
      rw [State.flag, hrd, Nat.testBit_mod_two_pow, leap61_flags _ _ hi, Bool.and_false]
    refine ⟨_, State.next_congr (s.leapApply_of_due hh h30 hd hf), ?_, hflag 30 (.inr rfl), hflag 29 (.inl rfl), ?_⟩
    · rw [State.fld, hrd, bits_mod _ _ _ _ (by decide), leap61_offset, ← State.fld]
    · exact ((TimeKept.refl s.leapt).chainTqEvent).tb.trans s.tb_leapt
  case noLeap =>
    intro s h30 h29
    refine State.next_congr ?_
    simp [State.leapApply, s.leap_of_none h30 h29]
  case rise =>
    intro s n h31 h30 hr hl
    refine ⟨_, State.next_congr (s.ppsOutRise_of_due n.val h31 h30 hr hl), ?_, ?_,
      (((Keeps.refl _ _ _ s).setTim (by decide) _).setTim (by decide) _).emit (by decide) _⟩
    · rw [State.emit_out, State.setTim_out, State.setTim_out]
    · rw [State.emit_tim, State.setTim_tim, mget_mput, if_pos rfl]
  case fall =>
    intro s n p hp hf
    refine ⟨_, State.next_congr (s.ppsOutFall_of_due n.val hp hf), ?_, ?_,
      ((Keeps.refl _ _ _ s).setTim (by decide) _).emit (by decide) _⟩
    · rw [State.emit_out, State.setTim_out]
    · rw [State.emit_tim, State.setTim_tim, mget_mput, if_pos rfl]
  case reset =>
    intro s hh
    have hrd (k : Nat) (h : k < 0x14 ∨ 0x30 < k) (hk : k < 0x100000) := s.timBlockReset_rd k h hk Ev.blockResetDone (blkSrc timB)
    have h50 := (hrd 0x50 (by decide) (by decide)).trans (if_neg (by decide))
    refine ⟨_, execTimBlockReset_of_free s hh, State.raise_tb .., State.raise_mono .., ?_, State.tq_of_quality h50,
      congrArg (Nat.testBit · 8) h50, ?_, ?_⟩
    · rw [State.raise_tim]
      rfl
    · exact (hrd 0x78 (by decide) (by decide)).trans ((if_pos (by decide)).trans (Nat.mod_eq_of_lt (by decide)))
    · exact congrArg (bits · 2 0) ((hrd 8 (by decide) (by decide)).trans (if_neg (by decide)))
  case now =>
    intro s q
    obtain ⟨h0, h1⟩ := s.nowSampled_lat q
    refine ⟨s.nowSampled q, execTimeNowRead_samples s q, ?_, h0, h1, s.nowSampled_keeps q⟩
    rw [State.nowSampled, State.emit_out, State.setLat_out, State.setLat_out]
end

section
/-! Timestamp units (R67, R72) and the PTM dialogues of the host ports (R74). -/
namespace Sys2Proof.Machine

variable (s : State)

/-! ### TSU: lane calibration (R67) -/

theorem State.tsuGet_setTsu (p : Nat) (f : TsuSt → TsuSt) : (s.setTsu p f).tsuGet p = f (s.tsuGet p) := (mget_mput _ _ _ _ _).trans (if_pos rfl)

/-- Bits 3 to 1 of a word after they are set together. -/
theorem State.flag_setLow (a v i : Nat) (h : 1 ≤ i ∧ i ≤ 3) : (s.setFld a 3 1 v).flag a i = v.testBit (i - 1) :=
  (State.flag_setFld _ _ _ _ _ _ (by decide) (by omega)).trans (if_pos h)

theorem State.tsuCalStart_of_up (p : Nat) (hu : s.linkIsUp p = true) (hr : s.flag (tsuB p + 0x50) 2 = false) : s.tsuCalStart p = s.calStart p := by
  simp [State.tsuCalStart, hu, hr]

theorem State.setTsu_flag (p : Nat) (f : TsuSt → TsuSt) (a i : Nat) : (s.setTsu p f).flag a i = s.flag a i := rfl

theorem State.setTsu_out (p : Nat) (f : TsuSt → TsuSt) : (s.setTsu p f).out = s.out := rfl

theorem State.calStart_ends (p : Nat) : (s.calStart p).flag (tsuB p + 0x50) 2 = true ∧ (s.calStart p).flag (tsuB p + 0x50) 1 = false ∧
    ((s.calStart p).tsuGet p).calAt = s.mono ∧ Keeps [.tsu] (oneOf [tsuB p + 0x50]) noAddr s (s.calStart p) := by
  refine ⟨(State.setTsu_flag _ _ _ _ _).trans (s.flag_setLow _ 2 2 (by decide)),
    (State.setTsu_flag _ _ _ _ _).trans (s.flag_setLow _ 2 1 (by decide)), ?_, ?_⟩
  · rw [State.calStart, State.tsuGet_setTsu]
  · exact ((Keeps.refl _ _ _ s).wr (List.mem_singleton_self _) _).setTsu (by decide) _ _

/-- The calibration may end now. -/
def State.calEnds (p : Nat) : Prop :=
  s.flag (tsuB p + 0x50) 2 = true ∧ (s.tsuGet p).calAt + 800 * uUs ≤ s.mono ∧ s.mono ≤ (s.tsuGet p).calAt + 2000 * uUs

/-- A calibration that measured its correction. -/
def State.calibrated (p d : Nat) : State := (s.setFld (tsuB p + 0x50) 3 1 1).wr (tsuB p + 0x54) d

theorem State.tsuCalDone_of_good (p d : Nat) (h : s.calEnds p) : ∃ hi v, s.tsuCalDone p true d = s.calibrated p d ∨
    s.tsuCalDone p true d = (s.calibrated p d).setFld (prfB + 0x104 + 0x10 * p) hi hi v := by
  obtain ⟨hr, hlo, hhi⟩ := h
  refine ⟨31, 1, ?_⟩
  unfold State.tsuCalDone
  rw [if_pos (by simp [hr, State.past, hlo, hhi]), if_pos rfl]
  exact (ite_eq_or_eq _ _ _).symm

theorem State.tsuCalDone_of_bad (p d : Nat) (h : s.calEnds p) :
    s.tsuCalDone p false d = (s.setFld (tsuB p + 0x50) 3 1 4).raise (tsuB p) Ev.tsuCalFail (Src.port p) := by
  obtain ⟨hr, hlo, hhi⟩ := h
  unfold State.tsuCalDone
  rw [if_pos (by simp [hr, State.past, hlo, hhi])]
  exact if_neg Bool.false_ne_true

theorem State.calibrated_ends (p d : Nat) (hd : d < 2 ^ 32) : (s.calibrated p d).flag (tsuB p + 0x50) 1 = true ∧
    (s.calibrated p d).flag (tsuB p + 0x50) 2 = false ∧ (s.calibrated p d).rd (tsuB p + 0x54) = d := by
  have hne : tsuB p + 0x50 ≠ tsuB p + 0x54 := by omega
  have hrd : (s.calibrated p d).rd (tsuB p + 0x50) = (s.setFld (tsuB p + 0x50) 3 1 1).rd (tsuB p + 0x50) := State.rd_wr_ne _ _ _ _ hne
  refine ⟨?_, ?_, (State.rd_wr _ _ _).trans (Nat.mod_eq_of_lt hd)⟩
  · exact (congrArg (Nat.testBit · 1) hrd).trans (s.flag_setLow _ 1 1 (by decide))
  · exact (congrArg (Nat.testBit · 2) hrd).trans (s.flag_setLow _ 1 2 (by decide))

theorem offEvent_tsu (p : Fin 16) : offEvent (tsuB p.val) (tsuB p.val + 0x50) := by
  simp only [offEvent, inEvt, inCapture, tsuB]
  omega

/-! ### TSU: the TXTS FIFO (R72) -/

/-- The head of the FIFO of port p is popped for requester q: its TS96 latched, its tag answered. -/
def State.popped (q : Req) (p : Nat) (e : TxtsEntry) (r : List TxtsEntry) : State :=
  (((((s.setTsu p fun t => { t with txts := r }).setLat q (tsuB p + 0x60) (tsWord e.ts 0)).setLat q (tsuB p + 0x64) (tsWord e.ts 1)).setLat q
    (tsuB p + 0x68) (tsWord e.ts 2))).emit (.readData q (tsuB p + 0x6C)
      (BitVec.ofNat 32 (2 ^ 31 + e.msgType % 16 * 2 ^ 24 + e.domain % 256 * 2 ^ 16 + e.seqId % 65536)))

theorem txtsTag_eq (e : TxtsEntry) : pk [(1, 1), (3, 0), (4, e.msgType), (8, e.domain), (16, e.seqId)] =
    2 ^ 31 + e.msgType % 16 * 2 ^ 24 + e.domain % 256 * 2 ^ 16 + e.seqId % 65536 := by
  simp only [pk, List.foldl]
  omega

theorem execTxtsPop_of_cons (q : Req) (p : Fin 16) {e : TxtsEntry} {r : List TxtsEntry} (h : (s.tsuGet p.val).txts = e :: r) :
    exec (.txtsPop q p) s = .next (s.popped q p.val e r) := by
  refine State.next_congr ?_
  rw [State.popped, ← txtsTag_eq, ← answer_pair]
  unfold State.txtsPop
  rw [h]

theorem State.popped_out (q : Req) (p : Nat) (e : TxtsEntry) (r : List TxtsEntry) : (s.popped q p e r).out = .readData q (tsuB p + 0x6C)
    (BitVec.ofNat 32 (2 ^ 31 + e.msgType % 16 * 2 ^ 24 + e.domain % 256 * 2 ^ 16 + e.seqId % 65536)) :: s.out := by
  rw [State.popped, State.emit_out, State.setLat_out, State.setLat_out, State.setLat_out, State.setTsu_out]

theorem State.popped_txts (q : Req) (p : Nat) (e : TxtsEntry) (r : List TxtsEntry) : ((s.popped q p e r).tsuGet p).txts = r := by
  have htsu : (s.popped q p e r).tsu = (s.setTsu p fun t => { t with txts := r }).tsu := by
    rw [State.popped, State.emit_tsu, State.setLat_tsu, State.setLat_tsu, State.setLat_tsu]
  rw [State.tsuGet, htsu, ← State.tsuGet, State.tsuGet_setTsu]

theorem State.popped_lat (q : Req) (p : Nat) (e : TxtsEntry) (r : List TxtsEntry) : (s.popped q p e r).lat q (tsuB p + 0x60) = tsWord e.ts 0 := by
  rw [State.popped, State.lat_emit, State.lat_setLat_if, if_neg (by omega), State.lat_setLat_if, if_neg (by omega), State.lat_setLat_if, if_pos rfl,
    tsWord_mod _ _ (by decide)]

theorem State.popped_keeps (q : Req) (p : Nat) (e : TxtsEntry) (r : List TxtsEntry) :
    Keeps [.tsu, .latch, .out] noAddr noAddr s (s.popped q p e r) :=
  (((((Keeps.refl _ _ _ s).setTsu (by decide) _ _).setLat (by decide) _ _ _).setLat (by decide) _ _ _).setLat (by decide) _ _ _).emit (by decide) _

/-! ### PTM dialogues (R74) -/

theorem State.ptmGet_setPtm (h : Nat) (f : PtmReq → PtmReq) : (s.setPtm h f).ptmGet h = f (s.ptmGet h) := (mget_mput _ _ _ _ _).trans (if_pos rfl)

theorem State.ptmGet_of_tim {s t : State} (e : t.tim = s.tim) (h : Nat) : t.ptmGet h = s.ptmGet h := by
  rw [State.ptmGet, State.ptmGet, e]

theorem offEvent_ptm (h : Fin 4) : offEvent timB (ptmB h.val + 4) := by
  simp only [offEvent, inEvt, inCapture, ptmB, timB]
  omega

theorem State.ptmDialogueStart_of_due (h : Nat) (he : s.flag (ptmB h) 31 = true) (hf : (s.fnGet (256 + h)).ptmEnable = true)
    (ho : (s.ptmGet h).opened = none) (hl : (s.ptmGet h).lastStart = none) :
    s.ptmDialogueStart h = s.setPtm h fun r => { r with opened := some s.mono, lastStart := some s.mono } := by
  simp [State.ptmDialogueStart, he, hf, ho, hl]

/-- A capture is off by at most its tolerance, away from the ends of time. -/
theorem captureAt_near (t w k : Nat) (hw : 4096 ≤ w) (hlo : w ≤ t) (hhi : t + w < uWrap) :
    t ≤ captureAt t w k + w ∧ captureAt t w k ≤ t + w := by
  have herr : Config.captureErr k % (2 * w + 1) < 2 * w + 1 := Nat.mod_lt _ (by omega)
  unfold captureAt
  extract_lets x g
  have hg : x - 4096 < g ∧ g ≤ x := by
    have h0 := Int.emod_nonneg x (show (4096 : Int) ≠ 0 by decide)
    have h1 := Int.emod_lt_of_pos x (show (0 : Int) < 4096 by decide)
    have hx : x.emod 4096 = x % 4096 := rfl
    omega
  have hx : (t : Int) - w ≤ x ∧ x ≤ t + w := by
    dsimp only [x]
    omega
  clear_value x g
  have hr : (t : Int) - w ≤ (if g < (t : Int) - w then g + 4096 else g) ∧ (if g < (t : Int) - w then g + 4096 else g) ≤ t + w := by
    split <;> omega
  generalize (if g < (t : Int) - w then g + 4096 else g) = c at hr ⊢
  have hc : (moveBy 0 c : Int) = c := by
    rw [moveBy_cast]
    generalize uWrap = u at *
    rw [Int.emod_eq_of_lt (by omega) (by omega)]
    omega
  exact ⟨Int.ofNat_le.1 (by push_cast; omega), Int.ofNat_le.1 (by push_cast; omega)⟩

/-- A dialogue that a response ends in time: the set it publishes, VALID and COUNT. -/
def State.ptmPublished (h host link : Nat) : State :=
  (((s.draw.2.setPtm h fun r => { r with opened := none, fails := 0, set := ⟨captureAt s.tb (8 * uNs) s.free, host, link⟩ }).setFld
    (ptmB h + 4) 31 31 1).setFld (ptmB h + 4) 15 0 (s.fld (ptmB h + 4) 15 0 + 1))

theorem State.ptmResponse_of_open (h host link : Nat) {u : Nat} (ho : (s.ptmGet h).opened = some u) (hu : s.mono ≤ u + 100 * uUs) :
    s.ptmResponse h host link = s.ptmPublished h host link := by
  unfold State.ptmResponse
  rw [ho]
  exact if_pos hu

theorem State.ptmPublished_ptm (h host link : Nat) : (s.ptmPublished h host link).ptmGet h =
    { s.ptmGet h with opened := none, fails := 0, set := ⟨captureAt s.tb (8 * uNs) s.free, host, link⟩ } := by
  rw [State.ptmPublished, State.ptmGet_of_tim (State.setFld_tim ..), State.ptmGet_of_tim (State.setFld_tim ..), State.ptmGet_setPtm]
  rfl

theorem State.ptmPublished_stat (h host link : Nat) : (s.ptmPublished h host link).flag (ptmB h + 4) 31 = true ∧
    (s.ptmPublished h host link).fld (ptmB h + 4) 15 0 = (s.fld (ptmB h + 4) 15 0 + 1) % 65536 := by
  refine ⟨?_, State.fld_setFld _ _ _ _ _ (by decide) (by decide)⟩
  rw [State.ptmPublished, State.flag_setFld _ _ _ _ _ _ (by decide) (by decide), if_neg (by decide),
    State.flag_setFld _ _ _ _ _ _ (by decide) (by decide)]
  rfl

theorem State.ptmPublished_keeps (h host link : Nat) :
    Keeps [.tim, .free] (oneOf [ptmB h + 4]) noAddr s (s.ptmPublished h host link) := by
  have hin : oneOf [ptmB h + 4] (ptmB h + 4) := List.mem_singleton_self _
  exact ((((Keeps.refl _ _ _ s).draw (by decide)).setTim (by decide) _).wr hin _).wr hin _

/-- A third dialogue without a response. -/
def State.ptmFailed (h : Nat) : State :=
  ((s.setPtm h fun r => { r with opened := none, fails := 3 }).setFld (ptmB h + 4) 31 30 1).raise timB Ev.ptmFail (Src.hostPort h)

theorem State.ptmTimeout_of_third (h : Nat) {u : Nat} (ho : (s.ptmGet h).opened = some u) (hu : u + 100 * uUs < s.mono)
    (hf : (s.ptmGet h).fails = 2) : s.ptmTimeout h = s.ptmFailed h := by
  unfold State.ptmTimeout
  rw [ho]
  simp only [hu, hf, if_true]
  rfl

/-- The published set latched for the requester. -/
def State.ptmLatched (q : Req) (h : Nat) : State :=
  (((((s.setLat q (ptmB h + 8) (tsWord (s.ptmGet h).set.dev 0)).setLat q (ptmB h + 12) (tsWord (s.ptmGet h).set.dev 1)).setLat q
    (ptmB h + 16) (tsWord (s.ptmGet h).set.dev 2)).setLat q (ptmB h + 20) (bits (s.ptmGet h).set.host 31 0)).setLat q
    (ptmB h + 24) (bits (s.ptmGet h).set.host 63 32)).setLat q (ptmB h + 28) (s.ptmGet h).set.link

theorem State.ptmLatched_out (q : Req) (h : Nat) : (s.ptmLatched q h).out = s.out := by
  rw [State.ptmLatched, State.setLat_out, State.setLat_out, State.setLat_out, State.setLat_out, State.setLat_out, State.setLat_out]

theorem State.ptmLatched_rd (q : Req) (h a : Nat) : (s.ptmLatched q h).rd a = s.rd a := by
  rw [State.ptmLatched, State.setLat_rd, State.setLat_rd, State.setLat_rd, State.setLat_rd, State.setLat_rd, State.setLat_rd]

theorem execPtmStatRead_answers (q : Req) (h : Fin 4) : exec (.ptmStatRead q h) s =
    .next ((s.ptmLatched q h.val).emit (.readData q (ptmB h.val + 4) (BitVec.ofNat 32 (s.rd (ptmB h.val + 4))))) := by
  have hr : s.ptmStatRead q h.val = ((s.ptmLatched q h.val).rd (ptmB h.val + 4), s.ptmLatched q h.val) := rfl
  rw [State.ptmLatched_rd] at hr
  exact State.next_congr ((congrArg (answer q (ptmB h.val + 4)) hr).trans (answer_pair _ _ _ _))

theorem State.ptmLatched_lat (q : Req) (h : Nat) : (s.ptmLatched q h).lat q (ptmB h + 8) = tsWord (s.ptmGet h).set.dev 0 := by
  have hne (k : Nat) (hk : k ≠ 8) : ptmB h + 8 ≠ ptmB h + k := by omega
  unfold State.ptmLatched
  rw [State.lat_setLat_if, if_neg (hne _ (by decide)), State.lat_setLat_if, if_neg (hne _ (by decide)), State.lat_setLat_if,
    if_neg (hne _ (by decide)), State.lat_setLat_if, if_neg (hne _ (by decide)), State.lat_setLat_if, if_neg (hne _ (by decide)),
    State.lat_setLat_if, if_pos rfl, tsWord_mod _ _ (by decide)]

theorem State.ptmLatched_keeps (q : Req) (h : Nat) : Keeps [.latch, .out] noAddr noAddr s (s.ptmLatched q h) :=
  ((((((Keeps.refl _ _ _ s).setLat (by decide) _ _ _).setLat (by decide) _ _ _).setLat (by decide) _ _ _).setLat (by decide) _ _ _).setLat
    (by decide) _ _ _).setLat (by decide) _ _ _

end Sys2Proof.Machine
end

section
open Sys2Proof Sys2Proof.Machine

/-- Settles O18: each command writes one status word and its own part; a capture lies within its tolerance of the time base (`captureAt_near`). -/
theorem timestampUnitsCalibrateAndPop : Obligations.TimestampUnitsCalibrateAndPop := by
  refine ⟨?start, ?done, ?pop, ?dialogue, ?response, ?timeout, ?read⟩
  case start =>
    intro s p hu hr
    exact ⟨_, State.next_congr (s.tsuCalStart_of_up p.val hu hr), s.calStart_ends p.val⟩
  case done =>
    intro s p d hr hlo hhi
    refine ⟨?_, ?_⟩
    · have hends := s.calibrated_ends p.val d.toNat d.isLt
      obtain ⟨hi, v, h | h⟩ := s.tsuCalDone_of_good p.val d.toNat ⟨hr, hlo, hhi⟩
      · exact ⟨_, State.next_congr h, hends⟩
      · have hne (k : Nat) (hk : k < 0x1000) : tsuB p.val + k ≠ prfB + 0x104 + 0x10 * p.val := by
          simp only [tsuB, prfB]
          omega
        refine ⟨_, State.next_congr h, ?_⟩
        rw [State.flag_setFld_ne _ _ _ _ _ _ _ (hne _ (by decide)), State.flag_setFld_ne _ _ _ _ _ _ _ (hne _ (by decide)),
          State.rd_setFld_ne _ _ _ _ _ _ (hne _ (by decide))]
        exact hends
    · refine ⟨_, State.next_congr (s.tsuCalDone_of_bad p.val d.toNat ⟨hr, hlo, hhi⟩), ?_, ?_,
        ((Keeps.refl _ _ _ s).wr (List.mem_singleton_self _) _).raise _ _ _⟩
      · exact (State.raise_flag _ _ _ _ _ _ (offEvent_tsu p)).trans (s.flag_setLow _ 4 3 (by decide))
      · exact (State.raise_flag _ _ _ _ _ _ (offEvent_tsu p)).trans (s.flag_setLow _ 4 1 (by decide))
  case pop =>
    intro s q p e r h
    exact ⟨_, execTxtsPop_of_cons s q p h, s.popped_txts q p.val e r, s.popped_lat q p.val e r,
      s.popped_out q p.val e r, s.popped_keeps q p.val e r⟩
  case dialogue =>
    intro s h he hf ho hl
    refine ⟨_, State.next_congr (s.ptmDialogueStart_of_due h.val he hf ho hl), ?_, (Keeps.refl _ _ _ s).setTim (by decide) _⟩
    rw [State.ptmGet_setPtm]
  case response =>
    intro s h n l u ho hu
    have hp := s.ptmPublished_ptm h.val n.toNat l.toNat
    obtain ⟨hvalid, hcount⟩ := s.ptmPublished_stat h.val n.toNat l.toNat
    refine ⟨_, State.next_congr (s.ptmResponse_of_open h.val n.toNat l.toNat ho hu), ?_, ?_, ?_, fun hlo hhi => ?_, hvalid, hcount,
      s.ptmPublished_keeps h.val n.toNat l.toNat⟩
    · rw [hp]
    · rw [hp]
    · rw [hp]
    · rw [hp]
      exact captureAt_near s.tb (8 * uNs) s.free (by decide) hlo hhi
  case timeout =>
    intro s h u ho hu hf
    refine ⟨_, State.next_congr (s.ptmTimeout_of_third h.val ho hu hf), ?_, ?_,
      (((Keeps.refl _ _ _ s).setTim (by decide) _).wr (List.mem_singleton_self _) _).raise _ _ _⟩
    · rw [State.ptmFailed, State.ptmGet_of_tim (State.raise_tim ..), State.ptmGet_of_tim (State.setFld_tim ..), State.ptmGet_setPtm]
    · refine (State.raise_flag _ _ _ _ _ _ (offEvent_ptm h)).trans ?_
      rw [State.flag_setFld _ _ _ _ _ _ (by decide) (by decide)]
      rfl
  case read =>
    intro s q h
    refine ⟨_, execPtmStatRead_answers s q h, ?_, (State.lat_emit ..).trans (s.ptmLatched_lat q h.val),
      (s.ptmLatched_keeps q h.val).emit (by decide) _⟩
    rw [State.emit_out, State.ptmLatched_out]
end

section
/-! SUPPORT. An event that is raised only adds to what leaves the device (R433), and leaves the latches of causes raised before it. -/
namespace Sys2Proof.Machine

/-- From `s₀` to `s` what has left the device is only added to. -/
def OutGrows (s₀ s : State) : Prop := s₀.out <:+ s.out

namespace OutGrows
variable {s₀ s t : State}

theorem refl (s : State) : OutGrows s s := List.suffix_rfl

theorem beside {regs cnts pregs log} (h : OutGrows s₀ s) : OutGrows s₀ { s with regs := regs, cnts := cnts, pregs := pregs, log := log } := h

theorem wr (h : OutGrows s₀ s) {a v : Nat} : OutGrows s₀ (s.wr a v) := h.beside

theorem setFld (h : OutGrows s₀ s) {a hi lo v : Nat} : OutGrows s₀ (s.setFld a hi lo v) := h.wr

theorem bump (h : OutGrows s₀ s) {a n : Nat} : OutGrows s₀ (s.bump a n) := h.beside

theorem pwr (h : OutGrows s₀ s) {f o v : Nat} : OutGrows s₀ (s.pwr f o v) := h.beside

theorem emit (h : OutGrows s₀ s) {o : Out} : OutGrows s₀ (s.emit o) := h.trans (List.suffix_cons _ _)

theorem ite {c : Prop} {_ : Decidable c} (h : OutGrows s₀ s) (k : OutGrows s₀ t) : OutGrows s₀ (if c then s else t) := by
  split
  · exact h
  · exact k

theorem pair {α : Type} {x : α} (h : OutGrows s₀ s) : OutGrows s₀ (x, s).2 := h

theorem ite_snd {c : Prop} {_ : Decidable c} {α : Type} {x y : α × State} (hx : OutGrows s₀ x.2) (hy : OutGrows s₀ y.2) :
    OutGrows s₀ (if c then x else y).2 := by
  split
  · exact hx
  · exact hy

theorem capture (h : OutGrows s₀ s) {base c src sev : Nat} {y : Synd} : OutGrows s₀ (s.capture base c src sev y).2 :=
  ((h.setFld.setFld.ite h.setFld).wr).pair.ite_snd (h.wr.wr.wr.wr.wr.wr.wr.wr).pair

theorem logEvent (h : OutGrows s₀ s) {base c src sev : Nat} {first : Bool} {y : Synd} : OutGrows s₀ (s.logEvent base c src sev first y).2 :=
  (h.setFld.beside.setFld.bump.pair).ite_snd h.setFld.wr.pair

theorem latchCause (h : OutGrows s₀ s) {c src : Nat} : OutGrows s₀ (s.latchCause c src) := (h.setFld.setFld.ite h.setFld.setFld.wr).wr

theorem evtVector (h : OutGrows s₀ s) {f v : Nat} : OutGrows s₀ (s.evtVector f v) := (h.emit.ite h.pwr).ite h.bump

theorem occur (h : OutGrows s₀ s) {base c src : Nat} {y : Synd} : OutGrows s₀ (s.occur base c src y).2 := by
  unfold State.occur
  split
  · exact h
  · extract_lets s₁ r route l s₂ s₃ s₄ mf s₅ s₆ s₇
    have hr : OutGrows s₀ r.2 := h.bump.capture.ite_snd h.bump
    have hl : OutGrows s₀ l.2 := hr.logEvent.ite_snd hr
    clear_value r l
    have h₃ : OutGrows s₀ s₃ := hl.latchCause.setFld.ite hl.latchCause
    clear_value s₃
    have h₄ : OutGrows s₀ s₄ := h₃.setFld.ite h₃
    clear_value s₄ mf
    cases mf with
    | none => exact h₄.evtVector.ite h₄
    | some x =>
      have h₅ : OutGrows s₀ s₅ := h₄.pwr.pwr
      clear_value s₅
      exact (h₅.evtVector.ite h₅).evtVector

theorem raiseAt (h : OutGrows s₀ s) {base c src : Nat} {y : Synd} : OutGrows s₀ (s.raiseAt base c src y) := h.occur.occur.ite h.occur

end OutGrows

/-- After an occurrence its cause is latched, and so is a cause that was latched before and lies outside the captures. -/
theorem Raised.raiseAt {c d : Nat} (s : State) (base src : Nat) (y : Synd) (h : sevOf c ≠ none)
    (hd : d = c ∨ Raised d s ∧ ¬ inCapture base (causeA d)) : Raised d (s.raiseAt base c src y) := by
  have ho : Raised d (s.occur base c src y).2 := Raised.occur s base src y h hd
  have hcap : ¬ inCapture evtB (causeA d) := by
    simp only [inCapture, causeA, evtB]
    omega
  unfold State.raiseAt
  extract_lets r
  change Raised d r.2 at ho
  clear_value r
  exact (Raised.occur r.2 evtB 0 {} (by decide) (.inr ⟨ho, hcap⟩)).ite ho

end Sys2Proof.Machine
end

section
/-! SUPPORT. The output path of the Tail (R89, R96, R97): moving units through the hold, the ring and the sinks leaves the chain, the
checkpoints, the words and counters of TAIL and STR, and what has left the device. -/
namespace Sys2Proof.Machine

/-- A word of TAIL or STR behind the block header and its captures, beside TAIL_RING_FILL. -/
abbrev PortWord (a : Nat) : Prop := tailB ≤ a ∧ a < strB + 0x100000 ∧ 0x30 < a % 0x100000 ∧ a ≠ tailB + 0x5C

/-- A counter of TAIL or STR. -/
abbrev PortCnt (a : Nat) : Prop := tailB ≤ a ∧ a < strB + 0x100000

/-- The Tail but for the units on their way out. -/
def TailSt.offPath (t : TailSt) : TailSt :=
  { t with hold := [], ring := [], ringAt := 0, rd := 0, skip := 0, highRaised := false, drainQ := [] }

/-- Stream Link but for the units that wait for a flit. -/
def StrSt.offPath (l : StrSt) : StrSt := { l with waiting := [] }

/-- From `s₀` to `s` units moved on the output path; of Stream Link what `f` shows stays. -/
structure PathMoves (f : StrSt → StrSt) (s₀ s : State) : Prop where
  rd : ∀ a, PortWord a → s.rd a = s₀.rd a
  cnt : ∀ a, PortCnt a → s.cnt a = s₀.cnt a
  sl : f s.sl = f s₀.sl
  tl : s.tl.offPath = s₀.tl.offPath
  out : s₀.out <:+ s.out

/-- The blocks whose events the output path raises: TAIL, and the memory it spills to. -/
def pathBases : List Nat := [tailB, memB, mciB]

theorem PortWord.offEvent {a base : Nat} (ha : PortWord a) (hb : base ∈ pathBases) : offEvent base a := by
  simp only [pathBases, List.mem_cons, List.not_mem_nil, or_false, tailB, memB, mciB] at hb
  simp only [PortWord, Machine.offEvent, inEvt, inCapture, tailB, strB] at ha ⊢
  omega

namespace PathMoves
variable {f : StrSt → StrSt} {s₀ s t : State}

theorem refl (s : State) : PathMoves f s s := ⟨fun _ _ => rfl, fun _ _ => rfl, rfl, rfl, List.suffix_rfl⟩

theorem trans (h : PathMoves f s₀ s) (k : PathMoves f s t) : PathMoves f s₀ t :=
  ⟨fun a ha => (k.rd a ha).trans (h.rd a ha), fun a ha => (k.cnt a ha).trans (h.cnt a ha), k.sl.trans h.sl, k.tl.trans h.tl, h.out.trans k.out⟩

theorem ite {c : Prop} {_ : Decidable c} (hs : PathMoves f s₀ s) (ht : PathMoves f s₀ t) : PathMoves f s₀ (if c then s else t) := by
  split
  · exact hs
  · exact ht

theorem foldl {α : Type} {g : State → α → State} {l : List α} (hs : PathMoves f s₀ s)
    (step : ∀ t x, PathMoves f s₀ t → PathMoves f s₀ (g t x)) : PathMoves f s₀ (l.foldl g s) :=
  List.foldlRecOn (motive := PathMoves f s₀) l g hs fun t ht x _ => step t x ht

theorem fld (h : PathMoves f s₀ s) {a : Nat} (ha : PortWord a) (i j : Nat) : s.fld a i j = s₀.fld a i j := congrArg (bits · i j) (h.rd a ha)

theorem strState (h : PathMoves f s₀ s) : s.strState = s₀.strState :=
  h.fld (by simp only [PortWord, tailB, strB]; omega) 2 0

theorem kept (h : PathMoves .offPath s₀ s) : s.sl.kept = s₀.sl.kept :=
  (congrArg StrSt.kept h.sl : s.sl.offPath.kept = s₀.sl.offPath.kept)

theorem timeouts (h : PathMoves .offPath s₀ s) : s.sl.timeouts = s₀.sl.timeouts :=
  (congrArg StrSt.timeouts h.sl : s.sl.offPath.timeouts = s₀.sl.offPath.timeouts)

/-! ### Registers, counters, events -/

theorem wr {a v : Nat} (hs : PathMoves f s₀ s) (ha : ¬ PortWord a) : PathMoves f s₀ (s.wr a v) :=
  ⟨fun b hb => (State.rd_wr_ne s a v b fun e => ha (e ▸ hb)).trans (hs.rd b hb), hs.cnt, hs.sl, hs.tl, hs.out⟩

theorem bump {a n : Nat} (hs : PathMoves f s₀ s) (ha : ¬ PortCnt a) : PathMoves f s₀ (s.bump a n) :=
  have hne (b : Nat) (hb : PortCnt b) : b ≠ a := fun e => ha (Eq.subst (motive := PortCnt) e hb)
  ⟨hs.rd, fun b hb => ((State.cnt_bump s a n b).trans (if_neg (hne b hb))).trans (hs.cnt b hb), hs.sl, hs.tl, hs.out⟩

theorem raiseAt {base c src : Nat} {y : Synd} (hs : PathMoves f s₀ s) (hb : base ∈ pathBases) : PathMoves f s₀ (s.raiseAt base c src y) := by
  have h := State.raiseAt_only s base c src y
  have hr := h.rest
  simp only [State.besides, Prod.mk.injEq] at hr
  obtain ⟨-, -, -, -, -, -, -, -, -, -, htl, hsl, -⟩ := hr
  refine hs.trans ⟨fun a ha => ?_, fun a ha => h.cnts a ?_, congrArg f hsl, congrArg TailSt.offPath htl, (OutGrows.refl s).raiseAt⟩
  · exact h.regs a fun x => x.elim (ha.offEvent hb).1 (ha.offEvent hb).2
  · simp only [PortCnt, inEvt, tailB, strB] at ha ⊢
    omega

/-! ### The memory -/

/-- Counters of the memory are no counters of the ports. -/
theorem notPort {a : Nat} (h : memB ≤ a) : ¬ PortCnt a := by
  simp only [PortCnt, memB, strB] at h ⊢
  omega

theorem memRefuse {q : MReq} {a : Nat} (hs : PathMoves f s₀ s) : PathMoves f s₀ (s.memRefuse q a) :=
  (hs.bump (notPort (by decide))).raiseAt (by decide)

theorem eccBad {a : Nat} {tag : Bool} (hs : PathMoves f s₀ s) : PathMoves f s₀ (s.eccBad a tag) :=
  (hs.bump (notPort (by cases tag <;> decide))).raiseAt (by decide)

/-- The memory itself and the free choices. -/
theorem mem {m : MemSt} {k : Nat} (hs : PathMoves f s₀ s) : PathMoves f s₀ { s with mem := m, free := k } :=
  ⟨hs.rd, hs.cnt, hs.sl, hs.tl, hs.out⟩

theorem putBytes {a : Nat} {bs : List Byte} (hs : PathMoves f s₀ s) : PathMoves f s₀ (s.putBytes a bs) := hs.mem

theorem initAdvance {a : Nat} (hs : PathMoves f s₀ s) : PathMoves f s₀ (s.initAdvance a) := by
  unfold State.initAdvance
  split
  · exact hs
  · exact hs.mem.ite hs

theorem mciWrite {a : Nat} {bs : List Byte} (hs : PathMoves f s₀ s) : PathMoves f s₀ (s.mciWrite a bs) := by
  have hcnt {t : State} (ht : PathMoves f s₀ t) : PathMoves f s₀ (t.bump (mciB + 0x118) 1) := ht.bump (notPort (by decide))
  exact (hs.initAdvance.foldl fun _ _ ht => ht.putBytes.ite ((hcnt ht).putBytes.ite (hcnt ht).eccBad)).ite hs.initAdvance.putBytes

theorem memWrite {a : Nat} {bs : List Byte} (hs : PathMoves f s₀ s) : PathMoves f s₀ (s.memWrite a bs) := by
  unfold State.memWrite
  split
  · refine hs.bump (notPort ?_)
    simp only [memChCnt, memCh, memB]
    omega
  · exact hs.mciWrite

/-! ### Hold, ring and sinks -/

theorem setTl {g : TailSt → TailSt} (hs : PathMoves f s₀ s) (hg : (g s.tl).offPath = s.tl.offPath := by rfl) : PathMoves f s₀ (s.setTl g) :=
  ⟨hs.rd, hs.cnt, hs.sl, hg.trans hs.tl, hs.out⟩

theorem ringLevel (hs : PathMoves f s₀ s) : PathMoves f s₀ s.ringLevel := by
  have hfill : PathMoves f s₀ (s.wr (tailB + 0x5C) s.tl.ring.length) := hs.wr fun h => h.2.2.2 rfl
  unfold State.ringLevel
  exact (hfill.setTl.raiseAt (by decide)).ite hfill.setTl

theorem ringStore {i : Nat} {u : TUnit} (hs : PathMoves f s₀ s) : PathMoves f s₀ (s.ringStore i u) := hs.memWrite.ite hs.memRefuse

theorem ringRelease {n : Nat} (hs : PathMoves f s₀ s) : PathMoves f s₀ (s.ringRelease n) := hs.setTl.ringLevel

theorem ringFront {us : List RUnit} (hs : PathMoves f s₀ s) : PathMoves f s₀ (s.ringFront us) := hs.setTl.foldl fun _ _ ht => ht.ringStore

theorem toSink {r : RUnit} (hs : PathMoves .offPath s₀ s) : PathMoves .offPath s₀ (s.toSink r) :=
  PathMoves.ite (s := s.setSl fun t => { t with waiting := t.waiting ++ [r] }) ⟨hs.rd, hs.cnt, hs.sl, hs.tl, hs.out⟩ hs.setTl

theorem intoPath {u : TUnit} (hs : PathMoves .offPath s₀ s) : PathMoves .offPath s₀ (s.intoPath u) := hs.toSink.ite hs.ringStore.setTl.ringLevel

theorem place {u : TUnit} (hs : PathMoves .offPath s₀ s) : PathMoves .offPath s₀ (s.place u) := hs.intoPath.ite hs.setTl

theorem drainHold {n : Nat} (hs : PathMoves .offPath s₀ s) : PathMoves .offPath s₀ (s.drainHold n) := by
  induction n generalizing s with
  | zero => exact hs
  | succ n ih =>
    unfold State.drainHold
    split
    · exact hs
    · exact (ih hs.setTl.intoPath).ite hs

theorem tailSettle (hs : PathMoves .offPath s₀ s) : PathMoves .offPath s₀ s.tailSettle := hs.drainHold

end PathMoves
end Sys2Proof.Machine
end

section
/-! SUPPORT. Frames of the commands of TAIL and STR: what each shared operation adds to a command's frame. -/
namespace Sys2Proof.Machine

variable {ks : List Part} {p q : Nat → Prop} {s t : State}

theorem Keeps.setTl (h : Keeps ks p q s t) (hk : Part.tl ∈ ks) (g : TailSt → TailSt) : Keeps ks p q s (t.setTl g) :=
  ⟨Eq.trans (by simp [State.blank, State.setTl, hk]) h.1, h.2.1, h.2.2⟩

theorem Keeps.setSl (h : Keeps ks p q s t) (hk : Part.sl ∈ ks) (g : StrSt → StrSt) : Keeps ks p q s (t.setSl g) :=
  ⟨Eq.trans (by simp [State.blank, State.setSl, hk]) h.1, h.2.1, h.2.2⟩

theorem Keeps.bump (h : Keeps ks p q s t) {a : Nat} (ha : q a) (n : Nat) : Keeps ks p q s (t.bump a n) :=
  ⟨h.1, h.2.1, fun b hb => ((State.cnt_bump t a n b).trans (if_neg fun e => hb (Eq.subst (motive := q) e.symm ha))).trans (h.2.2 b hb)⟩

/-- A command whose frame does not name the Tail leaves it. -/
theorem Keeps.tl_eq (h : Keeps ks p q s t) (hk : Part.tl ∉ ks) : t.tl = s.tl := by
  simpa [State.blank, hk] using congrArg State.tl h.1

/-- A counter that an event of its own block does not count. -/
theorem State.cnt_raise_port (s : State) {a : Nat} (base c src : Nat) (h : PortCnt a) : (s.raise base c src).cnt a = s.cnt a := by
  refine State.raise_cnt _ _ _ _ _ ?_
  simp only [PortCnt, inEvt, tailB, strB] at h ⊢
  omega

/-- One occurrence counted. -/
theorem State.cnt_bump_self (s : State) (a : Nat) : (s.bump a 1).cnt a = min top64 (s.cnt a + 1) := (State.cnt_bump ..).trans (if_pos rfl)

theorem State.cnt_bump_ne (s : State) {a b : Nat} (n : Nat) (h : b ≠ a) : (s.bump a n).cnt b = s.cnt b := (State.cnt_bump ..).trans (if_neg h)

end Sys2Proof.Machine
end

section
/-! Links and checkpoints of the Tail (R86, R87, R90, R92–R94). -/
namespace Sys2Proof.Machine

variable (s : State)

/-! ### Closing a link -/

/-- The open link closes: H over the old head and the hash of its units. -/
theorem State.closeLink_of_open (h : s.tl.body ≠ []) : s.closeLink = s.setTl fun t => { t with
    closed := some (s.tl.link, s.tailIndex - 1, BitVec.ofNat 256 (sha256 (bytesBE 32 s.tl.head.toNat ++ sha256B ((s.tl.body.map unitBytes).flatten))))
    head := BitVec.ofNat 256 (sha256 (bytesBE 32 s.tl.head.toNat ++ sha256B ((s.tl.body.map unitBytes).flatten)))
    link := s.tl.link + 1
    body := [] } := if_neg (by simpa using h)

/-- Closing a link is a change of the Tail's own state. -/
theorem State.closeLink_eq_setTl : ∃ g, s.closeLink = s.setTl g := by
  by_cases h : s.tl.body = []
  · exact ⟨id, if_pos (by simp [h])⟩
  · exact ⟨_, s.closeLink_of_open h⟩

theorem State.cnt_closeLink (a : Nat) : s.closeLink.cnt a = s.cnt a := by
  obtain ⟨g, hg⟩ := s.closeLink_eq_setTl
  rw [hg, State.setTl_cnt]

theorem State.closeLink_mono : s.closeLink.mono = s.mono := by
  obtain ⟨g, hg⟩ := s.closeLink_eq_setTl
  rw [hg, State.setTl_mono]

theorem Keeps.closeLink {ks : List Part} {p q : Nat → Prop} {s t : State} (h : Keeps ks p q s t) (hk : Part.tl ∈ ks) :
    Keeps ks p q s t.closeLink := by
  obtain ⟨g, hg⟩ := t.closeLink_eq_setTl
  rw [hg]
  exact h.setTl hk g

theorem State.closeLink_body : s.closeLink.tl.body = [] := by
  by_cases h : s.tl.body = []
  · rw [State.closeLink, if_pos (by simp [h]), h]
  · rw [s.closeLink_of_open h]
    rfl

/-- What closing a link leaves of the Tail: the checkpoints, the pending gap and the stored TQ unit. -/
theorem State.closeLink_leaves : s.closeLink.tl.slots = s.tl.slots ∧ s.closeLink.tl.gap = s.tl.gap ∧ s.closeLink.tl.tqStore = s.tl.tqStore := by
  by_cases h : s.tl.body = []
  · rw [State.closeLink, if_pos (by simp [h])]
    exact ⟨rfl, rfl, rfl⟩
  · rw [s.closeLink_of_open h]
    exact ⟨rfl, rfl, rfl⟩

/-! ### The registers of the checkpoints -/

/-- PENDING and TAIL_CP_UNIT. -/
def CpWord (a : Nat) : Prop := a = tailB + 0x4C ∨ (tailB + 0x100 ≤ a ∧ a < tailB + 0x140)

theorem Keeps.cpRegs {ks : List Part} {p q : Nat → Prop} {s t : State} (h : Keeps ks p q s t) (hp : ∀ a, CpWord a → p a) :
    Keeps ks p q s t.cpRegs := by
  unfold State.cpRegs
  refine List.foldlRecOn (motive := Keeps ks p q s) _ _ (h.wr (hp _ (.inl rfl)) _) fun u hu n hn => hu.wr (hp _ (.inr ?_)) _
  have hn := List.mem_range.1 hn
  omega

theorem State.cpRegs_keeps : Keeps [] CpWord noAddr s s.cpRegs := (Keeps.refl _ _ _ s).cpRegs fun _ => id

theorem State.cpRegs_tl : s.cpRegs.tl = s.tl := s.cpRegs_keeps.tl_eq (by decide)

theorem State.cnt_cpRegs (a : Nat) : s.cpRegs.cnt a = s.cnt a := s.cpRegs_keeps.2.2 a id

/-! ### Taking a checkpoint -/

/-- The link closes and the checkpoint takes a slot. -/
def State.slotTaken (c : CpCause) : State :=
  s.closeLink.setTl fun t => { t with
    slots := t.slots ++ [s.closeLink.cpUnit c], lastCp := s.closeLink.mono, cpAt := some (s.closeLink.mono, c), due := none }

/-- The checkpoint of this instant takes another cause. -/
def State.slotJoined (c : CpCause) : State :=
  s.closeLink.setTl fun t => { t with slots := t.slots.dropLast ++ [s.closeLink.cpUnit c], cpAt := some (s.closeLink.mono, c) }

theorem State.chainGap_of_none (h : s.tl.gap = none) : s.chainGap = s := by rw [State.chainGap, h]

theorem State.takeCp_of_noGap (c : CpCause) (h : s.tl.gap = none) :
    s.takeCp c = (s.slotTaken c).cpRegs.raise tailB Ev.tailCpReady Src.device := by
  rw [State.takeCp, s.chainGap_of_none h]
  rfl

theorem State.takeCp_tl (c : CpCause) (h : s.tl.gap = none) : (s.takeCp c).tl = (s.slotTaken c).tl := by
  rw [s.takeCp_of_noGap c h, State.raise_tl, State.cpRegs_tl]

/-- One slot more, the link closed, the time of the last checkpoint now. -/
theorem State.takeCp_effects (c : CpCause) (h : s.tl.gap = none) : (s.takeCp c).tl.slots.length = s.tl.slots.length + 1 ∧
    (s.takeCp c).tl.body = [] ∧ (s.takeCp c).tl.lastCp = s.mono ∧ (s.takeCp c).tl.due = none := by
  rw [s.takeCp_tl c h]
  refine ⟨?_, s.closeLink_body, s.closeLink_mono, rfl⟩
  refine (List.length_append ..).trans ?_
  rw [s.closeLink_leaves.1]
  rfl

theorem State.cnt_takeCp (c : CpCause) (h : s.tl.gap = none) {a : Nat} (ha : PortCnt a) : (s.takeCp c).cnt a = s.cnt a := by
  rw [s.takeCp_of_noGap c h, State.cnt_raise_port _ _ _ _ ha, State.cnt_cpRegs, State.slotTaken, State.setTl_cnt, State.cnt_closeLink]

theorem State.takeCp_keepsEv (c : CpCause) (h : s.tl.gap = none) : KeepsEv tailB [.tl] CpWord noAddr s (s.takeCp c) := by
  rw [s.takeCp_of_noGap c h]
  exact ((((Keeps.refl _ _ _ s).closeLink (by decide)).setTl (by decide) _).cpRegs fun _ => id).raise _ _ _

theorem State.joinCp_eq (c : CpCause) : s.joinCp c = (s.slotJoined c).cpRegs := rfl

theorem State.joinCp_tl (c : CpCause) : (s.joinCp c).tl = (s.slotJoined c).tl := by rw [State.joinCp_eq, State.cpRegs_tl]

theorem State.cnt_joinCp (c : CpCause) (a : Nat) : (s.joinCp c).cnt a = s.cnt a := by
  rw [State.joinCp_eq, State.cnt_cpRegs, State.slotJoined, State.setTl_cnt, State.cnt_closeLink]

/-! ### A checkpoint that falls due -/

theorem State.cpCause_of_noDue (c : CpCause) (h : s.tl.due = none) : s.cpCause c = c := by rw [State.cpCause, h]

theorem State.flushTq_of_none (h : s.tl.tqStore = none) : s.flushTq = s := by rw [State.flushTq, h]

theorem State.cpNow_of_noSlot (h : s.tl.slots = []) : s.cpNow = none := by
  unfold State.cpNow
  split
  · simp [h]
  · rfl

theorem State.slots_of_cpNow {c : CpCause} (h : s.cpNow = some c) : s.tl.slots ≠ [] := fun he => by
  rw [s.cpNow_of_noSlot he] at h
  cases h

/-- With room and no other checkpoint, one is taken. -/
theorem State.cpDue_of_room (c : CpCause) (hr : s.cpRoom = true) (hd : s.tl.due = none) (ht : s.tl.tqStore = none) (hn : s.cpNow = none) :
    s.cpDue c = s.takeCp c := by
  rw [State.cpDue, s.flushTq_of_none ht, State.cpTake, hn, if_pos hr, s.cpCause_of_noDue c hd]

theorem State.cpReq_of_on (h : s.tailOn = true) : s.cpReq = s.cpDue .request := if_pos h

theorem State.cpReq_of_off (h : s.tailOn = false) : s.cpReq = s := if_neg (by simp [h])

theorem State.cpDue_of_cpNow (c : CpCause) {d : CpCause} (ht : s.tl.tqStore = none) (hn : s.cpNow = some d) :
    s.cpDue c = s.joinCp (c.join d) := by
  rw [State.cpDue, s.flushTq_of_none ht, State.cpTake, hn]

/-- A joined checkpoint takes no slot of its own. -/
theorem State.joinCp_effects (c : CpCause) (h : s.tl.slots ≠ []) : (s.joinCp c).tl.slots.length = s.tl.slots.length ∧
    (s.joinCp c).tl.body = [] ∧ (s.joinCp c).tl.cpAt = some (s.mono, c) := by
  have hpos := List.length_pos_iff.2 h
  rw [s.joinCp_tl c]
  refine ⟨?_, s.closeLink_body, congrArg (fun m => some (m, c)) s.closeLink_mono⟩
  refine (List.length_append ..).trans ?_
  rw [s.closeLink_leaves.1, List.length_dropLast]
  exact Nat.sub_add_cancel hpos

theorem State.cpIntervalExpire_of_due (ho : s.tailOn = true) (hd : s.tl.due = none) (hs : s.tl.slots = [])
    (ht : s.tl.lastCp + s.fld (tailB + 0x48) 31 16 * uMs ≤ s.mono) : s.cpIntervalExpire = s.cpDue .interval :=
  if_pos (by simp [ho, hd, hs, State.past, ht])

theorem State.cpMaxExpire_of_due (ho : s.tailOn = true) (hr : s.cpRoom = true) (hd : s.tl.due = none)
    (ht : s.tl.lastCp + s.fld (tailB + 0x48) 15 0 * uMs ≤ s.mono) :
    s.cpMaxExpire = ((s.cpDue .interval).bump (tailCnt 5) 1).raise tailB Ev.tailCpMax Src.device :=
  (if_pos (by simp [ho, hd, State.past, ht])).trans (if_pos hr)

theorem State.cpDeferredTake_of_room {c : CpCause} (hd : s.tl.due = some c) (ht : s.tl.tqStore = none) (hr : s.cpRoom = true) :
    s.cpDeferredTake = s.takeCp c := by
  rw [State.cpDeferredTake, hd]
  exact if_pos (by simp [ht, hr])

/-! ### The stored TQ unit (R90) -/

/-- From `s` to `t` one unit has been chained: no gap is pending, and the store is as it was. -/
structure OneChained (s t : State) : Prop where
  gap : t.tl.gap = none
  store : t.tl.tqStore = s.tl.tqStore
  index : t.tailIndex = (s.tailIndex + 1) % 2 ^ 64

namespace OneChained
variable {s t u : State}

theorem chainUnit (hg : s.tl.gap = none) (payload : Nat) : OneChained s (s.chainUnit payload).2 := by
  unfold State.chainUnit
  extract_lets idx tag u first s₁ s₂
  have hi : s₂.tailIndex = (s.tailIndex + 1) % 2 ^ 64 :=
    (State.cnt_bump_ne _ _ (by decide)).trans ((State.cnt_setCnt ..).trans (if_pos rfl))
  have h : OneChained s s₂ := ⟨hg, rfl, hi⟩
  clear_value s₂
  dsimp only
  split
  · exact ⟨s₂.closeLink_leaves.2.1.trans h.gap, s₂.closeLink_leaves.2.2.trans h.store, (s₂.cnt_closeLink _).trans h.index⟩
  · exact h

/-- A unit on the output path. -/
theorem path (h : OneChained s t) (k : PathMoves .offPath t u) : OneChained s u :=
  ⟨(congrArg TailSt.gap k.tl).trans h.gap, (congrArg TailSt.tqStore k.tl).trans h.store, (k.cnt _ (by decide)).trans h.index⟩

theorem chainTqUnit (hg : s.tl.gap = none) (q : TqRec) : OneChained s (s.chainTqUnit q) := (chainUnit hg _).path (.place (.refl _))

/-- The checkpoint behind it (R93). -/
theorem cpTake (h : OneChained s t) (c : CpCause) : OneChained s (t.cpTake c) := by
  have hport : PortCnt (tailB + 0x240) := by decide
  obtain ⟨-, hgap, hstore⟩ := t.closeLink_leaves
  unfold State.cpTake
  split
  · exact ⟨(congrArg TailSt.gap (t.joinCp_tl _)).trans (hgap.trans h.gap), (congrArg TailSt.tqStore (t.joinCp_tl _)).trans (hstore.trans h.store),
      (t.cnt_joinCp _ _).trans h.index⟩
  · split
    · have htl := t.takeCp_tl (t.cpCause c) h.gap
      exact ⟨(congrArg TailSt.gap htl).trans (hgap.trans h.gap), (congrArg TailSt.tqStore htl).trans (hstore.trans h.store),
        (t.cnt_takeCp _ h.gap hport).trans h.index⟩
    · have htl := State.raise_tl (t.setTl fun x => { x with due := some (t.cpCause c) }) tailB Ev.tailCpFull Src.device
      exact ⟨(congrArg TailSt.gap htl).trans h.gap, (congrArg TailSt.tqStore htl).trans h.store,
        (State.cnt_raise_port _ _ _ _ hport).trans h.index⟩

theorem chainTq (hg : s.tl.gap = none) (q : TqRec) : OneChained s (s.chainTq q) := by
  have h := chainTqUnit hg q
  unfold State.chainTq
  dsimp only
  split
  · rw [if_neg (by simp [hg])]
    exact h.cpTake _
  · exact h

end OneChained

theorem State.flushTq_of_room {q : TqRec} (h : s.tl.tqStore = some q) (hr : s.tqRoom = true) :
    s.flushTq = (s.setTl fun t => { t with tqStore := none }).chainTq q := by
  rw [State.flushTq, h]
  exact if_pos hr

/-! ### Signing (R92, R94, R323) -/

theorem State.cpSign_of_slot (hs : s.tl.slots ≠ []) (hg : s.tl.signing = false) (hi : s.idPresent = true) :
    s.cpSign = s.setTl fun t => { t with signing := true } := if_pos (by simp [hs, hg, hi])

theorem State.cpSign_of_noSlot (hs : s.tl.slots = []) : s.cpSign = s := if_neg (by simp [hs])

/-- The pair of the oldest slot `u` on the output path, the slot given back. -/
def State.pairOut (u : TUnit) (r : List TUnit) : State :=
  ((s.draw.2.setTl fun t => { t with slots := r, signing := false }).place u).place (identitySign (Config.anyNat s.draw.1) (sha256 (unitBytes u)))

theorem State.cpSignDone_of_signing {u : TUnit} {r : List TUnit} (h : s.tl.slots = u :: r) (hs : s.tl.signing = true) :
    s.cpSignDone = ((s.pairOut u r).bump (tailCnt 4) 1).cpRegs := by
  rw [State.cpSignDone, h]
  exact if_pos hs

theorem State.pairOut_moves (u : TUnit) (r : List TUnit) :
    PathMoves .offPath (s.draw.2.setTl fun t => { t with slots := r, signing := false }) (s.pairOut u r) := .place (.place (.refl _))

end Sys2Proof.Machine
end

section
open Sys2Proof Sys2Proof.Machine

/-- Settles O19: without a pending gap a checkpoint closes the link, takes a slot and changes nothing else of the chain. -/
theorem checkpointsAreTaken : Obligations.CheckpointsAreTaken := by
  refine ⟨?linkNs, ?request, ?off, ?joined, ?interval, ?max, ?deferred, ?flush⟩
  case linkNs =>
    intro s hb ht
    have h : s.linkNsExpire = s.closeLink := if_pos (by simp [hb, State.past, ht])
    refine ⟨_, State.next_congr h, s.closeLink_body, ?_, ?_, (Keeps.refl _ _ _ s).closeLink (by decide)⟩
    · rw [s.closeLink_of_open hb]
      rfl
    · rw [s.closeLink_of_open hb]
      rfl
  case request =>
    intro s ho hr hg hd ht hn
    obtain ⟨hslots, hbody, hlast, -⟩ := s.takeCp_effects .request hg
    exact ⟨_, State.next_congr ((s.cpReq_of_on ho).trans (s.cpDue_of_room _ hr hd ht hn)), hslots, hbody, hlast, s.takeCp_keepsEv _ hg⟩
  case off =>
    intro s ho
    exact State.next_congr (s.cpReq_of_off ho)
  case joined =>
    intro s c ho ht hn
    exact ⟨_, State.next_congr ((s.cpReq_of_on ho).trans (s.cpDue_of_cpNow _ ht hn)), s.joinCp_effects _ (s.slots_of_cpNow hn)⟩
  case interval =>
    intro s ho hr hg hd ht hs hp
    obtain ⟨hslots, hbody, hlast, -⟩ := s.takeCp_effects .interval hg
    rw [hs] at hslots
    exact ⟨_, State.next_congr ((s.cpIntervalExpire_of_due ho hd hs hp).trans (s.cpDue_of_room _ hr hd ht (s.cpNow_of_noSlot hs))),
      hslots, hbody, hlast⟩
  case max =>
    intro s ho hr hg hd ht hn hp
    have hcnt : PortCnt (tailCnt 5) := by decide
    obtain ⟨hslots, -, hlast, -⟩ := s.takeCp_effects .interval hg
    refine ⟨_, State.next_congr (s.cpMaxExpire_of_due ho hr hd hp), ?_⟩
    rw [s.cpDue_of_room _ hr hd ht hn, State.raise_tl, State.bump_tl, State.cnt_raise_port _ _ _ _ hcnt, State.cnt_bump_self, s.cnt_takeCp _ hg hcnt]
    exact ⟨hslots, hlast, rfl⟩
  case deferred =>
    intro s c hd ht hr hg
    obtain ⟨hslots, hbody, -, hdue⟩ := s.takeCp_effects c hg
    exact ⟨_, State.next_congr (s.cpDeferredTake_of_room hd ht hr), hdue, hslots, hbody⟩
  case flush =>
    intro s q hq hr hg
    have h := OneChained.chainTq (s := s.setTl fun t => { t with tqStore := none }) hg q
    exact ⟨_, State.next_congr (s.flushTq_of_room hq hr), h.store, h.index⟩

/-- Settles O20: what moves the pair out leaves slots and signing (`PathMoves`). -/
theorem checkpointsAreSignedInOrder : Obligations.CheckpointsAreSignedInOrder := by
  refine ⟨?sign, ?none, ?done⟩
  case sign =>
    intro s hs hg hi
    exact ⟨_, State.next_congr (s.cpSign_of_slot hs hg hi), rfl, (Keeps.refl _ _ _ s).setTl (by decide) _⟩
  case none =>
    intro s hs
    exact State.next_congr (s.cpSign_of_noSlot hs)
  case done =>
    intro s u r hs hg
    have hm := s.pairOut_moves u r
    refine ⟨_, State.next_congr (s.cpSignDone_of_signing hs hg), ?_, ?_, ?_⟩
    · rw [State.cpRegs_tl, State.bump_tl]
      exact congrArg TailSt.slots hm.tl
    · rw [State.cpRegs_tl, State.bump_tl]
      exact congrArg TailSt.signing hm.tl
    · rw [State.cnt_cpRegs, State.cnt_bump_self, hm.cnt _ (by decide)]
      rfl
end

section
/-! The spill ring read back and the host drain (R96–R98, R472). -/
namespace Sys2Proof.Machine

variable (s : State)

/-! ### Reads of GDDR6 that find no error -/

/-- The state once free choices have been drawn up to the k-th. -/
def State.chosen (k : Nat) : State := { s with free := k }

/-- Bytes as they stand cost free choices alone. -/
theorem State.memBytes_free (a n : Nat) : ∃ k, (s.memBytes a n).2 = s.chosen k := by
  refine List.foldlRecOn (motive := fun r : List Byte × State => ∃ k, r.2 = s.chosen k) _ _ ⟨s.free, rfl⟩ fun r hr i _ => ?_
  obtain ⟨k, hk⟩ := hr
  split
  · exact ⟨k, hk⟩
  · exact ⟨r.2.free + 1, (congrArg (State.chosen · (r.2.free + 1)) hk : r.2.chosen (r.2.free + 1) = (s.chosen k).chosen (r.2.free + 1))⟩

theorem State.mciRead_of_ok (a n : Nat) (h : (s.mciRead a n .clean).1.2 = false) : ∃ k, (s.mciRead a n .clean).2 = s.chosen k := by
  unfold State.mciRead at h ⊢
  simp only [ite_self, Bool.or_eq_false_iff, Bool.not_eq_false', List.isEmpty_iff] at h ⊢
  rw [h.2, List.foldl_nil]
  exact s.memBytes_free a n

theorem State.memRead_of_ok (a n : Nat) (h : (s.memRead a n .clean).1.2 = false) : ∃ k, (s.memRead a n .clean).2 = s.chosen k := by
  unfold State.memRead at h ⊢
  split at h
  · cases h
  · exact s.mciRead_of_ok a n h

/-! ### The ring -/

theorem State.ringReader_of_str (hs : s.tailSink = 0) : s.ringReader = .ringRd := if_pos hs

theorem State.ringLoad_of_allowed {i : Nat} (hs : s.tailSink = 0) (h : s.memAllowed .ringRd (s.ringPlace i) 64 false = true) :
    s.ringLoad i = (if (s.memRead (s.ringPlace i) 64 .clean).1.2 then none
      else some (BitVec.ofNat 512 (natBE (s.memRead (s.ringPlace i) 64 .clean).1.1)), (s.memRead (s.ringPlace i) 64 .clean).2) := by
  unfold State.ringLoad
  rw [s.ringReader_of_str hs]
  exact if_pos h

/-- A read that gives a unit found no error. -/
theorem read_eq_of_fst_some {m : (List Byte × Bool) × State} {f : List Byte → TUnit} {x : Option TUnit × State} {u : TUnit}
    (hx : x = (if m.1.2 then none else some (f m.1.1), m.2)) (hu : x.1 = some u) : m.1.2 = false ∧ x = (some u, m.2) := by
  subst hx
  cases hbad : m.1.2 with
  | true => simp [hbad] at hu
  | false => simpa [hbad] using hu

/-- A unit that could be read. -/
theorem State.ringLoad_of_some {i : Nat} {u : TUnit} (hs : s.tailSink = 0) (h : s.memAllowed .ringRd (s.ringPlace i) 64 false = true)
    (hu : (s.ringLoad i).1 = some u) : ∃ k, s.ringLoad i = (some u, s.chosen k) := by
  obtain ⟨hok, hload⟩ := read_eq_of_fst_some (f := fun b => BitVec.ofNat 512 (natBE b)) (s.ringLoad_of_allowed hs h) hu
  obtain ⟨k, hk⟩ := s.memRead_of_ok _ _ hok
  exact ⟨k, by rw [hload, hk]⟩

/-- A place that no Tail-ring region holds (R334). -/
theorem State.ringLoad_of_refused {i : Nat} (hs : s.tailSink = 0) (h : s.memAllowed .ringRd (s.ringPlace i) 64 false = false) :
    s.ringLoad i = (none, s.memRefuse .ringRd (s.ringPlace i)) := by
  unfold State.ringLoad
  rw [s.ringReader_of_str hs]
  exact if_neg (by simp [h])

theorem State.sinkTakes_of_str (hs : s.tailSink = 0) (k : Nat) : s.sinkTakes k = s.strTakes k := if_pos hs

theorem State.toSink_of_str (hs : s.tailSink = 0) (r : RUnit) : s.toSink r = s.setSl fun l => { l with waiting := l.waiting ++ [r] } := if_pos hs

/-- The next unread unit joins the units that wait for a flit. -/
def State.unitRead (e : Nat) (u : TUnit) (k : Nat) : State :=
  (((s.chosen k).setTl fun t => { t with rd := t.rd + 1 }).setTl fun t => { t with skip := 0 }).setSl fun l => { l with
    waiting := l.waiting ++ [⟨u, true, e, s.tl.skip⟩] }

theorem State.ringReadback_of_some {e : Nat} {u : TUnit} (hr : s.tl.ring[s.tl.rd]? = some e) (hs : s.tailSink = 0) (hk : s.strTakes 1 = true)
    (hm : s.memServes (s.ringPlace s.tl.rd) 64 = true) (ha : s.memAllowed .ringRd (s.ringPlace s.tl.rd) 64 false = true)
    (hl : (s.ringLoad s.tl.rd).1 = some u) : ∃ k, s.ringReadback = s.unitRead e u k := by
  obtain ⟨k, hk'⟩ := s.ringLoad_of_some hs ha hl
  refine ⟨k, ?_⟩
  rw [State.ringReadback, hr]
  dsimp only
  rw [if_pos (by simp [s.sinkTakes_of_str hs, hk, hm]), hk']
  dsimp only
  rw [State.toSink_of_str]
  · rfl
  · exact hs

theorem State.unitRead_keeps (e : Nat) (u : TUnit) (k : Nat) : Keeps [.tl, .sl, .free] noAddr noAddr s (s.unitRead e u k) := by
  have hfree : Keeps [.tl, .sl, .free] noAddr noAddr s (s.chosen k) := ⟨by simp [State.blank, State.chosen], fun _ _ => rfl, fun _ _ => rfl⟩
  exact ((hfree.setTl (by decide) _).setTl (by decide) _).setSl (by decide) _

theorem State.ringReadback_of_refused {e : Nat} (hr : s.tl.ring[s.tl.rd]? = some e) (hs : s.tailSink = 0) (hk : s.strTakes 1 = true)
    (hm : s.memServes (s.ringPlace s.tl.rd) 64 = true) (hl : s.memAllowed .ringRd (s.ringPlace s.tl.rd) 64 false = false) :
    s.ringReadback = (((s.memRefuse .ringRd (s.ringPlace s.tl.rd)).setTl fun t => { t with rd := t.rd + 1 }).setTl fun t => { t with
      skip := t.skip + 1 }).ringRelease 0 := by
  rw [State.ringReadback, hr]
  dsimp only
  rw [if_pos (by simp [s.sinkTakes_of_str hs, hk, hm]), s.ringLoad_of_refused hs hl]

/-- A refused access is counted and reported. -/
theorem State.cnt_memRefuse (q : MReq) (a : Nat) : (s.memRefuse q a).cnt (memB + 0x120) = min top64 (s.cnt (memB + 0x120) + 1) :=
  ((State.raiseAt_only ..).cnts _ (by simp [inEvt, memB])).trans (s.cnt_bump_self _)

theorem Raised.memRefuse (q : MReq) (a : Nat) : Raised Ev.memRegionFault (s.memRefuse q a) :=
  Raised.raiseAt _ _ _ _ (by decide) (.inl rfl)

theorem State.cnt_ringLevel {a : Nat} (h : ¬ inEvt a) : s.ringLevel.cnt a = s.cnt a := by
  unfold State.ringLevel
  dsimp only
  split
  · exact State.raise_cnt _ _ _ _ _ h
  · rfl

/-- TAIL_RING_HIGH takes no other cause's latch away. -/
theorem Raised.ringLevel {d : Nat} {s : State} (h : Raised d s) (hd : d < 256) : Raised d s.ringLevel := by
  have hne : causeA d ≠ tailB + 0x5C := by
    simp only [causeA, evtB, tailB]
    omega
  have hcap : ¬ inCapture tailB (causeA d) := by
    simp only [inCapture, causeA, evtB, tailB]
    omega
  unfold State.ringLevel
  extract_lets n s₁ high up s₂
  have h₂ : Raised d s₂ := h.wr hne
  exact (Raised.raiseAt s₂ _ _ _ (by decide) (.inr ⟨h₂, hcap⟩)).ite h₂

theorem Raised.setTl {d : Nat} {s : State} (h : Raised d s) (g : TailSt → TailSt) : Raised d (s.setTl g) := h

theorem Raised.ringRelease {d : Nat} {s : State} (h : Raised d s) (hd : d < 256) (n : Nat) : Raised d (s.ringRelease n) := (h.setTl _).ringLevel hd

/-! ### The host drain (R98) -/

/-- The oldest unit of the drain has been written and PROD advanced. -/
def State.drained (r : RUnit) (q : List RUnit) : State :=
  ((s.emit (.dmaWrite (256 + s.ownerHp) (s.rd (tailB + 0x300) + s.rd (tailB + 0x304) * 2 ^ 32
    + 64 * (s.rd (tailB + 0x30C) % s.rd (tailB + 0x308))) (unitBytes r.u) false)).wr (tailB + 0x30C)
    ((s.rd (tailB + 0x30C) + 1) % 2 ^ 32)).setTl fun t => { t with drainQ := q }

theorem State.drainWrite_of_free {r : RUnit} {q : List RUnit} (hq : s.tl.drainQ = r :: q) (hu : s.drainUp = true)
    (hf : (s.rd (tailB + 0x30C) + 2 ^ 32 - s.rd (tailB + 0x310)) % 2 ^ 32 < s.rd (tailB + 0x308)) :
    s.drainWrite = ((s.drained r q).ringRelease r.places).tailSettle := by
  rw [State.drainWrite, hq]
  exact if_pos (by simp only [hu, hf, decide_true, Bool.and_self])

theorem State.drained_moves (r : RUnit) (q : List RUnit) :
    PathMoves .offPath (s.drained r q) ((s.drained r q).ringRelease r.places).tailSettle := (PathMoves.refl _).ringRelease.tailSettle

theorem State.drainConsWrite_of_fits (v : Nat) (h : (s.rd (tailB + 0x30C) + 2 ^ 32 - v) % 2 ^ 32 ≤ s.rd (tailB + 0x308)) :
    s.drainConsWrite v = (s.wr (tailB + 0x310) v).tailSettle := if_pos h

theorem State.drainConsWrite_of_over (v : Nat) (h : s.rd (tailB + 0x308) < (s.rd (tailB + 0x30C) + 2 ^ 32 - v) % 2 ^ 32) :
    s.drainConsWrite v = s.reject tailB 0x310 := if_neg (Nat.not_le.2 h)

end Sys2Proof.Machine
end

section
open Sys2Proof Sys2Proof.Machine

/-- Settles O21: a read without an error costs free choices alone, and what a release lets move leaves PROD and CONS (`PathMoves`). -/
theorem unitsLeaveThroughRingAndDrain : Obligations.UnitsLeaveThroughRingAndDrain := by
  have hprod : PortWord (tailB + 0x30C) := by decide
  have hcons : PortWord (tailB + 0x310) := by decide
  refine ⟨?read, ?refused, ?drain, ?stored, ?discarded⟩
  case read =>
    intro s e u hr hs hk hm ha hl
    obtain ⟨k, hk⟩ := s.ringReadback_of_some hr hs hk hm ha hl
    exact ⟨_, State.next_congr hk, rfl, rfl, rfl, rfl, s.unitRead_keeps e u k⟩
  case refused =>
    intro s e hr hs hk hm hl
    have hsl : PathMoves id s (s.memRefuse .ringRd (s.ringPlace s.tl.rd)) := (PathMoves.refl s).memRefuse
    refine ⟨_, State.next_congr (s.ringReadback_of_refused hr hs hk hm hl), ?_, ?_, ?_⟩
    · exact (hsl.setTl.setTl.ringRelease).sl
    · refine (State.cnt_ringLevel _ (by simp [inEvt, memB])).trans ?_
      rw [State.setTl_cnt, State.setTl_cnt, State.setTl_cnt, State.cnt_memRefuse]
    · exact (((Raised.memRefuse s _ _).setTl _).setTl _).ringRelease (by decide) _
  case drain =>
    intro s r q hq hu hf
    have hm := s.drained_moves r q
    refine ⟨_, State.next_congr (s.drainWrite_of_free hq hu hf), ?_, hm.out.subset (List.mem_cons_self ..)⟩
    rw [hm.rd _ hprod, State.drained, State.setTl_rd, State.rd_wr, Nat.mod_mod]
  case stored =>
    intro s v h
    refine ⟨_, State.next_congr (s.drainConsWrite_of_fits _ h), ?_⟩
    rw [(PathMoves.refl _).tailSettle.rd _ hcons, State.rd_wr]
    exact Nat.mod_eq_of_lt v.isLt
  case discarded =>
    intro s v h
    exact State.next_congr (s.drainConsWrite_of_over _ h)
end

section
/-! Stream Link's state and its training (R104, R105, Tables 04-11 and 04-12). -/
namespace Sys2Proof.Machine

variable (s : State)

/-! ### STR_LINK -/

/-- A register of STR behind its captures is not an event's. -/
theorem offEvent_str {k : Nat} (h : 0x30 < k ∧ k < 0x100000) : offEvent strB (strB + k) := by
  simp only [offEvent, inEvt, inCapture, strB]
  omega

theorem State.strState_raise (c src : Nat) : (s.raise strB c src).strState = s.strState :=
  State.raise_fld _ _ _ _ _ _ _ (offEvent_str (by decide))

theorem State.strState_setStr (v : Nat) : (s.setStr v).strState = v % 8 := State.fld_setFld _ _ _ _ _ (by decide) (by decide)

theorem State.strState_setFld (hi lo v : Nat) (h : lo ≤ hi) (h3 : 3 ≤ lo) : (s.setFld (strB + 0x44) hi lo v).strState = s.strState :=
  State.fld_setFld_apart _ _ _ _ _ _ _ h (by decide) (.inl h3)

theorem State.flag_setStr (v i : Nat) (h3 : 3 ≤ i) (h32 : i < 32) : (s.setStr v).flag (strB + 0x44) i = s.flag (strB + 0x44) i :=
  (State.flag_setFld _ _ _ _ _ _ (by decide) h32).trans (if_neg (by omega))

theorem State.strState_setSl (g : StrSt → StrSt) : (s.setSl g).strState = s.strState := State.setSl_fld ..

theorem State.strState_retLock : s.retLock.strState = s.strState := s.strState_setFld _ _ _ (by decide) (by decide)

theorem State.retLock_sl : s.retLock.sl = s.sl := State.setFld_sl ..

theorem State.retLock_mono : s.retLock.mono = s.mono := State.setFld_mono ..

theorem State.retLock_cnt (a : Nat) : s.retLock.cnt a = s.cnt a := State.setFld_cnt ..

theorem Keeps.retLock {ks : List Part} {p q : Nat → Prop} {s t : State} (h : Keeps ks p q s t) (hp : p (strB + 0x44)) : Keeps ks p q s t.retLock :=
  h.wr hp _

/-! ### Entering TRAINING -/

theorem State.strState_strTrain : s.strTrain.strState = 1 := (State.emit_fld ..).trans ((State.strState_setSl ..).trans (s.strState_setStr 1))

theorem State.strTrain_sl : s.strTrain.sl = { s.sl with step := 0, credit := false, t0 := s.mono, failed := false } := rfl

theorem State.strTrain_t0 : s.strTrain.sl.t0 = s.mono := rfl

theorem State.cnt_strTrain (a : Nat) : s.strTrain.cnt a = s.cnt a :=
  (State.emit_cnt ..).trans ((State.setSl_cnt ..).trans (State.setFld_cnt ..))

theorem State.flag_strTrain (i : Nat) (h3 : 3 ≤ i) (h32 : i < 32) : s.strTrain.flag (strB + 0x44) i = s.flag (strB + 0x44) i :=
  s.flag_setStr 1 i h3 h32

theorem Keeps.strTrain {ks : List Part} {p q : Nat → Prop} {s t : State} (h : Keeps ks p q s t) (hs : Part.sl ∈ ks) (ho : Part.out ∈ ks)
    (hp : p (strB + 0x44)) : Keeps ks p q s t.strTrain := ((h.wr hp _).setSl hs _).emit ho _

/-! ### RETRAIN (Table 04-11) -/

theorem State.strState_strRetrain : s.strRetrain.strState = 1 := State.strState_strTrain _

theorem State.strRetrain_sl : s.strRetrain.sl = { s.sl with timeouts := 0, step := 0, credit := false, t0 := s.mono, failed := false } := by
  rw [State.strRetrain, State.strTrain_sl]
  simp only [State.setSl_sl, State.setSl_mono, State.raise_sl, State.raise_mono, State.bump_sl, State.bump_mono]

theorem State.cnt_strRetrain : s.strRetrain.cnt (strCnt 6) = min top64 (s.cnt (strCnt 6) + 1) := by
  rw [State.strRetrain, State.cnt_strTrain, State.setSl_cnt, State.cnt_raise_port _ _ _ _ (by decide), State.cnt_bump_self]

theorem State.flag_strRetrain (i : Nat) (h3 : 3 ≤ i) (h32 : i < 32) : s.strRetrain.flag (strB + 0x44) i = s.flag (strB + 0x44) i := by
  rw [State.strRetrain, State.flag_strTrain _ _ h3 h32, State.setSl_flag, State.raise_flag _ _ _ _ _ _ (offEvent_str (by decide)), State.bump_flag]

theorem Keeps.strRetrain {ks : List Part} {p q : Nat → Prop} {s t : State} (h : Keeps ks p q s t) (hs : Part.sl ∈ ks) (hp : p (strB + 0x44))
    (hq : q (strCnt 6)) : KeepsEv strB ks p q s t.strRetrain := by
  have hev : KeepsEv strB ks p q s ((t.bump (strCnt 6) 1).raise strB Ev.strLinkDown Src.device) := (h.bump hq 1).raise _ _ _
  exact (Keeps.setSl hev (List.mem_append_right _ hs) _).strTrain (List.mem_append_right _ hs) (List.mem_append_left _ (by decide)) (.inr hp)

/-! ### Sending kept flits again (R102) -/

theorem Keeps.sendFlit {ks : List Part} {p q : Nat → Prop} {s t : State} (h : Keeps ks p q s t) (hs : Part.sl ∈ ks) (ho : Part.out ∈ ks)
    {f : Flit} {again : Bool} (hq : q (strCnt (if again then 1 else 0))) : Keeps ks p q s (t.sendFlit f again) :=
  ((h.setSl hs _).emit ho _).bump hq 1

/-- Stream Link's state with another scrambler. -/
def StrSt.withScr (l : StrSt) (x : BitVec 58) : StrSt := { l with scr := x }

theorem StrSt.withScr_withScr (l : StrSt) (x y : BitVec 58) : (l.withScr x).withScr y = l.withScr y := rfl

theorem State.setScr_emit_sl (x : BitVec 58) (o : Out) : ((s.setSl fun t => { t with scr := x }).emit o).sl = s.sl.withScr x := rfl

theorem State.putFlit_sl (fseq count : Nat) (bytes : List Byte) (again : Bool) :
    (s.putFlit fseq count bytes again).sl = s.sl.withScr (flitLanes s.sl.scr bytes).2 := s.setScr_emit_sl _ _

theorem State.putFlit_out (fseq count : Nat) (bytes : List Byte) (again : Bool) :
    (s.putFlit fseq count bytes again).out = .flit fseq count bytes (flitLanes s.sl.scr bytes).1 again :: s.out :=
  (State.emit_out _ _).trans (congrArg (List.cons _) (State.setSl_out _ _))

theorem State.sendFlit_sl (f : Flit) (again : Bool) : (s.sendFlit f again).sl = s.sl.withScr (flitLanes s.sl.scr f.bytes).2 := by
  rw [State.sendFlit, State.bump_sl, State.putFlit_sl]

/-- Of Stream Link's own state, flits that are sent move the scrambler alone. -/
theorem State.sendFlits_sl (l : List Flit) : ∃ x, (l.foldl (fun s f => s.sendFlit f true) s).sl = s.sl.withScr x := by
  induction l generalizing s with
  | nil => exact ⟨s.sl.scr, rfl⟩
  | cons f l ih =>
    obtain ⟨x, hx⟩ := ih (s.sendFlit f true)
    exact ⟨x, by rw [List.foldl_cons, hx, State.sendFlit_sl, StrSt.withScr_withScr]⟩

/-- A kept flit from FSEQ `v` on counts as sent at `now`. -/
def Flit.sentAgain (v now : Nat) (f : Flit) : Flit := if fseqLe v (f.fseq % 2 ^ 40) then { f with sentAt := now } else f

theorem Flit.sentAgain_fseq (v now : Nat) (f : Flit) : (f.sentAgain v now).fseq = f.fseq := by
  unfold Flit.sentAgain
  split
  · rfl
  · rfl

theorem Flit.map_sentAgain_fseq (v now : Nat) (l : List Flit) :
    (l.map (Flit.sentAgain v now)).map (fun x => x.fseq) = l.map (fun x => x.fseq) := by
  induction l with
  | nil => rfl
  | cons f l ih => rw [List.map_cons, List.map_cons, List.map_cons, ih, Flit.sentAgain_fseq]

/-- The flits of a replay buffer that are sent again from FSEQ `v` on. -/
def resendList (v : Nat) (l : List Flit) : List Flit := l.filter fun f => fseqLe v (f.fseq % 2 ^ 40)

theorem State.resendFrom_eq (v : Nat) : s.resendFrom v =
    (resendList v (s.sl.kept.map (Flit.sentAgain v s.mono))).foldl (fun s f => s.sendFlit f true)
      (s.setSl fun t => { t with kept := t.kept.map (Flit.sentAgain v s.mono) }) := rfl

theorem State.resendFrom_keeps (v : Nat) : Keeps [.sl, .out] noAddr (oneOf [strCnt 1]) s (s.resendFrom v) := by
  rw [s.resendFrom_eq v]
  exact List.foldlRecOn (motive := Keeps _ _ _ s) _ _ ((Keeps.refl _ _ _ s).setSl (by decide) _) fun t ht f _ =>
    ht.sendFlit (by decide) (by decide) (List.mem_singleton_self _)

/-- Every flit stays kept; of Stream Link's own state only the times of sending and the scrambler change. -/
theorem State.resendFrom_sl (v : Nat) : ∃ x, (s.resendFrom v).sl = { s.sl with kept := s.sl.kept.map (Flit.sentAgain v s.mono) }.withScr x := by
  rw [s.resendFrom_eq v]
  exact State.sendFlits_sl _ _

theorem State.resendFrom_timeouts (v : Nat) : (s.resendFrom v).sl.timeouts = s.sl.timeouts := by
  obtain ⟨x, hx⟩ := s.resendFrom_sl v
  rw [hx]
  rfl

theorem State.resendFrom_fseqs (v : Nat) : (s.resendFrom v).sl.kept.map (fun x => x.fseq) = s.sl.kept.map (fun x => x.fseq) := by
  obtain ⟨x, hx⟩ := s.resendFrom_sl v
  rw [hx]
  exact Flit.map_sentAgain_fseq _ _ _

theorem State.strState_resendFrom (v : Nat) : (s.resendFrom v).strState = s.strState :=
  congrArg (bits · 2 0) ((s.resendFrom_keeps v).2.1 _ id)

theorem State.cnt_resendFrom (v : Nat) {a : Nat} (h : a ≠ strCnt 1) : (s.resendFrom v).cnt a = s.cnt a :=
  (s.resendFrom_keeps v).2.2 _ (by simpa [oneOf] using h)

end Sys2Proof.Machine
end

section
/-! Flits: data flits built, sent and kept, idle flits, and ACK timeouts (R100–R102). -/
namespace Sys2Proof.Machine

variable (s : State)

/-- The data flit of the units waiting now, `r` the oldest. -/
def State.nextFlit (r : RUnit) : Flit :=
  ⟨s.txFseq, flitBatch s.sl.waiting, flitBytes (flitBatch s.sl.waiting).length s.txFseq r.epoch r.ring s.now
    ((flitBatch s.sl.waiting).map fun x => x.u), s.mono⟩

/-- That flit kept, its units no longer waiting, the next FSEQ set. -/
def State.flitKept (r : RUnit) : State :=
  (s.setSl fun t => { t with
    waiting := t.waiting.drop (flitBatch s.sl.waiting).length
    kept := t.kept ++ [s.nextFlit r]
    progress := if s.sl.kept.isEmpty then s.mono else t.progress }).setCnt (strB + 0x60) ((s.txFseq + 1) % 2 ^ 48)

theorem State.flitSend_of_room {r : RUnit} {q : List RUnit} (hw : s.sl.waiting = r :: q) (h2 : s.strState = 2) (hr : s.flitRoom 0 = true) :
    s.flitSend = ((s.flitKept r).sendFlit (s.nextFlit r) false).tailSettle := by
  rw [State.flitSend, State.flitKept, State.nextFlit, hw]
  exact if_pos (by simp [h2, hr])

theorem State.flitSend_moves (r : RUnit) : PathMoves .offPath ((s.flitKept r).sendFlit (s.nextFlit r) false)
    ((s.flitKept r).sendFlit (s.nextFlit r) false).tailSettle := (PathMoves.refl _).tailSettle

theorem State.idleFlitSend_of_idle (h2 : s.strState = 2) (hw : s.sl.waiting = []) :
    s.idleFlitSend = s.putFlit ((s.txFseq + 2 ^ 48 - 1) % 2 ^ 48) 0
      (flitBytes 0 ((s.txFseq + 2 ^ 48 - 1) % 2 ^ 48) s.tailEpoch false s.now []) false := if_pos (by simp [h2, hw])

/-- One more ACK timeout in a row. -/
def State.timeoutCounted : State := (s.bump (strCnt 3) 1).setSl fun t => { t with timeouts := t.timeouts + 1 }

/-- The kept flits sent again, the wait beginning anew. -/
def State.timeoutResent (f : Flit) : State :=
  (s.timeoutCounted.resendFrom (f.fseq % 2 ^ 40)).setSl fun t => { t with progress := s.timeoutCounted.mono }

/-- The condition of an ACK timeout. -/
theorem State.strAckTimeout_of_due {f : Flit} {r : List Flit} (hk : s.sl.kept = f :: r) (h2 : s.strState = 2)
    (ht : s.sl.progress + s.fld (strB + 0x40) 15 0 * uUs ≤ s.mono) : s.strAckTimeout =
      if 4 ≤ s.timeoutCounted.sl.timeouts then s.timeoutCounted.strRetrain else (s.timeoutResent f).raise strB Ev.strAckTimeout Src.device := by
  rw [State.strAckTimeout, hk]
  dsimp only
  rw [if_pos (by simp only [h2, State.past, ht, decide_true, Bool.and_self])]
  rfl

end Sys2Proof.Machine
end

section
open Sys2Proof Sys2Proof.Machine

/-- Settles O22: flits that are sent again move the scrambler alone, and units moving behind a sent flit leave Stream Link (`PathMoves`). -/
theorem flitsAreSentAndKept : Obligations.FlitsAreSentAndKept := by
  refine ⟨?data, ?idle, ?timeout⟩
  case data =>
    intro s r q hw h2 hr
    have hm := s.flitSend_moves r
    refine ⟨_, s.nextFlit r, State.next_congr (s.flitSend_of_room hw h2 hr), hm.kept, rfl, rfl, rfl, ?_, rfl,
      hm.out.subset (List.mem_cons_self ..)⟩
    refine (hm.cnt _ (by decide)).trans ((State.cnt_bump_ne _ _ (by decide)).trans ?_)
    exact (State.cnt_setCnt ..).trans (if_pos rfl)
  case idle =>
    intro s h2 hw
    exact ⟨_, State.next_congr (s.idleFlitSend_of_idle h2 hw), State.putFlit_out .., ((Keeps.refl _ _ _ s).setSl (by decide) _).emit (by decide) _⟩
  case timeout =>
    intro s f r hk h2 ht
    have hdue := s.strAckTimeout_of_due hk h2 ht
    have hcount : s.timeoutCounted.sl.timeouts = s.sl.timeouts + 1 := rfl
    refine ⟨fun hlt => ⟨_, State.next_congr (hdue.trans (if_neg (by omega))), ?_, ?_, ?_, ?_⟩,
      fun hle => ⟨_, State.next_congr (hdue.trans (if_pos (by omega))), State.strState_strRetrain _, ?_, ?_⟩⟩
    · rw [State.raise_sl]
      exact State.resendFrom_timeouts _ _
    · rw [State.strState_raise]
      exact (State.strState_resendFrom _ _).trans h2
    · rw [State.raise_sl]
      exact State.resendFrom_fseqs _ _
    · rw [State.cnt_raise_port _ _ _ _ (by decide)]
      exact (State.cnt_resendFrom _ _ (by decide)).trans (s.cnt_bump_self _)
    · rw [State.strRetrain_sl]
      rfl
    · rw [State.strRetrain_sl]
      rfl
end

section
/-! The return lane (R102, R103, R105, Table 04-10) and what moves the link (R104). -/
namespace Sys2Proof.Machine

variable (s : State)

/-! ### Return words -/

theorem State.strTryActive_of_active (h : s.strState = 2) : s.strTryActive = s := if_neg (by simp [h])

theorem State.strTryActive_of_early (h : s.sl.step ≠ 3) : s.strTryActive = s := if_neg (by simp [h])

/-- A CREDIT that advances, taken. -/
def State.credited (v : Nat) : State := (s.retLock.setCnt (strB + 0x70) v).setSl fun t => { t with credit := true }

theorem State.strState_credited (v : Nat) : (s.credited v).strState = s.strState :=
  (State.strState_setSl ..).trans ((State.setCnt_fld ..).trans s.strState_retLock)

theorem State.credFseq_credited (v : Nat) : (s.credited v).credFseq = v := (State.setSl_cnt ..).trans ((State.cnt_setCnt ..).trans (if_pos rfl))

theorem State.retCredit_of_active (v : Nat) (h2 : s.strState = 2) (hv : fseqLe (s.credFseq % 2 ^ 40) v = true) :
    s.retCredit v = (s.credited v).tailSettle := by
  have hadv : (!s.retLock.sl.credit || fseqLe (s.retLock.credFseq % 2 ^ 40) v) = true := by
    rw [show s.retLock.credFseq = s.credFseq from s.retLock_cnt _, hv, Bool.or_true]
  unfold State.retCredit
  dsimp only
  rw [if_pos (by simp [h2]), if_pos hadv]
  exact congrArg State.tailSettle ((s.credited v).strTryActive_of_active ((s.strState_credited v).trans h2))

/-- The flits up to FSEQ `v` released, the wait for an ACK begun anew. -/
def State.acked (v : Nat) : State :=
  (s.setCnt (strB + 0x68) v).setSl fun t => { t with
    kept := t.kept.filter fun f => !fseqLe (f.fseq % 2 ^ 40) v, timeouts := 0, progress := s.mono }

theorem State.ackFseq_acked (v : Nat) : (s.acked v).ackFseq = v := (State.setSl_cnt ..).trans ((State.cnt_setCnt ..).trans (if_pos rfl))

theorem State.acked_timeouts (v : Nat) : (s.acked v).sl.timeouts = 0 := rfl

theorem State.acked_kept (v : Nat) : (s.acked v).sl.kept = s.sl.kept.filter fun f => !fseqLe (f.fseq % 2 ^ 40) v := rfl

theorem State.ackTo_of_covers (v : Nat) (h : ∃ f ∈ s.sl.kept, fseqLe (f.fseq % 2 ^ 40) v = true) :
    ∃ n, s.ackTo v = ((s.acked v).ringRelease n).tailSettle := by
  obtain ⟨f, hf, hv⟩ := h
  have hne : s.sl.kept.filter (fun f => fseqLe (f.fseq % 2 ^ 40) v) ≠ [] := List.ne_nil_of_mem (List.mem_filter.2 ⟨hf, hv⟩)
  exact ⟨_, if_neg (by simpa only [List.isEmpty_iff] using hne)⟩

theorem State.retNak_of_kept (v : Nat) (h2 : s.strState = 2) (h : ∃ f ∈ s.sl.kept, fseqLe v (f.fseq % 2 ^ 40) = true) :
    s.retNak v = ((s.retLock.resendFrom v).bump (strCnt 2) 1).raise strB Ev.strNak Src.device := by
  have hany : s.retLock.sl.kept.any (fun f => fseqLe v (f.fseq % 2 ^ 40)) = true := by
    rw [s.retLock_sl]
    exact List.any_eq_true.2 h
  unfold State.retNak
  dsimp only
  rw [if_pos (by rw [s.strState_retLock, h2, hany]; rfl)]

theorem State.retTrain_of_next (n : Nat) (h1 : s.strState = 1) (hf : s.sl.failed = false) (ht : s.sl.t0 + uMs ≤ s.mono)
    (hn : n = s.sl.step + 1) (h2 : n ≤ 2) : s.retTrain n = (s.retLock.setSl fun t => { t with step := n }).tailSettle := by
  have hstep : (s.retLock.setSl fun t => { t with step := n }).sl.step ≠ 3 := by
    change n ≠ 3
    omega
  have hpast : s.retLock.past (s.sl.t0 + uMs) = true := by
    rw [State.past_iff, s.retLock_mono]
    exact ht
  have hdue : (decide (s.retLock.strState = 1) && !s.retLock.sl.failed && s.retLock.past (s.retLock.sl.t0 + uMs)) = true := by
    rw [s.strState_retLock, h1, s.retLock_sl, hf, hpast]
    rfl
  have hnext : (decide (n = s.retLock.sl.step + 1) && decide (n ≤ 3)) = true := by
    rw [s.retLock_sl, decide_eq_true hn, decide_eq_true (by omega : n ≤ 3)]
    rfl
  unfold State.retTrain
  dsimp only
  rw [if_pos hdue, if_pos hnext, State.strTryActive_of_early _ hstep]

theorem State.retRetrain_of_active (h2 : s.strState = 2) : s.retRetrain = s.retLock.strRetrain := if_pos (s.strState_retLock.trans h2)

theorem State.retBad_of_badCrc {w : BitVec 64} (h : retCrcOk w = false) : s.retBad w = s.retLock.bump (strCnt 4) 1 := if_pos (by simp [h])

theorem State.retBad_of_reserved {w : BitVec 64} (h : retCrcOk w = true) (h7 : 7 ≤ (w.extractLsb' 60 4).toNat) :
    s.retBad w = s.retLock.bump (strCnt 5) 1 := (if_neg (by simp [h])).trans (if_pos h7)

/-- A word is bad by its CRC-8 or by a reserved CMD. -/
theorem readReturnWord_bad_iff (w : BitVec 64) :
    readReturnWord w = .retBadWord w ↔ (retCrcOk w = true → 7 ≤ (w.extractLsb' 60 4).toNat) := by
  unfold readReturnWord
  dsimp only
  by_cases hc : retCrcOk w = true
  · rw [if_pos hc]
    split
    case h_8 => -- the reserved commands
      refine iff_of_true rfl fun _ => ?_
      simp only [imp_false] at *
      omega
    all_goals
      next hcmd =>
        refine iff_of_false nofun fun h7 => ?_
        have := h7 hc
        omega
  · exact iff_of_true (if_neg hc) fun h => absurd h hc

theorem State.retBad_counts {w : BitVec 64} (h : readReturnWord w = .retBadWord w) :
    s.retBad w = s.retLock.bump (strCnt (if retCrcOk w then 5 else 4)) 1 := by
  have h7 := (readReturnWord_bad_iff w).1 h
  cases hc : retCrcOk w with
  | false => exact s.retBad_of_badCrc hc
  | true => exact s.retBad_of_reserved hc (h7 hc)

theorem readReturnWord_ack (w : BitVec 64) (hc : retCrcOk w = true) (h : w.extractLsb' 60 4 = 2) :
    readReturnWord w = .retAck (w.extractLsb' 8 40) := by
  unfold readReturnWord
  rw [h]
  exact if_pos hc

theorem readReturnWord_train (w : BitVec 64) (hc : retCrcOk w = true) (h : w.extractLsb' 60 4 = 4) :
    readReturnWord w = .retTrain (w.extractLsb' 48 12) := by
  unfold readReturnWord
  rw [h]
  exact if_pos hc

/-- STR_HEALTH after a HEALTH word: its status above the free space. -/
theorem bits_health (c m : Nat) (hc : c < 2 ^ 12) (hm : m < 2 ^ 20) :
    bits ((c * 2 ^ 20 + m) % 2 ^ 32) 31 20 = c ∧ bits ((c * 2 ^ 20 + m) % 2 ^ 32) 19 0 = m := by
  simp only [bits, Nat.shiftRight_eq_div_pow]
  omega

/-! ### Timers, and the clock of the stream -/

theorem State.strTrainTimeout_of_late (h1 : s.strState = 1) (hf : s.sl.failed = false) (ht : s.sl.t0 + 50 * uMs ≤ s.mono) :
    s.strTrainTimeout = (s.setSl fun t => { t with failed := true }).raise strB Ev.strTrainFail Src.device :=
  if_pos (by rw [h1, hf, (s.past_iff _).2 ht]; rfl)

theorem State.strTrainRestart_of_late (h1 : s.strState = 1) (hf : s.sl.failed = true) (ht : s.sl.t0 + 150 * uMs ≤ s.mono) :
    s.strTrainRestart = s.strTrain := if_pos (by rw [h1, hf, (s.past_iff _).2 ht]; rfl)

theorem State.strRetrainWrite_of_active (h2 : s.strState = 2) : s.strRetrainWrite = s.strRetrain := if_pos h2

/-- The return lane without block lock. -/
def State.lockLost : State := s.setFld (strB + 0x44) 8 8 0

theorem State.lockLost_sl : s.lockLost.sl = s.sl := State.setFld_sl ..

theorem State.retLockLoss_of_active (h2 : s.strState = 2) : s.retLockLoss = s.lockLost.strRetrain :=
  if_pos ((s.strState_setFld 8 8 0 (by decide) (by decide)).trans h2)

/-- What was kept and what waited goes back into the ring; beside that, units move on the output path alone. -/
theorem State.returnUnits_moves : PathMoves id (s.setSl fun t => { t with kept := [], waiting := [], timeouts := 0 }) s.returnUnits :=
  ((PathMoves.refl _).setTl.ite (PathMoves.refl _).ringFront).ringLevel

theorem State.returnUnits_sl : s.returnUnits.sl = { s.sl with kept := [], waiting := [], timeouts := 0 } := s.returnUnits_moves.sl

theorem State.returnUnits_rd {a : Nat} (h : PortWord a) : s.returnUnits.rd a = s.rd a := s.returnUnits_moves.rd a h

/-- STR_LINK_DOWN, raised where the link was ACTIVE. -/
def State.downRaised : State := if s.strState = 2 then s.raise strB Ev.strLinkDown Src.device else s

theorem State.rd_downRaised : s.downRaised.rd (strB + 0x44) = s.rd (strB + 0x44) := by
  unfold State.downRaised
  split
  · exact State.raise_rd _ _ _ _ _ (offEvent_str (by decide))
  · rfl

theorem State.strDisable_eq : s.strDisable = (s.downRaised.setStr 0).returnUnits := rfl

theorem State.strDisable_sl : s.strDisable.sl.kept = [] ∧ s.strDisable.sl.waiting = [] := by
  rw [State.strDisable_eq, State.returnUnits_sl]
  exact ⟨rfl, rfl⟩

theorem State.rd_strDisable : s.strDisable.rd (strB + 0x44) = (s.setStr 0).rd (strB + 0x44) := by
  rw [State.strDisable_eq, State.returnUnits_rd _ (by decide), State.setStr, State.setStr, State.setFld, State.setFld, State.rd_wr, State.rd_wr,
    State.rd_downRaised]

theorem State.strTryTrain_of_ready (h0 : s.strState = 0) (hr : s.running strB = true) (he : s.flag (strB + 0x40) 31 = true)
    (hc : s.flag (strB + 0x44) 9 = true) : s.strTryTrain = s.strTrain := if_pos (by rw [h0, hr, he, hc]; rfl)

/-- The stream reference clock is present. -/
def State.refclkUp : State := s.setFld (strB + 0x44) 9 9 1

theorem State.refclkUp_mono : s.refclkUp.mono = s.mono := s.setFld_mono _ _ _ _

theorem State.strTryTrain_refclkUp (h0 : s.strState = 0) (hr : s.running strB = true) (he : s.flag (strB + 0x40) 31 = true) :
    s.refclkUp.strTryTrain = s.refclkUp.strTrain := by
  refine s.refclkUp.strTryTrain_of_ready ((s.strState_setFld 9 9 1 (by decide) (by decide)).trans h0) ?_ ?_ ?_
  · rw [State.running, State.blkState, State.refclkUp, State.fld_setFld_ne _ _ _ _ _ _ _ _ (by decide)]
    exact hr
  · exact (State.flag_setFld_ne _ _ _ _ _ _ _ (by decide)).trans he
  · exact (s.flag_setBit _ _ _ _ (by decide)).trans (if_pos rfl)

end Sys2Proof.Machine
end

section
open Sys2Proof Sys2Proof.Machine

/-- Settles O23: TRAINING, RETRAIN and a resend each have one lemma for the flits they keep, and units that move leave the link (`PathMoves`). -/
theorem returnWordsAndEventsMoveTheLink : Obligations.ReturnWordsAndEventsMoveTheLink := by
  refine ⟨?credit, ?ack, ?nak, ?train, ?retrain, ?health, ?idle, ?bad, ?decode, ?timeout, ?restart, ?write, ?lockLoss, ?refclkLoss, ?refclkReturn⟩
  case credit =>
    intro s v h2 hv
    have hm := (PathMoves.refl (s.credited v.toNat)).tailSettle
    exact ⟨_, State.next_congr (s.retCredit_of_active _ h2 hv), (hm.cnt _ (by decide)).trans (s.credFseq_credited _), congrArg StrSt.credit hm.sl,
      hm.strState.trans ((s.strState_credited _).trans h2)⟩
  case ack =>
    intro s v h
    obtain ⟨n, hn⟩ := s.retLock.ackTo_of_covers v.toNat h
    have hm := (PathMoves.refl (s.retLock.acked v.toNat)).ringRelease (n := n) |>.tailSettle
    exact ⟨_, State.next_congr hn, (hm.cnt _ (by decide)).trans (State.ackFseq_acked _ _),
      hm.timeouts.trans (State.acked_timeouts _ _), by rw [hm.kept, State.acked_kept, State.retLock_sl]⟩
  case nak =>
    intro s v h2 h
    refine ⟨_, State.next_congr (s.retNak_of_kept _ h2 h), ?_, ?_, ?_⟩
    · rw [State.cnt_raise_port _ _ _ _ (by decide), State.cnt_bump_self, State.cnt_resendFrom _ _ (by decide), State.retLock_cnt]
    · rw [State.raise_sl, State.bump_sl, State.resendFrom_fseqs, State.retLock_sl]
    · rw [State.strState_raise]
      exact (State.strState_resendFrom _ _).trans (s.strState_retLock.trans h2)
  case train =>
    intro s n h1 hf ht hn h2
    have hm := (PathMoves.refl (s.retLock.setSl fun t => { t with step := n.toNat })).tailSettle
    exact ⟨_, State.next_congr (s.retTrain_of_next _ h1 hf ht hn h2), congrArg StrSt.step hm.sl,
      hm.strState.trans ((State.strState_setSl _ _).trans (s.strState_retLock.trans h1))⟩
  case retrain =>
    intro s h2
    refine ⟨_, State.next_congr (s.retRetrain_of_active h2), State.strState_strRetrain _, ?_, ?_, ?_⟩
    · rw [State.strRetrain_sl, State.retLock_sl]
    · rw [State.cnt_strRetrain, State.retLock_cnt]
    · exact ((Keeps.refl _ _ _ s).retLock (List.mem_singleton_self _)).strRetrain (by decide) (List.mem_singleton_self _) (List.mem_singleton_self _)
  case health =>
    intro s c v
    obtain ⟨hhi, hlo⟩ := bits_health c.toNat (min 0xFFFFF (v.toNat / 1024)) c.isLt (by omega)
    refine ⟨_, rfl, ?_, ?_, ((Keeps.refl [] _ _ s).retLock (by simp [oneOf])).wr (by simp [oneOf]) _⟩
    · rw [State.retHealth, State.fld, State.rd_wr, hhi]
    · rw [State.retHealth, State.fld, State.rd_wr, hlo]
  case idle =>
    intro s
    exact ⟨_, rfl, (s.flag_setBit _ _ _ _ (by decide)).trans (if_pos rfl), (Keeps.refl [] _ _ s).retLock (List.mem_singleton_self _)⟩
  case bad =>
    intro s w h
    exact ⟨_, State.next_congr (s.retBad_counts h), State.cnt_bump_self _ _,
      ((Keeps.refl [] _ _ s).retLock (List.mem_singleton_self _)).bump (List.mem_singleton_self _) 1⟩
  case decode =>
    intro w hc
    exact ⟨readReturnWord_ack w hc, readReturnWord_train w hc, fun h7 => (readReturnWord_bad_iff w).2 fun _ => h7⟩
  case timeout =>
    intro s h1 hf ht
    refine ⟨_, State.next_congr (s.strTrainTimeout_of_late h1 hf ht), ?_, ?_, ((Keeps.refl _ _ _ s).setSl (by decide) _).raise _ _ _⟩
    · rw [State.raise_sl]
      rfl
    · exact (State.strState_raise _ _ _).trans h1
  case restart =>
    intro s h1 hf ht
    exact ⟨_, State.next_congr (s.strTrainRestart_of_late h1 hf ht), rfl, s.strTrain_t0, rfl, s.strState_strTrain, List.mem_cons_self ..,
      (Keeps.refl _ _ _ s).strTrain (by decide) (by decide) (List.mem_singleton_self _)⟩
  case write =>
    intro s h2
    refine ⟨_, State.next_congr (s.strRetrainWrite_of_active h2), s.strState_strRetrain, ?_, ?_⟩
    · rw [State.strRetrain_sl]
    · rw [State.strRetrain_sl]
  case lockLoss =>
    intro s h2
    refine ⟨_, State.next_congr (s.retLockLoss_of_active h2), State.strState_strRetrain _, ?_, ?_⟩
    · rw [State.flag_strRetrain _ _ (by decide) (by decide)]
      exact (s.flag_setBit _ _ _ _ (by decide)).trans (if_pos rfl)
    · rw [State.strRetrain_sl, State.lockLost_sl]
  case refclkLoss =>
    intro s
    have hrd := (State.raise_rd (s.setFld (strB + 0x44) 9 9 0).strDisable strB Ev.strRefclkLost Src.device _ (offEvent_str (by decide))).trans
      (State.rd_strDisable _)
    obtain ⟨hkept, hwaiting⟩ := (s.setFld (strB + 0x44) 9 9 0).strDisable_sl
    refine ⟨_, rfl, ?_, ?_, ?_, ?_⟩
    · exact (congrArg (bits · 2 0) hrd).trans (State.strState_setStr _ 0)
    · refine (congrArg (Nat.testBit · 9) hrd).trans ((State.flag_setStr _ 0 9 (by decide) (by decide)).trans ?_)
      exact (s.flag_setBit _ _ _ _ (by decide)).trans (if_pos rfl)
    · rw [State.strRefclkLoss, State.raise_sl, hkept]
    · rw [State.strRefclkLoss, State.raise_sl, hwaiting]
  case refclkReturn =>
    intro s h0 hr he
    refine ⟨_, State.next_congr (s.strTryTrain_refclkUp h0 hr he), State.strState_strTrain _, ?_, s.refclkUp.strTrain_t0.trans s.refclkUp_mono, ?_⟩
    · rw [State.flag_strTrain _ _ (by decide) (by decide)]
      exact (s.flag_setBit _ _ _ _ (by decide)).trans (if_pos rfl)
    · exact ((Keeps.refl _ _ _ s).wr (List.mem_singleton_self _) _).strTrain (by decide) (by decide) (List.mem_singleton_self _)
end

section
/-! SUPPORT. The MAC state of a port: one lemma per update, and what each shared operation of the ports adds to a command's frame. -/
namespace Sys2Proof.Machine

variable (s : State)

/-! ### The MAC record of a port after an update -/

@[simp] theorem State.mac_setMac (p : Nat) (g : MacSt → MacSt) : (s.setMac p g).mac p = g (s.mac p) := (mget_mput _ _ _ _ _).trans (if_pos rfl)
theorem State.mac_congr {s t : State} (h : t.dp = s.dp) (p : Nat) : t.mac p = s.mac p := by rw [State.mac, State.mac, h]
@[simp] theorem State.mac_wr (a v p : Nat) : (s.wr a v).mac p = s.mac p := rfl
@[simp] theorem State.mac_setFld (a hi lo v p : Nat) : (s.setFld a hi lo v).mac p = s.mac p := rfl
@[simp] theorem State.mac_stat (p n k i : Nat) : (s.stat p n k).mac i = s.mac i := rfl
@[simp] theorem State.mac_emit (o : Out) (p : Nat) : (s.emit o).mac p = s.mac p := rfl
@[simp] theorem State.mac_setPrf (g : PrfSt → PrfSt) (p : Nat) : (s.setPrf g).mac p = s.mac p := rfl
@[simp] theorem State.mac_raise (base c src p : Nat) : (s.raise base c src).mac p = s.mac p := State.mac_congr (State.raise_dp ..) p

/-! ### What an update of the MAC record leaves -/

@[simp] theorem State.setMac_rd (p : Nat) (g : MacSt → MacSt) (a : Nat) : (s.setMac p g).rd a = s.rd a := rfl
@[simp] theorem State.setMac_fld (p : Nat) (g : MacSt → MacSt) (a i j : Nat) : (s.setMac p g).fld a i j = s.fld a i j := rfl
@[simp] theorem State.setMac_flag (p : Nat) (g : MacSt → MacSt) (a i : Nat) : (s.setMac p g).flag a i = s.flag a i := rfl
@[simp] theorem State.setMac_cnt (p : Nat) (g : MacSt → MacSt) (a : Nat) : (s.setMac p g).cnt a = s.cnt a := rfl
@[simp] theorem State.setMac_out (p : Nat) (g : MacSt → MacSt) : (s.setMac p g).out = s.out := rfl
@[simp] theorem State.stat_rd (p n k a : Nat) : (s.stat p n k).rd a = s.rd a := rfl
@[simp] theorem State.setTsu_rd (n : Nat) (g : TsuSt → TsuSt) (a : Nat) : (s.setTsu n g).rd a = s.rd a := rfl
@[simp] theorem State.setPrf_rd (g : PrfSt → PrfSt) (a : Nat) : (s.setPrf g).rd a = s.rd a := rfl

theorem State.linkState_congr {s t : State} {p : Nat} (h : t.rd (macPort p + 8) = s.rd (macPort p + 8)) : t.linkState p = s.linkState p :=
  congrArg (bits · 2 0) h

/-! ### Addresses -/

/-- A register of a port is neither an event's nor a capture of its quad. -/
theorem offEvent_macPort (p : Fin 16) {k : Nat} (h : k < 0x1000) : offEvent (macB (p.val / 4)) (macPort p.val + k) := by
  simp only [offEvent, inEvt, inCapture, macPort, macB]
  omega

theorem causeA_ne_macPort {d : Nat} (p k : Nat) (hd : d < 256) : causeA d ≠ macPort p + k := by
  simp only [causeA, evtB, macPort, macB]
  omega

/-! ### Frames -/

section
variable {s} {ks : List Part} {P Q : Nat → Prop} {t u : State}

theorem Keeps.setDp (h : Keeps ks P Q s t) (hk : Part.dp ∈ ks) (g : DataSt → DataSt) : Keeps ks P Q s (t.setDp g) :=
  ⟨Eq.trans (by simp [State.blank, State.setDp, hk]) h.1, h.2.1, h.2.2⟩

theorem Keeps.setMac (h : Keeps ks P Q s t) (hk : Part.dp ∈ ks) (p : Nat) (g : MacSt → MacSt) : Keeps ks P Q s (t.setMac p g) := h.setDp hk _

theorem Keeps.setPrf (h : Keeps ks P Q s t) (hk : Part.dp ∈ ks) (g : PrfSt → PrfSt) : Keeps ks P Q s (t.setPrf g) := h.setDp hk _

theorem Keeps.setFld (h : Keeps ks P Q s t) {a : Nat} (ha : P a) (hi lo v : Nat) : Keeps ks P Q s (t.setFld a hi lo v) := h.wr ha _

theorem Keeps.ite {c : Prop} {_ : Decidable c} (h : Keeps ks P Q s t) (k : Keeps ks P Q s u) : Keeps ks P Q s (if c then t else u) := by
  split
  · exact h
  · exact k

theorem Keeps.foldl {α : Type} {f : State → α → State} {l : List α} (h : Keeps ks P Q s t)
    (step : ∀ u, ∀ x ∈ l, Keeps ks P Q s u → Keeps ks P Q s (f u x)) : Keeps ks P Q s (l.foldl f t) :=
  List.foldlRecOn (motive := Keeps ks P Q s) l f h fun u hu x hx => step u x hx hu

/-- An event of its block within the frame of a command that raises events there. -/
theorem KeepsEv.raise {base : Nat} (h : KeepsEv base ks P Q s t) (c src : Nat) : KeepsEv base ks P Q s (t.raise base c src) := by
  obtain ⟨hblank, hrd, hcnt⟩ := h
  have hr := State.raise_only t base c src
  exact ⟨(State.blank_eq_of_besides ks _ _ hr.rest).trans hblank, fun a ha => (hr.regs a fun x => ha (.inl x)).trans (hrd a ha),
    fun a ha => (hr.cnts a fun x => ha (.inl x)).trans (hcnt a ha)⟩

theorem Keeps.setTx (h : Keeps ks P Q s t) (hd : Part.dp ∈ ks) (ho : Part.out ∈ ks) (p : Nat) (on : Bool) : Keeps ks P Q s (t.setTx p on) :=
  h.ite ((h.setMac hd _ _).emit ho _)

theorem Keeps.toLink (h : Keeps ks P Q s t) (hd : Part.dp ∈ ks) (ho : Part.out ∈ ks) {p : Nat} (hp : P (macPort p + 8)) (st : Nat) :
    Keeps ks P Q s (t.toLink p st) :=
  have hm := (h.setFld hp 2 0 st).setMac hd p _
  (hm.ite (hm.setFld hp _ _ _)).setTx hd ho _ _
end

/-! ### Entering a link state (Table 05-2) -/

theorem State.setTx_rd (p : Nat) (on : Bool) (a : Nat) : (s.setTx p on).rd a = s.rd a := by
  unfold State.setTx
  split <;> rfl

theorem State.setTx_mac (p : Nat) (on : Bool) : (s.setTx p on).mac p = { s.mac p with txOn := on } := by
  unfold State.setTx
  split
  · next h => rw [← h]
  · rw [State.mac_emit, State.mac_setMac]

theorem State.setTx_mono (p : Nat) (on : Bool) : (s.setTx p on).mono = s.mono := by
  unfold State.setTx
  split <;> rfl

/-- MAC_LINK and the MAC record on entering link state st, before the transmitters follow. -/
def State.linkSet (p st : Nat) : State :=
  let t := (s.setFld (macPort p + 8) 2 0 st).setMac p (fun m => { m with at_ := s.mono })
  if st = 5 then t else t.setFld (macPort p + 8) 5 4 0

theorem State.toLink_eq (p st : Nat) : ∃ on, s.toLink p st = (s.linkSet p st).setTx p on := by
  unfold State.toLink
  exact ⟨_, rfl⟩

theorem State.linkSet_rd_ne {p a : Nat} (st : Nat) (h : a ≠ macPort p + 8) : (s.linkSet p st).rd a = s.rd a := by
  unfold State.linkSet
  split
  · rw [State.setMac_rd, State.rd_setFld_ne _ _ _ _ _ _ h]
  · rw [State.rd_setFld_ne _ _ _ _ _ _ h, State.setMac_rd, State.rd_setFld_ne _ _ _ _ _ _ h]

theorem State.toLink_rd_ne {p a : Nat} (st : Nat) (h : a ≠ macPort p + 8) : (s.toLink p st).rd a = s.rd a := by
  obtain ⟨on, he⟩ := s.toLink_eq p st
  rw [he, State.setTx_rd, State.linkSet_rd_ne _ _ h]

/-- The state that is entered shows in MAC_LINK. -/
theorem State.linkState_toLink (p : Nat) {st : Nat} (h : st < 8) : (s.toLink p st).linkState p = st := by
  obtain ⟨on, he⟩ := s.toLink_eq p st
  have hst : (s.setFld (macPort p + 8) 2 0 st).linkState p = st := (State.fld_setFld _ _ _ _ _ (by decide) (by decide)).trans (Nat.mod_eq_of_lt h)
  rw [he, State.linkState_congr (State.setTx_rd _ _ _ _)]
  unfold State.linkSet
  split
  · exact hst
  · exact (State.fld_setFld_apart _ _ _ _ _ _ _ (by decide) (by decide) (by decide)).trans hst

/-- A bit of MAC_LINK above the fault bits stays. -/
theorem State.flag_toLink (p st : Nat) {i : Nat} (h : 5 < i ∧ i < 32) : (s.toLink p st).flag (macPort p + 8) i = s.flag (macPort p + 8) i := by
  obtain ⟨on, he⟩ := s.toLink_eq p st
  have hst : (s.setFld (macPort p + 8) 2 0 st).flag (macPort p + 8) i = s.flag (macPort p + 8) i :=
    (State.flag_setFld _ _ _ _ _ _ (by decide) h.2).trans (if_neg (by omega))
  rw [he, State.flag, State.setTx_rd]
  unfold State.linkSet
  split
  · exact hst
  · exact ((State.flag_setFld _ _ _ _ _ _ (by decide) h.2).trans (if_neg (by omega))).trans hst

theorem State.toLink_mac (p st : Nat) : ∃ on, (s.toLink p st).mac p = { s.mac p with at_ := s.mono, txOn := on } := by
  obtain ⟨on, he⟩ := s.toLink_eq p st
  refine ⟨on, ?_⟩
  rw [he, State.setTx_mac]
  unfold State.linkSet
  split <;> simp

theorem State.toLink_mono (p st : Nat) : (s.toLink p st).mono = s.mono := by
  obtain ⟨on, he⟩ := s.toLink_eq p st
  rw [he, State.setTx_mono]
  unfold State.linkSet
  split <;> rfl

theorem State.toLink_at (p st : Nat) : ((s.toLink p st).mac p).at_ = s.mono := by
  obtain ⟨on, h⟩ := s.toLink_mac p st
  rw [h]

theorem State.toLink_cfg (p st : Nat) : ((s.toLink p st).mac p).cfg = (s.mac p).cfg := by
  obtain ⟨on, h⟩ := s.toLink_mac p st
  rw [h]

/-! ### Registers written one after another -/

section
variable {α : Type} (f g : α → Nat) (l : List α)

theorem State.foldl_wr_dp : (l.foldl (fun s x => s.wr (f x) (g x)) s).dp = s.dp :=
  List.foldlRecOn (motive := fun t => t.dp = s.dp) l _ rfl fun t ht _ _ => (State.wr_dp t _ _).trans ht

theorem State.foldl_wr_mono : (l.foldl (fun s x => s.wr (f x) (g x)) s).mono = s.mono :=
  List.foldlRecOn (motive := fun t => t.mono = s.mono) l _ rfl fun t ht _ _ => (State.wr_mono t _ _).trans ht

theorem State.rd_foldl_wr_ne {a : Nat} (h : ∀ x ∈ l, a ≠ f x) : (l.foldl (fun s x => s.wr (f x) (g x)) s).rd a = s.rd a :=
  List.foldlRecOn (motive := fun t => t.rd a = s.rd a) l _ rfl fun t ht x hx => (State.rd_wr_ne t _ _ _ (h x hx)).trans ht

/-- A register that is written, and by each of its writers with the same value. -/
theorem State.rd_foldl_wr_mem {x : α} (hx : x ∈ l) (h : ∀ y ∈ l, f y = f x → g y = g x) :
    (l.foldl (fun s x => s.wr (f x) (g x)) s).rd (f x) = g x % 2 ^ 32 := by
  induction l using List.reverseRecOn with
  | nil => cases hx
  | append_singleton l y ih =>
    rw [List.foldl_append, List.foldl_cons, List.foldl_nil]
    by_cases he : f y = f x
    · rw [← he, State.rd_wr, h y (by simp) he]
    · have hl : x ∈ l := (List.mem_append.1 hx).resolve_right fun hy => he (congrArg f (List.mem_singleton.1 hy).symm)
      rw [State.rd_wr_ne _ _ _ _ (Ne.symm he), ih hl fun z hz => h z (by simp [hz])]

theorem Keeps.foldl_wr {s₀ : State} {ks : List Part} {P Q : Nat → Prop} (hs : Keeps ks P Q s₀ s) (h : ∀ x ∈ l, P (f x)) :
    Keeps ks P Q s₀ (l.foldl (fun s x => s.wr (f x) (g x)) s) := hs.foldl fun _ x hx hu => hu.wr (h x hx) _
end

theorem Raised.toLink {d : Nat} {s : State} (h : Raised d s) (hd : d < 256) (p st : Nat) : Raised d (s.toLink p st) := by
  rw [Raised, State.flag, State.toLink_rd_ne _ _ (causeA_ne_macPort _ _ hd)]
  exact h

end Sys2Proof.Machine
end

section
/-! Link states upward (R111, R112, R114, Table 05-2). -/
namespace Sys2Proof.Machine

variable (s : State)

/-! ### A write of EN (R112) -/

/-- EN as a write of MAC_PORT_CTRL leaves it. -/
def State.enSet (p v : Nat) : State := s.setFld (macPort p) 0 0 (bits v 0 0)

theorem State.enSet_rd {p a : Nat} (v : Nat) (h : a ≠ macPort p) : (s.enSet p v).rd a = s.rd a := State.rd_setFld_ne _ _ _ _ _ _ h

theorem State.enSet_linkState (p v : Nat) : (s.enSet p v).linkState p = s.linkState p :=
  State.linkState_congr (s.enSet_rd v (by omega))

theorem State.enSet_flag {p v : Nat} (hv : v.testBit 0 = true) : (s.enSet p v).flag (macPort p) 0 = true := by
  rw [State.enSet, State.flag_setFld _ _ _ _ _ _ (by decide) (by decide), if_pos (by decide), bits_testBit, hv]
  rfl

theorem State.enSet_keeps (p v : Nat) : Keeps [.dp, .out] (oneOf [macPort p, macPort p + 8]) noAddr s (s.enSet p v) :=
  (Keeps.refl _ _ _ s).wr (List.mem_cons_self ..) _

theorem macB_add_ne_macPort (p k i : Nat) (hk : k < 0x1000) : macB (p / 4) + k ≠ macPort p + i := by
  simp only [macPort]
  omega

/-- What linkEval reads beside MAC_LINK and EN. -/
theorem State.linkEval_reads {t : State} {p : Nat} (hq : ∀ k < 0x1000, t.rd (macB (p / 4) + k) = s.rd (macB (p / 4) + k))
    (hc : t.rd (macPort p + 4) = s.rd (macPort p + 4)) :
    t.portUsed p = s.portUsed p ∧ t.fecOk p = s.fecOk p ∧ t.running (macB (p / 4)) = s.running (macB (p / 4)) := by
  refine ⟨?_, ?_, ?_⟩
  · rw [State.portUsed, State.portUsed, State.fld, State.fld, hq 0x40 (by decide)]
  · unfold State.fecOk State.fld
    rw [hq 0x40 (by decide), hc]
  · unfold State.running State.blkState State.fld
    rw [hq 8 (by decide)]

theorem State.enSet_reads (p v : Nat) : (s.enSet p v).portUsed p = s.portUsed p ∧ (s.enSet p v).fecOk p = s.fecOk p ∧
    (s.enSet p v).running (macB (p / 4)) = s.running (macB (p / 4)) :=
  s.linkEval_reads (fun k hk => s.enSet_rd v (macB_add_ne_macPort p k 0 hk)) (s.enSet_rd v (by omega))

theorem State.portCtrl_of_disabled {p v : Nat} (cut : Bool) (hv : v.testBit 0 = true) : s.portCtrl p v cut =
    if bit v 1 && decide (((s.enSet p v).linkEval p).linkState p ≠ 0) then ((s.enSet p v).linkEval p).goLink p 1 cut
    else (s.enSet p v).linkEval p := by
  simp only [State.portCtrl, bit, hv]
  rfl

theorem State.goLink_of_not_up {p : Nat} (st : Nat) (cut : Bool) (h : s.linkState p ≠ 4) : s.goLink p st cut = s.toLink p st := if_neg h

/-- The configuration that a port reads on leaving DISABLED. -/
def State.cfgRead (p : Nat) : State := (s.setFld (macPort p + 8) 7 7 0).setMac p fun m => { m with cfg := s.rd (macPort p + 4) }

theorem State.linkEval_of_valid {p : Nat} (h0 : s.linkState p = 0) (hu : s.portUsed p = true) (he : s.flag (macPort p) 0 = true)
    (hf : s.fecOk p = true) (hr : s.running (macB (p / 4)) = true) : s.linkEval p = (s.cfgRead p).toLink p 1 := by
  have hne (a : Nat) (h : a ≠ macPort p + 8) : (s.setFld (macPort p + 8) 7 7 0).rd a = s.rd a := State.rd_setFld_ne _ _ _ _ _ _ h
  have hr' := (s.linkEval_reads (fun k hk => hne _ (macB_add_ne_macPort p k 8 hk)) (hne _ (by omega))).2.2.trans hr
  have hcfg := hne (macPort p + 4) (by omega)
  simp [State.linkEval, h0, hu, he, hf, hr', hcfg, State.cfgRead]

theorem State.linkEval_of_bad_fec {p : Nat} (h0 : s.linkState p = 0) (hu : s.portUsed p = true) (he : s.flag (macPort p) 0 = true)
    (hf : s.fecOk p = false) (h7 : s.flag (macPort p + 8) 7 = false) :
    s.linkEval p = (s.setFld (macPort p + 8) 7 7 1).raise (macB (p / 4)) Ev.linkCfgErr (Src.port p) := by
  simp [State.linkEval, h0, hu, he, hf, h7]

/-- A valid EN 1 in DISABLED enters SIGNAL_WAIT; RESTART written with it enters it once more. -/
theorem State.portCtrl_of_valid {p v : Nat} (cut : Bool) (hv : v.testBit 0 = true) (h0 : s.linkState p = 0) (hu : s.portUsed p = true)
    (hf : s.fecOk p = true) (hr : s.running (macB (p / 4)) = true) :
    ∃ t, s.portCtrl p v cut = t.toLink p 1 ∧ t.flag (macPort p + 8) 7 = false ∧ t.mono = s.mono ∧
      (t.mac p).cfg = s.rd (macPort p + 4) ∧ Keeps [.dp, .out] (oneOf [macPort p, macPort p + 8]) noAddr s t := by
  obtain ⟨hu', hf', hr'⟩ := s.enSet_reads p v
  have hev := (s.enSet p v).linkEval_of_valid ((s.enSet_linkState p v).trans h0) (hu'.trans hu) (s.enSet_flag hv) (hf'.trans hf) (hr'.trans hr)
  have hread : ((s.enSet p v).cfgRead p).flag (macPort p + 8) 7 = false ∧ ((s.enSet p v).cfgRead p).mono = s.mono ∧
      (((s.enSet p v).cfgRead p).mac p).cfg = s.rd (macPort p + 4) := by
    refine ⟨?_, rfl, ?_⟩
    · rw [State.cfgRead, State.setMac_flag, State.flag_setFld _ _ _ _ _ _ (by decide) (by decide)]
      rfl
    · rw [State.cfgRead, State.mac_setMac, s.enSet_rd v (by omega)]
  have hkeep : Keeps [.dp, .out] (oneOf [macPort p, macPort p + 8]) noAddr s ((s.enSet p v).cfgRead p) :=
    ((s.enSet_keeps p v).setFld (by simp [oneOf]) _ _ _).setMac (by decide) _ _
  obtain ⟨h7, hm, hc⟩ := hread
  have h1 := State.linkState_toLink ((s.enSet p v).cfgRead p) p (st := 1) (by decide)
  rw [s.portCtrl_of_disabled cut hv, hev]
  split
  · refine ⟨_, State.goLink_of_not_up _ _ _ (by rw [h1]; decide), ?_, ?_, ?_, hkeep.toLink (by decide) (by decide) (by simp [oneOf]) _⟩
    · rw [State.flag_toLink _ _ _ (by decide), h7]
    · rw [State.toLink_mono, hm]
    · rw [State.toLink_cfg, hc]
  · exact ⟨_, rfl, h7, hm, hc, hkeep⟩

theorem State.portCtrl_of_bad_fec {p v : Nat} (cut : Bool) (hv : v.testBit 0 = true) (h0 : s.linkState p = 0) (hu : s.portUsed p = true)
    (hf : s.fecOk p = false) (h7 : s.flag (macPort p + 8) 7 = false) (hp : p < 16) :
    s.portCtrl p v cut = ((s.enSet p v).setFld (macPort p + 8) 7 7 1).raise (macB (p / 4)) Ev.linkCfgErr (Src.port p) ∧
      (s.portCtrl p v cut).linkState p = 0 := by
  obtain ⟨hu', hf', -⟩ := s.enSet_reads p v
  have h0' := (s.enSet_linkState p v).trans h0
  have h7' : (s.enSet p v).flag (macPort p + 8) 7 = false := by rw [State.flag, s.enSet_rd v (by omega), ← State.flag, h7]
  have hev := (s.enSet p v).linkEval_of_bad_fec h0' (hu'.trans hu) (s.enSet_flag hv) (hf'.trans hf) h7'
  have hst : (((s.enSet p v).setFld (macPort p + 8) 7 7 1).raise (macB (p / 4)) Ev.linkCfgErr (Src.port p)).linkState p = 0 := by
    rw [State.linkState_congr (State.raise_rd _ _ _ _ _ (offEvent_macPort ⟨p, hp⟩ (by decide))), State.linkState,
      State.fld_setFld_apart _ _ _ _ _ _ _ (by decide) (by decide) (by decide)]
    exact h0'
  have he := s.portCtrl_of_disabled (p := p) cut hv
  rw [hev, if_neg (by simp [hst])] at he
  exact ⟨he, he ▸ hst⟩

end Sys2Proof.Machine
end

section
/-! Signal lock and UP (R67, R111, R114, R210, Table 05-2). -/
namespace Sys2Proof.Machine

variable (s : State)

/-! ### Signal lock -/

/-- A lane's status is no register of a port. -/
theorem laneStat_ne_macPort {l : Nat} (p k : Nat) (hk : k < 0x1000) : laneStat (p / 4) l ≠ macPort p + k := by
  simp only [laneStat, macPort]
  omega

/-- Every lane of the port shows its signal detected and locked. -/
def State.lanesLocked (p eye : Nat) : State := (s.portLanes p).foldl (fun s l => s.wr (laneStat (p / 4) l) (eye * 65536 + 3)) s

theorem State.lanesLocked_mac (p eye i : Nat) : (s.lanesLocked p eye).mac i = s.mac i := State.mac_congr (s.foldl_wr_dp _ _ _) i

theorem State.lanesLocked_mono (p eye : Nat) : (s.lanesLocked p eye).mono = s.mono := s.foldl_wr_mono _ _ _

theorem State.lanesLocked_rd {p eye l : Nat} (hl : l ∈ s.portLanes p) (he : eye < 65536) :
    (s.lanesLocked p eye).rd (laneStat (p / 4) l) = eye * 65536 + 3 := by
  rw [State.lanesLocked, s.rd_foldl_wr_mem _ _ _ hl fun _ _ _ => rfl, Nat.mod_eq_of_lt (by omega)]

theorem State.lanesLocked_rd_mac (p eye : Nat) {k : Nat} (hk : k < 0x8000) : (s.lanesLocked p eye).rd (macB (p / 4) + k) = s.rd (macB (p / 4) + k) := by
  refine s.rd_foldl_wr_ne _ _ _ fun l hl => ?_
  simp only [laneStat]
  omega

/-- The state after SIGNAL_WAIT: TRAINING under AN or LT, else ALIGNING. -/
def lockedTo (cfg : Nat) : Nat := if bit cfg 4 || bit cfg 5 then 2 else 3

/-- The port goes on from SIGNAL_WAIT. -/
def State.lockEntered (p eye : Nat) : State := (s.lanesLocked p eye).toLink p (lockedTo (s.mac p).cfg)

theorem State.signalLock_of_wait {p : Nat} (eye : Nat) (h1 : s.linkState p = 1) : s.signalLock p eye =
    if (s.mac p).cfg.testBit 5 then (s.lockEntered p eye).emit
      (.advert p ((s.lockEntered p eye).fld (macB (p / 4) + 0x40) 3 0) (bits (s.mac p).cfg 9 8))
    else s.lockEntered p eye := by
  have hc := congrArg MacSt.cfg (s.lanesLocked_mac p eye p)
  unfold State.lanesLocked at hc
  unfold State.signalLock
  rw [if_pos h1]
  dsimp only
  rw [hc]
  rfl

theorem State.lockEntered_ends (p : Nat) {eye : Nat} (he : eye < 65536) :
    (s.lockEntered p eye).linkState p = lockedTo (s.mac p).cfg ∧ ((s.lockEntered p eye).mac p).at_ = s.mono ∧
    (∀ l ∈ s.portLanes p, (s.lockEntered p eye).rd (laneStat (p / 4) l) = eye * 65536 + 3) ∧
    (s.lockEntered p eye).fld (macB (p / 4) + 0x40) 3 0 = s.fld (macB (p / 4) + 0x40) 3 0 ∧
    Keeps [.dp, .out] (fun a => a = macPort p + 8 ∨ ∃ l ∈ s.portLanes p, a = laneStat (p / 4) l) noAddr s (s.lockEntered p eye) := by
  have hto : lockedTo (s.mac p).cfg < 8 := by
    unfold lockedTo
    split <;> decide
  refine ⟨State.linkState_toLink _ _ hto, ?_, fun l hl => ?_, ?_, ?_⟩
  · rw [State.lockEntered, State.toLink_at, State.lanesLocked_mono]
  · rw [State.lockEntered, State.toLink_rd_ne _ _ (laneStat_ne_macPort p 8 (by decide)), s.lanesLocked_rd hl he]
  · rw [State.fld, State.lockEntered, State.toLink_rd_ne _ _ (macB_add_ne_macPort p 0x40 8 (by decide)), State.lanesLocked_rd_mac _ _ _ (by decide),
      State.fld]
  · exact ((Keeps.refl _ _ _ s).foldl_wr _ _ _ _ fun l hl => .inr ⟨l, hl, rfl⟩).toLink (by decide) (by decide) (.inl rfl) _

/-! ### Training and alignment -/

theorem State.anLtDone_of_done {p : Nat} {l : List (BitVec 4 × BitVec 2)} (h2 : s.linkState p = 2) (ht : s.mono < (s.mac p).at_ + 3 * uS)
    (ha : (s.mac p).cfg.testBit 5 = false ∨
      l.contains (BitVec.ofNat 4 (s.fld (macB (p / 4) + 0x40) 3 0), BitVec.ofNat 2 (bits (s.mac p).cfg 9 8)) = true) :
    s.anLtDone p l = s.toLink p 3 := by
  unfold State.anLtDone
  refine if_pos ?_
  rw [h2, decide_eq_true ht, bit]
  obtain ha | ha := ha
  · rw [ha]
    rfl
  · rw [ha, Bool.or_true]
    rfl

theorem State.trainTimeout_of_late {p : Nat} (h2 : s.linkState p = 2) (ht : (s.mac p).at_ + 3 * uS ≤ s.mono) :
    s.trainTimeout p = (s.raise (macB (p / 4)) Ev.linkTrainFail (Src.port p)).toLink p 1 := if_pos (by simp [h2, State.past, ht])

theorem State.alignTimeout_of_late {p : Nat} (h3 : s.linkState p = 3) (ht : (s.mac p).at_ + 100 * uMs ≤ s.mono) :
    s.alignTimeout p = s.toLink p 1 := if_pos (by simp [h3, State.past, ht])

theorem State.alignQualified_of_held {p : Nat} (h3 : s.linkState p = 3) (ht : (s.mac p).at_ + bits (s.mac p).cfg 31 16 * uUs ≤ s.mono) :
    s.alignQualified p = s.linkUpNow p := if_pos (by simp [h3, State.past, State.upQual, ht])

theorem State.faultCleared_of_clear {p : Nat} (h5 : s.linkState p = 5) (ht : (s.mac p).at_ + bits (s.mac p).cfg 31 16 * uUs ≤ s.mono) :
    s.faultCleared p = s.linkUpNow p := if_pos (by simp [h5, State.past, State.upQual, ht])

/-! ### UP -/

section
variable {s} {ks : List Part} {P Q : Nat → Prop} {t : State}

theorem Keeps.calSample (h : Keeps ks P Q s t) (hd : Part.dp ∈ ks) (p : Nat) (ts : Instant) : Keeps ks P Q s (t.calSample p ts) := by
  unfold State.calSample
  exact (h.setPrf hd _).ite h

theorem Keeps.txCapture (h : Keeps ks P Q s t) (hf : Part.free ∈ ks) (p : Nat) : Keeps ks P Q s (t.txCapture p).2.2 := h.draw hf

theorem Keeps.pauseNow (h : Keeps ks P Q s t) (hd : Part.dp ∈ ks) (ho : Part.out ∈ ks) (hf : Part.free ∈ ks) {p : Nat} (hq : Q (macPort p + 0x278))
    (k quanta : Nat) : Keeps ks P Q s (t.pauseNow p k quanta) := by
  unfold State.pauseNow
  exact ((((h.emit ho _).bump hq 1).txCapture hf p).calSample hd p _).setMac hd p _

theorem Keeps.sendPause (h : Keeps ks P Q s t) (hd : Part.dp ∈ ks) (ho : Part.out ∈ ks) (hf : Part.free ∈ ks) {p : Nat} (hq : Q (macPort p + 0x278))
    (k quanta : Nat) : Keeps ks P Q s (t.sendPause p k quanta) := (h.setMac hd _ _).ite (h.pauseNow hd ho hf hq k quanta)

theorem Keeps.fcCheck (h : Keeps ks P Q s t) (hd : Part.dp ∈ ks) (ho : Part.out ∈ ks) (hf : Part.free ∈ ks) {p : Nat} (hq : Q (macPort p + 0x278))
    (pri : Nat) : Keeps ks P Q s (t.fcCheck p pri) := by
  have hsend (k v quanta : Nat) : Keeps ks P Q s ((t.setMac p fun m => { m with xoff := mput (fun _ => 0) m.xoff k v }).sendPause p k quanta) :=
    (h.setMac hd _ _).sendPause hd ho hf hq k quanta
  unfold State.fcCheck
  exact ((hsend _ _ _).ite (h.setMac hd _ _)).ite ((hsend _ _ _).ite h)

theorem Keeps.calStart (h : Keeps ks P Q s t) (hs : Part.tsu ∈ ks) {p : Nat} (hp : P (tsuB p + 0x50)) : Keeps ks P Q s (t.calStart p) :=
  (h.setFld hp _ _ _).setTsu hs _ _

theorem Keeps.prfCalStart (h : Keeps ks P Q s t) (hd : Part.dp ∈ ks) {p : Nat} (hp : P (prfB + 0x104 + 0x10 * p)) : Keeps ks P Q s (t.prfCalStart p) :=
  (h.setFld hp _ _ _).setPrf hd _
end

/-- UP is entered and both calibrations start; pause frames may follow. -/
def State.upEntered (p : Nat) : State := (((s.toLink p 4).raise (macB (p / 4)) Ev.linkUp (Src.port p)).calStart p).prfCalStart p

theorem State.linkUpNow_keeps (p : Nat) : Keeps [.dp, .out, .free] noAddr (oneOf [macPort p + 0x278]) (s.upEntered p) (s.linkUpNow p) :=
  (Keeps.refl _ _ _ _).foldl fun _ k _ hu => hu.fcCheck (by decide) (by decide) (by decide) (List.mem_singleton_self _) k

theorem State.linkUpNow_rd (p a : Nat) : (s.linkUpNow p).rd a = (s.upEntered p).rd a := (s.linkUpNow_keeps p).2.1 a id

/-- A register that UP and the start of the calibrations leave to the event. -/
theorem State.upEntered_rd {p a : Nat} (h1 : a ≠ tsuB p + 0x50) (h2 : a ≠ prfB + 0x104 + 0x10 * p) :
    (s.upEntered p).rd a = ((s.toLink p 4).raise (macB (p / 4)) Ev.linkUp (Src.port p)).rd a := by
  rw [State.upEntered, State.prfCalStart, State.setPrf_rd, State.rd_setFld_ne _ _ _ _ _ _ h2, State.calStart, State.setTsu_rd,
    State.rd_setFld_ne _ _ _ _ _ _ h1]

theorem State.linkUpNow_ends (p : Fin 16) : (s.linkUpNow p.val).linkState p.val = 4 ∧ Raised Ev.linkUp (s.linkUpNow p.val) ∧
    (s.linkUpNow p.val).flag (tsuB p.val + 0x50) 2 = true ∧ (s.linkUpNow p.val).fld (prfB + 0x104 + 0x10 * p.val) 31 30 = 1 ∧
    KeepsEv (macB (p.val / 4)) [.dp, .tsu, .free] (oneOf [macPort p.val + 8, tsuB p.val + 0x50, prfB + 0x104 + 0x10 * p.val])
      (oneOf [macPort p.val + 0x278]) s (s.linkUpNow p.val) := by
  refine ⟨?state, ?raised, ?tsu, ?prf, ?keeps⟩
  case state =>
    have hne1 : macPort p.val + 8 ≠ tsuB p.val + 0x50 := by simp only [macPort, macB, tsuB]; omega
    have hne2 : macPort p.val + 8 ≠ prfB + 0x104 + 0x10 * p.val := by simp only [macPort, macB, prfB]; omega
    rw [State.linkState_congr (s.linkUpNow_rd _ _), State.linkState_congr (s.upEntered_rd hne1 hne2),
      State.linkState_congr (State.raise_rd _ _ _ _ _ (offEvent_macPort p (by decide))), State.linkState_toLink _ _ (by decide)]
  case raised =>
    have hne1 : causeA Ev.linkUp ≠ tsuB p.val + 0x50 := by simp only [causeA, evtB, tsuB, Ev.linkUp]; omega
    have hne2 : causeA Ev.linkUp ≠ prfB + 0x104 + 0x10 * p.val := by simp only [causeA, evtB, prfB, Ev.linkUp]; omega
    rw [Raised, State.flag, s.linkUpNow_rd, s.upEntered_rd hne1 hne2]
    exact State.raise_raised _ _ _ (by decide)
  case tsu =>
    have hne : tsuB p.val + 0x50 ≠ prfB + 0x104 + 0x10 * p.val := by simp only [tsuB, prfB]; omega
    rw [State.flag, s.linkUpNow_rd, State.upEntered, State.prfCalStart, State.setPrf_rd, State.rd_setFld_ne _ _ _ _ _ _ hne]
    exact (State.calStart_ends _ _).1
  case prf =>
    rw [State.fld, s.linkUpNow_rd, State.upEntered, State.prfCalStart, State.setPrf_rd]
    exact State.fld_setFld _ _ _ _ _ (by decide) (by decide)
  case keeps =>
    have hup : KeepsEv (macB (p.val / 4)) [.dp, .tsu, .free] (oneOf [macPort p.val + 8, tsuB p.val + 0x50, prfB + 0x104 + 0x10 * p.val])
        (oneOf [macPort p.val + 0x278]) s (s.upEntered p.val) :=
      have hs := Keeps.toLink (Keeps.refl _ _ _ s) (by decide) (by decide) (.inr (List.mem_cons_self ..)) 4
      ((KeepsEv.raise hs _ _).calStart (by decide) (.inr (List.Mem.tail _ (List.Mem.head _)))).prfCalStart (by decide)
        (.inr (List.Mem.tail _ (List.Mem.tail _ (List.Mem.head _))))
    unfold State.linkUpNow
    exact hup.foldl fun _ k _ hu => hu.fcCheck (by decide) (by decide) (by decide) (.inr (List.mem_singleton_self _)) k

end Sys2Proof.Machine
end

section
open Sys2Proof Sys2Proof.Machine

/-- Settles O24: EN, signal lock and UP each have one lemma for what the port enters; the other steps enter a state and nothing else. -/
theorem portLinkStatesGoUp : Obligations.PortLinkStatesGoUp := by
  refine ⟨?enable, ?cfgErr, ?lock, ?trained, ?trainLate, ?alignLate, ?aligned, ?cleared⟩
  case enable =>
    intro s p v cut h0 hv hu hf hr
    obtain ⟨t, he, h7, hm, hc, hk⟩ := s.portCtrl_of_valid cut hv h0 hu hf hr
    refine ⟨_, State.next_congr he, State.linkState_toLink _ _ (by decide), ?_, ?_, ?_, hk.toLink (by decide) (by decide) (by simp [oneOf]) _⟩
    · rw [State.flag_toLink _ _ _ (by decide), h7]
    · rw [State.toLink_at, hm]
    · rw [State.toLink_cfg, hc]
  case cfgErr =>
    intro s p v cut h0 hv hu hf h7
    obtain ⟨he, hst⟩ := s.portCtrl_of_bad_fec cut hv h0 hu hf h7 p.isLt
    refine ⟨_, State.next_congr he, he ▸ hst, ?_, State.raise_raised _ _ _ (by decide),
      KeepsEv.raise (((Keeps.refl _ _ _ s).setFld (.inr (List.Mem.head _)) _ _ _).setFld (.inr (List.Mem.tail _ (List.Mem.head _))) _ _ _) _ _⟩
    rw [State.raise_flag _ _ _ _ _ _ (offEvent_macPort p (by decide)), State.flag_setFld _ _ _ _ _ _ (by decide) (by decide)]
    rfl
  case lock =>
    intro s p eye h1
    obtain ⟨hst, hat, hlane, hmode, hk⟩ := s.lockEntered_ends p.val eye.isLt
    have hto : lockedTo (s.mac p).cfg = if (s.mac p).cfg.testBit 4 ∨ (s.mac p).cfg.testBit 5 then 2 else 3 := by simp [lockedTo, bit]
    have he := s.signalLock_of_wait eye.toNat h1
    rw [hmode] at he
    by_cases h5 : (s.mac p).cfg.testBit 5 = true
    · rw [if_pos h5] at he
      exact ⟨_, State.next_congr he, (State.emit_fld ..).trans (hst.trans hto), hat, hlane, fun _ => rfl, hk.emit (by decide) _⟩
    · rw [if_neg h5] at he
      exact ⟨_, State.next_congr he, hst.trans hto, hat, hlane, fun h => absurd h h5, hk⟩
  case trained =>
    intro s p l h2 ht ha
    refine ⟨_, State.next_congr (s.anLtDone_of_done h2 ht ha), State.linkState_toLink _ _ (by decide), State.toLink_at _ _ _,
      (Keeps.refl _ _ _ s).toLink (by decide) (by decide) (List.mem_singleton_self _) _⟩
  case trainLate =>
    intro s p h2 ht
    refine ⟨_, State.next_congr (s.trainTimeout_of_late h2 ht), State.linkState_toLink _ _ (by decide),
      (State.raise_raised _ _ _ (by decide)).toLink (by decide) _ _,
      (KeepsEv.raise (Keeps.refl _ _ _ s) _ _).toLink (by decide) (by decide) (.inr (List.mem_singleton_self _)) _⟩
  case alignLate =>
    intro s p h3 ht
    refine ⟨_, State.next_congr (s.alignTimeout_of_late h3 ht), State.linkState_toLink _ _ (by decide),
      (Keeps.refl _ _ _ s).toLink (by decide) (by decide) (List.mem_singleton_self _) _⟩
  case aligned =>
    intro s p h3 ht
    exact ⟨_, State.next_congr (s.alignQualified_of_held h3 ht), s.linkUpNow_ends p⟩
  case cleared =>
    intro s p h5 ht
    obtain ⟨hst, hr, hc, -, hk⟩ := s.linkUpNow_ends p
    exact ⟨_, State.next_congr (s.faultCleared_of_clear h5 ht), hst, hr, hc, hk⟩
end

section
/-! SUPPORT. A frame boundary, and what a port that leaves UP drops (R113, R121). -/
namespace Sys2Proof.Machine

variable (s : State)

/-! ### SA and SC entries (R121) -/

theorem State.saStore_mac (p v e : Nat) : (s.saStore p v e).mac p = { s.mac p with
    sas := mput (fun _ => 0#192) (s.mac p).sas (selKey v) (BitVec.ofNat 192 e)
    thresh := (s.mac p).thresh.filter (· ≠ selKey v)
    exhausted := (s.mac p).exhausted.filter (· ≠ selKey v)
    spent := (s.mac p).spent.filter (· ≠ selKey v) } := by
  unfold State.saStore State.setSa
  rw [State.mac_setMac, State.mac_setMac]

theorem State.saLoad_mac (p v i : Nat) : (s.saLoad p v).mac i = s.mac i := State.mac_congr (s.foldl_wr_dp _ _ _) i

/-- W0 to W5 show the entry that MAC_SA_SEL selects. -/
theorem State.saLoad_rd (p v : Nat) {n : Nat} (hn : n < 6) :
    (s.saLoad p v).rd (saW p n) = bits (s.sa p (selKey v)) (191 - 32 * n) (160 - 32 * n) := by
  have hlt := bits_lt (s.sa p (selKey v)) (191 - 32 * n) (160 - 32 * n)
  rw [show 191 - 32 * n + 1 - (160 - 32 * n) = 32 by omega] at hlt
  unfold State.saLoad
  rw [s.rd_foldl_wr_mem _ _ _ (List.mem_range.2 hn), Nat.mod_eq_of_lt hlt]
  intro m _ he
  simp only [saW] at he
  rw [show m = n by omega]

section
variable {s} {ks : List Part} {P Q : Nat → Prop} {t : State}

theorem Keeps.saStore (h : Keeps ks P Q s t) (hd : Part.dp ∈ ks) (p v e : Nat) : Keeps ks P Q s (t.saStore p v e) :=
  (h.setMac hd _ _).setMac hd _ _

theorem Keeps.saLoad (h : Keeps ks P Q s t) {p : Nat} (hp : ∀ a, macPort p + 0x54 ≤ a → a ≤ macPort p + 0x68 → P a) (v : Nat) :
    Keeps ks P Q s (t.saLoad p v) := by
  refine h.foldl_wr _ _ _ _ fun n hn => hp _ ?_ ?_
  · simp only [saW]
    omega
  · have hn := List.mem_range.1 hn
    simp only [saW]
    omega

theorem Keeps.saBoundary (h : Keeps ks P Q s t) (hd : Part.dp ∈ ks) {p : Nat} (hp : ∀ a, macPort p + 0x50 ≤ a → a ≤ macPort p + 0x68 → P a) :
    Keeps ks P Q s (t.saBoundary p) := by
  unfold State.saBoundary
  split
  · exact h
  · have hbusy := (h.setMac hd p fun m => { m with saPend := none }).setFld (hp (macPort p + 0x50) (by omega) (by omega)) 31 31 0
    have hst (v : Nat) (e : BitVec 192) := hbusy.saStore hd p v e.toNat
    exact ((hst _ _).saLoad (fun a h1 h2 => hp a (by omega) h2) _).ite (hst _ _)

theorem Keeps.fcStat (h : Keeps ks P Q s t) {p : Nat} (hp : P (macPort p + 0x30)) : Keeps ks P Q s (t.fcStat p) := h.wr hp _
end

/-- The frame boundary takes the write that waited and leaves what the port sends, stages and pauses. -/
theorem State.saBoundary_mac (p : Nat) : ((s.saBoundary p).mac p).saPend = none ∧ ((s.saBoundary p).mac p).cur = (s.mac p).cur ∧
    ((s.saBoundary p).mac p).staged = (s.mac p).staged ∧ ((s.saBoundary p).mac p).paused = (s.mac p).paused ∧
    ((s.saBoundary p).mac p).pauseQ = (s.mac p).pauseQ ∧
    ∀ v e, (s.mac p).saPend = some (v, e) → (s.saBoundary p).sa p (selKey v) = e.toNat := by
  unfold State.saBoundary
  split
  · next h => exact ⟨h, rfl, rfl, rfl, rfl, fun v e he => by rw [h] at he; cases he⟩
  · next v e h =>
    have hmac (t : State) (ht : t.mac p = { s.mac p with saPend := none }) : (if bit v 28 then (t.saStore p v e.toNat).saLoad p v
        else t.saStore p v e.toNat).mac p = (t.saStore p v e.toNat).mac p := by
      split
      · rw [State.saLoad_mac]
      · rfl
    have ht : (((s.setMac p fun m => { m with saPend := none }).setFld (macPort p + 0x50) 31 31 0)).mac p = { s.mac p with saPend := none } := by
      rw [State.mac_setFld, State.mac_setMac]
    have hm := hmac _ ht
    rw [State.saStore_mac, ht] at hm
    refine ⟨?_, ?_, ?_, ?_, ?_, fun v' e' he => ?_⟩
    · rw [hm]
    · rw [hm]
    · rw [hm]
    · rw [hm]
    · rw [hm]
    · obtain ⟨rfl, rfl⟩ := Prod.mk.inj (Option.some.inj (h.symm.trans he))
      rw [State.sa, hm, mget_mput, if_pos rfl, BitVec.ofNat_toNat, BitVec.setWidth_eq]

end Sys2Proof.Machine
end

section
/-! Link states downward (R109, R112, R113, Table 05-2). -/
namespace Sys2Proof.Machine

variable (s : State)

/-! ### Leaving UP -/

/-- The frame in transmission ends with an error code. -/
def State.curEnded (p : Nat) : State := match (s.mac p).cur with
  | none => s
  | some t => (((s.stat p 16 1).emit (.txAbort p)).leaveGroup t.cp).endCopy t.cp.f.id (!t.cp.deep) .dropped

/-- The staged frames are flushed. -/
def State.stagedEnded (p : Nat) : State :=
  (s.mac p).staged.foldl (fun s c => ((s.stat p 17 1).leaveGroup c).endCopy c.f.id (!c.deep) .dropped) (s.curEnded p)

/-- Nothing is in transmission, staged or paused, and the frame boundary has passed. -/
def State.portCleared (p : Nat) : State :=
  ((s.stagedEnded p).setMac p (fun m => { m with
    cur := none, staged := [], paused := [], pausedSince := [], xoff := [], pauseQ := [], busyTo := 0, heldEnds := 0 })).saBoundary p

/-- DOWN_CNT counts. -/
def State.downCounted (p : Nat) : State :=
  (s.fcStat p).setFld (macPort p + 8) 31 16 (min 0xFFFF ((s.fcStat p).fld (macPort p + 8) 31 16 + 1))

/-- Both calibrations of the port end. -/
def State.calsEnded (p : Nat) : State :=
  ((s.calLinkDown p).setFld (prfB + 0x104 + 0x10 * p) 31 30 0).setPrf (fun f => { f with adj := mput (fun _ => none) f.adj p none })

/-- The eye heights of the port's lanes are forgotten. -/
def State.eyesForgotten (p : Nat) : State :=
  s.setPw fun x => { x with eye := x.eye.filter (fun l => !((s.portLanes p).map (fun l => 4 * (p / 4) + l)).contains l) }

/-- The port as it leaves UP, before the event. -/
def State.portDown (p : Nat) : State := (((s.portCleared p).downCounted p).calsEnded p).eyesForgotten p

theorem State.leaveUp_eq (p st : Nat) :
    s.leaveUp p st = ((s.portDown p).raise (macB (p / 4)) Ev.linkDown (Src.port p)).toLink p st := by
  unfold State.leaveUp State.portDown State.portCleared State.stagedEnded State.curEnded State.downCounted State.calsEnded State.eyesForgotten
  rfl

theorem State.portCleared_mac (p : Nat) : ((s.portCleared p).mac p).cur = none ∧ ((s.portCleared p).mac p).staged = [] ∧
    ((s.portCleared p).mac p).paused = [] := by
  unfold State.portCleared
  obtain ⟨-, hcur, hstaged, hpaused, -, -⟩ := State.saBoundary_mac ((s.stagedEnded p).setMac p (fun m => { m with
    cur := none, staged := [], paused := [], pausedSince := [], xoff := [], pauseQ := [], busyTo := 0, heldEnds := 0 })) p
  rw [hcur, hstaged, hpaused, State.mac_setMac]
  exact ⟨rfl, rfl, rfl⟩

theorem State.portDown_mac (p : Nat) : (s.portDown p).mac p = (s.portCleared p).mac p :=
  calc (s.portDown p).mac p = ((((s.portCleared p).downCounted p).calsEnded p)).mac p := State.mac_congr (State.setPw_dp ..) p
    _ = ((s.portCleared p).downCounted p).mac p := by rw [State.calsEnded, State.mac_setPrf, State.mac_setFld, State.calLinkDown, State.mac_setFld]
    _ = (s.portCleared p).mac p := by rw [State.downCounted, State.mac_setFld, State.fcStat, State.mac_wr]

theorem State.portDown_cnt (p a : Nat) : (s.portDown p).cnt a = (s.portCleared p).cnt a :=
  calc (s.portDown p).cnt a = ((((s.portCleared p).downCounted p).calsEnded p)).cnt a := State.setPw_cnt ..
    _ = ((s.portCleared p).downCounted p).cnt a := by
      rw [State.calsEnded, State.setPrf, State.setDp_cnt, State.setFld_cnt, State.calLinkDown, State.setFld_cnt]
    _ = (s.portCleared p).cnt a := by rw [State.downCounted, State.setFld_cnt, State.fcStat, State.wr_cnt]

theorem State.downCounted_fld (p : Nat) : (s.downCounted p).fld (macPort p + 8) 31 16 = min 0xFFFF (s.fld (macPort p + 8) 31 16 + 1) := by
  have hst : (s.fcStat p).fld (macPort p + 8) 31 16 = s.fld (macPort p + 8) 31 16 := by
    rw [State.fld, State.fcStat, State.rd_wr_ne _ _ _ _ (by omega), State.fld]
  rw [State.downCounted, State.fld_setFld _ _ _ _ _ (by decide) (by decide), hst]
  exact Nat.mod_eq_of_lt (by omega)

theorem State.portDown_fld (p : Fin 16) :
    (s.portDown p.val).fld (macPort p.val + 8) 31 16 = min 0xFFFF ((s.portCleared p.val).fld (macPort p.val + 8) 31 16 + 1) := by
  have h1 : macPort p.val + 8 ≠ prfB + 0x104 + 0x10 * p.val := by simp only [macPort, macB, prfB]; omega
  have h2 : macPort p.val + 8 ≠ tsuB p.val + 0x50 := by simp only [macPort, macB, tsuB]; omega
  rw [State.portDown, State.eyesForgotten, State.setPw_fld, State.calsEnded, State.setPrf, State.setDp_fld, State.fld_setFld_ne _ _ _ _ _ _ _ _ h1,
    State.calLinkDown, State.fld_setFld_ne _ _ _ _ _ _ _ _ h2, State.downCounted_fld]

/-- A field of MAC_LINK above the fault bits stays. -/
theorem State.fld_toLink (p st : Nat) {hi lo : Nat} (h : 5 < lo ∧ hi < 32) :
    (s.toLink p st).fld (macPort p + 8) hi lo = s.fld (macPort p + 8) hi lo := by
  obtain ⟨on, he⟩ := s.toLink_eq p st
  rw [he, State.fld, State.setTx_rd, ← State.fld]
  unfold State.linkSet
  split
  · rw [State.setMac_fld, State.fld_setFld_apart _ _ _ _ _ _ _ (by decide) h.2 (.inr (by omega))]
  · rw [State.fld_setFld_apart _ _ _ _ _ _ _ (by decide) h.2 (.inr h.1), State.setMac_fld,
      State.fld_setFld_apart _ _ _ _ _ _ _ (by decide) h.2 (.inr (by omega))]

theorem State.setTx_cnt (p : Nat) (on : Bool) (a : Nat) : (s.setTx p on).cnt a = s.cnt a := by
  unfold State.setTx
  split <;> rfl

theorem State.toLink_cnt (p st a : Nat) : (s.toLink p st).cnt a = s.cnt a := by
  obtain ⟨on, he⟩ := s.toLink_eq p st
  rw [he, State.setTx_cnt]
  unfold State.linkSet
  split <;> rfl

theorem State.leaveUp_at (p st : Nat) : ((s.leaveUp p st).mac p).at_ = s.mono := by
  have hm := (Spares.leaveUp (p := p) (st := st) (.refl s)).mono
  rw [s.leaveUp_eq, State.toLink_mono] at hm
  rw [s.leaveUp_eq, State.toLink_at, hm]

theorem State.linkState_leaveUp (p : Nat) {st : Nat} (h : st < 8) : (s.leaveUp p st).linkState p = st := by
  rw [s.leaveUp_eq, State.linkState_toLink _ _ h]

/-- A port goes to a link state from any: the state shows, from now on. -/
theorem State.goLink_ends (p : Nat) {st : Nat} (cut : Bool) (h : st < 8) :
    (s.goLink p st cut).linkState p = st ∧ ((s.goLink p st cut).mac p).at_ = s.mono := by
  have hcut : (if cut then s.stat p 12 1 else s).mono = s.mono := by split <;> rfl
  unfold State.goLink
  split
  · exact ⟨State.linkState_leaveUp _ _ h, (State.leaveUp_at _ _ _).trans hcut⟩
  · exact ⟨s.linkState_toLink _ h, s.toLink_at _ _⟩

theorem State.goLink_of_up {p : Nat} (st : Nat) (cut : Bool) (h : s.linkState p = 4) :
    s.goLink p st cut = (if cut then s.stat p 12 1 else s).leaveUp p st := if_pos h

/-- With no frame in the port nothing is flushed. -/
theorem State.stagedEnded_of_empty {p : Nat} (hc : (s.mac p).cur = none) (hs : (s.mac p).staged = []) : s.stagedEnded p = s := by
  rw [State.stagedEnded, hs, State.curEnded, hc]
  rfl

/-! ### EN 0, RESTART and loss of signal -/

theorem State.portCtrl_of_off {p v : Nat} (cut : Bool) (hv : v.testBit 0 = false) (hl : s.linkState p ≠ 0) :
    s.portCtrl p v cut = (s.enSet p v).goLink p 0 cut := by
  have hen : (s.enSet p v).linkState p ≠ 0 := by rwa [s.enSet_linkState]
  have h0 := ((s.enSet p v).goLink_ends p cut (st := 0) (by decide)).1
  unfold State.enSet at hen h0
  unfold State.portCtrl
  simp only [bit, hv, Bool.not_false, if_true, if_neg hen, h0]
  simp [State.enSet]

theorem State.portRestart_of_on {p : Nat} (cut : Bool) (hl : s.linkState p ≠ 0) : s.portRestart p cut = s.goLink p 1 cut := if_neg hl

/-- The lane shows whether its signal is still detected; it is no longer locked. -/
def State.laneLost (p l : Nat) (sig : Bool) : State := s.setFld (laneStat (p / 4) l) 1 0 (b2n sig)

theorem State.signalLoss_of_lane {p m : Nat} (sig cut : Bool) (h : s.rxLane (p / 4) m ∈ s.portLanes p) : s.signalLoss p m sig cut =
    if s.linkState p = 4 ∨ s.linkState p = 5 then (s.laneLost p (s.rxLane (p / 4) m) sig).goLink p 1 cut
    else s.laneLost p (s.rxLane (p / 4) m) sig := by
  have hst : (s.laneLost p (s.rxLane (p / 4) m) sig).linkState p = s.linkState p :=
    State.linkState_congr (State.rd_setFld_ne _ _ _ _ _ _ (laneStat_ne_macPort p 8 (by decide)).symm)
  unfold State.laneLost at hst
  unfold State.signalLoss
  simp only [List.contains_iff_mem.2 h, if_true, hst, State.laneLost, Bool.or_eq_true, decide_eq_true_eq]

/-! ### Faults -/

/-- A port leaves UP for FAULT with bit `i` of MAC_LINK. -/
def State.faultEntered (p i : Nat) : State :=
  ((s.leaveUp p 5).setFld (macPort p + 8) i i 1).raise (macB (p / 4)) Ev.linkFault (Src.port p)

theorem State.faultDetect_of_up {p : Nat} (remote cut : Bool) (h4 : s.linkState p = 4) : s.faultDetect p remote cut =
    (if cut then s.stat p 12 1 else s).faultEntered p (if remote then 5 else 4) := by
  simp only [State.faultDetect, h4, if_true, s.goLink_of_up 5 cut h4, State.faultEntered]

theorem State.faultDetect_of_other {p : Nat} (remote cut : Bool) (h4 : s.linkState p ≠ 4) (h5 : s.linkState p ≠ 5) :
    s.faultDetect p remote cut = s := by
  unfold State.faultDetect
  rw [if_neg h4, if_neg h5]

theorem State.leaveUp_mac (p st : Nat) : ((s.leaveUp p st).mac p).cur = none ∧ ((s.leaveUp p st).mac p).staged = [] ∧
    ((s.leaveUp p st).mac p).paused = [] := by
  obtain ⟨on, hm⟩ := State.toLink_mac ((s.portDown p).raise (macB (p / 4)) Ev.linkDown (Src.port p)) p st
  rw [s.leaveUp_eq, hm, State.mac_raise, State.portDown_mac]
  exact s.portCleared_mac p

theorem State.leaveUp_fld (p : Fin 16) (st : Nat) : (s.leaveUp p.val st).fld (macPort p.val + 8) 31 16 =
    min 0xFFFF ((s.portCleared p.val).fld (macPort p.val + 8) 31 16 + 1) := by
  rw [s.leaveUp_eq, State.fld_toLink _ _ _ (by decide), State.raise_fld _ _ _ _ _ _ _ (offEvent_macPort p (by decide)), State.portDown_fld]

theorem State.leaveUp_cnt (p : Fin 16) (st : Nat) {k : Nat} (hk : k < 0x1000) :
    (s.leaveUp p.val st).cnt (macPort p.val + k) = (s.portCleared p.val).cnt (macPort p.val + k) := by
  rw [s.leaveUp_eq, State.toLink_cnt, State.raise_cnt _ _ _ _ _ (offEvent_macPort p hk).1, State.portDown_cnt]

theorem State.leaveUp_raised (p st : Nat) : Raised Ev.linkDown (s.leaveUp p st) := by
  rw [s.leaveUp_eq]
  exact (State.raise_raised _ _ _ (by decide)).toLink (by decide) _ _

/-- FAULT keeps no frame and no pause. -/
theorem State.faultEntered_mac (p i : Nat) : ((s.faultEntered p i).mac p).cur = none ∧ ((s.faultEntered p i).mac p).staged = [] ∧
    ((s.faultEntered p i).mac p).paused = [] := by
  rw [State.faultEntered, State.mac_raise, State.mac_setFld]
  exact s.leaveUp_mac p 5

/-- FAULT shows in MAC_LINK with its bit and DOWN_CNT. -/
theorem State.faultEntered_link (p : Fin 16) {i : Nat} (hi : 2 < i ∧ i < 16) :
    (s.faultEntered p.val i).linkState p.val = 5 ∧ (s.faultEntered p.val i).flag (macPort p.val + 8) i = true ∧
    (s.faultEntered p.val i).fld (macPort p.val + 8) 31 16 = min 0xFFFF ((s.portCleared p.val).fld (macPort p.val + 8) 31 16 + 1) := by
  have hoff := offEvent_macPort p (k := 8) (by decide)
  refine ⟨?_, ?_, ?_⟩
  · rw [State.faultEntered, State.linkState_congr (State.raise_rd _ _ _ _ _ hoff), State.linkState,
      State.fld_setFld_apart _ _ _ _ _ _ _ le_rfl (by decide) (.inl hi.1)]
    exact s.linkState_leaveUp _ (by decide)
  · rw [State.faultEntered, State.raise_flag _ _ _ _ _ _ hoff, State.flag_setFld _ _ _ _ _ _ le_rfl (by omega), if_pos ⟨le_rfl, le_rfl⟩,
      Nat.sub_self]
    exact (Nat.testBit_zero 1).trans rfl
  · rw [State.faultEntered, State.raise_fld _ _ _ _ _ _ _ hoff,
      State.fld_setFld_apart _ _ _ _ _ _ _ le_rfl (by decide) (.inr (by omega)), s.leaveUp_fld]

theorem State.faultEntered_cnt (p : Fin 16) (i : Nat) {k : Nat} (hk : k < 0x1000) :
    (s.faultEntered p.val i).cnt (macPort p.val + k) = (s.portCleared p.val).cnt (macPort p.val + k) := by
  rw [State.faultEntered, State.raise_cnt _ _ _ _ _ (offEvent_macPort p hk).1, State.setFld_cnt, s.leaveUp_cnt p 5 hk]

/-- Both events of the fault stand: LINK_DOWN and then LINK_FAULT. -/
theorem State.faultEntered_raised (p i : Nat) : Raised Ev.linkDown (s.faultEntered p i) ∧ Raised Ev.linkFault (s.faultEntered p i) := by
  have hdown := (s.leaveUp_raised p 5).setFld (a := macPort p + 8) (hi := i) (lo := i) (v := 1) (causeA_ne_macPort _ _ (by decide))
  refine ⟨Raised.raiseAt _ _ _ _ (by decide) (.inr ⟨hdown, ?_⟩), State.raise_raised _ _ _ (by decide)⟩
  simp only [inCapture, causeA, evtB, macB, Ev.linkDown]
  omega

/-- With no frame in the port MAC_LINK and the counters are as before. -/
theorem State.portCleared_of_empty {p : Nat} (hc : (s.mac p).cur = none) (hs : (s.mac p).staged = []) :
    (s.portCleared p).rd (macPort p + 8) = s.rd (macPort p + 8) ∧ ∀ a, (s.portCleared p).cnt a = s.cnt a := by
  have hk := (((Keeps.refl [.dp] (fun a => macPort p + 0x50 ≤ a) noAddr (s.stagedEnded p)).setMac (by decide) p (fun m => { m with
    cur := none, staged := [], paused := [], pausedSince := [], xoff := [], pauseQ := [], busyTo := 0, heldEnds := 0 })).saBoundary (by decide)
    fun _ h _ => h)
  rw [s.stagedEnded_of_empty hc hs] at hk
  unfold State.portCleared
  rw [s.stagedEnded_of_empty hc hs]
  exact ⟨hk.2.1 _ (by omega), fun a => hk.2.2 a id⟩

end Sys2Proof.Machine
end

section
open Sys2Proof Sys2Proof.Machine

/-- Settles O25: whatever a port drops on leaving UP, it enters its next state last and at the same time (`State.leaveUp_eq`). -/
theorem portLinkStatesGoDown : Obligations.PortLinkStatesGoDown := by
  refine ⟨?off, ?restart, ?restartOff, ?fault, ?faultEmpty, ?faultOther, ?lossUp, ?lossOther⟩
  case off =>
    intro s p v cut hv hl
    exact ⟨_, State.next_congr (s.portCtrl_of_off cut hv hl), State.goLink_ends _ _ _ (by decide)⟩
  case restart =>
    intro s p cut hl
    exact ⟨_, State.next_congr (s.portRestart_of_on cut hl), s.goLink_ends _ _ (by decide)⟩
  case restartOff => exact fun s p cut h0 => State.next_congr (if_pos h0)
  case fault =>
    intro s p remote cut h4
    have hi : 2 < (if remote then 5 else 4) ∧ (if remote then 5 else 4) < 16 := by cases remote <;> decide
    obtain ⟨hst, hfl, -⟩ := State.faultEntered_link (if cut then s.stat p.val 12 1 else s) p hi
    obtain ⟨hcur, hstaged, hpaused⟩ := State.faultEntered_mac (if cut then s.stat p.val 12 1 else s) p.val (if remote then 5 else 4)
    exact ⟨_, State.next_congr (s.faultDetect_of_up remote cut h4), hst, hfl, hcur, hstaged, hpaused, State.faultEntered_raised ..⟩
  case faultEmpty =>
    intro s p remote h4 hc hs
    have hi : 2 < (if remote then 5 else 4) ∧ (if remote then 5 else 4) < 16 := by cases remote <;> decide
    obtain ⟨-, -, hfld⟩ := State.faultEntered_link (s.stat p.val 12 1) p hi
    have hcnt := State.faultEntered_cnt (s.stat p.val 12 1) p (if remote then 5 else 4) (k := 0x260) (by decide)
    obtain ⟨hrd, hcl⟩ := (s.stat p.val 12 1).portCleared_of_empty (p := p.val) hc hs
    refine ⟨_, State.next_congr (s.faultDetect_of_up remote true h4), ?_, ?_⟩
    · rw [if_pos rfl, hfld, State.fld, hrd, State.stat_rd, State.fld]
    · rw [if_pos rfl, hcnt, hcl]
      exact State.cnt_bump_self _ _
  case faultOther => exact fun s p remote cut h4 h5 => State.next_congr (s.faultDetect_of_other remote cut h4 h5)
  case lossUp =>
    intro s p m sig cut hl hst
    exact ⟨_, State.next_congr ((s.signalLoss_of_lane sig cut hl).trans (if_pos hst)), State.goLink_ends _ _ _ (by decide)⟩
  case lossOther =>
    intro s p m sig cut hl h4 h5
    refine ⟨_, State.next_congr ((s.signalLoss_of_lane sig cut hl).trans (if_neg (by simp [h4, h5]))), ?_, ?_, State.wr_keeps _ _ _⟩
    · rw [State.laneLost, State.flag_setFld _ _ _ _ _ _ (by decide) (by decide)]
      cases sig <;> rfl
    · rw [State.laneLost, State.flag_setFld _ _ _ _ _ _ (by decide) (by decide)]
      cases sig <;> rfl
end

section
/-! Received frames (R117, R126, R171, Table 05-4). -/
namespace Sys2Proof.Machine

variable (s : State)

/-! ### What a received frame leaves before its checks -/

/-- A statistics counter of port p counts and saturates. -/
theorem State.cnt_stat_self (p n k : Nat) :
    (s.stat p n k).cnt (macPort p + 0x200 + 8 * n) = min top64 (s.cnt (macPort p + 0x200 + 8 * n) + k) :=
  (State.cnt_bump ..).trans (if_pos rfl)

/-- The codewords and blocks of a frame are counted and its capture is taken. -/
def State.rxSeen (p corr unc inv : Nat) : State :=
  (((s.bump (macPort p + 0x300) corr).bump (macPort p + 0x308) unc).bump (macPort p + 0x310) inv).draw.2

theorem State.rxSeen_dp (p corr unc inv : Nat) : (s.rxSeen p corr unc inv).dp = s.dp := rfl

/-- A frame that passed is counted with its octets. -/
def State.rxCounted (p corr unc inv len : Nat) : State := ((s.rxSeen p corr unc inv).stat p 0 len).stat p 1 1

theorem State.rxSeen_cnt (p corr unc inv : Nat) {n : Nat} (hn : n < 32) :
    (s.rxSeen p corr unc inv).cnt (macPort p + 0x200 + 8 * n) = s.cnt (macPort p + 0x200 + 8 * n) :=
  calc (((s.bump (macPort p + 0x300) corr).bump (macPort p + 0x308) unc).bump (macPort p + 0x310) inv).cnt (macPort p + 0x200 + 8 * n)
    _ = s.cnt (macPort p + 0x200 + 8 * n) := by
      rw [State.cnt_bump_ne _ _ (by omega), State.cnt_bump_ne _ _ (by omega), State.cnt_bump_ne _ _ (by omega)]

theorem Keeps.rxSeen {s₀ s : State} {ks : List Part} {P Q : Nat → Prop} (h : Keeps ks P Q s₀ s) (hk : Part.free ∈ ks) {p : Nat}
    (h0 : Q (macPort p + 0x300)) (h1 : Q (macPort p + 0x308)) (h2 : Q (macPort p + 0x310)) (corr unc inv : Nat) :
    Keeps ks P Q s₀ (s.rxSeen p corr unc inv) :=
  (((h.bump h0 corr).bump h1 unc).bump h2 inv).draw hk

/-- The capture and its CAL flag. -/
def State.rxCaptured (p corr unc inv : Nat) : Instant × Bool :=
  let c := (((s.bump (macPort p + 0x300) corr).bump (macPort p + 0x308) unc).bump (macPort p + 0x310) inv).rxCapture p
  (c.1, c.2.1)

/-! ### The ends of a received frame -/

/-- The frame as it enters the device, but for its number. -/
def State.frameOf (p : Nat) (bs : List Byte) (c : Instant × Bool) : Frame :=
  { id := 0, bytes := bs.take (bs.length - 4), fcs := true, src := .port p, md := busOf p c.1 false,
    rx := some ⟨p, c.2, s.tq, bs.length, c.1, bs.take (bs.length - 4)⟩ }

theorem State.secRx_of_off {p : Nat} (bs : List Byte) (h : (s.secCfg p).testBit 31 = false) : s.secRx p bs = (⟨some (bs, false), none⟩, s) :=
  if_pos (by simp [bit, h])

/-- A frame that is no pause frame goes on as MACsec leaves it. -/
def State.rxPlain (p : Nat) (bs : List Byte) (c : Instant × Bool) : State :=
  let wire := bs.take (bs.length - 4)
  let r := s.secRx p wire
  let s := match r.1.stat with
    | none => r.2
    | some k => r.2.stat p k 1
  match r.1.deliver with
  | none => s
  | some (plain, unv) =>
    ((s.stat p 0 bs.length).stat p 1 1).toPipe p
      { id := 0, bytes := plain, fcs := true, src := .port p, md := busOf p c.1 unv,
        rx := some ⟨p, c.2, ((s.stat p 0 bs.length).stat p 1 1).tq, bs.length, c.1, wire⟩ }

theorem State.rxPlain_of_off {p : Nat} (bs : List Byte) (c : Instant × Bool) (h : (s.secCfg p).testBit 31 = false) :
    s.rxPlain p bs c = ((s.stat p 0 bs.length).stat p 1 1).toPipe p (s.frameOf p bs c) := by
  rw [State.rxPlain, State.secRx_of_off _ _ h]
  rfl

/-- The checks of Table 05-4 and what follows them. -/
def State.rxEnds (p : Nat) (bs : List Byte) (bad : Bool) (c : Instant × Bool) : State :=
  match s.rxCheck p bs bad with
  | some k => s.stat p k 1
  | none =>
    if beAt (bs.take (bs.length - 4)) 12 2 = 0x8808 then (s.stat p 7 1).pauseFrame p (bs.take (bs.length - 4)) else s.rxPlain p bs c

section
variable {s} {p : Nat} (hup : s.linkIsUp p = true)
include hup

theorem State.rxFrame_of_quiescing (bs : List Byte) (corr unc inv : Nat) (hq : s.blkState (macB (p / 4)) = 1) :
    s.rxFrame p bs corr unc inv = s.stat p 12 1 := by
  simp only [State.rxFrame, hup, Bool.not_true, Bool.false_eq_true, if_false, if_pos hq]

omit hup in
/-- The checks read active copies alone. -/
theorem State.rxCheck_rxSeen (corr unc inv : Nat) (bs : List Byte) (bad : Bool) :
    (s.rxSeen p corr unc inv).rxCheck p bs bad = s.rxCheck p bs bad := rfl

variable (hq : s.blkState (macB (p / 4)) ≠ 1)
include hq

theorem State.rxFrame_of_up (bs : List Byte) (corr unc inv : Nat) : s.rxFrame p bs corr unc inv =
    (s.rxSeen p corr unc inv).rxEnds p bs (decide (0 < unc + inv)) (s.rxCaptured p corr unc inv) := by
  unfold State.rxFrame
  rw [if_neg (by simp [hup]), if_neg hq]
  rfl

theorem State.rxFrame_of_failed {bs : List Byte} {corr unc inv k : Nat} (hc : s.rxCheck p bs (decide (0 < unc + inv)) = some k) :
    s.rxFrame p bs corr unc inv = (s.rxSeen p corr unc inv).stat p k 1 := by
  rw [State.rxFrame_of_up hup hq, State.rxEnds, State.rxCheck_rxSeen, hc]

theorem State.rxFrame_of_passed {bs : List Byte} {corr unc inv : Nat} (hc : s.rxCheck p bs (decide (0 < unc + inv)) = none)
    (hpause : beAt (bs.take (bs.length - 4)) 12 2 ≠ 0x8808) (hsec : (s.secCfg p).testBit 31 = false) : s.rxFrame p bs corr unc inv =
    (s.rxCounted p corr unc inv bs.length).toPipe p ((s.rxSeen p corr unc inv).frameOf p bs (s.rxCaptured p corr unc inv)) := by
  rw [State.rxFrame_of_up hup hq, State.rxEnds, State.rxCheck_rxSeen, hc]
  exact (if_neg hpause).trans (State.rxPlain_of_off _ _ _ hsec)
end

/-- The counter of a failed check is one of Table 05-4. -/
theorem State.rxCheck_le {p : Nat} {bs : List Byte} {bad : Bool} {k : Nat} (h : s.rxCheck p bs bad = some k) : k ≤ 6 := by
  unfold State.rxCheck at h
  split at h
  · cases h; decide
  split at h
  · cases h; decide
  split at h
  · cases h; decide
  split at h
  · cases h; decide
  split at h
  · cases h; decide
  · cases h

/-! ### Into the pipeline -/

/-- A frame gets its number and arrives at its pipeline. -/
def State.arrived (p : Nat) (f : Frame) : State :=
  (s.birth f).2.setPipe (p / 4) (fun x => { x with arr := x.arr ++ [{ f with id := s.dp.nextId }] })

theorem State.toPipe_of_running {p : Nat} (f : Frame) (hp : s.running (prsB (p / 4)) = true) (hm : s.running (matB (p / 4)) = true) :
    s.toPipe p f = s.arrived p f := by
  simp only [State.toPipe, hp, hm, Bool.and_self, if_true, State.birth, State.arrived]

theorem State.arrived_cnt (p : Nat) (f : Frame) (a : Nat) : (s.arrived p f).cnt a = s.cnt a := rfl
theorem State.arrived_mac (p : Nat) (f : Frame) (i : Nat) : (s.arrived p f).mac i = s.mac i := rfl

theorem Keeps.arrived {s₀ s : State} {ks : List Part} {P Q : Nat → Prop} (h : Keeps ks P Q s₀ s) (hk : Part.dp ∈ ks) (p : Nat) (f : Frame) :
    Keeps ks P Q s₀ (s.arrived p f) := ((h.setDp hk _).setDp hk _).setDp hk _

theorem State.pipe_setPipe (n : Nat) (g : PipeSt → PipeSt) : (s.setPipe n g).pipe n = g (s.pipe n) := (mget_mput _ _ _ _ _).trans (if_pos rfl)

theorem State.arrived_arr (p : Nat) (f : Frame) :
    ((s.arrived p f).pipe (p / 4)).arr = (s.pipe (p / 4)).arr ++ [{ f with id := s.dp.nextId }] := by
  rw [State.arrived, State.pipe_setPipe]
  rfl

section
variable (p corr unc inv len : Nat)

theorem State.rxCounted_cnt :
    (s.rxCounted p corr unc inv len).cnt (macPort p + 0x200) = min top64 (s.cnt (macPort p + 0x200) + len) ∧
    (s.rxCounted p corr unc inv len).cnt (macPort p + 0x208) = min top64 (s.cnt (macPort p + 0x208) + 1) := by
  have h0 := s.rxSeen_cnt p corr unc inv (n := 0) (by decide)
  have h1 := s.rxSeen_cnt p corr unc inv (n := 1) (by decide)
  constructor
  · rw [State.rxCounted, State.stat, State.cnt_bump_ne _ _ (by omega)]
    exact (State.cnt_stat_self _ p 0 len).trans (by rw [h0])
  · refine (State.cnt_stat_self _ p 1 1).trans ?_
    rw [State.stat, State.cnt_bump_ne _ _ (by omega), h1]

theorem State.keeps_rxCounted :
    Keeps [.dp, .free] noAddr (fun a => macPort p + 0x200 ≤ a ∧ a < macPort p + 0x318) s (s.rxCounted p corr unc inv len) :=
  (((Keeps.refl _ _ _ s).rxSeen (by decide) (by omega) (by omega) (by omega) _ _ _).bump (by omega) _).bump (by omega) _

theorem State.rxCounted_dp : (s.rxCounted p corr unc inv len).dp = s.dp := by
  rw [State.rxCounted, State.stat, State.bump_dp, State.stat, State.bump_dp, State.rxSeen_dp]

theorem State.rxCounted_running (a : Nat) : (s.rxCounted p corr unc inv len).running a = s.running a := by
  have hrd : (s.rxCounted p corr unc inv len).rd (a + 8) = s.rd (a + 8) := (s.keeps_rxCounted p corr unc inv len).2.1 _ id
  rw [State.running, State.blkState, State.fld, hrd, ← State.fld, ← State.blkState, ← State.running]

/-- The arrivals and the MAC record are those of the data path. -/
theorem State.arrived_rxCounted (f : Frame) :
    (((s.rxCounted p corr unc inv len).arrived p f).pipe (p / 4)).arr = (s.pipe (p / 4)).arr ++ [{ f with id := s.dp.nextId }] ∧
    ((s.rxCounted p corr unc inv len).arrived p f).mac p = s.mac p := by
  rw [State.arrived_arr, State.arrived_mac, State.mac_congr (s.rxCounted_dp p corr unc inv len), State.pipe, State.rxCounted_dp, ← State.pipe]
  exact ⟨rfl, rfl⟩

variable {p corr unc inv} {bs : List Byte} (hprs : s.running (prsB (p / 4)) = true) (hmat : s.running (matB (p / 4)) = true)
include hprs hmat

/-- A frame that passes its checks arrives at its pipeline in RUN. -/
theorem State.frame_arrives {u : State} (hu : u = (s.rxCounted p corr unc inv bs.length).toPipe p
      ((s.rxSeen p corr unc inv).frameOf p bs (s.rxCaptured p corr unc inv))) :
    ∃ f, (u.pipe (p / 4)).arr = (s.pipe (p / 4)).arr ++ [f] ∧
      f.bytes = bs.take (bs.length - 4) ∧ f.fcs = true ∧ f.src = .port p ∧ f.id = s.dp.nextId ∧
      u.cnt (macPort p + 0x200) = min top64 (s.cnt (macPort p + 0x200) + bs.length) ∧
      u.cnt (macPort p + 0x208) = min top64 (s.cnt (macPort p + 0x208) + 1) ∧ u.mac p = s.mac p ∧
      Keeps [.dp, .free] noAddr (fun a => macPort p + 0x200 ≤ a ∧ a < macPort p + 0x318) s u := by
  obtain ⟨hoct, hframes⟩ := s.rxCounted_cnt p corr unc inv bs.length
  obtain ⟨harr, hmac⟩ := s.arrived_rxCounted p corr unc inv bs.length ((s.rxSeen p corr unc inv).frameOf p bs (s.rxCaptured p corr unc inv))
  rw [State.toPipe_of_running _ _ ((s.rxCounted_running ..).trans hprs) ((s.rxCounted_running ..).trans hmat)] at hu
  rw [hu, State.arrived_cnt, State.arrived_cnt]
  exact ⟨_, harr, rfl, rfl, rfl, rfl, hoct, hframes, hmac, (s.keeps_rxCounted _ _ _ _ _).arrived (by decide) _ _⟩
end

end Sys2Proof.Machine
end

section
open Sys2Proof Sys2Proof.Machine

/-- Settles O26: each end of a received frame counts in its own counter (`State.rxFrame_of_failed`, `State.rxFrame_of_passed`). -/
theorem framesAreReceivedAndChecked : Obligations.FramesAreReceivedAndChecked := by
  refine ⟨?down, ?passed, ?failed, ?quiescing⟩
  case down =>
    intro s p bs c u i hdown
    exact State.next_congr (if_pos (by rw [hdown]; rfl))
  case passed =>
    intro s p bs c hup hq hc hpause hsec hprs hmat
    have hend := State.rxFrame_of_passed (corr := c.toNat) (unc := (0 : BitVec 16).toNat) (inv := (0 : BitVec 16).toNat) hup hq hc hpause hsec
    obtain ⟨f, hf⟩ := s.frame_arrives hprs hmat rfl
    exact ⟨_, f, State.next_congr hend, hf⟩
  case failed =>
    intro s p bs c u i k hup hq hc
    have hk := s.rxCheck_le hc
    refine ⟨_, State.next_congr (State.rxFrame_of_failed hup hq hc), ?_, ?_⟩
    · rw [State.cnt_stat_self, State.rxSeen_cnt _ _ _ _ _ (by omega)]
    · exact ((Keeps.refl _ _ _ s).rxSeen (by decide) (.tail _ (.head _)) (.tail _ (.tail _ (.head _)))
        (.tail _ (.tail _ (.tail _ (.head _)))) _ _ _).bump (.head _) 1
  case quiescing =>
    intro s p bs c u i hup hq
    exact ⟨_, State.next_congr (State.rxFrame_of_quiescing hup _ _ _ _ hq), State.cnt_stat_self _ _ _ _,
      (Keeps.refl _ _ _ s).bump (.head _) 1⟩
end

section
/-! MACsec entries (R121): the writes of MAC_SA_SEL. -/
namespace Sys2Proof.Machine

/-! ### The words of an entry -/

/-- Packed fields are no wider than their widths together. -/
theorem pk_lt (fs : List (Nat × Nat)) : pk fs < 2 ^ (fs.map Prod.fst).sum := by
  have h (l : List (Nat × Nat)) (a : Nat) : l.foldl (fun acc f => acc * 2 ^ f.1 + f.2 % 2 ^ f.1) a < (a + 1) * 2 ^ (l.map Prod.fst).sum := by
    induction l generalizing a with
    | nil => simp
    | cons f l ih =>
      have hf : f.2 % 2 ^ f.1 < 2 ^ f.1 := Nat.mod_lt _ (Nat.two_pow_pos _)
      calc (f :: l).foldl (fun acc f => acc * 2 ^ f.1 + f.2 % 2 ^ f.1) a
        _ < (a * 2 ^ f.1 + f.2 % 2 ^ f.1 + 1) * 2 ^ (l.map Prod.fst).sum := ih _
        _ ≤ ((a + 1) * 2 ^ f.1) * 2 ^ (l.map Prod.fst).sum := Nat.mul_le_mul_right _ (by rw [Nat.add_mul, Nat.one_mul]; omega)
        _ = (a + 1) * 2 ^ ((f :: l).map Prod.fst).sum := by rw [List.map_cons, List.sum_cons, Nat.pow_add, Nat.mul_assoc]
  simpa [pk] using h fs 0

variable (s : State)

theorem State.saWords_lt (p : Nat) : s.saWords p < 2 ^ 192 := pk_lt _

/-- W0 to W5 stand beside MAC_SA_SEL. -/
theorem State.saWords_wr (p v : Nat) : (s.wr (macPort p + 0x50) v).saWords p = s.saWords p := by
  have hne (n : Nat) : (s.wr (macPort p + 0x50) v).rd (saW p n) = s.rd (saW p n) :=
    State.rd_wr_ne _ _ _ _ (by simp only [saW]; omega)
  simp only [State.saWords, hne]

/-! ### The command of a write -/

section
variable (v : Nat) {c : Nat}

theorem selKey_putBits : selKey (putBits v 29 28 c) = selKey v := by
  have hap (a b : Nat) (h : a < 28) : bits (putBits v 29 28 c) a b = bits v a b := bits_putBits_apart _ _ _ _ _ _ (by decide) (.inl h)
  have h8 : bit (putBits v 29 28 c) 8 = bit v 8 := putBits_testBit _ _ _ _ _ (by decide)
  rw [selKey, selKey, hap _ _ (by decide), hap _ _ (by decide), hap _ _ (by decide), hap _ _ (by decide), h8]

/-- A write names a transmit SC other than 0. -/
def badSel : Bool := bit v 7 && decide (bits v 6 4 ≠ 0)

theorem badSel_putBits : badSel (putBits v 29 28 c) = badSel v := by
  rw [badSel, bits_putBits_apart _ _ _ _ _ _ (by decide) (.inl (by decide)), bit, putBits_testBit _ _ _ _ _ (by decide)]
  rfl

theorem badSel_eq_true : badSel v = true ↔ v.testBit 7 = true ∧ bits v 6 4 ≠ 0 := by simp [badSel, bit]

theorem bit7_putBits : bit (putBits v 29 28 c) 7 = v.testBit 7 := putBits_testBit _ _ _ _ _ (by decide)

/-- SA_WRITE and SA_READ each set one bit of the command. -/
theorem cmd_putBits (c : Nat) : bit (putBits v 29 28 c) 29 = c.testBit 1 ∧ bit (putBits v 29 28 c) 28 = c.testBit 0 :=
  ⟨putBits_testBit _ _ _ _ _ (by decide), putBits_testBit _ _ _ _ _ (by decide)⟩
end

section
variable {s} {p v : Nat}

theorem State.saSel_of_bad (hc : bit v 29 = true ∨ bit v 28 = true) (h : badSel v = true ∨ (s.mac p).saPend ≠ none) :
    s.saSel p v = s.reject (macB (p / 4)) (macPort p + 0x50 - macB (p / 4)) := by
  refine if_pos ?_
  rw [Bool.and_eq_true, Bool.or_eq_true, Bool.or_eq_true, Option.isSome_iff_ne_none]
  exact ⟨hc, h.symm⟩

/-- MAC_SA_SEL shows the selection. -/
def State.selected (s : State) (p v : Nat) : State := s.wr (macPort p + 0x50) (Nat.land v 0x1F3)

theorem Keeps.selected {s₀ : State} {ks : List Part} {P Q : Nat → Prop} (h : Keeps ks P Q s₀ s) (hp : P (macPort p + 0x50)) :
    Keeps ks P Q s₀ (s.selected p v) := h.wr hp _

theorem State.sa_selected (k : Nat) : (s.selected p v).sa p k = s.sa p k := by
  rw [State.sa, State.selected, State.mac_wr, State.sa]

theorem State.mac_selected : (s.selected p v).mac p = s.mac p := State.mac_wr ..

variable (hb : badSel v = false) (hp : (s.mac p).saPend = none)
include hb hp

theorem State.saSel_of_good : s.saSel p v =
    if bit v 29 && bit v 7 && (s.mac p).cur.isSome then
      ((s.selected p v).setMac p (fun m => { m with saPend := some (v, BitVec.ofNat 192 (s.saWords p)) })).setFld (macPort p + 0x50) 31 31 1
    else if bit v 28 then (if bit v 29 then (s.selected p v).saStore p v (s.saWords p) else s.selected p v).saLoad p v
    else if bit v 29 then (s.selected p v).saStore p v (s.saWords p) else s.selected p v := by
  have h1 : ¬ ((bit v 29 || bit v 28) && ((s.mac p).saPend.isSome || (bit v 7 && decide (bits v 6 4 ≠ 0)))) = true := by
    rw [hp, Option.isSome_none, Bool.false_or, show (bit v 7 && decide (bits v 6 4 ≠ 0)) = false from hb, Bool.and_false]
    exact Bool.false_ne_true
  unfold State.saSel
  rw [if_neg h1, if_neg (by rw [hp]; exact Bool.false_ne_true)]
  unfold State.selected
  simp only [State.mac_wr, State.saWords_wr]

theorem State.saSel_of_write (h29 : bit v 29 = true) (h28 : bit v 28 = false) (hcur : bit v 7 = true → (s.mac p).cur = none) :
    s.saSel p v = (s.selected p v).saStore p v (s.saWords p) := by
  rw [State.saSel_of_good hb hp, if_neg, if_neg (by simp [h28]), if_pos h29]
  cases h7 : bit v 7
  · simp
  · simp [hcur h7]

theorem State.saSel_of_wait (h29 : bit v 29 = true) (h7 : bit v 7 = true) (hcur : (s.mac p).cur ≠ none) : s.saSel p v =
    ((s.selected p v).setMac p (fun m => { m with saPend := some (v, BitVec.ofNat 192 (s.saWords p)) })).setFld (macPort p + 0x50) 31 31 1 := by
  rw [State.saSel_of_good hb hp, if_pos]
  simp [h29, h7, Option.isSome_iff_ne_none, hcur]

theorem State.saSel_of_read (h29 : bit v 29 = false) (h28 : bit v 28 = true) : s.saSel p v = (s.selected p v).saLoad p v := by
  rw [State.saSel_of_good hb hp, if_neg (by simp [h29]), if_pos h28, if_neg (by simp [h29])]
end

/-! ### What a stored entry shows -/

theorem State.sa_saStore (p v e k : Nat) : (s.saStore p v e).sa p k = if k = selKey v then e % 2 ^ 192 else s.sa p k := by
  rw [State.sa, State.saStore_mac, mget_mput]
  split
  · exact BitVec.toNat_ofNat _ _
  · rfl

theorem State.saStore_forgets (p v e : Nat) :
    selKey v ∉ ((s.saStore p v e).mac p).spent ∧ selKey v ∉ ((s.saStore p v e).mac p).exhausted := by
  rw [State.saStore_mac]
  exact ⟨by simp, by simp⟩

end Sys2Proof.Machine
end

section
/-! The module bus of a quad (R127, R128). -/
namespace Sys2Proof.Machine

/-! ### Byte strings -/

theorem natBE_concat (l : List Byte) (x : Byte) : natBE (l ++ [x]) = natBE l * 256 + x.toNat := by
  rw [natBE, List.foldl_append]
  rfl

theorem bytesBE_succ (n v : Nat) : bytesBE (n + 1) v = bytesBE n (v / 256) ++ [BitVec.ofNat 8 v] := by
  rw [bytesBE, List.range_succ, List.map_append, bytesBE]
  congr 1
  · refine List.map_congr_left fun i hi => ?_
    have hi := List.mem_range.1 hi
    rw [Nat.div_div_eq_div_mul, ← Nat.pow_succ', show n + 1 - 1 - i = n - 1 - i + 1 by omega]
  · simp

/-- The bytes of the number that a byte string spells. -/
theorem bytesBE_natBE (l : List Byte) : bytesBE l.length (natBE l) = l := by
  induction l using List.reverseRecOn with
  | nil => rfl
  | append_singleton l x ih =>
    have hx := x.isLt
    rw [List.length_append, List.length_singleton, bytesBE_succ, natBE_concat, show (natBE l * 256 + x.toNat) / 256 = natBE l by omega, ih]
    congr 2
    exact BitVec.eq_of_toNat_eq (by rw [BitVec.toNat_ofNat]; omega)

theorem slice_length (b : List Byte) (o n : Nat) : (slice b o n).length = n := by simp [slice]

theorem slice_add (b : List Byte) (m n : Nat) : slice b 0 (m + n) = slice b 0 m ++ slice b m n := by
  simp [slice, List.range_add]

/-- A byte string as words of w bytes one after another. -/
theorem flatMap_slice (b : List Byte) (w n : Nat) : (List.range n).flatMap (fun i => slice b (w * i) w) = slice b 0 (w * n) := by
  induction n with
  | zero => rfl
  | succ n ih => rw [List.range_succ, List.flatMap_append, ih, Nat.mul_succ, slice_add]; simp

theorem slice_self (b : List Byte) : slice b 0 b.length = b := by
  refine List.ext_getElem (slice_length _ _ _) fun i h1 h2 => ?_
  simp [slice, h2]

theorem beAt_lt (b : List Byte) (o n : Nat) : beAt b o n < 256 ^ n := by
  have h := natBE_lt (slice b o n)
  rwa [slice_length] at h

theorem bytesBE_beAt (b : List Byte) (o n : Nat) : bytesBE n (beAt b o n) = slice b o n := by
  have h := bytesBE_natBE (slice b o n)
  rwa [slice_length] at h

variable (s : State)

/-! ### The bus and the buffer -/

@[simp] theorem State.modGet_setMod (q : Nat) (g : ModSt → ModSt) : (s.setMod q g).modGet q = g (s.modGet q) :=
  (mget_mput _ _ _ _ _).trans (if_pos rfl)

theorem State.modGet_congr {s t : State} (h : t.dp = s.dp) (q : Nat) : t.modGet q = s.modGet q := by rw [State.modGet, State.modGet, h]

@[simp] theorem State.modGet_setFld (a hi lo v q : Nat) : (s.setFld a hi lo v).modGet q = s.modGet q := rfl

theorem State.modGet_raise (base c src q : Nat) : (s.raise base c src).modGet q = s.modGet q := State.modGet_congr (State.raise_dp ..) q

theorem State.modBuf_length (q : Nat) : (s.modBuf q).length = 128 := by
  simp [State.modBuf, List.length_flatMap, bytesBE]

theorem State.modBuf_congr {s t : State} {q : Nat} (h : ∀ n < 32, t.rd (macB q + 0x100 + 4 * n) = s.rd (macB q + 0x100 + 4 * n)) :
    t.modBuf q = s.modBuf q := by
  unfold State.modBuf
  refine congrArg List.flatten (List.map_congr_left fun n hn => ?_)
  rw [h n (List.mem_range.1 hn)]

/-- MAC_MOD_BUF holds b. -/
def State.putModBuf (q : Nat) (b : List Byte) : State :=
  (List.range 32).foldl (fun s i => s.wr (macB q + 0x100 + 4 * i) (beAt b (4 * i) 4)) s

theorem State.putModBuf_dp (q : Nat) (b : List Byte) : (s.putModBuf q b).dp = s.dp := s.foldl_wr_dp _ _ _

theorem State.putModBuf_rd_ne {q a : Nat} (b : List Byte) (h : a < macB q + 0x100 ∨ macB q + 0x180 ≤ a) : (s.putModBuf q b).rd a = s.rd a := by
  refine s.rd_foldl_wr_ne _ _ _ fun i hi => ?_
  have hi := List.mem_range.1 hi
  omega

theorem State.putModBuf_rd (q : Nat) (b : List Byte) {i : Nat} (hi : i < 32) :
    (s.putModBuf q b).rd (macB q + 0x100 + 4 * i) = beAt b (4 * i) 4 := by
  rw [State.putModBuf, s.rd_foldl_wr_mem _ _ _ (List.mem_range.2 hi)]
  · exact Nat.mod_eq_of_lt (beAt_lt b (4 * i) 4)
  · intro j _ he
    rw [show j = i by omega]

theorem State.modBuf_putModBuf (q : Nat) {b : List Byte} (hb : b.length = 128) : (s.putModBuf q b).modBuf q = b :=
  calc (s.putModBuf q b).modBuf q = (List.range 32).flatMap (fun i => slice b (4 * i) 4) :=
        congrArg List.flatten (List.map_congr_left fun i hi => by rw [s.putModBuf_rd q b (List.mem_range.1 hi), bytesBE_beAt])
    _ = slice b 0 128 := flatMap_slice b 4 32
    _ = b := by rw [← hb, slice_self]

section
variable {s} {ks : List Part} {P Q : Nat → Prop} {t : State}

theorem Keeps.setMod (h : Keeps ks P Q s t) (hd : Part.dp ∈ ks) (q : Nat) (g : ModSt → ModSt) : Keeps ks P Q s (t.setMod q g) := h.setDp hd _

theorem Keeps.putModBuf (h : Keeps ks P Q s t) {q : Nat} (hp : ∀ a, macB q + 0x100 ≤ a → a < macB q + 0x180 → P a) (b : List Byte) :
    Keeps ks P Q s (t.putModBuf q b) := by
  refine h.foldl_wr _ _ _ _ fun i hi => ?_
  have hi := List.mem_range.1 hi
  exact hp _ (by omega) (by omega)
end

/-- MAC_MOD_STAT is neither an event's register nor a capture, and no cause. -/
theorem offEvent_modStat (q : Fin 4) {k : Nat} (h : 0x60 ≤ k) (h' : k < 0x1000) : offEvent (macB q.val) (macB q.val + k) := by
  simp only [offEvent, inEvt, inCapture, macB]
  omega

theorem causeA_ne_macB {d : Nat} (q k : Nat) (hd : d < 256) : causeA d ≠ macB q + k := by
  simp only [causeA, evtB, macB]
  omega

/-! ### Transfers -/

/-- A transfer of the length that v gives, which its direction allows. -/
def okXfer (v : Nat) : Prop := bits v 23 16 ≠ 0 ∧ bits v 23 16 ≤ (if bit v 30 then 8 else 128)

/-- The bus is busy with the transfer that v asks for. -/
def State.busTaken (q v : Nat) : State :=
  ((s.wr (macB q + 0x64) (Nat.land v 0x60FFFFFF)).setMod q (fun m => { m with busy := some (bit v 30, bits v 23 16) })).setFld (macB q + 0x68) 3 3 1

theorem State.modXferStart_of_bad {q v : Nat} (h : (s.modGet q).busy ≠ none ∨ ¬ okXfer v) : s.modXferStart q v = s.reject (macB q) 0x64 := by
  refine if_pos ?_
  simp only [Bool.or_eq_true, decide_eq_true_eq, Option.isSome_iff_ne_none]
  rcases h with h | h
  · exact .inl (.inl h)
  · by_cases h0 : bits v 23 16 = 0
    · exact .inl (.inr h0)
    · exact .inr (Nat.lt_of_not_le fun hle => h ⟨h0, hle⟩)

theorem State.modXferStart_of_idle {q v : Nat} (hb : (s.modGet q).busy = none) (hv : okXfer v) :
    (s.modXferStart q v).dp = (s.busTaken q v).dp ∧ (s.modXferStart q v).rd (macB q + 0x68) = (s.busTaken q v).rd (macB q + 0x68) ∧
    Keeps [.dp, .out] (oneOf [macB q + 0x64, macB q + 0x68]) noAddr s (s.modXferStart q v) := by
  have hk : Keeps [.dp, .out] (oneOf [macB q + 0x64, macB q + 0x68]) noAddr s (s.busTaken q v) :=
    (((Keeps.refl _ _ _ s).wr (.head _) _).setMod (by decide) q _).setFld (List.mem_cons_of_mem _ (List.mem_singleton_self _)) 3 3 1
  have hgood : ¬ ((s.modGet q).busy.isSome || decide (bits v 23 16 = 0) || decide ((if bit v 30 then 8 else 128) < bits v 23 16)) = true := by
    rw [hb]
    simpa [okXfer] using hv
  unfold State.modXferStart
  rw [if_neg hgood]
  unfold State.busTaken at hk ⊢
  split
  · exact ⟨rfl, rfl, ((hk.emit (by decide) _).emit (by decide) _).emit (by decide) _⟩
  · exact ⟨rfl, rfl, hk.emit (by decide) _⟩

/-- The bus is idle and MAC_MOD_STAT shows the result. -/
def State.busFreed (q r : Nat) : State := (s.setMod q (fun m => { m with busy := none })).setFld (macB q + 0x68) 3 0 (2 * r + 1)

/-- What a read stores. -/
def State.busStored (q : Nat) (d : List Byte) (n : Nat) : State := s.putModBuf q (d.take n ++ (s.modBuf q).drop (min n d.length))

theorem State.modXferEnd_of_busy {q : Nat} (r : Nat) (d : List Byte) {w : Bool} {n : Nat} (hb : (s.modGet q).busy = some (w, n)) :
    s.modXferEnd q r d = (if w || decide (r ≠ 0) then s.busFreed q r else (s.busFreed q r).busStored q d n).raise (macB q) Ev.modXferDone (Src.quad q) := by
  unfold State.modXferEnd
  rw [hb]
  rfl

/-- Where a transfer that ends leaves the bus. -/
theorem State.busEnds (q : Nat) (r : Fin 4) (d : List Byte) (n : Nat) {t : State}
    (ht : t = s.busFreed q r.val ∨ t = (s.busFreed q r.val).busStored q d n) :
    (t.modGet q).busy = none ∧ t.fld (macB q + 0x68) 3 0 = 2 * r.val + 1 ∧ (∀ a < macB q + 0x100, a ≠ macB q + 0x68 → t.rd a = s.rd a) ∧
    Keeps [.dp] (fun a => a = macB q + 0x68 ∨ (macB q + 0x100 ≤ a ∧ a < macB q + 0x180)) noAddr s t := by
  have hbusy : ((s.busFreed q r.val).modGet q).busy = none := by
    rw [State.busFreed, State.modGet_setFld, State.modGet_setMod]
  have hfld : (s.busFreed q r.val).fld (macB q + 0x68) 3 0 = 2 * r.val + 1 := by
    rw [State.busFreed, State.fld_setFld _ _ _ _ _ (by decide) (by decide)]
    exact Nat.mod_eq_of_lt (by omega)
  have hrd (a : Nat) (h : a ≠ macB q + 0x68) : (s.busFreed q r.val).rd a = s.rd a := State.rd_setFld_ne _ _ _ _ _ _ h
  have hk : Keeps [.dp] (fun a => a = macB q + 0x68 ∨ (macB q + 0x100 ≤ a ∧ a < macB q + 0x180)) noAddr s (s.busFreed q r.val) :=
    ((Keeps.refl _ _ _ s).setMod (by decide) q _).setFld (.inl rfl) 3 0 _
  rcases ht with rfl | rfl
  · exact ⟨hbusy, hfld, fun a _ => hrd a, hk⟩
  · unfold State.busStored
    refine ⟨?_, ?_, fun a h1 h2 => ?_, hk.putModBuf (fun _ h1 h2 => .inr ⟨h1, h2⟩) _⟩
    · exact (congrArg ModSt.busy (State.modGet_congr (State.putModBuf_dp _ _ _) q)).trans hbusy
    · refine Eq.trans ?_ hfld
      exact congrArg (bits · 3 0) (State.putModBuf_rd_ne _ _ (.inl (by omega)))
    · exact (State.putModBuf_rd_ne _ _ (.inl h1)).trans (hrd a h2)

/-- A read of the length asked for stands at the start of the buffer. -/
theorem State.modBuf_busStored (q r : Nat) {d : List Byte} {n : Nat} (hd : d.length = n) (hn : n ≤ 128) :
    ((s.busFreed q r).busStored q d n).modBuf q = d ++ (s.modBuf q).drop n := by
  have hsame : (s.busFreed q r).modBuf q = s.modBuf q := State.modBuf_congr fun i _ => State.rd_setFld_ne _ _ _ _ _ _ (by omega)
  rw [State.busStored, hsame, List.take_of_length_le (Nat.le_of_eq hd), hd, Nat.min_self, State.modBuf_putModBuf]
  rw [List.length_append, List.length_drop, s.modBuf_length, hd]
  omega

end Sys2Proof.Machine
end

section
/-! Transfers, insertion and removal as commands (R127, R128). -/
namespace Sys2Proof.Machine

variable (s : State)

theorem State.modXferEnd_raises {q r : Nat} {d : List Byte} {w : Bool} {n : Nat} (hb : (s.modGet q).busy = some (w, n)) :
    ∃ u, s.modXferEnd q r d = u.raise (macB q) Ev.modXferDone (Src.quad q) ∧
      (u = s.busFreed q r ∨ u = (s.busFreed q r).busStored q d n) ∧ (w = false → r = 0 → u = (s.busFreed q r).busStored q d n) := by
  refine ⟨_, s.modXferEnd_of_busy r d hb, ?_, fun hw hr => if_neg (by simp [hw, hr])⟩
  split
  · exact .inl rfl
  · exact .inr rfl

theorem State.modReset_ends (q : Nat) : ((s.modReset q).modGet q).resetEnds = some (s.mono + 20 * uUs) := by
  rw [State.modReset, State.modGet_congr (State.emit_dp ..), State.modGet_setMod]

/-- A transfer ends: the bus is idle, MAC_MOD_STAT shows the result, MOD_XFER_DONE is raised. -/
theorem State.modXferEnd_ends (q r : Fin 4) (d : List Byte) {w : Bool} {n : Nat} (hb : (s.modGet q.val).busy = some (w, n)) :
    ((s.modXferEnd q.val r.val d).modGet q.val).busy = none ∧ (s.modXferEnd q.val r.val d).fld (macB q.val + 0x68) 3 0 = 2 * r.val + 1 ∧
    (w = false → r = 0 → d.length = n → n ≤ 128 → (s.modXferEnd q.val r.val d).modBuf q.val = d ++ (s.modBuf q.val).drop n) ∧
    Raised Ev.modXferDone (s.modXferEnd q.val r.val d) ∧
    KeepsEv (macB q.val) [.dp] (fun a => a = macB q.val + 0x68 ∨ (macB q.val + 0x100 ≤ a ∧ a < macB q.val + 0x180)) noAddr s
      (s.modXferEnd q.val r.val d) := by
  obtain ⟨u, hu, hends, hread⟩ := s.modXferEnd_raises (r := r.val) (d := d) hb
  obtain ⟨hbusy, hfld, -, hk⟩ := s.busEnds q.val r d n hends
  rw [hu]
  refine ⟨?_, ?_, fun hw hr hd hn => ?_, State.raise_raised _ _ _ (by decide), hk.raise _ _ _⟩
  · rw [State.modGet_raise, hbusy]
  · rw [State.raise_fld _ _ _ _ _ _ _ (offEvent_modStat q (by decide) (by decide)), hfld]
  · rw [State.modBuf_congr fun i hi => State.raise_rd _ _ _ _ _ ?_, hread hw (by rw [hr]; rfl), State.modBuf_busStored _ _ _ hd hn]
    rw [Nat.add_assoc]
    exact offEvent_modStat q (by omega) (by omega)

/-- An event that stands before a transfer ends stands afterwards. -/
theorem Raised.modXferEnd {s : State} {c : Nat} (h : Raised c s) (hc : c < 256) (q r : Fin 4) (d : List Byte) {w : Bool} {n : Nat}
    (hb : (s.modGet q.val).busy = some (w, n)) : Raised c (s.modXferEnd q.val r.val d) := by
  obtain ⟨u, hu, hends, -⟩ := s.modXferEnd_raises (r := r.val) (d := d) hb
  obtain ⟨-, -, hrd, -⟩ := s.busEnds q.val r d n hends
  have hlt : causeA c < macB q.val + 0x100 := by
    simp only [causeA, evtB, macB]
    omega
  rw [hu]
  refine Raised.raiseAt _ _ _ _ (by decide) (.inr ⟨?_, ?_⟩)
  · rw [Raised, State.flag, hrd _ hlt (causeA_ne_macB _ _ hc)]
    exact h
  · simp only [inCapture, causeA, evtB, macB]
    omega

/-- PRESENT clears and MOD_REMOVE is raised. -/
def State.modGone (q : Nat) : State := (s.setFld (macB q + 0x68) 31 31 0).raise (macB q) Ev.modRemove (Src.quad q)

theorem State.modRemove_of_present {q : Nat} (h : s.flag (macB q + 0x68) 31 = true) : s.modRemove q = (s.modGone q).modXferEnd q 2 [] := by
  simp only [State.modRemove, h, if_true, State.modGone]

theorem State.modGone_modGet (q : Nat) : (s.modGone q).modGet q = s.modGet q := by
  rw [State.modGone, State.modGet_raise, State.modGet_setFld]

/-- A bit that is written alone shows its value. -/
theorem State.flag_setFld_self (a i : Nat) (b : Bool) (h : i < 32) : (s.setFld a i i (b2n b)).flag a i = b := by
  rw [State.flag_setFld _ _ _ _ _ _ le_rfl h, if_pos ⟨le_rfl, le_rfl⟩, Nat.sub_self]
  cases b <;> rfl

theorem State.modGone_flag (q : Fin 4) : (s.modGone q.val).flag (macB q.val + 0x68) 31 = false := by
  rw [State.modGone, State.raise_flag _ _ _ _ _ _ (offEvent_modStat q (by decide) (by decide))]
  exact s.flag_setFld_self _ 31 false (by decide)

/-- The end of a transfer without data leaves PRESENT. -/
theorem State.modXferEnd_flag (q : Fin 4) {r : Nat} (hr : r ≠ 0) {w : Bool} {n : Nat} (hb : (s.modGet q.val).busy = some (w, n)) :
    (s.modXferEnd q.val r []).flag (macB q.val + 0x68) 31 = s.flag (macB q.val + 0x68) 31 := by
  have hend := s.modXferEnd_of_busy r [] hb
  rw [if_pos (by simp [hr])] at hend
  rw [hend, State.raise_flag _ _ _ _ _ _ (offEvent_modStat q (by decide) (by decide)), State.busFreed,
    State.flag_setFld _ _ _ _ _ _ (by decide) (by decide), if_neg (by decide)]
  rfl

end Sys2Proof.Machine
end

section
open Sys2Proof Sys2Proof.Machine

/-- Settles O28: the four ends of a write of MAC_SA_SEL (`State.saSel_of_good`) and the commands of the module bus in turn. -/
theorem keysAndModulesOfAPort : Obligations.KeysAndModulesOfAPort := by
  refine ⟨?write, ?wait, ?read, ?bad, ?start, ?badStart, ?xferEnd, ?reset, ?insert, ?remove, ?int⟩
  case write =>
    intro s p v hb hp hcur
    have hb' : badSel (putBits v.toNat 29 28 2) = false := by
      rw [badSel_putBits]
      exact Bool.eq_false_iff.2 fun h => hb ((badSel_eq_true _).1 h)
    obtain ⟨h29, h28⟩ := cmd_putBits v.toNat 2
    have hend := State.saSel_of_write hb' hp h29 h28 fun h7 => hcur ((bit7_putBits _).symm.trans h7)
    have hsa := State.sa_saStore (s.selected p.val (putBits v.toNat 29 28 2)) p.val (putBits v.toNat 29 28 2) (s.saWords p.val)
    obtain ⟨hspent, hexh⟩ := State.saStore_forgets (s.selected p.val (putBits v.toNat 29 28 2)) p.val (putBits v.toNat 29 28 2) (s.saWords p.val)
    rw [selKey_putBits] at hspent hexh
    simp only [selKey_putBits] at hsa
    refine ⟨_, State.next_congr hend, ?_, fun k hk => ?_, hspent, hexh, ?_⟩
    · rw [hsa, if_pos rfl, Nat.mod_eq_of_lt (s.saWords_lt _), State.saWords]
    · rw [hsa, if_neg hk, State.sa_selected]
    · exact ((Keeps.refl _ _ _ s).selected (.head _)).saStore (by decide) _ _ _
  case wait =>
    intro s p v h7 hsc hp hcur
    have hb' : badSel (putBits v.toNat 29 28 2) = false := by
      rw [badSel_putBits, badSel, hsc]
      exact Bool.and_false _
    obtain ⟨h29, -⟩ := cmd_putBits v.toNat 2
    refine ⟨_, State.next_congr (State.saSel_of_wait hb' hp h29 ((bit7_putBits _).trans h7) hcur), State.flag_setFld_self _ _ 31 true (by decide), ?_, ?_,
      (((Keeps.refl _ _ _ s).selected (.head _)).setMac (by decide) _ _).setFld (.head _) 31 31 1⟩
    · rw [State.mac_setFld, State.mac_setMac, State.mac_selected]
    · rw [State.mac_setFld, State.mac_setMac]
      exact congrArg some ((BitVec.toNat_ofNat _ _).trans (Nat.mod_eq_of_lt (s.saWords_lt _)))
  case read =>
    intro s p v hb hp
    have hb' : badSel (putBits v.toNat 29 28 1) = false := by
      rw [badSel_putBits]
      exact Bool.eq_false_iff.2 fun h => hb ((badSel_eq_true _).1 h)
    obtain ⟨h29, h28⟩ := cmd_putBits v.toNat 1
    refine ⟨_, State.next_congr (State.saSel_of_read hb' hp h29 h28), fun n => ?_, ?_⟩
    · rw [State.saLoad_rd _ _ _ n.isLt, selKey_putBits, State.sa_selected]
    · exact ((Keeps.refl _ _ _ s).selected (by omega)).saLoad (fun a h1 h2 => by omega) _
  case bad =>
    intro s p v h
    have hb (c : Nat) : badSel (putBits v.toNat 29 28 c) = true ∨ (s.mac p.val).saPend ≠ none := by
      rw [badSel_putBits, badSel_eq_true]
      exact h
    exact ⟨State.next_congr (State.saSel_of_bad (.inl (cmd_putBits v.toNat 2).1) (hb 2)),
      State.next_congr (State.saSel_of_bad (.inr (cmd_putBits v.toNat 1).2) (hb 1))⟩
  case start =>
    intro s q v hidle h1 hlen
    obtain ⟨hdp, hrd, hk⟩ := s.modXferStart_of_idle hidle (v := v.toNat) ⟨by omega, hlen⟩
    refine ⟨_, rfl, ?_, ?_, hk⟩
    · rw [State.modGet_congr hdp, State.busTaken, State.modGet_setFld, State.modGet_setMod]
      rfl
    · rw [State.fld, hrd]
      exact State.fld_setFld _ _ _ _ _ (by decide) (by decide)
  case badStart =>
    intro s q v h
    refine State.next_congr (s.modXferStart_of_bad (h.imp_right fun h hok => ?_))
    obtain ⟨h0, hle⟩ := hok
    exact h.elim h0 fun hlt => Nat.not_le.2 hlt hle
  case xferEnd =>
    intro s q r d w n hb
    exact ⟨_, rfl, s.modXferEnd_ends q r d hb⟩
  case reset =>
    intro s q
    exact ⟨_, rfl, s.modReset_ends _, rfl, ((Keeps.refl _ _ _ s).setMod (by decide) _ _).emit (by decide) _⟩
  case insert =>
    intro s q h
    refine ⟨_, State.next_congr (if_neg (by rw [h]; exact Bool.false_ne_true)), ?_, State.raise_raised _ _ _ (by decide),
      ((Keeps.refl _ _ _ s).setFld (.head _) 31 31 1).raise _ _ _⟩
    rw [State.raise_flag _ _ _ _ _ _ (offEvent_modStat q (by decide) (by decide))]
    exact s.flag_setFld_self _ 31 true (by decide)
  case remove =>
    intro s q w n h hb
    have hb' : ((s.modGone q.val).modGet q.val).busy = some (w, n) := by rw [State.modGone_modGet, hb]
    obtain ⟨hbusy, hfld, -⟩ := (s.modGone q.val).modXferEnd_ends q 2 [] hb'
    have hraised : Raised Ev.modRemove (s.modGone q.val) := State.raise_raised _ _ _ (by decide)
    exact ⟨_, State.next_congr (s.modRemove_of_present h), ((s.modGone q.val).modXferEnd_flag q (by decide) hb').trans (s.modGone_flag q),
      hraised.modXferEnd (by decide) q 2 [] hb', hbusy, hfld⟩
  case int =>
    intro s q h
    refine ⟨_, State.next_congr (if_pos (by rw [h]; rfl)), ?_, State.raise_raised _ _ _ (by decide),
      ((Keeps.refl _ _ _ s).setFld (.head _) 30 30 _).raise _ _ _⟩
    rw [State.raise_flag _ _ _ _ _ _ (offEvent_modStat q (by decide) (by decide))]
    exact s.flag_setFld_self _ 30 true (by decide)
end

section
/-! Pauses and pause frames (R122 to R124). -/
namespace Sys2Proof.Machine

variable (s : State)

/-! ### Pauses that end -/

@[simp] theorem State.mac_fcStat (p i : Nat) : (s.fcStat p).mac i = s.mac i := State.mac_wr ..

theorem State.unpause_mac (p k : Nat) : (s.unpause p k).mac p =
    { s.mac p with paused := mdel (s.mac p).paused k, pausedSince := mdel (s.mac p).pausedSince k } := by
  rw [State.unpause, State.mac_fcStat, State.mac_setMac]

theorem Keeps.unpause {s₀ s : State} {ks : List Part} {P Q : Nat → Prop} (h : Keeps ks P Q s₀ s) (hd : Part.dp ∈ ks) {p : Nat}
    (hp : P (macPort p + 0x30)) (k : Nat) : Keeps ks P Q s₀ (s.unpause p k) := (h.setMac hd _ _).fcStat hp

theorem State.pauseIgnoreEnd_of_over {p k e : Nat} (h : (k, e) ∈ (s.mac p).ignore) (he : e ≤ s.mono) :
    s.pauseIgnoreEnd p k = (s.setMac p (fun m => { m with ignore := mdel m.ignore k })).fcStat p :=
  if_pos (List.any_eq_true.2 ⟨_, h, by simp [he]⟩)

/-- The watchdog ends a pause and ignores pause for IGNORE_MS. -/
def State.wdFired (p k : Nat) : State :=
  ((s.setMac p (fun m => { m with ignore := mins m.ignore k (s.mono + s.fld (macPort p + 0x18) 31 16 * uMs) })).unpause p k).stat p 20 1

theorem State.pauseWdFire_of_late {p k e : Nat} (hw : s.fld (macPort p + 0x18) 15 0 ≠ 0) (h : (k, e) ∈ (s.mac p).paused)
    (ht : mget (fun _ => 0) (s.mac p).pausedSince k + s.fld (macPort p + 0x18) 15 0 * uMs ≤ s.mono)
    (he : mget (fun _ => 0) (s.mac p).pausedSince k + s.fld (macPort p + 0x18) 15 0 * uMs ≤ e) :
    s.pauseWdFire p k = (s.wdFired p k).raise (macB (p / 4)) Ev.pauseWatchdog (Src.port p) := by
  refine if_pos ?_
  rw [Bool.and_eq_true, Bool.and_eq_true]
  exact ⟨⟨decide_eq_true hw, decide_eq_true ht⟩, List.any_eq_true.2 ⟨_, h, Bool.and_eq_true_iff.2 ⟨decide_eq_true rfl, decide_eq_true he⟩⟩⟩

theorem State.wdFired_mac (p k : Nat) : ((s.wdFired p k).mac p).paused = mdel (s.mac p).paused k ∧
    ((s.wdFired p k).mac p).ignore = mins (s.mac p).ignore k (s.mono + s.fld (macPort p + 0x18) 31 16 * uMs) := by
  rw [State.wdFired, State.mac_stat, State.unpause_mac, State.mac_setMac]
  exact ⟨rfl, rfl⟩

theorem State.wdFired_cnt (p k : Nat) : (s.wdFired p k).cnt (macPort p + 0x2A0) = min top64 (s.cnt (macPort p + 0x2A0) + 1) := by
  rw [State.wdFired]
  refine (State.cnt_stat_self _ p 20 1).trans ?_
  rw [State.unpause, State.fcStat, State.wr_cnt, State.setMac_cnt, State.setMac_cnt]

theorem State.keeps_wdFired (p k : Nat) :
    Keeps [.dp] (oneOf [macPort p + 0x30]) (oneOf [macPort p + 0x2A0]) s (s.wdFired p k) :=
  (((Keeps.refl _ _ _ s).setMac (by decide) _ _).unpause (by decide) (.head _) _).bump (.head _) 1

/-! ### Pause frames -/

/-- A measurement changes the release calibrations alone. -/
theorem State.calSample_cases (p : Nat) (ts : Instant) : s.calSample p ts = s ∨ ∃ g, s.calSample p ts = s.setPrf g := by
  unfold State.calSample
  extract_lets cal d
  split
  · exact .inr ⟨_, rfl⟩
  · exact .inl rfl

@[simp] theorem State.mac_calSample (p : Nat) (ts : Instant) (i : Nat) : (s.calSample p ts).mac i = s.mac i := by
  obtain h | ⟨g, h⟩ := s.calSample_cases p ts
  · rw [h]
  · rw [h, State.mac_setPrf]

theorem State.calSample_out (p : Nat) (ts : Instant) : (s.calSample p ts).out = s.out := by
  obtain h | ⟨g, h⟩ := s.calSample_cases p ts
  · rw [h]
  · rw [h, State.setPrf, State.setDp_out]

theorem State.calSample_cnt (p : Nat) (ts : Instant) (a : Nat) : (s.calSample p ts).cnt a = s.cnt a := by
  obtain h | ⟨g, h⟩ := s.calSample_cases p ts
  · rw [h]
  · rw [h, State.setPrf, State.setDp_cnt]

/-- The pause frame leaves, is counted and captured. -/
def State.pauseOut (p k quanta : Nat) : State :=
  let t := ((s.emit (.pause p (if k = 8 then 255 else 2 ^ k) quanta)).bump (macPort p + 0x278) 1).txCapture p
  t.2.2.calSample p t.1

theorem State.pauseNow_eq (p k quanta : Nat) : s.pauseNow p k quanta = (s.pauseOut p k quanta).setMac p
    (fun m => { m with busyTo := max m.busyTo (s.pauseOut p k quanta).mono + (s.pauseOut p k quanta).wireTime p 64 }) := rfl

theorem State.pauseOut_mac (p k quanta : Nat) : (s.pauseOut p k quanta).mac p = s.mac p := by
  rw [State.pauseOut, State.mac_calSample]
  rfl

theorem State.pauseNow_mac (p k quanta : Nat) : ∃ b, (s.pauseNow p k quanta).mac p = { s.mac p with busyTo := b } := by
  rw [State.pauseNow_eq, State.mac_setMac, State.pauseOut_mac]
  exact ⟨_, rfl⟩

theorem State.pauseNow_out (p k quanta : Nat) :
    (s.pauseNow p k quanta).out = .pause p (if k = 8 then 255 else 2 ^ k) quanta :: s.out := by
  rw [State.pauseNow_eq, State.setMac_out, State.pauseOut, State.calSample_out]
  rfl

theorem State.pauseNow_cnt (p k quanta : Nat) : (s.pauseNow p k quanta).cnt (macPort p + 0x278) = min top64 (s.cnt (macPort p + 0x278) + 1) := by
  rw [State.pauseNow_eq, State.setMac_cnt, State.pauseOut, State.calSample_cnt]
  exact State.cnt_bump_self _ _

/-- XOFF counts anew from now. -/
def State.xoffMarked (p k : Nat) : State := s.setMac p (fun m => { m with xoff := mins m.xoff k (s.mono + 1) })

theorem State.xoffMarked_mac (p k : Nat) : (s.xoffMarked p k).mac p = { s.mac p with xoff := mins (s.mac p).xoff k (s.mono + 1) } := State.mac_setMac ..

theorem State.xoffRepeat_of_due {p k u : Nat} (hu : mget (fun _ => 0) (s.mac p).xoff k = u + 1) (ht : u + s.txTime p (32768 * 64) ≤ s.mono)
    (hf : s.fcTx p k = true) (hb : bits (s.rdA (macPort p + 0x14)) 15 0 * 1024 < s.fcBytes p k) :
    s.xoffRepeat p k = (s.xoffMarked p k).sendPause p k 0xFFFF := by
  refine if_pos ?_
  rw [hu, hf, decide_eq_true hb, Nat.add_sub_cancel, State.past, decide_eq_true ht]
  rfl

theorem State.xoff_sendPause (p k n quanta : Nat) : mget (fun _ => 0) ((s.sendPause p k quanta).mac p).xoff n = mget (fun _ => 0) (s.mac p).xoff n := by
  obtain ⟨b, hb⟩ := s.pauseNow_mac p k quanta
  unfold State.sendPause
  split
  · rw [State.mac_setMac]
  · rw [hb]

theorem State.sendPause_of_idle {p : Nat} (k quanta : Nat) (h : (s.mac p).cur = none) : s.sendPause p k quanta = s.pauseNow p k quanta :=
  if_neg (by simp [h])

theorem State.sendPause_of_sending {p : Nat} (k quanta : Nat) (h : (s.mac p).cur ≠ none) :
    s.sendPause p k quanta = s.setMac p (fun m => { m with pauseQ := m.pauseQ ++ [(k, quanta)] }) :=
  if_pos (Option.isSome_iff_ne_none.2 h)

end Sys2Proof.Machine
end

section
/-! Transmission of staged frames (R115, R121, R123). -/
namespace Sys2Proof.Machine

variable (s : State)

/-! ### A frame starts -/

theorem State.wireTime_congr {s t : State} {p : Nat} (h : t.rd (macB (p / 4) + 0x40) = s.rd (macB (p / 4) + 0x40)) (n : Nat) :
    t.wireTime p n = s.wireTime p n := by
  have hrate : t.rateMbps p = s.rateMbps p := by
    unfold State.rateMbps State.fld
    rw [h]
  rw [State.wireTime, State.txTime, hrate, State.wireTime, State.txTime]

/-- The bytes leave the port as they are staged, and the capture is measured. -/
def State.plainSent (p : Nat) (c : Copy) : State :=
  ((s.txCapture p).2.2.emit (.txFrame p c.f.bytes)).calSample p (s.txCapture p).1

/-- The frame in transmission. -/
def State.txNow (p : Nat) (c : Copy) : TxNow :=
  ⟨c, c.f.bytes.length + 4, (s.plainSent p c).mono + (s.plainSent p c).wireTime p (c.f.bytes.length + 4),
    ⟨(s.txCapture p).1, (s.txCapture p).2.1, c.prf⟩⟩

theorem State.startTx_of_plain {p : Nat} {c : Copy} (hsec : s.secWants p c.f = false) (hptp : c.f.ptpOff = none) (hrec : s.recClass c.f 1 = none) :
    s.startTx p c = (s.plainSent p c).setMac p (fun m => { m with cur := some (s.txNow p c) }) := by
  have htsu : (s.txCapture p).2.2.tsuTx p c.f (s.txCapture p).1 false = (c.f, (s.txCapture p).2.2) := by
    rw [State.tsuTx, hptp]
  have hegr : (s.txCapture p).2.2.egressRecord p c c.f.bytes (s.txCapture p).1 (s.txCapture p).2.1 = (s.txCapture p).2.2 := by
    rw [State.egressRecord, show (s.txCapture p).2.2.recClass c.f 1 = none from hrec]
  unfold State.startTx
  simp only [hsec, Bool.false_eq_true, if_false, htsu, hegr]
  rfl

theorem State.keeps_plainSent (p : Nat) (c : Copy) : Keeps [.dp, .free, .out] noAddr noAddr s (s.plainSent p c) :=
  (((Keeps.refl _ _ _ s).txCapture (by decide) p).emit (by decide) _).calSample (by decide) _ _

theorem State.plainSent_out (p : Nat) (c : Copy) : (s.plainSent p c).out = .txFrame p c.f.bytes :: s.out := by
  rw [State.plainSent, State.calSample_out]
  rfl

theorem State.plainSent_mac (p : Nat) (c : Copy) : (s.plainSent p c).mac p = s.mac p := by
  rw [State.plainSent, State.mac_calSample]
  rfl

theorem State.plainSent_mono (p : Nat) (c : Copy) : (s.plainSent p c).mono = s.mono := by
  obtain h | ⟨g, h⟩ := ((s.txCapture p).2.2.emit (.txFrame p c.f.bytes)).calSample_cases p (s.txCapture p).1
  · rw [State.plainSent, h]
    rfl
  · rw [State.plainSent, h]
    rfl

theorem State.txNow_ends (p : Nat) (c : Copy) : (s.txNow p c).ends = s.mono + s.wireTime p (c.f.bytes.length + 4) := by
  rw [State.txNow, State.wireTime_congr ((s.keeps_plainSent p c).2.1 _ id), State.plainSent_mono]

/-- The copy leaves the staging. -/
def State.unstaged (p : Nat) (c : Copy) : State := s.setMac p (fun m => { m with staged := m.staged.erase c })

theorem State.txStart_of_clear {p : Nat} {c : Copy} (hup : s.linkIsUp p = true) (hcur : (s.mac p).cur = none) (hbusy : (s.mac p).busyTo ≤ s.mono)
    (hst : (s.mac p).staged.find? (fun c => !s.isPaused p c.queue) = some c) (hsec : s.secWants p c.f = false)
    (hclear : s.clearOfHeld p (c.f.bytes.length + 4) = true) : s.txStart p = (s.unstaged p c).startTx p c := by
  have hok : (s.linkIsUp p && s.past (s.mac p).busyTo && s.clearOfHeld p (c.f.bytes.length + 4 + (if s.secWants p c.f then 32 else 0))) = true := by
    rw [hup, State.past, decide_eq_true hbusy, hsec]
    exact hclear
  unfold State.txStart
  simp only [hcur, hst]
  exact if_pos hok

/-! ### A frame ends -/

section
variable (id : Nat) (held : Bool) (fate : Fate)

/-- A copy that finishes changes what is known of its frame, and SCH_POOL.FREE. -/
theorem State.mac_endCopy (p : Nat) : (s.endCopy id held fate).mac p = s.mac p := by
  have hfree (c : Prop) [Decidable c] (n : Nat) : (if c then s.poolAdd n else s).mac p = s.mac p := by
    split
    · exact State.mac_setFld ..
    · rfl
  unfold State.endCopy
  split
  · rfl
  · extract_lets
    split
    · split
      all_goals exact hfree _ _
    · exact hfree _ _

theorem Keeps.endCopy {s₀ s : State} {ks : List Part} {P Q : Nat → Prop} (h : Keeps ks P Q s₀ s) (hd : Part.dp ∈ ks) (hp : P (schB + 0x50)) :
    Keeps ks P Q s₀ (s.endCopy id held fate) := by
  have hfree (c : Prop) [Decidable c] (n : Nat) : Keeps ks P Q s₀ (if c then s.poolAdd n else s) := (h.setFld hp _ _ _).ite h
  unfold State.endCopy
  split
  · exact h
  · extract_lets
    split
    · split
      · exact ((hfree _ _).setDp hd _).setDp hd _
      · exact (hfree _ _).setDp hd _
    · exact (hfree _ _).setDp hd _
end

/-- The frame and its octets are counted and nothing is in transmission. -/
def State.txCounted (p : Nat) (n : TxNow) : State :=
  ((s.setMac p (fun m => { m with cur := none })).stat p 14 1).stat p 13 n.len

/-- The copy has finished too, and the frame boundary has passed. -/
def State.txBounded (p : Nat) (n : TxNow) : State :=
  ((s.txCounted p n).endCopy n.cp.f.id (!n.cp.deep) (.sent n.cap)).saBoundary p

theorem State.txEnd_of_over {p : Nat} {n : TxNow} (hcur : (s.mac p).cur = some n) (he : n.ends ≤ s.mono) :
    s.txEnd p = (s.txBounded p n).pauseFlush p := by
  unfold State.txEnd
  rw [hcur]
  exact if_pos (decide_eq_true he)

theorem State.txCounted_mac (p : Nat) (n : TxNow) :
    ((s.txCounted p n).endCopy n.cp.f.id (!n.cp.deep) (.sent n.cap)).mac p = { s.mac p with cur := none } := by
  rw [State.mac_endCopy, State.txCounted, State.mac_stat, State.mac_stat, State.mac_setMac]

theorem State.txBounded_mac (p : Nat) (n : TxNow) : ((s.txBounded p n).mac p).cur = none ∧
    ((s.txBounded p n).mac p).staged = (s.mac p).staged ∧ ((s.txBounded p n).mac p).saPend = none ∧
    ∀ v e, (s.mac p).saPend = some (v, e) → (s.txBounded p n).sa p (selKey v) = e.toNat := by
  obtain ⟨hpend, hcur, hstaged, -, -, hsa⟩ :=
    ((s.txCounted p n).endCopy n.cp.f.id (!n.cp.deep) (.sent n.cap)).saBoundary_mac p
  rw [State.txCounted_mac] at hcur hstaged hsa
  exact ⟨hcur, hstaged, hpend, hsa⟩

theorem Keeps.txCounted {s₀ s : State} {ks : List Part} {P Q : Nat → Prop} (h : Keeps ks P Q s₀ s) (hd : Part.dp ∈ ks) {p : Nat}
    (h1 : Q (macPort p + 0x268)) (h2 : Q (macPort p + 0x270)) (n : TxNow) : Keeps ks P Q s₀ (s.txCounted p n) :=
  ((h.setMac hd _ _).bump h2 1).bump h1 _

theorem Keeps.afterTx {s₀ s : State} {ks : List Part} {P Q : Nat → Prop} {p : Nat} {n : TxNow}
    (h : Keeps ks P Q s₀ (s.txCounted p n)) (hd : Part.dp ∈ ks)
    (hs : P (schB + 0x50)) (hp : ∀ a, macPort p + 0x50 ≤ a → a ≤ macPort p + 0x68 → P a) : Keeps ks P Q s₀ (s.txBounded p n) :=
  (Keeps.endCopy _ _ _ h hd hs).saBoundary hd hp

theorem State.txCounted_cnt (p : Nat) (n : TxNow) : (s.txCounted p n).cnt (macPort p + 0x270) = min top64 (s.cnt (macPort p + 0x270) + 1) ∧
    (s.txCounted p n).cnt (macPort p + 0x268) = min top64 (s.cnt (macPort p + 0x268) + n.len) := by
  constructor
  · rw [State.txCounted, State.stat, State.cnt_bump_ne _ _ (by omega)]
    exact State.cnt_stat_self _ p 14 1
  · refine (State.cnt_stat_self _ p 13 n.len).trans ?_
    rw [State.stat, State.cnt_bump_ne _ _ (by omega), State.setMac_cnt]

/-- The pause frames that waited leave: the queue is empty and only the time of the wire moves. -/
theorem State.pauseFlush_mac (p : Nat) : ∃ b, (s.pauseFlush p).mac p = { s.mac p with pauseQ := [], busyTo := b } := by
  refine List.foldlRecOn (motive := fun t : State => ∃ b, t.mac p = { s.mac p with pauseQ := [], busyTo := b }) _ _ ?_ fun t ht x _ => ?_
  · exact ⟨_, State.mac_setMac ..⟩
  · obtain ⟨b, hb⟩ := ht
    obtain ⟨b', hb'⟩ := t.pauseNow_mac p x.1 x.2
    exact ⟨b', by rw [hb', hb]⟩

theorem Keeps.pauseFlush {s₀ s : State} {ks : List Part} {P Q : Nat → Prop} (h : Keeps ks P Q s₀ s) (hd : Part.dp ∈ ks) (ho : Part.out ∈ ks)
    (hf : Part.free ∈ ks) {p : Nat} (hq : Q (macPort p + 0x278)) : Keeps ks P Q s₀ (s.pauseFlush p) :=
  (h.setMac hd _ _).foldl fun _ x _ hu => hu.pauseNow hd ho hf hq x.1 x.2

/-- A transmission that is over. -/
theorem State.txEnd_cnt (p : Nat) (n : TxNow) : ∀ a, a ≠ macPort p + 0x278 → ((s.txBounded p n).pauseFlush p).cnt a = (s.txCounted p n).cnt a := by
  have h1 : Keeps [.dp] (fun _ => True) noAddr (s.txCounted p n) (s.txBounded p n) :=
    Keeps.afterTx (Keeps.refl _ _ _ _) (by decide) trivial fun _ _ _ => trivial
  have h2 : Keeps [.dp, .out, .free] noAddr (oneOf [macPort p + 0x278]) (s.txBounded p n) ((s.txBounded p n).pauseFlush p) :=
    (Keeps.refl _ _ _ _).pauseFlush (by decide) (by decide) (by decide) (List.mem_singleton_self _)
  exact fun a ha => (h2.2.2 a fun h => ha (List.mem_singleton.1 h)).trans (h1.2.2 a id)

end Sys2Proof.Machine
end

section
open Sys2Proof Sys2Proof.Machine

/-- Settles O27: the pauses of a port, and a frame that starts and ends (`State.startTx_of_plain`, `State.txEnd_of_over`). -/
theorem pausesEndAndFramesAreSent : Obligations.PausesEndAndFramesAreSent := by
  refine ⟨?expire, ?watchdog, ?ignoreEnd, ?xoff, ?start, ?txEnd⟩
  case expire =>
    intro s p k h
    refine ⟨_, State.next_congr (if_pos h), ?_, ?_, (Keeps.refl _ _ _ s).unpause (by decide) (.head _) _⟩
    · rw [State.unpause_mac]
    · rw [State.unpause_mac]
  case watchdog =>
    intro s p k u e hw hmem hu ht he
    subst hu
    obtain ⟨hpaused, hignore⟩ := s.wdFired_mac p.val k.val
    refine ⟨_, State.next_congr (s.pauseWdFire_of_late hw hmem ht he), ?_, ?_, State.raise_raised _ _ _ (by decide), ?_,
      (s.keeps_wdFired _ _).raise _ _ _⟩
    · rw [State.mac_raise, hpaused]
    · rw [State.mac_raise, hignore]
    · rw [State.raise_cnt _ _ _ _ _ (offEvent_macPort p (by decide)).1, State.wdFired_cnt]
  case ignoreEnd =>
    intro s p k e hmem he
    refine ⟨_, State.next_congr (s.pauseIgnoreEnd_of_over hmem he), ?_, ?_, ((Keeps.refl _ _ _ s).setMac (by decide) _ _).fcStat (.head _)⟩
    · rw [State.mac_fcStat, State.mac_setMac]
    · rw [State.mac_fcStat, State.mac_setMac]
  case xoff =>
    intro s p k u hu ht hf hb
    have hcur : ((s.xoffMarked p.val k.val).mac p.val).cur = (s.mac p.val).cur := by rw [State.xoffMarked_mac]
    refine ⟨_, State.next_congr (s.xoffRepeat_of_due hu ht hf hb), ?_, fun hidle => ?_, fun hsending => ?_,
      ((Keeps.refl _ _ _ s).setMac (by decide) _ _).sendPause (by decide) (by decide) (by decide) (.head _) _ _⟩
    · rw [State.xoff_sendPause, State.xoffMarked_mac, mget_mins, if_pos rfl]
    · rw [State.sendPause_of_idle _ _ _ (hcur.trans hidle), State.pauseNow_out, State.pauseNow_cnt]
      exact ⟨rfl, rfl⟩
    · rw [State.sendPause_of_sending _ _ _ (hcur ▸ hsending), State.mac_setMac, State.xoffMarked_mac]
      exact ⟨rfl, rfl⟩
  case start =>
    intro s p c hup hcur hbusy hst hsec hptp hclear hrec
    have hend := (s.txStart_of_clear hup hcur hbusy hst hsec hclear).trans ((s.unstaged p.val c).startTx_of_plain hsec hptp hrec)
    refine ⟨_, (s.unstaged p.val c).txNow p.val c, State.next_congr hend, ?_, ?_, rfl, rfl, State.txNow_ends _ _ _, ?_, ?_⟩
    · rw [State.setMac_out, State.plainSent_out]
      rfl
    · rw [State.mac_setMac]
    · rw [State.mac_setMac, State.plainSent_mac, State.unstaged, State.mac_setMac]
    · exact ((((Keeps.refl _ _ _ s).setMac (by decide) _ _).txCapture (by decide) _).emit (by decide) _).calSample (by decide) _ _ |>.setMac
        (by decide) _ _
  case txEnd =>
    intro s p n hcur he
    obtain ⟨b, hmac⟩ := (s.txBounded p.val n).pauseFlush_mac p.val
    obtain ⟨hcur', hstaged, hpend, hsa⟩ := s.txBounded_mac p.val n
    obtain ⟨hframes, hoctets⟩ := s.txCounted_cnt p.val n
    refine ⟨_, State.next_congr (s.txEnd_of_over hcur he), ?_, ?_, ?_, ?_, fun v e hve => ?_, ?_, ?_, ?_⟩
    · rw [hmac, hcur']
    · rw [hmac, hstaged]
    · rw [hmac]
    · rw [hmac, hpend]
    · rw [← hsa v e hve, State.sa, hmac, State.sa]
    · rw [s.txEnd_cnt _ _ _ (by omega), hframes]
    · rw [s.txEnd_cnt _ _ _ (by omega), hoctets]
    · exact ((Keeps.refl _ _ _ s).txCounted (by decide) (.head _) (.tail _ (.head _)) n).afterTx (by decide) (.inl rfl)
        (fun a h1 h2 => .inr ⟨h1, h2⟩) |>.pauseFlush (by decide) (by decide) (by decide) (.tail _ (.tail _ (.head _)))
end

section
/-! SUPPORT. What follows when a copy is lost, or read from the deep buffer, or its bytes are released: the queues, and the counters of
the queues and MACs, stay. -/
namespace Sys2Proof.Machine

/-- A counter between the first MAC and the memory, beside two kinds whose port an operation on a copy leaves open: the pause frames that a
MAC sent (0x78 in its 128 bytes), and the copies beyond the horizon of proofing (0x20). -/
abbrev QueueCnt (a : Nat) : Prop := macB 0 ≤ a ∧ a < memB ∧ a % 0x80 ≠ 0x20 ∧ a % 0x80 ≠ 0x78

/-- From `s₀` to `s` the scheduler's own state and the pipelines stay, and so does each counter of a queue. -/
structure QueuesStay (s₀ s : State) : Prop where
  sch : s.dp.sch = s₀.dp.sch
  pipe : s.dp.pipe = s₀.dp.pipe
  cnt : ∀ a, QueueCnt a → s.cnt a = s₀.cnt a

/-- Counters below the MACs and those of the memory are no queue's. -/
theorem not_queueCnt {a : Nat} (h : a < macB 0 ∨ memB ≤ a) : ¬ QueueCnt a := by
  simp only [QueueCnt]
  omega

namespace QueuesStay
variable {s₀ s t : State}

theorem refl (s : State) : QueuesStay s s := ⟨rfl, rfl, fun _ _ => rfl⟩

theorem trans (h : QueuesStay s₀ s) (k : QueuesStay s t) : QueuesStay s₀ t :=
  ⟨k.sch.trans h.sch, k.pipe.trans h.pipe, fun a ha => (k.cnt a ha).trans (h.cnt a ha)⟩

/-- Every other part of the state may change. -/
theorem beside {pending regs act latch pregs tb mono free out straps tim tsu log fn tl sl boot tfn cip mem en rpl hp svc pw dbg quies}
    (hs : QueuesStay s₀ s) : QueuesStay s₀ { s with
      pending := pending, regs := regs, act := act, latch := latch, pregs := pregs, tb := tb, mono := mono, free := free
      out := out, straps := straps, tim := tim, tsu := tsu, log := log, fn := fn, tl := tl, sl := sl, boot := boot, tfn := tfn, cip := cip
      mem := mem, en := en, rpl := rpl, hp := hp, svc := svc, pw := pw, dbg := dbg, quies := quies } := ⟨hs.sch, hs.pipe, hs.cnt⟩

theorem ite {c : Prop} {_ : Decidable c} (hs : QueuesStay s₀ s) (ht : QueuesStay s₀ t) : QueuesStay s₀ (if c then s else t) := by
  split
  · exact hs
  · exact ht

theorem ite_snd {c : Prop} {_ : Decidable c} {α : Type} {x y : α × State} (hx : QueuesStay s₀ x.2) (hy : QueuesStay s₀ y.2) :
    QueuesStay s₀ (if c then x else y).2 := by
  split
  · exact hx
  · exact hy

theorem pair {α : Type} {x : α} (hs : QueuesStay s₀ s) : QueuesStay s₀ (x, s).2 := hs

theorem foldl {α : Type} {f : State → α → State} {l : List α} (hs : QueuesStay s₀ s) (step : ∀ t x, QueuesStay s₀ t → QueuesStay s₀ (f t x)) :
    QueuesStay s₀ (l.foldl f s) :=
  List.foldlRecOn (motive := QueuesStay s₀) l f hs fun t ht x _ => step t x ht

theorem foldl_snd {α β : Type} {f : β × State → α → β × State} {l : List α} {q : β × State} (hq : QueuesStay s₀ q.2)
    (step : ∀ r x, QueuesStay s₀ r.2 → QueuesStay s₀ (f r x).2) : QueuesStay s₀ (l.foldl f q).2 :=
  List.foldlRecOn (motive := fun r => QueuesStay s₀ r.2) l f hq fun r hr x _ => step r x hr

/-! ### Registers, counters, outputs, events -/

theorem wr {a v : Nat} (hs : QueuesStay s₀ s) : QueuesStay s₀ (s.wr a v) := hs.beside

theorem setFld {a hi lo v : Nat} (hs : QueuesStay s₀ s) : QueuesStay s₀ (s.setFld a hi lo v) := hs.wr

theorem setCnt {a v : Nat} (hs : QueuesStay s₀ s) (ha : ¬ QueueCnt a) : QueuesStay s₀ (s.setCnt a v) :=
  have hne (b : Nat) (hb : QueueCnt b) : b ≠ a := fun e => ha (Eq.subst (motive := QueueCnt) e hb)
  ⟨hs.sch, hs.pipe, fun b hb => ((State.cnt_setCnt s a v b).trans (if_neg (hne b hb))).trans (hs.cnt b hb)⟩

theorem bump {a n : Nat} (hs : QueuesStay s₀ s) (ha : ¬ QueueCnt a) : QueuesStay s₀ (s.bump a n) := hs.setCnt ha

theorem emit {o : Out} (hs : QueuesStay s₀ s) : QueuesStay s₀ (s.emit o) := hs.beside

theorem draw (hs : QueuesStay s₀ s) : QueuesStay s₀ s.draw.2 := hs.beside

theorem raiseAt {base c src : Nat} {y : Synd} (hs : QueuesStay s₀ s) : QueuesStay s₀ (s.raiseAt base c src y) := by
  have h := State.raiseAt_only s base c src y
  have hr := h.rest
  simp only [State.besides, Prod.mk.injEq] at hr
  obtain ⟨-, -, -, -, -, -, -, -, -, -, -, -, hdp, -⟩ := hr
  refine hs.trans ⟨congrArg DataSt.sch hdp, congrArg DataSt.pipe hdp, fun a ha => h.cnts a ?_⟩
  simp only [QueueCnt, inEvt, macB] at ha ⊢
  omega

theorem raise {base c src : Nat} (hs : QueuesStay s₀ s) : QueuesStay s₀ (s.raise base c src) := hs.raiseAt

/-! ### The memory -/

theorem memRefuse {q : MReq} {a : Nat} (hs : QueuesStay s₀ s) : QueuesStay s₀ (s.memRefuse q a) := (hs.bump (by decide)).raiseAt

theorem eccBad {a : Nat} {tag : Bool} (hs : QueuesStay s₀ s) : QueuesStay s₀ (s.eccBad a tag) :=
  (hs.bump (by cases tag <;> decide)).raiseAt

theorem eccCorr (hs : QueuesStay s₀ s) : QueuesStay s₀ s.eccCorr :=
  have h := hs.bump (a := mciB + 0x100) (n := 1) (by decide)
  h.raise.ite h

theorem chCnt {c n k : Nat} (hs : QueuesStay s₀ s) : QueuesStay s₀ (s.bump (memChCnt c n) k) :=
  hs.bump (not_queueCnt (.inr (by simp only [memChCnt, memCh]; omega)))

theorem putBytes {a : Nat} {bs : List Byte} (hs : QueuesStay s₀ s) : QueuesStay s₀ (s.putBytes a bs) := hs.beside

theorem initAdvance {a : Nat} (hs : QueuesStay s₀ s) : QueuesStay s₀ (s.initAdvance a) := by
  unfold State.initAdvance
  split
  · exact hs
  · exact ite hs.beside hs

theorem mciWrite {a : Nat} {bs : List Byte} (hs : QueuesStay s₀ s) : QueuesStay s₀ (s.mciWrite a bs) := by
  have hcnt {t : State} (ht : QueuesStay s₀ t) : QueuesStay s₀ (t.bump (mciB + 0x118) 1) := ht.bump (by decide)
  exact (hs.initAdvance.foldl fun _ _ ht => ht.putBytes.ite ((hcnt ht).putBytes.ite (hcnt ht).eccBad)).ite hs.initAdvance.putBytes

theorem memWrite {a : Nat} {bs : List Byte} (hs : QueuesStay s₀ s) : QueuesStay s₀ (s.memWrite a bs) := by
  unfold State.memWrite
  split
  · exact hs.chCnt
  · exact hs.mciWrite

theorem memBytes {a n : Nat} (hs : QueuesStay s₀ s) : QueuesStay s₀ (s.memBytes a n).2 := by
  refine hs.pair.foldl_snd fun r i hr => ?_
  split
  · exact hr
  · exact hr.draw

theorem mciRead {a n : Nat} {e : Ecc} (hs : QueuesStay s₀ s) : QueuesStay s₀ (s.mciRead a n e).2 := by
  unfold State.mciRead
  refine memBytes (foldl (hs.ite ?_) fun _ _ ht => ht.eccBad)
  cases e with
  | clean => exact hs
  | corrected => exact hs.eccCorr
  | uncorrectable => exact hs.eccBad
  | tagFail => exact hs.eccBad

theorem memRead {a n : Nat} {e : Ecc} (hs : QueuesStay s₀ s) : QueuesStay s₀ (s.memRead a n e).2 := by
  unfold State.memRead
  split
  · exact hs.chCnt.memBytes
  · exact hs.mciRead

theorem deepRead {q : MReq} {c : Copy} (hs : QueuesStay s₀ s) : QueuesStay s₀ (s.deepRead q c).2 :=
  hs.pair.ite_snd ((hs.foldl_snd (fun _ _ ht => ht.memRead.pair.ite_snd ht.memRefuse.pair)).pair)

/-! ### The Tail -/

theorem tailCnt {n k : Nat} (hs : QueuesStay s₀ s) (hn : n < 16) : QueuesStay s₀ (s.bump (tailCnt n) k) :=
  hs.bump (not_queueCnt (.inl (by simp only [Machine.tailCnt, tailB, macB]; omega)))

theorem setTl {f : TailSt → TailSt} (hs : QueuesStay s₀ s) : QueuesStay s₀ (s.setTl f) := hs.beside

theorem ringLevel (hs : QueuesStay s₀ s) : QueuesStay s₀ s.ringLevel := hs.wr.setTl.raise.ite hs.wr.setTl

theorem ringStore {i : Nat} {u : TUnit} (hs : QueuesStay s₀ s) : QueuesStay s₀ (s.ringStore i u) := hs.memWrite.ite hs.memRefuse

theorem toSink {r : RUnit} (hs : QueuesStay s₀ s) : QueuesStay s₀ (s.toSink r) :=
  ite (s := s.setSl fun t => { t with waiting := t.waiting ++ [r] }) hs.beside hs.setTl

theorem place {u : TUnit} (hs : QueuesStay s₀ s) : QueuesStay s₀ (s.place u) := (hs.toSink.ite hs.ringStore.setTl.ringLevel).ite hs.setTl

theorem closeLink (hs : QueuesStay s₀ s) : QueuesStay s₀ s.closeLink := hs.ite hs.setTl

theorem chainUnit {payload : Nat} (hs : QueuesStay s₀ s) : QueuesStay s₀ (s.chainUnit payload).2 := by
  have hidx {t : State} {v : Nat} (ht : QueuesStay s₀ t) : QueuesStay s₀ ((t.setCnt (tailB + 0x240) v).bump (Machine.tailCnt 0) 1) :=
    (ht.setCnt (by decide)).tailCnt (by decide)
  exact ((hidx hs.setTl).closeLink.ite (hidx hs.setTl)).pair

theorem chainGap (hs : QueuesStay s₀ s) : QueuesStay s₀ s.chainGap := by
  unfold State.chainGap
  split
  · exact hs
  · exact (hs.setTl.chainUnit.place.tailCnt (by decide)).raise

theorem cpRegs (hs : QueuesStay s₀ s) : QueuesStay s₀ s.cpRegs := hs.setFld.foldl fun _ _ ht => ht.wr

theorem takeCp {c : CpCause} (hs : QueuesStay s₀ s) : QueuesStay s₀ (s.takeCp c) := hs.chainGap.closeLink.setTl.cpRegs.raise

theorem joinCp {c : CpCause} (hs : QueuesStay s₀ s) : QueuesStay s₀ (s.joinCp c) := by
  unfold State.joinCp
  exact hs.closeLink.setTl.cpRegs

theorem cpTake {c : CpCause} (hs : QueuesStay s₀ s) : QueuesStay s₀ (s.cpTake c) := by
  unfold State.cpTake
  split
  · exact hs.joinCp
  · exact hs.takeCp.ite hs.setTl.raise

theorem chainTqUnit {q : TqRec} (hs : QueuesStay s₀ s) : QueuesStay s₀ (s.chainTqUnit q) := hs.chainUnit.place

theorem chainTq {q : TqRec} (hs : QueuesStay s₀ s) : QueuesStay s₀ (s.chainTq q) :=
  (hs.chainGap.chainTqUnit.takeCp.ite hs.chainTqUnit.cpTake).ite hs.chainTqUnit

theorem flushTq (hs : QueuesStay s₀ s) : QueuesStay s₀ s.flushTq := by
  unfold State.flushTq
  split
  · exact hs
  · exact hs.setTl.chainTq.ite hs

theorem addGap {cause rclass : Nat} {ts : Instant} (hs : QueuesStay s₀ s) : QueuesStay s₀ (s.addGap cause rclass ts) := hs.setTl.tailCnt (by decide)

theorem commitUnit {payload rclass : Nat} {ts : Instant} (hs : QueuesStay s₀ s) : QueuesStay s₀ (s.commitUnit payload rclass ts).2 :=
  hs.flushTq.addGap.pair.ite_snd hs.flushTq.chainGap.chainUnit.place.pair

/-! ### Copies and groups -/

/-- The data path beside the scheduler and the pipelines. -/
theorem setDp {g : DataSt → DataSt} (hs : QueuesStay s₀ s) (hsch : (g s.dp).sch = s.dp.sch) (hpipe : (g s.dp).pipe = s.dp.pipe) :
    QueuesStay s₀ (s.setDp g) := ⟨hsch.trans hs.sch, hpipe.trans hs.pipe, hs.cnt⟩

theorem setPrf {g : PrfSt → PrfSt} (hs : QueuesStay s₀ s) : QueuesStay s₀ (s.setPrf g) := hs.setDp rfl rfl

theorem setMac {p : Nat} {g : MacSt → MacSt} (hs : QueuesStay s₀ s) : QueuesStay s₀ (s.setMac p g) := hs.setDp rfl rfl

theorem setLive {id : Nat} {l : Option Live} (hs : QueuesStay s₀ s) : QueuesStay s₀ (s.setLive id l) := hs.setDp rfl rfl

theorem endCopy {id : Nat} {held : Bool} {fate : Fate} (hs : QueuesStay s₀ s) : QueuesStay s₀ (s.endCopy id held fate) := by
  unfold State.endCopy
  split
  · exact hs
  · have hlive {l : Option Live} {c : Prop} {_ : Decidable c} {n : Nat} : QueuesStay s₀ ((if c then s.poolAdd n else s).setLive id l) :=
      (ite (s := s.poolAdd n) hs.setFld hs).setLive
    refine ite ?_ hlive
    dsimp only
    split
    · exact hlive.setDp rfl rfl
    · exact hlive

theorem missRecord {p : Nat} {c : Copy} (hs : QueuesStay s₀ s) : QueuesStay s₀ (s.missRecord p c) := by
  unfold State.missRecord
  split
  · exact hs
  · exact hs.commitUnit

theorem setHeld {p : Nat} {l : List Held} (hs : QueuesStay s₀ s) : QueuesStay s₀ (s.setHeld p l) := hs.setPrf.setFld.setFld

/-- The counter of what lies beyond the horizon, whatever the port. -/
theorem horizonDrop {c : Copy} (hs : QueuesStay s₀ s) : QueuesStay s₀ (s.horizonDrop c) := by
  have hcnt : ¬ QueueCnt (prfCnt (c.vport / 4) 4) := by
    simp only [QueueCnt, prfCnt, prfB]
    omega
  unfold State.horizonDrop
  exact (hs.bump hcnt).raise.missRecord.endCopy

theorem setGroup {x : Group} (hs : QueuesStay s₀ s) : QueuesStay s₀ (s.setGroup x) := hs.setPrf

theorem dropGroup {g : Nat} (hs : QueuesStay s₀ s) : QueuesStay s₀ (s.dropGroup g) := hs.setPrf.setFld

theorem fixGroup {x : Group} {r : Instant} (hs : QueuesStay s₀ s) : QueuesStay s₀ (s.fixGroup x r) := by
  unfold State.fixGroup
  extract_lets mine l far each s₁ s₂
  have h₁ : QueuesStay s₀ s₁ := hs.foldl fun _ _ ht => ht.setHeld.ite ht
  have h₂ : QueuesStay s₀ s₂ := h₁.foldl fun _ _ ht => ht.horizonDrop
  clear_value s₁ s₂
  exact h₁.setGroup.ite (h₂.dropGroup.ite h₂.setGroup)

theorem loseCopy {c : Copy} (hs : QueuesStay s₀ s) : QueuesStay s₀ (s.loseCopy c) := by
  unfold State.loseCopy State.lostCopy
  split
  · exact hs.endCopy
  · exact (hs.dropGroup.ite (hs.setGroup.fixGroup.ite hs.setGroup)).endCopy

theorem dropFlag {p q : Nat} (hs : QueuesStay s₀ s) : QueuesStay s₀ (s.dropFlag p q) := hs.ite hs.setFld.raise

/-! ### Bytes released against XOFF -/

theorem pauseNow {p k quanta : Nat} (hs : QueuesStay s₀ s) : QueuesStay s₀ (s.pauseNow p k quanta) := by
  have hcnt : ¬ QueueCnt (macPort p + 0x278) := by
    simp only [QueueCnt, macPort, macB]
    omega
  rw [State.pauseNow_eq]
  exact (ite (hs.emit.bump hcnt).draw.setPrf (hs.emit.bump hcnt).draw).setMac

theorem sendPause {p k quanta : Nat} (hs : QueuesStay s₀ s) : QueuesStay s₀ (s.sendPause p k quanta) := hs.setMac.ite hs.pauseNow

theorem fcRelease {c : Copy} (hs : QueuesStay s₀ s) : QueuesStay s₀ (s.fcRelease c) := by
  have hcheck {t : State} (ht : QueuesStay s₀ t) (p pri : Nat) : QueuesStay s₀ (t.fcCheck p pri) :=
    (ht.setMac.sendPause.ite ht.setMac).ite (ht.setMac.sendPause.ite ht)
  unfold State.fcRelease
  split
  · exact hs
  · exact hcheck hs.setMac _ _

end QueuesStay
end Sys2Proof.Machine
end

section
/-! The queues of a port (R113, R221, R223, R225, R230): what taking a copy out changes. -/
namespace Sys2Proof.Machine

/-! ### The queues after an update -/

theorem State.pq_setPq (s : State) (p q : Nat) (g : QSt → QSt) (i j : Nat) :
    (s.setPq p q g).pq i j = if 32 * i + j = 32 * p + q then g (s.pq p q) else s.pq i j := mget_mput _ _ _ _ _

theorem State.pq_setPq_self (s : State) (p q : Nat) (g : QSt → QSt) : (s.setPq p q g).pq p q = g (s.pq p q) :=
  (s.pq_setPq p q g p q).trans (if_pos rfl)

theorem State.pq_congr {s t : State} (h : t.dp.sch = s.dp.sch) (p q : Nat) : t.pq p q = s.pq p q := by rw [State.pq, State.pq, h]

/-- Credit, deficit and what FIT notes may differ; the copies do not, and nothing beside the scheduler. -/
structure Tuned (s t : State) : Prop where
  sch : ∃ g, t = s.setSch g
  copies : ∀ p q, (t.pq p q).copies = (s.pq p q).copies

namespace Tuned
variable {s t : State}

theorem refl (s : State) : Tuned s s := ⟨⟨id, rfl⟩, fun _ _ => rfl⟩

theorem rd (h : Tuned s t) (a : Nat) : t.rd a = s.rd a := by
  obtain ⟨⟨g, rfl⟩, -⟩ := h
  rfl

theorem cnt (h : Tuned s t) (a : Nat) : t.cnt a = s.cnt a := by
  obtain ⟨⟨g, rfl⟩, -⟩ := h
  rfl

theorem pipe (h : Tuned s t) : t.dp.pipe = s.dp.pipe := by
  obtain ⟨⟨g, rfl⟩, -⟩ := h
  rfl

theorem setSch (h : Tuned s t) {g : SchSt → SchSt} (hg : (g t.dp.sch).q = t.dp.sch.q) : Tuned s (t.setSch g) := by
  obtain ⟨⟨g', rfl⟩, hc⟩ := h
  refine ⟨⟨fun d => g (g' d), rfl⟩, fun p q => ?_⟩
  rw [← hc p q]
  exact congrArg (fun m => (mget (fun _ => {}) m (32 * p + q) : QSt).copies) hg

theorem setPq (h : Tuned s t) {p q : Nat} {g : QSt → QSt} (hg : (g (t.pq p q)).copies = (t.pq p q).copies) : Tuned s (t.setPq p q g) := by
  refine ⟨?_, fun i j => ?_⟩
  · obtain ⟨⟨g', rfl⟩, -⟩ := h
    exact ⟨fun d => { g' d with q := mput (fun _ => {}) (g' d).q (32 * p + q) (g ((s.setSch g').pq p q)) }, rfl⟩
  · rw [← h.copies, State.pq_setPq]
    split
    · next he => rw [hg, State.pq, State.pq, he]
    · rfl

theorem ite {c : Prop} {_ : Decidable c} {u : State} (h : Tuned s t) (k : Tuned s u) : Tuned s (if c then t else u) := by
  split
  · exact h
  · exact k

theorem settleCredit (h : Tuned s t) (p q : Nat) : Tuned s (t.settleCredit p q) := h.ite ((h.ite (h.setPq rfl)).ite (h.setPq rfl))

theorem settlePort (h : Tuned s t) (p : Nat) : Tuned s (t.settlePort p) :=
  List.foldlRecOn (motive := Tuned s) _ _ h fun _ hu q _ => hu.settleCredit p q

theorem chargeShaper (h : Tuned s t) (p q n : Nat) : Tuned s (t.chargeShaper p q n) := h.ite (h.setPq rfl)

theorem noteFit (h : Tuned s t) (p : Nat) : Tuned s (t.noteFit p) := by
  unfold State.noteFit
  refine List.foldlRecOn (motive := Tuned s) _ _ h fun u hu q _ => ?_
  split
  · exact hu
  · exact hu.ite ((hu.setPq rfl).ite (hu.setPq rfl))

end Tuned

variable (s : State)

theorem State.setPipe_sch (n : Nat) (g : PipeSt → PipeSt) : (s.setPipe n g).dp.sch = s.dp.sch := rfl

/-! ### A copy is taken out -/

section
variable (p q i : Nat) (c : Copy)

/-- The copy at place i is out of its queue. -/
def State.erased : State :=
  (s.settleCredit p q).setPq p q (fun x => { x with copies := x.copies.eraseIdx i, fitAt := if i = 0 then none else x.fitAt })

/-- Its cells are free or SPILLED follows. -/
def State.uncelled : State := if c.deep then s.spillFlag p q else s.setFld (schQ p q + 0x18) 17 0 (s.fld (schQ p q + 0x18) 17 0 - c.cells)

/-- A queue that is empty leaves the active list. -/
def State.rested : State :=
  if (s.pq p q).copies.isEmpty then (s.leaveList p q false).setPq p q (fun x => { x with deficit := 0, credit := min 0 x.credit }) else s

theorem State.takeCopy_eq : s.takeCopy p q i c = (((s.erased p q i).uncelled p q c).rested p q).fcRelease c := rfl

theorem State.erased_copies : ((s.erased p q i).pq p q).copies = (s.pq p q).copies.eraseIdx i := by
  rw [State.erased, State.pq_setPq_self, ((Tuned.refl s).settleCredit p q).copies]

/-- Only the word of the queue's cells is written. -/
theorem State.uncelled_cases : s.uncelled p q c = s ∨ ∃ v, s.uncelled p q c = s.wr (schQ p q + 0x18) v := by
  unfold State.uncelled State.spillFlag
  split
  · split
    · exact .inl rfl
    · exact .inr ⟨_, rfl⟩
  · exact .inr ⟨_, rfl⟩

theorem Tuned.rested : Tuned s (s.rested p q) := ((Tuned.refl s).setSch rfl |>.setPq rfl).ite (Tuned.refl s)

/-- The copy is gone and its cells with it; its bytes still count against XOFF. -/
def State.removed : State := ((s.erased p q i).uncelled p q c).rested p q

theorem State.removed_ends : ((s.removed p q i c).pq p q).copies = (s.pq p q).copies.eraseIdx i ∧
    (s.removed p q i c).dp.pipe = s.dp.pipe ∧ (∀ a, (s.removed p q i c).cnt a = s.cnt a) ∧
    ∀ a, a ≠ schQ p q + 0x18 → (s.removed p q i c).rd a = s.rd a := by
  have hrest := Tuned.rested ((s.erased p q i).uncelled p q c) p q
  have hsettle := (Tuned.refl s).settleCredit p q
  rw [State.removed, hrest.copies, hrest.pipe, ← s.erased_copies p q i]
  have herased : (s.erased p q i).dp.pipe = s.dp.pipe ∧ (∀ a, (s.erased p q i).cnt a = s.cnt a) ∧ ∀ a, (s.erased p q i).rd a = s.rd a :=
    ⟨hsettle.pipe, hsettle.cnt, hsettle.rd⟩
  obtain ⟨hpipe, hcnt, hrd⟩ := herased
  obtain h | ⟨v, h⟩ := (s.erased p q i).uncelled_cases p q c
  · exact ⟨by rw [h], by rw [h, hpipe], fun a => by rw [hrest.cnt, h, hcnt], fun a _ => by rw [hrest.rd, h, hrd]⟩
  · refine ⟨by rw [h, State.pq_congr (congrArg DataSt.sch (State.wr_dp ..))], by rw [h, State.wr_dp, hpipe], fun a => ?_, fun a ha => ?_⟩
    · rw [hrest.cnt, h, State.wr_cnt, hcnt]
    · rw [hrest.rd, h, State.rd_wr_ne _ _ _ _ ha, hrd]

theorem State.fcRelease_rd (a : Nat) : (s.fcRelease c).rd a = s.rd a := by
  unfold State.fcRelease
  split
  · rfl
  · exact (((Keeps.refl [.dp, .out, .free] noAddr (fun _ => True) s).setMac (by decide) _ _).fcCheck (by decide) (by decide) (by decide) trivial _).2.1
      a id

/-- A copy is taken out of its queue: the others keep their order. -/
theorem State.takeCopy_copies : ((s.takeCopy p q i c).pq p q).copies = (s.pq p q).copies.eraseIdx i := by
  rw [State.takeCopy_eq, State.pq_congr ((QueuesStay.refl _).fcRelease).sch]
  exact (s.removed_ends p q i c).1

theorem State.takeCopy_pipe : (s.takeCopy p q i c).dp.pipe = s.dp.pipe := by
  rw [State.takeCopy_eq, ((QueuesStay.refl _).fcRelease).pipe]
  exact (s.removed_ends p q i c).2.1

theorem State.takeCopy_cnt {a : Nat} (ha : QueueCnt a) : (s.takeCopy p q i c).cnt a = s.cnt a := by
  rw [State.takeCopy_eq, ((QueuesStay.refl _).fcRelease).cnt a ha]
  exact (s.removed_ends p q i c).2.2.1 a

theorem State.takeCopy_rd {a : Nat} (ha : a ≠ schQ p q + 0x18) : (s.takeCopy p q i c).rd a = s.rd a := by
  rw [State.takeCopy_eq, State.fcRelease_rd]
  exact (s.removed_ends p q i c).2.2.2 a ha
end

/-! ### Counters -/

theorem queueCnt_schQCnt (p : Fin 16) {q n : Nat} (hq : q < 32) (hn : n = 1 ∨ n = 2 ∨ n = 7 ∨ n = 8 ∨ n = 9) : QueueCnt (schQCnt p.val q n) := by
  simp only [QueueCnt, schQCnt, schB, macB, memB]
  omega

theorem queueCnt_stat (p : Fin 16) : QueueCnt (macPort p.val + 0x288) := by
  simp only [QueueCnt, macPort, macB, memB]
  omega

/-! ### A head is discarded -/

/-- A copy leaves its queue, is counted by queue counter n, flagged and lost. -/
def State.discarded (p q i n : Nat) (c d : Copy) : State := (((s.takeCopy p q i c).bump (schQCnt p q n) 1).dropFlag p q).loseCopy d

theorem State.discarded_ends (p : Fin 16) {q n : Nat} (i : Nat) (c d : Copy) (hq : q < 32) (hn : n = 1 ∨ n = 2 ∨ n = 7 ∨ n = 8 ∨ n = 9) :
    ((s.discarded p.val q i n c d).pq p.val q).copies = (s.pq p.val q).copies.eraseIdx i ∧
    (s.discarded p.val q i n c d).cnt (schQCnt p.val q n) = min top64 (s.cnt (schQCnt p.val q n) + 1) := by
  have hstay := ((QueuesStay.refl ((s.takeCopy p.val q i c).bump (schQCnt p.val q n) 1)).dropFlag (p := p.val) (q := q)).loseCopy (c := d)
  constructor
  · rw [State.discarded, State.pq_congr hstay.sch, ← s.takeCopy_copies p.val q i c]
    exact congrArg QSt.copies (State.pq_congr (congrArg DataSt.sch (State.bump_dp ..)) _ _)
  · rw [State.discarded, hstay.cnt _ (queueCnt_schQCnt p hq hn), State.cnt_bump_self, s.takeCopy_cnt _ _ _ _ (queueCnt_schQCnt p hq hn)]

end Sys2Proof.Machine
end

section
/-! The scheduler serves a port, flushes it, refills from the deep buffer and discards what FIT held back (R113, R221, R223, R230). -/
namespace Sys2Proof.Machine

variable (s : State)

/-! ### Strict priority (R223) -/

/-- A copy of queue q leaves for the egress pipeline and is counted. -/
def State.served (p q : Nat) (c : Copy) : State :=
  ((s.takeCopy p q 0 c).bump (schQCnt p q 1) 1).bump (schQCnt p q 2) c.f.len

theorem State.dequeue_of_head {p q : Nat} {c : Copy} {r : List Copy} (h : (s.pq p q).copies = c :: r) : ∃ u, Tuned s u ∧
    s.dequeue p q = (u.served p q c).setPipe (p / 4) (fun x => { x with egress := x.egress ++ [{ c with erse := (u.served p q c).erse (p / 4) }] }) := by
  refine ⟨_, ((Tuned.refl s).settleCredit p q).chargeShaper p q (c.f.charged + s.overhead p), ?_⟩
  unfold State.dequeue State.served
  rw [h]

/-- The port serves its first eligible strict-priority queue. -/
theorem State.schDequeue_of_sp {p q : Nat} (hr : s.running schB = true) (hup : s.linkIsUp p = true) (hq : s.quadServes (p / 4) = true)
    (ht : s.canTake p = true)
    (hf : ((List.range 32).filter (((s.settlePort p).noteFit p).eligible p)).find? (fun q => decide (q < s.spCount p)) = some q) :
    s.schDequeue p = ((s.settlePort p).noteFit p).dequeue p q := by
  have hsp : ((s.settlePort p).noteFit p).spCount p = s.spCount p := by
    rw [State.spCount, State.fld, (((Tuned.refl s).settlePort p).noteFit p).rd, ← State.fld, State.spCount]
  unfold State.schDequeue
  rw [if_neg (by simp [hr]), if_neg (by simp [hup]), if_neg (by simp [hq, ht])]
  rw [← hsp] at hf
  unfold State.settlePort at hf ⊢
  simp only [hf]

theorem State.served_dp (p q : Nat) (c : Copy) : (s.served p q c).dp = (s.takeCopy p q 0 c).dp := by
  rw [State.served, State.bump_dp, State.bump_dp]

theorem State.served_copies (p q : Nat) (c : Copy) : ((s.served p q c).pq p q).copies = (s.pq p q).copies.tail := by
  rw [State.pq_congr (congrArg DataSt.sch (s.served_dp p q c)), State.takeCopy_copies, List.eraseIdx_zero]

theorem State.served_pipe (p q : Nat) (c : Copy) (n : Nat) : (s.served p q c).pipe n = s.pipe n := by
  rw [State.pipe, State.served_dp, State.takeCopy_pipe, ← State.pipe]

theorem State.served_erse (p q : Nat) (c : Copy) (n : Nat) : (s.served p q c).erse n = s.erse n := by
  have hne : matB n + 0x48 ≠ schQ p q + 0x18 := by
    simp only [matB, schQ, schB]
    omega
  rw [State.erse, State.fld, State.served, State.bump_rd, State.bump_rd, State.takeCopy_rd _ _ _ _ _ hne, ← State.fld, ← State.erse]

theorem State.served_cnt (p : Fin 16) {q : Nat} (hq : q < 32) (c : Copy) :
    (s.served p.val q c).cnt (schQCnt p.val q 1) = min top64 (s.cnt (schQCnt p.val q 1) + 1) ∧
    (s.served p.val q c).cnt (schQCnt p.val q 2) = min top64 (s.cnt (schQCnt p.val q 2) + c.f.len) := by
  have h1 := s.takeCopy_cnt p.val q 0 c (queueCnt_schQCnt p hq (n := 1) (.inl rfl))
  have h2 := s.takeCopy_cnt p.val q 0 c (queueCnt_schQCnt p hq (n := 2) (.inr (.inl rfl)))
  have hne : schQCnt p.val q 1 ≠ schQCnt p.val q 2 := by
    simp only [schQCnt]
    omega
  constructor
  · rw [State.served, State.cnt_bump_ne _ _ hne, State.cnt_bump_self, h1]
  · rw [State.served, State.cnt_bump, if_pos rfl, State.cnt_bump_ne _ _ hne.symm, h2, satAdd]

/-! ### Link down (R113) -/

/-- The head is discarded because the link is down. -/
def State.flushed (p q : Nat) (c : Copy) : State :=
  ((((s.takeCopy p q 0 c).bump (schQCnt p q 7) 1).dropFlag p q).stat p 17 1).loseCopy c

theorem State.schDequeue_of_down {p q : Nat} {c : Copy} {r : List Copy} (hr : s.running schB = true) (hdown : s.linkIsUp p = false)
    (hf : (List.range 32).find? (fun q => !(s.pq p q).copies.isEmpty) = some q) (hc : (s.pq p q).copies = c :: r) :
    s.schDequeue p = s.flushed p q c := by
  unfold State.schDequeue
  rw [if_neg (by simp [hr]), if_pos (by simp [hdown]), hf]
  dsimp only
  unfold State.flushHead
  rw [hc]
  rfl

theorem State.flushed_ends (p : Fin 16) {q : Nat} (hq : q < 32) (c : Copy) :
    ((s.flushed p.val q c).pq p.val q).copies = (s.pq p.val q).copies.tail ∧
    (s.flushed p.val q c).cnt (schQCnt p.val q 7) = min top64 (s.cnt (schQCnt p.val q 7) + 1) ∧
    (s.flushed p.val q c).cnt (macPort p.val + 0x288) = min top64 (s.cnt (macPort p.val + 0x288) + 1) := by
  have h7 := queueCnt_schQCnt p hq (n := 7) (.inr (.inr (.inl rfl)))
  have hm := queueCnt_stat p
  have hne : schQCnt p.val q 7 ≠ macPort p.val + 0x288 := by
    simp only [schQCnt, schB, macPort, macB]
    omega
  have hdrop := (QueuesStay.refl ((s.takeCopy p.val q 0 c).bump (schQCnt p.val q 7) 1)).dropFlag (p := p.val) (q := q)
  have hlose := (QueuesStay.refl ((((s.takeCopy p.val q 0 c).bump (schQCnt p.val q 7) 1).dropFlag p.val q).stat p.val 17 1)).loseCopy (c := c)
  refine ⟨?_, ?_, ?_⟩
  · rw [State.flushed, State.pq_congr hlose.sch, State.stat, State.pq_congr (congrArg DataSt.sch (State.bump_dp ..)), State.pq_congr hdrop.sch,
      State.pq_congr (congrArg DataSt.sch (State.bump_dp ..)), State.takeCopy_copies, List.eraseIdx_zero]
  · rw [State.flushed, hlose.cnt _ h7, State.stat, State.cnt_bump_ne _ _ hne, hdrop.cnt _ h7, State.cnt_bump_self, State.takeCopy_cnt _ _ _ _ _ h7]
  · rw [State.flushed, hlose.cnt _ hm]
    refine (State.cnt_stat_self _ p.val 17 1).trans ?_
    rw [hdrop.cnt _ hm, State.cnt_bump_ne _ _ hne.symm, State.takeCopy_cnt _ _ _ _ _ hm]

/-! ### The deep buffer (R221) -/

section
variable {s} {p q i : Nat} {c : Copy} (hi : (s.pq p q).copies.findIdx? (fun c => c.deep && !c.win) = some i)
  (hc : (s.pq p q).copies[i]? = some c) (hr : s.running schB = true) (hs : s.deepServes c = true)
  (hfit : ((List.range 32).map (fun k => (((s.pq p k).copies.filter (·.win)).map (·.cells)).sum)).sum + c.cells ≤ 512)
include hi hc hr hs hfit

/-- A copy as it stands in the window. -/
def Copy.inWindow (c d : Copy) : Copy := { d with win := true, at_ := if c.proofs then c.at_ else [] }

theorem State.deepRefill_of_fit (bad : Bool) : s.deepRefill p q bad =
    if bad || (s.deepRead .refill c).1.2 then (s.deepRead .refill c).2.discarded p q i 9 c { c with at_ := [] }
    else ((s.deepRead .refill c).2.setPq p q (fun x => { x with copies := x.copies.set i (c.inWindow (s.deepRead .refill c).1.1) })).spillFlag p q := by
  have hgo : (decide (512 < ((List.range 32).map (fun k => (((s.pq p k).copies.filter (·.win)).map (·.cells)).sum)).sum + c.cells) ||
      !s.running schB || !s.deepServes c) = false := by
    rw [hr, hs, decide_eq_false (Nat.not_lt.2 hfit)]
    rfl
  unfold State.deepRefill
  simp only [hi, hc, hgo, Bool.false_eq_true, if_false, State.discarded, Copy.inWindow]
end

/-- SPILLED is a bit of a queue's register: the queues themselves stay. -/
theorem State.pq_spillFlag (p q i j : Nat) : (s.spillFlag p q).pq i j = s.pq i j := by
  unfold State.spillFlag
  split
  · rfl
  · rw [State.pq, State.setFld, State.wr_dp, State.pq]

/-! ### FIT (R230) -/

theorem State.fitDiscard_of_held {p q u : Nat} {c : Copy} {r : List Copy} {b : OrbBank} (hc : (s.pq p q).copies = c :: r)
    (hu : (s.pq p q).fitAt = some u) (hb : s.orbRun p = some b) (ht : max u (s.orb p).since + b.cycle ≤ s.mono)
    (hf : s.flag (orbA p) 30 = true) (hh : s.fitHolds p q c = true ∨ (s.gatesAt p s.tb).testBit q = false) :
    s.fitDiscard p q = s.discarded p q 0 8 c c := by
  have hok : (s.past (max u (s.orb p).since + b.cycle) && s.flag (orbA p) 30 && (s.fitHolds p q c || !(s.gatesAt p s.tb).testBit q)) = true := by
    rw [State.past, decide_eq_true ht, hf]
    simpa using hh
  unfold State.fitDiscard
  simp only [hc, hu, hb]
  exact if_pos hok

end Sys2Proof.Machine
end

section
open Sys2Proof Sys2Proof.Machine

/-- Settles O36: a copy that leaves its queue takes its cells and its bytes with it and nothing else of the queues (`State.takeCopy_copies`,
`QueuesStay.loseCopy`). -/
theorem queuesAreServed : Obligations.QueuesAreServed := by
  refine ⟨?serve, ?flush, ?stopped, ?refill, ?fit⟩
  case serve =>
    intro s p q c r hr hup hquad htake hq hf hc
    have htune := ((Tuned.refl s).settlePort p.val).noteFit p.val
    obtain ⟨u, hu, hdeq⟩ := State.dequeue_of_head _ ((htune.copies p.val q).trans hc)
    have hcopies : (u.pq p.val q).copies = c :: r := (hu.copies p.val q).trans ((htune.copies p.val q).trans hc)
    have hrd (a : Nat) : u.rd a = s.rd a := (hu.rd a).trans (htune.rd a)
    have hcnt (a : Nat) : u.cnt a = s.cnt a := (hu.cnt a).trans (htune.cnt a)
    have hpipe : u.pipe (p.val / 4) = s.pipe (p.val / 4) := by rw [State.pipe, hu.pipe, htune.pipe, State.pipe]
    have herse : u.erse (p.val / 4) = s.erse (p.val / 4) := by rw [State.erse, State.fld, hrd, State.erse, State.fld]
    obtain ⟨h1, h2⟩ := u.served_cnt p hq c
    refine ⟨_, State.next_congr ((s.schDequeue_of_sp hr hup hquad htake hf).trans hdeq), ?_, ?_, ?_, ?_⟩
    · rw [State.pq_congr (State.setPipe_sch ..), State.served_copies, hcopies, List.tail_cons]
    · rw [State.pipe_setPipe, State.served_pipe, hpipe, State.served_erse, herse]
    · rw [← hcnt, ← h1, State.setPipe, State.setDp_cnt]
    · rw [← hcnt, ← h2, State.setPipe, State.setDp_cnt]
  case flush =>
    intro s p q c r hr hdown hf hc
    have hq : q < 32 := List.mem_range.1 (List.mem_of_find?_eq_some hf)
    obtain ⟨hcopies, hcounts⟩ := s.flushed_ends p hq c
    exact ⟨_, State.next_congr (s.schDequeue_of_down hr hdown hf hc), by rw [hcopies, hc, List.tail_cons], hcounts⟩
  case stopped =>
    intro s p hr
    exact State.next_congr (if_pos (by rw [hr]; rfl))
  case refill =>
    intro s p q bad i c hi hc hr hs hfit
    have hend := State.deepRefill_of_fit hi hc hr hs hfit bad
    have hread := (QueuesStay.refl s).deepRead (q := .refill) (c := c)
    split
    · next hbad =>
      obtain ⟨hcopies, hcnt⟩ := (s.deepRead .refill c).2.discarded_ends p i c { c with at_ := [] } q.isLt (n := 9) (by decide)
      rw [if_pos hbad] at hend
      refine ⟨_, State.next_congr hend, ?_, ?_⟩
      · rw [hcopies, State.pq_congr hread.sch]
      · rw [hcnt, hread.cnt _ (queueCnt_schQCnt p q.isLt (by decide))]
    · next hgood =>
      rw [if_neg hgood] at hend
      refine ⟨_, State.next_congr hend, ?_⟩
      rw [State.pq_spillFlag, State.pq_setPq_self, State.pq_congr hread.sch]
      rfl
  case fit =>
    intro s p q c r u b hc hu hb ht hf hh
    obtain ⟨hcopies, hcnt⟩ := s.discarded_ends p 0 c c q.isLt (n := 8) (by decide)
    exact ⟨_, State.next_congr (s.fitDiscard_of_held hc hu hb ht hf hh), by rw [hcopies, hc]; rfl, hcnt⟩
end
